-- ==== Sys2Proof/Word.lean ====
section
/-! DEFINITION. The machine's words: a register and an address are 32 bits, a memory cell 8. -/

namespace Sys2Proof

/-- A 32-bit register or memory word (R31). -/
abbrev Word := BitVec 32

/-- One byte of memory or of a frame. -/
abbrev Byte := BitVec 8

end Sys2Proof
end

