-- ==== Sys2Proof/Syntax.lean ====
section
/-! DEFINITION. The commands of the KV4811: the rows of spec/opcode_table.json, one constructor each, and the types of
their operands. An operand carries what the step takes from outside the block: the access path and words of an access,
the fields of a frame, what the pins and the analogue parts deliver at that instant (DESIGN CHOICE, log entry 2). -/

namespace Sys2Proof

/-- The senders of register orders (R290). `yrap` and the vendor commands of an FSK master name their session, 0 for
none; `fskU` are the universal writes of an FSK master, `secondary` telling which one. -/
inductive Path where
  | keys
  | spi
  | yrap (sid : Nat)
  | fsk (secondary : Bool) (sid : Nat)
  | fskU (secondary : Bool)
  deriving DecidableEq, Repr

/-- What an Announce says of the clock it stands for (R261). -/
structure Announce where
  sender : Nat
  gmId : Nat
  p1 : Nat
  gmClass : Nat
  accuracy : Nat
  variance : Nat
  p2 : Nat
  steps : Nat
  utcOffset : Nat
  deriving DecidableEq, Repr

/-- A PTP message as received. A Sync and a Follow_Up carry the origin time `t1` and the Sync its receive timestamp `t2` at the PHY, in ns, and what the
servo measures for the tick: the phase error in ns and the frequency correction in 0.001 ppm (DEDUCED, log entry 22). A peer delay request carries its receive
timestamp `t2`; a peer delay response, with its Follow_Up, carries the timestamps `t1` of the request at the PHY and `t4` of its own receipt, and the time `turn` that the neighbour
took, in ns. -/
inductive PtpMsg where
  | sync (sender seq : Nat) (twoStep : Bool) (t1 t2 phase freq : Int)
  | followUp (sender seq : Nat) (t1 : Int)
  | announce (a : Announce)
  | pdelayReq (t2 : Int)
  | pdelayResp (t1 t4 turn : Int)
  /-- Delay_Req or Delay_Resp. -/
  | endToEnd
  /-- Management, signalling and every other message. -/
  | other
  deriving DecidableEq, Repr

/-- What a received frame carries. Addresses are numbers. -/
inductive Payload where
  | ptp (domain : Nat) (m : PtpMsg)
  | udp (v6 : Bool) (srcIp dstIp srcPort dstPort : Nat) (data : List Byte)
  | echo (v6 : Bool) (srcIp dstIp : Nat) (data : List Byte)
  | arpRequest (sender target : Nat)
  | neighbourSol (sender target : Nat)
  /-- A neighbour advertisement and an ARP reply: an address, and the MAC address that goes with it. -/
  | neighbourAdv (ip mac : Nat)
  | arpReply (ip mac : Nat)
  /-- Any other content of an accepted EtherType: unsupported. -/
  | other
  deriving DecidableEq, Repr

/-- A received Ethernet frame: what checks 1–5 of R250 look at, and its payload. `len` runs from the destination address to the FCS. -/
structure MacFrame where
  fcsOk : Bool
  len : Nat
  dst : Nat
  src : Nat
  vlan : Option Nat
  etherType : Nat
  payload : Payload
  deriving DecidableEq, Repr

/-- A frame on the FSK line: its preamble characters; whether every character has right parity and framing; what sends it (0 a master, 1 a slave, 2 a burst) and its
address form, which its delimiter says; the master, burst and address bits; command, data and check byte; its gaps after the delimiter in 1/28 800 s; the demodulated mark and space
levels of each bit time of the preamble, and of each one after it. -/
structure FskFrame where
  pre : Nat
  charsOk : Bool
  kind : Nat
  long : Bool
  secondary : Bool
  burst : Bool
  addr : Nat
  cmd : Nat
  data : List Byte
  check : Byte
  gap : Nat
  learned : List (Int × Int)
  tracked : List (Int × Int)
  deriving DecidableEq, Repr

/-- An SPI frame: SCS_N fell before the access of the frame before had completed; its SCK cycles; the bytes on SDI. -/
structure SpiFrame where
  early : Bool
  cycles : Nat
  sdi : List Byte
  deriving DecidableEq, Repr

/-- What a tick boundary takes from outside: whether the guard delayed it (R70); the time since POR release in µs; of the tick that ends, the shunt current in
0.1 µA, LDRV at its cut-off limit for the whole tick or for a part of it, at its full-on limit for the whole tick, VPRE in mV, the timing monitors' report (0 LOW, 1 OK, 2 HIGH, none without one), AOUT0
and AOUT1 in current limit, the die's temperature and the cells' in 0.1 °C, the PHY's SQI, MSE and symbol errors; at the boundary, FINE and COARSE of the fast
lanes and the levels of GPIO0–GPIO3. -/
structure TickIn where
  guarded : Bool := false
  us : Nat := 0
  shunt : Nat := 0
  cut : Bool := false
  cutPart : Bool := false
  full : Bool := false
  vpre : Nat := 0
  margin : Option Nat := none
  ovld0 : Bool := false
  ovld1 : Bool := false
  die : Int := 0
  temps : List Int := []
  sqi : Nat := 0
  mse : Nat := 0
  errs : Nat := 0
  fine0 : Int := 0
  coarse0 : Int := 0
  fine1 : Int := 0
  coarse1 : Int := 0
  gpio : Nat := 0
  deriving DecidableEq, Repr

/-- A write of PG_EVT (R58, R59): the `bits` written, and the events of the page that occur in the `same` clock cycle, whose bits stay set. -/
structure EventBits where
  bits : Word
  same : Word
  deriving DecidableEq, Repr

/-- An edge on PPS_IN (R73): its polarity, and the time `since` the edge before it, in ns. -/
structure PpsEdge where
  falling : Bool
  since : Nat
  deriving DecidableEq, Repr

/-- What goes before a carrier and what it brings (R206, R207): the amplitudes of the bit times without carrier since the last one, in mVpp, and whether the
frame is addressed to the KV4811 (R142). -/
structure Carrier where
  quiet : List Nat
  mine : Bool
  deriving DecidableEq, Repr

/-- What a conversion takes beside its own filter samples (R352, R353, R391): the input voltages of the samples of the converter in parallel, and
V(REFP) − V(REFN), in pV. -/
structure ConvSide where
  volts : List Int
  ext : Int
  deriving DecidableEq, Repr

/-- Cell `c` at `ns` ns of the tick. -/
structure CellInstant where
  c : Nat
  ns : Nat
  deriving DecidableEq, Repr

/-- The commands: one constructor per row of spec/opcode_table.json, in its order. -/
inductive Instr where
/-- REGISTER_WRITE (R35): a single-word write to `addr` over path `p`. -/
  | registerWrite (p : Path) (addr data : Word)
/-- RC_READ (R37): a single-word read of `addr` over path `p`, `ns` ns into the tick. -/
  | rcRead (p : Path) (addr : Word) (ns : Nat)
/-- MEMORY_WRITE (R33): a write to SRAM, the cell window or retention RAM. -/
  | memoryWrite (p : Path) (addr data : Word)
/-- COMMIT_REQUEST (R42): PG_COMMIT.GO of `page`. -/
  | commitRequest (p : Path) (page : Nat)
/-- SOFT_RESET_REQUEST (R52): PG_CTRL.SRST of `page`, written with EN = `en`. -/
  | softResetRequest (p : Path) (page : Nat) (en : Bool)
/-- WRITE_LOCK (R54): PG_CTRL.WLOCK of `page`, written with EN = `en`. -/
  | writeLock (p : Path) (page : Nat) (en : Bool)
/-- EVENT_CLEAR (R58): a write to PG_EVT of `page`. -/
  | eventClear (p : Path) (page : Nat) (w : EventBits)
/-- FAULT_INJECTION_START (R62): PG_FLT_INJ of `page` with GO, `point` and `count`. -/
  | faultInjectionStart (p : Path) (page point count : Nat)
/-- LEASE_TAKE (R303): PG_OWNER of `page` with LEASE_S = `secs`, 1 to 3600. -/
  | leaseTake (p : Path) (page secs : Nat)
/-- LEASE_RELEASE (R303): PG_OWNER of `page` with LEASE_S = 0. -/
  | leaseRelease (p : Path) (page : Nat)
/-- LEASE_EXPIRY (R307): the lease on page group `group` ends. -/
  | leaseExpiry (group : Nat)
/-- TICK_BOUNDARY (R68): a boundary, with what it takes from outside. -/
  | tickBoundary (t : TickIn)
/-- PPS_IN_EDGE (R73): an edge, with the phase error in ns and the frequency correction in 0.001 ppm that it gives. -/
  | ppsInEdge (e : PpsEdge) (ns mppm : Int)
/-- PPS_IN_LOSS (R73): no valid edge for 1.5 s. -/
  | ppsInLoss
/-- XTAL_STOP (R77): the crystal stops. -/
  | xtalStop
/-- XTAL_STARTUP_TIMEOUT (R77): 3 ms after POR release. -/
  | xtalStartupTimeout
/-- XTAL_STABLE (R77): the crystal has run stably for 1 ms. -/
  | xtalStable
/-- HOLDOVER_LIMIT_EXPIRY (R87): the holdover timer reaches HOLDOVER_LIMIT. -/
  | holdoverLimitExpiry
/-- PPS_OUT_END (R82): 10 ms after the rising edge of PPS_OUT. -/
  | ppsOutEnd
/-- TICK_NUM_READ (R114): a read of TICK_NUM_LO. -/
  | tickNumRead (p : Path)
/-- PLAN_WIN_ADDR_WRITE (R114): a write of `w` to PLAN_WIN_ADDR. -/
  | planWinAddrWrite (p : Path) (w : Word)
/-- PLAN_WIN_DATA_ACCESS (R89): a write of a word to PLAN_WIN_DATA, or a read of it. -/
  | planWinDataAccess (p : Path) (w : Option Word)
/-- M_SLOT_DEADLINE (R105): the budget of the running M slot expires. -/
  | mSlotDeadline
/-- O_SLOT_BUDGET_EXPIRY (R109): the budget of the running O slot expires. -/
  | oSlotBudgetExpiry
/-- B_SLOT_BUDGET_END (R110): the budget of the running B slot ends. -/
  | bSlotBudgetEnd
/-- SLOT_COMPLETE (R112): the work of the running slot completes `at_` µs after the boundary. -/
  | slotComplete (at_ : Nat)
/-- NOP (R93): slot `idx` begins `at_` µs after the boundary, here and in the rows below. -/
  | nop (idx at_ : Nat)
/-- LANE_COLLECT (R391): `ms` is the time of the boundary that began the tick since POR release. -/
  | laneCollect (idx at_ ms : Nat)
/-- FAST_COLLECT (R414). -/
  | fastCollect (idx at_ : Nat)
/-- LOOP_UPDATE (R169). -/
  | loopUpdate (idx at_ : Nat)
/-- FSK_SERVICE (R216). -/
  | fskService (idx at_ : Nat)
/-- PUB_SERVICE (R274). -/
  | pubService (idx at_ : Nat)
/-- REC_SERVICE (R435). -/
  | recService (idx at_ : Nat)
/-- ARR_LAYER (R460). -/
  | arrLayer (idx at_ : Nat)
/-- LEARN_STEP (R508). -/
  | learnStep (idx at_ : Nat)
/-- DMA_JOB (R495). -/
  | dmaJob (idx at_ : Nat)
/-- LINK_JOB (R333). -/
  | linkJob (idx at_ : Nat)
/-- BIST_SLICE (R620): `bad` says that the next checkpoint of a test does not match, `raced` that a foreground write reaches the next corrected word of a
scrub. -/
  | bistSlice (idx at_ : Nat) (bad raced : Bool)
/-- SCRUB_STEP (R635). -/
  | scrubStep (idx at_ : Nat) (bad raced : Bool)
/-- CAL_STEP (R639). -/
  | calStep (idx at_ : Nat) (bad raced : Bool)
/-- HOST_SIGNAL (R93). -/
  | hostSignal (idx at_ : Nat)
/-- GOVERNOR_SAMPLE (R532): the sample `at_` µs after the boundary: the demand without the charger and the current that the charger would take, in µA, VRES
and VPRE in mV. -/
  | governorSample (at_ load chg vres vpre : Nat)
/-- BANK_ZERO_FILL_DONE (R548): the fill of bank `n` completes. -/
  | bankZeroFillDone (n : Nat)
/-- BUDGET_RISE_HOLD_EXPIRY (R533): a held rise of the budget takes effect. -/
  | budgetRiseHoldExpiry
/-- AVS_LIMIT (R531). -/
  | avsLimit
/-- GOV_BELOW_FLOOR (R543). -/
  | govBelowFloor
/-- RES_FAULT (R156). -/
  | resFault
/-- DETECTION_WINDOW_END (R126): a window with `qual` qualified transitions among `cross` crossings ends `ms` ms after POR release. -/
  | detectionWindowEnd (qual cross ms : Nat)
/-- LOOP_ENGAGE (R181): `ms` ms after POR release. -/
  | loopEngage (ms : Nat)
/-- LIFTOFF_DETECT (R137). -/
  | liftoffDetect
/-- LIFTOFF_CLEAR (R138). -/
  | liftoffClear
/-- LOOP_OVERDRAW (R140). -/
  | loopOverdraw
/-- GEN_CHANGE_DEFERRED (R142). -/
  | genChangeDeferred
/-- LOOPCLR_ASSERT (R177): LOOPCLR_N has been low for `lowNs` ns. -/
  | loopclrAssert (lowNs : Nat)
/-- LOOPCLR_DEASSERT (R178): LOOPCLR_N will have been high for `highNs` ns at the next boundary. -/
  | loopclrDeassert (highNs : Nat)
/-- SPAN_DONE (R173). -/
  | spanDone
/-- TEST_END (R168). -/
  | testEnd
/-- TRIM_LIMIT (R185). -/
  | trimLimit
/-- READBACK_SET (R186). -/
  | readbackSet
/-- READBACK_CLEAR (R186). -/
  | readbackClear
/-- PASS_DONE (R191): the passage of auxiliary DAC `n` ends. -/
  | passDone (n : Nat)
/-- ADAC_OVERLOAD (R189): auxiliary DAC `n` enters its current limit. -/
  | adacOverload (n : Nat)
/-- CARRIER_DETECT (R206): two bit times with amplitudes `a` and `b`, mVpp. -/
  | carrierDetect (c : Carrier) (a b : Nat)
/-- CARRIER_END (R206): two bit times with amplitudes `a` and `b`, mVpp. -/
  | carrierEnd (a b : Nat)
/-- FSK_FRAME_RX (R211): the frame `f` has been received. -/
  | fskFrameRx (f : FskFrame)
/-- FRAME_GAP_TIMEOUT (R211). -/
  | frameGapTimeout
/-- NOISE_TIMEOUT (R211). -/
  | noiseTimeout
/-- READ_UNIQUE_IDENTIFIER (R227): the request in turn is command 0. -/
  | readUniqueIdentifier
/-- READ_UNIQUE_ID_BY_TAG (R227): command 11. -/
  | readUniqueIdByTag
/-- READ_UNIQUE_ID_BY_LONG_TAG (R227): command 21. -/
  | readUniqueIdByLongTag
/-- READ_PV (R227): command 1. -/
  | readPv
/-- READ_LOOP_CURRENT_PERCENT (R227): command 2. -/
  | readLoopCurrentPercent
/-- READ_DYNAMIC_VARIABLES (R227): command 3. -/
  | readDynamicVariables
/-- WRITE_POLLING_ADDRESS (R223): command 6. -/
  | writePollingAddress
/-- READ_LOOP_CONFIGURATION (R223): command 7. -/
  | readLoopConfiguration
/-- READ_VARIABLE_CLASSIFICATIONS (R227): command 8. -/
  | readVariableClassifications
/-- READ_DEVICE_VARS_WITH_STATUS (R232): command 9. -/
  | readDeviceVarsWithStatus
/-- READ_DEVICE_VARIABLES (R232): command 33. -/
  | readDeviceVariables
/-- READ_MESSAGE (R227): command 12. -/
  | readMessage
/-- READ_TAG_DESCRIPTOR_DATE (R227): command 13. -/
  | readTagDescriptorDate
/-- READ_DEVICE_INFORMATION (R227): command 15. -/
  | readDeviceInformation
/-- READ_FINAL_ASSEMBLY_NUMBER (R227): command 16. -/
  | readFinalAssemblyNumber
/-- READ_LONG_TAG (R227): command 20. -/
  | readLongTag
/-- WRITE_MESSAGE (R227): command 17. -/
  | writeMessage
/-- WRITE_TAG_DESCRIPTOR_DATE (R227): command 18. -/
  | writeTagDescriptorDate
/-- WRITE_FINAL_ASSEMBLY_NUMBER (R227): command 19. -/
  | writeFinalAssemblyNumber
/-- WRITE_LONG_TAG (R227): command 22. -/
  | writeLongTag
/-- RESET_CONFIG_CHANGED_FLAG (R222): command 38. -/
  | resetConfigChangedFlag
/-- ENTER_EXIT_FIXED_CURRENT (R229): command 40. -/
  | enterExitFixedCurrent
/-- TRIM_LOOP_CURRENT_ZERO (R229): command 45. -/
  | trimLoopCurrentZero
/-- TRIM_LOOP_CURRENT_GAIN (R229): command 46. -/
  | trimLoopCurrentGain
/-- READ_ADDITIONAL_DEVICE_STATUS (R231): command 48. -/
  | readAdditionalDeviceStatus
/-- WRITE_NUM_RESPONSE_PREAMBLES (R227): command 59. -/
  | writeNumResponsePreambles
/-- WRITE_BURST_PERIOD (R227): command 103. -/
  | writeBurstPeriod
/-- WRITE_BURST_TRIGGER (R227): command 104. -/
  | writeBurstTrigger
/-- READ_BURST_CONFIGURATION (R227): command 105. -/
  | readBurstConfiguration
/-- WRITE_BURST_DEVICE_VARIABLES (R227): command 107. -/
  | writeBurstDeviceVariables
/-- WRITE_BURST_COMMAND (R227): command 108. -/
  | writeBurstCommand
/-- BURST_CONTROL (R227): command 109. -/
  | burstControl
/-- YRD (R234): command 200, `ns` ns into the tick. -/
  | yrd (ns : Nat)
/-- YWR (R234): command 201. -/
  | ywr
/-- YCOMMIT (R235): command 202. -/
  | ycommit
/-- YSESS (R335): command 203. -/
  | ysess
/-- FSK_TX_START (R218). -/
  | fskTxStart
/-- REPLY_LATE (R214). -/
  | replyLate
/-- FSK_TX_END (R207). -/
  | fskTxEnd
/-- FSK_TX_STUCK (R220). -/
  | fskTxStuck
/-- BURST_DUE (R224). -/
  | burstDue
/-- BURST_TX_START (R225). -/
  | burstTxStart
/-- BURST_DEFER (R225). -/
  | burstDefer
/-- LINK_UP (R247): the partner advertises and requests high amplitude; the KV4811 is the master; SQI and MSE. -/
  | linkUp (hiAdv hiReq master : Bool) (sqi mse : Nat)
/-- LINK_DOWN (R248): `ns` ns into the tick. -/
  | linkDown (ns : Nat)
/-- SQI_LOW (R249). -/
  | sqiLow
/-- MAC_FRAME_RX (R250): the frame `f` has been received. -/
  | macFrameRx (f : MacFrame)
/-- FRAME_TX_START (R257): `ns` ns into the tick. -/
  | frameTxStart (ns : Nat)
/-- GOOSE_RETRANSMIT (R283). -/
  | gooseRetransmit
/-- PTP_SYNC (R263): the message in turn, here and below. -/
  | ptpSync
/-- PTP_FOLLOW_UP (R263). -/
  | ptpFollowUp
/-- PTP_ANNOUNCE (R261). -/
  | ptpAnnounce
/-- PDELAY_REQ_RX (R259). -/
  | pdelayReqRx
/-- PDELAY_REQ_TX (R259). -/
  | pdelayReqTx
/-- PDELAY_RESP (R262). -/
  | pdelayResp
/-- ANNOUNCE_TIMEOUT (R264). -/
  | announceTimeout
/-- SYNC_LOSS_TIMEOUT (R264). -/
  | syncLossTimeout
/-- PTP_TODSET_WRITE (R266): a write of `w` to PTP_TODSET. -/
  | ptpTodsetWrite (p : Path) (w : Word)
/-- TOD_READ (R289): a read of PTP_TOD_S, `ns` ns into the tick. -/
  | todRead (p : Path) (ns : Nat)
/-- YRAP_READ (R328): the message in turn, `ns` ns into the tick. -/
  | yrapRead (ns : Nat)
/-- YRAP_WRITE (R328). -/
  | yrapWrite
/-- YRAP_COMMIT (R328). -/
  | yrapCommit
/-- YRAP_SESSION (R328). -/
  | yrapSession
/-- YRAP_NOTIFY (R332). -/
  | yrapNotify
/-- DAD_FAIL (R326): of the link-local address (0) or the configured one (1). -/
  | dadFail (which : Nat)
/-- NEIGHBOUR_SOLICITATION (R325). -/
  | neighbourSolicitation
/-- ARP_REQUEST (R325). -/
  | arpRequest
/-- ECHO_REQUEST (R325). -/
  | echoRequest
/-- HELLO (R335): over FSK or over YRAP. -/
  | hello (fsk : Bool)
/-- PROVE (R335). -/
  | prove (fsk : Bool)
/-- CLOSE (R340). -/
  | close (fsk : Bool)
/-- CHALLENGE_TIMEOUT (R335): of the pending session `sid`. -/
  | challengeTimeout (sid : Nat)
/-- SESSION_IDLE_TIMEOUT (R340): of the session `sid`. -/
  | sessionIdleTimeout (sid : Nat)
/-- AUTH_HOLD (R341): of the path 4 YRAP, 5 FSK primary, 6 FSK secondary. -/
  | authHold (kind : Nat)
/-- AUTH_HOLD_EXPIRY (R341). -/
  | authHoldExpiry (kind : Nat)
/-- SPI_READ (R319): the frame, whose access is made `ns` ns into the tick. -/
  | spiRead (f : SpiFrame) (ns : Nat)
/-- SPI_WRITE (R319). -/
  | spiWrite (f : SpiFrame) (ns : Nat)
/-- SPI_STATUS (R319). -/
  | spiStatus (f : SpiFrame)
/-- SPI_FRAME_REJECT (R321). -/
  | spiFrameReject (f : SpiFrame)
/-- ACC_KEYDATA_WRITE (R345): a write of `w` to ACC_KEYDATA. -/
  | accKeydataWrite (p : Path) (w : Word)
/-- PROG_K (R345). -/
  | progK (p : Path) (slot role : Nat)
/-- PROG_MK (R345). -/
  | progMk (p : Path) (slot : Nat)
/-- REVOKE_K (R342). -/
  | revokeK (p : Path) (slot : Nat)
/-- REVOKE_MK (R342). -/
  | revokeMk (p : Path) (slot : Nat)
/-- CLEAR (R345). -/
  | clear (p : Path)
/-- EXCITATION_PULSE_START (R355): of lane `n`. -/
  | excitationPulseStart (n : Nat)
/-- CONVERSION_START (R383): of lane `n`, or the calibration conversion of converter `n` (6 the shadow lane). -/
  | conversionStart (cal : Bool) (n : Nat)
/-- CONVERSION_END (R386): with the input voltages of its filter samples, in pV, and what it takes beside them. -/
  | conversionEnd (cal : Bool) (n : Nat) (volts : List Int) (side : ConvSide)
/-- EXC_COMPLIANCE (R359): of source `k`. -/
  | excCompliance (k : Nat)
/-- URGENT_REQUEST (R392). -/
  | urgentRequest (p : Path) (lane setup : Nat)
/-- CAL_DUE (R398). -/
  | calDue
/-- REC_TRIG (R424). -/
  | recTrig (p : Path)
/-- GPIO_EDGE (R712): on GPIO `n`. -/
  | gpioEdge (n : Nat) (falling : Bool)
/-- REC_ARCH_STALL (R441). -/
  | recArchStall
/-- REC_ACK_WRITE (R444). -/
  | recAckWrite (p : Path) (w : Word)
/-- REC_FIND_WRITE (R443). -/
  | recFindWrite (p : Path) (w : Word)
/-- REC_FIND_DONE (R443). -/
  | recFindDone
/-- INDEX_READY (R440). -/
  | indexReady
/-- ARR_GO (R459). -/
  | arrGo (p : Path)
/-- PARTITION_END (R462): of the partition of cell `x.c`, which met `corr` correctable words and perhaps an uncorrectable one. -/
  | partitionEnd (x : CellInstant) (corr : Nat) (uncorr : Bool)
/-- CELL_WATCHDOG (R473): of cell `x.c`. -/
  | cellWatchdog (x : CellInstant)
/-- REQUALIFY (R478): of cell `c`. -/
  | requalify (p : Path) (c : Nat)
/-- REQUAL_DONE (R478). -/
  | requalDone
/-- START (R521): with the present head or without. -/
  | start (p : Path) (init : Bool)
/-- STOP (R521). -/
  | stop (p : Path)
/-- SEAL_HEAD (R511). -/
  | sealHead (p : Path)
/-- DISCARD (R521). -/
  | discard (p : Path)
/-- HEAD_WRITE_COMPLETE (R513). -/
  | headWriteComplete
/-- SLEEP_REQUEST (R561): for DOZE (1), LULL (2) or FROST (3). -/
  | sleepRequest (p : Path) (target : Nat)
/-- SLEEP_CANCEL (R562). -/
  | sleepCancel (p : Path)
/-- SLEEP_STATE_REACHED (R569). -/
  | sleepStateReached
/-- SLEEP_RETRY (R567). -/
  | sleepRetry
/-- WAKE (R575): LINE (0), KNOCK (1) or an edge of WAKE_IN (2). -/
  | wake (src : Nat) (falling : Bool)
/-- ALARM (R575). -/
  | alarm
/-- WAKE_EXIT_COMPLETE (R574): `early`: the next boundary comes before slots may resume. -/
  | wakeExitComplete (early : Bool)
/-- ESC_LEAK (R597): of source `id`. -/
  | escLeak (id : Nat)
/-- FAULT_EXIT (R603). -/
  | faultExit
/-- CLEAR_LOCKOUT (R607). -/
  | clearLockout (p : Path)
/-- CLEAR_ESC (R598). -/
  | clearEsc (p : Path)
/-- FLT_TRAP_ACK (R613): a write of `w`. -/
  | fltTrapAck (p : Path) (w : Word)
/-- FLT_ESC_SELECT (R616): a write of `w`. -/
  | fltEscSelect (p : Path) (w : Word)
/-- DIE_HOT (R590). -/
  | dieHot
/-- IDLE_GAP_WORK (R641): from `at_` to `till` µs after the boundary. -/
  | idleGapWork (at_ till : Nat) (bad raced : Bool)
/-- PROMOTED (R643). -/
  | promoted
/-- BG_STARVED (R644). -/
  | bgStarved
/-- CORE_TEST_DONE (R631). -/
  | coreTestDone (pass : Bool)
/-- CLEAR_WORD (R649). -/
  | clearWord (p : Path)
/-- MODEL_WRITE (R658). -/
  | modelWrite (p : Path) (slot : Nat)
/-- MODEL_CHECK (R656). -/
  | modelCheck (p : Path) (slot : Nat)
/-- PATCH_WRITE (R656). -/
  | patchWrite (p : Path)
/-- PATCH_CHECK (R343). -/
  | patchCheck (p : Path)
/-- SAVE_CONFIG (R660). -/
  | saveConfig (p : Path)
/-- RETIRE_ARCH (R667). -/
  | retireArch (p : Path)
/-- NVM_CHUNK_START (R654). -/
  | nvmChunkStart
/-- NVM_CHUNK_COMPLETE (R654). -/
  | nvmChunkComplete
/-- CONFIG_LOAD (R662). -/
  | configLoad
/-- AON_SECOND (R676). -/
  | aonSecond
/-- ALM_COMMIT_DUE (R678). -/
  | almCommitDue
/-- COMMIT (R678). -/
  | almCommit (p : Path)
/-- SNAP (R688). -/
  | almSnap (p : Path)
/-- RESET (R689). -/
  | almReset (p : Path) (mask : Nat)
/-- ALM_WIN_READ (R688). -/
  | almWinRead (p : Path)
/-- KEY_SCAN (R694): with the three signals. -/
  | keyScan (g0 g1 g2 : Nat)
/-- STUCK (R699): of key `n`. -/
  | stuck (n : Nat)
/-- REBASE_NEG (R698): of key `n`. -/
  | rebaseNeg (n : Nat)
/-- LOCAL_LOCK_ON (R705). -/
  | localLockOn
/-- LOCAL_LOCK_OFF (R705). -/
  | localLockOff
/-- LOOP_TEST_CURRENT (R706). -/
  | loopTestCurrent
/-- ENTER_ZERO_TRIM (R707). -/
  | enterZeroTrim
/-- ENTER_SPAN_TRIM (R707). -/
  | enterSpanTrim
/-- STORE_TRIM (R708). -/
  | storeTrim
/-- TRIM_CANCEL (R709). -/
  | trimCancel
/-- LOCK_TIMEOUT (R705). -/
  | lockTimeout
/-- UNLOCK (R705). -/
  | unlock (p : Path)
/-- REBASE (R700). -/
  | rebase (p : Path)
/-- POR (R715): `lost`: VPRE fell below 1.5 V. -/
  | por (lost : Bool)
/-- BOR_MAIN (R715): of VLDO18 (1) or VCORE (2). -/
  | borMain (rail : Nat)
/-- BOR_LP (R583). -/
  | borLp
/-- RST_N (R716): RST_N has been low for `lowNs` ns. -/
  | rstN (lowNs : Nat)
/-- WDOG (R717). -/
  | wdog
/-- RST_CMD_RESET (R738). -/
  | rstCmdReset (p : Path)
/-- POR_RELEASE (R720): with GEN1 and GEN0 (as a number), BOOTSEL and TEST_EN. -/
  | porRelease (gens : Nat) (bootsel testEn : Bool)
/-- ROM_BOOT_COMPLETE (R730): `us` µs after POR release, with the results of the LINK test and of the check of the ROM. -/
  | romBootComplete (us : Nat) (linkPass romBad : Bool)
/-- LEVEL_DONE (R528). -/
  | levelDone
/-- CMD_DONE (R657): `patch`: the version and the length in bytes of the patch in PATCH. -/
  | cmdDone (patch : Option (Nat × Nat))
  deriving DecidableEq, Repr

end Sys2Proof
end

