-- ==== Sys2Proof/Decode.lean ====
section
/-! DEFINITION. The decoding of the table's words. spec/opcode_table.json gives no row any bits (every row's "fields" is empty): the commands of this block are
register accesses, frames, pin events and instants, whose contents are the operands of Instr. So no word spells a command. -/

namespace Sys2Proof

/-- The command that a word of `nbits` bits spells by the table: none. -/
def decodeTableWord (_nbits _w : Nat) : Option Instr := none

end Sys2Proof
end

