-- ==== Sys2Proof/Config.lean ====
section
/-! DEFINITION. The values the spec leaves open: constants without a body, applied to State's own counter of fresh values
(DESIGN CHOICE, log entry 1). Nothing in Lean can evaluate one or prove a value of it. -/

namespace Sys2Proof.Config

/-- A fresh 32-bit value. -/
opaque freeWord : Nat → Word

/-- A fresh byte: the internal random source's nonces (R336), the content of torn words (R655). -/
opaque freeByte : Nat → Byte

/-- A fresh choice: whether a word not yet written is torn (R655), whether a low level of 0.5–2 µs is taken (R716). -/
opaque freeBool : Nat → Bool

/-- A fresh number. -/
opaque freeNat : Nat → Nat

/-- The code of a voltage against a V_REF of 0 (R352 states none). -/
opaque freeCode : Int → Int

end Sys2Proof.Config
end

