-- ==== Sys2Proof/Machine/Bits.lean ====
section
/-! DEFINITION. Bit fields of a 32-bit word, the byte order of words in memory, saturating arithmetic (R6), and the
two small types every file uses: a register field's name and a power domain. -/

namespace Sys2Proof.Machine

/-- The power domains of R744; the sixteen MEMn domains are the banks of SRAM and are handled by number. -/
inductive Dom where
  | aon | loop | ana | link | core | arr
  deriving DecidableEq, Repr

/-- The name of a register field: page, offset, bits [hi:lo], and whether it is RWS (then the effective word is its value). -/
structure Fld where
  page : Nat
  off : Nat
  hi : Nat
  lo : Nat
  rws : Bool
  deriving DecidableEq, Repr

/-- Bits [hi:lo] of `w` as a number. -/
def getBits (w : Word) (hi lo : Nat) : Nat := (w.toNat / 2 ^ lo) % 2 ^ (hi + 1 - lo)

/-- `w` with bits [hi:lo] set to `v` (taken modulo the field's width). -/
def putBits (w : Word) (hi lo v : Nat) : Word :=
  BitVec.ofNat 32 (w.toNat / 2 ^ (hi + 1) * 2 ^ (hi + 1) + v % 2 ^ (hi + 1 - lo) * 2 ^ lo + w.toNat % 2 ^ lo)

/-- Bit `i` of a number. -/
def bitOf (n i : Nat) : Bool := n / 2 ^ i % 2 == 1

/-- Bit `i` of `n` set or cleared. -/
def setBitTo (n i : Nat) (b : Bool) : Nat :=
  if bitOf n i = b then n else if b then n + 2 ^ i else n - 2 ^ i

/-- 1 for true, 0 for false. -/
def b2n (b : Bool) : Nat := if b then 1 else 0

/-- `w` with the bits of `mask` taken from `v`. -/
def mergeMask (w v : Word) (mask : Nat) : Word :=
  (w &&& ~~~ (BitVec.ofNat 32 mask)) ||| (v &&& BitVec.ofNat 32 mask)

/-- R6: a counter saturates at `top`. -/
def satTo (top n : Nat) : Nat := if top < n then top else n

/-- The value of an `n`-bit two's-complement number. -/
def signed (n v : Nat) : Int := if 2 ^ (n - 1) ≤ v % 2 ^ n then (v % 2 ^ n : Nat) - (2 ^ n : Int) else (v % 2 ^ n : Nat)

/-- The `n`-bit two's-complement code of an integer. -/
def toCode (n : Nat) (x : Int) : Nat := (x % (2 ^ n : Int)).toNat

/-- `x` limited to [lo, hi]. -/
def clampInt (lo hi x : Int) : Int := if x < lo then lo else if hi < x then hi else x

/-- Rounded to the nearest integer, a half away from zero: the quotient of `a` by a positive `b`. -/
def divRound (a : Int) (b : Nat) : Int :=
  if 0 ≤ a then (2 * a + b) / (2 * b) else -((2 * (-a) + b) / (2 * b))

/-- The four bytes of a word, most significant first. -/
def bytesOfWord (w : Word) : List Byte :=
  [BitVec.ofNat 8 (w.toNat / 2 ^ 24), BitVec.ofNat 8 (w.toNat / 2 ^ 16), BitVec.ofNat 8 (w.toNat / 2 ^ 8), BitVec.ofNat 8 w.toNat]

/-- A number as `n` bytes, most significant first. -/
def natBytes : Nat → Nat → List Byte
  | 0, _ => []
  | n + 1, v => natBytes n (v / 256) ++ [BitVec.ofNat 8 v]

/-- The number that bytes spell, most significant first. -/
def bytesNat (bs : List Byte) : Nat := bs.foldl (fun a b => a * 256 + b.toNat) 0

/-- Words as bytes, most significant first. -/
def wordsBytes (ws : List Word) : List Byte := ws.flatMap bytesOfWord

/-- Bytes as words, most significant first; a last incomplete word is dropped. -/
def bytesWords : List Byte → List Word
  | a :: b :: c :: d :: t => BitVec.ofNat 32 (bytesNat [a, b, c, d]) :: bytesWords t
  | _ => []

/-- A list of `n` elements made by index. -/
def tabulate {α : Type} (n : Nat) (f : Nat → α) : List α := (List.range n).map f

/-- The number of bits of `n` that are 1 among its lowest `k`. -/
def countOnes (k n : Nat) : Nat := ((List.range k).filter fun i => bitOf n i).length

/-- A sparse table: keys strictly rising, an unlisted key has no entry. -/
abbrev Assoc (α : Type) := List (Nat × α)

/-- The entry of key `k`. -/
def aget {α : Type} : Assoc α → Nat → Option α
  | [], _ => none
  | (a, v) :: t, k => if a = k then some v else aget t k

/-- The table with key `k` set to `x`. -/
def aset {α : Type} : Assoc α → Nat → α → Assoc α
  | [], k, x => [(k, x)]
  | (a, v) :: t, k, x =>
    if a = k then (k, x) :: t else if k < a then (k, x) :: (a, v) :: t else (a, v) :: aset t k x

/-- The table without key `k`. -/
def adel {α : Type} : Assoc α → Nat → Assoc α
  | [], _ => []
  | (a, v) :: t, k => if a = k then t else (a, v) :: adel t k

end Sys2Proof.Machine
end

