-- ==== Sys2Proof/Machine/RegTable.lean ====
section
/-! DEFINITION. The register pages and the register table of the KV4811: for every page its domain, group and
PG_CAP (chapter 22 of spec/, R740), and for every block register its offset, its strides where it is an array,
its reset word and which of its bits are RWS, RW, W1C, RC and WO (the register tables of the chapters; bits in none of these are RO or
reserved). Written out from the tables of spec/; a register whose reset word the spec gives by a rule (OTP, straps, load) has
0 here and gets its value where the rule says. -/

namespace Sys2Proof.Machine

/-- One register (or array of registers) of a page: offset, outer stride and count, inner stride and count, reset word
of index 0 and its increment per outer index, and the bit masks of the field types of R5. -/
structure RegEnt where
  off : Nat
  s1 : Nat
  c1 : Nat
  s2 : Nat
  c2 : Nat
  reset : Nat
  step : Nat
  rws : Nat
  rw : Nat
  w1c : Nat
  rc : Nat
  wo : Nat
  deriving DecidableEq, Repr

/-- One mapped page: its power domain, its group and its PG_CAP word (R66, R740). -/
structure PageEnt where
  dom : Dom
  group : Nat
  cap : Nat
  deriving DecidableEq, Repr

/-- The block registers of page SYS. -/
def sysRegs : List RegEnt := [
  ⟨0x040, 0x400, 1, 4, 1, 0x0, 0x0, 0x0, 0x0, 0x0, 0x0, 0x0⟩, -- SYS_ID
  ⟨0x044, 0x400, 1, 4, 1, 0x0, 0x0, 0x0, 0x0, 0x0, 0x0, 0x0⟩, -- SYS_STRAP
  ⟨0x048, 0x400, 1, 4, 1, 0x0, 0x0, 0x0, 0x0, 0x0, 0x0, 0x0⟩, -- SYS_GEN
  ⟨0x04C, 0x400, 1, 4, 1, 0x0, 0x0, 0x0, 0x0, 0x0, 0x0, 0x0⟩, -- SYS_BOOT0
  ⟨0x050, 0x400, 1, 4, 1, 0xFFFFFFFF, 0x0, 0x0, 0x0, 0x0, 0x0, 0x0⟩, -- SYS_BOOT1
  ⟨0x054, 0x400, 1, 4, 1, 0x28, 0x0, 0x0, 0x0, 0x0, 0x0, 0x0⟩ -- SYS_BSTAT
  ]

/-- The block registers of page RST. -/
def rstRegs : List RegEnt := [
  ⟨0x040, 0x400, 1, 4, 1, 0x0, 0x0, 0x0, 0x0, 0x0, 0x0, 0x0⟩, -- RST_CAUSE
  ⟨0x044, 0x400, 1, 4, 1, 0x0, 0x0, 0x0, 0x0, 0x1FE, 0x0, 0x0⟩, -- RST_HIST
  ⟨0x048, 0x400, 1, 4, 1, 0x0, 0x0, 0x0, 0x0, 0x0, 0x0, 0xFF00FFFF⟩, -- RST_CMD
  ⟨0x04C, 0x400, 1, 4, 1, 0x0, 0x0, 0x0, 0x0, 0x0, 0x0, 0x0⟩ -- RST_PREVTICK
  ]

/-- The block registers of page PWR. -/
def pwrRegs : List RegEnt := [
  ⟨0x040, 0x400, 1, 4, 1, 0xFFFF0100, 0x0, 0xFFFFFF07, 0x0, 0x0, 0x0, 0x0⟩, -- PWR_CFG
  ⟨0x044, 0x400, 1, 4, 1, 0x20, 0x0, 0x1F, 0x0, 0x0, 0x0, 0x0⟩, -- PWR_WAKE_EN
  ⟨0x048, 0x400, 1, 4, 1, 0x78080000, 0x0, 0xFFFF0107, 0x0, 0x0, 0x0, 0x0⟩, -- PWR_WAKE_CFG
  ⟨0x04C, 0x400, 1, 4, 1, 0x0, 0x0, 0xFFFFFFFF, 0x0, 0x0, 0x0, 0x0⟩, -- PWR_ALARM_LO
  ⟨0x050, 0x400, 1, 4, 1, 0xFFFF, 0x0, 0xFFFF, 0x0, 0x0, 0x0, 0x0⟩, -- PWR_ALARM_HI
  ⟨0x054, 0x400, 1, 4, 1, 0x0, 0x0, 0xFFFFFFFF, 0x0, 0x0, 0x0, 0x0⟩, -- PWR_ALARM_PER
  ⟨0x058, 0x400, 1, 4, 1, 0x0, 0x0, 0x0, 0x3, 0x0, 0x0, 0x80000000⟩, -- PWR_SLEEP
  ⟨0x05C, 0x400, 1, 4, 1, 0x0, 0x0, 0x0, 0x0, 0x0, 0x0, 0x0⟩, -- PWR_STAT
  ⟨0x060, 0x400, 1, 4, 1, 0x0, 0x0, 0x0, 0x0, 0x0, 0x0, 0x0⟩, -- PWR_RESULT
  ⟨0x064, 0x400, 1, 4, 1, 0x0, 0x0, 0x0, 0x0, 0x3F, 0x0, 0x0⟩, -- PWR_WAKE_SRC
  ⟨0x068, 0x400, 1, 4, 1, 0x0, 0x0, 0x0, 0x0, 0x0, 0x0, 0x0⟩, -- PWR_WTIME
  ⟨0x06C, 0x400, 1, 4, 1, 0x0, 0x0, 0x0, 0x0, 0x0, 0x0, 0x0⟩, -- PWR_DOM
  ⟨0x070, 0x400, 1, 4, 1, 0x0, 0x0, 0x0, 0x0, 0x0, 0xFFFFFFFF, 0x0⟩, -- PWR_CNT
  ⟨0x074, 0x400, 1, 4, 1, 0x0, 0x0, 0x0, 0x0, 0x0, 0xFFFFFFFF, 0x0⟩, -- PWR_CNT2
  ⟨0x078, 0x400, 1, 4, 1, 0x0, 0x0, 0x0, 0x0, 0x0, 0x0, 0x0⟩, -- PWR_FROST_EST
  ⟨0x07C, 0x400, 1, 4, 1, 0x0, 0x0, 0x0, 0x0, 0x0, 0x0, 0x0⟩ -- PWR_REJECT
  ]

/-- The block registers of page GOV. -/
def govRegs : List RegEnt := [
  ⟨0x040, 0x400, 1, 4, 1, 0x50000401, 0x0, 0x771FFF01, 0x0, 0x0, 0x0, 0x0⟩, -- GOV_CFG
  ⟨0x044, 0x400, 1, 4, 1, 0xC8012C, 0x0, 0xFFFF03FF, 0x0, 0x0, 0x0, 0x0⟩, -- GOV_MARGIN
  ⟨0x048, 0x400, 1, 4, 1, 0xBB8, 0x0, 0xFFFFF, 0x0, 0x0, 0x0, 0x0⟩, -- GOV_BUDGET
  ⟨0x04C, 0x400, 1, 4, 1, 0x100C80, 0x0, 0xFFFFFF, 0x0, 0x0, 0x0, 0x0⟩, -- GOV_LOW
  ⟨0x050, 0x400, 1, 4, 1, 0x0, 0x0, 0xFFFF, 0x0, 0x0, 0x0, 0x0⟩, -- GOV_GATE
  ⟨0x054, 0x400, 1, 4, 1, 0xA, 0x0, 0xFFF000F, 0x0, 0x0, 0x0, 0x0⟩, -- GOV_RES
  ⟨0x058, 0x400, 1, 4, 1, 0x13880A28, 0x0, 0xFFFFFFFF, 0x0, 0x0, 0x0, 0x0⟩, -- GOV_RESV
  ⟨0x05C, 0x400, 1, 4, 1, 0x0, 0x0, 0x0, 0x0, 0x0, 0x0, 0x0⟩, -- GOV_STAT
  ⟨0x060, 0x400, 1, 4, 1, 0x0, 0x0, 0x0, 0x0, 0x0, 0x0, 0x0⟩, -- GOV_DRAW
  ⟨0x064, 0x400, 1, 4, 1, 0xBB8, 0x0, 0x0, 0x0, 0x0, 0x0, 0x0⟩, -- GOV_CAP
  ⟨0x068, 0x400, 1, 4, 1, 0x0, 0x0, 0x0, 0x0, 0x0, 0x0, 0x0⟩, -- GOV_FLOW
  ⟨0x06C, 0x400, 1, 4, 1, 0x0, 0x0, 0x0, 0x0, 0x0, 0x0, 0x0⟩, -- GOV_RESQ
  ⟨0x070, 0x400, 1, 4, 1, 0x0, 0x0, 0x0, 0x0, 0x0, 0x0, 0x0⟩, -- GOV_BANKS
  ⟨0x074, 0x400, 1, 4, 1, 0x0, 0x0, 0x0, 0x0, 0x0, 0x0, 0x0⟩, -- GOV_EMINFO
  ⟨0x078, 0x400, 1, 4, 1, 0x0, 0x0, 0x0, 0x0, 0x0, 0xFFFFFFFF, 0x0⟩, -- GOV_CNT
  ⟨0x07C, 0x400, 1, 4, 1, 0x0, 0x0, 0x0, 0x0, 0x0, 0xFFFFFFFF, 0x0⟩, -- GOV_CNT2
  ⟨0x080, 0x400, 1, 4, 1, 0x0, 0x0, 0x0, 0x0, 0x0, 0xFFFFFFFF, 0x0⟩, -- GOV_CNT3
  ⟨0x084, 0x400, 1, 4, 1, 0x0, 0x0, 0x0, 0x0, 0x0, 0x0, 0x0⟩, -- GOV_REJECT
  ⟨0x090, 0x4, 6, 4, 1, 0x0, 0x0, 0x0, 0x0, 0x0, 0x0, 0x0⟩, -- GOV_COST
  ⟨0x0A8, 0x400, 1, 4, 1, 0x0, 0x0, 0x0, 0x0, 0x0, 0x0, 0x0⟩ -- GOV_COSTB
  ]

/-- The block registers of page CLK. -/
def clkRegs : List RegEnt := [
  ⟨0x040, 0x400, 1, 4, 1, 0x3, 0x0, 0x3, 0x0, 0x0, 0x0, 0x0⟩, -- CLK_CFG
  ⟨0x044, 0x400, 1, 4, 1, 0x1F40020, 0x0, 0x0, 0x0, 0x0, 0x0, 0x0⟩, -- CLK_STAT
  ⟨0x048, 0x400, 1, 4, 1, 0x0, 0x0, 0x0, 0x0, 0x0, 0x0, 0x0⟩, -- CLK_TRIM0
  ⟨0x04C, 0x400, 1, 4, 1, 0x0, 0x0, 0x0, 0x0, 0x0, 0x0, 0x0⟩, -- CLK_TRIM1
  ⟨0x050, 0x400, 1, 4, 1, 0x100, 0x0, 0x0, 0x0, 0x0, 0x0, 0x0⟩, -- CLK_TMON
  ⟨0x054, 0x400, 1, 4, 1, 0x0, 0x0, 0x0, 0x0, 0x0, 0xFFFFFFFF, 0x0⟩, -- CLK_CNT
  ⟨0x058, 0x400, 1, 4, 1, 0x0, 0x0, 0x0, 0x0, 0x0, 0x0, 0x0⟩ -- CLK_REJECT
  ]

/-- The block registers of page TICK. -/
def tickRegs : List RegEnt := [
  ⟨0x040, 0x400, 1, 4, 1, 0x11, 0x0, 0x3F3, 0x0, 0x0, 0x0, 0x0⟩, -- TICK_CFG
  ⟨0x044, 0x400, 1, 4, 1, 0xA, 0x0, 0xFFF, 0x0, 0x0, 0x0, 0x0⟩, -- TICK_HOLD
  ⟨0x048, 0x400, 1, 4, 1, 0x0, 0x0, 0x0, 0x0, 0x0, 0x0, 0x0⟩, -- TICK_STAT
  ⟨0x04C, 0x400, 1, 4, 1, 0x0, 0x0, 0x0, 0x0, 0x0, 0x0, 0x0⟩, -- TICK_PHASE
  ⟨0x050, 0x400, 1, 4, 1, 0x0, 0x0, 0x0, 0x0, 0x0, 0x0, 0x0⟩, -- TICK_FREQ
  ⟨0x054, 0x400, 1, 4, 1, 0x0, 0x0, 0x0, 0x0, 0x0, 0x0, 0x0⟩, -- TICK_NUM_LO
  ⟨0x058, 0x400, 1, 4, 1, 0x0, 0x0, 0x0, 0x0, 0x0, 0x0, 0x0⟩, -- TICK_NUM_HI
  ⟨0x05C, 0x400, 1, 4, 1, 0x0, 0x0, 0x0, 0x0, 0x0, 0x0, 0x0⟩, -- TICK_SECIDX
  ⟨0x060, 0x400, 1, 4, 1, 0x0, 0x0, 0x0, 0x0, 0x0, 0xFFFFFFFF, 0x0⟩, -- TICK_CNT
  ⟨0x064, 0x400, 1, 4, 1, 0x0, 0x0, 0x0, 0x0, 0x0, 0x0, 0x0⟩ -- TICK_REJECT
  ]

/-- The block registers of page PLAN. -/
def planRegs : List RegEnt := [
  ⟨0x040, 0x400, 1, 4, 1, 0x0, 0x0, 0xF01, 0x0, 0x0, 0x0, 0x0⟩, -- PLAN_CTRL
  ⟨0x044, 0x400, 1, 4, 1, 0x0, 0x0, 0x0, 0x117FF, 0x0, 0x0, 0x0⟩, -- PLAN_WIN_ADDR
  ⟨0x048, 0x400, 1, 4, 1, 0x0, 0x0, 0x0, 0xFFFFFFFF, 0x0, 0x0, 0x0⟩, -- PLAN_WIN_DATA
  ⟨0x04C, 0x400, 1, 4, 1, 0x0, 0x0, 0x0, 0x0, 0x0, 0x0, 0x0⟩, -- PLAN_VSTAT
  ⟨0x050, 0x400, 1, 4, 1, 0x0, 0x0, 0x0, 0x0, 0x0, 0x0, 0x0⟩, -- PLAN_REJECT
  ⟨0x054, 0x400, 1, 4, 1, 0x0, 0x0, 0x0, 0x0, 0x0, 0x0, 0x0⟩, -- PLAN_POS
  ⟨0x058, 0x400, 1, 4, 1, 0x0, 0x0, 0x0, 0x0, 0x0, 0x0, 0x0⟩, -- PLAN_STAT
  ⟨0x05C, 0x400, 1, 4, 1, 0x0, 0x0, 0x0, 0x0, 0x0, 0x0, 0x0⟩, -- PLAN_DL_INFO
  ⟨0x060, 0x400, 1, 4, 1, 0x0, 0x0, 0x0, 0x0, 0x0, 0x0, 0x0⟩, -- PLAN_DL_TICK
  ⟨0x064, 0x400, 1, 4, 1, 0x0, 0x0, 0x0, 0x0, 0x0, 0xFFFFFFFF, 0x0⟩, -- PLAN_CNT_DL
  ⟨0x068, 0x400, 1, 4, 1, 0x0, 0x0, 0x0, 0x0, 0x0, 0xFFFFFFFF, 0x0⟩, -- PLAN_CNT_O
  ⟨0x06C, 0x400, 1, 4, 1, 0x0, 0x0, 0x0, 0x0, 0x0, 0xFFFFFFFF, 0x0⟩, -- PLAN_CNT_B
  ⟨0x070, 0x400, 1, 4, 1, 0x7FFF7FFF, 0x0, 0x0, 0x0, 0x0, 0xFFFFFFFF, 0x0⟩ -- PLAN_SLACK
  ]

/-- The block registers of page FLT0. -/
def flt0Regs : List RegEnt := [
  ⟨0x040, 0x400, 1, 4, 1, 0x320541, 0x0, 0xFFFF0FF1, 0x0, 0x0, 0x0, 0x0⟩, -- FLT_CFG
  ⟨0x044, 0x400, 1, 4, 1, 0xFF0000, 0x0, 0x0, 0x0, 0x0, 0x0, 0x0⟩, -- FLT_STAT
  ⟨0x048, 0x400, 1, 4, 1, 0x0, 0x0, 0x0, 0x0, 0x0, 0x0, 0x0⟩, -- FLT_CALM
  ⟨0x04C, 0x400, 1, 4, 1, 0x0, 0x0, 0x0, 0x0, 0x0, 0x0, 0x0⟩, -- FLT_TRAP
  ⟨0x050, 0x400, 1, 4, 1, 0x0, 0x0, 0x0, 0x0, 0x0, 0x0, 0xFFFF⟩, -- FLT_TRAP_ACK
  ⟨0x054, 0x400, 1, 4, 1, 0x0, 0x0, 0x0, 0x0, 0x0, 0x0, 0xFF00FFFF⟩, -- FLT_CMD
  ⟨0x058, 0x400, 1, 4, 1, 0x0, 0x0, 0x0, 0x0, 0x0, 0xFFFFFFFF, 0x0⟩, -- FLT_CNT
  ⟨0x05C, 0x400, 1, 4, 1, 0x0, 0x0, 0x0, 0x0, 0x0, 0x0, 0x0⟩, -- FLT_REC_CNT
  ⟨0x060, 0x400, 1, 4, 1, 0x0, 0x0, 0x0, 0xF, 0x0, 0x0, 0x0⟩, -- FLT_REC_IDX
  ⟨0x064, 0x400, 1, 4, 1, 0x0, 0x0, 0x0, 0x0, 0x0, 0x0, 0x0⟩, -- FLT_REC_W0
  ⟨0x068, 0x400, 1, 4, 1, 0x0, 0x0, 0x0, 0x0, 0x0, 0x0, 0x0⟩, -- FLT_REC_W1
  ⟨0x06C, 0x4, 2, 4, 1, 0x0, 0x0, 0x0, 0x0, 0xFFFFFFFF, 0x0, 0x0⟩, -- FLT_PEND
  ⟨0x074, 0x4, 2, 4, 1, 0xFFFFFFFF, 0x0, 0x0, 0xFFFFFFFF, 0x0, 0x0, 0x0⟩, -- FLT_MASK
  ⟨0x07C, 0x400, 1, 4, 1, 0x0, 0x0, 0x0, 0xFF0000, 0x0, 0x0, 0x0⟩, -- FLT_ESC
  ⟨0x084, 0x400, 1, 4, 1, 0x0, 0x0, 0x0, 0x0, 0x0, 0x0, 0x0⟩, -- FLT_REJECT
  ⟨0x100, 0x4, 64, 4, 1, 0x0, 0x0, 0xFFFFFF77, 0x0, 0x0, 0x0, 0x0⟩, -- FLT_SRC
  ⟨0x200, 0x4, 32, 4, 1, 0x0, 0x0, 0x0, 0x0, 0x0, 0xFFFFFFFF, 0x0⟩ -- FLT_SCNT
  ]

/-- The block registers of page FLT1. -/
def flt1Regs : List RegEnt := [
  ⟨0x06C, 0x4, 2, 4, 1, 0x0, 0x0, 0x0, 0x0, 0xFFFFFFFF, 0x0, 0x0⟩, -- FLT_PEND
  ⟨0x074, 0x4, 2, 4, 1, 0xFFFFFFFF, 0x0, 0x0, 0xFFFFFFFF, 0x0, 0x0, 0x0⟩, -- FLT_MASK
  ⟨0x084, 0x400, 1, 4, 1, 0x0, 0x0, 0x0, 0x0, 0x0, 0x0, 0x0⟩, -- FLT_REJECT
  ⟨0x100, 0x4, 64, 4, 1, 0x0, 0x0, 0xFFFFFF77, 0x0, 0x0, 0x0, 0x0⟩, -- FLT_SRC
  ⟨0x200, 0x4, 32, 4, 1, 0x0, 0x0, 0x0, 0x0, 0x0, 0xFFFFFFFF, 0x0⟩ -- FLT_SCNT
  ]

/-- The block registers of page BIST. -/
def bistRegs : List RegEnt := [
  ⟨0x040, 0x400, 1, 4, 1, 0x280007, 0x0, 0x3F0007, 0x0, 0x0, 0x0, 0x0⟩, -- BIST_CFG
  ⟨0x044, 0x400, 1, 4, 1, 0xF8000000, 0x0, 0x0, 0x0, 0x0, 0x0, 0x0⟩, -- BIST_STAT
  ⟨0x048, 0x400, 1, 4, 1, 0x0, 0x0, 0x0, 0x0, 0x0, 0x0, 0x0⟩, -- BIST_START
  ⟨0x04C, 0x400, 1, 4, 1, 0x0, 0x0, 0x0, 0x0, 0x0, 0x0, 0x0⟩, -- BIST_LAST
  ⟨0x050, 0x400, 1, 4, 1, 0x0, 0x0, 0x0, 0x0, 0x0, 0x0, 0x0⟩, -- BIST_LTICK
  ⟨0x054, 0x400, 1, 4, 1, 0x0, 0x0, 0x0, 0x0, 0x0, 0x0, 0x0⟩, -- BIST_ROT
  ⟨0x058, 0x400, 1, 4, 1, 0x0, 0x0, 0x0, 0x0, 0x0, 0xFFFFFFFF, 0x0⟩, -- BIST_CNT
  ⟨0x05C, 0x400, 1, 4, 1, 0x0, 0x0, 0x0, 0x0, 0x0, 0xFFFFFFFF, 0x0⟩, -- BIST_CNT2
  ⟨0x060, 0x400, 1, 4, 1, 0x0, 0x0, 0x0, 0x0, 0x0, 0x0, 0x0⟩ -- BIST_REJECT
  ]

/-- The block registers of page BG. -/
def bgRegs : List RegEnt := [
  ⟨0x040, 0x400, 1, 4, 1, 0x401403, 0x0, 0xFFFF3F03, 0x0, 0x0, 0x0, 0x0⟩, -- BG_CFG
  ⟨0x044, 0x400, 1, 4, 1, 0x0, 0x0, 0x0, 0x0, 0x0, 0x0, 0x0⟩, -- BG_STAT
  ⟨0x048, 0x400, 1, 4, 1, 0x0, 0x0, 0x0, 0x0, 0x0, 0x0, 0x0⟩, -- BG_AGE0
  ⟨0x04C, 0x400, 1, 4, 1, 0x0, 0x0, 0x0, 0x0, 0x0, 0x0, 0x0⟩, -- BG_AGE1
  ⟨0x050, 0x400, 1, 4, 1, 0x0, 0x0, 0x0, 0x0, 0x0, 0x0, 0x0⟩, -- BG_SCRUB
  ⟨0x054, 0x400, 1, 4, 1, 0x0, 0x0, 0x0, 0x0, 0x0, 0x0, 0x0⟩, -- BG_SCRUB_PASS
  ⟨0x058, 0x400, 1, 4, 1, 0x0, 0x0, 0x0, 0x0, 0x0, 0x0, 0x0⟩, -- BG_SCRUB_ERR
  ⟨0x05C, 0x400, 1, 4, 1, 0x0, 0x0, 0x0, 0x0, 0x0, 0xFFFFFFFF, 0x0⟩, -- BG_CNT
  ⟨0x060, 0x400, 1, 4, 1, 0x0, 0x0, 0x0, 0x0, 0x0, 0xFFFFFFFF, 0x0⟩, -- BG_CNT2
  ⟨0x064, 0x400, 1, 4, 1, 0x0, 0x0, 0x0, 0x0, 0x0, 0x0, 0x0⟩ -- BG_REJECT
  ]

/-- The block registers of page ALM. -/
def almRegs : List RegEnt := [
  ⟨0x040, 0x400, 1, 4, 1, 0x3C, 0x0, 0x7FF, 0x0, 0x0, 0x0, 0x0⟩, -- ALM_CFG
  ⟨0x044, 0x400, 1, 4, 1, 0x447002D0, 0x0, 0xFFFF3FFF, 0x0, 0x0, 0x0, 0x0⟩, -- ALM_FCFG
  ⟨0x048, 0x400, 1, 4, 1, 0x0, 0x0, 0x0, 0x0, 0x0, 0x0, 0x0⟩, -- ALM_STAT
  ⟨0x04C, 0x400, 1, 4, 1, 0x0, 0x0, 0x0, 0x0, 0x0, 0x0, 0x0⟩, -- ALM_ASEQ
  ⟨0x050, 0x400, 1, 4, 1, 0x0, 0x0, 0x0, 0x0, 0x0, 0x0, 0x0⟩, -- ALM_NEXT_S
  ⟨0x054, 0x400, 1, 4, 1, 0x0, 0x0, 0x0, 0x0, 0x0, 0x0, 0xFF00000F⟩, -- ALM_CMD
  ⟨0x058, 0x400, 1, 4, 1, 0x0, 0x0, 0x0, 0x0, 0x0, 0x0, 0x0⟩, -- ALM_CSTAT
  ⟨0x05C, 0x400, 1, 4, 1, 0x0, 0x0, 0x0, 0x101FF, 0x0, 0x0, 0x0⟩, -- ALM_WIN_IDX
  ⟨0x060, 0x400, 1, 4, 1, 0x0, 0x0, 0x0, 0x0, 0x0, 0x0, 0x0⟩, -- ALM_WIN_DATA
  ⟨0x064, 0x400, 1, 4, 1, 0x0, 0x0, 0x0, 0x0, 0x0, 0xFFFFFFFF, 0x0⟩, -- ALM_CNT
  ⟨0x068, 0x4, 7, 4, 1, 0xFFFFFFFF, 0x0, 0x0, 0x0, 0x0, 0x0, 0x0⟩, -- ALM_FC
  ⟨0x084, 0x400, 1, 4, 1, 0x0, 0x0, 0x0, 0x0, 0x0, 0x0, 0x0⟩ -- ALM_REJECT
  ]

/-- The block registers of page NVM. -/
def nvmRegs : List RegEnt := [
  ⟨0x040, 0x400, 1, 4, 1, 0xB532B80, 0x0, 0xFFFFFFF, 0x0, 0x0, 0x0, 0x0⟩, -- NVM_CFG
  ⟨0x044, 0x400, 1, 4, 1, 0x0, 0x0, 0x0, 0x0, 0x0, 0x0, 0xFF000001⟩, -- NVM_CMD
  ⟨0x048, 0x400, 1, 4, 1, 0x0, 0x0, 0x0, 0xFFFFFFFF, 0x0, 0x0, 0x0⟩, -- NVM_SRC
  ⟨0x04C, 0x400, 1, 4, 1, 0x0, 0x0, 0x0, 0x1FFFFF, 0x0, 0x0, 0x0⟩, -- NVM_OFS
  ⟨0x050, 0x400, 1, 4, 1, 0x10, 0x0, 0x0, 0x1FFF, 0x0, 0x0, 0x0⟩, -- NVM_LEN
  ⟨0x054, 0x400, 1, 4, 1, 0x0, 0x0, 0x0, 0x0, 0x0, 0x0, 0x0⟩, -- NVM_CSTAT
  ⟨0x058, 0x400, 1, 4, 1, 0x0, 0x0, 0x0, 0x0, 0x0, 0x0, 0x0⟩, -- NVM_QUEUE
  ⟨0x05C, 0x400, 1, 4, 1, 0x0, 0x0, 0x0, 0x0, 0x0, 0x0, 0x0⟩, -- NVM_CONF
  ⟨0x060, 0x400, 1, 4, 1, 0x0, 0x0, 0x0, 0x0, 0x0, 0x0, 0x0⟩, -- NVM_CSEQ
  ⟨0x064, 0x400, 1, 4, 1, 0x0, 0x0, 0x0, 0x0, 0x0, 0x0, 0x0⟩, -- NVM_LOAD
  ⟨0x068, 0x400, 1, 4, 1, 0x0, 0x0, 0x0, 0x0, 0x0, 0x0, 0x0⟩, -- NVM_STAT
  ⟨0x06C, 0x4, 7, 4, 1, 0x0, 0x0, 0x0, 0x0, 0x0, 0x0, 0x0⟩, -- NVM_WEAR
  ⟨0x088, 0x400, 1, 4, 1, 0x0, 0x0, 0x0, 0x0, 0x0, 0xFFFFFFFF, 0x0⟩, -- NVM_CNT
  ⟨0x08C, 0x400, 1, 4, 1, 0x0, 0x0, 0x0, 0x0, 0x0, 0x0, 0x0⟩, -- NVM_UNCORR_ADDR
  ⟨0x090, 0x400, 1, 4, 1, 0x0, 0x0, 0x0, 0x0, 0x0, 0x0, 0x0⟩ -- NVM_REJECT
  ]

/-- The block registers of page MEM. -/
def memRegs : List RegEnt := [
  ⟨0x040, 0x400, 1, 4, 1, 0x0, 0x0, 0x1F, 0x0, 0x0, 0x0, 0x0⟩, -- MEM_WIN
  ⟨0x044, 0x400, 1, 4, 1, 0x0, 0x0, 0x0, 0x0, 0x0, 0x0, 0x0⟩, -- MEM_STAT
  ⟨0x048, 0x400, 1, 4, 1, 0x0, 0x0, 0x0, 0x0, 0x0, 0x0, 0x0⟩, -- MEM_CORR_ADDR
  ⟨0x04C, 0x400, 1, 4, 1, 0x0, 0x0, 0x0, 0x0, 0x0, 0x0, 0x0⟩, -- MEM_UNCORR_ADDR
  ⟨0x050, 0x400, 1, 4, 1, 0x0, 0x0, 0x0, 0x0, 0x0, 0xFFFFFFFF, 0x0⟩, -- MEM_CNT
  ⟨0x054, 0x400, 1, 4, 1, 0x0, 0x0, 0x0, 0x0, 0x0, 0x0, 0xFF000000⟩, -- MEM_CMD
  ⟨0x058, 0x400, 1, 4, 1, 0x0, 0x0, 0x0, 0xFFFFFFFF, 0x0, 0x0, 0x0⟩, -- MEM_CMDADDR
  ⟨0x05C, 0x400, 1, 4, 1, 0x0, 0x0, 0x0, 0x0, 0x0, 0x0, 0x0⟩ -- MEM_REJECT
  ]

/-- The block registers of page LINE. -/
def lineRegs : List RegEnt := [
  ⟨0x040, 0x400, 1, 4, 1, 0xC1C0800, 0x0, 0xFFFFFF01, 0x0, 0x0, 0x0, 0x0⟩, -- LINE_CFG
  ⟨0x044, 0x400, 1, 4, 1, 0x0, 0x0, 0x0, 0x0, 0x0, 0x0, 0x0⟩, -- LINE_GEN
  ⟨0x048, 0x400, 1, 4, 1, 0x0, 0x0, 0x0, 0x0, 0x0, 0x0, 0x0⟩, -- LINE_SENSE
  ⟨0x04C, 0x400, 1, 4, 1, 0x81, 0x0, 0x0, 0x0, 0x0, 0x0, 0x0⟩, -- LINE_STAT
  ⟨0x050, 0x400, 1, 4, 1, 0x0, 0x0, 0x0, 0x0, 0x0, 0x0, 0x0⟩, -- LINE_MON
  ⟨0x054, 0x400, 1, 4, 1, 0x0, 0x0, 0x0, 0x0, 0x0, 0x0, 0x0⟩, -- LINE_BUDGET
  ⟨0x058, 0x400, 1, 4, 1, 0x0, 0x0, 0x0, 0x0, 0x0, 0xFFFFFFFF, 0x0⟩, -- LINE_CNT
  ⟨0x05C, 0x400, 1, 4, 1, 0x0, 0x0, 0x0, 0x0, 0x0, 0x0, 0x0⟩ -- LINE_REJECT
  ]

/-- The block registers of page LDAC. -/
def ldacRegs : List RegEnt := [
  ⟨0x040, 0x400, 1, 4, 1, 0x0, 0x0, 0xFFFF, 0x0, 0x0, 0x0, 0x0⟩, -- LDAC_CODE
  ⟨0x044, 0x400, 1, 4, 1, 0x200, 0x0, 0xFFFFFF73, 0x0, 0x0, 0x0, 0x0⟩, -- LDAC_CFG
  ⟨0x048, 0x400, 1, 4, 1, 0xE100E10, 0x0, 0xFFFFFFFF, 0x0, 0x0, 0x0, 0x0⟩, -- LDAC_SAFE
  ⟨0x04C, 0x400, 1, 4, 1, 0x52080E10, 0x0, 0xFFFFFFFF, 0x0, 0x0, 0x0, 0x0⟩, -- LDAC_ALARM
  ⟨0x050, 0x400, 1, 4, 1, 0x50140ED8, 0x0, 0xFFFFFFFF, 0x0, 0x0, 0x0, 0x0⟩, -- LDAC_SAT
  ⟨0x054, 0x400, 1, 4, 1, 0x4EC, 0x0, 0xFFFF, 0x0, 0x0, 0x0, 0x0⟩, -- LDAC_CLR
  ⟨0x058, 0x400, 1, 4, 1, 0x2580FA0, 0x0, 0xFFFFFFFF, 0x0, 0x0, 0x0, 0x0⟩, -- LDAC_TEST
  ⟨0x05C, 0x400, 1, 4, 1, 0x322801, 0x0, 0xFFFFFF01, 0x0, 0x0, 0x0, 0x0⟩, -- LDAC_TRIM
  ⟨0x060, 0x400, 1, 4, 1, 0x0, 0x0, 0xFFFFFFFF, 0x0, 0x0, 0x0, 0x0⟩, -- LDAC_UTRIM
  ⟨0x064, 0x400, 1, 4, 1, 0x0, 0x0, 0xFFFFFFFF, 0x0, 0x0, 0x0, 0x0⟩, -- LDAC_PV
  ⟨0x068, 0x400, 1, 4, 1, 0x0, 0x0, 0x0, 0x0, 0x0, 0x0, 0x0⟩, -- LDAC_OUT
  ⟨0x06C, 0x400, 1, 4, 1, 0x0, 0x0, 0x0, 0x0, 0x0, 0x0, 0x0⟩, -- LDAC_RB
  ⟨0x070, 0x400, 1, 4, 1, 0x0, 0x0, 0x0, 0x0, 0x0, 0x0, 0x0⟩, -- LDAC_STAT
  ⟨0x074, 0x400, 1, 4, 1, 0x0, 0x0, 0x0, 0x0, 0x0, 0xFFFFFFFF, 0x0⟩, -- LDAC_CNT
  ⟨0x078, 0x400, 1, 4, 1, 0x0, 0x0, 0x0, 0x0, 0x0, 0x0, 0x0⟩ -- LDAC_REJECT
  ]

/-- The block registers of page ADAC. -/
def adacRegs : List RegEnt := [
  ⟨0x040, 0x4, 2, 4, 1, 0x0, 0x0, 0x3FFF, 0x0, 0x0, 0x0, 0x0⟩, -- ADAC_CODE
  ⟨0x048, 0x4, 2, 4, 1, 0x0, 0x0, 0x3FFF0007, 0x0, 0x0, 0x0, 0x0⟩, -- ADAC_CFG
  ⟨0x050, 0x400, 1, 4, 1, 0x0, 0x0, 0x3FFF3FFF, 0x0, 0x0, 0x0, 0x0⟩, -- ADAC_CLR
  ⟨0x054, 0x400, 1, 4, 1, 0x0, 0x0, 0x0, 0x0, 0x0, 0x0, 0x0⟩, -- ADAC_STAT
  ⟨0x058, 0x400, 1, 4, 1, 0x0, 0x0, 0x0, 0x0, 0x0, 0xFFFFFFFF, 0x0⟩, -- ADAC_CNT
  ⟨0x05C, 0x400, 1, 4, 1, 0x0, 0x0, 0x0, 0x0, 0x0, 0x0, 0x0⟩ -- ADAC_REJECT
  ]

/-- The block registers of page FSK. -/
def fskRegs : List RegEnt := [
  ⟨0x040, 0x400, 1, 4, 1, 0x14050100, 0x0, 0xFF1F013F, 0x0, 0x0, 0x0, 0x0⟩, -- FSK_CFG
  ⟨0x044, 0x400, 1, 4, 1, 0x0, 0x0, 0x0, 0x0, 0x0, 0x0, 0x0⟩, -- FSK_ID
  ⟨0x048, 0x400, 1, 4, 1, 0x0, 0x0, 0x0, 0x0, 0x0, 0x0, 0x0⟩, -- FSK_DEVID
  ⟨0x050, 0x400, 1, 4, 1, 0x3E80100, 0x0, 0xFFFFFF01, 0x0, 0x0, 0x0, 0x0⟩, -- FSK_BURST
  ⟨0x054, 0x400, 1, 4, 1, 0x10203, 0x0, 0xFFFFFFFF, 0x0, 0x0, 0x0, 0x0⟩, -- FSK_BVARS
  ⟨0x058, 0x8, 4, 4, 1, 0x0, 0x0, 0xFFFFFFFF, 0x0, 0x0, 0x0, 0x0⟩, -- FSK_VAR_ADDR
  ⟨0x05C, 0x8, 4, 4, 1, 0xC0000, 0x100, 0xFFFFF, 0x0, 0x0, 0x0, 0x0⟩, -- FSK_VAR_CFG
  ⟨0x078, 0x400, 1, 4, 1, 0x0, 0x0, 0x0, 0x0, 0x0, 0x0, 0x0⟩, -- FSK_AD
  ⟨0x07C, 0x400, 1, 4, 1, 0x300, 0x0, 0x0, 0x0, 0x0, 0x0, 0x0⟩, -- FSK_STAT
  ⟨0x080, 0x400, 1, 4, 1, 0x0, 0x0, 0x0, 0x0, 0x0, 0xFFFFFFFF, 0x0⟩, -- FSK_CNT_RX
  ⟨0x084, 0x400, 1, 4, 1, 0x0, 0x0, 0x0, 0x0, 0x0, 0xFFFFFFFF, 0x0⟩, -- FSK_CNT_ERR
  ⟨0x088, 0x400, 1, 4, 1, 0x0, 0x0, 0x0, 0x0, 0x0, 0xFFFFFFFF, 0x0⟩, -- FSK_CNT_STR
  ⟨0x08C, 0x400, 1, 4, 1, 0x0, 0x0, 0x0, 0x0, 0x0, 0xFFFFFFFF, 0x0⟩, -- FSK_CNT_TX
  ⟨0x090, 0x400, 1, 4, 1, 0x0, 0x0, 0x0, 0x0, 0x0, 0xFFFFFFFF, 0x0⟩, -- FSK_CNT_BURST
  ⟨0x094, 0x400, 1, 4, 1, 0x0, 0x0, 0x0, 0x0, 0x0, 0x0, 0x0⟩, -- FSK_REJECT
  ⟨0x098, 0x400, 1, 4, 1, 0x0, 0x0, 0x0, 0x0, 0x0, 0x0, 0x0⟩, -- FSK_XSTAT
  ⟨0x09C, 0x400, 1, 4, 1, 0x0, 0x0, 0xFFFF, 0x0, 0x0, 0x0, 0x0⟩, -- FSK_XUSER
  ⟨0x100, 0x4, 5, 4, 1, 0x0, 0x0, 0xFFFFFFFF, 0x0, 0x0, 0x0, 0x0⟩, -- FSK_TEXT
  ⟨0x114, 0x4, 2, 4, 1, 0x0, 0x0, 0xFFFFFF, 0x0, 0x0, 0x0, 0x0⟩, -- FSK_TEXT_DF
  ⟨0x11C, 0x4, 14, 4, 1, 0x0, 0x0, 0xFFFFFFFF, 0x0, 0x0, 0x0, 0x0⟩ -- FSK_TEXT_ML
  ]

/-- The block registers of page TPHY. -/
def tphyRegs : List RegEnt := [
  ⟨0x040, 0x400, 1, 4, 1, 0x30007, 0x0, 0x7001F, 0x0, 0x0, 0x0, 0x0⟩, -- TPHY_CFG
  ⟨0x044, 0x400, 1, 4, 1, 0x0, 0x0, 0x0, 0x0, 0x0, 0x0, 0x0⟩, -- TPHY_STAT
  ⟨0x048, 0x400, 1, 4, 1, 0xFFFF, 0x0, 0x0, 0x0, 0x0, 0x0, 0x0⟩, -- TPHY_MSE
  ⟨0x04C, 0x400, 1, 4, 1, 0x0, 0x0, 0x0, 0x0, 0x0, 0xFFFFFFFF, 0x0⟩, -- TPHY_CNT
  ⟨0x050, 0x400, 1, 4, 1, 0x0, 0x0, 0x0, 0x0, 0x0, 0x0, 0x0⟩ -- TPHY_REJECT
  ]

/-- The block registers of page MAC. -/
def macRegs : List RegEnt := [
  ⟨0x040, 0x400, 1, 4, 1, 0x0, 0x0, 0x0, 0x0, 0x0, 0x0, 0x0⟩, -- MAC_ADDR_HI
  ⟨0x044, 0x400, 1, 4, 1, 0x0, 0x0, 0x0, 0x0, 0x0, 0x0, 0x0⟩, -- MAC_ADDR_LO
  ⟨0x048, 0x400, 1, 4, 1, 0x1, 0x0, 0xFFF001F, 0x0, 0x0, 0x0, 0x0⟩, -- MAC_FILT
  ⟨0x04C, 0x400, 1, 4, 1, 0x0, 0x0, 0xFFFF, 0x0, 0x0, 0x0, 0x0⟩, -- MAC_MC0_HI
  ⟨0x050, 0x400, 1, 4, 1, 0x0, 0x0, 0xFFFFFFFF, 0x0, 0x0, 0x0, 0x0⟩, -- MAC_MC0_LO
  ⟨0x054, 0x400, 1, 4, 1, 0x0, 0x0, 0xFFFF, 0x0, 0x0, 0x0, 0x0⟩, -- MAC_MC1_HI
  ⟨0x058, 0x400, 1, 4, 1, 0x0, 0x0, 0xFFFFFFFF, 0x0, 0x0, 0x0, 0x0⟩, -- MAC_MC1_LO
  ⟨0x05C, 0x400, 1, 4, 1, 0xC80020, 0x0, 0xFFFF00FF, 0x0, 0x0, 0x0, 0x0⟩, -- MAC_RATE
  ⟨0x060, 0x400, 1, 4, 1, 0x7D0, 0x0, 0xFFFF, 0x0, 0x0, 0x0, 0x0⟩, -- MAC_GRATE
  ⟨0x064, 0x400, 1, 4, 1, 0x606, 0x0, 0x0, 0x0, 0x0, 0x0, 0x0⟩, -- MAC_TX
  ⟨0x068, 0x400, 1, 4, 1, 0x0, 0x0, 0x0, 0x0, 0x0, 0x0, 0x0⟩, -- MAC_FLOOD_HI
  ⟨0x06C, 0x400, 1, 4, 1, 0x0, 0x0, 0x0, 0x0, 0x0, 0x0, 0x0⟩, -- MAC_FLOOD_LO
  ⟨0x070, 0x400, 1, 4, 1, 0x0, 0x0, 0x0, 0x0, 0x0, 0xFFFFFFFF, 0x0⟩, -- MAC_CNT_OK
  ⟨0x074, 0x400, 1, 4, 1, 0x0, 0x0, 0x0, 0x0, 0x0, 0xFFFFFFFF, 0x0⟩, -- MAC_CNT_ERR
  ⟨0x078, 0x400, 1, 4, 1, 0x0, 0x0, 0x0, 0x0, 0x0, 0xFFFFFFFF, 0x0⟩, -- MAC_CNT_DST
  ⟨0x07C, 0x400, 1, 4, 1, 0x0, 0x0, 0x0, 0x0, 0x0, 0xFFFFFFFF, 0x0⟩, -- MAC_CNT_TYPE
  ⟨0x080, 0x400, 1, 4, 1, 0x0, 0x0, 0x0, 0x0, 0x0, 0xFFFFFFFF, 0x0⟩, -- MAC_CNT_RATE
  ⟨0x084, 0x400, 1, 4, 1, 0x0, 0x0, 0x0, 0x0, 0x0, 0xFFFFFFFF, 0x0⟩, -- MAC_CNT_Q
  ⟨0x088, 0x400, 1, 4, 1, 0x0, 0x0, 0x0, 0x0, 0x0, 0x0, 0x0⟩ -- MAC_REJECT
  ]

/-- The block registers of page PTP. -/
def ptpRegs : List RegEnt := [
  ⟨0x040, 0x400, 1, 4, 1, 0x30008, 0x0, 0xFF1F407F, 0x0, 0x0, 0x0, 0x0⟩, -- PTP_CFG
  ⟨0x044, 0x400, 1, 4, 1, 0x2710, 0x0, 0xFFFF, 0x0, 0x0, 0x0, 0x0⟩, -- PTP_PDMAX
  ⟨0x048, 0x400, 1, 4, 1, 0x0, 0x0, 0xFFFFFFFF, 0x0, 0x0, 0x0, 0x0⟩, -- PTP_ASYM
  ⟨0x04C, 0x400, 1, 4, 1, 0x25, 0x0, 0xFFFF, 0x0, 0x0, 0x0, 0x0⟩, -- PTP_UTC
  ⟨0x050, 0x400, 1, 4, 1, 0x0, 0x0, 0x0, 0xFFFFFFFF, 0x0, 0x0, 0x0⟩, -- PTP_TODSET
  ⟨0x054, 0x400, 1, 4, 1, 0x0, 0x0, 0x0, 0x0, 0x0, 0x0, 0x0⟩, -- PTP_STAT
  ⟨0x058, 0x400, 1, 4, 1, 0x0, 0x0, 0x0, 0x0, 0x0, 0x0, 0x0⟩, -- PTP_GMID_HI
  ⟨0x05C, 0x400, 1, 4, 1, 0x0, 0x0, 0x0, 0x0, 0x0, 0x0, 0x0⟩, -- PTP_GMID_LO
  ⟨0x060, 0x400, 1, 4, 1, 0x0, 0x0, 0x0, 0x0, 0x0, 0x0, 0x0⟩, -- PTP_OFFSET
  ⟨0x064, 0x400, 1, 4, 1, 0x0, 0x0, 0x0, 0x0, 0x0, 0x0, 0x0⟩, -- PTP_PDELAY
  ⟨0x068, 0x400, 1, 4, 1, 0x0, 0x0, 0x0, 0x0, 0x0, 0x0, 0x0⟩, -- PTP_TOD_S
  ⟨0x06C, 0x400, 1, 4, 1, 0x0, 0x0, 0x0, 0x0, 0x0, 0x0, 0x0⟩, -- PTP_TOD_NS
  ⟨0x070, 0x400, 1, 4, 1, 0x0, 0x0, 0x0, 0x0, 0x0, 0xFFFFFFFF, 0x0⟩, -- PTP_CNT_RX
  ⟨0x074, 0x400, 1, 4, 1, 0x0, 0x0, 0x0, 0x0, 0x0, 0xFFFFFFFF, 0x0⟩, -- PTP_CNT_ERR
  ⟨0x078, 0x400, 1, 4, 1, 0x0, 0x0, 0x0, 0x0, 0x0, 0xFFFFFFFF, 0x0⟩, -- PTP_CNT_PD
  ⟨0x07C, 0x400, 1, 4, 1, 0x0, 0x0, 0x0, 0x0, 0x0, 0x0, 0x0⟩ -- PTP_REJECT
  ]

/-- The block registers of page PUB. -/
def pubRegs : List RegEnt := [
  ⟨0x040, 0x400, 1, 4, 1, 0x40000, 0x0, 0xFFF7F30F, 0x0, 0x0, 0x0, 0x0⟩, -- PUB_CFG
  ⟨0x044, 0x400, 1, 4, 1, 0x0, 0x0, 0x0, 0x0, 0x0, 0x0, 0x0⟩, -- PUB_STAT
  ⟨0x048, 0x400, 1, 4, 1, 0x4B, 0x0, 0xFF, 0x0, 0x0, 0x0, 0x0⟩, -- PUB_LIMIT
  ⟨0x04C, 0x400, 1, 4, 1, 0x0, 0x0, 0x0, 0x0, 0x0, 0x0, 0x0⟩, -- PUB_SIZE
  ⟨0x050, 0x400, 1, 4, 1, 0x0, 0x0, 0x0, 0x0, 0x0, 0x0, 0x0⟩, -- PUB_LOAD
  ⟨0x054, 0x400, 1, 4, 1, 0x0, 0x0, 0x0, 0x0, 0x0, 0x0, 0x0⟩, -- PUB_GST
  ⟨0x058, 0x400, 1, 4, 1, 0x0, 0x0, 0x0, 0x0, 0x0, 0x0, 0x0⟩, -- PUB_GSQ
  ⟨0x05C, 0x400, 1, 4, 1, 0x0, 0x0, 0x0, 0x0, 0x0, 0xFFFFFFFF, 0x0⟩, -- PUB_CNT
  ⟨0x060, 0x400, 1, 4, 1, 0x0, 0x0, 0x0, 0x0, 0x0, 0x0, 0x0⟩, -- PUB_REJECT
  ⟨0x064, 0x400, 1, 4, 1, 0x0, 0x0, 0x0, 0x0, 0x0, 0xFFFFFFFF, 0x0⟩, -- PUB_GCNT
  ⟨0x080, 0x80, 4, 4, 1, 0x40000001, 0x10100, 0xFFFFFF0F, 0x0, 0x0, 0x0, 0x0⟩, -- PUB_SCFG
  ⟨0x084, 0x80, 4, 4, 1, 0x1, 0x0, 0xFFFFFFFF, 0x0, 0x0, 0x0, 0x0⟩, -- PUB_SREV
  ⟨0x088, 0x80, 4, 4, 8, 0xC0000001, 0x0, 0xCF00FFFF, 0x0, 0x0, 0x0, 0x0⟩, -- PUB_SCH
  ⟨0x0A8, 0x80, 4, 4, 8, 0x0, 0x0, 0xFFFFFFFF, 0x0, 0x0, 0x0, 0x0⟩, -- PUB_SADDR
  ⟨0x0C8, 0x80, 4, 4, 9, 0x0, 0x0, 0xFFFFFFFF, 0x0, 0x0, 0x0, 0x0⟩, -- PUB_SVID
  ⟨0x0EC, 0x80, 4, 4, 1, 0x1, 0x0, 0x3F, 0x0, 0x0, 0x0, 0x0⟩, -- PUB_SIDLEN
  ⟨0x280, 0x400, 1, 4, 1, 0x0, 0x0, 0xFFFFFF00, 0x0, 0x0, 0x0, 0x0⟩, -- PUB_GCFG
  ⟨0x284, 0x400, 1, 4, 1, 0x1, 0x0, 0xFFFFFFFF, 0x0, 0x0, 0x0, 0x0⟩, -- PUB_GREV
  ⟨0x288, 0x400, 1, 4, 1, 0x3E80004, 0x0, 0xFFFF00FF, 0x0, 0x0, 0x0, 0x0⟩, -- PUB_GTIME
  ⟨0x28C, 0x400, 1, 4, 1, 0x0, 0x0, 0xFFFFFFFF, 0x0, 0x0, 0x0, 0x0⟩, -- PUB_GUSER
  ⟨0x290, 0x4, 8, 4, 1, 0x0, 0x0, 0xFFFFFFFF, 0x0, 0x0, 0x0, 0x0⟩, -- GOCBREF
  ⟨0x2B0, 0x4, 8, 4, 1, 0x0, 0x0, 0xFFFFFFFF, 0x0, 0x0, 0x0, 0x0⟩, -- DATSET
  ⟨0x2D0, 0x4, 8, 4, 1, 0x0, 0x0, 0xFFFFFFFF, 0x0, 0x0, 0x0, 0x0⟩, -- GOID
  ⟨0x2F0, 0x400, 1, 4, 1, 0x10101, 0x0, 0xFFFFFF, 0x0, 0x0, 0x0, 0x0⟩ -- PUB_GLEN
  ]

/-- The block registers of page ACC. -/
def accRegs : List RegEnt := [
  ⟨0x040, 0x400, 1, 4, 1, 0xCA630501, 0x0, 0xFFFF0F03, 0x0, 0x0, 0x0, 0x0⟩, -- ACC_CFG
  ⟨0x044, 0x400, 1, 4, 1, 0x64012C, 0x0, 0xFFF0FFF, 0x0, 0x0, 0x0, 0x0⟩, -- ACC_SESS
  ⟨0x048, 0x4, 4, 4, 1, 0x0, 0x0, 0xFFFFFFFF, 0x0, 0x0, 0x0, 0x0⟩, -- ACC_IP6
  ⟨0x058, 0x400, 1, 4, 1, 0x40, 0x0, 0xFF, 0x0, 0x0, 0x0, 0x0⟩, -- ACC_IP6_PFX
  ⟨0x05C, 0x4, 4, 4, 1, 0x0, 0x0, 0xFFFFFFFF, 0x0, 0x0, 0x0, 0x0⟩, -- ACC_IP6GW
  ⟨0x06C, 0x400, 1, 4, 1, 0x0, 0x0, 0xFFFFFFFF, 0x0, 0x0, 0x0, 0x0⟩, -- ACC_IP4
  ⟨0x070, 0x400, 1, 4, 1, 0xFFFFFF00, 0x0, 0xFFFFFFFF, 0x0, 0x0, 0x0, 0x0⟩, -- ACC_IP4MASK
  ⟨0x074, 0x400, 1, 4, 1, 0x0, 0x0, 0xFFFFFFFF, 0x0, 0x0, 0x0, 0x0⟩, -- ACC_IP4GW
  ⟨0x078, 0x400, 1, 4, 1, 0x0, 0x0, 0x0, 0xFF, 0x0, 0x0, 0x0⟩, -- ACC_NOTIFY
  ⟨0x080, 0x4, 4, 4, 1, 0x0, 0x0, 0x0, 0x0, 0x0, 0x0, 0x0⟩, -- ACC_SESSK
  ⟨0x090, 0x400, 1, 4, 1, 0x0, 0x0, 0x0, 0x0, 0x0, 0x0, 0x0⟩, -- ACC_KEYSTAT
  ⟨0x094, 0x400, 1, 4, 1, 0x0, 0x0, 0x0, 0x0, 0x0, 0x0, 0x0⟩, -- ACC_KEYROLE
  ⟨0x098, 0x400, 1, 4, 1, 0x0, 0x0, 0x0, 0x0, 0x0, 0x0, 0xFFFFFFFF⟩, -- ACC_KEYDATA
  ⟨0x09C, 0x400, 1, 4, 1, 0x0, 0x0, 0x0, 0x0, 0x0, 0x0, 0xFF000037⟩, -- ACC_KEYCMD
  ⟨0x0A0, 0x400, 1, 4, 1, 0x0, 0x0, 0x0, 0x0, 0x0, 0x0, 0x0⟩, -- ACC_PATCHVER
  ⟨0x0A4, 0x400, 1, 4, 1, 0x0, 0x0, 0x0, 0x0, 0x0, 0xFFFFFFFF, 0x0⟩, -- ACC_CNT_AUTH
  ⟨0x0A8, 0x400, 1, 4, 1, 0x0, 0x0, 0x0, 0x0, 0x0, 0xFFFFFFFF, 0x0⟩, -- ACC_CNT_ACC
  ⟨0x0AC, 0x400, 1, 4, 1, 0x0, 0x0, 0x0, 0x0, 0x0, 0xFFFFFFFF, 0x0⟩, -- ACC_CNT_YRAP
  ⟨0x0B0, 0x400, 1, 4, 1, 0x0, 0x0, 0x0, 0x0, 0x0, 0x0, 0x0⟩, -- ACC_CLOG_CNT
  ⟨0x0B4, 0x400, 1, 4, 1, 0x0, 0x0, 0x0, 0x1F, 0x0, 0x0, 0x0⟩, -- ACC_CLOG_IDX
  ⟨0x0B8, 0x400, 1, 4, 1, 0x0, 0x0, 0x0, 0x0, 0x0, 0x0, 0x0⟩, -- ACC_CLOG_W0
  ⟨0x0BC, 0x400, 1, 4, 1, 0x0, 0x0, 0x0, 0x0, 0x0, 0x0, 0x0⟩, -- ACC_CLOG_W1
  ⟨0x0C0, 0x400, 1, 4, 1, 0x0, 0x0, 0x0, 0x0, 0x0, 0x0, 0x0⟩, -- ACC_CLOG_W2
  ⟨0x0C4, 0x400, 1, 4, 1, 0x0, 0x0, 0x0, 0x0, 0x0, 0x0, 0x0⟩ -- ACC_REJECT
  ]

/-- The block registers of page SPI. -/
def spiRegs : List RegEnt := [
  ⟨0x040, 0x400, 1, 4, 1, 0x301, 0x0, 0x0, 0x301, 0x0, 0x0, 0x0⟩, -- SPI_CFG
  ⟨0x044, 0x400, 1, 4, 1, 0x0, 0x0, 0x0, 0x0, 0x0, 0x0, 0x0⟩, -- SPI_STAT
  ⟨0x048, 0x400, 1, 4, 1, 0x0, 0x0, 0x0, 0x0, 0x0, 0xFFFFFFFF, 0x0⟩, -- SPI_CNT
  ⟨0x04C, 0x400, 1, 4, 1, 0x0, 0x0, 0x0, 0x0, 0x0, 0xFF, 0x0⟩, -- SPI_CNT_CMD
  ⟨0x050, 0x4, 4, 4, 1, 0x0, 0x0, 0x0, 0x0, 0x0, 0x0, 0x0⟩ -- SPI_EVSUM
  ]

/-- The block registers of page XPT. -/
def xptRegs : List RegEnt := [
  ⟨0x040, 0x400, 1, 4, 1, 0x2, 0x0, 0xF, 0x0, 0x0, 0x0, 0x0⟩, -- XPT_CFG
  ⟨0x044, 0x400, 1, 4, 1, 0x0, 0x0, 0xFFFFFFFF, 0x0, 0x0, 0x0, 0x0⟩, -- XPT_RREF
  ⟨0x048, 0x400, 1, 4, 1, 0x0, 0x0, 0x0, 0x0, 0x0, 0x0, 0x0⟩, -- XPT_OPEN0
  ⟨0x04C, 0x400, 1, 4, 1, 0x0, 0x0, 0x0, 0x0, 0x0, 0x0, 0x0⟩, -- XPT_OPEN1
  ⟨0x050, 0x400, 1, 4, 1, 0x0, 0x0, 0x0, 0x0, 0x0, 0x0, 0x0⟩, -- XPT_LCHG0
  ⟨0x054, 0x400, 1, 4, 1, 0x0, 0x0, 0x0, 0x0, 0x0, 0x0, 0x0⟩, -- XPT_LCHG1
  ⟨0x058, 0x400, 1, 4, 1, 0x0, 0x0, 0x0, 0x0, 0x0, 0xFFFFFFFF, 0x0⟩, -- XPT_CNT
  ⟨0x05C, 0x400, 1, 4, 1, 0x0, 0x0, 0x0, 0x0, 0x0, 0x0, 0x0⟩, -- XPT_REJECT
  ⟨0x060, 0x400, 1, 4, 1, 0x0, 0x0, 0x0, 0x0, 0x0, 0x0, 0x0⟩, -- XPT_PINSTAT
  ⟨0x100, 0xC, 48, 4, 1, 0x0, 0x0, 0xFFFFFFFF, 0x0, 0x0, 0x0, 0x0⟩, -- XPT_SETUP_A
  ⟨0x104, 0xC, 48, 4, 1, 0xF000, 0x0, 0xEFC0FFF0, 0x0, 0x0, 0x0, 0x0⟩, -- XPT_SETUP_B
  ⟨0x108, 0xC, 48, 4, 1, 0x0, 0x0, 0xFFFFFFFF, 0x0, 0x0, 0x0, 0x0⟩, -- XPT_SETUP_C
  ⟨0x340, 0x4, 48, 4, 1, 0x0, 0x0, 0x0, 0x0, 0x0, 0x0, 0x0⟩ -- XPT_LEAD
  ]

/-- The block registers of page EXC. -/
def excRegs : List RegEnt := [
  ⟨0x040, 0x4, 6, 4, 1, 0x0, 0x0, 0x1FF, 0x0, 0x0, 0x0, 0x0⟩, -- EXC_OFS
  ⟨0x058, 0x400, 1, 4, 1, 0x0, 0x0, 0x0, 0x0, 0x0, 0x0, 0x0⟩, -- EXC_STAT
  ⟨0x05C, 0x400, 1, 4, 1, 0x0, 0x0, 0x0, 0x0, 0x0, 0x0, 0x0⟩, -- EXC_AVG01
  ⟨0x060, 0x400, 1, 4, 1, 0x0, 0x0, 0x0, 0x0, 0x0, 0x0, 0x0⟩, -- EXC_AVG23
  ⟨0x064, 0x400, 1, 4, 1, 0x0, 0x0, 0x0, 0x0, 0x0, 0x0, 0x0⟩, -- EXC_AVGBO
  ⟨0x068, 0x400, 1, 4, 1, 0x0, 0x0, 0x0, 0x0, 0x0, 0x0, 0x0⟩, -- EXC_TOTAL
  ⟨0x06C, 0x4, 4, 4, 1, 0x0, 0x0, 0x0, 0x0, 0x0, 0x0, 0x0⟩, -- EXC_TRIM
  ⟨0x07C, 0x400, 1, 4, 1, 0x0, 0x0, 0x0, 0x0, 0x0, 0xFFFFFFFF, 0x0⟩, -- EXC_CNT
  ⟨0x080, 0x400, 1, 4, 1, 0x0, 0x0, 0xFFFF, 0x0, 0x0, 0x0, 0x0⟩, -- EXC_AVGMAX
  ⟨0x084, 0x400, 1, 4, 1, 0x0, 0x0, 0x0, 0x0, 0x0, 0x0, 0x0⟩ -- EXC_REJECT
  ]

/-- The block registers of page LANE. -/
def laneRegs : List RegEnt := [
  ⟨0x040, 0x400, 1, 4, 1, 0x20500, 0x0, 0x87FF0F0F, 0x0, 0x0, 0x0, 0x0⟩, -- LANE_CFG
  ⟨0x044, 0x4, 2, 4, 1, 0x0, 0x0, 0x3F3F3F3F, 0x0, 0x0, 0x0, 0x0⟩, -- LANE_SEQ
  ⟨0x04C, 0x400, 1, 4, 1, 0x0, 0x0, 0x0, 0x0, 0x0, 0x0, 0x0⟩, -- LANE_STAT
  ⟨0x050, 0x400, 1, 4, 1, 0x0, 0x0, 0x0, 0x0, 0x0, 0xFFFFFFFF, 0x0⟩, -- LANE_CNT
  ⟨0x054, 0x400, 1, 4, 1, 0x0, 0x0, 0x0, 0x0, 0x0, 0x0, 0x0⟩, -- LANE_REJECT
  ⟨0x060, 0x4, 8, 4, 1, 0x0, 0x0, 0x0, 0x0, 0x0, 0x0, 0x0⟩, -- LANE_RES
  ⟨0x080, 0x4, 8, 4, 1, 0x0, 0x0, 0x0, 0x0, 0x0, 0x0, 0x0⟩, -- LANE_TAG
  ⟨0x100, 0x8, 8, 4, 1, 0x0, 0x0, 0x0, 0x0, 0x0, 0x0, 0x0⟩, -- LANE_CALOFS
  ⟨0x104, 0x8, 8, 4, 1, 0x0, 0x0, 0x0, 0x0, 0x0, 0x0, 0x0⟩ -- LANE_CALGAIN
  ]

/-- The block registers of page LANES. -/
def lanesRegs : List RegEnt := [
  ⟨0x040, 0x400, 1, 4, 1, 0x2580001, 0x0, 0xFFFF0001, 0x0, 0x0, 0x0, 0x0⟩, -- LANES_CAL
  ⟨0x044, 0x400, 1, 4, 1, 0x100, 0x0, 0xFFFF, 0x0, 0x0, 0x0, 0x0⟩, -- LANES_HMAX
  ⟨0x048, 0x400, 1, 4, 1, 0x700, 0x0, 0x0, 0x0, 0x0, 0x0, 0x0⟩, -- LANES_LS
  ⟨0x04C, 0x400, 1, 4, 1, 0x0, 0x0, 0x0, 0x73F, 0x0, 0x0, 0x80000000⟩, -- LANES_URG
  ⟨0x050, 0x400, 1, 4, 1, 0x0, 0x0, 0x0, 0x0, 0x0, 0x0, 0x0⟩, -- LANES_URG_RES
  ⟨0x054, 0x400, 1, 4, 1, 0x0, 0x0, 0x0, 0x0, 0x0, 0x0, 0x0⟩, -- LANES_URG_STAT
  ⟨0x058, 0x400, 1, 4, 1, 0x0, 0x0, 0x0, 0x0, 0x0, 0xFFFFFFFF, 0x0⟩, -- LANES_CNT
  ⟨0x05C, 0x400, 1, 4, 1, 0x0, 0x0, 0x0, 0x0, 0x0, 0xFFFFFFFF, 0x0⟩, -- LANES_CNT2
  ⟨0x060, 0x400, 1, 4, 1, 0x20000000, 0x0, 0xFFFFFFFF, 0x0, 0x0, 0x0, 0x0⟩, -- LANES_COLL
  ⟨0x064, 0x400, 1, 4, 1, 0x0, 0x0, 0x0, 0x0, 0x0, 0x0, 0x0⟩ -- LANES_REJECT
  ]

/-- The block registers of page FAST. -/
def fastRegs : List RegEnt := [
  ⟨0x040, 0x400, 1, 4, 1, 0x10180830, 0x0, 0xFF1F0F33, 0x0, 0x0, 0x0, 0x0⟩, -- FAST_CFG
  ⟨0x044, 0x400, 1, 4, 1, 0x831, 0x0, 0x1FFF, 0x0, 0x0, 0x0, 0x0⟩, -- FAST_MATCH
  ⟨0x048, 0x400, 1, 4, 1, 0x0, 0x0, 0xFFFFFFFF, 0x0, 0x0, 0x0, 0x0⟩, -- FAST_RING
  ⟨0x04C, 0x400, 1, 4, 1, 0x0, 0x0, 0xFFFF, 0x0, 0x0, 0x0, 0x0⟩, -- FAST_RLEN
  ⟨0x050, 0x400, 1, 4, 1, 0x0, 0x0, 0x0, 0x0, 0x0, 0x0, 0x0⟩, -- FAST_WORD
  ⟨0x054, 0x400, 1, 4, 1, 0x40000000, 0x0, 0x0, 0x0, 0x0, 0x0, 0x0⟩, -- FAST_GAIN
  ⟨0x058, 0x400, 1, 4, 1, 0x0, 0x0, 0x0, 0x0, 0x0, 0x0, 0x0⟩, -- FAST_OFS
  ⟨0x05C, 0x400, 1, 4, 1, 0xFFFFFF, 0x0, 0x0, 0x0, 0x0, 0x0, 0x0⟩, -- FAST_RESID
  ⟨0x060, 0x400, 1, 4, 1, 0x0, 0x0, 0x0, 0x0, 0x0, 0x0, 0x0⟩, -- FAST_STAT
  ⟨0x064, 0x400, 1, 4, 1, 0x0, 0x0, 0x0, 0x0, 0x0, 0xFFFFFFFF, 0x0⟩, -- FAST_CNT
  ⟨0x068, 0x400, 1, 4, 1, 0x0, 0x0, 0x0, 0x0, 0x0, 0xFFFF, 0x0⟩, -- FAST_CNT2
  ⟨0x06C, 0x400, 1, 4, 1, 0x0, 0x0, 0x0, 0x0, 0x0, 0x0, 0x0⟩, -- FAST_RPOS
  ⟨0x070, 0x400, 1, 4, 1, 0x0, 0x0, 0x0, 0x0, 0x0, 0x0, 0x0⟩ -- FAST_REJECT
  ]

/-- The block registers of page REC (part 1). -/
def recRegsA : List RegEnt := [
  ⟨0x040, 0x400, 1, 4, 1, 0xE1004B0, 0x0, 0xFFFFFFFF, 0x0, 0x0, 0x0, 0x0⟩, -- REC_CFG
  ⟨0x044, 0x400, 1, 4, 1, 0x201, 0x0, 0x373, 0x0, 0x0, 0x0, 0x0⟩, -- REC_ROW
  ⟨0x048, 0x400, 1, 4, 1, 0x20300000, 0x0, 0xFFFFFFFF, 0x0, 0x0, 0x0, 0x0⟩, -- REC_BUF
  ⟨0x04C, 0x400, 1, 4, 1, 0x80, 0x0, 0xFFFF, 0x0, 0x0, 0x0, 0x0⟩, -- REC_AREA
  ⟨0x050, 0x400, 1, 4, 1, 0x0, 0x0, 0xFFFFFFFF, 0x0, 0x0, 0x0, 0x0⟩, -- REC_XADDR
  ⟨0x054, 0x400, 1, 4, 1, 0x3C, 0x0, 0xFFF, 0x0, 0x0, 0x0, 0x0⟩, -- REC_ARCH
  ⟨0x060, 0xC, 4, 4, 1, 0x1, 0x0, 0x970000FF, 0x0, 0x0, 0x0, 0x0⟩, -- REC_TU_CFG
  ⟨0x064, 0xC, 4, 4, 1, 0x7FFFFFFF, 0x0, 0xFFFFFFFF, 0x0, 0x0, 0x0, 0x0⟩, -- REC_TU_HI
  ⟨0x068, 0xC, 4, 4, 1, 0x80000000, 0x0, 0xFFFFFFFF, 0x0, 0x0, 0x0, 0x0⟩, -- REC_TU_LO
  ⟨0x090, 0x400, 1, 4, 1, 0x0, 0x0, 0x1F1F, 0x0, 0x0, 0x0, 0x0⟩, -- REC_EDGE
  ⟨0x094, 0x400, 1, 4, 1, 0x0, 0x0, 0x80FFFFFF, 0x0, 0x0, 0x0, 0x0⟩, -- REC_VTRIG
  ⟨0x098, 0x400, 1, 4, 1, 0x0, 0x0, 0xFFFF, 0x0, 0x0, 0x0, 0x0⟩, -- REC_VMASK
  ⟨0x09C, 0x400, 1, 4, 1, 0x0, 0x0, 0x0, 0x0, 0x0, 0x0, 0x1⟩, -- REC_TRIG
  ⟨0x0A0, 0x400, 1, 4, 1, 0x0, 0x0, 0x0, 0x0, 0x0, 0x0, 0x0⟩, -- REC_STAT
  ⟨0x0A4, 0x400, 1, 4, 1, 0x0, 0x0, 0x0, 0x0, 0x0, 0x0, 0x0⟩, -- REC_HIST
  ⟨0x0A8, 0x400, 1, 4, 1, 0x0, 0x0, 0x0, 0x0, 0x0, 0x0, 0x0⟩, -- REC_LAST
  ⟨0x0AC, 0x400, 1, 4, 1, 0x0, 0x0, 0x0, 0xFFFFFFFF, 0x0, 0x0, 0x0⟩, -- REC_ACK
  ⟨0x0B0, 0x400, 1, 4, 1, 0x0, 0x0, 0x0, 0xFFFFFFFF, 0x0, 0x0, 0x0⟩, -- REC_FIND
  ⟨0x0B4, 0x400, 1, 4, 1, 0x0, 0x0, 0x0, 0x0, 0x0, 0x0, 0x0⟩, -- REC_FOUND_STAT
  ⟨0x0B8, 0x400, 1, 4, 1, 0x0, 0x0, 0x0, 0x0, 0x0, 0x0, 0x0⟩, -- REC_FOUND_ADDR
  ⟨0x0BC, 0x400, 1, 4, 1, 0x0, 0x0, 0x0, 0x0, 0x0, 0x0, 0x0⟩, -- REC_FOUND_LEN
  ⟨0x0C0, 0x400, 1, 4, 1, 0x0, 0x0, 0x0, 0x0, 0x0, 0xFFFFFFFF, 0x0⟩, -- REC_CNT
  ⟨0x0C4, 0x400, 1, 4, 1, 0x0, 0x0, 0x0, 0x0, 0x0, 0xFFFFFFFF, 0x0⟩, -- REC_CNT_ARCH
  ⟨0x0C8, 0x400, 1, 4, 1, 0x0, 0x0, 0x0, 0x0, 0x0, 0xFFFFFFFF, 0x0⟩ -- REC_CNT_CHAIN
  ]

/-- The block registers of page REC (part 2). -/
def recRegsB : List RegEnt := [
  ⟨0x0CC, 0x400, 1, 4, 1, 0x0, 0x0, 0x0, 0x0, 0x0, 0x0, 0x0⟩, -- REC_MLOG_CNT
  ⟨0x0D0, 0x400, 1, 4, 1, 0x0, 0x0, 0x0, 0xF, 0x0, 0x0, 0x0⟩, -- REC_MLOG_IDX
  ⟨0x0D4, 0x400, 1, 4, 1, 0x0, 0x0, 0x0, 0x0, 0x0, 0x0, 0x0⟩, -- REC_MLOG_W0
  ⟨0x0D8, 0x400, 1, 4, 1, 0x0, 0x0, 0x0, 0x0, 0x0, 0x0, 0x0⟩, -- REC_MLOG_W1
  ⟨0x0DC, 0x400, 1, 4, 1, 0x0, 0x0, 0x0, 0x0, 0x0, 0x0, 0x0⟩, -- REC_MLOG_W2
  ⟨0x0E0, 0x400, 1, 4, 1, 0x0, 0x0, 0x0, 0x0, 0x0, 0x0, 0x0⟩ -- REC_REJECT
  ]

/-- The block registers of page REC. -/
def recRegs : List RegEnt := recRegsA ++ recRegsB

/-- The block registers of page ARR. -/
def arrRegs : List RegEnt := [
  ⟨0x040, 0x400, 1, 4, 1, 0xB36E0000, 0x0, 0xFFFF0103, 0x0, 0x0, 0x0, 0x0⟩, -- ARR_CFG
  ⟨0x044, 0x400, 1, 4, 1, 0x112C0, 0x0, 0xFFFFFFFF, 0x0, 0x0, 0x0, 0x0⟩, -- ARR_RUN
  ⟨0x048, 0x400, 1, 4, 1, 0x20000000, 0x0, 0xFFFFFFFF, 0x0, 0x0, 0x0, 0x0⟩, -- ARR_IN
  ⟨0x04C, 0x400, 1, 4, 1, 0x20000000, 0x0, 0xFFFFFFFF, 0x0, 0x0, 0x0, 0x0⟩, -- ARR_OUT
  ⟨0x050, 0x400, 1, 4, 1, 0x20000000, 0x0, 0xFFFFFFFF, 0x0, 0x0, 0x0, 0x0⟩, -- ARR_ARENA
  ⟨0x054, 0x400, 1, 4, 1, 0x0, 0x0, 0x0, 0x0, 0x0, 0x0, 0x1⟩, -- ARR_GO
  ⟨0x058, 0x400, 1, 4, 1, 0x1F1000, 0x0, 0x0, 0x0, 0x0, 0x0, 0x0⟩, -- ARR_STAT
  ⟨0x05C, 0x400, 1, 4, 1, 0x0, 0x0, 0x0, 0x0, 0x0, 0x0, 0x0⟩, -- ARR_VERDICT
  ⟨0x060, 0x400, 1, 4, 1, 0x0, 0x0, 0x0, 0x0, 0x0, 0x0, 0x0⟩, -- ARR_VTICK
  ⟨0x064, 0x400, 1, 4, 1, 0x0, 0x0, 0x0, 0x0, 0x0, 0x0, 0x0⟩, -- ARR_VAGE
  ⟨0x068, 0x400, 1, 4, 1, 0x0, 0x0, 0x0, 0x0, 0x0, 0x0, 0x0⟩, -- ARR_VNOW
  ⟨0x06C, 0x400, 1, 4, 1, 0x0, 0x0, 0x0, 0x0, 0x0, 0x0, 0x0⟩, -- ARR_SCORE
  ⟨0x070, 0x400, 1, 4, 1, 0x0, 0x0, 0x0, 0x0, 0x0, 0x0, 0x0⟩, -- ARR_RETIRED
  ⟨0x074, 0x400, 1, 4, 1, 0x0, 0x0, 0x0, 0x0, 0x0, 0x0, 0xFF00001F⟩, -- ARR_CELLCMD
  ⟨0x078, 0x400, 1, 4, 1, 0x0, 0x0, 0x0, 0x0, 0x0, 0x0, 0x0⟩, -- ARR_CMDSTAT
  ⟨0x07C, 0x400, 1, 4, 1, 0x0, 0x0, 0x0, 0x0, 0x0, 0x0, 0x0⟩, -- ARR_ABORT
  ⟨0x080, 0x400, 1, 4, 1, 0x0, 0x0, 0x0, 0x0, 0x0, 0xFFFFFFFF, 0x0⟩, -- ARR_CNT
  ⟨0x084, 0x400, 1, 4, 1, 0x0, 0x0, 0x0, 0x0, 0x0, 0xFFFFFFFF, 0x0⟩, -- ARR_CNT2
  ⟨0x088, 0x400, 1, 4, 1, 0x0, 0x0, 0x0, 0x0, 0x0, 0xFFFFFFFF, 0x0⟩, -- ARR_TILES
  ⟨0x08C, 0x400, 1, 4, 1, 0x0, 0x0, 0x0, 0x0, 0x0, 0x0, 0x0⟩, -- ARR_MSTAT
  ⟨0x090, 0x400, 1, 4, 1, 0x0, 0x0, 0x0, 0x0, 0x0, 0x0, 0x0⟩, -- ARR_MVALID
  ⟨0x094, 0x400, 1, 4, 1, 0x0, 0x0, 0x0, 0x0, 0x0, 0x0, 0x0⟩ -- ARR_REJECT
  ]

/-- The block registers of page CELL. -/
def cellRegs : List RegEnt := [
  ⟨0x040, 0x400, 1, 4, 1, 0x0, 0x0, 0x0, 0x0, 0x0, 0x0, 0x0⟩, -- CELL_STAT
  ⟨0x044, 0x400, 1, 4, 1, 0x0, 0x0, 0x0, 0x0, 0x0, 0x0, 0x0⟩, -- CELL_TEMP
  ⟨0x048, 0x400, 1, 4, 1, 0x0, 0x0, 0x0, 0x0, 0x0, 0x0, 0x0⟩, -- CELL_WORK
  ⟨0x04C, 0x400, 1, 4, 1, 0x0, 0x0, 0x0, 0x0, 0x0, 0xFFFFFFFF, 0x0⟩, -- CELL_CNT
  ⟨0x050, 0x400, 1, 4, 1, 0x0, 0x0, 0x0, 0x0, 0x0, 0x0, 0x0⟩, -- CELL_RET
  ⟨0x054, 0x400, 1, 4, 1, 0x0, 0x0, 0x0, 0x0, 0x0, 0x0, 0x0⟩ -- CELL_RETTICK
  ]

/-- The block registers of page DMA. -/
def dmaRegs : List RegEnt := [
  ⟨0x040, 0x400, 1, 4, 1, 0xB3, 0x0, 0xFF, 0x0, 0x0, 0x0, 0x0⟩, -- DMA_CFG
  ⟨0x044, 0x400, 1, 4, 1, 0x0, 0x0, 0x0, 0x0, 0x0, 0x0, 0x0⟩, -- DMA_STAT
  ⟨0x048, 0x400, 1, 4, 1, 0x0, 0x0, 0x0, 0x0, 0x0, 0x0, 0x0⟩, -- DMA_META
  ⟨0x04C, 0x400, 1, 4, 1, 0x0, 0x0, 0x0, 0x0, 0x0, 0xFFFFFFFF, 0x0⟩, -- DMA_CNT
  ⟨0x050, 0x400, 1, 4, 1, 0x0, 0x0, 0x0, 0x0, 0x0, 0xFFFFFFFF, 0x0⟩, -- DMA_CNT2
  ⟨0x054, 0x400, 1, 4, 1, 0x0, 0x0, 0x0, 0x0, 0x0, 0xFFFF, 0x0⟩, -- DMA_CNT3
  ⟨0x058, 0x400, 1, 4, 1, 0x0, 0x0, 0x0, 0x0, 0x0, 0x0, 0x0⟩, -- DMA_REJECT
  ⟨0x080, 0x20, 8, 4, 1, 0x0, 0x0, 0xFF00FFFF, 0x0, 0x0, 0x0, 0x0⟩, -- DMA_JOB_CFG
  ⟨0x084, 0x20, 8, 4, 1, 0x0, 0x0, 0xFFFFFFFF, 0x0, 0x0, 0x0, 0x0⟩, -- DMA_JOB_SRC
  ⟨0x088, 0x20, 8, 4, 1, 0x0, 0x0, 0xFFFFFFFF, 0x0, 0x0, 0x0, 0x0⟩, -- DMA_JOB_DST
  ⟨0x08C, 0x20, 8, 4, 1, 0x0, 0x0, 0xFFFFFF, 0x0, 0x0, 0x0, 0x0⟩, -- DMA_JOB_RLEN
  ⟨0x090, 0x20, 8, 4, 1, 0x0, 0x0, 0x0, 0x0, 0x0, 0x0, 0x0⟩, -- DMA_JOB_POS
  ⟨0x094, 0x20, 8, 4, 1, 0x0, 0x0, 0x0, 0x0, 0x0, 0x0, 0x0⟩ -- DMA_JOB_LAST
  ]

/-- The block registers of page PRUNE. -/
def pruneRegs : List RegEnt := [
  ⟨0x040, 0x400, 1, 4, 1, 0x1040800, 0x0, 0x30F0F00, 0x0, 0x0, 0x0, 0x0⟩, -- PRUNE_CFG
  ⟨0x044, 0x400, 1, 4, 1, 0x140C0008, 0x0, 0x1F1F00FF, 0x0, 0x0, 0x0, 0x0⟩, -- PRUNE_LRATE
  ⟨0x048, 0x400, 1, 4, 1, 0x8, 0x0, 0x1F, 0x0, 0x0, 0x0, 0x0⟩, -- PRUNE_FWD
  ⟨0x04C, 0x400, 1, 4, 1, 0x400000, 0x0, 0xFFFFFFFF, 0x0, 0x0, 0x0, 0x0⟩, -- PRUNE_EPOCH
  ⟨0x050, 0x400, 1, 4, 1, 0x0, 0x0, 0xFFFFFFFF, 0x0, 0x0, 0x0, 0x0⟩, -- PRUNE_SAMP
  ⟨0x054, 0x400, 1, 4, 1, 0x1000, 0x0, 0xFFFFFF, 0x0, 0x0, 0x0, 0x0⟩, -- PRUNE_SLEN
  ⟨0x058, 0x400, 1, 4, 1, 0x21C000, 0x0, 0xFFFFFF00, 0x0, 0x0, 0x0, 0x0⟩, -- PRUNE_SMIN
  ⟨0x05C, 0x400, 1, 4, 1, 0x168, 0x0, 0xFFFF, 0x0, 0x0, 0x0, 0x0⟩, -- PRUNE_SMIN2
  ⟨0x060, 0x400, 1, 4, 1, 0x0, 0x0, 0xFFFFFFFF, 0x0, 0x0, 0x0, 0x0⟩, -- PRUNE_HEAD
  ⟨0x064, 0x400, 1, 4, 1, 0x0, 0x0, 0xFFFFFFFF, 0x0, 0x0, 0x0, 0x0⟩, -- PRUNE_TGT
  ⟨0x068, 0x400, 1, 4, 1, 0x0, 0x0, 0x0, 0x0, 0x0, 0x0, 0xFF000001⟩, -- PRUNE_CMD
  ⟨0x06C, 0x400, 1, 4, 1, 0x0, 0x0, 0x0, 0x0, 0x0, 0x0, 0x0⟩, -- PRUNE_LSTAT
  ⟨0x070, 0x400, 1, 4, 1, 0x0, 0x0, 0x0, 0x0, 0x0, 0x0, 0x0⟩, -- PRUNE_LPROG
  ⟨0x074, 0x400, 1, 4, 1, 0x0, 0x0, 0x0, 0x0, 0x0, 0x0, 0x0⟩, -- PRUNE_LCNT
  ⟨0x078, 0x400, 1, 4, 1, 0x0, 0x0, 0x0, 0x0, 0x0, 0x0, 0x0⟩, -- PRUNE_HSTAT
  ⟨0x07C, 0x400, 1, 4, 1, 0x0, 0x0, 0x0, 0x0, 0x0, 0x0, 0x0⟩, -- PRUNE_PRES
  ⟨0x080, 0x400, 1, 4, 1, 0x0, 0x0, 0x0, 0x0, 0x0, 0x0, 0x0⟩, -- PRUNE_HLEN
  ⟨0x084, 0x400, 1, 4, 1, 0x0, 0x0, 0x0, 0x0, 0x0, 0x0, 0x0⟩ -- PRUNE_REJECT
  ]

/-- The block registers of page KEYS. -/
def keysRegs : List RegEnt := [
  ⟨0x040, 0x400, 1, 4, 1, 0x14020102, 0x0, 0x7F0F0713, 0x0, 0x0, 0x0, 0x0⟩, -- KEYS_CFG
  ⟨0x044, 0x400, 1, 4, 1, 0xC80064, 0x0, 0xFFF0FFF, 0x0, 0x0, 0x0, 0x0⟩, -- KEYS_TH
  ⟨0x048, 0x400, 1, 4, 1, 0x1E103C, 0x0, 0xFFFFFFFF, 0x0, 0x0, 0x0, 0x0⟩, -- KEYS_TIME
  ⟨0x04C, 0x400, 1, 4, 1, 0x64000A, 0x0, 0xFFFFFFFF, 0x0, 0x0, 0x0, 0x0⟩, -- KEYS_TRIM
  ⟨0x050, 0x400, 1, 4, 1, 0x0, 0x0, 0xFFFF, 0x0, 0x0, 0x0, 0x0⟩, -- KEYS_LOCK
  ⟨0x054, 0x400, 1, 4, 1, 0x4, 0x0, 0xF, 0x0, 0x0, 0x0, 0x0⟩, -- KEYS_LED
  ⟨0x058, 0x400, 1, 4, 1, 0x0, 0x0, 0x0, 0x0, 0x0, 0x0, 0x0⟩, -- KEYS_STAT
  ⟨0x060, 0x4, 3, 4, 1, 0x0, 0x0, 0x0, 0x0, 0x0, 0x0, 0x0⟩, -- KEYS_SIG
  ⟨0x06C, 0x400, 1, 4, 1, 0x0, 0x0, 0x0, 0x0, 0x0, 0x0, 0x0⟩, -- KEYS_SEQ
  ⟨0x070, 0x400, 1, 4, 1, 0x0, 0x0, 0x0, 0x0, 0x0, 0xFFFFFFFF, 0x0⟩, -- KEYS_CNT
  ⟨0x074, 0x400, 1, 4, 1, 0x0, 0x0, 0x0, 0x0, 0x0, 0xFFFFFF, 0x0⟩, -- KEYS_CNT2
  ⟨0x078, 0x400, 1, 4, 1, 0x0, 0x0, 0x0, 0x0, 0x0, 0x0, 0xFF000000⟩, -- KEYS_CMD
  ⟨0x07C, 0x400, 1, 4, 1, 0x0, 0x0, 0x0, 0x0, 0x0, 0x0, 0x0⟩ -- KEYS_REJECT
  ]

/-- The block registers of page GPIO. -/
def gpioRegs : List RegEnt := [
  ⟨0x040, 0x400, 1, 4, 1, 0x0, 0x0, 0x3F3F3F3F, 0x0, 0x0, 0x0, 0x0⟩, -- GPIO_CFG
  ⟨0x044, 0x400, 1, 4, 1, 0x0, 0x0, 0xF, 0x0, 0x0, 0x0, 0x0⟩, -- GPIO_OUT
  ⟨0x048, 0x400, 1, 4, 1, 0x0, 0x0, 0x0, 0x0, 0x0, 0x0, 0x0⟩, -- GPIO_IN
  ⟨0x04C, 0x400, 1, 4, 1, 0x0, 0x0, 0x0, 0x0, 0xF0F, 0x0, 0x0⟩, -- GPIO_EDGE
  ⟨0x050, 0x400, 1, 4, 1, 0x0, 0x0, 0x0, 0x0, 0x0, 0x0, 0x0⟩ -- GPIO_REJECT
  ]

/-- The mapped pages (R29, R740); none for every other page number. -/
def pageEnt (p : Nat) : Option PageEnt :=
  if 0x22 ≤ p ∧ p ≤ 0x27 then some ⟨.ana, 5, 0xD5000000⟩ -- LANE0–LANE5
  else if 0x29 ≤ p ∧ p ≤ 0x2A then some ⟨.ana, 5, 0xD5000000⟩ -- FAST0, FAST1
  else if 0x31 ≤ p ∧ p ≤ 0x41 then some ⟨.arr, 7, 0x17000000⟩ -- CELL00–CELL16
  else match p with
  | 0x00 => some ⟨.aon, 0, 0x20000000⟩ -- SYS
  | 0x01 => some ⟨.aon, 0, 0x30000000⟩ -- RST
  | 0x02 => some ⟨.aon, 0, 0xF0000000⟩ -- PWR
  | 0x03 => some ⟨.aon, 0, 0xF0000000⟩ -- GOV
  | 0x04 => some ⟨.aon, 0, 0xF0000000⟩ -- CLK
  | 0x05 => some ⟨.aon, 0, 0xF0000000⟩ -- TICK
  | 0x06 => some ⟨.core, 0, 0xD0000000⟩ -- PLAN
  | 0x07 => some ⟨.aon, 1, 0xF1000000⟩ -- FLT0
  | 0x08 => some ⟨.aon, 1, 0xE1000000⟩ -- FLT1
  | 0x09 => some ⟨.core, 1, 0xD1000000⟩ -- BIST
  | 0x0A => some ⟨.core, 1, 0xD1000000⟩ -- BG
  | 0x0B => some ⟨.core, 1, 0xD1000000⟩ -- ALM
  | 0x0C => some ⟨.core, 1, 0xF1000000⟩ -- NVM
  | 0x0D => some ⟨.core, 1, 0xD1000000⟩ -- MEM
  | 0x10 => some ⟨.loop, 2, 0xD2000000⟩ -- LINE
  | 0x11 => some ⟨.loop, 2, 0xD2000000⟩ -- LDAC
  | 0x12 => some ⟨.ana, 2, 0xD2000000⟩ -- ADAC
  | 0x13 => some ⟨.link, 3, 0xD3000000⟩ -- FSK
  | 0x14 => some ⟨.link, 3, 0xD3000000⟩ -- TPHY
  | 0x15 => some ⟨.link, 3, 0xD3000000⟩ -- MAC
  | 0x16 => some ⟨.link, 3, 0xD3000000⟩ -- PTP
  | 0x17 => some ⟨.link, 3, 0xD3000000⟩ -- PUB
  | 0x18 => some ⟨.link, 4, 0xF4000000⟩ -- ACC
  | 0x19 => some ⟨.core, 4, 0x14000000⟩ -- SPI
  | 0x20 => some ⟨.ana, 5, 0xD5000000⟩ -- XPT
  | 0x21 => some ⟨.ana, 5, 0xD5000000⟩ -- EXC
  | 0x28 => some ⟨.ana, 5, 0xD5000000⟩ -- LANES
  | 0x2C => some ⟨.core, 6, 0xD6000000⟩ -- REC
  | 0x30 => some ⟨.arr, 7, 0xD7000000⟩ -- ARR
  | 0x42 => some ⟨.core, 7, 0xD7000000⟩ -- DMA
  | 0x43 => some ⟨.core, 7, 0xD7000000⟩ -- PRUNE
  | 0x48 => some ⟨.aon, 6, 0xD6000000⟩ -- KEYS
  | 0x49 => some ⟨.aon, 6, 0xC6000000⟩ -- GPIO
  | _ => none

/-- The block registers of page `p`. -/
def pageRegs (p : Nat) : List RegEnt :=
  if 0x22 ≤ p ∧ p ≤ 0x27 then laneRegs
  else if 0x29 ≤ p ∧ p ≤ 0x2A then fastRegs
  else if 0x31 ≤ p ∧ p ≤ 0x41 then cellRegs
  else match p with
  | 0x00 => sysRegs
  | 0x01 => rstRegs
  | 0x02 => pwrRegs
  | 0x03 => govRegs
  | 0x04 => clkRegs
  | 0x05 => tickRegs
  | 0x06 => planRegs
  | 0x07 => flt0Regs
  | 0x08 => flt1Regs
  | 0x09 => bistRegs
  | 0x0A => bgRegs
  | 0x0B => almRegs
  | 0x0C => nvmRegs
  | 0x0D => memRegs
  | 0x10 => lineRegs
  | 0x11 => ldacRegs
  | 0x12 => adacRegs
  | 0x13 => fskRegs
  | 0x14 => tphyRegs
  | 0x15 => macRegs
  | 0x16 => ptpRegs
  | 0x17 => pubRegs
  | 0x18 => accRegs
  | 0x19 => spiRegs
  | 0x20 => xptRegs
  | 0x21 => excRegs
  | 0x28 => lanesRegs
  | 0x2C => recRegs
  | 0x30 => arrRegs
  | 0x42 => dmaRegs
  | 0x43 => pruneRegs
  | 0x48 => keysRegs
  | 0x49 => gpioRegs
  | _ => []

end Sys2Proof.Machine
end

