-- ==== Sys2Proof/Machine/Fields.lean ====
section
/-! DEFINITION. The names of the register fields: each names its page, offset, bits and whether it is RWS, as the register
tables of the chapters give them. A field of a register array takes the array's indices, a field of the LANE, FAST
and CELL pages the number of the page among its kind. Written out from the tables of spec/. -/

namespace Sys2Proof.Machine.F

/-! ### Page SYS -/

abbrev SYS_ID_PART : Fld := ⟨0x00, 0x040, 31, 16, false⟩
abbrev SYS_ID_STEP : Fld := ⟨0x00, 0x040, 15, 8, false⟩
abbrev SYS_ID_GRADE : Fld := ⟨0x00, 0x040, 7, 0, false⟩
abbrev SYS_STRAP_BOOTSEL : Fld := ⟨0x00, 0x044, 8, 8, false⟩
abbrev SYS_STRAP_GEN : Fld := ⟨0x00, 0x044, 5, 4, false⟩
abbrev SYS_GEN_LATCH_MS : Fld := ⟨0x00, 0x048, 31, 16, false⟩
abbrev SYS_GEN_HOW : Fld := ⟨0x00, 0x048, 9, 8, false⟩
abbrev SYS_GEN_GEN : Fld := ⟨0x00, 0x048, 1, 0, false⟩
abbrev SYS_BOOT0_ROM_US : Fld := ⟨0x00, 0x04C, 31, 16, false⟩
abbrev SYS_BOOT0_CFG_US : Fld := ⟨0x00, 0x04C, 15, 0, false⟩
abbrev SYS_BOOT1_CEIL_MS : Fld := ⟨0x00, 0x050, 31, 16, false⟩
abbrev SYS_BOOT1_FIRST_MS : Fld := ⟨0x00, 0x050, 15, 0, false⟩
abbrev SYS_BSTAT_DONE : Fld := ⟨0x00, 0x054, 7, 7, false⟩
abbrev SYS_BSTAT_FIRST_OK : Fld := ⟨0x00, 0x054, 6, 6, false⟩
abbrev SYS_BSTAT_CEIL : Fld := ⟨0x00, 0x054, 5, 5, false⟩
abbrev SYS_BSTAT_CORE_TEST : Fld := ⟨0x00, 0x054, 4, 4, false⟩
abbrev SYS_BSTAT_SEQ_HOLD : Fld := ⟨0x00, 0x054, 3, 3, false⟩
abbrev SYS_BSTAT_CFG_LOADED : Fld := ⟨0x00, 0x054, 2, 2, false⟩
abbrev SYS_BSTAT_PATCHED : Fld := ⟨0x00, 0x054, 1, 1, false⟩
abbrev SYS_BSTAT_ROM_OK : Fld := ⟨0x00, 0x054, 0, 0, false⟩

/-! ### Page RST -/

abbrev RST_CAUSE_CAUSE : Fld := ⟨0x01, 0x040, 31, 24, false⟩
abbrev RST_CAUSE_CLASS : Fld := ⟨0x01, 0x040, 17, 16, false⟩
abbrev RST_CAUSE_INFO : Fld := ⟨0x01, 0x040, 15, 0, false⟩
abbrev RST_HIST_BITS : Fld := ⟨0x01, 0x044, 8, 1, false⟩
abbrev RST_CMD_OP : Fld := ⟨0x01, 0x048, 31, 24, false⟩
abbrev RST_CMD_CONFIRM : Fld := ⟨0x01, 0x048, 15, 0, false⟩
abbrev RST_PREVTICK_TICK : Fld := ⟨0x01, 0x04C, 31, 0, false⟩

/-! ### Page PWR -/

abbrev PWR_CFG_LULL_RET : Fld := ⟨0x02, 0x040, 31, 16, true⟩
abbrev PWR_CFG_RETRY_GAP : Fld := ⟨0x02, 0x040, 15, 8, true⟩
abbrev PWR_CFG_RETRY : Fld := ⟨0x02, 0x040, 2, 0, true⟩
abbrev PWR_WAKE_EN_FAULT : Fld := ⟨0x02, 0x044, 5, 5, false⟩
abbrev PWR_WAKE_EN_KEY : Fld := ⟨0x02, 0x044, 4, 4, true⟩
abbrev PWR_WAKE_EN_ALARM : Fld := ⟨0x02, 0x044, 3, 3, true⟩
abbrev PWR_WAKE_EN_WAKE_IN : Fld := ⟨0x02, 0x044, 2, 2, true⟩
abbrev PWR_WAKE_EN_KNOCK : Fld := ⟨0x02, 0x044, 1, 1, true⟩
abbrev PWR_WAKE_EN_LINE : Fld := ⟨0x02, 0x044, 0, 0, true⟩
abbrev PWR_WAKE_CFG_G2_TH_MV : Fld := ⟨0x02, 0x048, 31, 24, true⟩
abbrev PWR_WAKE_CFG_G3_CNT : Fld := ⟨0x02, 0x048, 23, 16, true⟩
abbrev PWR_WAKE_CFG_WAKE_IN_POL : Fld := ⟨0x02, 0x048, 8, 8, true⟩
abbrev PWR_WAKE_CFG_KEY_MASK : Fld := ⟨0x02, 0x048, 2, 0, true⟩
abbrev PWR_ALARM_LO_LO : Fld := ⟨0x02, 0x04C, 31, 0, true⟩
abbrev PWR_ALARM_HI_HI : Fld := ⟨0x02, 0x050, 15, 0, true⟩
abbrev PWR_ALARM_PER_PERIOD : Fld := ⟨0x02, 0x054, 31, 0, true⟩
abbrev PWR_SLEEP_GO : Fld := ⟨0x02, 0x058, 31, 31, false⟩
abbrev PWR_SLEEP_TARGET : Fld := ⟨0x02, 0x058, 1, 0, false⟩
abbrev PWR_STAT_RETAINED : Fld := ⟨0x02, 0x05C, 31, 16, false⟩
abbrev PWR_STAT_RETRY_LEFT : Fld := ⟨0x02, 0x05C, 10, 8, false⟩
abbrev PWR_STAT_ENTRY : Fld := ⟨0x02, 0x05C, 6, 4, false⟩
abbrev PWR_STAT_STATE : Fld := ⟨0x02, 0x05C, 1, 0, false⟩
abbrev PWR_RESULT_RESULT : Fld := ⟨0x02, 0x060, 31, 24, false⟩
abbrev PWR_RESULT_REASON : Fld := ⟨0x02, 0x060, 23, 16, false⟩
abbrev PWR_RESULT_BLOCK : Fld := ⟨0x02, 0x060, 15, 12, false⟩
abbrev PWR_RESULT_WHY : Fld := ⟨0x02, 0x060, 11, 8, false⟩
abbrev PWR_RESULT_WAKE_IN_ENTRY : Fld := ⟨0x02, 0x060, 7, 7, false⟩
abbrev PWR_RESULT_TARGET : Fld := ⟨0x02, 0x060, 1, 0, false⟩
abbrev PWR_WAKE_SRC_FIRST : Fld := ⟨0x02, 0x064, 10, 8, false⟩
abbrev PWR_WAKE_SRC_LATCH : Fld := ⟨0x02, 0x064, 5, 0, false⟩
abbrev PWR_WTIME_TICK : Fld := ⟨0x02, 0x068, 31, 0, false⟩
abbrev PWR_DOM_MEM : Fld := ⟨0x02, 0x06C, 31, 16, false⟩
abbrev PWR_DOM_ARR : Fld := ⟨0x02, 0x06C, 5, 5, false⟩
abbrev PWR_DOM_CORE : Fld := ⟨0x02, 0x06C, 4, 4, false⟩
abbrev PWR_DOM_LINK : Fld := ⟨0x02, 0x06C, 3, 3, false⟩
abbrev PWR_DOM_ANA : Fld := ⟨0x02, 0x06C, 2, 2, false⟩
abbrev PWR_DOM_LOOP : Fld := ⟨0x02, 0x06C, 1, 1, false⟩
abbrev PWR_DOM_AON : Fld := ⟨0x02, 0x06C, 0, 0, false⟩
abbrev PWR_CNT_SLEEPS : Fld := ⟨0x02, 0x070, 31, 16, false⟩
abbrev PWR_CNT_REFUSED : Fld := ⟨0x02, 0x070, 15, 8, false⟩
abbrev PWR_CNT_WAKE_IN_ENTRY : Fld := ⟨0x02, 0x070, 7, 0, false⟩
abbrev PWR_CNT2_REJECTED : Fld := ⟨0x02, 0x074, 31, 16, false⟩
abbrev PWR_CNT2_RETRIES : Fld := ⟨0x02, 0x074, 15, 0, false⟩
abbrev PWR_FROST_EST_UA : Fld := ⟨0x02, 0x078, 15, 0, false⟩
abbrev PWR_REJECT_REASON : Fld := ⟨0x02, 0x07C, 7, 0, false⟩

/-! ### Page GOV -/

abbrev GOV_CFG_P_CEIL : Fld := ⟨0x03, 0x040, 30, 28, true⟩
abbrev GOV_CFG_P_FLOOR : Fld := ⟨0x03, 0x040, 26, 24, true⟩
abbrev GOV_CFG_GUAR_CELLS : Fld := ⟨0x03, 0x040, 20, 16, true⟩
abbrev GOV_CFG_UP_HOLD : Fld := ⟨0x03, 0x040, 15, 8, true⟩
abbrev GOV_CFG_BURST_EN : Fld := ⟨0x03, 0x040, 0, 0, true⟩
abbrev GOV_MARGIN_HEADROOM_UA : Fld := ⟨0x03, 0x044, 31, 16, true⟩
abbrev GOV_MARGIN_MARGIN_UA : Fld := ⟨0x03, 0x044, 9, 0, true⟩
abbrev GOV_BUDGET_BUDGET_UA : Fld := ⟨0x03, 0x048, 19, 0, true⟩
abbrev GOV_LOW_BELOW_MAX : Fld := ⟨0x03, 0x04C, 23, 16, true⟩
abbrev GOV_LOW_LOW_UA : Fld := ⟨0x03, 0x04C, 15, 0, true⟩
abbrev GOV_GATE_GATE_OK : Fld := ⟨0x03, 0x050, 15, 0, true⟩
abbrev GOV_RES_RES_CRES_UF : Fld := ⟨0x03, 0x054, 27, 16, true⟩
abbrev GOV_RES_RES_CHG_MAX : Fld := ⟨0x03, 0x054, 3, 0, true⟩
abbrev GOV_RESV_RES_VMAX : Fld := ⟨0x03, 0x058, 31, 16, true⟩
abbrev GOV_RESV_RES_VSTOP : Fld := ⟨0x03, 0x058, 15, 0, true⟩
abbrev GOV_STAT_LEVEL : Fld := ⟨0x03, 0x05C, 31, 29, false⟩
abbrev GOV_STAT_NEXT : Fld := ⟨0x03, 0x05C, 28, 26, false⟩
abbrev GOV_STAT_EMERG : Fld := ⟨0x03, 0x05C, 24, 24, false⟩
abbrev GOV_STAT_BELOW : Fld := ⟨0x03, 0x05C, 23, 23, false⟩
abbrev GOV_STAT_BURST : Fld := ⟨0x03, 0x05C, 22, 22, false⟩
abbrev GOV_STAT_CHG : Fld := ⟨0x03, 0x05C, 21, 21, false⟩
abbrev GOV_STAT_TXCAP : Fld := ⟨0x03, 0x05C, 20, 20, false⟩
abbrev GOV_STAT_RISE_HOLD : Fld := ⟨0x03, 0x05C, 16, 16, false⟩
abbrev GOV_STAT_LIVE : Fld := ⟨0x03, 0x05C, 4, 0, false⟩
abbrev GOV_DRAW_DRAW : Fld := ⟨0x03, 0x060, 19, 0, false⟩
abbrev GOV_CAP_CAP : Fld := ⟨0x03, 0x064, 19, 0, false⟩
abbrev GOV_FLOW_CRES : Fld := ⟨0x03, 0x068, 31, 16, false⟩
abbrev GOV_FLOW_CHG : Fld := ⟨0x03, 0x068, 15, 0, false⟩
abbrev GOV_RESQ_RES_Q_UC : Fld := ⟨0x03, 0x06C, 31, 16, false⟩
abbrev GOV_RESQ_VRES : Fld := ⟨0x03, 0x06C, 15, 0, false⟩
abbrev GOV_BANKS_PINNED : Fld := ⟨0x03, 0x070, 31, 16, false⟩
abbrev GOV_BANKS_GATED : Fld := ⟨0x03, 0x070, 15, 0, false⟩
abbrev GOV_EMINFO_BEFORE : Fld := ⟨0x03, 0x074, 31, 29, false⟩
abbrev GOV_EMINFO_AFTER : Fld := ⟨0x03, 0x074, 28, 26, false⟩
abbrev GOV_EMINFO_TICK : Fld := ⟨0x03, 0x074, 15, 0, false⟩
abbrev GOV_CNT_EMERG : Fld := ⟨0x03, 0x078, 31, 16, false⟩
abbrev GOV_CNT_LEVEL : Fld := ⟨0x03, 0x078, 15, 0, false⟩
abbrev GOV_CNT2_BURSTS : Fld := ⟨0x03, 0x07C, 31, 16, false⟩
abbrev GOV_CNT2_EXHAUST : Fld := ⟨0x03, 0x07C, 15, 0, false⟩
abbrev GOV_CNT3_REFUSED : Fld := ⟨0x03, 0x080, 31, 16, false⟩
abbrev GOV_CNT3_PARKED : Fld := ⟨0x03, 0x080, 15, 0, false⟩
abbrev GOV_REJECT_REASON : Fld := ⟨0x03, 0x084, 7, 0, false⟩
abbrev GOV_COST_BASE (i : Nat) : Fld := ⟨0x03, 0x090 + 0x4 * i, 31, 16, false⟩
abbrev GOV_COST_CELL (i : Nat) : Fld := ⟨0x03, 0x090 + 0x4 * i, 15, 0, false⟩
abbrev GOV_COSTB_BANK_UA : Fld := ⟨0x03, 0x0A8, 15, 0, false⟩

/-! ### Page CLK -/

abbrev CLK_CFG_ABB_EN : Fld := ⟨0x04, 0x040, 1, 1, true⟩
abbrev CLK_CFG_AVS_EN : Fld := ⟨0x04, 0x040, 0, 0, true⟩
abbrev CLK_STAT_VCORE : Fld := ⟨0x04, 0x044, 31, 16, false⟩
abbrev CLK_STAT_BLOCKED : Fld := ⟨0x04, 0x044, 13, 8, false⟩
abbrev CLK_STAT_CHANGING : Fld := ⟨0x04, 0x044, 7, 7, false⟩
abbrev CLK_STAT_FBB : Fld := ⟨0x04, 0x044, 6, 6, false⟩
abbrev CLK_STAT_ASSIST : Fld := ⟨0x04, 0x044, 5, 5, false⟩
abbrev CLK_STAT_AVS_LIMIT : Fld := ⟨0x04, 0x044, 4, 4, false⟩
abbrev CLK_STAT_PLL_LOCK : Fld := ⟨0x04, 0x044, 3, 3, false⟩
abbrev CLK_STAT_LEVEL : Fld := ⟨0x04, 0x044, 2, 0, false⟩
abbrev CLK_TRIM0_P3 : Fld := ⟨0x04, 0x048, 31, 24, false⟩
abbrev CLK_TRIM0_P2 : Fld := ⟨0x04, 0x048, 23, 16, false⟩
abbrev CLK_TRIM0_P1 : Fld := ⟨0x04, 0x048, 15, 8, false⟩
abbrev CLK_TRIM0_P0 : Fld := ⟨0x04, 0x048, 7, 0, false⟩
abbrev CLK_TRIM1_P5 : Fld := ⟨0x04, 0x04C, 15, 8, false⟩
abbrev CLK_TRIM1_P4 : Fld := ⟨0x04, 0x04C, 7, 0, false⟩
abbrev CLK_TMON_MARGIN : Fld := ⟨0x04, 0x050, 9, 8, false⟩
abbrev CLK_CNT_AVS_UP : Fld := ⟨0x04, 0x054, 31, 16, false⟩
abbrev CLK_CNT_AVS_LIMIT : Fld := ⟨0x04, 0x054, 15, 0, false⟩
abbrev CLK_REJECT_REASON : Fld := ⟨0x04, 0x058, 7, 0, false⟩

/-! ### Page TICK -/

abbrev TICK_CFG_PPS_OUT_EN : Fld := ⟨0x05, 0x040, 9, 9, true⟩
abbrev TICK_CFG_PPS_EDGE : Fld := ⟨0x05, 0x040, 8, 8, true⟩
abbrev TICK_CFG_TIME_REQ : Fld := ⟨0x05, 0x040, 7, 7, true⟩
abbrev TICK_CFG_RC_ALLOW : Fld := ⟨0x05, 0x040, 6, 6, true⟩
abbrev TICK_CFG_PPS_EN : Fld := ⟨0x05, 0x040, 5, 5, true⟩
abbrev TICK_CFG_PTP_EN : Fld := ⟨0x05, 0x040, 4, 4, true⟩
abbrev TICK_CFG_RATE : Fld := ⟨0x05, 0x040, 1, 0, true⟩
abbrev TICK_HOLD_HOLDOVER_LIMIT : Fld := ⟨0x05, 0x044, 11, 0, true⟩
abbrev TICK_STAT_HOLD_S : Fld := ⟨0x05, 0x048, 31, 16, false⟩
abbrev TICK_STAT_SYNCED : Fld := ⟨0x05, 0x048, 8, 8, false⟩
abbrev TICK_STAT_STATE : Fld := ⟨0x05, 0x048, 5, 4, false⟩
abbrev TICK_STAT_SRC : Fld := ⟨0x05, 0x048, 2, 0, false⟩
abbrev TICK_PHASE_PHASE : Fld := ⟨0x05, 0x04C, 31, 0, false⟩
abbrev TICK_FREQ_FREQ : Fld := ⟨0x05, 0x050, 31, 0, false⟩
abbrev TICK_NUM_LO_LO : Fld := ⟨0x05, 0x054, 31, 0, false⟩
abbrev TICK_NUM_HI_HI : Fld := ⟨0x05, 0x058, 15, 0, false⟩
abbrev TICK_SECIDX_VALID : Fld := ⟨0x05, 0x05C, 16, 16, false⟩
abbrev TICK_SECIDX_IDX : Fld := ⟨0x05, 0x05C, 13, 0, false⟩
abbrev TICK_CNT_RELABEL : Fld := ⟨0x05, 0x060, 31, 16, false⟩
abbrev TICK_CNT_SRCCHG : Fld := ⟨0x05, 0x060, 15, 8, false⟩
abbrev TICK_CNT_GUARD : Fld := ⟨0x05, 0x060, 7, 0, false⟩
abbrev TICK_REJECT_REASON : Fld := ⟨0x05, 0x064, 7, 0, false⟩

/-! ### Page PLAN -/

abbrev PLAN_CTRL_FRAME_K : Fld := ⟨0x06, 0x040, 11, 8, true⟩
abbrev PLAN_CTRL_BANK : Fld := ⟨0x06, 0x040, 0, 0, true⟩
abbrev PLAN_WIN_ADDR_AINC : Fld := ⟨0x06, 0x044, 16, 16, false⟩
abbrev PLAN_WIN_ADDR_WBANK : Fld := ⟨0x06, 0x044, 12, 12, false⟩
abbrev PLAN_WIN_ADDR_INDEX : Fld := ⟨0x06, 0x044, 10, 0, false⟩
abbrev PLAN_WIN_DATA_DATA : Fld := ⟨0x06, 0x048, 31, 0, false⟩
abbrev PLAN_VSTAT_REASON : Fld := ⟨0x06, 0x04C, 31, 24, false⟩
abbrev PLAN_VSTAT_TEMPLATE : Fld := ⟨0x06, 0x04C, 23, 21, false⟩
abbrev PLAN_VSTAT_SLOT : Fld := ⟨0x06, 0x04C, 20, 16, false⟩
abbrev PLAN_VSTAT_ENTRY : Fld := ⟨0x06, 0x04C, 15, 6, false⟩
abbrev PLAN_VSTAT_OK : Fld := ⟨0x06, 0x04C, 0, 0, false⟩
abbrev PLAN_REJECT_REASON : Fld := ⟨0x06, 0x050, 31, 24, false⟩
abbrev PLAN_REJECT_TEMPLATE : Fld := ⟨0x06, 0x050, 23, 21, false⟩
abbrev PLAN_REJECT_SLOT : Fld := ⟨0x06, 0x050, 20, 16, false⟩
abbrev PLAN_REJECT_ENTRY : Fld := ⟨0x06, 0x050, 15, 6, false⟩
abbrev PLAN_REJECT_OK : Fld := ⟨0x06, 0x050, 0, 0, false⟩
abbrev PLAN_POS_FRAME_NUM : Fld := ⟨0x06, 0x054, 31, 16, false⟩
abbrev PLAN_POS_SIG_ARG : Fld := ⟨0x06, 0x054, 15, 12, false⟩
abbrev PLAN_POS_FRAME_POS : Fld := ⟨0x06, 0x054, 9, 0, false⟩
abbrev PLAN_STAT_TEMPLATE : Fld := ⟨0x06, 0x058, 14, 12, false⟩
abbrev PLAN_STAT_WIN_ERR : Fld := ⟨0x06, 0x058, 1, 1, false⟩
abbrev PLAN_STAT_RUNNING : Fld := ⟨0x06, 0x058, 0, 0, false⟩
abbrev PLAN_DL_INFO_ABORTED : Fld := ⟨0x06, 0x05C, 12, 12, false⟩
abbrev PLAN_DL_INFO_CAUSE : Fld := ⟨0x06, 0x05C, 11, 8, false⟩
abbrev PLAN_DL_INFO_TEMPLATE : Fld := ⟨0x06, 0x05C, 7, 5, false⟩
abbrev PLAN_DL_INFO_SLOT : Fld := ⟨0x06, 0x05C, 4, 0, false⟩
abbrev PLAN_DL_TICK_TICK : Fld := ⟨0x06, 0x060, 31, 0, false⟩
abbrev PLAN_CNT_DL_COUNT : Fld := ⟨0x06, 0x064, 31, 0, false⟩
abbrev PLAN_CNT_O_SKIP : Fld := ⟨0x06, 0x068, 31, 20, false⟩
abbrev PLAN_CNT_O_OVERRUN : Fld := ⟨0x06, 0x068, 19, 10, false⟩
abbrev PLAN_CNT_O_GOV : Fld := ⟨0x06, 0x068, 9, 0, false⟩
abbrev PLAN_CNT_B_COUNT : Fld := ⟨0x06, 0x06C, 31, 0, false⟩
abbrev PLAN_SLACK_LAST : Fld := ⟨0x06, 0x070, 31, 16, false⟩
abbrev PLAN_SLACK_MIN : Fld := ⟨0x06, 0x070, 15, 0, false⟩

/-! ### Page FLT0 -/

abbrev FLT_CFG_CALM : Fld := ⟨0x07, 0x040, 31, 16, true⟩
abbrev FLT_CFG_RECOV_MAX : Fld := ⟨0x07, 0x040, 11, 8, true⟩
abbrev FLT_CFG_ALIVE_M : Fld := ⟨0x07, 0x040, 7, 4, true⟩
abbrev FLT_CFG_ALIVE_EN : Fld := ⟨0x07, 0x040, 0, 0, true⟩
abbrev FLT_STAT_STATE : Fld := ⟨0x07, 0x044, 31, 30, false⟩
abbrev FLT_STAT_ENTRY_SRC : Fld := ⟨0x07, 0x044, 23, 16, false⟩
abbrev FLT_STAT_RECOV_24H : Fld := ⟨0x07, 0x044, 15, 12, false⟩
abbrev FLT_STAT_TRAPS : Fld := ⟨0x07, 0x044, 11, 8, false⟩
abbrev FLT_STAT_ALIVE : Fld := ⟨0x07, 0x044, 0, 0, false⟩
abbrev FLT_CALM_CALM : Fld := ⟨0x07, 0x048, 21, 0, false⟩
abbrev FLT_TRAP_PEND : Fld := ⟨0x07, 0x04C, 31, 31, false⟩
abbrev FLT_TRAP_ID : Fld := ⟨0x07, 0x04C, 23, 16, false⟩
abbrev FLT_TRAP_TSEQ : Fld := ⟨0x07, 0x04C, 15, 0, false⟩
abbrev FLT_TRAP_ACK_TSEQ : Fld := ⟨0x07, 0x050, 15, 0, false⟩
abbrev FLT_CMD_OP : Fld := ⟨0x07, 0x054, 31, 24, false⟩
abbrev FLT_CMD_CONFIRM : Fld := ⟨0x07, 0x054, 15, 0, false⟩
abbrev FLT_CNT_RECOVERY : Fld := ⟨0x07, 0x058, 31, 16, false⟩
abbrev FLT_CNT_LOCKOUTS : Fld := ⟨0x07, 0x058, 15, 8, false⟩
abbrev FLT_CNT_TRAP_LOST : Fld := ⟨0x07, 0x058, 7, 4, false⟩
abbrev FLT_CNT_ACK_MISS : Fld := ⟨0x07, 0x058, 3, 0, false⟩
abbrev FLT_REC_CNT_NEXT : Fld := ⟨0x07, 0x05C, 19, 16, false⟩
abbrev FLT_REC_CNT_TOTAL : Fld := ⟨0x07, 0x05C, 15, 0, false⟩
abbrev FLT_REC_IDX_IDX : Fld := ⟨0x07, 0x060, 3, 0, false⟩
abbrev FLT_REC_W0_TICK : Fld := ⟨0x07, 0x064, 31, 0, false⟩
abbrev FLT_REC_W1_ID : Fld := ⟨0x07, 0x068, 31, 24, false⟩
abbrev FLT_REC_W1_REACTION : Fld := ⟨0x07, 0x068, 23, 21, false⟩
abbrev FLT_REC_W1_ESCALATED : Fld := ⟨0x07, 0x068, 20, 20, false⟩
abbrev FLT_REC_W1_INJECTED : Fld := ⟨0x07, 0x068, 19, 19, false⟩
abbrev FLT_REC_W1_IN_FAULT : Fld := ⟨0x07, 0x068, 18, 18, false⟩
abbrev FLT_REC_W1_CONVERTED : Fld := ⟨0x07, 0x068, 17, 17, false⟩
abbrev FLT_REC_W1_ALT : Fld := ⟨0x07, 0x068, 16, 16, false⟩
abbrev FLT_REC_W1_INFO : Fld := ⟨0x07, 0x068, 15, 0, false⟩
abbrev FLT_PEND_BITS (i : Nat) : Fld := ⟨0x07, 0x06C + 0x4 * i, 31, 0, false⟩
abbrev FLT_MASK_BITS (i : Nat) : Fld := ⟨0x07, 0x074 + 0x4 * i, 31, 0, false⟩
abbrev FLT_ESC_SEL : Fld := ⟨0x07, 0x07C, 23, 16, false⟩
abbrev FLT_ESC_C : Fld := ⟨0x07, 0x07C, 7, 0, false⟩
abbrev FLT_REJECT_ID : Fld := ⟨0x07, 0x084, 14, 8, false⟩
abbrev FLT_REJECT_REASON : Fld := ⟨0x07, 0x084, 7, 0, false⟩
abbrev FLT_SRC_W (i : Nat) : Fld := ⟨0x07, 0x100 + 0x4 * i, 31, 16, true⟩
abbrev FLT_SRC_N (i : Nat) : Fld := ⟨0x07, 0x100 + 0x4 * i, 15, 8, true⟩
abbrev FLT_SRC_ESC (i : Nat) : Fld := ⟨0x07, 0x100 + 0x4 * i, 6, 4, true⟩
abbrev FLT_SRC_BASE (i : Nat) : Fld := ⟨0x07, 0x100 + 0x4 * i, 2, 0, true⟩
abbrev FLT_SCNT_ODD (i : Nat) : Fld := ⟨0x07, 0x200 + 0x4 * i, 31, 16, false⟩
abbrev FLT_SCNT_EVEN (i : Nat) : Fld := ⟨0x07, 0x200 + 0x4 * i, 15, 0, false⟩

/-! ### Page FLT1 -/

abbrev FLT1_PEND_BITS (i : Nat) : Fld := ⟨0x08, 0x06C + 0x4 * i, 31, 0, false⟩
abbrev FLT1_MASK_BITS (i : Nat) : Fld := ⟨0x08, 0x074 + 0x4 * i, 31, 0, false⟩
abbrev FLT1_REJECT_ID : Fld := ⟨0x08, 0x084, 14, 8, false⟩
abbrev FLT1_REJECT_REASON : Fld := ⟨0x08, 0x084, 7, 0, false⟩
abbrev FLT1_SRC_W (i : Nat) : Fld := ⟨0x08, 0x100 + 0x4 * i, 31, 16, true⟩
abbrev FLT1_SRC_N (i : Nat) : Fld := ⟨0x08, 0x100 + 0x4 * i, 15, 8, true⟩
abbrev FLT1_SRC_ESC (i : Nat) : Fld := ⟨0x08, 0x100 + 0x4 * i, 6, 4, true⟩
abbrev FLT1_SRC_BASE (i : Nat) : Fld := ⟨0x08, 0x100 + 0x4 * i, 2, 0, true⟩
abbrev FLT1_SCNT_ODD (i : Nat) : Fld := ⟨0x08, 0x200 + 0x4 * i, 31, 16, false⟩
abbrev FLT1_SCNT_EVEN (i : Nat) : Fld := ⟨0x08, 0x200 + 0x4 * i, 15, 0, false⟩

/-! ### Page BIST -/

abbrev BIST_CFG_SLICE_US : Fld := ⟨0x09, 0x040, 21, 16, true⟩
abbrev BIST_CFG_START_CORE : Fld := ⟨0x09, 0x040, 2, 2, true⟩
abbrev BIST_CFG_IDLE_EN : Fld := ⟨0x09, 0x040, 1, 1, true⟩
abbrev BIST_CFG_ROT_EN : Fld := ⟨0x09, 0x040, 0, 0, true⟩
abbrev BIST_STAT_CELL : Fld := ⟨0x09, 0x044, 31, 27, false⟩
abbrev BIST_STAT_SEG : Fld := ⟨0x09, 0x044, 26, 24, false⟩
abbrev BIST_STAT_PAT : Fld := ⟨0x09, 0x044, 23, 15, false⟩
abbrev BIST_STAT_ROM_BAD : Fld := ⟨0x09, 0x044, 6, 6, false⟩
abbrev BIST_STAT_ROT_PEND : Fld := ⟨0x09, 0x044, 5, 5, false⟩
abbrev BIST_STAT_REQ_RUN : Fld := ⟨0x09, 0x044, 4, 4, false⟩
abbrev BIST_STAT_IDLE_MODE : Fld := ⟨0x09, 0x044, 3, 3, false⟩
abbrev BIST_STAT_RUNNING : Fld := ⟨0x09, 0x044, 2, 2, false⟩
abbrev BIST_START_LINK_EN : Fld := ⟨0x09, 0x048, 5, 5, false⟩
abbrev BIST_START_LINK_RAN : Fld := ⟨0x09, 0x048, 4, 4, false⟩
abbrev BIST_START_LINK_PASS : Fld := ⟨0x09, 0x048, 3, 3, false⟩
abbrev BIST_START_CORE_RAN : Fld := ⟨0x09, 0x048, 2, 2, false⟩
abbrev BIST_START_CORE_PASS : Fld := ⟨0x09, 0x048, 1, 1, false⟩
abbrev BIST_LAST_CELL : Fld := ⟨0x09, 0x04C, 31, 27, false⟩
abbrev BIST_LAST_RESULT : Fld := ⟨0x09, 0x04C, 25, 24, false⟩
abbrev BIST_LAST_SEG : Fld := ⟨0x09, 0x04C, 2, 0, false⟩
abbrev BIST_LTICK_TICK : Fld := ⟨0x09, 0x050, 31, 0, false⟩
abbrev BIST_ROT_BITS : Fld := ⟨0x09, 0x054, 16, 0, false⟩
abbrev BIST_CNT_PASSED : Fld := ⟨0x09, 0x058, 31, 16, false⟩
abbrev BIST_CNT_FAILED : Fld := ⟨0x09, 0x058, 15, 8, false⟩
abbrev BIST_CNT_ROUNDS : Fld := ⟨0x09, 0x058, 7, 0, false⟩
abbrev BIST_CNT2_DONE : Fld := ⟨0x09, 0x05C, 31, 16, false⟩
abbrev BIST_CNT2_PREEMPTED : Fld := ⟨0x09, 0x05C, 15, 0, false⟩
abbrev BIST_REJECT_REASON : Fld := ⟨0x09, 0x060, 7, 0, false⟩

/-! ### Page BG -/

abbrev BG_CFG_STARVE_FRAMES : Fld := ⟨0x0A, 0x040, 31, 16, true⟩
abbrev BG_CFG_GAP_MIN_US : Fld := ⟨0x0A, 0x040, 13, 8, true⟩
abbrev BG_CFG_PROMOTE_EN : Fld := ⟨0x0A, 0x040, 1, 1, true⟩
abbrev BG_CFG_SCRUB_EN : Fld := ⟨0x0A, 0x040, 0, 0, true⟩
abbrev BG_STAT_STARVED : Fld := ⟨0x0A, 0x044, 10, 8, false⟩
abbrev BG_STAT_PROMOTED : Fld := ⟨0x0A, 0x044, 6, 4, false⟩
abbrev BG_STAT_DUE : Fld := ⟨0x0A, 0x044, 2, 0, false⟩
abbrev BG_AGE0_SCRUB : Fld := ⟨0x0A, 0x048, 31, 16, false⟩
abbrev BG_AGE0_BIST : Fld := ⟨0x0A, 0x048, 15, 0, false⟩
abbrev BG_AGE1_CAL : Fld := ⟨0x0A, 0x04C, 15, 0, false⟩
abbrev BG_SCRUB_BANK : Fld := ⟨0x0A, 0x050, 19, 16, false⟩
abbrev BG_SCRUB_WORD : Fld := ⟨0x0A, 0x050, 14, 0, false⟩
abbrev BG_SCRUB_PASS_COUNT : Fld := ⟨0x0A, 0x054, 31, 0, false⟩
abbrev BG_SCRUB_ERR_ADDR : Fld := ⟨0x0A, 0x058, 31, 0, false⟩
abbrev BG_CNT_CORR : Fld := ⟨0x0A, 0x05C, 31, 16, false⟩
abbrev BG_CNT_UNCORR : Fld := ⟨0x0A, 0x05C, 15, 8, false⟩
abbrev BG_CNT_ABANDONED : Fld := ⟨0x0A, 0x05C, 7, 0, false⟩
abbrev BG_CNT2_DEFER : Fld := ⟨0x0A, 0x060, 31, 16, false⟩
abbrev BG_CNT2_PROMOTIONS : Fld := ⟨0x0A, 0x060, 15, 8, false⟩
abbrev BG_CNT2_STARVED : Fld := ⟨0x0A, 0x060, 7, 0, false⟩
abbrev BG_REJECT_REASON : Fld := ⟨0x0A, 0x064, 7, 0, false⟩

/-! ### Page ALM -/

abbrev ALM_CFG_COMMIT_MIN : Fld := ⟨0x0B, 0x040, 10, 0, true⟩
abbrev ALM_FCFG_WARN_H : Fld := ⟨0x0B, 0x044, 31, 16, true⟩
abbrev ALM_FCFG_RATE_H : Fld := ⟨0x0B, 0x044, 13, 0, true⟩
abbrev ALM_STAT_SLOT : Fld := ⟨0x0B, 0x048, 29, 24, false⟩
abbrev ALM_STAT_LOAD : Fld := ⟨0x0B, 0x048, 21, 20, false⟩
abbrev ALM_STAT_PEND : Fld := ⟨0x0B, 0x048, 16, 16, false⟩
abbrev ALM_STAT_SNAP_OK : Fld := ⟨0x0B, 0x048, 15, 15, false⟩
abbrev ALM_STAT_FC_WARN : Fld := ⟨0x0B, 0x048, 6, 0, false⟩
abbrev ALM_ASEQ_ASEQ : Fld := ⟨0x0B, 0x04C, 31, 0, false⟩
abbrev ALM_NEXT_S_S : Fld := ⟨0x0B, 0x050, 31, 0, false⟩
abbrev ALM_CMD_OP : Fld := ⟨0x0B, 0x054, 31, 24, false⟩
abbrev ALM_CMD_MASK : Fld := ⟨0x0B, 0x054, 3, 0, false⟩
abbrev ALM_CSTAT_OP : Fld := ⟨0x0B, 0x058, 31, 24, false⟩
abbrev ALM_CSTAT_RESULT : Fld := ⟨0x0B, 0x058, 23, 16, false⟩
abbrev ALM_CSTAT_BUSY : Fld := ⟨0x0B, 0x058, 0, 0, false⟩
abbrev ALM_WIN_IDX_AINC : Fld := ⟨0x0B, 0x05C, 16, 16, false⟩
abbrev ALM_WIN_IDX_INDEX : Fld := ⟨0x0B, 0x05C, 8, 0, false⟩
abbrev ALM_WIN_DATA_DATA : Fld := ⟨0x0B, 0x060, 31, 0, false⟩
abbrev ALM_CNT_COMMITS : Fld := ⟨0x0B, 0x064, 31, 16, false⟩
abbrev ALM_CNT_SUPERSEDED : Fld := ⟨0x0B, 0x064, 15, 8, false⟩
abbrev ALM_CNT_INVALID : Fld := ⟨0x0B, 0x064, 7, 0, false⟩
abbrev ALM_FC_HOURS (i : Nat) : Fld := ⟨0x0B, 0x068 + 0x4 * i, 31, 0, false⟩
abbrev ALM_REJECT_REASON : Fld := ⟨0x0B, 0x084, 7, 0, false⟩

/-! ### Page NVM -/

abbrev NVM_CFG_WEAR_RETIRE : Fld := ⟨0x0C, 0x040, 27, 0, true⟩
abbrev NVM_CMD_OP : Fld := ⟨0x0C, 0x044, 31, 24, false⟩
abbrev NVM_CMD_SLOT : Fld := ⟨0x0C, 0x044, 0, 0, false⟩
abbrev NVM_SRC_SRC : Fld := ⟨0x0C, 0x048, 31, 0, false⟩
abbrev NVM_OFS_OFS : Fld := ⟨0x0C, 0x04C, 20, 0, false⟩
abbrev NVM_LEN_LEN : Fld := ⟨0x0C, 0x050, 12, 0, false⟩
abbrev NVM_CSTAT_OP : Fld := ⟨0x0C, 0x054, 31, 24, false⟩
abbrev NVM_CSTAT_RESULT : Fld := ⟨0x0C, 0x054, 23, 16, false⟩
abbrev NVM_CSTAT_BUSY : Fld := ⟨0x0C, 0x054, 0, 0, false⟩
abbrev NVM_QUEUE_CHUNKS : Fld := ⟨0x0C, 0x058, 23, 16, false⟩
abbrev NVM_QUEUE_KIND : Fld := ⟨0x0C, 0x058, 2, 0, false⟩
abbrev NVM_CONF_COPY : Fld := ⟨0x0C, 0x05C, 9, 8, false⟩
abbrev NVM_CONF_B_VALID : Fld := ⟨0x0C, 0x05C, 1, 1, false⟩
abbrev NVM_CONF_A_VALID : Fld := ⟨0x0C, 0x05C, 0, 0, false⟩
abbrev NVM_CSEQ_SEQ : Fld := ⟨0x0C, 0x060, 31, 0, false⟩
abbrev NVM_LOAD_REFUSED : Fld := ⟨0x0C, 0x064, 15, 8, false⟩
abbrev NVM_LOAD_FIRST : Fld := ⟨0x0C, 0x064, 7, 0, false⟩
abbrev NVM_STAT_WORN : Fld := ⟨0x0C, 0x068, 14, 8, false⟩
abbrev NVM_STAT_ARCH_RETIRED : Fld := ⟨0x0C, 0x068, 0, 0, false⟩
abbrev NVM_WEAR_PASSES (i : Nat) : Fld := ⟨0x0C, 0x06C + 0x4 * i, 31, 0, false⟩
abbrev NVM_CNT_CORR : Fld := ⟨0x0C, 0x088, 31, 16, false⟩
abbrev NVM_CNT_CHKBIT : Fld := ⟨0x0C, 0x088, 15, 8, false⟩
abbrev NVM_CNT_UNCORR : Fld := ⟨0x0C, 0x088, 7, 0, false⟩
abbrev NVM_UNCORR_ADDR_ADDR : Fld := ⟨0x0C, 0x08C, 31, 0, false⟩
abbrev NVM_REJECT_REASON : Fld := ⟨0x0C, 0x090, 7, 0, false⟩

/-! ### Page MEM -/

abbrev MEM_WIN_CELL : Fld := ⟨0x0D, 0x040, 4, 0, true⟩
abbrev MEM_STAT_ZEROFILL : Fld := ⟨0x0D, 0x044, 31, 16, false⟩
abbrev MEM_STAT_RETAINED : Fld := ⟨0x0D, 0x044, 15, 0, false⟩
abbrev MEM_CORR_ADDR_ADDR : Fld := ⟨0x0D, 0x048, 31, 0, false⟩
abbrev MEM_UNCORR_ADDR_ADDR : Fld := ⟨0x0D, 0x04C, 31, 0, false⟩
abbrev MEM_CNT_CORR : Fld := ⟨0x0D, 0x050, 31, 16, false⟩
abbrev MEM_CNT_CHKBIT : Fld := ⟨0x0D, 0x050, 15, 8, false⟩
abbrev MEM_CNT_UNCORR : Fld := ⟨0x0D, 0x050, 7, 0, false⟩
abbrev MEM_CMD_OP : Fld := ⟨0x0D, 0x054, 31, 24, false⟩
abbrev MEM_CMDADDR_ADDR : Fld := ⟨0x0D, 0x058, 31, 0, false⟩
abbrev MEM_REJECT_REASON : Fld := ⟨0x0D, 0x05C, 7, 0, false⟩

/-! ### Page LINE -/

abbrev LINE_CFG_LIFT_WARN_MV : Fld := ⟨0x10, 0x040, 31, 16, true⟩
abbrev LINE_CFG_LIFT_HOLD : Fld := ⟨0x10, 0x040, 15, 8, true⟩
abbrev LINE_CFG_FSK_EN : Fld := ⟨0x10, 0x040, 0, 0, true⟩
abbrev LINE_GEN_LATCH_MS : Fld := ⟨0x10, 0x044, 31, 16, false⟩
abbrev LINE_GEN_HOW : Fld := ⟨0x10, 0x044, 9, 8, false⟩
abbrev LINE_GEN_STRAP : Fld := ⟨0x10, 0x044, 5, 4, false⟩
abbrev LINE_GEN_GEN : Fld := ⟨0x10, 0x044, 1, 0, false⟩
abbrev LINE_SENSE_NOISE_WIN : Fld := ⟨0x10, 0x048, 31, 28, false⟩
abbrev LINE_SENSE_HIT_MASK : Fld := ⟨0x10, 0x048, 24, 16, false⟩
abbrev LINE_SENSE_PULSE_MAX : Fld := ⟨0x10, 0x048, 15, 8, false⟩
abbrev LINE_SENSE_RUN_MAX : Fld := ⟨0x10, 0x048, 7, 4, false⟩
abbrev LINE_SENSE_WINDOWS : Fld := ⟨0x10, 0x048, 3, 0, false⟩
abbrev LINE_STAT_START_CEIL : Fld := ⟨0x10, 0x04C, 7, 7, false⟩
abbrev LINE_STAT_LOOP_ENG : Fld := ⟨0x10, 0x04C, 6, 6, false⟩
abbrev LINE_STAT_GEN_PEND : Fld := ⟨0x10, 0x04C, 5, 5, false⟩
abbrev LINE_STAT_LIFTOFF : Fld := ⟨0x10, 0x04C, 4, 4, false⟩
abbrev LINE_STAT_LIFT_VPRE : Fld := ⟨0x10, 0x04C, 3, 3, false⟩
abbrev LINE_STAT_LIFT_DRV : Fld := ⟨0x10, 0x04C, 2, 2, false⟩
abbrev LINE_STAT_OVERDRAW : Fld := ⟨0x10, 0x04C, 1, 1, false⟩
abbrev LINE_STAT_LDRV_CUT : Fld := ⟨0x10, 0x04C, 0, 0, false⟩
abbrev LINE_MON_I_DRAW_UA : Fld := ⟨0x10, 0x050, 31, 16, false⟩
abbrev LINE_MON_VPRE_MV : Fld := ⟨0x10, 0x050, 15, 0, false⟩
abbrev LINE_BUDGET_I_LOOP_UA : Fld := ⟨0x10, 0x054, 31, 16, false⟩
abbrev LINE_BUDGET_BUDGET_UA : Fld := ⟨0x10, 0x054, 15, 0, false⟩
abbrev LINE_CNT_LIFTOFF : Fld := ⟨0x10, 0x058, 31, 16, false⟩
abbrev LINE_CNT_OVERDRAW : Fld := ⟨0x10, 0x058, 15, 0, false⟩
abbrev LINE_REJECT_REASON : Fld := ⟨0x10, 0x05C, 7, 0, false⟩

/-! ### Page LDAC -/

abbrev LDAC_CODE_CODE : Fld := ⟨0x11, 0x040, 15, 0, true⟩
abbrev LDAC_CFG_RAMP_UA : Fld := ⟨0x11, 0x044, 31, 16, true⟩
abbrev LDAC_CFG_SAFE_TICKS : Fld := ⟨0x11, 0x044, 15, 8, true⟩
abbrev LDAC_CFG_SRC : Fld := ⟨0x11, 0x044, 6, 6, true⟩
abbrev LDAC_CFG_ALARM_DIR : Fld := ⟨0x11, 0x044, 5, 5, true⟩
abbrev LDAC_CFG_SPAN : Fld := ⟨0x11, 0x044, 4, 4, true⟩
abbrev LDAC_CFG_MODE : Fld := ⟨0x11, 0x044, 1, 0, true⟩
abbrev LDAC_SAFE_STARTUP_UA : Fld := ⟨0x11, 0x048, 31, 16, true⟩
abbrev LDAC_SAFE_SAFE_UA : Fld := ⟨0x11, 0x048, 15, 0, true⟩
abbrev LDAC_ALARM_UP_UA : Fld := ⟨0x11, 0x04C, 31, 16, true⟩
abbrev LDAC_ALARM_DN_UA : Fld := ⟨0x11, 0x04C, 15, 0, true⟩
abbrev LDAC_SAT_SAT_HI_UA : Fld := ⟨0x11, 0x050, 31, 16, true⟩
abbrev LDAC_SAT_SAT_LO_UA : Fld := ⟨0x11, 0x050, 15, 0, true⟩
abbrev LDAC_CLR_CLR_CODE : Fld := ⟨0x11, 0x054, 15, 0, true⟩
abbrev LDAC_TEST_TEST_TMO_S : Fld := ⟨0x11, 0x058, 31, 16, true⟩
abbrev LDAC_TEST_TEST_UA : Fld := ⟨0x11, 0x058, 15, 0, true⟩
abbrev LDAC_TRIM_READBACK_TOL_UA : Fld := ⟨0x11, 0x05C, 31, 16, true⟩
abbrev LDAC_TRIM_TRIM_LIM_UA : Fld := ⟨0x11, 0x05C, 15, 8, true⟩
abbrev LDAC_TRIM_TRIM_EN : Fld := ⟨0x11, 0x05C, 0, 0, true⟩
abbrev LDAC_UTRIM_GAIN_PPM : Fld := ⟨0x11, 0x060, 31, 16, true⟩
abbrev LDAC_UTRIM_ZERO_DUA : Fld := ⟨0x11, 0x060, 15, 0, true⟩
abbrev LDAC_PV_PV_FRAC : Fld := ⟨0x11, 0x064, 31, 0, true⟩
abbrev LDAC_OUT_SOURCE : Fld := ⟨0x11, 0x068, 30, 28, false⟩
abbrev LDAC_OUT_TARGET_DUA : Fld := ⟨0x11, 0x068, 17, 0, false⟩
abbrev LDAC_RB_TRIM_DUA : Fld := ⟨0x11, 0x06C, 31, 16, false⟩
abbrev LDAC_RB_ERR_DUA : Fld := ⟨0x11, 0x06C, 15, 0, false⟩
abbrev LDAC_STAT_STARTUP : Fld := ⟨0x11, 0x070, 9, 9, false⟩
abbrev LDAC_STAT_TEST_ACTIVE : Fld := ⟨0x11, 0x070, 8, 8, false⟩
abbrev LDAC_STAT_RAMPING : Fld := ⟨0x11, 0x070, 7, 7, false⟩
abbrev LDAC_STAT_READBACK : Fld := ⟨0x11, 0x070, 6, 6, false⟩
abbrev LDAC_STAT_TRIM_LIMIT : Fld := ⟨0x11, 0x070, 5, 5, false⟩
abbrev LDAC_STAT_SAT_HI : Fld := ⟨0x11, 0x070, 4, 4, false⟩
abbrev LDAC_STAT_SAT_LO : Fld := ⟨0x11, 0x070, 3, 3, false⟩
abbrev LDAC_STAT_SPAN_PASS : Fld := ⟨0x11, 0x070, 2, 2, false⟩
abbrev LDAC_STAT_FAULT_CLAMP : Fld := ⟨0x11, 0x070, 1, 1, false⟩
abbrev LDAC_STAT_CLR : Fld := ⟨0x11, 0x070, 0, 0, false⟩
abbrev LDAC_CNT_CLR : Fld := ⟨0x11, 0x074, 31, 16, false⟩
abbrev LDAC_CNT_SAT : Fld := ⟨0x11, 0x074, 15, 8, false⟩
abbrev LDAC_CNT_READBACK : Fld := ⟨0x11, 0x074, 7, 0, false⟩
abbrev LDAC_REJECT_REASON : Fld := ⟨0x11, 0x078, 7, 0, false⟩

/-! ### Page ADAC -/

abbrev ADAC_CODE_CODE (i : Nat) : Fld := ⟨0x12, 0x040 + 0x4 * i, 13, 0, true⟩
abbrev ADAC_CFG_SAFE_CODE (i : Nat) : Fld := ⟨0x12, 0x048 + 0x4 * i, 29, 16, true⟩
abbrev ADAC_CFG_AUX_CLR_FOLLOW (i : Nat) : Fld := ⟨0x12, 0x048 + 0x4 * i, 2, 2, true⟩
abbrev ADAC_CFG_GAIN (i : Nat) : Fld := ⟨0x12, 0x048 + 0x4 * i, 1, 1, true⟩
abbrev ADAC_CFG_ON (i : Nat) : Fld := ⟨0x12, 0x048 + 0x4 * i, 0, 0, true⟩
abbrev ADAC_CLR_CLR_CODE1 : Fld := ⟨0x12, 0x050, 29, 16, true⟩
abbrev ADAC_CLR_CLR_CODE0 : Fld := ⟨0x12, 0x050, 13, 0, true⟩
abbrev ADAC_STAT_OVLD1 : Fld := ⟨0x12, 0x054, 5, 5, false⟩
abbrev ADAC_STAT_OVLD0 : Fld := ⟨0x12, 0x054, 4, 4, false⟩
abbrev ADAC_STAT_CLR1 : Fld := ⟨0x12, 0x054, 3, 3, false⟩
abbrev ADAC_STAT_CLR0 : Fld := ⟨0x12, 0x054, 2, 2, false⟩
abbrev ADAC_STAT_PASS1 : Fld := ⟨0x12, 0x054, 1, 1, false⟩
abbrev ADAC_STAT_PASS0 : Fld := ⟨0x12, 0x054, 0, 0, false⟩
abbrev ADAC_CNT_PASSAGES : Fld := ⟨0x12, 0x058, 31, 16, false⟩
abbrev ADAC_CNT_OVLD : Fld := ⟨0x12, 0x058, 15, 0, false⟩
abbrev ADAC_REJECT_REASON : Fld := ⟨0x12, 0x05C, 7, 0, false⟩

/-! ### Page FSK -/

abbrev FSK_CFG_CD_MARGIN_MV : Fld := ⟨0x13, 0x040, 31, 24, true⟩
abbrev FSK_CFG_RESP_PRE : Fld := ⟨0x13, 0x040, 20, 16, true⟩
abbrev FSK_CFG_UNIV_WR_EN : Fld := ⟨0x13, 0x040, 8, 8, true⟩
abbrev FSK_CFG_POLL_ADDR : Fld := ⟨0x13, 0x040, 5, 0, true⟩
abbrev FSK_ID_EXP_DEVTYPE : Fld := ⟨0x13, 0x044, 15, 0, false⟩
abbrev FSK_DEVID_DEVID : Fld := ⟨0x13, 0x048, 23, 0, false⟩
abbrev FSK_BURST_PERIOD_MS : Fld := ⟨0x13, 0x050, 31, 16, true⟩
abbrev FSK_BURST_CMD : Fld := ⟨0x13, 0x050, 15, 8, true⟩
abbrev FSK_BURST_EN : Fld := ⟨0x13, 0x050, 0, 0, true⟩
abbrev FSK_BVARS_B0 : Fld := ⟨0x13, 0x054, 31, 24, true⟩
abbrev FSK_BVARS_B1 : Fld := ⟨0x13, 0x054, 23, 16, true⟩
abbrev FSK_BVARS_B2 : Fld := ⟨0x13, 0x054, 15, 8, true⟩
abbrev FSK_BVARS_B3 : Fld := ⟨0x13, 0x054, 7, 0, true⟩
abbrev FSK_VAR_ADDR_ADDR (i : Nat) : Fld := ⟨0x13, 0x058 + 0x8 * i, 31, 0, true⟩
abbrev FSK_VAR_CFG_QUAL (i : Nat) : Fld := ⟨0x13, 0x05C + 0x8 * i, 19, 18, true⟩
abbrev FSK_VAR_CFG_OOL (i : Nat) : Fld := ⟨0x13, 0x05C + 0x8 * i, 17, 17, true⟩
abbrev FSK_VAR_CFG_EN (i : Nat) : Fld := ⟨0x13, 0x05C + 0x8 * i, 16, 16, true⟩
abbrev FSK_VAR_CFG_DVCODE (i : Nat) : Fld := ⟨0x13, 0x05C + 0x8 * i, 15, 8, true⟩
abbrev FSK_VAR_CFG_UNIT (i : Nat) : Fld := ⟨0x13, 0x05C + 0x8 * i, 7, 0, true⟩
abbrev FSK_AD_NF : Fld := ⟨0x13, 0x078, 31, 24, false⟩
abbrev FSK_AD_CD_TH : Fld := ⟨0x13, 0x078, 23, 16, false⟩
abbrev FSK_AD_AMP : Fld := ⟨0x13, 0x078, 15, 8, false⟩
abbrev FSK_AD_SLICER : Fld := ⟨0x13, 0x078, 7, 0, false⟩
abbrev FSK_STAT_CS_S : Fld := ⟨0x13, 0x07C, 9, 9, false⟩
abbrev FSK_STAT_CS_P : Fld := ⟨0x13, 0x07C, 8, 8, false⟩
abbrev FSK_STAT_CC_S : Fld := ⟨0x13, 0x07C, 7, 7, false⟩
abbrev FSK_STAT_CC_P : Fld := ⟨0x13, 0x07C, 6, 6, false⟩
abbrev FSK_STAT_TX_GATED : Fld := ⟨0x13, 0x07C, 5, 5, false⟩
abbrev FSK_STAT_BURSTING : Fld := ⟨0x13, 0x07C, 4, 4, false⟩
abbrev FSK_STAT_TX_ACTIVE : Fld := ⟨0x13, 0x07C, 3, 3, false⟩
abbrev FSK_STAT_RX_FRAME : Fld := ⟨0x13, 0x07C, 2, 2, false⟩
abbrev FSK_STAT_CARRIER : Fld := ⟨0x13, 0x07C, 1, 1, false⟩
abbrev FSK_STAT_RUNNING : Fld := ⟨0x13, 0x07C, 0, 0, false⟩
abbrev FSK_CNT_RX_GOOD : Fld := ⟨0x13, 0x080, 31, 16, false⟩
abbrev FSK_CNT_RX_OTHER : Fld := ⟨0x13, 0x080, 15, 0, false⟩
abbrev FSK_CNT_ERR_CHAR : Fld := ⟨0x13, 0x084, 31, 24, false⟩
abbrev FSK_CNT_ERR_CHECK : Fld := ⟨0x13, 0x084, 23, 16, false⟩
abbrev FSK_CNT_ERR_GAP : Fld := ⟨0x13, 0x084, 15, 8, false⟩
abbrev FSK_CNT_ERR_LONG : Fld := ⟨0x13, 0x084, 7, 0, false⟩
abbrev FSK_CNT_STR_STRANGER : Fld := ⟨0x13, 0x088, 31, 16, false⟩
abbrev FSK_CNT_STR_NOCMD : Fld := ⟨0x13, 0x088, 15, 8, false⟩
abbrev FSK_CNT_STR_NOISE : Fld := ⟨0x13, 0x088, 7, 0, false⟩
abbrev FSK_CNT_TX_REPLY : Fld := ⟨0x13, 0x08C, 31, 16, false⟩
abbrev FSK_CNT_TX_LATE : Fld := ⟨0x13, 0x08C, 15, 8, false⟩
abbrev FSK_CNT_TX_JABBER : Fld := ⟨0x13, 0x08C, 7, 0, false⟩
abbrev FSK_CNT_BURST_SENT : Fld := ⟨0x13, 0x090, 31, 16, false⟩
abbrev FSK_CNT_BURST_DEFER : Fld := ⟨0x13, 0x090, 15, 0, false⟩
abbrev FSK_REJECT_REASON : Fld := ⟨0x13, 0x094, 7, 0, false⟩
abbrev FSK_XSTAT_REC_NEW : Fld := ⟨0x13, 0x098, 8, 8, false⟩
abbrev FSK_XSTAT_CONFIG_LOST : Fld := ⟨0x13, 0x098, 7, 7, false⟩
abbrev FSK_XSTAT_DEGRADED : Fld := ⟨0x13, 0x098, 6, 6, false⟩
abbrev FSK_XSTAT_TIME_UNSYNC : Fld := ⟨0x13, 0x098, 5, 5, false⟩
abbrev FSK_XSTAT_READBACK : Fld := ⟨0x13, 0x098, 4, 4, false⟩
abbrev FSK_XSTAT_OVERDRAW : Fld := ⟨0x13, 0x098, 3, 3, false⟩
abbrev FSK_XSTAT_LIFTOFF : Fld := ⟨0x13, 0x098, 2, 2, false⟩
abbrev FSK_XSTAT_LOCKOUT : Fld := ⟨0x13, 0x098, 1, 1, false⟩
abbrev FSK_XSTAT_FAULT_STATE : Fld := ⟨0x13, 0x098, 0, 0, false⟩
abbrev FSK_XUSER_USER : Fld := ⟨0x13, 0x09C, 15, 0, true⟩
abbrev FSK_TEXT_TEXT (i : Nat) : Fld := ⟨0x13, 0x100 + 0x4 * i, 31, 0, true⟩
abbrev FSK_TEXT_DF_TEXT (i : Nat) : Fld := ⟨0x13, 0x114 + 0x4 * i, 23, 0, true⟩
abbrev FSK_TEXT_ML_TEXT (i : Nat) : Fld := ⟨0x13, 0x11C + 0x4 * i, 31, 0, true⟩

/-! ### Page TPHY -/

abbrev TPHY_CFG_SQI_MIN : Fld := ⟨0x14, 0x040, 18, 16, true⟩
abbrev TPHY_CFG_FORCE_ROLE : Fld := ⟨0x14, 0x040, 4, 4, true⟩
abbrev TPHY_CFG_FORCE_HI : Fld := ⟨0x14, 0x040, 3, 3, true⟩
abbrev TPHY_CFG_AN_EN : Fld := ⟨0x14, 0x040, 2, 2, true⟩
abbrev TPHY_CFG_HI_AMP_ADV : Fld := ⟨0x14, 0x040, 1, 1, true⟩
abbrev TPHY_CFG_HI_AMP_REQ : Fld := ⟨0x14, 0x040, 0, 0, true⟩
abbrev TPHY_STAT_SQI : Fld := ⟨0x14, 0x044, 10, 8, false⟩
abbrev TPHY_STAT_TRAINING : Fld := ⟨0x14, 0x044, 4, 4, false⟩
abbrev TPHY_STAT_AN_DONE : Fld := ⟨0x14, 0x044, 3, 3, false⟩
abbrev TPHY_STAT_ROLE : Fld := ⟨0x14, 0x044, 2, 2, false⟩
abbrev TPHY_STAT_AMP_HI : Fld := ⟨0x14, 0x044, 1, 1, false⟩
abbrev TPHY_STAT_LINK : Fld := ⟨0x14, 0x044, 0, 0, false⟩
abbrev TPHY_MSE_MSE : Fld := ⟨0x14, 0x048, 15, 0, false⟩
abbrev TPHY_CNT_LINK_DOWN : Fld := ⟨0x14, 0x04C, 31, 16, false⟩
abbrev TPHY_CNT_SYMERR : Fld := ⟨0x14, 0x04C, 15, 0, false⟩
abbrev TPHY_REJECT_REASON : Fld := ⟨0x14, 0x050, 7, 0, false⟩

/-! ### Page MAC -/

abbrev MAC_ADDR_HI_HI : Fld := ⟨0x15, 0x040, 15, 0, false⟩
abbrev MAC_ADDR_LO_LO : Fld := ⟨0x15, 0x044, 31, 0, false⟩
abbrev MAC_FILT_VID : Fld := ⟨0x15, 0x048, 27, 16, true⟩
abbrev MAC_FILT_MC1_EN : Fld := ⟨0x15, 0x048, 4, 4, true⟩
abbrev MAC_FILT_MC0_EN : Fld := ⟨0x15, 0x048, 3, 3, true⟩
abbrev MAC_FILT_VLAN_EN : Fld := ⟨0x15, 0x048, 2, 2, true⟩
abbrev MAC_FILT_IPV4_EN : Fld := ⟨0x15, 0x048, 1, 1, true⟩
abbrev MAC_FILT_IPV6_EN : Fld := ⟨0x15, 0x048, 0, 0, true⟩
abbrev MAC_MC0_HI_HI : Fld := ⟨0x15, 0x04C, 15, 0, true⟩
abbrev MAC_MC0_LO_LO : Fld := ⟨0x15, 0x050, 31, 0, true⟩
abbrev MAC_MC1_HI_HI : Fld := ⟨0x15, 0x054, 15, 0, true⟩
abbrev MAC_MC1_LO_LO : Fld := ⟨0x15, 0x058, 31, 0, true⟩
abbrev MAC_RATE_SRC_PPS : Fld := ⟨0x15, 0x05C, 31, 16, true⟩
abbrev MAC_RATE_SRC_BURST : Fld := ⟨0x15, 0x05C, 7, 0, true⟩
abbrev MAC_GRATE_GLOBAL_PPS : Fld := ⟨0x15, 0x060, 15, 0, true⟩
abbrev MAC_TX_GAP : Fld := ⟨0x15, 0x064, 15, 0, false⟩
abbrev MAC_FLOOD_HI_HI : Fld := ⟨0x15, 0x068, 15, 0, false⟩
abbrev MAC_FLOOD_LO_LO : Fld := ⟨0x15, 0x06C, 31, 0, false⟩
abbrev MAC_CNT_OK_RX : Fld := ⟨0x15, 0x070, 31, 16, false⟩
abbrev MAC_CNT_OK_TX : Fld := ⟨0x15, 0x070, 15, 0, false⟩
abbrev MAC_CNT_ERR_FCS : Fld := ⟨0x15, 0x074, 31, 16, false⟩
abbrev MAC_CNT_ERR_LEN : Fld := ⟨0x15, 0x074, 15, 0, false⟩
abbrev MAC_CNT_DST_DST : Fld := ⟨0x15, 0x078, 31, 16, false⟩
abbrev MAC_CNT_DST_VLAN : Fld := ⟨0x15, 0x078, 15, 0, false⟩
abbrev MAC_CNT_TYPE_TYPE : Fld := ⟨0x15, 0x07C, 31, 16, false⟩
abbrev MAC_CNT_TYPE_PUBLISH : Fld := ⟨0x15, 0x07C, 15, 0, false⟩
abbrev MAC_CNT_RATE_SRC : Fld := ⟨0x15, 0x080, 31, 16, false⟩
abbrev MAC_CNT_RATE_GLOBAL : Fld := ⟨0x15, 0x080, 15, 0, false⟩
abbrev MAC_CNT_Q_PTPQ : Fld := ⟨0x15, 0x084, 31, 16, false⟩
abbrev MAC_CNT_Q_QFULL : Fld := ⟨0x15, 0x084, 15, 0, false⟩
abbrev MAC_REJECT_REASON : Fld := ⟨0x15, 0x088, 7, 0, false⟩

/-! ### Page PTP -/

abbrev PTP_CFG_DOMAIN : Fld := ⟨0x16, 0x040, 31, 24, true⟩
abbrev PTP_CFG_SYNC_LOSS : Fld := ⟨0x16, 0x040, 20, 16, true⟩
abbrev PTP_CFG_PPS_GLOBAL : Fld := ⟨0x16, 0x040, 14, 14, true⟩
abbrev PTP_CFG_PD_AVG : Fld := ⟨0x16, 0x040, 6, 0, true⟩
abbrev PTP_PDMAX_NS : Fld := ⟨0x16, 0x044, 15, 0, true⟩
abbrev PTP_ASYM_NS : Fld := ⟨0x16, 0x048, 31, 0, true⟩
abbrev PTP_UTC_OFS : Fld := ⟨0x16, 0x04C, 15, 0, true⟩
abbrev PTP_TODSET_S : Fld := ⟨0x16, 0x050, 31, 0, false⟩
abbrev PTP_STAT_GM_CLASS : Fld := ⟨0x16, 0x054, 23, 16, false⟩
abbrev PTP_STAT_FOREIGN : Fld := ⟨0x16, 0x054, 10, 8, false⟩
abbrev PTP_STAT_MEAS_OK : Fld := ⟨0x16, 0x054, 2, 2, false⟩
abbrev PTP_STAT_PD_VALID : Fld := ⟨0x16, 0x054, 1, 1, false⟩
abbrev PTP_STAT_MASTER_SEL : Fld := ⟨0x16, 0x054, 0, 0, false⟩
abbrev PTP_GMID_HI_HI : Fld := ⟨0x16, 0x058, 31, 0, false⟩
abbrev PTP_GMID_LO_LO : Fld := ⟨0x16, 0x05C, 31, 0, false⟩
abbrev PTP_OFFSET_NS : Fld := ⟨0x16, 0x060, 31, 0, false⟩
abbrev PTP_PDELAY_NS : Fld := ⟨0x16, 0x064, 31, 0, false⟩
abbrev PTP_TOD_S_S : Fld := ⟨0x16, 0x068, 31, 0, false⟩
abbrev PTP_TOD_NS_NS : Fld := ⟨0x16, 0x06C, 29, 0, false⟩
abbrev PTP_CNT_RX_SYNC : Fld := ⟨0x16, 0x070, 31, 16, false⟩
abbrev PTP_CNT_RX_ANNOUNCE : Fld := ⟨0x16, 0x070, 15, 0, false⟩
abbrev PTP_CNT_ERR_OUTLIER : Fld := ⟨0x16, 0x074, 31, 24, false⟩
abbrev PTP_CNT_ERR_E2E : Fld := ⟨0x16, 0x074, 23, 16, false⟩
abbrev PTP_CNT_ERR_OTHER : Fld := ⟨0x16, 0x074, 15, 8, false⟩
abbrev PTP_CNT_ERR_LOSS : Fld := ⟨0x16, 0x074, 7, 0, false⟩
abbrev PTP_CNT_PD_ANSWERED : Fld := ⟨0x16, 0x078, 31, 16, false⟩
abbrev PTP_CNT_PD_INVALID : Fld := ⟨0x16, 0x078, 15, 0, false⟩
abbrev PTP_REJECT_REASON : Fld := ⟨0x16, 0x07C, 7, 0, false⟩

/-! ### Page PUB -/

abbrev PUB_CFG_VID : Fld := ⟨0x17, 0x040, 31, 20, true⟩
abbrev PUB_CFG_VLAN_PRI : Fld := ⟨0x17, 0x040, 18, 16, true⟩
abbrev PUB_CFG_GOOSE_EN : Fld := ⟨0x17, 0x040, 15, 15, true⟩
abbrev PUB_CFG_TEST : Fld := ⟨0x17, 0x040, 14, 14, true⟩
abbrev PUB_CFG_SMPRATE_OPT : Fld := ⟨0x17, 0x040, 13, 13, true⟩
abbrev PUB_CFG_VLAN_TAG : Fld := ⟨0x17, 0x040, 12, 12, true⟩
abbrev PUB_CFG_ASDUS : Fld := ⟨0x17, 0x040, 9, 8, true⟩
abbrev PUB_CFG_STREAM_EN : Fld := ⟨0x17, 0x040, 3, 0, true⟩
abbrev PUB_STAT_HALT : Fld := ⟨0x17, 0x044, 16, 16, false⟩
abbrev PUB_STAT_SMPSYNCH : Fld := ⟨0x17, 0x044, 9, 8, false⟩
abbrev PUB_STAT_GOOSE_RUN : Fld := ⟨0x17, 0x044, 4, 4, false⟩
abbrev PUB_STAT_STREAMING : Fld := ⟨0x17, 0x044, 3, 0, false⟩
abbrev PUB_LIMIT_BW_PCT : Fld := ⟨0x17, 0x048, 7, 0, true⟩
abbrev PUB_SIZE_SUM : Fld := ⟨0x17, 0x04C, 31, 16, false⟩
abbrev PUB_SIZE_GOOSE : Fld := ⟨0x17, 0x04C, 15, 0, false⟩
abbrev PUB_LOAD_LOAD : Fld := ⟨0x17, 0x050, 15, 0, false⟩
abbrev PUB_GST_ST : Fld := ⟨0x17, 0x054, 31, 0, false⟩
abbrev PUB_GSQ_SQ : Fld := ⟨0x17, 0x058, 31, 0, false⟩
abbrev PUB_CNT_SENT : Fld := ⟨0x17, 0x05C, 31, 16, false⟩
abbrev PUB_CNT_LOST : Fld := ⟨0x17, 0x05C, 15, 0, false⟩
abbrev PUB_REJECT_REASON : Fld := ⟨0x17, 0x060, 7, 0, false⟩
abbrev PUB_GCNT_COUNT : Fld := ⟨0x17, 0x064, 31, 0, false⟩
abbrev PUB_SCFG_APPID (i : Nat) : Fld := ⟨0x17, 0x080 + 0x80 * i, 31, 16, true⟩
abbrev PUB_SCFG_DST_LSB (i : Nat) : Fld := ⟨0x17, 0x080 + 0x80 * i, 15, 8, true⟩
abbrev PUB_SCFG_NCH (i : Nat) : Fld := ⟨0x17, 0x080 + 0x80 * i, 3, 0, true⟩
abbrev PUB_SREV_CONFREV (i : Nat) : Fld := ⟨0x17, 0x084 + 0x80 * i, 31, 0, true⟩
abbrev PUB_SCH_SRC (i j : Nat) : Fld := ⟨0x17, 0x088 + 0x80 * i + 0x4 * j, 31, 30, true⟩
abbrev PUB_SCH_SH (i j : Nat) : Fld := ⟨0x17, 0x088 + 0x80 * i + 0x4 * j, 27, 24, true⟩
abbrev PUB_SCH_MUL (i j : Nat) : Fld := ⟨0x17, 0x088 + 0x80 * i + 0x4 * j, 15, 0, true⟩
abbrev PUB_SADDR_ADDR (i j : Nat) : Fld := ⟨0x17, 0x0A8 + 0x80 * i + 0x4 * j, 31, 0, true⟩
abbrev PUB_SVID_TEXT (i j : Nat) : Fld := ⟨0x17, 0x0C8 + 0x80 * i + 0x4 * j, 31, 0, true⟩
abbrev PUB_SIDLEN_LEN (i : Nat) : Fld := ⟨0x17, 0x0EC + 0x80 * i, 5, 0, true⟩
abbrev PUB_GCFG_GAPPID : Fld := ⟨0x17, 0x280, 31, 16, true⟩
abbrev PUB_GCFG_GDST_LSB : Fld := ⟨0x17, 0x280, 15, 8, true⟩
abbrev PUB_GREV_REV : Fld := ⟨0x17, 0x284, 31, 0, true⟩
abbrev PUB_GTIME_T0_MS : Fld := ⟨0x17, 0x288, 31, 16, true⟩
abbrev PUB_GTIME_T1_MS : Fld := ⟨0x17, 0x288, 7, 0, true⟩
abbrev PUB_GUSER_USER : Fld := ⟨0x17, 0x28C, 31, 0, true⟩
abbrev GOCBREF_TEXT (i : Nat) : Fld := ⟨0x17, 0x290 + 0x4 * i, 31, 0, true⟩
abbrev DATSET_TEXT (i : Nat) : Fld := ⟨0x17, 0x2B0 + 0x4 * i, 31, 0, true⟩
abbrev GOID_TEXT (i : Nat) : Fld := ⟨0x17, 0x2D0 + 0x4 * i, 31, 0, true⟩
abbrev PUB_GLEN_GOCBREF_LEN : Fld := ⟨0x17, 0x2F0, 23, 16, true⟩
abbrev PUB_GLEN_DATSET_LEN : Fld := ⟨0x17, 0x2F0, 15, 8, true⟩
abbrev PUB_GLEN_GOID_LEN : Fld := ⟨0x17, 0x2F0, 7, 0, true⟩

/-! ### Page ACC -/

abbrev ACC_CFG_PORT : Fld := ⟨0x18, 0x040, 31, 16, true⟩
abbrev ACC_CFG_AUTH_FAIL_MAX : Fld := ⟨0x18, 0x040, 11, 8, true⟩
abbrev ACC_CFG_IP6_CFG_EN : Fld := ⟨0x18, 0x040, 1, 1, true⟩
abbrev ACC_CFG_ANON_READ : Fld := ⟨0x18, 0x040, 0, 0, true⟩
abbrev ACC_SESS_NOTIFY_MS : Fld := ⟨0x18, 0x044, 27, 16, true⟩
abbrev ACC_SESS_SESS_IDLE_S : Fld := ⟨0x18, 0x044, 11, 0, true⟩
abbrev ACC_IP6_A (i : Nat) : Fld := ⟨0x18, 0x048 + 0x4 * i, 31, 0, true⟩
abbrev ACC_IP6_PFX_LEN : Fld := ⟨0x18, 0x058, 7, 0, true⟩
abbrev ACC_IP6GW_A (i : Nat) : Fld := ⟨0x18, 0x05C + 0x4 * i, 31, 0, true⟩
abbrev ACC_IP4_A : Fld := ⟨0x18, 0x06C, 31, 0, true⟩
abbrev ACC_IP4MASK_A : Fld := ⟨0x18, 0x070, 31, 0, true⟩
abbrev ACC_IP4GW_A : Fld := ⟨0x18, 0x074, 31, 0, true⟩
abbrev ACC_NOTIFY_SID : Fld := ⟨0x18, 0x078, 7, 0, false⟩
abbrev ACC_SESSK_SID (i : Nat) : Fld := ⟨0x18, 0x080 + 0x4 * i, 31, 24, false⟩
abbrev ACC_SESSK_PATH (i : Nat) : Fld := ⟨0x18, 0x080 + 0x4 * i, 23, 20, false⟩
abbrev ACC_SESSK_PENDING (i : Nat) : Fld := ⟨0x18, 0x080 + 0x4 * i, 19, 19, false⟩
abbrev ACC_SESSK_ROLE (i : Nat) : Fld := ⟨0x18, 0x080 + 0x4 * i, 17, 16, false⟩
abbrev ACC_SESSK_KEY (i : Nat) : Fld := ⟨0x18, 0x080 + 0x4 * i, 14, 12, false⟩
abbrev ACC_SESSK_IDLE_S (i : Nat) : Fld := ⟨0x18, 0x080 + 0x4 * i, 11, 0, false⟩
abbrev ACC_KEYSTAT_LAST_ERR : Fld := ⟨0x18, 0x090, 31, 28, false⟩
abbrev ACC_KEYSTAT_MK_REV : Fld := ⟨0x18, 0x090, 19, 18, false⟩
abbrev ACC_KEYSTAT_MK_PROG : Fld := ⟨0x18, 0x090, 17, 16, false⟩
abbrev ACC_KEYSTAT_K_REV : Fld := ⟨0x18, 0x090, 15, 8, false⟩
abbrev ACC_KEYSTAT_K_PROG : Fld := ⟨0x18, 0x090, 7, 0, false⟩
abbrev ACC_KEYROLE_ROLES : Fld := ⟨0x18, 0x094, 15, 0, false⟩
abbrev ACC_KEYDATA_WORD : Fld := ⟨0x18, 0x098, 31, 0, false⟩
abbrev ACC_KEYCMD_OP : Fld := ⟨0x18, 0x09C, 31, 24, false⟩
abbrev ACC_KEYCMD_ROLE : Fld := ⟨0x18, 0x09C, 5, 4, false⟩
abbrev ACC_KEYCMD_SLOT : Fld := ⟨0x18, 0x09C, 2, 0, false⟩
abbrev ACC_PATCHVER_VER : Fld := ⟨0x18, 0x0A0, 6, 0, false⟩
abbrev ACC_CNT_AUTH_OPENED : Fld := ⟨0x18, 0x0A4, 31, 16, false⟩
abbrev ACC_CNT_AUTH_FAIL : Fld := ⟨0x18, 0x0A4, 15, 8, false⟩
abbrev ACC_CNT_AUTH_REPLAY : Fld := ⟨0x18, 0x0A4, 7, 0, false⟩
abbrev ACC_CNT_ACC_OWNED : Fld := ⟨0x18, 0x0A8, 31, 16, false⟩
abbrev ACC_CNT_ACC_PREEMPTED : Fld := ⟨0x18, 0x0A8, 15, 0, false⟩
abbrev ACC_CNT_YRAP_REPLIES : Fld := ⟨0x18, 0x0AC, 31, 16, false⟩
abbrev ACC_CNT_YRAP_DROP : Fld := ⟨0x18, 0x0AC, 15, 8, false⟩
abbrev ACC_CNT_YRAP_TOO_LONG : Fld := ⟨0x18, 0x0AC, 7, 0, false⟩
abbrev ACC_CLOG_CNT_NEXT : Fld := ⟨0x18, 0x0B0, 20, 16, false⟩
abbrev ACC_CLOG_CNT_TOTAL : Fld := ⟨0x18, 0x0B0, 15, 0, false⟩
abbrev ACC_CLOG_IDX_IDX : Fld := ⟨0x18, 0x0B4, 4, 0, false⟩
abbrev ACC_CLOG_W0_TICK : Fld := ⟨0x18, 0x0B8, 31, 0, false⟩
abbrev ACC_CLOG_W1_PAGE : Fld := ⟨0x18, 0x0BC, 31, 24, false⟩
abbrev ACC_CLOG_W1_WIN_SID : Fld := ⟨0x18, 0x0BC, 23, 16, false⟩
abbrev ACC_CLOG_W1_LOSE_SID : Fld := ⟨0x18, 0x0BC, 15, 8, false⟩
abbrev ACC_CLOG_W1_WINNER : Fld := ⟨0x18, 0x0BC, 7, 4, false⟩
abbrev ACC_CLOG_W1_LOSER : Fld := ⟨0x18, 0x0BC, 3, 0, false⟩
abbrev ACC_CLOG_W2_KIND : Fld := ⟨0x18, 0x0C0, 17, 16, false⟩
abbrev ACC_CLOG_W2_GROUP : Fld := ⟨0x18, 0x0C0, 15, 12, false⟩
abbrev ACC_CLOG_W2_OFFSET : Fld := ⟨0x18, 0x0C0, 11, 0, false⟩
abbrev ACC_REJECT_REASON : Fld := ⟨0x18, 0x0C4, 7, 0, false⟩

/-! ### Page SPI -/

abbrev SPI_CFG_SPI_ROLE : Fld := ⟨0x19, 0x040, 9, 8, false⟩
abbrev SPI_CFG_IRQ_EN : Fld := ⟨0x19, 0x040, 0, 0, false⟩
abbrev SPI_STAT_FACTORY : Fld := ⟨0x19, 0x044, 5, 5, false⟩
abbrev SPI_STAT_OUTCOME : Fld := ⟨0x19, 0x044, 4, 0, false⟩
abbrev SPI_CNT_EXEC : Fld := ⟨0x19, 0x048, 31, 16, false⟩
abbrev SPI_CNT_CRC : Fld := ⟨0x19, 0x048, 15, 8, false⟩
abbrev SPI_CNT_FRAME : Fld := ⟨0x19, 0x048, 7, 0, false⟩
abbrev SPI_CNT_CMD_BAD_CMD : Fld := ⟨0x19, 0x04C, 7, 0, false⟩
abbrev SPI_EVSUM_BITS (i : Nat) : Fld := ⟨0x19, 0x050 + 0x4 * i, 31, 0, false⟩

/-! ### Page XPT -/

abbrev XPT_CFG_OPEN_CNT : Fld := ⟨0x20, 0x040, 3, 0, true⟩
abbrev XPT_RREF_R_REF : Fld := ⟨0x20, 0x044, 31, 0, true⟩
abbrev XPT_OPEN0_BITS : Fld := ⟨0x20, 0x048, 31, 0, false⟩
abbrev XPT_OPEN1_BITS : Fld := ⟨0x20, 0x04C, 15, 0, false⟩
abbrev XPT_LCHG0_BITS : Fld := ⟨0x20, 0x050, 31, 0, false⟩
abbrev XPT_LCHG1_BITS : Fld := ⟨0x20, 0x054, 15, 0, false⟩
abbrev XPT_CNT_CHECKS : Fld := ⟨0x20, 0x058, 31, 16, false⟩
abbrev XPT_CNT_OPEN : Fld := ⟨0x20, 0x058, 15, 8, false⟩
abbrev XPT_CNT_LEAD : Fld := ⟨0x20, 0x058, 7, 0, false⟩
abbrev XPT_REJECT_SETUP : Fld := ⟨0x20, 0x05C, 13, 8, false⟩
abbrev XPT_REJECT_REASON : Fld := ⟨0x20, 0x05C, 7, 0, false⟩
abbrev XPT_PINSTAT_DRIVEN : Fld := ⟨0x20, 0x060, 31, 16, false⟩
abbrev XPT_PINSTAT_CONNECTED : Fld := ⟨0x20, 0x060, 15, 0, false⟩
abbrev XPT_SETUP_A_AINP (i : Nat) : Fld := ⟨0x20, 0x100 + 0xC * i, 31, 28, true⟩
abbrev XPT_SETUP_A_AINN (i : Nat) : Fld := ⟨0x20, 0x100 + 0xC * i, 27, 24, true⟩
abbrev XPT_SETUP_A_GAIN (i : Nat) : Fld := ⟨0x20, 0x100 + 0xC * i, 23, 21, true⟩
abbrev XPT_SETUP_A_REFSEL (i : Nat) : Fld := ⟨0x20, 0x100 + 0xC * i, 20, 20, true⟩
abbrev XPT_SETUP_A_LEADMODE (i : Nat) : Fld := ⟨0x20, 0x100 + 0xC * i, 19, 18, true⟩
abbrev XPT_SETUP_A_BO_I (i : Nat) : Fld := ⟨0x20, 0x100 + 0xC * i, 17, 16, true⟩
abbrev XPT_SETUP_A_EXC_PIN (i : Nat) : Fld := ⟨0x20, 0x100 + 0xC * i, 15, 12, true⟩
abbrev XPT_SETUP_A_EXC_SRC (i : Nat) : Fld := ⟨0x20, 0x100 + 0xC * i, 11, 10, true⟩
abbrev XPT_SETUP_A_EXC_EN (i : Nat) : Fld := ⟨0x20, 0x100 + 0xC * i, 9, 9, true⟩
abbrev XPT_SETUP_A_SETTLE_US (i : Nat) : Fld := ⟨0x20, 0x100 + 0xC * i, 8, 0, true⟩
abbrev XPT_SETUP_B_EN (i : Nat) : Fld := ⟨0x20, 0x104 + 0xC * i, 31, 31, true⟩
abbrev XPT_SETUP_B_AUX_EXC (i : Nat) : Fld := ⟨0x20, 0x104 + 0xC * i, 30, 30, true⟩
abbrev XPT_SETUP_B_AUX_DAC (i : Nat) : Fld := ⟨0x20, 0x104 + 0xC * i, 29, 29, true⟩
abbrev XPT_SETUP_B_BIAS_PIN (i : Nat) : Fld := ⟨0x20, 0x104 + 0xC * i, 27, 24, true⟩
abbrev XPT_SETUP_B_BIAS_KIND (i : Nat) : Fld := ⟨0x20, 0x104 + 0xC * i, 23, 22, true⟩
abbrev XPT_SETUP_B_OPEN_TH (i : Nat) : Fld := ⟨0x20, 0x104 + 0xC * i, 15, 8, true⟩
abbrev XPT_SETUP_B_EXC_N (i : Nat) : Fld := ⟨0x20, 0x104 + 0xC * i, 7, 4, true⟩
abbrev XPT_SETUP_C_R_LEAD_MOHM (i : Nat) : Fld := ⟨0x20, 0x108 + 0xC * i, 31, 16, true⟩
abbrev XPT_SETUP_C_LEAD_TOL_MOHM (i : Nat) : Fld := ⟨0x20, 0x108 + 0xC * i, 15, 0, true⟩
abbrev XPT_LEAD_MEAS_MOHM (i : Nat) : Fld := ⟨0x20, 0x340 + 0x4 * i, 31, 16, false⟩
abbrev XPT_LEAD_REF_MOHM (i : Nat) : Fld := ⟨0x20, 0x340 + 0x4 * i, 15, 0, false⟩

/-! ### Page EXC -/

abbrev EXC_OFS_EXC_OFS_US (i : Nat) : Fld := ⟨0x21, 0x040 + 0x4 * i, 8, 0, true⟩
abbrev EXC_STAT_OFS_CLIP : Fld := ⟨0x21, 0x058, 16, 16, false⟩
abbrev EXC_STAT_COMPL : Fld := ⟨0x21, 0x058, 11, 8, false⟩
abbrev EXC_STAT_ON : Fld := ⟨0x21, 0x058, 3, 0, false⟩
abbrev EXC_AVG01_AVG1 : Fld := ⟨0x21, 0x05C, 31, 16, false⟩
abbrev EXC_AVG01_AVG0 : Fld := ⟨0x21, 0x05C, 15, 0, false⟩
abbrev EXC_AVG23_AVG3 : Fld := ⟨0x21, 0x060, 31, 16, false⟩
abbrev EXC_AVG23_AVG2 : Fld := ⟨0x21, 0x060, 15, 0, false⟩
abbrev EXC_AVGBO_AVG : Fld := ⟨0x21, 0x064, 15, 0, false⟩
abbrev EXC_TOTAL_TOTAL : Fld := ⟨0x21, 0x068, 19, 0, false⟩
abbrev EXC_TRIM_PPM (i : Nat) : Fld := ⟨0x21, 0x06C + 0x4 * i, 15, 0, false⟩
abbrev EXC_CNT_WAIT : Fld := ⟨0x21, 0x07C, 31, 16, false⟩
abbrev EXC_CNT_COMPL : Fld := ⟨0x21, 0x07C, 15, 0, false⟩
abbrev EXC_AVGMAX_UA : Fld := ⟨0x21, 0x080, 15, 0, true⟩
abbrev EXC_REJECT_REASON : Fld := ⟨0x21, 0x084, 7, 0, false⟩

/-! ### Page LANE -/

abbrev LANE_CFG_CAL_EXCL (k : Nat) : Fld := ⟨0x22 + k, 0x040, 31, 31, true⟩
abbrev LANE_CFG_PER_TICKS (k : Nat) : Fld := ⟨0x22 + k, 0x040, 26, 16, true⟩
abbrev LANE_CFG_AVG_LOG2 (k : Nat) : Fld := ⟨0x22 + k, 0x040, 11, 8, true⟩
abbrev LANE_CFG_SEQ_LEN (k : Nat) : Fld := ⟨0x22 + k, 0x040, 3, 0, true⟩
abbrev LANE_SEQ_S3 (k i : Nat) : Fld := ⟨0x22 + k, 0x044 + 0x4 * i, 29, 24, true⟩
abbrev LANE_SEQ_S2 (k i : Nat) : Fld := ⟨0x22 + k, 0x044 + 0x4 * i, 21, 16, true⟩
abbrev LANE_SEQ_S1 (k i : Nat) : Fld := ⟨0x22 + k, 0x044 + 0x4 * i, 13, 8, true⟩
abbrev LANE_SEQ_S0 (k i : Nat) : Fld := ⟨0x22 + k, 0x044 + 0x4 * i, 5, 0, true⟩
abbrev LANE_STAT_ENTRY (k : Nat) : Fld := ⟨0x22 + k, 0x04C, 11, 8, false⟩
abbrev LANE_STAT_SKIP (k : Nat) : Fld := ⟨0x22 + k, 0x04C, 4, 4, false⟩
abbrev LANE_STAT_PER_CLIP (k : Nat) : Fld := ⟨0x22 + k, 0x04C, 3, 3, false⟩
abbrev LANE_STAT_CALIB (k : Nat) : Fld := ⟨0x22 + k, 0x04C, 2, 2, false⟩
abbrev LANE_STAT_STOOD_IN (k : Nat) : Fld := ⟨0x22 + k, 0x04C, 1, 1, false⟩
abbrev LANE_STAT_CONVERTING (k : Nat) : Fld := ⟨0x22 + k, 0x04C, 0, 0, false⟩
abbrev LANE_CNT_RESULTS (k : Nat) : Fld := ⟨0x22 + k, 0x050, 31, 16, false⟩
abbrev LANE_CNT_CLIP (k : Nat) : Fld := ⟨0x22 + k, 0x050, 15, 0, false⟩
abbrev LANE_REJECT_REASON (k : Nat) : Fld := ⟨0x22 + k, 0x054, 7, 0, false⟩
abbrev LANE_RES_CODE (k i : Nat) : Fld := ⟨0x22 + k, 0x060 + 0x4 * i, 31, 8, false⟩
abbrev LANE_RES_FLAGS (k i : Nat) : Fld := ⟨0x22 + k, 0x060 + 0x4 * i, 7, 0, false⟩
abbrev LANE_TAG_TICK (k i : Nat) : Fld := ⟨0x22 + k, 0x080 + 0x4 * i, 31, 16, false⟩
abbrev LANE_TAG_SEQNO (k i : Nat) : Fld := ⟨0x22 + k, 0x080 + 0x4 * i, 15, 8, false⟩
abbrev LANE_TAG_SETUP (k i : Nat) : Fld := ⟨0x22 + k, 0x080 + 0x4 * i, 5, 0, false⟩
abbrev LANE_CALOFS_OFS (k i : Nat) : Fld := ⟨0x22 + k, 0x100 + 0x8 * i, 23, 0, false⟩
abbrev LANE_CALGAIN_GAIN (k i : Nat) : Fld := ⟨0x22 + k, 0x104 + 0x8 * i, 23, 0, false⟩

/-! ### Page LANES -/

abbrev LANES_CAL_CAL_PERIOD_S : Fld := ⟨0x28, 0x040, 31, 16, true⟩
abbrev LANES_CAL_CAL_EN : Fld := ⟨0x28, 0x040, 0, 0, true⟩
abbrev LANES_HMAX_HSTEP_MAX : Fld := ⟨0x28, 0x044, 15, 0, true⟩
abbrev LANES_LS_HSTEP : Fld := ⟨0x28, 0x048, 31, 16, false⟩
abbrev LANES_LS_FOR : Fld := ⟨0x28, 0x048, 10, 8, false⟩
abbrev LANES_LS_PHASE : Fld := ⟨0x28, 0x048, 2, 0, false⟩
abbrev LANES_URG_GO : Fld := ⟨0x28, 0x04C, 31, 31, false⟩
abbrev LANES_URG_LANE : Fld := ⟨0x28, 0x04C, 10, 8, false⟩
abbrev LANES_URG_SETUP : Fld := ⟨0x28, 0x04C, 5, 0, false⟩
abbrev LANES_URG_RES_CODE : Fld := ⟨0x28, 0x050, 31, 8, false⟩
abbrev LANES_URG_RES_FLAGS : Fld := ⟨0x28, 0x050, 7, 0, false⟩
abbrev LANES_URG_STAT_LANE : Fld := ⟨0x28, 0x054, 10, 8, false⟩
abbrev LANES_URG_STAT_INVALID : Fld := ⟨0x28, 0x054, 2, 2, false⟩
abbrev LANES_URG_STAT_DROPPED : Fld := ⟨0x28, 0x054, 1, 1, false⟩
abbrev LANES_URG_STAT_DONE : Fld := ⟨0x28, 0x054, 0, 0, false⟩
abbrev LANES_CNT_URGENT_DROP : Fld := ⟨0x28, 0x058, 31, 16, false⟩
abbrev LANES_CNT_CAL_ABANDON : Fld := ⟨0x28, 0x058, 15, 8, false⟩
abbrev LANES_CNT_CAL_REJECT : Fld := ⟨0x28, 0x058, 7, 0, false⟩
abbrev LANES_CNT2_SWAPS : Fld := ⟨0x28, 0x05C, 31, 16, false⟩
abbrev LANES_CNT2_APPLIED : Fld := ⟨0x28, 0x05C, 15, 0, false⟩
abbrev LANES_COLL_ADDR : Fld := ⟨0x28, 0x060, 31, 0, true⟩
abbrev LANES_REJECT_REASON : Fld := ⟨0x28, 0x064, 7, 0, false⟩

/-! ### Page FAST -/

abbrev FAST_CFG_HOLD (k : Nat) : Fld := ⟨0x29 + k, 0x040, 31, 24, true⟩
abbrev FAST_CFG_MU_G (k : Nat) : Fld := ⟨0x29 + k, 0x040, 20, 16, true⟩
abbrev FAST_CFG_MU_O (k : Nat) : Fld := ⟨0x29 + k, 0x040, 11, 8, true⟩
abbrev FAST_CFG_SLOPE_EN (k : Nat) : Fld := ⟨0x29 + k, 0x040, 5, 5, true⟩
abbrev FAST_CFG_LMS_EN (k : Nat) : Fld := ⟨0x29 + k, 0x040, 4, 4, true⟩
abbrev FAST_CFG_FORCE (k : Nat) : Fld := ⟨0x29 + k, 0x040, 1, 0, true⟩
abbrev FAST_MATCH_MATCH_TH (k : Nat) : Fld := ⟨0x29 + k, 0x044, 12, 0, true⟩
abbrev FAST_RING_ADDR (k : Nat) : Fld := ⟨0x29 + k, 0x048, 31, 0, true⟩
abbrev FAST_RLEN_LEN (k : Nat) : Fld := ⟨0x29 + k, 0x04C, 15, 0, true⟩
abbrev FAST_WORD_WORD (k : Nat) : Fld := ⟨0x29 + k, 0x050, 31, 0, false⟩
abbrev FAST_GAIN_G (k : Nat) : Fld := ⟨0x29 + k, 0x054, 31, 0, false⟩
abbrev FAST_OFS_O (k : Nat) : Fld := ⟨0x29 + k, 0x058, 31, 0, false⟩
abbrev FAST_RESID_R (k : Nat) : Fld := ⟨0x29 + k, 0x05C, 23, 0, false⟩
abbrev FAST_STAT_OVR (k : Nat) : Fld := ⟨0x29 + k, 0x060, 4, 4, false⟩
abbrev FAST_STAT_CONV (k : Nat) : Fld := ⟨0x29 + k, 0x060, 3, 3, false⟩
abbrev FAST_STAT_FROZEN (k : Nat) : Fld := ⟨0x29 + k, 0x060, 2, 2, false⟩
abbrev FAST_STAT_HOLD_RUN (k : Nat) : Fld := ⟨0x29 + k, 0x060, 1, 1, false⟩
abbrev FAST_STAT_PATH (k : Nat) : Fld := ⟨0x29 + k, 0x060, 0, 0, false⟩
abbrev FAST_CNT_SPLICES (k : Nat) : Fld := ⟨0x29 + k, 0x064, 31, 16, false⟩
abbrev FAST_CNT_OVR (k : Nat) : Fld := ⟨0x29 + k, 0x064, 15, 8, false⟩
abbrev FAST_CNT_CONVLOSS (k : Nat) : Fld := ⟨0x29 + k, 0x064, 7, 0, false⟩
abbrev FAST_CNT2_FIFO_OVF (k : Nat) : Fld := ⟨0x29 + k, 0x068, 15, 0, false⟩
abbrev FAST_RPOS_POS (k : Nat) : Fld := ⟨0x29 + k, 0x06C, 15, 0, false⟩
abbrev FAST_REJECT_REASON (k : Nat) : Fld := ⟨0x29 + k, 0x070, 7, 0, false⟩

/-! ### Page REC -/

abbrev REC_CFG_Q_REQ : Fld := ⟨0x2C, 0x040, 31, 16, true⟩
abbrev REC_CFG_P_REQ : Fld := ⟨0x2C, 0x040, 15, 0, true⟩
abbrev REC_ROW_ARCH_EN : Fld := ⟨0x2C, 0x044, 9, 9, true⟩
abbrev REC_ROW_CHAIN : Fld := ⟨0x2C, 0x044, 8, 8, true⟩
abbrev REC_ROW_NX : Fld := ⟨0x2C, 0x044, 6, 4, true⟩
abbrev REC_ROW_F1_EN : Fld := ⟨0x2C, 0x044, 1, 1, true⟩
abbrev REC_ROW_F0_EN : Fld := ⟨0x2C, 0x044, 0, 0, true⟩
abbrev REC_BUF_ADDR : Fld := ⟨0x2C, 0x048, 31, 0, true⟩
abbrev REC_AREA_KIB : Fld := ⟨0x2C, 0x04C, 15, 0, true⟩
abbrev REC_XADDR_ADDR : Fld := ⟨0x2C, 0x050, 31, 0, true⟩
abbrev REC_ARCH_WAIT_S : Fld := ⟨0x2C, 0x054, 11, 0, true⟩
abbrev REC_TU_CFG_EN (i : Nat) : Fld := ⟨0x2C, 0x060 + 0xC * i, 31, 31, true⟩
abbrev REC_TU_CFG_KIND (i : Nat) : Fld := ⟨0x2C, 0x060 + 0xC * i, 28, 28, true⟩
abbrev REC_TU_CFG_SRC (i : Nat) : Fld := ⟨0x2C, 0x060 + 0xC * i, 26, 24, true⟩
abbrev REC_TU_CFG_DEB (i : Nat) : Fld := ⟨0x2C, 0x060 + 0xC * i, 7, 0, true⟩
abbrev REC_TU_HI_HI (i : Nat) : Fld := ⟨0x2C, 0x064 + 0xC * i, 31, 0, true⟩
abbrev REC_TU_LO_LO (i : Nat) : Fld := ⟨0x2C, 0x068 + 0xC * i, 31, 0, true⟩
abbrev REC_EDGE_POL : Fld := ⟨0x2C, 0x090, 12, 8, true⟩
abbrev REC_EDGE_EN : Fld := ⟨0x2C, 0x090, 4, 0, true⟩
abbrev REC_VTRIG_EN : Fld := ⟨0x2C, 0x094, 31, 31, true⟩
abbrev REC_VTRIG_VFLAG_MASK : Fld := ⟨0x2C, 0x094, 23, 16, true⟩
abbrev REC_VTRIG_VCODE : Fld := ⟨0x2C, 0x094, 15, 0, true⟩
abbrev REC_VMASK_VMASK : Fld := ⟨0x2C, 0x098, 15, 0, true⟩
abbrev REC_TRIG_GO : Fld := ⟨0x2C, 0x09C, 0, 0, false⟩
abbrev REC_STAT_STATE : Fld := ⟨0x2C, 0x0A0, 18, 16, false⟩
abbrev REC_STAT_ACTIVE : Fld := ⟨0x2C, 0x0A0, 12, 12, false⟩
abbrev REC_STAT_HELD1 : Fld := ⟨0x2C, 0x0A0, 11, 11, false⟩
abbrev REC_STAT_HELD0 : Fld := ⟨0x2C, 0x0A0, 10, 10, false⟩
abbrev REC_STAT_ARCH_BUSY : Fld := ⟨0x2C, 0x0A0, 9, 9, false⟩
abbrev REC_STAT_INDEX_READY : Fld := ⟨0x2C, 0x0A0, 8, 8, false⟩
abbrev REC_STAT_RETIRED : Fld := ⟨0x2C, 0x0A0, 7, 7, false⟩
abbrev REC_STAT_RECNO_END : Fld := ⟨0x2C, 0x0A0, 6, 6, false⟩
abbrev REC_HIST_RING_ROWS : Fld := ⟨0x2C, 0x0A4, 31, 16, false⟩
abbrev REC_HIST_HIST : Fld := ⟨0x2C, 0x0A4, 15, 0, false⟩
abbrev REC_LAST_RECNO : Fld := ⟨0x2C, 0x0A8, 31, 0, false⟩
abbrev REC_ACK_RECNO : Fld := ⟨0x2C, 0x0AC, 31, 0, false⟩
abbrev REC_FIND_RECNO : Fld := ⟨0x2C, 0x0B0, 31, 0, false⟩
abbrev REC_FOUND_STAT_DONE : Fld := ⟨0x2C, 0x0B4, 1, 1, false⟩
abbrev REC_FOUND_STAT_VALID : Fld := ⟨0x2C, 0x0B4, 0, 0, false⟩
abbrev REC_FOUND_ADDR_ADDR : Fld := ⟨0x2C, 0x0B8, 31, 0, false⟩
abbrev REC_FOUND_LEN_LEN : Fld := ⟨0x2C, 0x0BC, 19, 0, false⟩
abbrev REC_CNT_SEALED : Fld := ⟨0x2C, 0x0C0, 31, 16, false⟩
abbrev REC_CNT_MISSED : Fld := ⟨0x2C, 0x0C0, 15, 0, false⟩
abbrev REC_CNT_ARCH_DONE : Fld := ⟨0x2C, 0x0C4, 31, 16, false⟩
abbrev REC_CNT_ARCH_UNREAD_LOST : Fld := ⟨0x2C, 0x0C4, 15, 8, false⟩
abbrev REC_CNT_ARCH_ZEROED : Fld := ⟨0x2C, 0x0C4, 7, 0, false⟩
abbrev REC_CNT_CHAIN_CHAINED : Fld := ⟨0x2C, 0x0C8, 31, 16, false⟩
abbrev REC_CNT_CHAIN_SHORT : Fld := ⟨0x2C, 0x0C8, 15, 0, false⟩
abbrev REC_MLOG_CNT_NEXT : Fld := ⟨0x2C, 0x0CC, 19, 16, false⟩
abbrev REC_MLOG_CNT_TOTAL : Fld := ⟨0x2C, 0x0CC, 15, 0, false⟩
abbrev REC_MLOG_IDX_IDX : Fld := ⟨0x2C, 0x0D0, 3, 0, false⟩
abbrev REC_MLOG_W0_TICK : Fld := ⟨0x2C, 0x0D4, 31, 0, false⟩
abbrev REC_MLOG_W1_TOD : Fld := ⟨0x2C, 0x0D8, 31, 0, false⟩
abbrev REC_MLOG_W2_CAUSE : Fld := ⟨0x2C, 0x0DC, 31, 24, false⟩
abbrev REC_MLOG_W2_TKIND : Fld := ⟨0x2C, 0x0DC, 23, 16, false⟩
abbrev REC_MLOG_W2_TSRC : Fld := ⟨0x2C, 0x0DC, 15, 8, false⟩
abbrev REC_REJECT_REASON : Fld := ⟨0x2C, 0x0E0, 7, 0, false⟩

/-! ### Page ARR -/

abbrev ARR_CFG_SPARSE_TH : Fld := ⟨0x30, 0x040, 31, 24, true⟩
abbrev ARR_CFG_HOT_TH_C : Fld := ⟨0x30, 0x040, 23, 16, true⟩
abbrev ARR_CFG_SLOT : Fld := ⟨0x30, 0x040, 8, 8, true⟩
abbrev ARR_CFG_RUN_MODE : Fld := ⟨0x30, 0x040, 1, 0, true⟩
abbrev ARR_RUN_RUN_PERIOD : Fld := ⟨0x30, 0x044, 31, 16, true⟩
abbrev ARR_RUN_AGE_MAX : Fld := ⟨0x30, 0x044, 15, 0, true⟩
abbrev ARR_IN_ADDR : Fld := ⟨0x30, 0x048, 31, 0, true⟩
abbrev ARR_OUT_ADDR : Fld := ⟨0x30, 0x04C, 31, 0, true⟩
abbrev ARR_ARENA_ADDR : Fld := ⟨0x30, 0x050, 31, 0, true⟩
abbrev ARR_GO_GO : Fld := ⟨0x30, 0x054, 0, 0, false⟩
abbrev ARR_STAT_SERVING : Fld := ⟨0x30, 0x058, 28, 24, false⟩
abbrev ARR_STAT_BENCH : Fld := ⟨0x30, 0x058, 20, 16, false⟩
abbrev ARR_STAT_SPARES : Fld := ⟨0x30, 0x058, 12, 12, false⟩
abbrev ARR_STAT_LAYER : Fld := ⟨0x30, 0x058, 11, 6, false⟩
abbrev ARR_STAT_SHORT : Fld := ⟨0x30, 0x058, 5, 5, false⟩
abbrev ARR_STAT_PEND_SLOT : Fld := ⟨0x30, 0x058, 3, 3, false⟩
abbrev ARR_STAT_GO_PEND : Fld := ⟨0x30, 0x058, 2, 2, false⟩
abbrev ARR_STAT_RUNNING : Fld := ⟨0x30, 0x058, 1, 1, false⟩
abbrev ARR_STAT_MODEL_OK : Fld := ⟨0x30, 0x058, 0, 0, false⟩
abbrev ARR_VERDICT_CODE : Fld := ⟨0x30, 0x05C, 31, 16, false⟩
abbrev ARR_VERDICT_FLAGS : Fld := ⟨0x30, 0x05C, 15, 8, false⟩
abbrev ARR_VTICK_TICK : Fld := ⟨0x30, 0x060, 31, 0, false⟩
abbrev ARR_VAGE_AGE : Fld := ⟨0x30, 0x064, 31, 0, false⟩
abbrev ARR_VNOW_AGE : Fld := ⟨0x30, 0x068, 31, 0, false⟩
abbrev ARR_SCORE_BEST : Fld := ⟨0x30, 0x06C, 15, 8, false⟩
abbrev ARR_SCORE_SECOND : Fld := ⟨0x30, 0x06C, 7, 0, false⟩
abbrev ARR_RETIRED_BITS : Fld := ⟨0x30, 0x070, 16, 0, false⟩
abbrev ARR_CELLCMD_OP : Fld := ⟨0x30, 0x074, 31, 24, false⟩
abbrev ARR_CELLCMD_CELL : Fld := ⟨0x30, 0x074, 4, 0, false⟩
abbrev ARR_CMDSTAT_OP : Fld := ⟨0x30, 0x078, 31, 24, false⟩
abbrev ARR_CMDSTAT_RESULT : Fld := ⟨0x30, 0x078, 9, 8, false⟩
abbrev ARR_CMDSTAT_CELL : Fld := ⟨0x30, 0x078, 4, 0, false⟩
abbrev ARR_ABORT_CAUSE : Fld := ⟨0x30, 0x07C, 31, 28, false⟩
abbrev ARR_ABORT_LAYER : Fld := ⟨0x30, 0x07C, 21, 16, false⟩
abbrev ARR_ABORT_TILE : Fld := ⟨0x30, 0x07C, 15, 8, false⟩
abbrev ARR_ABORT_CELL : Fld := ⟨0x30, 0x07C, 4, 0, false⟩
abbrev ARR_CNT_RUNS : Fld := ⟨0x30, 0x080, 31, 16, false⟩
abbrev ARR_CNT_INVALID : Fld := ⟨0x30, 0x080, 15, 8, false⟩
abbrev ARR_CNT_REPEATED : Fld := ⟨0x30, 0x080, 7, 0, false⟩
abbrev ARR_CNT2_REQUEUE : Fld := ⟨0x30, 0x084, 31, 16, false⟩
abbrev ARR_CNT2_SKIP : Fld := ⟨0x30, 0x084, 15, 0, false⟩
abbrev ARR_TILES_SPARSE : Fld := ⟨0x30, 0x088, 31, 16, false⟩
abbrev ARR_TILES_DENSE : Fld := ⟨0x30, 0x088, 15, 0, false⟩
abbrev ARR_MSTAT_MODEL_ID : Fld := ⟨0x30, 0x08C, 31, 16, false⟩
abbrev ARR_MSTAT_MODEL_VER : Fld := ⟨0x30, 0x08C, 15, 0, false⟩
abbrev ARR_MVALID_B_SOUND : Fld := ⟨0x30, 0x090, 5, 5, false⟩
abbrev ARR_MVALID_A_SOUND : Fld := ⟨0x30, 0x090, 4, 4, false⟩
abbrev ARR_MVALID_B_VALID : Fld := ⟨0x30, 0x090, 1, 1, false⟩
abbrev ARR_MVALID_A_VALID : Fld := ⟨0x30, 0x090, 0, 0, false⟩
abbrev ARR_REJECT_REASON : Fld := ⟨0x30, 0x094, 7, 0, false⟩

/-! ### Page CELL -/

abbrev CELL_STAT_ROLE (k : Nat) : Fld := ⟨0x31 + k, 0x040, 6, 4, false⟩
abbrev CELL_STAT_BUSY (k : Nat) : Fld := ⟨0x31 + k, 0x040, 1, 1, false⟩
abbrev CELL_STAT_HOT (k : Nat) : Fld := ⟨0x31 + k, 0x040, 0, 0, false⟩
abbrev CELL_TEMP_TEMP (k : Nat) : Fld := ⟨0x31 + k, 0x044, 15, 0, false⟩
abbrev CELL_WORK_LAYER (k : Nat) : Fld := ⟨0x31 + k, 0x048, 13, 8, false⟩
abbrev CELL_WORK_PART (k : Nat) : Fld := ⟨0x31 + k, 0x048, 3, 0, false⟩
abbrev CELL_CNT_PARTS (k : Nat) : Fld := ⟨0x31 + k, 0x04C, 31, 16, false⟩
abbrev CELL_CNT_CORR (k : Nat) : Fld := ⟨0x31 + k, 0x04C, 15, 8, false⟩
abbrev CELL_CNT_WDOG (k : Nat) : Fld := ⟨0x31 + k, 0x04C, 7, 0, false⟩
abbrev CELL_RET_CAUSE (k : Nat) : Fld := ⟨0x31 + k, 0x050, 31, 28, false⟩
abbrev CELL_RETTICK_TICK (k : Nat) : Fld := ⟨0x31 + k, 0x054, 31, 0, false⟩

/-! ### Page DMA -/

abbrev DMA_CFG_STORE_TH : Fld := ⟨0x42, 0x040, 7, 0, true⟩
abbrev DMA_STAT_RUNNING : Fld := ⟨0x42, 0x044, 15, 8, false⟩
abbrev DMA_STAT_ERR : Fld := ⟨0x42, 0x044, 7, 0, false⟩
abbrev DMA_META_CODE : Fld := ⟨0x42, 0x048, 31, 24, false⟩
abbrev DMA_META_CHECKER : Fld := ⟨0x42, 0x048, 23, 16, false⟩
abbrev DMA_META_LAYER : Fld := ⟨0x42, 0x048, 15, 8, false⟩
abbrev DMA_META_TILE : Fld := ⟨0x42, 0x048, 7, 0, false⟩
abbrev DMA_CNT_SPARSE : Fld := ⟨0x42, 0x04C, 31, 16, false⟩
abbrev DMA_CNT_DENSE : Fld := ⟨0x42, 0x04C, 15, 0, false⟩
abbrev DMA_CNT2_DONE : Fld := ⟨0x42, 0x050, 31, 16, false⟩
abbrev DMA_CNT2_INCOMPLETE : Fld := ⟨0x42, 0x050, 15, 8, false⟩
abbrev DMA_CNT2_ERR : Fld := ⟨0x42, 0x050, 7, 0, false⟩
abbrev DMA_CNT3_META : Fld := ⟨0x42, 0x054, 15, 0, false⟩
abbrev DMA_REJECT_JOB : Fld := ⟨0x42, 0x058, 10, 8, false⟩
abbrev DMA_REJECT_REASON : Fld := ⟨0x42, 0x058, 7, 0, false⟩
abbrev DMA_JOB_CFG_EN (i : Nat) : Fld := ⟨0x42, 0x080 + 0x20 * i, 31, 31, true⟩
abbrev DMA_JOB_CFG_KIND (i : Nat) : Fld := ⟨0x42, 0x080 + 0x20 * i, 30, 28, true⟩
abbrev DMA_JOB_CFG_FORM (i : Nat) : Fld := ⟨0x42, 0x080 + 0x20 * i, 27, 26, true⟩
abbrev DMA_JOB_CFG_PLACE (i : Nat) : Fld := ⟨0x42, 0x080 + 0x20 * i, 25, 25, true⟩
abbrev DMA_JOB_CFG_RING (i : Nat) : Fld := ⟨0x42, 0x080 + 0x20 * i, 24, 24, true⟩
abbrev DMA_JOB_CFG_COUNT (i : Nat) : Fld := ⟨0x42, 0x080 + 0x20 * i, 15, 0, true⟩
abbrev DMA_JOB_SRC_ADDR (i : Nat) : Fld := ⟨0x42, 0x084 + 0x20 * i, 31, 0, true⟩
abbrev DMA_JOB_DST_ADDR (i : Nat) : Fld := ⟨0x42, 0x088 + 0x20 * i, 31, 0, true⟩
abbrev DMA_JOB_RLEN_LEN (i : Nat) : Fld := ⟨0x42, 0x08C + 0x20 * i, 23, 0, true⟩
abbrev DMA_JOB_POS_POS (i : Nat) : Fld := ⟨0x42, 0x090 + 0x20 * i, 23, 0, false⟩
abbrev DMA_JOB_LAST_UNITS (i : Nat) : Fld := ⟨0x42, 0x094 + 0x20 * i, 31, 16, false⟩
abbrev DMA_JOB_LAST_ERR (i : Nat) : Fld := ⟨0x42, 0x094 + 0x20 * i, 1, 1, false⟩
abbrev DMA_JOB_LAST_DONE (i : Nat) : Fld := ⟨0x42, 0x094 + 0x20 * i, 0, 0, false⟩

/-! ### Page PRUNE -/

abbrev PRUNE_CFG_GSEL : Fld := ⟨0x43, 0x040, 25, 24, true⟩
abbrev PRUNE_CFG_KEEP : Fld := ⟨0x43, 0x040, 19, 16, true⟩
abbrev PRUNE_CFG_QSHIFT : Fld := ⟨0x43, 0x040, 11, 8, true⟩
abbrev PRUNE_LRATE_LR_MAX : Fld := ⟨0x43, 0x044, 28, 24, true⟩
abbrev PRUNE_LRATE_LR0 : Fld := ⟨0x43, 0x044, 20, 16, true⟩
abbrev PRUNE_LRATE_LR_STEP : Fld := ⟨0x43, 0x044, 7, 0, true⟩
abbrev PRUNE_FWD_FWD_SHIFT : Fld := ⟨0x43, 0x048, 4, 0, true⟩
abbrev PRUNE_EPOCH_EPOCH_MIN : Fld := ⟨0x43, 0x04C, 31, 16, true⟩
abbrev PRUNE_EPOCH_ERR_TH : Fld := ⟨0x43, 0x04C, 15, 0, true⟩
abbrev PRUNE_SAMP_ADDR : Fld := ⟨0x43, 0x050, 31, 0, true⟩
abbrev PRUNE_SLEN_LEN : Fld := ⟨0x43, 0x054, 23, 0, true⟩
abbrev PRUNE_SMIN_S_TOTAL : Fld := ⟨0x43, 0x058, 31, 8, true⟩
abbrev PRUNE_SMIN2_S_MIN : Fld := ⟨0x43, 0x05C, 15, 0, true⟩
abbrev PRUNE_HEAD_ADDR : Fld := ⟨0x43, 0x060, 31, 0, true⟩
abbrev PRUNE_TGT_ADDR : Fld := ⟨0x43, 0x064, 31, 0, true⟩
abbrev PRUNE_CMD_OP : Fld := ⟨0x43, 0x068, 31, 24, false⟩
abbrev PRUNE_CMD_INIT : Fld := ⟨0x43, 0x068, 0, 0, false⟩
abbrev PRUNE_LSTAT_STATE : Fld := ⟨0x43, 0x06C, 31, 24, false⟩
abbrev PRUNE_LSTAT_RESULT : Fld := ⟨0x43, 0x06C, 23, 16, false⟩
abbrev PRUNE_LSTAT_EPOCHS : Fld := ⟨0x43, 0x06C, 15, 0, false⟩
abbrev PRUNE_LPROG_HELD : Fld := ⟨0x43, 0x070, 31, 16, false⟩
abbrev PRUNE_LPROG_ERR : Fld := ⟨0x43, 0x070, 15, 0, false⟩
abbrev PRUNE_LCNT_CAPTURES : Fld := ⟨0x43, 0x074, 31, 8, false⟩
abbrev PRUNE_LCNT_SKIPPED : Fld := ⟨0x43, 0x074, 7, 0, false⟩
abbrev PRUNE_HSTAT_SEQ : Fld := ⟨0x43, 0x078, 31, 16, false⟩
abbrev PRUNE_HSTAT_COPY : Fld := ⟨0x43, 0x078, 9, 8, false⟩
abbrev PRUNE_HSTAT_HEAD_OK : Fld := ⟨0x43, 0x078, 2, 2, false⟩
abbrev PRUNE_HSTAT_WFMT : Fld := ⟨0x43, 0x078, 1, 0, false⟩
abbrev PRUNE_PRES_NNZ : Fld := ⟨0x43, 0x07C, 31, 16, false⟩
abbrev PRUNE_PRES_BLOCKS : Fld := ⟨0x43, 0x07C, 15, 0, false⟩
abbrev PRUNE_HLEN_LEN : Fld := ⟨0x43, 0x080, 16, 0, false⟩
abbrev PRUNE_REJECT_REASON : Fld := ⟨0x43, 0x084, 7, 0, false⟩

/-! ### Page KEYS -/

abbrev KEYS_CFG_SCAN_MS : Fld := ⟨0x48, 0x040, 30, 24, true⟩
abbrev KEYS_CFG_DEB : Fld := ⟨0x48, 0x040, 19, 16, true⟩
abbrev KEYS_CFG_ACT_EN : Fld := ⟨0x48, 0x040, 10, 8, true⟩
abbrev KEYS_CFG_SAVE_EN : Fld := ⟨0x48, 0x040, 4, 4, true⟩
abbrev KEYS_CFG_LED_MODE : Fld := ⟨0x48, 0x040, 1, 0, true⟩
abbrev KEYS_TH_TOUCH_TH : Fld := ⟨0x48, 0x044, 27, 16, true⟩
abbrev KEYS_TH_NEG_TH : Fld := ⟨0x48, 0x044, 11, 0, true⟩
abbrev KEYS_TIME_MAX_TOUCH_S : Fld := ⟨0x48, 0x048, 31, 16, true⟩
abbrev KEYS_TIME_DRIFT_SCANS : Fld := ⟨0x48, 0x048, 15, 8, true⟩
abbrev KEYS_TIME_TRIM_TMO_S : Fld := ⟨0x48, 0x048, 7, 0, true⟩
abbrev KEYS_TRIM_STEP_PPM : Fld := ⟨0x48, 0x04C, 31, 16, true⟩
abbrev KEYS_TRIM_STEP_DUA : Fld := ⟨0x48, 0x04C, 15, 0, true⟩
abbrev KEYS_LOCK_TMO_S : Fld := ⟨0x48, 0x050, 15, 0, true⟩
abbrev KEYS_LED_MA : Fld := ⟨0x48, 0x054, 3, 0, true⟩
abbrev KEYS_STAT_LOCK : Fld := ⟨0x48, 0x058, 16, 16, false⟩
abbrev KEYS_STAT_TRIM : Fld := ⟨0x48, 0x058, 13, 12, false⟩
abbrev KEYS_STAT_TOUCH : Fld := ⟨0x48, 0x058, 10, 8, false⟩
abbrev KEYS_STAT_IGNORE : Fld := ⟨0x48, 0x058, 6, 4, false⟩
abbrev KEYS_STAT_BASE_OK : Fld := ⟨0x48, 0x058, 2, 0, false⟩
abbrev KEYS_SIG_SIGNAL (i : Nat) : Fld := ⟨0x48, 0x060 + 0x4 * i, 31, 16, false⟩
abbrev KEYS_SIG_BASELINE (i : Nat) : Fld := ⟨0x48, 0x060 + 0x4 * i, 15, 0, false⟩
abbrev KEYS_SEQ_CODE : Fld := ⟨0x48, 0x06C, 15, 8, false⟩
abbrev KEYS_SEQ_RESULT : Fld := ⟨0x48, 0x06C, 7, 0, false⟩
abbrev KEYS_CNT_PRESSES : Fld := ⟨0x48, 0x070, 31, 16, false⟩
abbrev KEYS_CNT_ACCEPTED : Fld := ⟨0x48, 0x070, 15, 8, false⟩
abbrev KEYS_CNT_REFUSED : Fld := ⟨0x48, 0x070, 7, 0, false⟩
abbrev KEYS_CNT2_CHORD : Fld := ⟨0x48, 0x074, 23, 16, false⟩
abbrev KEYS_CNT2_STUCK : Fld := ⟨0x48, 0x074, 15, 8, false⟩
abbrev KEYS_CNT2_REBASE_NEG : Fld := ⟨0x48, 0x074, 7, 0, false⟩
abbrev KEYS_CMD_OP : Fld := ⟨0x48, 0x078, 31, 24, false⟩
abbrev KEYS_REJECT_REASON : Fld := ⟨0x48, 0x07C, 7, 0, false⟩

/-! ### Page GPIO -/

abbrev GPIO_CFG_SRC3 : Fld := ⟨0x49, 0x040, 29, 28, true⟩
abbrev GPIO_CFG_PULL3 : Fld := ⟨0x49, 0x040, 27, 26, true⟩
abbrev GPIO_CFG_DIR3 : Fld := ⟨0x49, 0x040, 25, 24, true⟩
abbrev GPIO_CFG_SRC2 : Fld := ⟨0x49, 0x040, 21, 20, true⟩
abbrev GPIO_CFG_PULL2 : Fld := ⟨0x49, 0x040, 19, 18, true⟩
abbrev GPIO_CFG_DIR2 : Fld := ⟨0x49, 0x040, 17, 16, true⟩
abbrev GPIO_CFG_SRC1 : Fld := ⟨0x49, 0x040, 13, 12, true⟩
abbrev GPIO_CFG_PULL1 : Fld := ⟨0x49, 0x040, 11, 10, true⟩
abbrev GPIO_CFG_DIR1 : Fld := ⟨0x49, 0x040, 9, 8, true⟩
abbrev GPIO_CFG_SRC0 : Fld := ⟨0x49, 0x040, 5, 4, true⟩
abbrev GPIO_CFG_PULL0 : Fld := ⟨0x49, 0x040, 3, 2, true⟩
abbrev GPIO_CFG_DIR0 : Fld := ⟨0x49, 0x040, 1, 0, true⟩
abbrev GPIO_OUT_OUT : Fld := ⟨0x49, 0x044, 3, 0, true⟩
abbrev GPIO_IN_LEVELS : Fld := ⟨0x49, 0x048, 3, 0, false⟩
abbrev GPIO_EDGE_FALL : Fld := ⟨0x49, 0x04C, 11, 8, false⟩
abbrev GPIO_EDGE_RISE : Fld := ⟨0x49, 0x04C, 3, 0, false⟩
abbrev GPIO_REJECT_REASON : Fld := ⟨0x49, 0x050, 7, 0, false⟩

end Sys2Proof.Machine.F

/-! ### Events: page and bit (the event lists of the chapters) -/

namespace Sys2Proof.Machine.E

/-- The events common to every page (R66). -/
abbrev COMMIT_DONE : Nat := 0
abbrev COMMIT_REFUSED : Nat := 1
abbrev SRST_DONE : Nat := 2
abbrev LEASE_END : Nat := 3

abbrev SYS_BOOT_DONE : Nat × Nat := (0x00, 8)
abbrev SYS_FIRST_VALUE : Nat × Nat := (0x00, 9)
abbrev SYS_GEN_LATCHED : Nat × Nat := (0x00, 10)
abbrev RST_RESET_SEEN : Nat × Nat := (0x01, 8)
abbrev PWR_WOKE : Nat × Nat := (0x02, 8)
abbrev PWR_REFUSED : Nat × Nat := (0x02, 9)
abbrev PWR_REJECTED : Nat × Nat := (0x02, 10)
abbrev PWR_WAKE_IN_ENTRY : Nat × Nat := (0x02, 11)
abbrev GOV_EMERG_DROP : Nat × Nat := (0x03, 8)
abbrev GOV_LEVEL_CHANGE : Nat × Nat := (0x03, 9)
abbrev GOV_RES_EXHAUST : Nat × Nat := (0x03, 10)
abbrev GOV_BELOW_FLOOR : Nat × Nat := (0x03, 11)
abbrev GOV_SHED : Nat × Nat := (0x03, 12)
abbrev GOV_RES_FULL : Nat × Nat := (0x03, 13)
abbrev CLK_AVS_LIMIT : Nat × Nat := (0x04, 8)
abbrev CLK_LEVEL_DONE : Nat × Nat := (0x04, 9)
abbrev TICK_SYNC_GAINED : Nat × Nat := (0x05, 8)
abbrev TICK_SYNC_LOST : Nat × Nat := (0x05, 9)
abbrev TICK_HOLDOVER_ENTER : Nat × Nat := (0x05, 10)
abbrev TICK_SRC_CHANGE : Nat × Nat := (0x05, 11)
abbrev TICK_RELABEL : Nat × Nat := (0x05, 12)
abbrev PLAN_DEADLINE_EVT : Nat × Nat := (0x06, 8)
abbrev PLAN_O_ABORT : Nat × Nat := (0x06, 9)
abbrev PLAN_FRAME_START : Nat × Nat := (0x06, 10)
abbrev PLAN_SLOT_SIGNAL : Nat × Nat := (0x06, 11)
abbrev FLT0_FAULT_ENTER : Nat × Nat := (0x07, 8)
abbrev FLT0_FAULT_EXIT : Nat × Nat := (0x07, 9)
abbrev FLT0_LOCKOUT : Nat × Nat := (0x07, 10)
abbrev FLT0_IRQ_SRC : Nat × Nat := (0x07, 11)
abbrev FLT0_TRAP : Nat × Nat := (0x07, 12)
abbrev FLT1_IRQ_SRC : Nat × Nat := (0x08, 11)
abbrev BIST_TEST_PASS : Nat × Nat := (0x09, 8)
abbrev BIST_TEST_FAIL : Nat × Nat := (0x09, 9)
abbrev BIST_ROUND_DONE : Nat × Nat := (0x09, 10)
abbrev BIST_ROT_DONE : Nat × Nat := (0x09, 11)
abbrev BG_PROMOTED : Nat × Nat := (0x0A, 8)
abbrev BG_STARVED : Nat × Nat := (0x0A, 9)
abbrev BG_SCRUB_PASS : Nat × Nat := (0x0A, 10)
abbrev BG_SCRUB_UNCORR : Nat × Nat := (0x0A, 11)
abbrev ALM_COMMITTED : Nat × Nat := (0x0B, 8)
abbrev ALM_FC_WARN : Nat × Nat := (0x0B, 9)
abbrev ALM_ALM_LOST : Nat × Nat := (0x0B, 10)
abbrev ALM_RESET_DONE : Nat × Nat := (0x0B, 11)
abbrev ALM_SNAP_DONE : Nat × Nat := (0x0B, 12)
abbrev NVM_CMD_DONE : Nat × Nat := (0x0C, 8)
abbrev NVM_CHECK_BIT_CORRECTED : Nat × Nat := (0x0C, 9)
abbrev NVM_LOAD_PARTIAL : Nat × Nat := (0x0C, 10)
abbrev NVM_ARCH_RETIRED : Nat × Nat := (0x0C, 11)
abbrev MEM_CORR : Nat × Nat := (0x0D, 8)
abbrev MEM_CHECK_BIT_CORRECTED : Nat × Nat := (0x0D, 9)
abbrev MEM_UNCORR : Nat × Nat := (0x0D, 10)
abbrev LINE_GEN_LATCHED : Nat × Nat := (0x10, 8)
abbrev LINE_GEN_CHANGE : Nat × Nat := (0x10, 9)
abbrev LINE_LIFTOFF_SET : Nat × Nat := (0x10, 10)
abbrev LINE_LIFTOFF_CLR : Nat × Nat := (0x10, 11)
abbrev LINE_OVERDRAW_SET : Nat × Nat := (0x10, 12)
abbrev LDAC_CLR_ASSERT : Nat × Nat := (0x11, 8)
abbrev LDAC_CLR_RELEASE : Nat × Nat := (0x11, 9)
abbrev LDAC_SPAN_DONE : Nat × Nat := (0x11, 10)
abbrev LDAC_SAT_ENTER : Nat × Nat := (0x11, 11)
abbrev LDAC_READBACK_SET : Nat × Nat := (0x11, 12)
abbrev LDAC_TEST_END : Nat × Nat := (0x11, 13)
abbrev LDAC_TRIM_LIMIT : Nat × Nat := (0x11, 14)
abbrev ADAC_PASS_DONE0 : Nat × Nat := (0x12, 8)
abbrev ADAC_PASS_DONE1 : Nat × Nat := (0x12, 9)
abbrev ADAC_OVLD_SET : Nat × Nat := (0x12, 10)
abbrev FSK_FRAME_RX : Nat × Nat := (0x13, 8)
abbrev FSK_RX_ERR : Nat × Nat := (0x13, 9)
abbrev FSK_STRANGER : Nat × Nat := (0x13, 10)
abbrev FSK_REPLY_LATE : Nat × Nat := (0x13, 11)
abbrev FSK_BURST_DEFER : Nat × Nat := (0x13, 12)
abbrev FSK_POLL_CHANGE : Nat × Nat := (0x13, 13)
abbrev FSK_CFG_CHANGED : Nat × Nat := (0x13, 14)
abbrev TPHY_LINK_UP : Nat × Nat := (0x14, 8)
abbrev TPHY_LINK_DOWN : Nat × Nat := (0x14, 9)
abbrev TPHY_SQI_LOW : Nat × Nat := (0x14, 10)
abbrev MAC_FLOOD : Nat × Nat := (0x15, 8)
abbrev MAC_QFULL : Nat × Nat := (0x15, 9)
abbrev PTP_MASTER_CHANGE : Nat × Nat := (0x16, 8)
abbrev PTP_PTP_LOST : Nat × Nat := (0x16, 9)
abbrev PTP_PD_INVALID : Nat × Nat := (0x16, 10)
abbrev PTP_OUTLIER : Nat × Nat := (0x16, 11)
abbrev PTP_TOD_STEP : Nat × Nat := (0x16, 12)
abbrev PUB_HALT : Nat × Nat := (0x17, 8)
abbrev PUB_SV_LOST : Nat × Nat := (0x17, 9)
abbrev PUB_GOOSE_STATE : Nat × Nat := (0x17, 10)
abbrev ACC_SESSION_OPEN : Nat × Nat := (0x18, 8)
abbrev ACC_SESSION_END : Nat × Nat := (0x18, 9)
abbrev ACC_AUTH_FAIL : Nat × Nat := (0x18, 10)
abbrev ACC_AUTH_HOLD : Nat × Nat := (0x18, 11)
abbrev ACC_CONTENTION : Nat × Nat := (0x18, 12)
abbrev ACC_OWNED_REFUSED : Nat × Nat := (0x18, 13)
abbrev ACC_DAD_FAIL : Nat × Nat := (0x18, 14)
abbrev ACC_KEY_CHANGE : Nat × Nat := (0x18, 15)
abbrev SPI_CRC_ERR : Nat × Nat := (0x19, 8)
abbrev SPI_FRAME_ERR : Nat × Nat := (0x19, 9)
abbrev SPI_BAD_CMD : Nat × Nat := (0x19, 10)
abbrev XPT_OPEN_SET : Nat × Nat := (0x20, 8)
abbrev XPT_OPEN_CLR : Nat × Nat := (0x20, 9)
abbrev XPT_LEAD_CHG : Nat × Nat := (0x20, 10)
abbrev EXC_COMPL_SET : Nat × Nat := (0x21, 8)
abbrev EXC_AVG_HIGH : Nat × Nat := (0x21, 9)
abbrev EXC_OFS_CLIP : Nat × Nat := (0x21, 10)
abbrev LANE_PER_CLIP (k : Nat) : Nat × Nat := (0x22 + k, 8)
abbrev LANE_SKIP_SET (k : Nat) : Nat × Nat := (0x22 + k, 9)
abbrev LANES_URG_DONE : Nat × Nat := (0x28, 8)
abbrev LANES_URG_DROP : Nat × Nat := (0x28, 9)
abbrev LANES_SWAP : Nat × Nat := (0x28, 10)
abbrev LANES_CAL_DONE : Nat × Nat := (0x28, 11)
abbrev LANES_CAL_REJECT : Nat × Nat := (0x28, 12)
abbrev LANES_CAL_ABANDON : Nat × Nat := (0x28, 13)
abbrev FAST_SPLICE_C (k : Nat) : Nat × Nat := (0x29 + k, 8)
abbrev FAST_SPLICE_F (k : Nat) : Nat × Nat := (0x29 + k, 9)
abbrev FAST_OVR_SET (k : Nat) : Nat × Nat := (0x29 + k, 10)
abbrev FAST_CONV_SET (k : Nat) : Nat × Nat := (0x29 + k, 11)
abbrev FAST_CONV_LOST (k : Nat) : Nat × Nat := (0x29 + k, 12)
abbrev FAST_FIFO_OVF (k : Nat) : Nat × Nat := (0x29 + k, 13)
abbrev REC_TRIGGER : Nat × Nat := (0x2C, 8)
abbrev REC_SEALED : Nat × Nat := (0x2C, 9)
abbrev REC_MISSED : Nat × Nat := (0x2C, 10)
abbrev REC_WAIT_ENTER : Nat × Nat := (0x2C, 11)
abbrev REC_ARCH_DONE : Nat × Nat := (0x2C, 12)
abbrev REC_INDEX_READY : Nat × Nat := (0x2C, 13)
abbrev REC_RECNO_END : Nat × Nat := (0x2C, 14)
abbrev ARR_VERDICT : Nat × Nat := (0x30, 8)
abbrev ARR_INVALID : Nat × Nat := (0x30, 9)
abbrev ARR_CELL_FAIL : Nat × Nat := (0x30, 10)
abbrev ARR_SHORT : Nat × Nat := (0x30, 11)
abbrev ARR_REQUAL_DONE : Nat × Nat := (0x30, 12)
abbrev ARR_SLOT_CHANGE : Nat × Nat := (0x30, 13)
abbrev CELL_ROLE_CHANGE (k : Nat) : Nat × Nat := (0x31 + k, 8)
abbrev DMA_JOB_DONE : Nat × Nat := (0x42, 8)
abbrev DMA_JOB_ERR : Nat × Nat := (0x42, 9)
abbrev DMA_META : Nat × Nat := (0x42, 10)
abbrev PRUNE_STATE_CHANGE : Nat × Nat := (0x43, 8)
abbrev PRUNE_EPOCH : Nat × Nat := (0x43, 9)
abbrev PRUNE_SEALED : Nat × Nat := (0x43, 10)
abbrev PRUNE_LOST : Nat × Nat := (0x43, 11)
abbrev KEYS_PRESS : Nat × Nat := (0x48, 8)
abbrev KEYS_SEQ_DONE : Nat × Nat := (0x48, 9)
abbrev KEYS_SEQ_REFUSED : Nat × Nat := (0x48, 10)
abbrev KEYS_STUCK : Nat × Nat := (0x48, 11)
abbrev KEYS_REBASE_NEG : Nat × Nat := (0x48, 12)
abbrev KEYS_LOCK_CHANGE : Nat × Nat := (0x48, 13)
abbrev KEYS_TRIM_CANCEL : Nat × Nat := (0x48, 14)
abbrev GPIO_EDGE : Nat × Nat := (0x49, 8)

end Sys2Proof.Machine.E

namespace Sys2Proof.Machine

/-- The event bits that page `p` has: the bits of PG_EVT_RAW, PG_EVT_EN and PG_EVT that are not reserved. -/
def eventMask (p : Nat) : Nat :=
  if 0x22 ≤ p ∧ p ≤ 0x27 then 0x30F
  else if 0x29 ≤ p ∧ p ≤ 0x2A then 0x3F0F
  else if 0x31 ≤ p ∧ p ≤ 0x41 then 0x10F
  else match p with
  | 0x00 => 0x70F
  | 0x01 => 0x10F
  | 0x02 => 0xF0F
  | 0x03 => 0x3F0F
  | 0x04 => 0x30F
  | 0x05 => 0x1F0F
  | 0x06 => 0xF0F
  | 0x07 => 0x1F0F
  | 0x08 => 0x80F
  | 0x09 => 0xF0F
  | 0x0A => 0xF0F
  | 0x0B => 0x1F0F
  | 0x0C => 0xF0F
  | 0x0D => 0x70F
  | 0x10 => 0x1F0F
  | 0x11 => 0x7F0F
  | 0x12 => 0x70F
  | 0x13 => 0x7F0F
  | 0x14 => 0x70F
  | 0x15 => 0x30F
  | 0x16 => 0x1F0F
  | 0x17 => 0x70F
  | 0x18 => 0xFF0F
  | 0x19 => 0x70F
  | 0x20 => 0x70F
  | 0x21 => 0x70F
  | 0x28 => 0x3F0F
  | 0x2C => 0x7F0F
  | 0x30 => 0x3F0F
  | 0x42 => 0x70F
  | 0x43 => 0xF0F
  | 0x48 => 0x7F0F
  | 0x49 => 0x10F
  | _ => 0xF

/-- The highest injection point of page `p`: its chapter lists the points 1 to this number, 0 where it lists none. -/
def injPoints (p : Nat) : Nat :=
  if 0x22 ≤ p ∧ p ≤ 0x27 then 1
  else if 0x29 ≤ p ∧ p ≤ 0x2A then 2
  else if 0x31 ≤ p ∧ p ≤ 0x41 then 1
  else match p with
  | 0x01 => 1
  | 0x02 => 2
  | 0x03 => 2
  | 0x04 => 1
  | 0x05 => 2
  | 0x06 => 2
  | 0x07 => 1
  | 0x09 => 2
  | 0x0A => 2
  | 0x0B => 2
  | 0x0C => 2
  | 0x0D => 3
  | 0x10 => 2
  | 0x11 => 2
  | 0x12 => 1
  | 0x13 => 3
  | 0x14 => 2
  | 0x15 => 1
  | 0x16 => 1
  | 0x17 => 2
  | 0x18 => 2
  | 0x19 => 1
  | 0x20 => 2
  | 0x21 => 1
  | 0x28 => 2
  | 0x2C => 2
  | 0x30 => 2
  | 0x42 => 2
  | 0x43 => 1
  | 0x48 => 1
  | _ => 0

end Sys2Proof.Machine
end

