-- ==== Sys2Proof/Machine/State.lean ====
section
/-! DEFINITION. The state of the KV4811: its registers (shadow and effective words), its memories, its OTP, and the
state that each block keeps behind its registers, chapter by chapter, as plain data; what stops a step; and the state right after reset. -/

namespace Sys2Proof.Machine

/-- Faults: none is raised by any meaning, because the spec gives every command an effect; the type is the host's interface.
Safe. -/
inductive Fault where
  /-- Raised by nobody. -/
  | none
  deriving DecidableEq, Repr

/-- Refusals. -/
inductive Refusal where
  /-- Answered by `exec` for a row of the table that has no meaning yet; safe (the machine stops). -/
  | notModelled (mnemonic : String)
  deriving DecidableEq, Repr

/-! ### Registers' common machinery (chapters 02 and 08) -/

/-- A lease on a page group (R303): holder (0xFF SPI, otherwise the SID) and time left in 1/28 800 s. -/
structure Lease where
  holder : Nat
  left : Nat
  deriving DecidableEq, Repr

/-- One RWS write of the tick, kept for R309–R312: the writer, its rank at the write, the register, and its shadow word before it. -/
structure JEntry where
  path : Path
  rank : Nat
  page : Nat
  off : Nat
  old : Word
  val : Word
  deriving DecidableEq, Repr

/-- What stands behind the common registers of the pages. -/
structure PageSt where
  /-- Pages with PG_COMMIT.PEND = 1. -/
  commitPend : List Nat := []
  /-- Pages whose pending commit was requested before the generation was latched (R144, R182, R806). -/
  early : List Nat := []
  /-- Pages with PG_STAT.SRST_PEND = 1. -/
  srstPend : List Nat := []
  /-- Pages with PG_STAT.CREFUSED = 1. -/
  crefused : List Nat := []
  /-- Running injection series by page: point and injections left (R62, R802). -/
  inj : Assoc (Nat × Nat) := []
  /-- Injected points that wait for the event they act on: page and point. -/
  armed : List (Nat × Nat) := []
  /-- Leases by group. -/
  leases : Assoc Lease := []
  /-- The RWS writes of this tick in order of arrival (R315). -/
  journal : List JEntry := []
  /-- The writes to LDAC in this tick: writer, offset, and whether an RWS field (1), PG_COMMIT.GO (2) or neither (0) was written (R313). -/
  ldacOrd : List (Path × Nat × Nat) := []
  /-- Groups and sessions that have written in this tick as holder of the group's lease, at rank 4 (R292). -/
  owners : List (Nat × Nat) := []
  /-- Pages whose soft reset applied at the last boundary: until the next one their status reads its reset value (R52). -/
  justReset : List Nat := []
  deriving DecidableEq, Repr

/-! ### OTP (R342, R668) and start-up (chapter 21) -/

/-- A key slot of the OTP. -/
structure KeySlot where
  programmed : Bool := false
  revoked : Bool := false
  role : Nat := 0
  key : List Byte := []
  deriving DecidableEq, Repr

/-- The OTP. -/
structure Otp where
  step : Nat := 1
  grade : Nat := 0x45
  devType : Nat := 0
  devId : Nat := 0
  mac : Nat := 0
  linkEn : Bool := true
  /-- Session keys K0–K7. -/
  keys : List KeySlot := List.replicate 8 {}
  /-- Model signing keys MK0, MK1. -/
  mkeys : List KeySlot := List.replicate 2 {}
  patchKey : List Byte := List.replicate 64 0
  patchVer : Nat := 0
  /-- EXC_TRIMk, ppm codes. -/
  excTrim : List Nat := List.replicate 4 0
  /-- LANE_CALOFSg and LANE_CALGAINg, lane by lane, eight gains each. -/
  calOfs : List Nat := List.replicate 48 0
  calGain : List Nat := List.replicate 48 0x400000
  /-- GOV_COSTk: base and per-cell cost of P0–P5, µA; the defaults are the maxima of R777, to which R779 binds them (DESIGN CHOICE, log entry 130). -/
  govBase : List Nat := [2600, 2950, 3250, 3550, 4450, 5850]
  govCell : List Nat := [0, 450, 750, 1200, 1900, 2500]
  /-- GOV_COSTB: the least saving of R778. -/
  bankUa : Nat := 30
  /-- The internal FROST load at the grade's upper ambient limit, µA (R584, R780, R781): of AON with the tick source and ALIVE, and what the key scan, the wake detectors,
  PPS_OUT and the loop hold add; together R780's 58 µA (DESIGN CHOICE, log entry 130). -/
  frostUa : Nat := 44
  frostKeys : Nat := 3
  frostWake : Nat := 3
  frostPps : Nat := 2
  frostLoop : Nat := 6
  /-- PHY latencies, ns. -/
  phyRx : Nat := 0
  phyTx : Nat := 0
  /-- OTP word indices of trim or identity words that read as uncorrectable, and key slots whose words do. -/
  badTrim : List Nat := []
  badKeys : List Nat := []
  deriving DecidableEq, Repr

/-- Reset and start-up. -/
structure Boot where
  /-- The internal reset is asserted. -/
  held : Bool := true
  /-- Cause codes asserted in the reset that is asserted or was released last. -/
  causes : List Nat := [1]
  /-- INFO of R726 for the CHIP_RESET or BOR_MAIN cause among them. -/
  info : Nat := 0
  /-- RST_HIST, in the register powered from VPRE, and whether its check pattern is intact (R725). -/
  hist : Nat := 0
  histOk : Bool := false
  /-- TICK_NUM [31:0] at the assertion of the last SYSTEM or SOFT reset. -/
  prevTick : Nat := 0
  /-- TEST_EN was high at the last POR release (R749). -/
  testMode : Bool := false
  /-- The configuration load: its commits are requested and not yet applied. -/
  loadPend : Bool := false
  /-- The PLAN and GOV commits of the load wait for the latch of the generation, and count for NVM_LOAD when they apply (R664, R806). -/
  loadHeld : Bool := false
  /-- The load's commits have applied, or BOOTSEL = 1 and there is none. -/
  loadDone : Bool := false
  /-- CORE start-up test: 0 not begun, 1 running, 2 passed, 3 failed, 4 disabled. -/
  coreTest : Nat := 0
  /-- The slot sequencer has started (R732). -/
  seqStarted : Bool := false
  /-- A patch was accepted and applied at ROM boot. -/
  patched : Bool := false
  /-- A patch was accepted and takes effect at the next reset (R656). -/
  patchWait : Bool := false
  /-- A tick of the rate that was in force at the assertion, in 1/28 800 s: TICK_NUM and the lock's time go on with it through a SYSTEM or SOFT reset (R722). -/
  unitsAt : Nat := 6
  /-- How long the CORE start-up test has run, and how long the link processor has, up to 0.25 s and a tick, in 1/28 800 s (R631, R717). -/
  coreU : Nat := 0
  linkU : Nat := 0
  /-- Time since the release, up to 20 000 (0.69 s), in 1/28 800 s (R77, R123). -/
  relU : Nat := 0
  /-- Reset causes accepted for the next boundary: 7 SW, 8 LOCKOUT_CLR (R607, R718). -/
  resetAt : List Nat := []
  /-- SYS_BOOT1.FIRST_MS has its value (R734). -/
  firstSeen : Bool := false
  /-- CONFIG_LOST has been raised in this start-up (R665). -/
  cfgLost : Bool := false
  deriving DecidableEq, Repr

/-! ### Fault hub (chapter 16) -/

/-- The fault hub behind its registers. -/
structure Flt where
  /-- The escalation counters C, unlisted 0 (R596); for those above 0 the time since the event that raised C from 0 or since the last leak, in 1/288 000 s (R597). -/
  esc : Assoc Nat := []
  leakU : Assoc Nat := []
  /-- The trap FIFO, oldest first: source and TSEQ (R611). -/
  traps : List (Nat × Nat) := []
  nextTseq : Nat := 1
  /-- The fault record ring by entry (R615). -/
  ring : Assoc (Word × Word) := []
  /-- AON-second timestamps of the last 15 recoveries and CHIP_RESET reactions, oldest first (R604). -/
  recov : List Nat := []
  /-- The AON second counter (R604). -/
  aonS : Nat := 0
  /-- Time since the last AON second, up to 57 600, in 1/28 800 s (R676). -/
  aonU : Nat := 0
  /-- Time since the last ERRPIN reaction, in 1/28 800 s (R603). -/
  calmU : Nat := 0
  /-- A CHIP_RESET reaction waits to assert its reset: the source (R595). -/
  chipReset : Option Nat := none
  /-- DIE_HOT (R590): consecutive ticks at or above the limit, consecutive ticks at least 5 °C below it, and whether it may be raised. -/
  hotTicks : Nat := 0
  coolTicks : Nat := 0
  hotArmed : Bool := true
  /-- ALIVE's next toggle is its first since boot or the fault state (R610). -/
  aliveFirst : Bool := true
  /-- The fault state has been entered in this step: its effects of R600 follow at the end of the step. -/
  entered : Bool := false
  deriving DecidableEq, Repr

/-! ### Access paths (chapter 08) -/

/-- A session or a pending handshake (R334). `kind` is 4 for YRAP, 5 for the FSK primary, 6 for the FSK secondary master. -/
structure Session where
  sid : Nat
  kind : Nat
  pending : Bool
  role : Nat
  key : Nat
  /-- Idle time left, in 1/28 800 s (R340). -/
  idle : Nat
  nonceH : List Byte
  nonceD : List Byte
  sk : List Byte
  lastCtr : Nat
  peer : List Byte
  port : Nat
  notifyCtr : Nat := 0
  deriving DecidableEq, Repr

/-- One word of a WRITE or COMMIT that waits for its final outcome. -/
structure WordOut where
  page : Nat
  group : Nat
  /-- An RWS write that ended OK in this tick: R311 may turn it into PREEMPTED. -/
  undoable : Bool
  outcome : Nat
  deriving DecidableEq, Repr

/-- A request that the FSK modem has received: its master, frame form, command and data, the time since the stop bit of its check byte in 1/28 800 s; its reply
has been discarded. -/
structure FskReq where
  secondary : Bool
  long : Bool
  addr : Nat
  cmd : Nat
  data : List Byte
  age : Nat := 0
  dead : Bool := false
  deriving DecidableEq, Repr

/-- What a reply that is built after the boundary answers: a YRAP message, or an FSK request. -/
inductive LateTo where
  | yrap (vlan : Option Nat) (v6 : Bool) (ip port tag : Nat)
  | fsk (r : FskReq)
  deriving DecidableEq, Repr

/-- A reply that is built after the boundary (R295, R329, R339): the OP or FSK command it answers, its session with key and CTR, the outcomes of its words, the
data that an FSK universal write returns, and the pages whose commits it requested. -/
structure LateReply where
  path : Path
  dest : LateTo
  op : Nat
  sid : Nat := 0
  ctr : Nat := 0
  sk : List Byte := []
  words : List WordOut
  out : List Byte := []
  pages : List Nat := []
  deriving DecidableEq, Repr

/-- The ACC page's block. -/
structure Acc where
  sessions : Assoc Session := []
  nextSid : Nat := 1
  /-- Consecutive authentication failures by path (4, 5, 6). -/
  fails : Assoc Nat := []
  /-- Paths under authentication hold: time left in 1/28 800 s. -/
  holds : Assoc Nat := []
  keyBuf : List Word := []
  /-- The contention log by entry. -/
  clog : Assoc (Word × Word × Word) := []
  late : List LateReply := []
  /-- Unauthenticated replies sent in the present second (R330). -/
  anonReplies : Nat := 0
  /-- Time since the last NOTIFY, in 1/28 800 s, and what it showed while the condition has lasted (R332). -/
  notifyGap : Nat := 28800
  notified : List Word := []
  deriving DecidableEq, Repr

/-- The SPI port: what its next frame reports, and whether the access of the frame before is still running (R322). -/
structure Spi where
  outcome : Nat := 0
  paddr : Word := 0
  pdata : Word := 0
  /-- The SDO frame sent last: STAT, PADDR, PDATA, CRC as bytes; what it carried in an early frame is not defined. -/
  sdo : List Byte := []
  deriving DecidableEq, Repr

/-! ### Sleep (chapter 15) -/

/-- Sleep and wake behind the PWR page. -/
structure Slp where
  /-- An accepted request waits for its entry boundary: its target. -/
  req : Option Nat := none
  /-- Quiesced: the power-down to this target runs (R569). -/
  down : Option Nat := none
  /-- A wake has started the exit (R570–R572). -/
  exiting : Bool := false
  /-- Frames left until the retry, and its target (R567). -/
  retryIn : Nat := 0
  retryTarget : Nat := 0
  /-- A source fired between the request and the target state (R580). -/
  wokeEntry : Bool := false
  /-- The blocks may still be asked to quiesce: an entry began at the last boundary and has met no refusal (R564). -/
  asking : Bool := false
  /-- The first wake event of this sleep is recorded (R579). -/
  firstSeen : Bool := true
  /-- The KV4811 counts as out of RUN (R563); the next boundary comes too early for slots (R574). -/
  out : Bool := false
  hold : Bool := false
  deriving DecidableEq, Repr

/-! ### Memory and non-volatile memory (chapter 18) and the Almanac (chapter 19) -/

/-- A standing error of a stored ECC word: a wrong data bit, a wrong check bit, two wrong bits, three or more (R803). -/
inductive EccErr where
  | dataBit | checkBit | double | beyond
  deriving DecidableEq, Repr

/-- What the completion of a non-volatile chunk brings about. -/
inductive NvmTag where
  /-- Nothing beyond the write itself. -/
  | plain
  /-- Last chunk of a system record. -/
  | sysLast
  /-- First chunk of a configuration save (the zeroed header) to copy 1 = A or 2 = B, and the last one with its SEQ. -/
  | cfgZero (copy : Nat)
  | cfgLast (copy seq : Nat)
  /-- Last chunk of a head seal: slot and copy. -/
  | sealLast (slot copy seq : Nat)
  /-- An Almanac commit: slot, ASEQ, CAUSE. -/
  | alm (slot aseq cause : Nat)
  /-- A chunk of a Stormbox archive entry, and its last one. -/
  | arch (area : Nat)
  | archLast (area : Nat)
  /-- A MODEL_WRITE or PATCH_WRITE command. -/
  | cmd (op : Nat)
  deriving DecidableEq, Repr

/-- One queued non-volatile chunk (R654). `kind` is its place in the order of R654, 1 to 6. -/
structure NvmChunk where
  kind : Nat
  addr : Nat
  bytes : List Byte
  tag : NvmTag
  deriving DecidableEq, Repr

/-- The NVM page's block. -/
structure Nvm where
  queue : List NvmChunk := []
  writing : Option NvmChunk := none
  /-- A SAVE_CONFIG waits for the boundary at which it takes its values. -/
  savePend : Bool := false
  /-- A MODEL_CHECK (2) or PATCH_CHECK (4) is running, and its SLOT. -/
  checking : Option (Nat × Nat) := none
  /-- The highest SYSSEQ and the copy (1 = A, 2 = B, 0 none) that holds it or will when the queue is served. -/
  sysSeq : Nat := 0
  sysCopy : Nat := 0
  /-- The ECC word of MEM_UNCORR_ADDR, or of NVM_UNCORR_ADDR, has not been repaired or written since (R648, R653). -/
  memLive : Bool := false
  nvmLive : Bool := false
  /-- ARCHIVE's retirement waits for the entry in progress (R667). -/
  archPend : Bool := false
  deriving DecidableEq, Repr

/-- The Almanac (chapter 19). -/
structure Alm where
  /-- The live image: word or 64-bit bin by its byte offset, unlisted 0 (R670, R671). -/
  live : Assoc Nat := []
  /-- A word of the Almanac RAM reads as uncorrectable. -/
  bad : Bool := false
  /-- The image has been selected in this start-up (R683). -/
  loaded : Bool := false
  /-- The slot of the next commit, and OP_S at the last one. -/
  next : Nat := 0
  lastOpS : Nat := 0
  /-- A commit is due: its CAUSE. -/
  due : Option Nat := none
  /-- Commands accepted for the next boundary, oldest first: OP and MASK. -/
  cmds : List (Nat × Nat) := []
  /-- The read buffer of SNAP. -/
  snap : Assoc Nat := []
  /-- Partitions whose wear has reached WEAR_RETIRE (R687). -/
  worn : List Nat := []
  /-- RES_FAULT raised since reset (R673). -/
  resFault : Bool := false
  deriving DecidableEq, Repr

/-! ### Tick engine and plans (chapter 03) -/

/-- The tick engine behind the TICK page. Phases are kept in units of 1/288 ns, in which one unit of 1/28 800 s is 10^7. -/
structure Tick where
  /-- TICK_NUM, 48 bits (R71). -/
  num : Nat := 0
  /-- The phase error to the reference, in 1/288 ns, positive when the local boundary is late. -/
  phase : Int := 0
  /-- Consecutive valid references of PPS_IN and of PTP (R75). -/
  ppsRefs : Nat := 0
  ptpRefs : Nat := 0
  /-- A first PPS_IN edge is there as the reference of the next (R73). -/
  ppsFirst : Bool := false
  /-- Time since the last valid PPS_IN edge, up to 50 000, in 1/28 800 s (R73). -/
  ppsAge : Nat := 0
  /-- Consecutive references with a phase error of at most 1 µs (R83). -/
  lockRefs : Nat := 0
  /-- The holdover timer runs; its time in 1/28 800 s (R85). -/
  holdRun : Bool := false
  hold : Nat := 0
  /-- The source with which LOCKED was reached last (R268). -/
  lockSrc : Nat := 0
  /-- The crystal runs; it has run stably for 1 ms (R77). -/
  xtalRuns : Bool := false
  xtalOk : Bool := false
  /-- It has run stably since the release, or ran so at the assertion (R77). -/
  xtalSeen : Bool := false
  /-- The 3 ms of R77 after the release have passed. -/
  xtalTimed : Bool := false
  /-- A source in use has been lost: the change comes at the next boundary (R75). -/
  srcLost : Bool := false
  /-- PPS_OUT is high; time since its last pulse began, in 1/28 800 s (R82, R117). -/
  ppsOut : Bool := false
  sincePps : Nat := 28800
  deriving DecidableEq, Repr

/-- A slot of the tick that has not started (R91). -/
structure Slot where
  idx : Nat
  kind : Nat
  start : Nat
  budget : Nat
  action : Nat
  arg : Nat
  work : Nat
  deriving DecidableEq, Repr

/-- The slot that runs: its descriptor, when it began, and what R105–R107 need. -/
structure Running where
  slot : Slot
  began : Nat
  late : Bool
  /-- Its DEADLINE has been raised. -/
  dl : Bool := false
  /-- An emergency drop was in force during it. -/
  gov : Bool := false
  /-- An injection made it overrun. -/
  inj : Bool := false
  /-- Remote word accesses made in it (R333). -/
  used : Nat := 0
  deriving DecidableEq, Repr

/-- The plan and the slot sequencer. -/
structure Plan where
  /-- The two banks by window index, unlisted 0 (R88, R90). -/
  bank0 : Assoc Word := []
  bank1 : Assoc Word := []
  /-- The slots of this tick that have not started, in order. -/
  todo : List Slot := []
  run : Option Running := none
  /-- The smallest slack of the tick so far, none without an M slot yet; the tick had the sequencer running (R112, R113). -/
  slack : Option Int := none
  active : Bool := false
  /-- When the last M slot of this tick to end has ended, µs (R103). -/
  mEnd : Nat := 0
  /-- Up to when a slot, or work in an idle gap, has run in this tick, µs: a gap begins no earlier (R641). -/
  freeAt : Nat := 0
  /-- The validator has had a reason to update its result since the page's reset (R95), and what a bank was checked against at that reset: RATE, generation, P_FLOOR, guaranteed
  live cells, FRAME_K. -/
  checked : Bool := false
  env0 : List Nat := [1, 0, 0, 0, 0]
  deriving DecidableEq, Repr

/-! ### Line and loop (chapters 04 and 05) -/

/-- The line block. -/
structure Line where
  /-- Consecutive hits so far in sensing, and whether sensing has ended. -/
  hitRun : Nat := 0
  /-- Windows examined. -/
  windows : Nat := 0
  sensed : Bool := false
  /-- Consecutive ticks with the condition, and without it, of LIFT_DRV and LIFT_VPRE (R137, R138). -/
  drvOn : Nat := 0
  drvOff : Nat := 0
  vpreOn : Nat := 0
  vpreOff : Nat := 0
  /-- Ticks of injected LIFT_DRV and OVERDRAW conditions left. -/
  injDrv : Nat := 0
  injOver : Nat := 0
  /-- The present run of LIFT_DRV conditions, or of OVERDRAW conditions, holds an injected one (R63). -/
  drvInj : Bool := false
  overInj : Bool := false
  /-- OVERDRAW has been 1 at this many consecutive boundaries; its fault is raised. -/
  overTicks : Nat := 0
  overRaised : Bool := false
  /-- The commanded current of the tick that runs, 0.1 µA. -/
  cmdTick : Nat := 0
  deriving DecidableEq, Repr

/-- The loop DAC (chapter 05). Currents are in 0.1 µA. -/
structure Ldac where
  /-- The level on LOOPCLR_N: low; it will have been high long enough at the next boundary (R178). -/
  pinLow : Bool := false
  ripe : Bool := true
  /-- The clamp is in force, in every generation (R178, R193). -/
  clamp : Bool := false
  /-- An injected clamp of one tick. -/
  injClr : Nat := 0
  /-- The NORMAL target as far as the ramp has come (R170). -/
  norm : Nat := 0
  /-- The target kept in HOLD (R166). -/
  holdN : Nat := 0
  /-- Ticks of the span passage left (R173). -/
  passLeft : Nat := 0
  /-- Ticks in which the trim stays frozen after a step (R184). -/
  freeze : Nat := 0
  /-- The trim correction in 1/80 µA (R183). -/
  trim : Int := 0
  /-- Consecutive ticks: at the trim limit, failing, passing (R185, R186). -/
  limTicks : Nat := 0
  failTicks : Nat := 0
  passTicks : Nat := 0
  /-- Ticks of injected readback error left. -/
  injRb : Nat := 0
  /-- The present run of failing ticks holds an injected error (R63). -/
  rbInj : Bool := false
  /-- Time for which TEST has been in force, in 1/28 800 s (R168). -/
  testU : Nat := 0
  /-- TEST has timed out at this boundary: its end follows (R168). -/
  testOver : Bool := false
  /-- A LOOP_UPDATE with a non-zero ARG has requested the commit that is pending (R197). -/
  argBad : Bool := false
  deriving DecidableEq, Repr

/-- One auxiliary DAC: the state of its gain passage (R191) and of its output. -/
structure Adac where
  /-- Ticks of the passage left, and the gain in force behind it. -/
  pass : Nat := 0
  gainOld : Nat := 0
  /-- How many disturbances (passages, clamps) have begun (R195). -/
  dist : Nat := 0
  deriving DecidableEq, Repr

/-! ### Governor (chapter 14) -/

/-- The governor behind the GOV and CLK pages. Currents are in µA unless named otherwise. -/
structure Gov where
  /-- When the last sample ended, µs from the last boundary, from −1000 on (R532). -/
  sampled : Int := -1000
  /-- The budgets, in 0.1 µA, in force during the last 1.0 ms as far as they count, the lowest and oldest first, with the time since each but the last was superseded, in
  1/28 800 s (R533). -/
  window : List (Nat × Nat) := [(30000, 0)]
  /-- Predicted demand without the charger at the level in force (R536): measured at the last sample, moved by every action since. -/
  pred : Int := 0
  vpre : Nat := 0
  /-- Live cells. -/
  live : List Nat := []
  /-- A raise decided and not yet in effect (R525). -/
  raiseTo : Option Nat := none
  /-- Consecutive boundaries at which the raise condition held (R537). -/
  upRun : Nat := 0
  /-- Consecutive counted ticks below P_FLOOR; the fault has been raised (R543). -/
  belowRun : Nat := 0
  belowRaised : Bool := false
  /-- Consecutive HIGH ticks; consecutive LOW ticks with the trim at +30 mV (R529, R531). -/
  highRun : Nat := 0
  lowRun : Nat := 0
  /-- Injected LOW ticks left. -/
  injLow : Nat := 0
  /-- The LOW ticks of lowRun hold an injected one (R63). -/
  lowInj : Bool := false
  /-- The charger's window of R156: samples of 20 µs in a row with at least 1 mA of input current, VRES in mV when it began, and whether one of 10 s has met a condition of
  RES_FAULT. -/
  chgRun : Nat := 0
  chgFrom : Nat := 0
  resDue : Bool := false
  /-- RES_FAULT has been raised: charger and bursts stay off until reset (R156). -/
  resOff : Bool := false
  /-- VRES was at RES_VMAX at the last sample (RES_FULL). -/
  full : Bool := false
  /-- The KV4811 has been in RUN since the tick began and START_CEIL was 0 (R543). -/
  tickRun : Bool := false
  deriving DecidableEq, Repr

/-! ### Inference array (chapters 12 and 13) -/

/-- The CRC of a partition's outputs (R462): its tensor's arena offset, channels and positions, its own channels, and whether an injection made it wrong. -/
structure PartCrc where
  out : Nat
  n : Nat
  len : Nat
  lo : Nat
  hi : Nat
  crc : Word
  deriving DecidableEq, Repr

/-- What a busy cell has done of its partition (R462): the tiles that are complete, the input values read for them with each tile's NNZ, the instant of the slot in
ns from which it goes on, its clock then in MHz, and the cycles before that in which it was clocked. -/
structure Prog where
  tiles : Nat := 0
  vals : List Int := []
  nnzs : List Nat := []
  since : Nat := 0
  mhz : Nat := 0
  used : Nat := 0
  deriving DecidableEq, Repr

/-- A run (R459–R470). -/
structure Run where
  /-- TICK_NUM of the snapshot tick. -/
  snap : Nat
  /-- The layer in progress or next, whether it has started, and its cell list. -/
  layer : Nat := 0
  started : Bool := false
  list : List Nat := []
  /-- Partitions of the layer that have ended; output tiles of the layer in which a value was clamped. -/
  ended : Nat := 0
  sat : List Nat := []
  repeated : Bool := false
  degraded : Bool := false
  head : Bool := false
  test : Bool := false
  /-- The head copy in force at its start (1 = A, 2 = B, 0 none). -/
  copy : Nat := 0
  /-- Layers completed in the slot that runs. -/
  done : Nat := 0
  /-- A learning sample was stored in this run and is not yet held. -/
  sample : Bool := false
  deriving DecidableEq, Repr

/-- A verdict that becomes available at the next boundary: code, flags, the two best outputs, and whether the run completed. -/
structure Verdict where
  code : Nat
  flags : Nat
  best : Nat
  second : Nat
  snap : Nat
  ok : Bool
  deriving DecidableEq, Repr

/-- The array behind the ARR and CELL pages. -/
structure Arr where
  /-- Partition that each busy cell holds. -/
  work : Assoc Nat := []
  /-- What it has done of it, and the instant of the array's last event in this tick, ns. -/
  prog : Assoc Prog := []
  now : Nat := 0
  /-- CORE's copy of the latest verdict word (R472). -/
  core : Word := 0
  /-- Partitions of the layer that wait for a cell. -/
  queue : List Nat := []
  run : Option Run := none
  crcs : List PartCrc := []
  verdict : Option Verdict := none
  /-- A verdict has been delivered: its snapshot tick. -/
  snap : Option Nat := none
  /-- The slot in force (R479). -/
  slot : Nat := 0
  /-- Frame starts since the last periodic request. -/
  frames : Nat := 0
  deriving DecidableEq, Repr

/-- Cell tests (chapter 17): the cell under test and its completed patterns, a REQUALIFY test (cell, patterns, result), and whether the first bench has
been chosen since reset. -/
structure Bist where
  cell : Option Nat := none
  pat : Nat := 0
  req : Option (Nat × Nat) := none
  reqEnd : Option Bool := none
  benchUp : Bool := false
  /-- The task (0 BIST, 1 SCRUB, 2 CAL) that the running B slot works for, its ARG, when its slice ends, and the units it has done. -/
  task : Option Nat := none
  arg : Nat := 0
  sliceEnd : Nat := 0
  units : Nat := 0
  /-- The next checkpoint in this slice does not match; the next corrected word of this slot is reached by a foreground write. -/
  bad : Bool := false
  raced : Bool := false
  /-- Task bits that have made progress in this frame; scrub steps blocked by an injection, in frames. -/
  progress : Nat := 0
  blocked : Nat := 0
  /-- A frame has begun since reset (R642). -/
  frameRun : Bool := false
  deriving DecidableEq, Repr

/-- A stored learning sample: ring offset and length in bytes, its capture number. -/
structure Sample where
  off : Nat
  len : Nat
  num : Nat
  deriving DecidableEq, Repr

/-- Commissioning learning (chapter 13). -/
structure Learn where
  /-- A command that waits for the boundary: OP and INIT, oldest first. -/
  cmds : List (Nat × Nat) := []
  /-- Samples held, oldest first; the write position; one stored and not yet held. -/
  held : List Sample := []
  wpos : Nat := 0
  fresh : Option Sample := none
  captures : Nat := 0
  /-- The epoch's samples still to present; the one in hand; its step: 0 load, then forward rows, then update rows. -/
  todo : List Sample := []
  cur : Option Sample := none
  xs : List Int := []
  ts : List Int := []
  es : List Int := []
  step : Nat := 0
  /-- Sum of |e| and number of outputs in this epoch; samples trained in all. -/
  errSum : Nat := 0
  errCnt : Nat := 0
  trained : Nat := 0
  epochOn : Bool := false
  /-- The seal: rows done and their values, the copy that is written, its write has completed. -/
  rows : List (List (Nat × Int)) := []
  copy : Nat := 0
  written : Bool := false
  /-- Core clock cycles that the steps of the slot that runs have used. -/
  spent : Nat := 0
  deriving DecidableEq, Repr

/-! ### Single-pair Ethernet and time (chapter 07) -/

/-- A token bucket of a source address (R252): tokens in 1/28 800, and the time since its last frame in 1/28 800 s. -/
structure Bucket where
  src : Nat
  tok : Nat
  idle : Nat
  deriving DecidableEq, Repr

/-- A foreign master (R261): its last Announce and the ages, in 1/28 800 s, of its last two. -/
structure Foreign where
  ann : Announce
  ages : List Nat
  deriving DecidableEq, Repr

/-- What a frame that waits for transmission carries. PTP frames name their destination address; a peer delay answer carries the receive timestamp of its request, and the Follow_Up the
transmit timestamp of the answer once it is sent, in ns. -/
inductive TxWhat where
  | pdelayReq (dst : Nat)
  | pdelayResp (dst : Nat) (t2 : Int)
  | pdelayRespFollowUp (dst : Nat) (t3 : Option Int)
  | goose (bytes : List Byte)
  | yrap (port : Nat) (ip : Nat) (bytes : List Byte)
  | echoReply (ip : Nat) (bytes : List Byte)
  | arpReply (target : Nat)
  | arpRequest (target : Nat)
  | gratuitousArp
  | neighbourAdv (target : Nat)
  | neighbourSol (target : Nat)
  deriving DecidableEq, Repr

/-- The next hop of an IP datagram (R325): its protocol and address, and the datagram's hop limit or TTL. -/
structure Hop where
  v6 : Bool
  ip : Nat
  limit : Nat := 64
  deriving DecidableEq, Repr

/-- A frame that waits for transmission: 1 PTP, 2 GOOSE, 3 other; its bytes on the wire; the VLAN tag that it copies (R331), and its next hop. -/
structure TxFrame where
  kind : Nat
  wire : Nat
  what : TxWhat
  vlan : Option Nat := none
  hop : Option Hop := none
  deriving DecidableEq, Repr

/-- The PHY, the MAC and PTP. -/
structure Link where
  buckets : List Bucket := []
  /-- The global bucket, in 1/28 800 token (R253). -/
  gtok : Nat := 64 * 28800
  /-- Time since the last drop under check 6, in 1/28 800 s (R255). -/
  sinceDrop : Nat := 28800
  ptpQ : List MacFrame := []
  genQ : List MacFrame := []
  /-- Frames that wait for the line, those whose next hop is not resolved, and the one sent last. -/
  tx : List TxFrame := []
  unres : List TxFrame := []
  sent : Option TxFrame := none
  /-- SQI_LOW has been raised for the present stay below SQI_MIN (R249). -/
  sqiLow : Bool := false
  /-- The MAC addresses of IP neighbours: IPv6, address, MAC address (R325). -/
  nbrs : List (Bool × Nat × Nat) := []
  /-- Own addresses that failed duplicate address detection: 0 link-local, 1 configured (R326). -/
  dadFailed : List Nat := []
  foreign : List Foreign := []
  /-- The selected master. -/
  sel : Option Nat := none
  /-- A two-step Sync that waits for its Follow_Up: sender, sequence, receive time, phase, frequency, age. -/
  wait : Option (Nat × Nat × Int × Int × Int × Nat) := none
  /-- PTP is in use as a reference: it can be lost (R264). -/
  up : Bool := false
  /-- Time since the last measurement, in 1/28 800 s. -/
  sinceMeas : Nat := 0
  /-- The last valid peer delay measurements, newest first; whether the last requests yielded one, newest first; a request is out. -/
  pd : List Nat := []
  pdHist : List Bool := []
  pdOut : Bool := false
  /-- Time since the last request, in 1/28 800 s (R259). -/
  pdSince : Nat := 28800
  /-- The time of day in 1/288 ns, and what its slew has still to remove. -/
  tod : Nat := 0
  todErr : Int := 0
  /-- PTP_TODSET waits for the second boundary; one has been applied since reset (R266, R285). -/
  todPend : Option Nat := none
  todSet : Bool := false
  /-- currentUtcOffset of the selected master's last Announce (R267). -/
  utcOffset : Nat := 0
  deriving DecidableEq, Repr

/-! ### Sensor front end and lanes (chapters 09 and 10) -/

/-- The values of a channel setup (R379). -/
structure Setup where
  ainp : Nat := 0
  ainn : Nat := 0
  gain : Nat := 0
  refsel : Bool := false
  lead : Nat := 0
  bo : Nat := 0
  excPin : Nat := 0
  excSrc : Nat := 0
  excEn : Bool := false
  settle : Nat := 0
  en : Bool := false
  auxExc : Bool := false
  auxDac : Nat := 0
  biasPin : Nat := 0
  biasKind : Nat := 0
  openTh : Nat := 0
  excN : Nat := 0
  rLead : Nat := 0
  tol : Nat := 0
  deriving DecidableEq, Repr

/-- What a conversion of a lane is for: an entry of its sequence, a lead conversion (`first`: the one that comes before the setup's first
conversion), a burn-out check, an urgent request. -/
inductive ConvKind where
  | main (entry : Nat)
  | lead (first : Bool)
  | check
  | urgent
  /-- The lead conversion that comes before an urgent one (R368). -/
  | urgentLead
  deriving DecidableEq, Repr

/-- A conversion of a lane, from the boundary from which it is timed to its end. -/
structure Conv where
  kind : ConvKind
  setup : Nat
  /-- The setup values it uses, taken at its pulse or start (R351), and AVG_LOG2. -/
  v : Setup := {}
  avg : Nat := 0
  /-- Its excitation or burn-out currents are on (steps 2–4 of R355); it has started. -/
  pulseOn : Bool := false
  running : Bool := false
  /-- The ticks that have ended since its boundary, and their length in 1/28 800 s. -/
  ticks : Nat := 0
  age : Nat := 0
  /-- EXC_OFS_US of its lane at that boundary; it waits for the lane's next boundary (R357). -/
  ofs : Nat := 0
  waits : Bool := false
  /-- LS makes it. -/
  byLs : Bool := false
  compl : Bool := false
  /-- Disturbances of the DAC at its start (R195), and whether one was there. -/
  dist : Nat := 0
  disturbed : Bool := false
  /-- On-time already counted for the averages, in 1/288 µs. -/
  counted : Nat := 0
  deriving DecidableEq, Repr

/-- A calibration of a converter (R396): the conversions left, as gain and whether it is the gain conversion; whether the next one is armed (1), may start (2) or
runs (3); the time since its boundary in 1/28 800 s; the coefficients so far. -/
structure CalRun where
  todo : List (Nat × Bool)
  armed : Nat := 0
  age : Nat := 0
  ofs : Assoc Int := []
  gain : Assoc Nat := []
  deriving DecidableEq, Repr

/-- A precision lane. -/
structure Lane where
  /-- Place in the pass: entry (stage 0), lead (1) or check (2). -/
  pos : Nat := 0
  stage : Nat := 0
  /-- The pass has had its lead conversion; whose turn it is at the next lead and check conversion. -/
  passLead : Bool := false
  leadTurn : Nat := 0
  chkTurn : Nat := 0
  conv : Option Conv := none
  /-- Ticks since the boundary of the conversion before. -/
  since : Nat := 4095
  seqno : Nat := 0
  /-- Results that wait for the boundary of R11: entry, result word, setup. -/
  out : List (Nat × Word × Nat) := []
  /-- The next result carries SWAPPED. -/
  swapped : Bool := false
  /-- Setups that have had their first lead conversion, and the last valid D_LEAD by setup (R368). -/
  leadDone : List Nat := []
  leadCode : Assoc Int := []
  cal : Option CalRun := none
  /-- Time since the last completed calibration, in 1/28 800 s. -/
  calAge : Nat := 0
  deriving DecidableEq, Repr

/-- The shadow lane behind LANES_LS, the crosspoint and the excitation. -/
structure Ana where
  lane0 : Lane := {}
  lane1 : Lane := {}
  lane2 : Lane := {}
  lane3 : Lane := {}
  lane4 : Lane := {}
  lane5 : Lane := {}
  /-- LS's own coefficients by gain, its calibration, the lane it looks at next. -/
  lsOfs : Assoc Int := []
  lsGain : Assoc Nat := []
  lsCal : Option CalRun := none
  lsNext : Nat := 0
  /-- Of a match pass: 0 it waits for a pass to begin, 1 the pass runs, 2 it is over; the codes D_L and D_S by entry. -/
  matchRun : Nat := 0
  pairs : Assoc (Int × Int) := []
  /-- M_e and O_e by entry (R399). -/
  matched : Assoc (Nat × Int) := []
  /-- Consecutive check conversions beyond and below the threshold by setup (R363). -/
  beyond : Assoc Nat := []
  below : Assoc Nat := []
  /-- Setups with a REF_MOHM, and consecutive lead measurements within the tolerance. -/
  refSet : List Nat := []
  inTol : Assoc Nat := []
  /-- Setups whose next check conversion an injection puts beyond the threshold. -/
  injChk : List Nat := []
  /-- Last contest of two lanes: the lane that won and the lane that waited (R358). -/
  contests : List (Nat × Nat) := []
  /-- Sources whose last pulse had compliance (R359). -/
  complPrev : List Nat := []
  /-- Lanes whose offset is clipped (R356). -/
  ofsClip : List Nat := []
  /-- Charge of this second by source, 4 for burn-out, in pA × 1/288 µs (R378). -/
  charge : Assoc Nat := []
  /-- The urgent request that waits for its boundary: lane and setup. -/
  urg : Option (Nat × Nat) := none
  deriving DecidableEq, Repr

/-- A fast lane (R404–R414). -/
structure Fast where
  /-- The FINE value before, and the small COARSE samples in a row up to now, whatever their path (R407). -/
  fPrev : Option Int := none
  hold : Nat := 0
  /-- Updates since the estimator's reset, the number that CONV needs, and the last |e|, newest first. -/
  updates : Nat := 0
  need : Nat := 2048
  errs : List Nat := []
  /-- The samples of the last three ticks that are not yet available (R12), oldest first, none for a tick without one; the word delivered at this boundary. -/
  delay : List (Option Word) := [none, none, none]
  now : Option Word := none
  fifo : List Word := []
  deriving DecidableEq, Repr

/-! ### Stormbox (chapter 11) -/

/-- A trigger unit: its last values, newest first, consecutive rows with and without its condition, and whether it has fired and waits (R425). -/
structure RecUnit where
  hist : List Int := []
  run : Nat := 0
  off : Nat := 0
  spent : Bool := false
  deriving DecidableEq, Repr

/-- A trigger with its attributed tick. -/
structure RecTrig where
  tick : Nat
  kind : Nat
  src : Nat
  deriving DecidableEq, Repr

/-- What the start of a tick was like: TICK_NUM, TICK_SECIDX, the time of day, smpSynch, SYNCED, and the latest verdict's code and flags. -/
structure RecStamp where
  num : Nat := 0
  idx : Nat := 0
  tod : Nat := 0
  ns : Nat := 0
  smp : Nat := 0
  synced : Bool := false
  vcode : Nat := 0
  vflags : Nat := 0
  deriving DecidableEq, Repr

/-- A sealed record that waits in its area: what its archive entry needs, time since the seal in 1/28 800 s. -/
structure RecHeld where
  recno : Nat
  rows : Nat
  rw : Nat
  first : Nat
  ring : Nat
  base : Nat
  age : Nat := 0
  queued : Bool := false
  stalled : Bool := false
  deriving DecidableEq, Repr

/-- An area: the ring index of its next row, its history, the record it holds. -/
structure RecArea where
  idx : Nat := 0
  hist : Nat := 0
  held : Option RecHeld := none
  deriving DecidableEq, Repr

/-- The record in CAPTURE or SEAL. -/
structure RecCap where
  recno : Nat
  kind : Nat
  src : Nat
  pReq : Nat
  pAct : Nat
  qReq : Nat
  /-- Tick of the trigger row, END, and the ring index of the first row. -/
  trig : Nat
  last : Nat
  first : Nat
  stamp : RecStamp
  chains : Nat := 0
  coinc : Nat := 0
  ofs : Nat := 0
  capped : Bool := false
  missed : Nat := 0
  deriving DecidableEq, Repr

/-- The archive entry that is being written: its area, partition offset and length in bytes, the next byte, the header as written, the running CRC of the rows, ZEROED. -/
structure ArchJob where
  area : Nat
  held : RecHeld
  off : Nat
  len : Nat
  pos : Nat := 0
  head : List Word := []
  crc : Word := 0xFFFFFFFF
  zeroed : Nat := 0
  deriving DecidableEq, Repr

/-- Stormbox. -/
structure Rec where
  area0 : RecArea := {}
  area1 : RecArea := {}
  cap : Option RecCap := none
  trigs : List RecTrig := []
  units : List RecUnit := [{}, {}, {}, {}]
  /-- Marks of rows by tick: 1 OVR, 2 UNMATCHED, 4 fault state, 8 XREAD. -/
  marks : Assoc Nat := []
  /-- The starts of the last ticks, newest first. -/
  stamps : List RecStamp := []
  /-- The missed-trigger log by entry. -/
  mlog : Assoc (Word × Word × Word) := []
  /-- The archive index, the valid entries oldest first: RECNO, partition offset and length in bytes; the write position. -/
  entries : List (Nat × Nat × Nat) := []
  wpos : Nat := 0
  /-- The entry that is being written; an area that has been handed over meanwhile (R435). -/
  job : Option ArchJob := none
  waits : Option Nat := none
  find : Option Nat := none
  deriving DecidableEq, Repr

/-- A key (chapter 20). Times are in ms, counted in scans. -/
structure KeyOne where
  /-- Scans so far and their sum, until the baseline is there (R695). -/
  scans : Nat := 0
  sum : Nat := 0
  /-- Consecutive scans at or above TOUCH_TH, and below half of it. -/
  on : Nat := 0
  off : Nat := 0
  touchMs : Nat := 0
  /-- How long the delta has stayed below −NEG_TH, from its first such scan; none while it does not. -/
  negMs : Option Nat := none
  drift : Nat := 0
  deriving DecidableEq, Repr

/-- The values that trim mode restores (R707). -/
structure TrimSave where
  mode : Nat
  testUa : Nat
  zero : Nat
  gain : Nat
  deriving DecidableEq, Repr

/-- The window keys behind the KEYS page. -/
structure Keys where
  k0 : KeyOne := {}
  k1 : KeyOne := {}
  k2 : KeyOne := {}
  /-- The last three presses, oldest first: key and age in ms. -/
  buf : List (Nat × Nat) := []
  /-- A completed sequence that waits for its action: its code. -/
  done : Option Nat := none
  /-- A change of the local lock that waits for the boundary (R704). -/
  lockReq : Option Bool := none
  /-- Time left until the lock's timeout, in 1/28 800 s (R705). -/
  lockLeft : Option Nat := none
  /-- Trim mode: the saved values; time since the last press, in ms; the mode has come into force. -/
  saved : Option TrimSave := none
  trimMs : Nat := 0
  trimOn : Bool := false
  /-- Time of the injected touch left, in ms. -/
  injMs : Nat := 0
  /-- The LED's pulses: 0 none, 1 a press, 2 an accepted sequence, 3 a refused one; time since they began and the blink's phase, in 1/28 800 s. -/
  led : Nat := 0
  ledU : Nat := 0
  blinkU : Nat := 0
  /-- Time since the last scan, in 1/28 800 s; none before the first (R694). -/
  scanU : Option Nat := none
  /-- The local lock and trim mode as a GPIO pin mirrors them: those of the last boundary (R713). -/
  pinLock : Bool := false
  pinTrim : Bool := false
  deriving DecidableEq, Repr

/-- A sample tick of the publisher (R271, R279): smpCnt, its place in its group, none where it is in none, and the PUB configuration of its group. -/
structure PubTick where
  cnt : Nat
  pos : Option Nat
  cfg : Assoc Word
  deriving DecidableEq, Repr

/-- A frame on the line or waiting for its start within its window: its bytes, its wire length, and when it starts, in ns from the last boundary. -/
structure SvOut where
  bytes : List Byte
  wire : Nat
  start : Int
  deriving DecidableEq, Repr

/-- The publisher (chapter 07). -/
structure Pub where
  /-- The effective PUB words as of the boundary before (R279). -/
  want : Assoc Word := []
  /-- The samples taken and not yet available, oldest first (R12). -/
  ticks : List PubTick := []
  /-- The samples of the group in assembly: smpCnt, and by stream the channels' value and quality. -/
  group : List (Nat × List (List (Word × Nat))) := []
  /-- What PUB_SERVICE read last, by stream × 8 + channel: value and quality base; whether it has run in this tick (R274). -/
  vals : Assoc (Word × Nat) := []
  served : Bool := false
  /-- The SV frames of the present burst that have not ended. -/
  sv : List SvOut := []
  /-- The line is busy until then, in ns from the last boundary. -/
  busy : Nat := 0
  /-- RATE has changed: the next sample begins a group of its own (R271). -/
  anew : Bool := false
  /-- GOOSE: the members published last, t of the last frame, the interval to the next frame in ms, the time since the last frame in 1/28 800 s, and whether the link was up at the last
  boundary. -/
  members : Option (List Nat) := none
  t : List Byte := []
  interval : Nat := 0
  since : Nat := 0
  wasUp : Bool := false
  deriving DecidableEq, Repr

/-- The DMA engine (chapter 13): the jobs that the running slot has still to run, the one in progress first; whether its run has begun, its completed units,
the destination's offset in bytes (in units in a ring), and the core clock cycles used in the slot. -/
structure Dma where
  jobs : List Nat := []
  on : Bool := false
  units : Nat := 0
  out : Nat := 0
  spent : Nat := 0
  deriving DecidableEq, Repr

/-- A reply or burst frame of the modem: its bytes from the delimiter on, its preambles, its master, the time since its request's stop bit. -/
structure FskOut where
  bytes : List Byte
  pre : Nat
  secondary : Bool
  age : Nat
  deriving DecidableEq, Repr

/-- The FSK modem and the link processor's part of it (chapter 06). Times are in 1/28 800 s. -/
structure Fsk where
  /-- Frames received that wait for RXH; frames handed over and not yet processed, in order. -/
  rx : List FskReq := []
  lp : List FskReq := []
  /-- Replies that wait for TXH; replies handed to the modem; the frame that is being transmitted, and for how long. -/
  ready : List FskOut := []
  mq : List FskOut := []
  sending : Option FskOut := none
  sendU : Nat := 0
  /-- The jabber guard has tripped (R220). -/
  stuck : Bool := false
  /-- Time without carrier; blanking left; time since LINK was released after a wake. -/
  quiet : Nat := 28800
  /-- NF with its fraction, × 2^16 (R207). -/
  nf : Nat := 0
  /-- The frame under the carrier is addressed to the KV4811 (R142); time since the carrier was detected. -/
  rxMine : Bool := false
  carU : Nat := 0
  blank : Nat := 0
  upU : Nat := 100000
  /-- The variables as of the last SNAP: the word, and whether its read ended OK (R232); none without one. -/
  snap : List (Option (Word × Bool)) := List.replicate 4 none
  /-- FSK_XSTAT as the primary and the secondary master last read it. -/
  seenP : Nat := 0
  seenS : Nat := 0
  /-- A burst frame waits: the time since it became due, and whether TXH has handed it over; time since the last one became due; the master bit of the next one. -/
  burst : Option Nat := none
  burstTx : Bool := false
  sinceDue : Nat := 1728000
  burstSec : Bool := false
  deriving DecidableEq, Repr

/-- The state of the KV4811. -/
structure State where
  /-- The commands that wait, first in first out. -/
  pending : List Instr := []
  /-- Register words at their normal addresses, keyed by page × 0x400 + offset: shadows of RWS fields, and all other fields. Unlisted: the reset word. -/
  regs : Assoc Word := []
  /-- Effective words of RWS fields, keyed alike. Unlisted: the reset word. -/
  eff : Assoc Word := []
  /-- Pages with PG_CTRL.WLOCK = 1 (R54). -/
  locks : List Nat := []
  /-- The bytes of non-volatile memory, SRAM and retention RAM, in canonical form: addresses rising, no entry equal to what an unlisted address reads as. -/
  mem : List Host.Cell := []
  /-- The bytes of the cells' local memories, cell n from n × 0x8000, in the same form. -/
  cellMem : List Host.Cell := []
  /-- Standing errors of stored ECC words, keyed by the ECC word's first address (cell memories from 0x8000_0000). -/
  ecc : Assoc EccErr := []
  otp : Otp := {}
  boot : Boot := {}
  page : PageSt := {}
  flt : Flt := {}
  acc : Acc := {}
  spi : Spi := {}
  slp : Slp := {}
  nvm : Nvm := {}
  alm : Alm := {}
  tick : Tick := {}
  plan : Plan := {}
  line : Line := {}
  ldac : Ldac := {}
  adac0 : Adac := {}
  adac1 : Adac := {}
  gov : Gov := {}
  arr : Arr := {}
  bist : Bist := {}
  learn : Learn := {}
  link : Link := {}
  ana : Ana := {}
  fast0 : Fast := {}
  fast1 : Fast := {}
  stor : Rec := {}
  keys : Keys := {}
  pub : Pub := {}
  dma : Dma := {}
  fsk : Fsk := {}
  /-- The model's own counter of fresh values (DESIGN CHOICE, log entry 1). -/
  free : Nat := 0
  deriving DecidableEq, Repr

/-- The machine right after a cold reset has been asserted (R715–R722): every register at its reset word (none is listed), the cause POR, the memories as R650 and
R724 leave them (the bench record of R625 names C16, DESIGN CHOICE, log entry 4), no command waiting. The OTP of a part is not the spec's; DESIGN CHOICE, log entry 130 names its values. -/
def State.reset : State := { mem := [(0x38003F03, 0x10)] }

end Sys2Proof.Machine
end

