-- ==== Sys2Proof/Machine/Flags.lean ====
section
/-! DEFINITION. Registers and their fields: the one place that reads and writes a register word, the flags and events (R57),
the saturating counters (R6), and the reset words. -/

namespace Sys2Proof.Machine

/-- The key under which State keeps the register at offset `off` of page `p`. -/
def regKey (p off : Nat) : Nat := p * 0x400 + off

/-- The index of `off` among the registers that entry `e` stands for, if it is one of them: outer and inner index. -/
def RegEnt.hits (e : RegEnt) (off : Nat) : Option (Nat × Nat) :=
  if off < e.off then none
  else
    let d := off - e.off
    let i := d / e.s1
    let r := d % e.s1
    if i < e.c1 ∧ r % e.s2 = 0 ∧ r / e.s2 < e.c2 then some (i, r / e.s2) else none

/-- The first entry of a table that stands for `off`, with its outer index. -/
def findEnt : List RegEnt → Nat → Option (RegEnt × Nat)
  | [], _ => none
  | e :: t, off =>
    match e.hits off with
    | some (i, _) => some (e, i)
    | none => findEnt t off

/-- The common registers of every page as a table entry (R66): PG_CTRL, PG_EVT_EN, PG_EVT, PG_FLT_INJ, PG_COMMIT and PG_OWNER have
writable fields; EN of a FIXED_EN page is fixed (R53). -/
def commonEnt (p off : Nat) : Option RegEnt :=
  match pageEnt p with
  | none => none
  | some pe =>
    let fixed := bitOf pe.cap 29
    let ro : RegEnt := ⟨off, 0x400, 1, 4, 1, 0, 0, 0, 0, 0, 0, 0⟩
    match off with
    | 0x000 => some { ro with reset := p * 0x100 + 1 }
    | 0x004 => some { ro with reset := pe.cap }
    | 0x008 => some { ro with reset := b2n fixed, rws := b2n (!fixed), rw := 4, wo := 2 }
    | 0x00C => some ro
    | 0x010 => some ro
    | 0x014 => some { ro with rw := eventMask p }
    | 0x018 => some { ro with w1c := eventMask p }
    | 0x01C => some { ro with rw := 0xFFFF, wo := 0x10000 }
    | 0x020 => some { ro with wo := 1 }
    | 0x024 => some { ro with wo := 0xFFF }
    | _ => none

/-- R588: the sources of the fault hub that the table names. -/
def faultIds : List Nat :=
  [0x00, 0x01, 0x02, 0x03, 0x10, 0x11, 0x12, 0x13, 0x20, 0x21, 0x22, 0x30, 0x31, 0x32, 0x40, 0x41, 0x42, 0x50, 0x51,
   0x60, 0x61, 0x62, 0x63, 0x64, 0x70, 0x71, 0x72, 0x7E]

/-- FLT_SRCi's word of BASE, ESC, N and W. -/
def srcWord (base esc n w : Nat) : Nat := w * 0x10000 + n * 0x100 + esc * 0x10 + base

/-- R588: the reset word of a source's FLT_SRC register; 0 for a reserved id. -/
def fltSrcReset (id : Nat) : Nat :=
  match id with
  | 0x00 => srcWord 1 5 8 1000
  | 0x01 => srcWord 2 2 255 1000
  | 0x02 => srcWord 1 1 255 1000
  | 0x03 => srcWord 1 1 255 1000
  | 0x10 => srcWord 1 2 4 60000
  | 0x11 => srcWord 2 2 255 1000
  | 0x12 => srcWord 2 2 255 1000
  | 0x13 => srcWord 2 5 3 60000
  | 0x20 => srcWord 1 1 255 1000
  | 0x21 => srcWord 2 5 4 10000
  | 0x22 => srcWord 2 5 2 60000
  | 0x30 => srcWord 3 3 255 1000
  | 0x31 => srcWord 0 0 255 1000
  | 0x32 => srcWord 1 1 255 1000
  | 0x40 => srcWord 1 1 255 1000
  | 0x41 => srcWord 1 1 255 1000
  | 0x42 => srcWord 1 1 255 1000
  | 0x50 => srcWord 1 2 4 60000
  | 0x51 => srcWord 2 2 255 1000
  | 0x60 => srcWord 1 5 4 10000
  | 0x61 => srcWord 2 2 255 1000
  | 0x62 => srcWord 2 2 255 1000
  | 0x63 => srcWord 1 1 255 1000
  | 0x64 => srcWord 5 5 255 1000
  | 0x70 => srcWord 1 1 255 1000
  | 0x71 => srcWord 5 5 255 1000
  | 0x72 => srcWord 1 1 255 1000
  | 0x7E => srcWord 1 1 255 1000
  | _ => 0

/-- The table entry of the register at `off` of page `p` with its outer index; none where the offset is unmapped (R30). The FLT_SRC words
of reserved ids ignore writes (R616). -/
def regEnt (p off : Nat) : Option (RegEnt × Nat) :=
  if off < 0x40 then (commonEnt p off).map fun e => (e, 0)
  else if (p = 7 ∨ p = 8) ∧ 0x100 ≤ off ∧ off < 0x200 then
    let id := (p - 7) * 0x40 + (off - 0x100) / 4
    let ent : RegEnt := ⟨off, 0x400, 1, 4, 1, fltSrcReset id, 0, if faultIds.contains id then 0xFFFFFF77 else 0, 0, 0, 0,
      if faultIds.contains id then 0 else 1⟩
    if off % 4 = 0 then some (ent, 0) else none
  else findEnt (pageRegs p) off

/-- The reset word of the register at `off` of page `p` (R742, the register tables). -/
def resetWord (p off : Nat) : Word :=
  match regEnt p off with
  | some (e, i) => BitVec.ofNat 32 (e.reset + e.step * i)
  | none => 0

/-- The mask of a register's RWS bits. -/
def rwsMask (p off : Nat) : Nat := match regEnt p off with
  | some (e, _) => e.rws
  | none => 0

/-- The mask of a register's RC bits. -/
def rcMask (p off : Nat) : Nat := match regEnt p off with
  | some (e, _) => e.rc
  | none => 0

namespace State

/-- The word at the normal address: shadows of RWS fields, and all other fields. -/
def rd (s : State) (p off : Nat) : Word := (aget s.regs (regKey p off)).getD (resetWord p off)

/-- The effective word of a register: only its RWS bits count. -/
def rdE (s : State) (p off : Nat) : Word := (aget s.eff (regKey p off)).getD (resetWord p off)

/-- The word at the normal address set. -/
def wr (s : State) (p off : Nat) (w : Word) : State := { s with regs := aset s.regs (regKey p off) w }

/-- The effective word set. -/
def wrE (s : State) (p off : Nat) (w : Word) : State := { s with eff := aset s.eff (regKey p off) w }

/-- A field's value: the effective one for an RWS field. -/
def get (s : State) (f : Fld) : Nat := getBits (if f.rws then s.rdE f.page f.off else s.rd f.page f.off) f.hi f.lo

/-- A field's shadow value. -/
def getS (s : State) (f : Fld) : Nat := getBits (s.rd f.page f.off) f.hi f.lo

/-- A one-bit field. -/
def flag (s : State) (f : Fld) : Bool := s.get f == 1

/-- The hardware sets a field: an RWS field in its shadow and its effective copy. -/
def put (s : State) (f : Fld) (v : Nat) : State :=
  let s := s.wr f.page f.off (putBits (s.rd f.page f.off) f.hi f.lo v)
  if f.rws then s.wrE f.page f.off (putBits (s.rdE f.page f.off) f.hi f.lo v) else s

/-- The hardware sets the shadow of an RWS field only. -/
def putS (s : State) (f : Fld) (v : Nat) : State := s.wr f.page f.off (putBits (s.rd f.page f.off) f.hi f.lo v)

/-- A one-bit field set or cleared. -/
def putB (s : State) (f : Fld) (b : Bool) : State := s.put f (b2n b)

/-- R6: a counter field grows by `n` and saturates at its maximum. -/
def bump (s : State) (f : Fld) (n : Nat := 1) : State := s.put f (satTo (2 ^ (f.hi + 1 - f.lo) - 1) (s.get f + n))

/-- A two's-complement field's value. -/
def getI (s : State) (f : Fld) : Int := signed (f.hi + 1 - f.lo) (s.get f)

/-- A two's-complement field set, saturating. -/
def putI (s : State) (f : Fld) (x : Int) : State :=
  let n := f.hi + 1 - f.lo
  s.put f (toCode n (clampInt (-(2 ^ (n - 1) : Int)) (2 ^ (n - 1) - 1 : Int) x))

/-- R57: an event of page `e.1` occurs: its bit `e.2` of PG_EVT_RAW sets. -/
def raise (s : State) (e : Nat × Nat) : State :=
  s.wr e.1 0x010 (s.rd e.1 0x010 ||| BitVec.ofNat 32 (2 ^ e.2))

/-- PG_EVT_RAW bit `b` of page `p`. -/
def evRaw (s : State) (p b : Nat) : Bool := bitOf (s.rd p 0x010).toNat b

/-- The effective EN of page `p`. -/
def en (s : State) (p : Nat) : Bool := bitOf (s.rdE p 0x008).toNat 0

/-- A page's PG_CAP bit. -/
def capBit (p b : Nat) : Bool := match pageEnt p with
  | some e => bitOf e.cap b
  | none => false

/-- An injected point that waits for its event is there. -/
def armedAt (s : State) (p pt : Nat) : Bool := s.page.armed.contains (p, pt)

/-- An injected point is used up. -/
def disarm (s : State) (p pt : Nat) : State := { s with page.armed := s.page.armed.erase (p, pt) }

/-- A fresh value is taken: the counter advances. -/
def fresh (s : State) (n : Nat := 1) : State := { s with free := s.free + n }

end State

/-- TICK_CFG.RATE in force as ticks' length in 1/28 800 s (R67, R674). -/
def tickUnits (s : State) : Nat := match s.get F.TICK_CFG_RATE with
  | 0 => 12
  | 1 => 6
  | 2 => 3
  | _ => 2

/-- At least `n` may have passed where `t` has been counted; at most `n` may have (DESIGN CHOICE, log entry 5). Both in 1/28 800 s. -/
def mayReach (s : State) (t n : Nat) : Bool := decide (n < t + tickUnits s)
def mayStay (s : State) (t n : Nat) : Bool := decide (t < n + tickUnits s)

/-- The tick rate in Hz (R67). -/
def rateHz (s : State) : Nat := 28800 / tickUnits s

/-- The generation latched: 0 none, 1 G1, 2 G2, 3 G3 (R737: SYS_GEN holds it in every generation). -/
def gen (s : State) : Nat := s.get F.SYS_GEN_GEN

/-- A loop generation is latched. -/
def loopGen (s : State) : Bool := gen s == 1 || gen s == 2

/-- The power state: 0 RUN, 1 DOZE, 2 LULL, 3 FROST. -/
def pstate (s : State) : Nat := s.get F.PWR_STAT_STATE

/-- The fault state, FAULT or LOCKOUT, is in force (R599). -/
def inFault (s : State) : Bool := s.get F.FLT_STAT_STATE != 0

/-- The start-up ceiling is in force (R130). -/
def startCeil (s : State) : Bool := s.flag F.SYS_BSTAT_CEIL

end Sys2Proof.Machine
end

