-- ==== Sys2Proof/Machine/Memory.lean ====
section
/-! DEFINITION. The memories as lists of cells in canonical form (addresses strictly rising, no entry equal to what an
unlisted address reads as), words and bytes of them, and the marks of standing ECC errors. -/

namespace Sys2Proof.Machine

/-- What an unlisted address reads as: an erased location of non-volatile memory reads all ones (R804); SRAM and retention RAM
are zero-filled before they serve any access (R650, R724). -/
def memDefault (a : Nat) : Byte := if 0x10000000 ≤ a ∧ a < 0x10400000 then 0xFF else 0

/-- What an unlisted address of a cell memory reads as: it is zero-filled before it serves (R724). -/
def cellDefault (_ : Nat) : Byte := 0

/-- The byte at `a`. -/
def cellRead (d : Nat → Byte) : List Host.Cell → Nat → Byte
  | [], a => d a
  | (b, v) :: t, a => if a = b then v else cellRead d t a

/-- The memory with the byte at `a` set to `v`, in canonical form. -/
def cellWrite (d : Nat → Byte) : List Host.Cell → Nat → Byte → List Host.Cell
  | [], a, v => if v = d a then [] else [(a, v)]
  | (b, w) :: t, a, v =>
    if a = b then (if v = d a then t else (a, v) :: t)
    else if a < b then (if v = d a then (b, w) :: t else (a, v) :: (b, w) :: t)
    else (b, w) :: cellWrite d t a v

/-- The canonical form: every address is at least `lo`, addresses rise strictly, no entry equals the default. -/
def cellsFrom (d : Nat → Byte) : Nat → List Host.Cell → Bool
  | _, [] => true
  | lo, (a, v) :: t => decide (lo ≤ a) && decide (v ≠ d a) && cellsFrom d (a + 1) t

/-- The canonical form of the memory. -/
def Memory.wf (m : List Host.Cell) : Bool := cellsFrom memDefault 0 m

/-- The canonical form of the cell memories. -/
def CellMemory.wf (m : List Host.Cell) : Bool := cellsFrom cellDefault 0 m

/-- `bs` written from `a` on. -/
def cellWrites (d : Nat → Byte) : List Host.Cell → Nat → List Byte → List Host.Cell
  | m, _, [] => m
  | m, a, b :: t => cellWrites d (cellWrite d m a b) (a + 1) t

/-- The entries whose address lies outside [lo, hi): those inside return to the default. -/
def cellDrop (lo hi : Nat) : List Host.Cell → List Host.Cell
  | [] => []
  | (a, v) :: t => if lo ≤ a ∧ a < hi then cellDrop lo hi t else (a, v) :: cellDrop lo hi t

namespace State

/-- One byte of the memory map. -/
def byteAt (s : State) (a : Nat) : Byte := cellRead memDefault s.mem a

/-- `n` bytes of the memory map. -/
def bytesAt (s : State) (a n : Nat) : List Byte := tabulate n fun i => s.byteAt (a + i)

/-- The 32-bit word at `a`, most significant byte first (DEDUCED, log entry 3). -/
def wordAt (s : State) (a : Nat) : Word := BitVec.ofNat 32 (bytesNat (s.bytesAt a 4))

/-- Bytes stored from `a` on. -/
def setBytes (s : State) (a : Nat) (bs : List Byte) : State := { s with mem := cellWrites memDefault s.mem a bs }

/-- A 32-bit word stored at `a`. -/
def setWord (s : State) (a : Nat) (w : Word) : State := s.setBytes a (bytesOfWord w)

/-- The 32-bit word at offset `o` of cell `c`'s memory. -/
def cellWordAt (s : State) (c o : Nat) : Word :=
  BitVec.ofNat 32 (bytesNat (tabulate 4 fun i => cellRead cellDefault s.cellMem (c * 0x8000 + o + i)))

/-- A 32-bit word stored at offset `o` of cell `c`'s memory. -/
def setCellWord (s : State) (c o : Nat) (w : Word) : State :=
  { s with cellMem := cellWrites cellDefault s.cellMem (c * 0x8000 + o) (bytesOfWord w) }

end State

/-- The first address of the ECC word that holds address `a`: 128 bits of non-volatile memory (R653), 64 of SRAM (R647), 32 of retention
RAM (R650). -/
def eccKey (a : Nat) : Nat :=
  if a < 0x20000000 then a / 16 * 16 else if a < 0x30000000 then a / 8 * 8 else a / 4 * 4

/-- The key of the ECC word at offset `o` of cell `c`'s memory (R651). -/
def cellEccKey (c o : Nat) : Nat := 0x80000000 + (c * 0x8000 + o) / 8 * 8

/-- The ECC marks outside the addresses [lo, hi). -/
def eccDrop (m : Assoc EccErr) (lo hi : Nat) : Assoc EccErr := m.filter fun e => !(decide (lo ≤ e.1) && decide (e.1 < hi))

/-- The ECC marks after a write of the words in [lo, hi): those of uncorrectable words stay (R649). -/
def eccRewrite (m : Assoc EccErr) (lo hi : Nat) : Assoc EccErr := m.filter fun e => !(decide (lo ≤ e.1) && decide (e.1 < hi)) || e.2 == .double

/-- The SRAM bank of an SRAM address (R27). -/
def bankOf (a : Nat) : Nat := (a - 0x20000000) / 0x40000

/-- SRAM loses its contents: the cells and marks of bank `n` go back to zero words with valid check bits. -/
def clearBank (n : Nat) (s : State) : State :=
  let lo := 0x20000000 + n * 0x40000
  { s with mem := cellDrop lo (lo + 0x40000) s.mem, ecc := eccDrop s.ecc lo (lo + 0x40000) }

/-- Every SRAM bank loses its contents. -/
def clearSram (s : State) : State :=
  { s with mem := cellDrop 0x20000000 0x20400000 s.mem, ecc := eccDrop s.ecc 0x20000000 0x20400000 }

/-- The cell memories lose their contents. -/
def clearCells (s : State) : State :=
  { s with cellMem := [], ecc := eccDrop s.ecc 0x80000000 0x80100000 }

/-- R650: the retention RAM is zero-filled; the device area then holds its initial values, which make the bench record of R625 name C16
(DESIGN CHOICE, log entry 4 places that record). -/
def initRetention (s : State) : State :=
  let s := { s with mem := cellDrop 0x38000000 0x38004000 s.mem, ecc := eccDrop s.ecc 0x38000000 0x38004000 }
  s.setWord 0x38003F00 16

end Sys2Proof.Machine
end

