-- ==== Sys2Proof/Machine/Ops.lean ====
section
/-! DEFINITION. Operations every block uses: the Almanac's counts (R676, R677), the fault event with its reactions, escalation, traps and
records (chapter 16), and the assertion of a reset (chapter 21). -/

namespace Sys2Proof.Machine

/-! ### The Almanac's live image -/

/-- A word or bin of the live image grows by `n` and saturates at `top` (R672). -/
def almAdd (off n top : Nat) (s : State) : State :=
  { s with alm.live := aset s.alm.live off (satTo top ((aget s.alm.live off).getD 0 + n)) }

/-- Counter word `i` of R676 grows by 1. -/
def almCount (i : Nat) (s : State) : State := almAdd (0x2C0 + 4 * i) 1 0xFFFFFFFF s

/-- A word of the live image. -/
def almGet (s : State) (off : Nat) : Nat := (aget s.alm.live off).getD 0

/-- A word of the live image set. -/
def almSet (off v : Nat) (s : State) : State := { s with alm.live := aset s.alm.live off v }

/-- OP_S, the AON seconds of the part's life (R676). -/
def opS (s : State) : Nat := almGet s 0x2C0

/-! ### The fault hub -/

/-- The block page of a source (R588). -/
def blockPage (id : Nat) : Option Nat := match id with
  | 0x00 => some 0x06
  | 0x30 => some 0x13
  | 0x31 => some 0x14
  | 0x50 => some 0x30
  | 0x72 => some 0x2C
  | _ => none

/-- The effective FLT_SRC word of a source. -/
def srcCfg (s : State) (id : Nat) : Word := s.rdE (7 + id / 64) (0x100 + 4 * (id % 64))

/-- FLT_STAT.RECOV_24H: recovery-log entries less than 86 400 s old (R604). -/
def recov24 (s : State) : Nat := (s.flt.recov.filter fun t => decide (s.flt.aonS < t + 86400)).length

/-- An entry of the recovery log, which keeps the last 15 (R604). -/
def addRecovery (s : State) : State :=
  let l := s.flt.recov ++ [s.flt.aonS]
  { s with flt.recov := l.drop (l.length - 15) }

/-- R594: while a pending bit is set together with its mask bit, the page's IRQ_SRC event is raised. -/
def fltIrq (s : State) : State :=
  let hot (p : Nat) : Bool := (s.rd p 0x06C &&& s.rd p 0x074) ≠ 0 || (s.rd p 0x070 &&& s.rd p 0x078) ≠ 0
  let s1 := if hot 7 then s.raise E.FLT0_IRQ_SRC else s
  if hot 8 then s1.raise E.FLT1_IRQ_SRC else s1

/-- One entry of the fault record ring (R593, R615). -/
def addRecord (w0 w1 : Word) (s : State) : State :=
  let n := s.get F.FLT_REC_CNT_NEXT
  let s := { s with flt.ring := aset s.flt.ring n (w0, w1) }
  (s.put F.FLT_REC_CNT_NEXT ((n + 1) % 16)).bump F.FLT_REC_CNT_TOTAL

/-- R611, R614: a trap takes the next TSEQ and waits in the FIFO; with the FIFO full it is lost (DEDUCED, log entry 10: a lost trap takes its TSEQ). -/
def queueTrap (id : Nat) (s : State) : State :=
  let q := s.flt.nextTseq
  let s := { s with flt.nextTseq := if q = 65535 then 1 else q + 1 }
  if s.flt.traps.length < 8 then ({ s with flt.traps := s.flt.traps ++ [(id, q)] }).raise E.FLT0_TRAP
  else s.bump F.FLT_CNT_TRAP_LOST

/-- LOCKOUT is entered by source `id`, unless it is in force (R605, R606). -/
def enterLockout (id : Nat) (s : State) : State :=
  let was := s.get F.FLT_STAT_STATE
  if was = 2 then s else
  let s := (s.put F.FLT_STAT_STATE 2).put F.FLT_STAT_ENTRY_SRC id
  let s := almCount 10 ((s.bump F.FLT_CNT_LOCKOUTS).raise E.FLT0_LOCKOUT)
  let s := if was = 0 then s.raise E.FLT0_FAULT_ENTER else s
  { s with flt.entered := true }

/-- An ERRPIN reaction of source `id` (R599, R601, R602, R605). -/
def errPin (id : Nat) (s : State) : State :=
  match s.get F.FLT_STAT_STATE with
  | 0 =>
    if s.get F.FLT_CFG_RECOV_MAX ≤ recov24 s then enterLockout id s
    else
      let s := (((s.put F.FLT_STAT_STATE 1).put F.FLT_STAT_ENTRY_SRC id).put F.FLT_CALM_CALM 0).raise E.FLT0_FAULT_ENTER
      { s with flt.calmU := 0, flt.entered := true }
  | 1 =>
    let s := { s.put F.FLT_CALM_CALM 0 with flt.calmU := 0 }
    if s.flt.entered && decide (id < s.get F.FLT_STAT_ENTRY_SRC) then s.put F.FLT_STAT_ENTRY_SRC id else s
  | _ => if s.flt.entered && decide (id < s.get F.FLT_STAT_ENTRY_SRC) then s.put F.FLT_STAT_ENTRY_SRC id else s

/-- R592–R596, R606, R614: source `id` raises an event: it is counted, recorded, and takes its base or escalated reaction. -/
def faultEvent (id info : Nat) (s : State) (alt : Bool := false) (inj : Bool := false) : State :=
  let w := srcCfg s id
  let c := (aget s.flt.esc id).getD 0 + 1
  let esc := decide (getBits w 15 8 ≤ c)
  let react := if esc then getBits w 6 4 else getBits w 2 0
  let inF := inFault s
  let conv := react == 4 && decide (s.get F.FLT_CFG_RECOV_MAX ≤ recov24 s)
  let s := { s with flt.esc := aset s.flt.esc id (if esc then 0 else satTo 255 c), flt.leakU := if c = 1 then aset s.flt.leakU id 0 else s.flt.leakU }
  let p := 7 + id / 64
  let cnt : Fld := if id % 2 = 1 then ⟨p, 0x200 + 4 * (id % 64 / 2), 31, 16, false⟩ else ⟨p, 0x200 + 4 * (id % 64 / 2), 15, 0, false⟩
  let s := almAdd (0x340 + 4 * id) 1 0xFFFFFFFF (s.bump cnt)
  let rec1 := BitVec.ofNat 32 (id * 2 ^ 24 + react * 2 ^ 21 + b2n esc * 2 ^ 20 + b2n inj * 2 ^ 19 + b2n inF * 2 ^ 18
    + b2n conv * 2 ^ 17 + b2n alt * 2 ^ 16 + info % 65536)
  let s := addRecord (BitVec.ofNat 32 s.tick.num) rec1 s
  let s := if react = 0 then s else
    let off := 0x06C + 4 * (id % 64 / 32)
    fltIrq (s.wr p off (s.rd p off ||| BitVec.ofNat 32 (2 ^ (id % 32))))
  let s := if react = 2 ∨ react = 3 ∨ react = 5 then queueTrap id s else s
  match react with
  | 3 => match blockPage id with
    | some bp => { s with page.srstPend := if s.page.srstPend.contains bp then s.page.srstPend else bp :: s.page.srstPend }
    | none => s
  | 4 =>
    let s := addRecovery s
    if conv then enterLockout id s else { s with flt.chipReset := some id }
  | 5 => errPin id s
  | _ => s

/-! ### Power failure of a chunk (R655) -/

/-- The 128-bit words of a chunk from `a` on that are not yet written when power fails: each keeps its old content or
reads as uncorrectable, as the free choices from number `k` on say. -/
def tearWords (k : Nat) : Nat → Nat → Assoc EccErr → Assoc EccErr
  | _, 0, m => m
  | a, n + 1, m => tearWords (k + 1) (a + 16) n (if Config.freeBool k then aset m a .double else m)

/-- A chunk ends as by a power failure: some of its words, rising from its start, are complete (how many is not defined), and the rest
are torn. -/
def tearChunk (c : NvmChunk) (s : State) : State :=
  let n := (c.bytes.length + 15) / 16
  let done := Config.freeNat s.free % (n + 1)
  let s := { s with ecc := eccDrop s.ecc c.addr (c.addr + 16 * done) }
  let s := s.setBytes c.addr (c.bytes.take (16 * done))
  let s := { s with ecc := tearWords (s.free + 1) (c.addr + 16 * done) (n - done) s.ecc }
  s.fresh (n + 1)

/-! ### Resets (R715–R723) -/

/-- The class of a cause: 1 COLD, 2 SYSTEM, 3 SOFT (R715). -/
def causeClass (c : Nat) : Nat := match c with
  | 1 => 1
  | 3 => 1
  | 2 => 2
  | 4 => 2
  | 8 => 2
  | _ => 3

/-- The cause reported for a reset, the first in the order of R719. -/
def reportedCause (cs : List Nat) : Nat :=
  (([1, 3, 2, 4, 8, 5, 6, 7].find? fun c => cs.contains c)).getD 1

end Sys2Proof.Machine
end

