-- ==== Sys2Proof/Machine/Loop.lean ====
section
/-! DEFINITION. The loop output (chapter 05), the line and its budget (chapter 04, R16, R17, R533), and the auxiliary DACs: the
conversions to the native target, the ranked sources, and what their commands do. Currents are in 0.1 µA. -/

namespace Sys2Proof.Machine

/-! ### Conversions to the native target -/

/-- A current as an exact fraction of 0.1 µA: numerator and denominator. -/
abbrev Cur := Int × Nat

/-- The lower end and the width of a span, in 0.1 µA (R159). -/
def spanBase (span : Nat) : Int := if span = 0 then 40000 else 32000
def spanWidth (span : Nat) : Int := if span = 0 then 160000 else 208000

/-- R159: the current of a loop code. -/
def codeCur (span code : Nat) : Cur := (spanBase span * 65535 + code * spanWidth span, 65535)

/-- R160: the current of PV_FRAC. -/
def pvCur (span : Nat) (pv : Int) : Cur := (spanBase span * 2 ^ 30 + pv * spanWidth span, 2 ^ 30)

/-- A current in µA. -/
def uaCur (ua : Nat) : Cur := ((10 * ua : Nat), 1)

/-- R161: the user trim, gain in ppm and zero in 0.1 µA. -/
def userTrim (g z : Int) (x : Cur) : Cur := (x.1 * (1000000 + g) + z * (x.2 * 1000000 : Nat), x.2 * 1000000)

/-- R158: the nearest native step, a half rounding up, within 18 bits. -/
def toNative (x : Cur) : Nat := (clampInt 0 262143 ((2 * x.1 + x.2) / (2 * x.2 : Nat))).toNat

/-- A current lies below, or above, a limit in µA. -/
def curBelow (x : Cur) (ua : Nat) : Bool := decide (x.1 < (10 * ua * x.2 : Nat))
def curAbove (x : Cur) (ua : Nat) : Bool := decide ((10 * ua * x.2 : Nat) < x.1)

/-- The NORMAL current before the limits of R164, from the registers as `g` reads them. -/
def normalRaw (g : Fld → Nat) : Cur :=
  if g F.LDAC_CFG_SRC = 0 then codeCur (g F.LDAC_CFG_SPAN) (g F.LDAC_CODE_CODE)
  else pvCur (g F.LDAC_CFG_SPAN) (signed 32 (g F.LDAC_PV_PV_FRAC))

/-- R161 with the trim registers as `g` reads them. -/
def trimmedBy (g : Fld → Nat) (x : Cur) : Nat :=
  toNative (userTrim (signed 16 (g F.LDAC_UTRIM_GAIN_PPM)) (signed 16 (g F.LDAC_UTRIM_ZERO_DUA)) x)

/-- The final NORMAL target: limited to SAT_LO_UA–SAT_HI_UA, then trimmed (R164). -/
def normalFinal (g : Fld → Nat) : Nat :=
  let x := normalRaw g
  if curBelow x (g F.LDAC_SAT_SAT_LO_UA) then trimmedBy g (uaCur (g F.LDAC_SAT_SAT_LO_UA))
  else if curAbove x (g F.LDAC_SAT_SAT_HI_UA) then trimmedBy g (uaCur (g F.LDAC_SAT_SAT_HI_UA))
  else trimmedBy g x

/-- R162: the LOOPCLR_N clamp's target. -/
def clrTarget (s : State) : Nat := toNative (codeCur 1 (s.get F.LDAC_CLR_CLR_CODE))

/-- The alarm target (R163). -/
def alarmTarget (s : State) : Nat :=
  trimmedBy s.get (uaCur (if s.get F.LDAC_CFG_ALARM_DIR = 0 then s.get F.LDAC_ALARM_DN_UA else s.get F.LDAC_ALARM_UP_UA))

/-- The target of a mode without clamps, passage and start-up: TEST, FIXED, HOLD or the final NORMAL target, from the registers as `g`
reads them. -/
def modeTarget (g : Fld → Nat) (holdN : Nat) : Nat :=
  match g F.LDAC_CFG_MODE with
  | 2 => trimmedBy g (uaCur (g F.LDAC_TEST_TEST_UA))
  | 1 => trimmedBy g (uaCur 4000)
  | 3 => holdN
  | _ => normalFinal g

/-- R163: the highest-ranked active source. -/
def loopSource (s : State) : Nat :=
  if s.flag F.LDAC_STAT_CLR then 7
  else if s.flag F.LDAC_STAT_FAULT_CLAMP then 6
  else if s.flag F.LDAC_STAT_SPAN_PASS then 5
  else if s.flag F.LDAC_STAT_STARTUP then 4
  else match s.get F.LDAC_CFG_MODE with
    | 2 => 2
    | 1 => 1
    | 3 => 3
    | _ => 0

/-- The target of a source; NORMAL is as far as its ramp has come. -/
def sourceTarget (s : State) (src : Nat) : Nat :=
  match src with
  | 7 => clrTarget s
  | 6 => alarmTarget s
  | 5 => trimmedBy s.get (uaCur (s.get F.LDAC_SAFE_SAFE_UA))
  | 4 => trimmedBy s.get (uaCur (s.get F.LDAC_SAFE_STARTUP_UA))
  | 0 => s.ldac.norm
  | _ => modeTarget s.get s.ldac.holdN

/-! ### The budget -/

/-- The target most recently written and committed but not yet effective (R16, R171): of a pending LDAC commit, of a ramp, or of what a passage
holds back (DEDUCED, log entry 11). -/
def pendingTargets (s : State) : List Nat :=
  let ofCommit :=
    if s.page.commitPend.contains 0x11 then
      [if s.getS F.LDAC_CFG_SPAN = s.get F.LDAC_CFG_SPAN then modeTarget s.getS (s.get F.LDAC_OUT_TARGET_DUA)
       else trimmedBy s.getS (uaCur (s.getS F.LDAC_SAFE_SAFE_UA))]
    else []
  let ofRamp := if s.flag F.LDAC_STAT_RAMPING then [normalFinal s.get] else []
  let ofPass := if s.flag F.LDAC_STAT_SPAN_PASS then [modeTarget s.get s.ldac.holdN] else []
  ofCommit ++ ofRamp ++ ofPass

/-- The budget as the rules give it now, in 0.1 µA: R130, R17, R16, R136. -/
def budgetNow (s : State) : Nat :=
  if startCeil s then 30000
  else if gen s = 3 then 10 * s.get F.GOV_BUDGET_BUDGET_UA
  else
    let m := 10 * s.get F.GOV_MARGIN_MARGIN_UA
    let loop := (pendingTargets s).foldl min (s.get F.LDAC_OUT_TARGET_DUA)
    let lift := if s.flag F.LINE_STAT_LIFTOFF then 10 * s.get F.LINE_BUDGET_I_LOOP_UA else loop
    min loop lift - m

/-- The budget B in force (R533): the lowest of the last 1.0 ms. -/
def budget (s : State) : Nat := (s.gov.window.headD (30000, 0)).1

/-- R533: the budget has changed: a fall acts at once, a rise in G1 and G2 waits behind the lower values before it. -/
def updateBudget (s : State) : State :=
  let b := budgetNow s
  let w := if gen s = 3 then [(b, 0)] else s.gov.window.filter (fun x => decide (x.1 < b)) ++ [(b, 0)]
  let s := { s with gov.window := w }
  ((s.putB F.GOV_STAT_RISE_HOLD (decide (1 < w.length))).put F.LINE_BUDGET_BUDGET_UA (budget s / 10))

/-- The superseded budgets grow older by a tick. -/
def tickWindow (s : State) : State :=
  { s with gov.window := s.gov.window.dropLast.map (fun x => (x.1, x.2 + tickUnits s)) ++ s.gov.window.getLast?.toList }

/-- BUDGET_RISE_HOLD_EXPIRY: the oldest value leaves the last 1.0 ms (R533). -/
def riseExpiry (s : State) : State := match s.gov.window with
  | a :: b :: w =>
    if !mayReach s a.2 28 then s else
    let s := { s with gov.window := b :: w }
    ((s.putB F.GOV_STAT_RISE_HOLD (!w.isEmpty)).put F.LINE_BUDGET_BUDGET_UA (budget s / 10))
  | _ => s

/-! ### The target in force -/

/-- The flags of the NORMAL limits (R164): they act while NORMAL is in force. -/
def satFlags (src : Nat) (s : State) : State :=
  let x := normalRaw s.get
  let lo := src == 0 && curBelow x (s.get F.LDAC_SAT_SAT_LO_UA)
  let hi := src == 0 && curAbove x (s.get F.LDAC_SAT_SAT_HI_UA)
  let enter := (lo && !s.flag F.LDAC_STAT_SAT_LO) || (hi && !s.flag F.LDAC_STAT_SAT_HI)
  let s := (s.putB F.LDAC_STAT_SAT_LO lo).putB F.LDAC_STAT_SAT_HI hi
  if enter then (s.bump F.LDAC_CNT_SAT).raise E.LDAC_SAT_ENTER else s

/-- The loop takes the target of its highest-ranked source (R163); a change of it is a step after which the trim stays frozen for the
rest of the present tick and two ticks (R184), and the budget follows. While loop control has not engaged, no source acts (R735). -/
def retarget (s : State) : State :=
  if !s.flag F.LINE_STAT_LOOP_ENG then s else
  let src := loopSource s
  let s := if src = 0 ∧ s.get F.LDAC_OUT_SOURCE ≠ 0 then { s with ldac.norm := normalFinal s.get } else s
  let n := sourceTarget s src
  let step := decide (n ≠ s.get F.LDAC_OUT_TARGET_DUA)
  let s := if step then { s with ldac.freeze := 3 } else s
  let s := (s.put F.LDAC_OUT_SOURCE src).put F.LDAC_OUT_TARGET_DUA n
  let s := s.putB F.LDAC_STAT_RAMPING (src == 0 && s.ldac.norm != normalFinal s.get)
  updateBudget (satFlags src s)

/-- RAMP_STEP (R170): at a boundary at which NORMAL stays in force, its target moves to the final one, by at most RAMP_UA where that is not 0. Of a ramp's movements only
the first is a step that freezes two further ticks (R184); RAMPING freezes the others (DESIGN CHOICE, log entry 152). -/
def rampStep (s : State) : State :=
  if s.get F.LDAC_OUT_SOURCE ≠ 0 ∨ loopSource s ≠ 0 then s else
  let f := normalFinal s.get
  let r := 10 * s.get F.LDAC_CFG_RAMP_UA
  let n := s.ldac.norm
  let n' := if r = 0 then f else if n < f then min f (n + r) else max f (n - r)
  let frozen := s.ldac.freeze
  let s' := retarget { s with ldac.norm := n' }
  if r = 0 then s' else { s' with ldac.freeze := if s.flag F.LDAC_STAT_RAMPING then frozen else s'.ldac.freeze }

/-- The trim's freeze as the new tick begins: a step of this boundary freezes this tick and the next (R184). -/
def freezeTicks (s : State) : State := { s with ldac.freeze := min 2 s.ldac.freeze }

/-! ### LOOPCLR_N (R176–R179, R193) -/

/-- The auxiliary DAC registers of DAC `n`. -/
def adacOf (s : State) (n : Nat) : Adac := if n = 0 then s.adac0 else s.adac1

/-- One auxiliary DAC changed. -/
def setAdac (n : Nat) (a : Adac) (s : State) : State := if n = 0 then { s with adac0 := a } else { s with adac1 := a }

/-- ADAC_STAT's CLRn and PASSn. -/
def adacClrF (n : Nat) : Fld := if n = 0 then F.ADAC_STAT_CLR0 else F.ADAC_STAT_CLR1
def adacPassF (n : Nat) : Fld := if n = 0 then F.ADAC_STAT_PASS0 else F.ADAC_STAT_PASS1
def adacOvldF (n : Nat) : Fld := if n = 0 then F.ADAC_STAT_OVLD0 else F.ADAC_STAT_OVLD1

/-- A disturbance of DAC `n` begins (R195). -/
def adacDisturb (n : Nat) (s : State) : State := setAdac n { adacOf s n with dist := (adacOf s n).dist + 1 } s

/-- R193: DAC `n` is driven by the clamp exactly while the clamp is in force and AUX_CLR_FOLLOWn = 1. -/
def adacFollow (n : Nat) (s : State) : State :=
  let now := s.ldac.clamp && s.flag (F.ADAC_CFG_AUX_CLR_FOLLOW n)
  let s' := if now && !s.flag (adacClrF n) then adacDisturb n s else s
  s'.putB (adacClrF n) now

/-- LOOPCLR_N, or an injection, is holding the clamp already (R178). -/
def clampHeld (s : State) : Bool := s.ldac.pinLow || decide (0 < s.ldac.injClr)

/-- The clamp asserts: the loop and the following DACs go to their CLR codes (R177, R193). `fresh` says that it is a new assertion, also one before the release
boundary of the assertion before (R178), which is raised and counted (R179); a level that is low already is none (DEDUCED, log entry 12). In G3 the loop is unpowered and
only the DACs follow. -/
def assertClamp (fresh : Bool) (s : State) : State :=
  let s : State := { s with ldac.clamp := true }
  let s := if gen s = 3 then s else s.putB F.LDAC_STAT_CLR true
  let s := if fresh && gen s != 3 then (s.bump F.LDAC_CNT_CLR).raise E.LDAC_CLR_ASSERT else s
  retarget (adacFollow 1 (adacFollow 0 s))

/-- LOOPCLR_ASSERT: LOOPCLR_N has been low for `lowNs` ns: from 1 µs the clamp asserts, below 0.5 µs it does not, between the two it may (R176). -/
def loopclrLow (lowNs : Nat) (s : State) : State :=
  let take := if 1000 ≤ lowNs then true else if lowNs < 500 then false else Config.freeBool s.free
  let s := if 500 ≤ lowNs ∧ lowNs < 1000 then s.fresh else s
  if take then assertClamp (!clampHeld s) { s with ldac.pinLow := true, ldac.ripe := false } else s

/-- LOOPCLR_ASSERT while the reset is asserted: nothing but the pin's level is kept. -/
def loopclrLowHeld (lowNs : Nat) (s : State) : State := if 1000 ≤ lowNs then { s with ldac.pinLow := true, ldac.ripe := false } else s

/-- LOOPCLR_DEASSERT: LOOPCLR_N goes high and will have been high for `highNs` ns at the next boundary; the release falls at the first boundary after
1 µs (R178). -/
def loopclrHigh (highNs : Nat) (s : State) : State := { s with ldac.pinLow := false, ldac.ripe := decide (1000 ≤ highNs) }

/-- CLR_RELEASE at a boundary (R178, R179, R193). -/
def releaseClamp (s : State) : State :=
  if s.ldac.injClr > 0 then { s with ldac.injClr := s.ldac.injClr - 1 }
  else if s.ldac.pinLow then s
  else if !s.ldac.ripe then { s with ldac.ripe := true }
  else
    let s : State := { s with ldac.clamp := false }
    let s := if s.flag F.LDAC_STAT_CLR then (s.putB F.LDAC_STAT_CLR false).raise E.LDAC_CLR_RELEASE else s
    retarget (adacFollow 1 (adacFollow 0 s))

/-- R180: the fault clamp follows the fault state: it acts on entry, and is released at the first boundary after the fault state ends. -/
def faultClamp (s : State) : State := if gen s = 3 then s else retarget (s.putB F.LDAC_STAT_FAULT_CLAMP true)
def releaseFaultClamp (s : State) : State :=
  if s.flag F.LDAC_STAT_FAULT_CLAMP && !inFault s then retarget (s.putB F.LDAC_STAT_FAULT_CLAMP false) else s

/-! ### Generation and start-up ceiling (R126–R130) -/

/-- The start-up ceiling ends at `ms` after POR release (R130). -/
def endCeiling (ms : Nat) (s : State) : State :=
  if startCeil s then
    updateBudget (((s.putB F.SYS_BSTAT_CEIL false).putB F.LINE_STAT_START_CEIL false).put F.SYS_BOOT1_CEIL_MS (satTo 65535 ms))
  else s

/-- The generation in force is `g`: both registers that hold it follow (R126, R141). -/
def setGen (g : Nat) (s : State) : State := (s.put F.SYS_GEN_GEN g).put F.LINE_GEN_GEN g

/-- The generation is latched (R122, R126, R127), `how` as SYS_GEN reports it, at `ms` after POR release; R130 may end the ceiling. -/
def latchGen (g how ms : Nat) (s : State) : State :=
  let s := (setGen g s).put F.SYS_GEN_HOW how
  let s := ((s.put F.SYS_GEN_LATCH_MS (satTo 65535 ms)).put F.LINE_GEN_HOW how).put F.LINE_GEN_LATCH_MS (satTo 65535 ms)
  let s := (s.raise E.SYS_GEN_LATCHED).raise E.LINE_GEN_LATCHED
  if g = 3 then
    let s := ((s.putB F.LINE_STAT_LOOP_ENG false).putB F.LINE_STAT_LDRV_CUT true).putB F.TPHY_STAT_TRAINING true
    if s.get F.SYS_STRAP_GEN = 3 then s else endCeiling ms s
  else if s.flag F.LINE_STAT_LOOP_ENG then endCeiling ms s else s

/-- The reset value of FSK_EN follows the straps: 1 with straps 10 (R157). -/
def strapFsk (s : State) : State := if s.get F.SYS_STRAP_GEN = 2 then s.put F.LINE_CFG_FSK_EN 1 else s

/-- DETECTION_WINDOW_END: a 20 ms window held `qual` qualified transitions among `cross` threshold crossings and ends at `ms` after POR release
(R123–R127). -/
def windowEnd (qual cross ms : Nat) (s : State) : State :=
  let w := s.line.windows
  if s.line.sensed ∨ gen s ≠ 0 ∨ s.get F.SYS_STRAP_GEN ≠ 0 ∨ !mayReach s s.boot.relU (864 + 576 * w) then s else
  let hit := decide (32 ≤ qual)
  let run := if hit then s.line.hitRun + 1 else 0
  let s := { s with line.hitRun := run, line.windows := w + 1 }.bump F.LINE_SENSE_WINDOWS
  let s := if hit then s.put F.LINE_SENSE_HIT_MASK (setBitTo (s.get F.LINE_SENSE_HIT_MASK) w true) else s
  let s := if !hit && decide (8 ≤ cross) then s.bump F.LINE_SENSE_NOISE_WIN else s
  let s := s.put F.LINE_SENSE_PULSE_MAX (max (s.get F.LINE_SENSE_PULSE_MAX) (satTo 255 qual))
  let s := s.put F.LINE_SENSE_RUN_MAX (max (s.get F.LINE_SENSE_RUN_MAX) run)
  if run ≥ 3 then latchGen 3 1 ms { s with line.sensed := true }
  else if w + 1 ≥ 9 then
    latchGen (if s.flag F.LINE_CFG_FSK_EN then 2 else 1) 2 ms { s with line.sensed := true }
  else s

/-- LOOP_ENGAGE at `ms` after POR release (R121, R122, R181, R735): never with straps 11 or in G3. -/
def loopEngage (ms : Nat) (s : State) : State :=
  if s.flag F.LINE_STAT_LOOP_ENG ∨ s.get F.SYS_STRAP_GEN = 3 ∨ gen s = 3 then s else
  let s := (s.putB F.LINE_STAT_LOOP_ENG true).putB F.LDAC_STAT_STARTUP true
  let s := retarget (s.putB F.LINE_STAT_LDRV_CUT false)
  if gen s ≠ 0 then endCeiling ms s else s

/-- A change between G1 and G2 applies (R141). -/
def changeGen (g : Nat) (s : State) : State := ((setGen g s).putB F.LINE_STAT_GEN_PEND false).raise E.LINE_GEN_CHANGE

/-- The FSK modem transmits, or receives a frame addressed to the KV4811 (R142). -/
def fskBusy (s : State) : Bool := s.flag F.FSK_STAT_TX_ACTIVE || (s.flag F.FSK_STAT_RX_FRAME && s.fsk.rxMine)

/-- GEN_CHANGE_DEFERRED (R142): the deferred change applies once the frame has ended. -/
def genChangeDeferred (s : State) : State :=
  if s.flag F.LINE_STAT_GEN_PEND && !fskBusy s then changeGen 1 s else s

/-- What a LINE commit that has applied brings about, where `before` is the state before it: a change of FSK_EN changes the generation (R141, R142). -/
def afterLineCommit (before s : State) : State :=
  let e := s.flag F.LINE_CFG_FSK_EN
  if before.flag F.LINE_CFG_FSK_EN == e then s
  else if gen s = 1 && e then changeGen 2 s
  else if gen s = 2 && !e then (if fskBusy s then s.putB F.LINE_STAT_GEN_PEND true else changeGen 1 s)
  else s.putB F.LINE_STAT_GEN_PEND false

/-- The T1L receiver and transmitter are powered and drive TL_P and TL_N; otherwise the pins are at high impedance, as they are while a loop generation is
latched (R119). Before the latch they only listen (R123). -/
def tlDriven (s : State) : Bool := !s.boot.held && gen s == 3 && pstate s != 3

/-! ### Lift-off and overdraw (R137–R140) -/

/-- A consecutive count: one more while the condition holds, 0 when it does not. -/
def runOf (c : Bool) (n : Nat) : Nat := if c then satTo 1000 (n + 1) else 0

/-- The line's part of a boundary: what was measured over the tick that ends (shunt current in 0.1 µA, LDRV at its cut-off limit for the whole tick or for `part`
of it, at its full-on limit for the whole tick, VPRE in mV), the counts of R137 and R138, and OVERDRAW_SET (R139): OVERDRAW is set after a whole tick with its condition,
and clears after a whole tick without it. In G3 only the budget follows (R17). -/
def tickLine (shunt : Nat) (cut part full : Bool) (vpre : Nat) (s : State) : State :=
  if gen s = 3 then updateBudget s else
  let s := (s.put F.LINE_BUDGET_I_LOOP_UA (satTo 65535 (shunt / 10))).putB F.LINE_STAT_LDRV_CUT (cut || !s.flag F.LINE_STAT_LOOP_ENG)
  let eng := s.flag F.LINE_STAT_LOOP_ENG
  let drv := (eng && full && decide (shunt < s.line.cmdTick)) || decide (0 < s.line.injDrv)
  let low := decide (vpre < s.get F.LINE_CFG_LIFT_WARN_MV)
  let was := s.flag F.LINE_STAT_OVERDRAW
  let high := eng && decide (s.line.cmdTick + 400 < shunt)
  let past := (high && (cut || (was && part))) || decide (0 < s.line.injOver)
  let l := s.line
  let l := { l with
    drvOn := runOf drv l.drvOn
    drvInj := drv && (l.drvInj || decide (0 < l.injDrv))
    overInj := past && (l.overInj || decide (0 < l.injOver))
    drvOff := runOf (!drv) l.drvOff
    vpreOn := runOf low l.vpreOn
    vpreOff := runOf (!low) l.vpreOff
    injDrv := l.injDrv - 1
    injOver := l.injOver - 1
    overTicks := runOf past l.overTicks
    overRaised := past && l.overRaised }
  let s := { s with line := l }.putB F.LINE_STAT_OVERDRAW past
  let s := if past && !was then (s.bump F.LINE_CNT_OVERDRAW).raise E.LINE_OVERDRAW_SET else s
  updateBudget s

/-- The commanded current of the tick that begins is kept for the measurements of that tick. -/
def keepCommand (s : State) : State := { s with line.cmdTick := s.get F.LDAC_OUT_TARGET_DUA }

/-- LIFTOFF is the OR of its causes (R138): each entry raises LOOP_LIFTOFF once. -/
def setLift (drv vpre : Bool) (s : State) : State :=
  let was := s.flag F.LINE_STAT_LIFTOFF
  let now := drv || vpre
  let s := ((s.putB F.LINE_STAT_LIFT_DRV drv).putB F.LINE_STAT_LIFT_VPRE vpre).putB F.LINE_STAT_LIFTOFF now
  let s := updateBudget s
  if now && !was then faultEvent 0x20 0 (almCount 24 ((s.bump F.LINE_CNT_LIFTOFF).raise E.LINE_LIFTOFF_SET)) false (s.line.drvInj && !vpre)
  else if was && !now then s.raise E.LINE_LIFTOFF_CLR
  else s

/-- LIFTOFF_DETECT: a cause has held for LIFT_HOLD ticks (R137). -/
def liftoffDetect (s : State) : State :=
  if gen s = 3 then s else
  let h := s.get F.LINE_CFG_LIFT_HOLD
  setLift (s.flag F.LINE_STAT_LIFT_DRV || decide (h ≤ s.line.drvOn)) (s.flag F.LINE_STAT_LIFT_VPRE || decide (h ≤ s.line.vpreOn)) s

/-- LIFTOFF_CLEAR: a cause has been without its condition for 16 ticks (R138). -/
def liftoffClear (s : State) : State :=
  if gen s = 3 then s else
  setLift (s.flag F.LINE_STAT_LIFT_DRV && decide (s.line.drvOff < 16)) (s.flag F.LINE_STAT_LIFT_VPRE && decide (s.line.vpreOff < 16)) s

/-- LOOP_OVERDRAW: OVERDRAW has been 1 at two consecutive boundaries (R140); the fault is raised once per stretch (DEDUCED, log entry 13). -/
def loopOverdraw (s : State) : State :=
  if gen s ≠ 3 ∧ 2 ≤ s.line.overTicks ∧ !s.line.overRaised then faultEvent 0x21 0 { s with line.overRaised := true } false s.line.overInj else s

/-! ### Trim, readback, passages, TEST -/

/-- R184: the trim is frozen. -/
def trimFrozen (s : State) : Bool :=
  decide (5 ≤ s.get F.LDAC_OUT_SOURCE) || decide (0 < s.ldac.freeze) || s.flag F.LDAC_STAT_RAMPING || s.flag F.LINE_STAT_LIFTOFF
    || s.flag F.LINE_STAT_OVERDRAW || pstate s == 3

/-- TRIM_UPDATE and the readback check of a boundary, from the shunt current of the tick that ends (R183–R186). A frozen correction still counts towards TRIM_LIMIT
(R185). TRIM_DUA shows the correction, kept in 1/80 µA, rounded to the nearest 0.1 µA, a half away from zero (DESIGN CHOICE, log entry 151). -/
def tickTrim (shunt cmd : Nat) (s : State) : State :=
  if !s.flag F.LINE_STAT_LOOP_ENG then s else
  let s := { s with ldac.freeze := s.ldac.freeze - 1 }
  let inj := decide (0 < s.ldac.injRb)
  let meas : Int := (shunt : Int) + (if inj then 1000 else 0)
  let err := meas - cmd
  let s := { s.putI F.LDAC_RB_ERR_DUA err with ldac.injRb := s.ldac.injRb - 1 }
  let lim : Int := 80 * s.get F.LDAC_TRIM_TRIM_LIM_UA
  let frozen := trimFrozen s
  let move := s.flag F.LDAC_TRIM_TRIM_EN && !frozen
  let t := if move then clampInt (-lim) lim (s.ldac.trim + clampInt (-160) 160 (-err)) else s.ldac.trim
  let atLim := decide (lim ≤ t) || decide (t ≤ -lim)
  let s := { s with ldac.trim := t, ldac.limTicks := runOf atLim s.ldac.limTicks }
  let s := if atLim then s else s.putB F.LDAC_STAT_TRIM_LIMIT false
  if frozen then s else
  let fail := decide (10 * (s.get F.LDAC_TRIM_READBACK_TOL_UA : Int) < err) || decide (err < -(10 * (s.get F.LDAC_TRIM_READBACK_TOL_UA : Int)))
  let s := { s with
    ldac.failTicks := runOf fail s.ldac.failTicks
    ldac.rbInj := fail && (s.ldac.rbInj || inj)
    ldac.passTicks := runOf (!fail) s.ldac.passTicks }
  s.putI F.LDAC_RB_TRIM_DUA (divRound t 8)

/-- TRIM_LIMIT (R185). -/
def trimLimit (s : State) : State :=
  if 8 ≤ s.ldac.limTicks ∧ !s.flag F.LDAC_STAT_TRIM_LIMIT then (s.putB F.LDAC_STAT_TRIM_LIMIT true).raise E.LDAC_TRIM_LIMIT else s

/-- READBACK_SET (R186). -/
def readbackSet (s : State) : State :=
  if 8 ≤ s.ldac.failTicks ∧ !s.flag F.LDAC_STAT_READBACK then
    faultEvent 0x22 0 (((s.putB F.LDAC_STAT_READBACK true).bump F.LDAC_CNT_READBACK).raise E.LDAC_READBACK_SET) false s.ldac.rbInj
  else s

/-- READBACK_CLEAR (R186). -/
def readbackClear (s : State) : State :=
  if 16 ≤ s.ldac.passTicks then s.putB F.LDAC_STAT_READBACK false else s

/-- The passage's tick at a boundary (R173). -/
def tickPassage (s : State) : State := { s with ldac.passLeft := s.ldac.passLeft - 1 }

/-- SPAN_DONE: the last tick at SAFE_UA has ended, and the new span drives the loop from that boundary on (R173, R174, R184). -/
def spanDone (s : State) : State :=
  if s.flag F.LDAC_STAT_SPAN_PASS ∧ s.ldac.passLeft = 0 then
    freezeTicks (keepCommand (retarget ((s.putB F.LDAC_STAT_SPAN_PASS false).raise E.LDAC_SPAN_DONE)))
  else s

/-- TEST_END: TEST has been in force for TEST_TMO_S, and MODE returns to 0 in both copies; the MODE of a commit that has applied at the boundary stands
(R168). -/
def testEnd (s : State) : State :=
  if !s.ldac.testOver then s else
  let s := { s with ldac.testU := 0, ldac.testOver := false }.raise E.LDAC_TEST_END
  if s.get F.LDAC_CFG_MODE = 2 then freezeTicks (keepCommand (retarget ((s.put F.LDAC_CFG_MODE 0).putB F.LDAC_STAT_TEST_ACTIVE false))) else s

/-- The time for which TEST has been in force grows by the tick that ends, and may reach TEST_TMO_S (R168). -/
def tickTest (s : State) : State :=
  let tmo := s.get F.LDAC_TEST_TEST_TMO_S
  let u := if s.get F.LDAC_CFG_MODE = 2 then s.ldac.testU + tickUnits s else 0
  { s with ldac.testU := u, ldac.testOver := tmo != 0 && s.get F.LDAC_CFG_MODE == 2 && decide (tmo * 28800 ≤ u) }

/-- What an LDAC commit that has applied brings about, where `before` is the state before it: a passage (R173), the end of STARTUP (R181; the load's commit
does not end it, DEDUCED, log entry 15), HOLD's target (R166), and the new target. -/
def afterLdacCommit (load : Bool) (before s : State) : State :=
  let s := if before.get F.LDAC_CFG_SPAN ≠ s.get F.LDAC_CFG_SPAN then
      { s.putB F.LDAC_STAT_SPAN_PASS true with ldac.passLeft := s.get F.LDAC_CFG_SAFE_TICKS }
    else s
  let ends := gen s != 0 && s.flag F.LINE_STAT_LOOP_ENG && !load
  let held := before.get F.LDAC_CFG_MODE == 3 && !(ends && s.flag F.LDAC_STAT_STARTUP)
  let s := if ends then s.putB F.LDAC_STAT_STARTUP false else s
  let s := if s.get F.LDAC_CFG_MODE = 3 ∧ !held then { s with ldac.holdN := before.get F.LDAC_OUT_TARGET_DUA } else s
  let s := s.putB F.LDAC_STAT_TEST_ACTIVE (s.get F.LDAC_CFG_MODE == 2)
  let s := if s.get F.LDAC_CFG_MODE ≠ before.get F.LDAC_CFG_MODE then { s with ldac.testU := 0 } else s
  if loopSource s = 0 ∧ s.get F.LDAC_OUT_SOURCE = 0 then updateBudget s else retarget s

/-! ### Auxiliary DACs (R187–R195) -/

/-- What an ADAC commit that has applied brings about on DAC `n`: a change of gain starts a passage (R191). -/
def afterAdacCommit1 (n : Nat) (before s : State) : State :=
  if before.get (F.ADAC_CFG_GAIN n) ≠ s.get (F.ADAC_CFG_GAIN n) then
    let s := adacDisturb n ((s.putB (adacPassF n) true).bump F.ADAC_CNT_PASSAGES)
    setAdac n { adacOf s n with pass := 2, gainOld := before.get (F.ADAC_CFG_GAIN n) } s
  else s

/-- Both auxiliary DACs after a commit, which may also let them follow a clamp in force, or cease to (R193). -/
def afterAdacCommit (before s : State) : State := adacFollow 1 (adacFollow 0 (afterAdacCommit1 1 before (afterAdacCommit1 0 before s)))

/-- A boundary's part of the passages and of the overload flags, from the outputs' being in current limit (R189, R191). -/
def tickAdac (ov0 ov1 : Bool) (s : State) : State :=
  let s := { s with adac0.pass := s.adac0.pass - 1, adac1.pass := s.adac1.pass - 1 }
  let on (n : Nat) (f : Fld) (ov : Bool) : Bool := s.flag f && ov && s.flag (F.ADAC_CFG_ON n)
  (s.putB F.ADAC_STAT_OVLD0 (on 0 F.ADAC_STAT_OVLD0 ov0)).putB F.ADAC_STAT_OVLD1 (on 1 F.ADAC_STAT_OVLD1 ov1)

/-- PASS_DONE of DAC `n` (R191). -/
def passDone (n : Nat) (s : State) : State :=
  if s.flag (adacPassF n) ∧ (adacOf s n).pass = 0 then
    (s.putB (adacPassF n) false).raise (if n = 0 then E.ADAC_PASS_DONE0 else E.ADAC_PASS_DONE1)
  else s

/-- ADAC_OVERLOAD: output `n` enters its current limit (R189). -/
def adacOverload (n : Nat) (s : State) : State :=
  if s.flag (adacOvldF n) then s else ((s.putB (adacOvldF n) true).bump F.ADAC_CNT_OVLD).raise E.ADAC_OVLD_SET

/-- The code and gain (1 or 2) that drive AOUTn; none while it is undriven (R187, R188, R191, R193). -/
def aout (s : State) (n : Nat) : Option (Nat × Nat) :=
  if s.boot.held ∨ pstate s = 3 ∨ !s.flag (F.ADAC_CFG_ON n) then none else
  let a := adacOf s n
  let g := if s.flag (adacPassF n) ∧ a.pass = 2 then a.gainOld else s.get (F.ADAC_CFG_GAIN n)
  let c := if s.flag (adacClrF n) then (if n = 0 then s.get F.ADAC_CLR_CLR_CODE0 else s.get F.ADAC_CLR_CLR_CODE1)
    else if s.flag (adacPassF n) then s.get (F.ADAC_CFG_SAFE_CODE n) else s.get (F.ADAC_CODE_CODE n)
  some (c, g + 1)

end Sys2Proof.Machine
end

