-- ==== Sys2Proof/Machine/Governor.lean ====
section
/-! DEFINITION. Performance levels, voltage scaling and the budget governor (chapter 14), and the reservoir (chapter 04). Currents are in µA. -/

namespace Sys2Proof.Machine

/-! ### Levels (R522) -/

/-- Core clock of a level, MHz. -/
def levelMhz (k : Nat) : Nat := match k with
  | 0 => 12
  | 1 => 32
  | 2 => 64
  | 3 => 125
  | 4 => 200
  | _ => 250

/-- Nominal VCORE of a level, mV. -/
def levelMv (k : Nat) : Nat := match k with
  | 0 => 500
  | 1 => 550
  | 2 => 620
  | 3 => 700
  | 4 => 800
  | _ => 900

/-- Live cells at most at a level. -/
def levelCells (k : Nat) : Nat := match k with
  | 0 => 0
  | 1 => 2
  | _ => 16

/-- The level in force. -/
def level (s : State) : Nat := s.get F.CLK_STAT_LEVEL

/-- BASE_k and CELL_k (R535), and BANK_UA. -/
def baseCost (s : State) (k : Nat) : Int := (s.otp.govBase[k]?.getD 0 : Nat)
def cellCost (s : State) (k : Nat) : Int := (s.otp.govCell[k]?.getD 0 : Nat)
def bankCost (s : State) : Int := s.otp.bankUa

/-- The trim of level `k`, a signed byte of CLK_TRIM0 or CLK_TRIM1, mV (R529, R530). -/
def trimFld (k : Nat) : Fld := if k < 4 then ⟨0x04, 0x048, 8 * k + 7, 8 * k, false⟩ else ⟨0x04, 0x04C, 8 * (k - 4) + 7, 8 * (k - 4), false⟩

/-- A level is blocked: by R531, or P5 without body bias (R524). -/
def blocked (s : State) (k : Nat) : Bool := bitOf (s.get F.CLK_STAT_BLOCKED) k || (k == 5 && !s.flag F.CLK_CFG_ABB_EN)

/-- The effective GUAR_CELLS (R546). -/
def guarCells (s : State) : Nat := if gen s = 3 then s.get F.GOV_CFG_GUAR_CELLS else 0

/-- VCORE goes to the nominal of level `k` plus its trim, with the level's body bias (R522, R524, R525). -/
def setVcore (k : Nat) (s : State) : State :=
  (s.put F.CLK_STAT_VCORE ((levelMv k : Int) + s.getI (trimFld k)).toNat).putB F.CLK_STAT_FBB (k == 5 && s.flag F.CLK_CFG_ABB_EN)

/-- GOV_STAT shows the live cells. -/
def showLive (s : State) : State := s.put F.GOV_STAT_LIVE s.gov.live.length

/-- The clock switches to level `k`: the prediction follows the costs (R536), the SRAM assist is on at P0 only (R522), and what is counted at a level (R529, R531, R537) starts
anew (DEDUCED, log entry 176). -/
def setLevel (k : Nat) (s : State) : State :=
  let l := level s
  let n : Int := s.gov.live.length
  let pred := s.gov.pred + (baseCost s k - baseCost s l) + n * (cellCost s k - cellCost s l)
  let s := { s with gov.pred := pred, gov.raiseTo := none, gov.upRun := 0, gov.highRun := 0, gov.lowRun := 0 }
  (((s.put F.CLK_STAT_LEVEL k).put F.GOV_STAT_LEVEL k).put F.GOV_STAT_NEXT k).putB F.CLK_STAT_ASSIST (k == 0)

/-- D_pred(k) of R536. -/
def predAt (s : State) (k : Nat) : Int :=
  s.gov.pred + (baseCost s k - baseCost s (level s)) + (s.gov.live.length : Int) * (cellCost s k - cellCost s (level s))

/-! ### The cap (R534) -/

/-- The cap for steps 1–5, the cap for the emergency drop, in 0.1 µA. -/
def caps (s : State) : Int × Int :=
  let b : Int := budget s
  if s.flag F.FSK_STAT_TX_ACTIVE then (b - 5000, b - 5000)
  else if s.flag F.FSK_STAT_TX_GATED then (b - 5000, b)
  else (b, b)

/-- The cap in force, 0.1 µA. -/
def cap (s : State) : Int := (caps s).1

/-! ### Bursts (R153, R154, R539, R551) -/

/-- A burst may be granted now: BURST_EN, in RUN, a reservoir above RES_VSTOP, no ceiling, no fault state, no RES_FAULT. -/
def burstAllowed (s : State) : Bool :=
  s.flag F.GOV_CFG_BURST_EN && pstate s == 0 && !startCeil s && !inFault s && !s.gov.resOff
    && s.get F.GOV_RES_RES_CRES_UF != 0 && decide (s.get F.GOV_RESV_RES_VSTOP < s.get F.GOV_RESQ_VRES)

/-- An action whose predicted demand is `p` fits within the cap, or within a burst's 16 mA above it (R154, R537). -/
def fitsCap (s : State) (p : Int) : Bool := decide (10 * p ≤ cap s)
def fitsBurst (s : State) (p : Int) : Bool := burstAllowed s && decide (10 * p ≤ cap s + 160000)

/-- A burst begins. -/
def beginBurst (s : State) : State :=
  if s.flag F.GOV_STAT_BURST then s else (s.putB F.GOV_STAT_BURST true).bump F.GOV_CNT2_BURSTS

/-- BURST_END at the end of its slot or on entry to the fault state (R153). -/
def endBurst (s : State) : State := s.putB F.GOV_STAT_BURST false

/-- BURST_END because VRES has reached RES_VSTOP: the exhaustion is counted (R155, R676). -/
def exhaustBurst (s : State) : State := almCount 22 (((endBurst s).bump F.GOV_CNT2_EXHAUST).raise E.GOV_RES_EXHAUST)

/-- An O or B slot runs. -/
def obRuns (s : State) : Bool := match s.plan.run with
  | some r => r.slot.kind != 1
  | none => false

/-- R537: an action with predicted demand `p` is admitted, with a burst where one is needed, or not. Only an O or B slot is granted a burst (R153); `ob` says that it is
one's. -/
def admits (ob : Bool) (p : Int) (s : State) : State × Bool :=
  if fitsCap s p || (s.flag F.GOV_STAT_BURST && fitsBurst s p) then (s, true)
  else if ob && fitsBurst s p then (beginBurst s, true)
  else (s, false)

/-! ### Slots stopped by the governor (R109, R110) -/

/-- The running O slot is aborted at a governor sample, or the running B slot preempted; neither is a fault. -/
def stopByGovernor (s : State) : State :=
  match s.plan.run with
  | some r =>
    if r.slot.kind = 2 then ({ endBurst s with plan.run := none }.bump F.PLAN_CNT_O_GOV).raise E.PLAN_O_ABORT
    else if r.slot.kind = 3 then { endBurst s with plan.run := none }.bump F.PLAN_CNT_B_COUNT
    else s
  | none => s

/-! ### Cells and banks -/

/-- A cell is retired; the bench cell. -/
def retired (s : State) (c : Nat) : Bool := bitOf (s.get F.ARR_RETIRED_BITS) c
def isBench (s : State) (c : Nat) : Bool := s.get F.ARR_STAT_BENCH == c

/-- The role of a cell (R451). -/
def roleOf (s : State) (c : Nat) : Nat :=
  if (s.bist.req.map (·.1)) = some c then 4
  else if retired s c then 3
  else if isBench s c then 1
  else if s.gov.live.contains c then 0 else 2

/-- CELL_STAT.ROLE follows the role, once the array has its bench (R625). -/
def showRole (s : State) (c : Nat) : State :=
  if !s.bist.benchUp then s
  else if s.get (F.CELL_STAT_ROLE c) = roleOf s c then s
  else (s.put (F.CELL_STAT_ROLE c) (roleOf s c)).raise (E.CELL_ROLE_CHANGE c)

/-- Cell `c` begins partition `p` from its first tile; its progress is lost with it (R461, R463, R475). -/
def giveWork (c p : Nat) (s : State) : State :=
  let layer := match s.arr.run with
    | some r => r.layer
    | none => 0
  let g : Prog := { since := s.arr.now, mhz := levelMhz (level s) }
  let s := { s with arr.work := aset s.arr.work c p, arr.prog := aset s.arr.prog c g }
  ((s.put (F.CELL_STAT_BUSY c) 1).put (F.CELL_WORK_LAYER c) layer).put (F.CELL_WORK_PART c) p
def takeWork (c : Nat) (s : State) : State :=
  { s with arr.work := adel s.arr.work c, arr.prog := adel s.arr.prog c }.put (F.CELL_STAT_BUSY c) 0

/-- The partition of cell `c`, if any, goes back to the head of the dispatch order and is counted (R463). -/
def requeue (c : Nat) (s : State) : State := match aget s.arr.work c with
  | some p =>
    let s := takeWork c s
    { s with arr.queue := p :: s.arr.queue }.bump F.ARR_CNT2_REQUEUE
  | none => s

/-- A live cell is parked: an unfinished partition goes back to the head of the dispatch order (R463, R538). -/
def parkCell (c : Nat) (s : State) : State :=
  if !s.gov.live.contains c then s else
  let s := { s with gov.live := s.gov.live.filter (· ≠ c), gov.pred := s.gov.pred - cellCost s (level s) }
  showRole (showLive (requeue c s)) c

/-- A serving cell is unparked (R545, R546). -/
def unparkCell (c : Nat) (s : State) : State :=
  if s.gov.live.contains c then s else
  showRole (c := c) <| showLive { s with gov.live := (s.gov.live.filter (· < c)) ++ [c] ++ (s.gov.live.filter (c < ·)), gov.pred := s.gov.pred + cellCost s (level s) }

/-- The order of parking (R538 step 4): cells without an unfinished partition first; in each set the hot ones first, then the others, highest
number first. -/
def parkOrder (s : State) : List Nat :=
  let desc := s.gov.live.reverse
  let busy (c : Nat) : Bool := (aget s.arr.work c).isSome
  let hot (c : Nat) : Bool := s.flag (F.CELL_STAT_HOT c)
  desc.filter (fun c => !busy c && hot c) ++ desc.filter (fun c => !busy c && !hot c) ++
    desc.filter (fun c => busy c && hot c) ++ desc.filter (fun c => busy c && !hot c)

/-- Cells of a list are parked one after another while the prediction exceeds the cap and more than `keep` are live. -/
def parkWhile (keep : Nat) : List Nat → State → State
  | [], s => s
  | c :: t, s =>
    if 10 * s.gov.pred ≤ cap s ∨ s.gov.live.length ≤ keep then s
    else parkWhile keep t ((parkCell c s).bump F.GOV_CNT3_PARKED)

/-- An extent of `len` bytes from `a` touches SRAM bank `n`. -/
def touchesBank (a len n : Nat) : Bool :=
  decide (0 < len) && decide (a < 0x20000000 + (n + 1) * 0x40000) && decide (0x20000000 + n * 0x40000 < a + len)

/-- GOV_BANKS.GATED bit `n`. -/
def gated (s : State) (n : Nat) : Bool := bitOf (s.get F.GOV_BANKS_GATED) n

/-- Bank `n` is gated: it loses its contents (R547, R548). -/
def gateBank (n : Nat) (s : State) : State :=
  let s := clearBank n { s with gov.pred := s.gov.pred - bankCost s }
  s.put F.GOV_BANKS_GATED (setBitTo (s.get F.GOV_BANKS_GATED) n true)

/-- Allowed banks of a list are gated one after another while the prediction exceeds the cap (R538 step 5). -/
def gateWhile : List Nat → State → State
  | [], s => s
  | n :: t, s =>
    if 10 * s.gov.pred ≤ cap s then s
    else if bitOf (s.get F.GOV_GATE_GATE_OK) n && !bitOf (s.get F.GOV_BANKS_PINNED) n && !gated s n then gateWhile t (gateBank n s)
    else gateWhile t s

/-- The numbers 15 down to 0. -/
def banksDown : List Nat := (List.range 16).reverse

/-- An action of steps 2–6 raises SHED where it changed anything. -/
def shedIf (b : Bool) (s : State) : State := if b then s.raise E.GOV_SHED else s

/-! ### Emergency drop (R540, R541) -/

/-- Every live cell is parked. -/
def parkAll (s : State) : State := s.gov.live.reverse.foldl (fun s c => parkCell c s) s

/-- The highest level at most `k` that is not blocked and whose prediction is within `c` (0.1 µA); P0 where there is none. -/
def dropLevel (s : State) (c : Int) : Nat → Nat
  | 0 => 0
  | k + 1 => if !blocked s (k + 1) && decide (10 * predAt s (k + 1) ≤ c) then k + 1 else dropLevel s c k

/-- The first `n` cells of a list are parked; cells beyond the limit of level `k` are (R452, R526). -/
def parkExcess : Nat → List Nat → State → State
  | 0, _, s => s
  | _, [], s => s
  | n + 1, c :: t, s => parkExcess n t (parkCell c s)
def parkBeyond (k : Nat) (s : State) : State := parkExcess (s.gov.live.length - levelCells k) (parkOrder s) s

/-- A level change by lowering: the clock goes first, VCORE follows, and the sequence ends with LEVEL_DONE (R526–R528). -/
def lowerTo (k : Nat) (s : State) : State :=
  parkBeyond k (setVcore k ((setLevel k s).putB F.CLK_STAT_CHANGING true))

/-- The emergency drop to level `k` (R540). A BIST slice is preempted, and its cell gated (R620, R640). -/
def emergencyTo (k : Nat) (s : State) : State :=
  let l := level s
  let s := if s.bist.task = some 0 then stopByGovernor s else s
  let s := lowerTo k s
  let s := almCount 21 ((s.bump F.GOV_CNT_EMERG).raise E.GOV_EMERG_DROP)
  let s := ((s.put F.GOV_EMINFO_BEFORE l).put F.GOV_EMINFO_AFTER k).put F.GOV_EMINFO_TICK s.tick.num
  let s := s.putB F.GOV_STAT_EMERG true
  { s with plan.run := s.plan.run.map fun r => { r with gov := true } }

/-- The emergency drop against the cap `c` (0.1 µA). -/
def emergencyDrop (c : Int) (s : State) : State :=
  let s := parkAll s
  emergencyTo (dropLevel s c (level s)) s

/-! ### The 20 µs sample (R532, R538, R550) -/

/-- The charger may run (R131, R148, R149, R151, R156). -/
def chargerAllowed (s : State) : Bool :=
  !startCeil s && pstate s != 3 && s.get F.GOV_RES_RES_CRES_UF != 0 && !s.gov.resOff
    && decide (s.get F.GOV_RESQ_VRES < s.get F.GOV_RESV_RES_VMAX)

/-- The charger's input current is set (R550). -/
def setCharger (s : State) : State :=
  let room : Int := cap s / 10 - s.gov.pred
  let chg := if chargerAllowed s then clampInt 0 (1000 * s.get F.GOV_RES_RES_CHG_MAX : Nat) room else 0
  (s.put F.GOV_FLOW_CHG chg.toNat).putB F.GOV_STAT_CHG (decide (0 < chg))

/-- Steps 2–6 of R538 after the charger is off and the prediction still exceeds the cap. -/
def shed (s : State) : State :=
  let canBurst := obRuns s && fitsBurst s s.gov.pred
  if canBurst then (if s.flag F.GOV_STAT_BURST then s else shedIf true (beginBurst s))
  else
    let s := shedIf (obRuns s) (stopByGovernor s)
    let live := s.gov.live.length
    let s := parkWhile (guarCells s) (parkOrder s) s
    let s := shedIf (s.gov.live.length != live) s
    let g := s.get F.GOV_BANKS_GATED
    let s := gateWhile banksDown s
    let s := shedIf (s.get F.GOV_BANKS_GATED != g) s
    let c := (caps s).2
    if 10 * s.gov.pred ≤ c then s
    else if level s = 0 ∧ s.gov.live = [] then s  -- R542
    else shedIf true (emergencyDrop c s)

/-- What CRES supplies of a demand in µA: in a burst the excess over the cap, up to 16 mA (R154); outside one nothing. -/
def cresShare (s : State) (demand : Nat) : Nat :=
  if s.flag F.GOV_STAT_BURST then (clampInt 0 16000 (demand - cap s / 10)).toNat else 0

/-- The charger's windows of R156 at a sample, `chg` µA being its input current in the interval that ends: a window that has lasted 10 s is judged, and the next begins; a
dip below 1 mA begins a new one (DEDUCED, log entry 153). -/
def chargeWindow (chg vres : Nat) (s : State) : State :=
  if chg < 1000 then { s with gov.chgRun := 0, gov.chgFrom := vres }
  else if s.gov.chgRun + 1 < 500000 then { s with gov.chgRun := s.gov.chgRun + 1 }
  else { s with gov.chgRun := 0, gov.chgFrom := vres, gov.resDue := s.gov.resDue || decide (vres < s.gov.chgFrom + 50) || decide (vres < 500) }

/-- GOVERNOR_SAMPLE: the interval's demand (CRES current included), which is `load` and the charger's input current, VRES and VPRE as measured. The charger takes at most
what it is set to (R550, DEDUCED, log entry 153). The line's share of the demand is what CRES does not supply (R24, R154). RES_Q_UC is rounded down to whole µC (DESIGN CHOICE, log entry 154). -/
def governorSample (load chg vres vpre : Nat) (s : State) : State :=
  if pstate s = 3 then { s with gov.chgRun := 0 } else
  let chg := min chg (s.get F.GOV_FLOW_CHG)
  let demand := load + chg
  let cres := cresShare s demand
  let inj := s.armedAt 3 2
  let demand := if inj then (cap s / 10).toNat + 1000 + cres else demand
  let s := if inj then s.disarm 3 2 else s
  let s := chargeWindow chg vres s
  let s := { s with gov.pred := (demand : Int) - chg, gov.vpre := vpre }
  let line := demand - cres
  let s := ((s.put F.GOV_DRAW_DRAW line).put F.GOV_FLOW_CRES cres).put F.GOV_RESQ_VRES vres
  let s := s.put F.GOV_RESQ_RES_Q_UC (satTo 65535 (s.get F.GOV_RES_RES_CRES_UF * (vres - s.get F.GOV_RESV_RES_VSTOP) / 1000))
  let s := (s.put F.LINE_MON_I_DRAW_UA (satTo 65535 line)).put F.LINE_MON_VPRE_MV vpre
  let full := s.get F.GOV_RES_RES_CRES_UF != 0 && decide (s.get F.GOV_RESV_RES_VMAX ≤ vres)
  let s := if full && !s.gov.full then s.raise E.GOV_RES_FULL else s
  let s : State := { s with gov.full := full }
  let s := if s.flag F.GOV_STAT_BURST ∧ vres ≤ s.get F.GOV_RESV_RES_VSTOP then stopByGovernor (exhaustBurst s) else s
  let s := setCharger s
  let s := if 10 * s.gov.pred ≤ cap s then s else shed s
  if s.armedAt 3 1 then emergencyTo 0 (parkAll (s.disarm 3 1)) else s

/-- RES_FAULT (R156), once a window of charging has met a condition of it: the charger and bursts stay off until reset. -/
def resFault (s : State) : State :=
  if s.get F.GOV_RES_RES_CRES_UF = 0 ∨ s.gov.resOff ∨ !s.gov.resDue then s else
  let s := { endBurst s with gov.resOff := true, alm.resFault := true }
  faultEvent 0x12 0 ((s.put F.GOV_FLOW_CHG 0).putB F.GOV_STAT_CHG false)

/-! ### Voltage scaling (R529–R531) -/

/-- AVS_REPORT: the timing monitors' report of the tick that ends: 0 LOW, 1 OK, 2 HIGH, none while the CORE clock does not run or a level change is in
progress (R525, DEDUCED, log entry 14). -/
def avsReport (m : Option Nat) (s : State) : State :=
  let inj := decide (0 < s.gov.injLow) && pstate s == 0
  let m := if inj then some 0 else m
  let s := { s with gov.injLow := if pstate s = 0 then s.gov.injLow - 1 else s.gov.injLow }
  match m with
  | none => s
  | some r =>
    let s := s.put F.CLK_TMON_MARGIN r
    if !s.flag F.CLK_CFG_AVS_EN || s.flag F.CLK_STAT_CHANGING then s else
    let k := level s
    let t := s.getI (trimFld k)
    match r with
    | 0 =>
      if t < 30 then
        setVcore k ({ s with gov.highRun := 0, gov.lowRun := 0 }.putI (trimFld k) (min 30 (t + 10)) |>.bump F.CLK_CNT_AVS_UP)
      else { s with gov.highRun := 0, gov.lowRun := s.gov.lowRun + 1, gov.lowInj := inj || (s.gov.lowInj && s.gov.lowRun != 0) }
    | 2 =>
      if s.gov.highRun + 1 ≥ 16 then
        setVcore k ({ s with gov.highRun := 0, gov.lowRun := 0 }.putI (trimFld k) (max (-40) (t - 5)))
      else { s with gov.highRun := s.gov.highRun + 1, gov.lowRun := 0 }
    | _ => { s with gov.highRun := 0, gov.lowRun := 0 }

/-- AVS_LIMIT (R531): the level is blocked; the lowering follows at the next boundary. -/
def avsLimit (s : State) : State :=
  let k := level s
  if 8 ≤ s.gov.lowRun ∧ s.getI (trimFld k) = 30 ∧ !bitOf (s.get F.CLK_STAT_BLOCKED) k then
    let s := (s.put F.CLK_STAT_BLOCKED (setBitTo (s.get F.CLK_STAT_BLOCKED) k true)).putB F.CLK_STAT_AVS_LIMIT true
    faultEvent 0x11 0 ({ s with gov.lowRun := 0 }.bump F.CLK_CNT_AVS_LIMIT |>.raise E.CLK_AVS_LIMIT) false s.gov.lowInj
  else s

/-- LEVEL_DONE (R528): the last step of a level change's sequence. -/
def levelDone (s : State) : State :=
  if s.flag F.CLK_STAT_CHANGING ∧ s.gov.raiseTo = none then (s.putB F.CLK_STAT_CHANGING false).raise E.CLK_LEVEL_DONE else s

/-! ### The boundary policy (R541, R543, R544, R546, R548) -/

/-- A raise is decided: VCORE rises first, the clock switches at the next boundary (R525). -/
def decideRaise (k : Nat) (s : State) : State :=
  let s := setVcore k (s.putB F.CLK_STAT_CHANGING true)
  ({ s with gov.raiseTo := some k, gov.upRun := 0 }.put F.GOV_STAT_NEXT k).bump F.GOV_CNT_LEVEL |>.raise E.GOV_LEVEL_CHANGE

/-- The highest level from `k` down to `lo` that is allowed and whose prediction is within the cap. -/
def fitLevel (s : State) (lo : Nat) : Nat → Option Nat
  | 0 => if lo = 0 ∧ fitsCap s (predAt s 0) then some 0 else none
  | k + 1 =>
    if k + 1 < lo then none
    else if !blocked s (k + 1) && fitsCap s (predAt s (k + 1)) then some (k + 1)
    else fitLevel s lo k

/-- The highest level at most `k` and at least `lo` that is not blocked; `lo` where every one is. -/
def unblockedFrom (s : State) (lo : Nat) : Nat → Nat
  | 0 => 0
  | k + 1 => if k + 1 ≤ lo then lo else if !blocked s (k + 1) then k + 1 else unblockedFrom s lo k

/-- The raise condition of R537 at a boundary. -/
def raiseFits (s : State) : Bool :=
  decide (10 * (predAt s (level s + 1) + s.get F.GOV_MARGIN_HEADROOM_UA) ≤ cap s) && !s.flag F.GOV_STAT_BURST

/-- R544 case by case, for the tick that begins. A lowering never goes below P_FLOOR, but to the highest unblocked level where P_FLOOR itself is blocked
(R531). -/
def levelPolicy (s : State) : State :=
  let l := level s
  let floor := s.get F.GOV_CFG_P_FLOOR
  let ceil := s.get F.GOV_CFG_P_CEIL
  if startCeil s then (if l = 0 then s else (lowerTo 0 s).bump F.GOV_CNT_LEVEL |>.raise E.GOV_LEVEL_CHANGE)
  else if s.flag F.CLK_STAT_CHANGING then s
  else if blocked s l ∧ l ≤ floor ∧ 0 < l then
    (lowerTo (unblockedFrom s 0 (l - 1)) s).bump F.GOV_CNT_LEVEL |>.raise E.GOV_LEVEL_CHANGE
  else if l < floor then
    match fitLevel s (l + 1) floor with
    | some k => decideRaise k s
    | none => { s with gov.upRun := 0 }
  else if !fitsCap s (predAt s l) ∨ ceil < l ∨ blocked s l then
    let top := min ceil l
    let k := (fitLevel s floor top).getD floor
    if k < l then (lowerTo k { s with gov.upRun := 0 }).bump F.GOV_CNT_LEVEL |>.raise E.GOV_LEVEL_CHANGE else { s with gov.upRun := 0 }
  else if l < 5 ∧ l + 1 ≤ ceil ∧ !blocked s (l + 1) then
    if raiseFits s then
      let s := { s with gov.upRun := s.gov.upRun + 1 }
      if s.get F.GOV_CFG_UP_HOLD ≤ s.gov.upRun then decideRaise (l + 1) s else s
    else { s with gov.upRun := 0 }
  else { s with gov.upRun := 0 }

/-- A raise decided at the boundary before takes effect (R525). -/
def applyRaise (s : State) : State :=
  match s.gov.raiseTo with
  | some k => setLevel k s
  | none => s

/-- R548: gated banks are re-powered at a boundary, lowest first, while each still fits with HEADROOM_UA to spare; each is then zero-filled. -/
def repowerBanks : List Nat → State → State
  | [], s => s
  | n :: t, s =>
    if gated s n && decide (10 * (s.gov.pred + bankCost s + s.get F.GOV_MARGIN_HEADROOM_UA) ≤ cap s) then
      let s := { s with gov.pred := s.gov.pred + bankCost s }
      let s := s.put F.GOV_BANKS_GATED (setBitTo (s.get F.GOV_BANKS_GATED) n false)
      repowerBanks t (s.put F.MEM_STAT_ZEROFILL (setBitTo (s.get F.MEM_STAT_ZEROFILL) n true))
    else repowerBanks t s

/-- BANK_ZERO_FILL_DONE: bank `n`'s fill ends, and it serves accesses (R548, R573); an uncorrectable word of it is repaired (R649). -/
def zeroFillDone (n : Nat) (s : State) : State :=
  if bitOf (s.get F.MEM_STAT_ZEROFILL) n then
    let s := if 0x20000000 ≤ s.get F.MEM_UNCORR_ADDR_ADDR ∧ bankOf (s.get F.MEM_UNCORR_ADDR_ADDR) = n then { s with nvm.memLive := false } else s
    (clearBank n s).put F.MEM_STAT_ZEROFILL (setBitTo (s.get F.MEM_STAT_ZEROFILL) n false)
  else s

/-- GOV_BELOW_FLOOR's count at a boundary (R543): the tick that ends counts when the KV4811 was in RUN for the whole of it without the ceiling. -/
def tickBelow (s : State) : State :=
  let below := decide (level s < s.get F.GOV_CFG_P_FLOOR)
  let s := if s.gov.tickRun && pstate s == 0 && !startCeil s then
      { s with gov.belowRun := if below then satTo 1000 (s.gov.belowRun + 1) else 0, gov.belowRaised := below && s.gov.belowRaised }
    else s
  { s with gov.tickRun := pstate s == 0 && !startCeil s }

/-- GOV_BELOW_FLOOR (R543). -/
def belowFloor (s : State) : State :=
  if s.get F.GOV_LOW_BELOW_MAX ≤ s.gov.belowRun ∧ 0 < s.gov.belowRun ∧ !s.gov.belowRaised then
    faultEvent 0x10 0 ({ s with gov.belowRaised := true }.putB F.GOV_STAT_BELOW true |>.raise E.GOV_BELOW_FLOOR)
  else s

/-- The order of placement of the serving cells is decided in Machine/Array.lean; the guaranteed cells are unparked in it (R546). -/
def unparkGuaranteed (order : List Nat) (s : State) : State :=
  order.foldl (fun s c => if s.gov.live.length < guarCells s then unparkCell c s else s) s

/-- The governor's part of a boundary (R541, R543, R544, R546, R548); `order` is the order of placement of serving cells. In DOZE no level changes (R552), and banks are
re-powered as in RUN; in LULL the state has the banks (R556). -/
def tickGovernor (order : List Nat) (s : State) : State :=
  let s := tickBelow s
  if pstate s = 3 then s else
  let run := pstate s == 0
  let s := if run then levelPolicy (applyRaise s) else s
  let above := decide (s.get F.GOV_CFG_P_FLOOR ≤ level s)
  let s := if above then s.putB F.GOV_STAT_BELOW false else s
  let emerg := s.flag F.GOV_STAT_EMERG
  let s := if emerg || pstate s == 2 then s else repowerBanks (List.range 16) s
  let s := if run && above && !emerg then unparkGuaranteed order s else s
  if run && above then s.putB F.GOV_STAT_EMERG false else s

end Sys2Proof.Machine
end

