-- ==== Sys2Proof/Machine/Tick.lean ====
section
/-! DEFINITION. The tick engine (chapter 03): sources, phase and slew, the second, and the synchronisation states. Phases are in
1/288 ns. -/

namespace Sys2Proof.Machine

/-- The nominal tick in 1/288 ns (R67). -/
def tickLen (s : State) : Nat := tickUnits s * 10000000

/-- TICK_PHASE shows the phase error in 8 ns steps (R78). -/
def showPhase (s : State) : State := s.putI F.TICK_PHASE_PHASE (divRound s.tick.phase 2304)

/-- SYNCED is set (R86). -/
def setSynced (s : State) : State :=
  if s.flag F.TICK_STAT_SYNCED then s
  else ((s.putB F.TICK_STAT_SYNCED true).putB F.TICK_SECIDX_VALID true).raise E.TICK_SYNC_GAINED

/-- SYNCED clears, and with it the index's VALID (R81, R86); TIME_UNSYNC where time is required (R590). -/
def clearSynced (s : State) : State :=
  if s.flag F.TICK_STAT_SYNCED then
    let s := ((s.putB F.TICK_STAT_SYNCED false).putB F.TICK_SECIDX_VALID false).raise E.TICK_SYNC_LOST
    if s.flag F.TICK_CFG_TIME_REQ then faultEvent 0x03 0 s else s
  else s

/-- The state becomes FREE (R83, R86). -/
def enterFree (s : State) : State := clearSynced (s.put F.TICK_STAT_STATE 0)

/-- A time source is enabled in the generation's table (R72, R83). -/
def timeEnabled (s : State) : Bool := (gen s == 3 && s.flag F.TICK_CFG_PTP_EN) || s.flag F.TICK_CFG_PPS_EN

/-- The priority of a source (SRC code) in the generation (R72). -/
def srcRank (s : State) (src : Nat) : Nat := match src with
  | 2 => if gen s = 3 then 3 else 0
  | 1 => 2
  | 0 => 1
  | _ => 0

/-- Source `src` with `n` consecutive valid references can be taken up: one of a higher priority than the source in use needs three (R75). -/
def refsEnough (s : State) (src n : Nat) : Bool :=
  decide ((if srcRank s (s.get F.TICK_STAT_SRC) < srcRank s src then 3 else 1) ≤ n)

/-- The next valid source of the generation: a time source, not in HOLDOVER, where the tick runs on the crystal (R84), the crystal, or the RC (R72, R75, R77).
Before the generation is latched the order of G1 and G2 holds (DEDUCED, log entry 150). -/
def nextSource (s : State) : Nat :=
  let time := s.get F.TICK_STAT_STATE != 3
  if time && gen s == 3 && s.flag F.TICK_CFG_PTP_EN && refsEnough s 2 s.tick.ptpRefs then 2
  else if time && s.flag F.TICK_CFG_PPS_EN && refsEnough s 1 s.tick.ppsRefs then 1
  else if s.tick.xtalOk then 0
  else 3

/-- SOURCE_CHANGE: the tick takes another source; neither the phase nor the frequency correction steps (R76). -/
def changeSource (src : Nat) (s : State) : State :=
  let s := { s with tick.srcLost := false }
  if s.get F.TICK_STAT_SRC = src then s
  else ({ s with tick.lockRefs := 0 }.put F.TICK_STAT_SRC src).bump F.TICK_CNT_SRCCHG |>.raise E.TICK_SRC_CHANGE

/-- The source change of a boundary: after a loss (R75), or back from the RC to a stable crystal (R77). -/
def boundarySource (s : State) : State :=
  if s.tick.srcLost || (s.get F.TICK_STAT_SRC == 3 && s.tick.xtalOk) then changeSource (nextSource s) s else s

/-- The time source in use is lost (R75, R83–R85). -/
def loseTimeSource (s : State) : State :=
  let s := { s with tick.srcLost := true }
  let st := s.get F.TICK_STAT_STATE
  if st = 2 ∨ (st = 1 ∧ s.tick.holdRun) then
    ({ s with tick.holdRun := true }.put F.TICK_STAT_STATE 3).raise E.TICK_HOLDOVER_ENTER
  else s

/-- A phase error of at most 1 µs (R83). -/
def nearRef (ns : Int) : Bool := decide (-1000 ≤ ns) && decide (ns ≤ 1000)

/-- A reference of the source in use gives the phase error `ns` and the frequency correction `mppm` (0.001 ppm; limited to ±200 ppm, R69): R78, R83,
R85, R86. -/
def measureRef (ns mppm : Int) (s : State) : State :=
  let near := nearRef ns
  let n := if near then s.tick.lockRefs + 1 else 0
  let s := { s with tick.phase := ns * 288, tick.lockRefs := satTo 3 n }
  let s := showPhase (s.putI F.TICK_FREQ_FREQ (clampInt (-200000) 200000 mppm))
  if 3 ≤ n then setSynced ({ s with tick.holdRun := false, tick.hold := 0, tick.lockSrc := s.get F.TICK_STAT_SRC }.put F.TICK_STAT_STATE 2 |>.put F.TICK_STAT_HOLD_S 0)
  else if !near ∧ (s.get F.TICK_STAT_STATE = 0 ∨ s.get F.TICK_STAT_STATE = 3) then s.put F.TICK_STAT_STATE 1
  else s

/-- A source is taken up: it measures at once, and with an error above 1 µs the state is ACQUIRE (R83). -/
def takeUp (src : Nat) (ns mppm : Int) (s : State) : State :=
  let s := measureRef ns mppm (changeSource src s)
  if nearRef ns then s else s.put F.TICK_STAT_STATE 1

/-- A valid reference in HOLDOVER of a source that is not in use, the `n`-th in succession: the tick stays on the crystal with its correction frozen (R84), until
an error above 1 µs gives ACQUIRE or the third reference in succession within 1 µs gives LOCKED (R83, R85). -/
def holdoverRef (src n : Nat) (ns mppm : Int) (s : State) : State :=
  let m := if nearRef ns then s.tick.lockRefs + 1 else 0
  if nearRef ns ∧ m < 3 then { s with tick.lockRefs := m }
  else if n < 3 then { s with tick.lockRefs := satTo 3 m }
  else if nearRef ns then measureRef ns mppm { changeSource src s with tick.lockRefs := 2 }
  else takeUp src ns mppm s

/-- A valid reference of time source `src`, the `n`-th in succession: a source of higher priority is taken up at the third (R75), and the source in use
measures. -/
def timeRef (src n : Nat) (ns mppm : Int) (s : State) : State :=
  if s.get F.TICK_STAT_SRC = src then measureRef ns mppm s
  else if srcRank s src ≤ srcRank s (s.get F.TICK_STAT_SRC) then s
  else if s.get F.TICK_STAT_STATE = 3 then holdoverRef src n ns mppm s
  else if 3 ≤ n then takeUp src ns mppm s
  else s

/-- PPS_IN_EDGE: an edge, `falling` or rising, `since` ns after the previous valid one as measured on the crystal, with the phase error and the
frequency correction it measures; only the polarity of PPS_EDGE counts (R73). -/
def ppsEdge (falling : Bool) (since : Nat) (ns mppm : Int) (s : State) : State :=
  if !s.flag F.TICK_CFG_PPS_EN || s.flag F.TICK_CFG_PPS_EDGE != falling then s
  else if !s.tick.ppsFirst then { s with tick.ppsFirst := true, tick.ppsRefs := 0, tick.ppsAge := 0 }
  else if 999900000 ≤ since ∧ since ≤ 1000100000 then
    let n := satTo 3 (s.tick.ppsRefs + 1)
    timeRef 1 n ns mppm { s with tick.ppsRefs := n, tick.ppsAge := 0 }
  else if s.get F.TICK_STAT_SRC = 1 then s
  else { s with tick.ppsRefs := 0 }

/-- PPS_IN is lost. -/
def ppsLost (s : State) : State :=
  if !s.tick.ppsFirst then s else
  let s := { s with tick.ppsFirst := false, tick.ppsRefs := 0 }
  if s.get F.TICK_STAT_SRC = 1 then loseTimeSource s else s

/-- PPS_IN_LOSS, 1.5 s after the last valid edge (R73; DESIGN CHOICE, log entry 5). -/
def ppsLoss (s : State) : State := if mayReach s s.tick.ppsAge 43200 then ppsLost s else s

/-- A measurement of the PTP servo reaches the tick engine (R74). -/
def ptpRef (ns mppm : Int) (s : State) : State :=
  if gen s = 3 ∧ s.flag F.TICK_CFG_PTP_EN then
    let n := satTo 3 (s.tick.ptpRefs + 1)
    timeRef 2 n ns mppm { s with tick.ptpRefs := n }
  else s

/-- PTP is lost as a source of the tick (R264). -/
def ptpLoss (s : State) : State :=
  let s := { s with tick.ptpRefs := 0 }
  if s.get F.TICK_STAT_SRC = 2 then loseTimeSource s else s

/-- The crystal gives the tick no longer: the RC follows, and XTAL_FAIL is raised but in the exempt configuration (R77). -/
def xtalLost (inj : Bool) (s : State) : State :=
  let s := { s with tick.xtalOk := false }
  let s := if s.get F.TICK_STAT_SRC = 0 then { s with tick.srcLost := true } else s
  if loopGen s && s.flag F.TICK_CFG_RC_ALLOW && !s.flag F.TICK_CFG_TIME_REQ then s else faultEvent 0x01 0 s false inj

/-- The crystal stops, or has become stable, while a reset is held: what R77 says of 3 ms after the release then finds it so. -/
def xtalStopHeld (s : State) : State := { s with tick.xtalRuns := false, tick.xtalOk := false, tick.xtalSeen := false }
def xtalStableHeld (s : State) : State := { s with tick.xtalRuns := true, tick.xtalOk := true, tick.xtalSeen := true }

/-- XTAL_STOP. -/
def xtalStop (s : State) : State :=
  let was := s.tick.xtalOk
  let s := { s with tick.xtalRuns := false }
  if was then xtalLost false s else s

/-- XTAL_STARTUP_TIMEOUT, 3 ms after the release: a crystal that has not run stably since it counts as stopped, once (R77). -/
def xtalTimeout (s : State) : State :=
  if s.tick.xtalTimed ∨ !mayReach s s.boot.relU 86 then s else
  let s := { s with tick.xtalTimed := true }
  if s.tick.xtalSeen || s.tick.xtalOk then s else xtalLost false s

/-- XTAL_STABLE: the crystal has run stably for 1 ms (R77). -/
def xtalStable (s : State) : State := xtalStableHeld s

/-- HOLDOVER_LIMIT_EXPIRY (R86, R87). -/
def holdoverExpiry (s : State) : State :=
  if s.tick.holdRun ∧ s.get F.TICK_HOLD_HOLDOVER_LIMIT * 28800 ≤ s.tick.hold then
    if s.get F.TICK_STAT_STATE = 3 then enterFree s else clearSynced s
  else s

/-- PPS_OUT_END, 10 ms after the rise (R82; DESIGN CHOICE, log entry 5). -/
def ppsOutEnd (s : State) : State := if 288 < s.tick.sincePps + tickUnits s then { s with tick.ppsOut := false } else s

/-- Injection point 0x01 of the TICK page: loss of the source in use (R114). -/
def injLoseSource (s : State) : State := match s.get F.TICK_STAT_SRC with
  | 1 => ppsLost s
  | 2 => ptpLoss s
  | 0 => xtalLost true s
  | _ => s

/-- Injection point 0x02 of the TICK page: XTAL_FAIL without stopping the crystal. -/
def injXtalFail (s : State) : State := faultEvent 0x01 0 s false true

/-- The count of a boundary: TICK_NUM and the index in the second (R71, R81), the holdover timer (R85), and the guard's count where the boundary had to be
delayed (R70, R590). -/
def tickCount (guarded : Bool) (s : State) : State :=
  let s := { s with tick.num := satTo (2 ^ 48 - 1) (s.tick.num + 1), tick.sincePps := satTo 28800 (s.tick.sincePps + tickUnits s), tick.ppsAge := satTo 50000 (s.tick.ppsAge + tickUnits s) }
  let s := s.put F.TICK_SECIDX_IDX ((s.get F.TICK_SECIDX_IDX + 1) % rateHz s)
  let s := if s.tick.holdRun then
      let h := satTo (65535 * 28800) (s.tick.hold + tickUnits s)
      { s with tick.hold := h }.put F.TICK_STAT_HOLD_S (h / 28800)
    else s
  if guarded then faultEvent 0x02 0 (s.bump F.TICK_CNT_GUARD) else s

/-- The relabel of R80 or the slew of R79 and R84. -/
def tickPhase (s : State) : State :=
  let t := s.get F.TICK_STAT_SRC
  if (t ≠ 1 ∧ t ≠ 2) ∨ s.get F.TICK_STAT_STATE = 3 then s else
  let len : Int := tickLen s
  let e := s.tick.phase
  if len < 2 * e ∨ 2 * e < -len then
    let n := divRound e (tickLen s)
    let s := { s with tick.phase := e - n * len }
    let r : Int := rateHz s
    let s := s.put F.TICK_SECIDX_IDX (((s.get F.TICK_SECIDX_IDX : Int) + n) % r).toNat
    showPhase ((s.bump F.TICK_CNT_RELABEL).raise E.TICK_RELABEL)
  else
    let step := len / 10000
    showPhase { s with tick.phase := e - clampInt (-step) step e }

/-- PPS_OUT_PULSE at a boundary at which the index is 0, and the low level while PPS_OUT_EN = 0 (R82, R117). -/
def ppsOutPulse (s : State) : State :=
  if !s.flag F.TICK_CFG_PPS_OUT_EN then { s with tick.ppsOut := false }
  else if s.get F.TICK_SECIDX_IDX = 0 ∧ 14400 ≤ s.tick.sincePps then { s with tick.ppsOut := true, tick.sincePps := 0 }
  else s

/-- What a TICK commit that has applied brings about: the index restarts with a new RATE (R81), a time source disabled is lost, and without an enabled one the
state is FREE (R83). -/
def afterTickCommit (before s : State) : State :=
  let s := if before.get F.TICK_CFG_RATE ≠ s.get F.TICK_CFG_RATE then s.put F.TICK_SECIDX_IDX 0 else s
  let s := if before.flag F.TICK_CFG_PPS_EN && !s.flag F.TICK_CFG_PPS_EN then ppsLoss s else s
  let s := if before.flag F.TICK_CFG_PTP_EN && !s.flag F.TICK_CFG_PTP_EN then ptpLoss s else s
  if timeEnabled s ∨ s.get F.TICK_STAT_STATE = 0 then s else enterFree s

/-- The validator of the TICK page: the reason of refusal, from the shadows (R100, R114). -/
def checkTick (s : State) : Option Nat :=
  if s.getS F.TICK_CFG_RATE ≠ s.get F.TICK_CFG_RATE ∧ s.en 0x06 then some 0x01
  else if s.getS F.TICK_HOLD_HOLDOVER_LIMIT = 0 ∨ 3600 < s.getS F.TICK_HOLD_HOLDOVER_LIMIT then some 0x02
  else if gen s = 3 ∧ s.getS F.TICK_CFG_PTP_EN = 0 ∧ s.getS F.TICK_CFG_PPS_EN = 0 ∧ !s.tick.xtalRuns then some 0x03
  else none

end Sys2Proof.Machine
end

