-- ==== Sys2Proof/Machine/Plan.lean ====
section
/-! DEFINITION. Plans and their slots (chapter 03): the window, the validator, the frame, and how slots start, end, are skipped, aborted
and preempted. Times within a tick are whole µs from its boundary. -/

namespace Sys2Proof.Machine

/-! ### Plan storage -/

/-- Word `i` of a bank; 0x600–0x7FF read as 0 (R90). -/
def bankWord (b : Assoc Word) (i : Nat) : Word := if 0x600 ≤ i then 0 else (aget b i).getD 0

/-- Bank `b`. -/
def planBank (s : State) (b : Nat) : Assoc Word := if b = 0 then s.plan.bank0 else s.plan.bank1

/-- Bank `b`, word `i` written (R90). -/
def setBankWord (b i : Nat) (w : Word) (s : State) : State :=
  if 0x600 ≤ i then s
  else
    let put (m : Assoc Word) : Assoc Word := if w = 0 then adel m i else aset m i w
    if b = 0 then { s with plan.bank0 := put s.plan.bank0 } else { s with plan.bank1 := put s.plan.bank1 }

/-- PLAN_WIN_ADDR_WRITE: bank and index are selected and WIN_ERR clears. -/
def planWinAddr (w : Word) (s : State) : State :=
  let s : State := { s with plan.checked := true }
  ((((s.put F.PLAN_WIN_ADDR_AINC (getBits w 16 16)).put F.PLAN_WIN_ADDR_WBANK (getBits w 12 12)).put F.PLAN_WIN_ADDR_INDEX (getBits w 10 0))).putB
    F.PLAN_STAT_WIN_ERR false

/-- The index after a data access (AINC). -/
def planWinNext (s : State) : State :=
  if s.flag F.PLAN_WIN_ADDR_AINC then s.put F.PLAN_WIN_ADDR_INDEX (s.get F.PLAN_WIN_ADDR_INDEX + 1) else s

/-- A write of PLAN_WIN_DATA; one to the bank in force is ignored and sets WIN_ERR (R89). -/
def planWinWrite (w : Word) (s : State) : State :=
  let s : State := { s with plan.checked := true }
  let b := s.get F.PLAN_WIN_ADDR_WBANK
  if b = s.get F.PLAN_CTRL_BANK then planWinNext (s.putB F.PLAN_STAT_WIN_ERR true)
  else planWinNext (setBankWord b (s.get F.PLAN_WIN_ADDR_INDEX) w s)

/-- What PLAN_WIN_DATA reads. -/
def planWinValue (s : State) : Word := bankWord (planBank s (s.get F.PLAN_WIN_ADDR_WBANK)) (s.get F.PLAN_WIN_ADDR_INDEX)

/-- Slot `i` of template `t` (R91). -/
def slotOf (b : Assoc Word) (t i : Nat) : Slot :=
  let a := bankWord b (t * 64 + i * 2)
  let c := bankWord b (t * 64 + i * 2 + 1)
  { idx := i, kind := getBits a 31 30, start := getBits a 29 21, budget := getBits a 20 12, action := getBits a 7 0,
    arg := getBits c 31 16, work := getBits c 15 0 }

/-- The non-empty slots of template `t`, in order. -/
def templateSlots (b : Assoc Word) (t : Nat) : List Slot :=
  (tabulate 32 (slotOf b t)).filter fun d => d.kind != 0

/-! ### The validator (R94–R97) -/

/-- The latest end of an M slot, and of an O or B slot, µs (R67). -/
def endLimits (rate : Nat) : Nat × Nat := match rate with
  | 0 => (395, 416)
  | 1 => (197, 208)
  | 2 => (98, 104)
  | _ => (65, 69)

/-- The kinds that an action allows (R93): M, O, B. -/
def actionKind (a k : Nat) : Bool :=
  if a = 0 then true
  else if a = 1 ∨ a = 4 ∨ a = 6 ∨ a = 7 ∨ a = 9 ∨ a = 0xA ∨ a = 0xE then k == 1 || k == 2
  else if a = 2 ∨ a = 3 ∨ a = 5 then k == 1
  else if a = 8 then k == 2
  else if a = 0xB ∨ a = 0xC ∨ a = 0xD then k == 3
  else false

/-- A result of the validator: reason (0 for none), template, slot, entry. -/
structure PlanResult where
  reason : Nat
  template : Nat := 0
  slot : Nat := 0
  entry : Nat := 0
  deriving DecidableEq, Repr

/-- What a bank is checked against: rate, generation, P_FLOOR, guaranteed live cells, FRAME_K. -/
structure PlanEnv where
  rate : Nat
  gen : Nat
  floor : Nat
  guar : Nat
  k : Nat
  deriving DecidableEq, Repr

/-- The first slot of the 8 templates that fails `bad`. -/
def firstSlot (b : Assoc Word) (code : Nat) (bad : Nat → Slot → Bool) : Option PlanResult :=
  ((List.range 8).flatMap fun t => (templateSlots b t).map fun d => (t, d)).findSome? fun x =>
    if bad x.1 x.2 then some { reason := code, template := x.1, slot := x.2.idx } else none

/-- M_CYCLES (R96, R97): the declared work does not fit the budget at P_FLOOR; ARR_LAYER is declared for 16 cells. -/
def mCycles (e : PlanEnv) (d : Slot) : Bool :=
  d.kind == 1 && (if d.action = 7 then decide (0 < e.guar) && decide (d.budget * levelMhz e.floor * e.guar < d.work * 16)
    else decide (d.budget * levelMhz e.floor < d.work))

/-- The slot before `d` in its template. -/
def slotBefore (b : Assoc Word) (t : Nat) (d : Slot) : Option Slot := ((templateSlots b t).filter fun x => decide (x.idx < d.idx)).getLast?

/-- ORDER (R96): not later than the slot before it, or overlapping it. -/
def misordered (b : Assoc Word) (t : Nat) (d : Slot) : Bool := match slotBefore b t d with
  | some p => decide (d.start ≤ p.start) || decide (d.start < p.start + p.budget)
  | none => false

/-- The frame sequence entries in use that have bits set above [2:0]. -/
def badEntry (b : Assoc Word) (k : Nat) : Option PlanResult :=
  (List.range (2 ^ min k 10)).findSome? fun i =>
    if 8 ≤ (bankWord b (0x200 + i)).toNat then some { reason := 0x01, entry := i } else none

/-- The checks of R96 in order, GOV_PENDING apart. -/
def checkBank (b : Assoc Word) (e : PlanEnv) : PlanResult :=
  let lim := endLimits e.rate
  let desc := firstSlot b 0x01 fun t d =>
    getBits (bankWord b (t * 64 + d.idx * 2)) 11 8 != 0 || d.budget == 0 || decide (0xE < d.action)
  let kind := firstSlot b 0x02 fun _ d => !actionKind d.action d.kind
  let order := firstSlot b 0x03 fun t d => misordered b t d
  let past := firstSlot b 0x04 fun _ d => decide ((if d.kind = 1 then lim.1 else lim.2) < d.start + d.budget)
  let cyc := firstSlot b 0x05 fun _ d => mCycles e d
  let arr := firstSlot b 0x06 fun _ d => (e.gen == 1 || e.gen == 2) && d.kind == 1 && d.action == 7
  let cells := firstSlot b 0x07 fun _ d => d.kind == 1 && d.action == 7 && e.guar == 0
  let bigK : Option PlanResult := if 10 < e.k then some { reason := 0x08 } else none
  ((desc <|> badEntry b e.k <|> kind <|> order <|> past <|> cyc <|> arr <|> cells <|> bigK)).getD { reason := 0 }

/-- The values in force that a bank is checked against, with FRAME_K `k`. -/
def planEnv (s : State) (k : Nat) : PlanEnv :=
  { rate := s.get F.TICK_CFG_RATE, gen := gen s, floor := s.get F.GOV_CFG_P_FLOOR, guar := guarCells s, k }

/-- The word of PLAN_VSTAT and PLAN_REJECT that shows a result. -/
def resultWord (r : PlanResult) : Word :=
  BitVec.ofNat 32 (r.reason * 2 ^ 24 + r.template * 2 ^ 21 + r.slot * 2 ^ 16 + r.entry * 2 ^ 6 + b2n (r.reason == 0))

/-- GUAR_CELLS as a commit makes it effective (R546). -/
def guarShadow (s : State) : Nat := if gen s = 3 then s.getS F.GOV_CFG_GUAR_CELLS else 0

/-- A GOV commit of this tick changes P_FLOOR or the guaranteed cells (R94). -/
def govChanges (s : State) : Bool :=
  s.page.commitPend.contains 3 && (s.getS F.GOV_CFG_P_FLOOR != s.get F.GOV_CFG_P_FLOOR || guarShadow s != guarCells s)

/-- The validator's result for bank `b` (R94, R96): `govPending` says that a commit of this tick on GOV changes P_FLOOR or the guaranteed cells. -/
def planResult (govPending : Bool) (b : Nat) (s : State) : PlanResult :=
  let r := checkBank (planBank s b) (planEnv s (s.getS F.PLAN_CTRL_FRAME_K))
  if r.reason = 0 ∧ govPending then { reason := 0x09 } else r

/-- The values that the validator checks a bank against, as a list. -/
def envList (s : State) : List Nat :=
  let e := planEnv s (s.getS F.PLAN_CTRL_FRAME_K)
  [e.rate, e.gen, e.floor, e.guar, e.k]

/-- At a boundary, where these values change, the validator notes that they have (R95). -/
def noteEnv (s : State) : State := if envList s = s.plan.env0 then s else { s with plan.checked := true }

/-- PLAN_VSTAT: the result for the bank that the window addresses (R95), with the FRAME_K that a commit would take; its reset value until the first window write or
change of what a bank is checked against. GOV_PENDING does not apply to the commits of R806. -/
def planVstat (s : State) : Word :=
  if !s.plan.checked && envList s == s.plan.env0 then 0 else
  let held := gen s == 0 || s.boot.loadPend || s.boot.loadHeld
  resultWord (planResult (govChanges s && !held) (s.get F.PLAN_WIN_ADDR_WBANK) s)

/-- The validator of the PLAN page. -/
def checkPlan (govPending : Bool) (s : State) : PlanResult := planResult govPending (s.getS F.PLAN_CTRL_BANK) s

/-- R101: the plan in force would fail M_CYCLES, or NO_CELLS, with another P_FLOOR and guaranteed cell count: the code. -/
def planInForceFails (floor guar : Nat) (s : State) : Option Nat :=
  if !s.en 0x06 then none else
  let b := planBank s (s.get F.PLAN_CTRL_BANK)
  let e : PlanEnv := { planEnv s 0 with floor, guar }
  if (firstSlot b 0x05 fun _ d => mCycles e d).isSome then some 0x05
  else if (firstSlot b 0x07 fun _ d => d.kind == 1 && d.action == 7 && guar == 0).isSome then some 0x07
  else none

/-! ### Slots -/

/-- A DEADLINE of slot `idx` with its cause (R105–R107, R591). -/
def deadline (idx cause : Nat) (aborted : Bool) (s : State) : State :=
  let s := (s.putB F.PLAN_DL_INFO_ABORTED aborted).put F.PLAN_DL_INFO_CAUSE cause
  let s := (s.put F.PLAN_DL_INFO_TEMPLATE (s.get F.PLAN_STAT_TEMPLATE)).put F.PLAN_DL_INFO_SLOT idx
  let s := ((s.put F.PLAN_DL_TICK_TICK s.tick.num).bump F.PLAN_CNT_DL_COUNT).raise E.PLAN_DEADLINE_EVT
  let s := almCount 12 s
  let s := if cause = 1 then almCount 13 s else s
  faultEvent 0x00 (getBits (s.rd 0x06 0x05C) 12 0) s false (cause == 3)

/-- The cause tag of a running M slot (R107). -/
def dlCause (r : Running) : Nat := if r.gov then 1 else if r.late then 2 else if r.inj then 3 else 0

/-- An O slot is skipped, or a B slot preempted (R108–R110). -/
def countMissed (d : Slot) (s : State) : State :=
  if d.kind = 2 then s.bump F.PLAN_CNT_O_SKIP else if d.kind = 3 then s.bump F.PLAN_CNT_B_COUNT else s

/-- When slot `d` starts, µs: an M slot or a B slot at START, or when the M slot that still ran then has ended (R103, R110); an O slot at START (R108). -/
def startOf (s : State) (d : Slot) : Nat := if d.kind = 2 then d.start else max d.start s.plan.mEnd

/-- Slot `d` may start at `at_` µs: that is its time, and no M slot before it waits. -/
def mayStart (s : State) (d : Slot) (at_ : Nat) : Bool :=
  at_ == startOf s d && s.plan.todo.all fun x => x.kind != 1 || decide (d.start ≤ x.start)

/-- Slot `idx` with action `act` comes up at `at_` µs; `extra` is the power it needs beyond the demand, `ask` whether the governor is asked. The answer says
whether it runs; an O slot that is refused is counted, a refused B slot is counted by its task (R618). -/
def slotBegin (act idx at_ : Nat) (extra : Int) (ask : Bool) (s : State) : State × Bool :=
  match s.plan.todo.find? (fun d => d.idx == idx && d.action == act), s.plan.run with
  | some d, none =>
    if !mayStart s d at_ then (s, false) else
    let s := { s with plan.todo := s.plan.todo.filter (fun x => x.idx != idx) }
    if d.kind = 3 ∧ d.start + d.budget ≤ at_ then (countMissed d s, false) else
    let (s, ok) := if ask && d.kind != 1 then admits true (s.gov.pred + extra) s else (s, true)
    if !ok then ((if d.kind = 2 then countMissed d s else s).bump F.GOV_CNT3_REFUSED, false) else
    let pt := if d.kind = 1 then 1 else 2
    let inj := d.kind != 3 && s.armedAt 0x06 pt
    let s := if inj then s.disarm 0x06 pt else s
    ({ s with plan.run := some { slot := d, began := at_, late := decide (d.start < at_), gov := s.flag F.GOV_STAT_EMERG, inj } }, true)
  | _, _ => (s, false)

/-- The running slot is over, and with it a burst that an O or B slot took (R153). -/
def endRun (s : State) : State :=
  let s := if obRuns s then endBurst s else s
  { s with plan.run := none }

/-- The instant at which the budget of the running slot expires (R105, R109, R110). -/
def budgetEnd (r : Running) : Nat := if r.slot.kind = 1 then r.began + r.slot.budget else r.slot.start + r.slot.budget

/-- M_SLOT_DEADLINE: the running M slot has used its budget (R105). -/
def mDeadline (s : State) : State := match s.plan.run with
  | some r => if r.slot.kind = 1 ∧ !r.dl then
      let s := { s with plan.run := some { r with dl := true } }
      deadline r.slot.idx (dlCause r) false s
    else s
  | none => s

/-- The tick is in use up to `at_` µs. -/
def usedTo (at_ : Nat) (s : State) : State := { s with plan.freeAt := max s.plan.freeAt at_ }

/-- O_SLOT_BUDGET_EXPIRY (R109). -/
def oExpiry (s : State) : State := match s.plan.run with
  | some r => if r.slot.kind = 2 then (usedTo (budgetEnd r) (endRun s)).bump F.PLAN_CNT_O_OVERRUN |>.raise E.PLAN_O_ABORT else s
  | none => s

/-- B_SLOT_BUDGET_END (R110). -/
def bEnd (s : State) : State := match s.plan.run with
  | some r => if r.slot.kind = 3 then usedTo (budgetEnd r) (endRun s) else s
  | none => s

/-- The running B slot is preempted by foreground work or a fault reaction (R110). -/
def preemptB (s : State) : State := match s.plan.run with
  | some r => if r.slot.kind = 3 then (endRun s).bump F.PLAN_CNT_B_COUNT else s
  | none => s

/-- The smallest slack so far, with that of an M slot that ends at `at_` (R112). -/
def takeSlack (d : Slot) (at_ : Nat) (s : State) : State :=
  let k : Int := (d.start + d.budget : Nat) - (at_ : Int)
  { s with plan.slack := some (match s.plan.slack with
    | some m => min m k
    | none => k) }

/-- Slots whose time has passed when a slot ends at `at_`: an O slot whose START has passed is skipped, a B slot that would start at or after its end does not
run (R109, R110). -/
def dropPassed (at_ : Nat) (s : State) : State :=
  let gone (d : Slot) : Bool := (d.kind == 2 && decide (d.start < at_)) || (d.kind == 3 && decide (d.start + d.budget ≤ at_))
  let s' := (s.plan.todo.filter gone).foldl (fun s d => countMissed d s) s
  { s' with plan.todo := s.plan.todo.filter fun d => !gone d }

/-- The running slot ends at `at_` µs (R103, R112). -/
def slotEnd (at_ : Nat) (s : State) : State := match s.plan.run with
  | some r =>
    let s : State := if r.slot.kind = 1 then { takeSlack r.slot at_ s with plan.mEnd := at_ } else s
    usedTo at_ (dropPassed at_ (endRun s))
  | none => s

/-- The running slot can complete at `at_` µs: an M slot that an injection makes overrun only 2 µs after its budget's end, an O slot that one makes overrun never
(R114). -/
def completesAt (r : Running) (at_ : Nat) : Bool :=
  decide (r.began ≤ at_) && (!r.inj || (r.slot.kind == 1 && at_ == budgetEnd r + 2))

/-- The running slot has nothing to do and ends at `at_` µs, but for an injected overrun. -/
def endAtOnce (at_ : Nat) (s : State) : State := match s.plan.run with
  | some r => if completesAt r at_ then slotEnd at_ s else s
  | none => s

/-- A slot that has not started when the boundary comes (R106, R109, R110). An M slot that never ran counts for the tick's slack as if it ended at the nominal tick length
(DEDUCED, log entry 155). -/
def missAtBoundary (len : Nat) (s : State) (d : Slot) : State :=
  if d.kind = 1 then deadline d.idx 2 true (takeSlack d len s) else countMissed d s

/-- The slot that still runs when the boundary comes (R106, R109, R110). -/
def abortAtBoundary (len : Nat) (r : Running) (s : State) : State :=
  let s := endRun s
  if r.slot.kind = 1 then
    let s := takeSlack r.slot len s
    if r.dl then s.putB F.PLAN_DL_INFO_ABORTED true else deadline r.slot.idx (dlCause r) true s
  else if r.slot.kind = 2 then (s.bump F.PLAN_CNT_O_OVERRUN).raise E.PLAN_O_ABORT
  else s.bump F.PLAN_CNT_B_COUNT

/-- The slack of the tick that ends, with PLAN_SLACK's LAST and MIN (R112, R113). -/
def tickSlack (s : State) : Int := (s.plan.slack).getD 0x7FFF
def reportSlack (s : State) : State :=
  let k := clampInt (-32768) 32767 (tickSlack s)
  let s := s.put F.PLAN_SLACK_LAST (toCode 16 k)
  if k < signed 16 (s.get F.PLAN_SLACK_MIN) then s.put F.PLAN_SLACK_MIN (toCode 16 k) else s

/-- The end of a tick for its slots: what still runs is aborted, what has not started is missed, the slack is reported (R106–R113). A tick in which the sequencer runs no slot
reports none, and PLAN_SLACK.LAST stays (DEDUCED, log entry 156). -/
def planTickEnd (s : State) : State :=
  if !s.plan.active then s else
  let len := (endLimits (s.get F.TICK_CFG_RATE)).2
  let s := match s.plan.run with
    | some r => abortAtBoundary len r s
    | none => s
  let todo := s.plan.todo
  let s := todo.foldl (missAtBoundary len) { s with plan.todo := [] }
  reportSlack s

/-- The slot sequencer runs slots in the tick that begins: PLAN enabled, started (R732), in RUN (R111), outside the ceiling. -/
def slotsRun (s : State) : Bool :=
  s.en 0x06 && s.boot.seqStarted && pstate s == 0 && !s.slp.out && !startCeil s

/-- A frame starts at this boundary. -/
def frameStarts (applied : Bool) (s : State) : Bool :=
  applied || (s.en 0x06 && (s.get F.PLAN_POS_FRAME_POS + 1) % 2 ^ s.get F.PLAN_CTRL_FRAME_K == 0)

/-- The frame's part of a boundary: the position advances, or starts at 0 with a plan that applies (R92, R99, R102, R111, R115, R732); the template's slots wait
for their time. -/
def planTickBegin (applied : Bool) (s : State) : State :=
  let s := noteEnv s
  if !s.en 0x06 then
    let s := if applied then (s.put F.PLAN_POS_FRAME_POS 0).put F.PLAN_POS_FRAME_NUM (s.get F.PLAN_POS_FRAME_NUM + 1) else s
    { s.putB F.PLAN_STAT_RUNNING false with plan.active := false, plan.todo := [], plan.run := none, plan.slack := none, plan.mEnd := 0, plan.freeAt := 0 }
  else
    let pos := if applied then 0 else (s.get F.PLAN_POS_FRAME_POS + 1) % 2 ^ s.get F.PLAN_CTRL_FRAME_K
    let s := s.put F.PLAN_POS_FRAME_POS pos
    let s := if pos = 0 then (s.put F.PLAN_POS_FRAME_NUM (s.get F.PLAN_POS_FRAME_NUM + 1)).raise E.PLAN_FRAME_START else s
    let b := planBank s (s.get F.PLAN_CTRL_BANK)
    let t := getBits (bankWord b (0x200 + pos)) 2 0
    let run := slotsRun s
    let s := (s.put F.PLAN_STAT_TEMPLATE t).putB F.PLAN_STAT_RUNNING run
    { s with plan.active := run, plan.todo := if run then templateSlots b t else [], plan.run := none, plan.slack := none, plan.mEnd := 0, plan.freeAt := 0 }

/-- HOST_SIGNAL's effect (R93, R116). -/
def hostSignal (arg : Nat) (s : State) : State := (s.put F.PLAN_POS_SIG_ARG arg).raise E.PLAN_SLOT_SIGNAL

/-- The argument of the slot that runs. -/
def runArg (s : State) : Nat := match s.plan.run with
  | some r => r.slot.arg
  | none => 0

end Sys2Proof.Machine
end

