-- ==== Sys2Proof/Machine/Crypto.lean ====
section
/-! DEFINITION. The checks and signatures the spec names: CRC-32C (R431, R659), the CRC-8 of SPI frames (R319), the FSK check byte,
SHA-256 and HMAC-SHA-256 (R336), and ECDSA P-256 verification (R343, R344). -/

namespace Sys2Proof.Machine

/-! ### CRCs -/

/-- One bit of the reflected CRC-32C. -/
def crc32cBit (c : Word) : Word := if c.getLsbD 0 then (c >>> 1) ^^^ 0x82F63B78 else c >>> 1

/-- One byte of CRC-32C. -/
def crc32cByte (c : Word) (b : Byte) : Word :=
  (List.range 8).foldl (fun c _ => crc32cBit c) (c ^^^ b.setWidth 32)

/-- CRC-32C (Castagnoli) of bytes. -/
def crc32c (bs : List Byte) : Word := (bs.foldl crc32cByte 0xFFFFFFFF) ^^^ 0xFFFFFFFF

/-- CRC-32C of words, most significant byte first (R431). -/
def crcWords (ws : List Word) : Word := crc32c (wordsBytes ws)

/-- One bit of the CRC-8 with polynomial 0x2F. -/
def crc8Bit (c : Byte) : Byte := if c.getLsbD 7 then (c <<< 1) ^^^ 0x2F else c <<< 1

/-- The CRC-8 of SPI frames: polynomial 0x2F, initial value and final exclusive-or 0xFF (R319). -/
def crc8 (bs : List Byte) : Byte :=
  (bs.foldl (fun c b => (List.range 8).foldl (fun c _ => crc8Bit c) (c ^^^ b)) 0xFF) ^^^ 0xFF

/-! ### SHA-256 and HMAC -/

/-- The round constants of SHA-256. -/
def shaK : List Word := [
  0x428A2F98, 0x71374491, 0xB5C0FBCF, 0xE9B5DBA5, 0x3956C25B, 0x59F111F1, 0x923F82A4, 0xAB1C5ED5,
  0xD807AA98, 0x12835B01, 0x243185BE, 0x550C7DC3, 0x72BE5D74, 0x80DEB1FE, 0x9BDC06A7, 0xC19BF174] ++ [
  0xE49B69C1, 0xEFBE4786, 0x0FC19DC6, 0x240CA1CC, 0x2DE92C6F, 0x4A7484AA, 0x5CB0A9DC, 0x76F988DA,
  0x983E5152, 0xA831C66D, 0xB00327C8, 0xBF597FC7, 0xC6E00BF3, 0xD5A79147, 0x06CA6351, 0x14292967] ++ [
  0x27B70A85, 0x2E1B2138, 0x4D2C6DFC, 0x53380D13, 0x650A7354, 0x766A0ABB, 0x81C2C92E, 0x92722C85,
  0xA2BFE8A1, 0xA81A664B, 0xC24B8B70, 0xC76C51A3, 0xD192E819, 0xD6990624, 0xF40E3585, 0x106AA070] ++ [
  0x19A4C116, 0x1E376C08, 0x2748774C, 0x34B0BCB5, 0x391C0CB3, 0x4ED8AA4A, 0x5B9CCA4F, 0x682E6FF3,
  0x748F82EE, 0x78A5636F, 0x84C87814, 0x8CC70208, 0x90BEFFFA, 0xA4506CEB, 0xBEF9A3F7, 0xC67178F2]

/-- The initial hash value of SHA-256. -/
def shaH : List Word := [
  0x6A09E667, 0xBB67AE85, 0x3C6EF372, 0xA54FF53A, 0x510E527F, 0x9B05688C, 0x1F83D9AB, 0x5BE0CD19]

/-- Rotation to the right. -/
def rotr (x : Word) (n : Nat) : Word := x.rotateRight n

/-- The message schedule: the words so far, newest first, grown by `n`. -/
def shaSchedule : Nat → List Word → List Word
  | 0, w => w
  | n + 1, w =>
    let a := w.getD 1 0
    let b := w.getD 14 0
    let s1 := rotr a 17 ^^^ rotr a 19 ^^^ (a >>> 10)
    let s0 := rotr b 7 ^^^ rotr b 18 ^^^ (b >>> 3)
    shaSchedule n ((w.getD 15 0 + s0 + w.getD 6 0 + s1) :: w)

/-- The eight working variables of SHA-256. -/
structure ShaVars where
  a : Word
  b : Word
  c : Word
  d : Word
  e : Word
  f : Word
  g : Word
  h : Word
  deriving DecidableEq, Repr

/-- One round with its constant and schedule word. -/
def shaRound (v : ShaVars) (kw : Word × Word) : ShaVars :=
  let s1 := rotr v.e 6 ^^^ rotr v.e 11 ^^^ rotr v.e 25
  let ch := (v.e &&& v.f) ^^^ (~~~v.e &&& v.g)
  let t1 := v.h + s1 + ch + kw.1 + kw.2
  let s0 := rotr v.a 2 ^^^ rotr v.a 13 ^^^ rotr v.a 22
  let maj := (v.a &&& v.b) ^^^ (v.a &&& v.c) ^^^ (v.b &&& v.c)
  ⟨t1 + s0 + maj, v.a, v.b, v.c, v.d + t1, v.e, v.f, v.g⟩

/-- One block of 16 words. -/
def shaBlock (h : ShaVars) (ws : List Word) : ShaVars :=
  let v := (shaK.zip (shaSchedule 48 ws.reverse).reverse).foldl shaRound h
  ⟨h.a + v.a, h.b + v.b, h.c + v.c, h.d + v.d, h.e + v.e, h.f + v.f, h.g + v.g, h.h + v.h⟩

/-- All blocks of a padded message; `n` is how many there are. -/
def shaBlocks : Nat → List Word → ShaVars → ShaVars
  | 0, _, h => h
  | n + 1, ws, h => shaBlocks n (ws.drop 16) (shaBlock h (ws.take 16))

/-- The message with its padding to whole 64-byte blocks. -/
def shaPad (m : List Byte) : List Byte :=
  let z := (119 - m.length % 64) % 64
  m ++ [0x80] ++ List.replicate z 0 ++ natBytes 8 (8 * m.length)

/-- SHA-256 of bytes. -/
def sha256 (m : List Byte) : List Byte :=
  let p := shaPad m
  let w (i : Nat) : Word := shaH.getD i 0
  let h := shaBlocks (p.length / 64) (bytesWords p) ⟨w 0, w 1, w 2, w 3, w 4, w 5, w 6, w 7⟩
  wordsBytes [h.a, h.b, h.c, h.d, h.e, h.f, h.g, h.h]

/-- HMAC-SHA-256 with a key of at most 64 bytes (R336). -/
def hmac (key m : List Byte) : List Byte :=
  let k := key ++ List.replicate (64 - key.length) 0
  sha256 ((k.map (· ^^^ 0x5C)) ++ sha256 ((k.map (· ^^^ 0x36)) ++ m))

/-! ### ECDSA P-256 -/

/-- The field, order, curve coefficient and generator of P-256. -/
def p256P : Nat := 0xFFFFFFFF00000001000000000000000000000000FFFFFFFFFFFFFFFFFFFFFFFF
def p256N : Nat := 0xFFFFFFFF00000000FFFFFFFFFFFFFFFFBCE6FAADA7179E84F3B9CAC2FC632551
def p256B : Nat := 0x5AC635D8AA3A93E7B3EBBD55769886BC651D06B0CC53B0F63BCE3C3E27D2604B
def p256G : Nat × Nat :=
  (0x6B17D1F2E12C4247F8BCE6E563A440F277037D812DEB33A0F4A13945D898C296,
   0x4FE342E2FE1A7F9B8EE7EB4A7C0F9E162BCE33576B315ECECBB6406837BF51F5)

/-- `b` to the power `e` modulo `m`, for exponents below 2^`k`. -/
def powMod (m : Nat) : Nat → Nat → Nat → Nat
  | 0, _, _ => 1
  | k + 1, b, e =>
    let h := powMod m k (b * b % m) (e / 2)
    if e % 2 = 1 then h * b % m else h

/-- The inverse modulo a prime. -/
def invMod (m a : Nat) : Nat := powMod m 256 (a % m) (m - 2)

/-- A sum of two points; none is the point at infinity. -/
def ecAdd : Option (Nat × Nat) → Option (Nat × Nat) → Option (Nat × Nat)
  | none, q => q
  | p, none => p
  | some (x1, y1), some (x2, y2) =>
    let p := p256P
    if x1 = x2 ∧ (y1 + y2) % p = 0 then none
    else
      let l := if x1 = x2 then (3 * x1 * x1 + (p - 3)) * invMod p (2 * y1) % p
        else (y2 + p - y1) * invMod p (x2 + p - x1) % p
      let x3 := (l * l + 2 * p - x1 - x2) % p
      some (x3, (l * (x1 + p - x3) + p - y1) % p)

/-- A multiple of a point, for factors below 2^`k`. -/
def ecMul : Nat → Nat → Option (Nat × Nat) → Option (Nat × Nat)
  | 0, _, _ => none
  | k + 1, n, q =>
    let r := ecMul k (n / 2) (ecAdd q q)
    if n % 2 = 1 then ecAdd r q else r

/-- The point lies on P-256. -/
def onCurve (q : Nat × Nat) : Bool :=
  decide (q.1 < p256P) && decide (q.2 < p256P) && (q.2 * q.2 % p256P == (q.1 * q.1 * q.1 + (p256P - 3) * q.1 + p256B) % p256P)

/-- ECDSA P-256 with SHA-256: the 64-byte signature r, s over `m` verifies against the 64-byte public key x, y. -/
def ecdsaOk (key sig m : List Byte) : Bool :=
  let q := (bytesNat (key.take 32), bytesNat (key.drop 32))
  let r := bytesNat (sig.take 32)
  let t := bytesNat (sig.drop 32)
  if r = 0 ∨ p256N ≤ r ∨ t = 0 ∨ p256N ≤ t ∨ !onCurve q then false
  else
    let e := bytesNat (sha256 m)
    let w := invMod p256N t
    match ecAdd (ecMul 256 (e * w % p256N) (some p256G)) (ecMul 256 (r * w % p256N) (some q)) with
    | some (x, _) => x % p256N == r
    | none => false

end Sys2Proof.Machine
end

