-- ==== Sys2Proof/Machine/Nvm.lean ====
section
/-! DEFINITION. Memory under ECC, the non-volatile memory's partitions, its queue of chunks, wear and the system record (chapter 18). -/

namespace Sys2Proof.Machine

/-! ### Reads under ECC -/

/-- Two errors of one word together (R647, R648, R803). -/
def eccJoin : Option EccErr → Option EccErr → Option EccErr
  | none, x => x
  | x, none => x
  | some .double, _ => some .beyond
  | _, some .double => some .beyond
  | some .beyond, _ => some .beyond
  | _, some .beyond => some .beyond
  | _, _ => some .double

/-- What a read finds: clean, a corrected data bit, a corrected check bit, uncorrectable, or wrong data. -/
inductive EccRead where
  | clean | data | check | uncorr | wrongData | wrongClean
  deriving DecidableEq, Repr

/-- The decoder's answer; for three or more wrong bits it is not defined (R803): the free choice number `k`. -/
def eccDecode (k : Nat) : Option EccErr → EccRead
  | none => .clean
  | some .dataBit => .data
  | some .checkBit => .check
  | some .double => .uncorr
  | some .beyond => match Config.freeNat k % 3 with
    | 0 => .uncorr
    | 1 => .wrongData
    | _ => .wrongClean

/-- A corrected read of SRAM or retention RAM at `a` (R647). -/
def memCorrected (check : Bool) (a : Nat) (s : State) : State :=
  let s := s.put F.MEM_CORR_ADDR_ADDR a
  if check then (s.bump F.MEM_CNT_CHKBIT).raise E.MEM_CHECK_BIT_CORRECTED else (s.bump F.MEM_CNT_CORR).raise E.MEM_CORR

/-- The INFO of SRAM_UNCORR (R648, R650). -/
def sramInfo (a : Nat) : Nat :=
  if 0x38000000 ≤ a then (a - 0x38000000) / 4 else bankOf a * 4096 + (a - 0x20000000) % 0x40000 / 8 / 8

/-- An uncorrectable read of SRAM or retention RAM at `a` (R648, R650). -/
def memUncorr (inj : Bool) (a : Nat) (s : State) : State :=
  let again := s.nvm.memLive && eccKey (s.get F.MEM_UNCORR_ADDR_ADDR) == eccKey a
  let s := ((s.put F.MEM_UNCORR_ADDR_ADDR a).bump F.MEM_CNT_UNCORR).raise E.MEM_UNCORR
  let s := { s with nvm.memLive := true }
  if again then s else faultEvent 0x60 (sramInfo a) s (decide (0x38000000 ≤ a)) inj

/-- The flips that an injection makes in the next SRAM read (R669). -/
def sramFlip (s : State) : Option EccErr × Nat :=
  if s.armedAt 0x0D 3 then (some .double, 3)
  else if s.armedAt 0x0D 2 then (some .checkBit, 2)
  else if s.armedAt 0x0D 1 then (some .dataBit, 1)
  else (none, 0)

/-- A 32-bit read of SRAM or retention RAM at `a`: none where it is uncorrectable (R647–R650). -/
def memRead (a : Nat) (s : State) : State × Option Word :=
  let sram := decide (a < 0x30000000)
  let (flip, pt) := if sram then sramFlip s else (none, 0)
  let s := if pt = 0 then s else s.disarm 0x0D pt
  let err := eccJoin (aget s.ecc (eccKey a)) flip
  let r := eccDecode s.free err
  let k := s.free
  let s := if err = some .beyond then s.fresh 2 else s
  match r with
  | .clean => (s, some (s.wordAt a))
  | .data => (memCorrected false a s, some (s.wordAt a))
  | .check => (memCorrected true a s, some (s.wordAt a))
  | .uncorr => (memUncorr (pt == 3) a s, none)
  | .wrongData => (memCorrected false a s, some (Config.freeWord (k + 1)))
  | .wrongClean => (s, some (Config.freeWord (k + 1)))

/-- A 32-bit write of SRAM or retention RAM as the read-modify-write of its ECC word (R33): false where the word is uncorrectable. -/
def memWrite (a : Nat) (w : Word) (s : State) : State × Bool :=
  match memRead a s with
  | (s, none) => (s, false)
  | (s, some _) => (({ s with ecc := adel s.ecc (eccKey a) }).setWord a w, true)

/-- A write of the KV4811's own of whole words (rows, results, tiles): check bits are written new, but a word that reads as uncorrectable is repaired by CLEAR_WORD and a
zero-fill only (R649). -/
def memPut (a : Nat) (ws : List Word) (s : State) : State :=
  { s.setBytes a (wordsBytes ws) with ecc := eccRewrite s.ecc (eccKey a) (a + 4 * ws.length) }

/-- Words read one after another: none where one is uncorrectable. -/
def memReads : Nat → Nat → State → State × Option (List Word)
  | 0, _, s => (s, some [])
  | n + 1, a, s =>
    match memRead a s with
    | (s, none) => (s, none)
    | (s, some w) =>
      match memReads n (a + 4) s with
      | (s, some ws) => (s, some (w :: ws))
      | (s, none) => (s, none)

/-! ### Banks -/

/-- Bank `n` serves no access: gated, being filled, or off in the state (R548, R556, R573, R646, R724). -/
def bankOff (s : State) (n : Nat) : Bool :=
  bitOf (s.get F.GOV_BANKS_GATED) n || bitOf (s.get F.MEM_STAT_ZEROFILL) n || !s.flag F.SYS_BSTAT_ROM_OK
    || pstate s == 3 || pstate s == 2

/-- The `len` bytes from `a` lie wholly in SRAM banks that serve. -/
def inPoweredSram (s : State) (a len : Nat) : Bool :=
  decide (0x20000000 ≤ a) && decide (a + len ≤ 0x20400000) &&
    (List.range 16).all fun n => !(decide (a < 0x20000000 + (n + 1) * 0x40000) && decide (0x20000000 + n * 0x40000 < a + len)) || !bankOff s n

/-! ### Partitions (R652) -/

/-- Base and size of partition `p`. -/
def partBase (p : Nat) : Nat × Nat := match p with
  | 0 => (0x10000000, 0x40000)
  | 1 => (0x10040000, 0x8000)
  | 2 => (0x10048000, 0x8000)
  | 3 => (0x10050000, 0x100000)
  | 4 => (0x10150000, 0x100000)
  | 5 => (0x10250000, 0x40000)
  | _ => (0x10290000, 0x170000)

/-- The partition that holds address `a`. -/
def partOf (a : Nat) : Nat :=
  ((List.range 7).find? fun p => decide ((partBase p).1 ≤ a) && decide (a < (partBase p).1 + (partBase p).2)).getD 6

/-! ### Reads of non-volatile memory (R653) -/

/-- A corrected read of non-volatile memory. -/
def nvmCorrected (check : Bool) (s : State) : State :=
  if check then (s.bump F.NVM_CNT_CHKBIT).raise E.NVM_CHECK_BIT_CORRECTED else s.bump F.NVM_CNT_CORR

/-- A register path reads the word at `a` of non-volatile memory: none where it is uncorrectable. -/
def nvmRead (a : Nat) (s : State) : State × Option Word :=
  let err := aget s.ecc (eccKey a)
  let r := eccDecode s.free err
  let k := s.free
  let s := if err = some .beyond then s.fresh 2 else s
  match r with
  | .clean => (s, some (s.wordAt a))
  | .data => (nvmCorrected false s, some (s.wordAt a))
  | .check => (nvmCorrected true s, some (s.wordAt a))
  | .uncorr =>
    let again := s.nvm.nvmLive && eccKey (s.get F.NVM_UNCORR_ADDR_ADDR) == eccKey a
    let s := (s.put F.NVM_UNCORR_ADDR_ADDR a).bump F.NVM_CNT_UNCORR
    let s := { s with nvm.nvmLive := true }
    let p := partOf a
    (if again then s else faultEvent 0x61 (p * 4096 + (a - (partBase p).1) / 4096) s, none)
  | .wrongData => (nvmCorrected false s, some (Config.freeWord (k + 1)))
  | .wrongClean => (s, some (Config.freeWord (k + 1)))

/-- The marks of one extent are met one after another by a reader of the link processor: counts, and where a word shows wrong data the bytes that it shows
(in place of the 16 at its offset). The answer is false where a word is uncorrectable. -/
def ownMarks (base : Nat) : List (Nat × EccErr) → State → List Byte → State × List Byte × Bool
  | [], s, bs => (s, bs, true)
  | (a, e) :: t, s, bs =>
    let r := eccDecode s.free (some e)
    let wrong := tabulate 16 fun i => Config.freeByte (s.free + 1 + i)
    let s := if e = .beyond then s.fresh 17 else s
    let s := match r with
      | .data => nvmCorrected false s
      | .wrongData => nvmCorrected false s
      | .check => nvmCorrected true s
      | .uncorr => s.bump F.NVM_CNT_UNCORR
      | _ => s
    let bs := if r = .wrongData ∨ r = .wrongClean then bs.take (a - base) ++ wrong ++ bs.drop (a - base + 16) else bs
    let (s, bs, ok) := ownMarks base t s bs
    (s, bs, ok && r != .uncorr)

/-- The link processor reads `n` bytes from `a` (both multiples of 16) for its own use: the bytes, and whether every word was readable. -/
def ownRead (a n : Nat) (s : State) : State × List Byte × Bool :=
  ownMarks a (s.ecc.filter fun e => decide (a ≤ e.1) && decide (e.1 < a + n)) s (s.bytesAt a n)

/-! ### The queue (R654) -/

/-- NVM_QUEUE shows the queue. -/
def showQueue (s : State) : State :=
  (s.put F.NVM_QUEUE_CHUNKS (satTo 255 s.nvm.queue.length)).put F.NVM_QUEUE_KIND (match s.nvm.writing with
    | some c => c.kind
    | none => 0)

/-- Chunks join the queue. -/
def enqueue (cs : List NvmChunk) (s : State) : State := showQueue { s with nvm.queue := s.nvm.queue ++ cs }

/-- The first chunk of the queue in the order of R654. -/
def nextChunk (q : List NvmChunk) : Option NvmChunk :=
  (List.range 7).findSome? fun k => q.find? fun c => c.kind == k

/-- NVM_CHUNK_START (R654). -/
def chunkStart (s : State) : State :=
  if s.nvm.writing.isSome then s else
  match nextChunk s.nvm.queue with
  | some c => showQueue { s with nvm.writing := some c, nvm.queue := s.nvm.queue.erase c }
  | none => s

/-- The chunk that is being written is stored: bytes, fresh check bits, its partition's count (R677). -/
def storeChunk (c : NvmChunk) (s : State) : State :=
  let s := { s.setBytes c.addr c.bytes with ecc := eccDrop s.ecc c.addr (c.addr + c.bytes.length) }
  let u := eccKey (s.get F.NVM_UNCORR_ADDR_ADDR)
  let s := if c.addr ≤ u ∧ u < c.addr + c.bytes.length then { s with nvm.nvmLive := false } else s
  almAdd (0x540 + 4 * partOf c.addr) 1 0xFFFFFFFF s

/-! ### System record and wear (R665–R667) -/

/-- Bytes padded with zeros to a multiple of 16. -/
def pad16 (bs : List Byte) : List Byte := bs ++ List.replicate ((16 - bs.length % 16) % 16) 0

/-- A record at `a` is written as R660 orders: its first 16 bytes as zero, its body in chunks, its first 16 bytes last. `first` and `last` tag the two
writes of the header. -/
def recordChunks (kind a : Nat) (first last : NvmTag) (bs : List Byte) : List NvmChunk :=
  let body := bs.drop 16
  let n := (body.length + 4095) / 4096
  [{ kind, addr := a, bytes := List.replicate 16 0, tag := first }]
    ++ tabulate n (fun i => { kind, addr := a + 16 + 4096 * i, bytes := (body.drop (4096 * i)).take 4096, tag := .plain })
    ++ [{ kind, addr := a, bytes := bs.take 16, tag := last }]

/-- Four bits per cell, in cell order, from the most significant end of Y3 on. -/
def causeWords (s : State) : List Word :=
  let nib := (List.range 17).map fun c => s.get (F.CELL_RET_CAUSE c)
  let at_ (i : Nat) : Nat := nib.getD i 0
  tabulate 5 fun w => BitVec.ofNat 32 ((List.range 8).foldl (fun acc i => acc * 16 + at_ (8 * w + i)) 0)

/-- The words Y0–Y16 of the system record. -/
def sysWords (seq : Nat) (s : State) : List Word :=
  let ws := [0x53590100, BitVec.ofNat 32 seq, BitVec.ofNat 32 (s.get F.ARR_RETIRED_BITS)] ++ causeWords s
    ++ [BitVec.ofNat 32 (s.get F.NVM_STAT_ARCH_RETIRED)] ++ tabulate 7 (fun p => BitVec.ofNat 32 (s.get (F.NVM_WEAR_PASSES p)))
  ws ++ [crcWords ws]

/-- The address of a copy's area: 1 = A, 2 = B. -/
def copyBase (c : Nat) : Nat := (partBase c).1

/-- The system record is queued for the copy area with the lower SYSSEQ (R665). -/
def queueSystem (s : State) : State :=
  let c := if s.nvm.sysCopy = 1 then 2 else 1
  let seq := satTo 0xFFFFFFFF (s.nvm.sysSeq + 1)
  let s := { s with nvm.sysSeq := seq, nvm.sysCopy := c }
  enqueue (recordChunks 1 (copyBase c + 0x7800) .plain .sysLast (pad16 (wordsBytes (sysWords seq s)))) s

/-- ARCHIVE is retired (R667). -/
def retireArchive (s : State) : State :=
  if s.flag F.NVM_STAT_ARCH_RETIRED then s else
  queueSystem (((s.putB F.NVM_STAT_ARCH_RETIRED true).putB F.REC_STAT_RETIRED true).raise E.NVM_ARCH_RETIRED)

/-- The archive writer is in the middle of an entry: one of its chunks is queued or being written. -/
def archBusy (s : State) : Bool :=
  let is (c : NvmChunk) : Bool := c.kind == 5
  s.nvm.queue.any is || (match s.nvm.writing with
    | some c => is c
    | none => false)

/-- A partition whose wear has reached WEAR_RETIRE: WORN, NVM_WEAR once with INFO [0] = 1 (R687), ARCHIVE's retirement (R667). -/
def checkWorn (p : Nat) (s : State) : State :=
  if s.get (F.NVM_WEAR_PASSES p) < s.get F.NVM_CFG_WEAR_RETIRE ∨ s.alm.worn.contains p then s else
  let s := { s with alm.worn := p :: s.alm.worn }.put F.NVM_STAT_WORN (setBitTo (s.get F.NVM_STAT_WORN) p true)
  let s := faultEvent 0x63 (p * 4096 + 1) s
  if p ≠ 6 then s else if archBusy s then { s with nvm.archPend := true } else retireArchive s

/-- A pass of partition `p` is counted (R666). -/
def addPass (p : Nat) (s : State) : State := queueSystem (checkWorn p (s.bump (F.NVM_WEAR_PASSES p)))

end Sys2Proof.Machine
end

