-- ==== Sys2Proof/Machine/Cells.lean ====
section
/-! DEFINITION. The cells of the array: roles, the bench, placement, retirement and REQUALIFY (chapters 12 and 17). -/

namespace Sys2Proof.Machine

/-- The cell numbers. -/
def cells : List Nat := List.range 17

/-- The serving cells, parked ones included: neither retired nor on the bench (R451, R452); none before the first bench is chosen (R625). -/
def serving (s : State) : List Nat := if !s.bist.benchUp then [] else cells.filter fun c => !retired s c && !isBench s c && !((s.bist.req.map (·.1)) == some c)

/-- ARR_STAT shows SERVING, SPARES and SHORT (R452, R477). -/
def showArr (s : State) : State :=
  let n := (serving s).length
  let s := (s.put F.ARR_STAT_SERVING n).putB F.ARR_STAT_SPARES (s.get F.ARR_RETIRED_BITS == 0)
  let short := s.bist.benchUp && decide (n < guarCells s)
  let s := if short && !s.flag F.ARR_STAT_SHORT then s.raise E.ARR_SHORT else s
  s.putB F.ARR_STAT_SHORT short

/-- Every cell's role is shown. -/
def showRoles (s : State) : State := showArr (cells.foldl showRole s)

/-- SPARES = 1: no cell is retired. -/
def spares (s : State) : Bool := s.get F.ARR_RETIRED_BITS == 0

/-- A cell's temperature in 2 °C steps (R461). -/
def tempStep (s : State) (c : Nat) : Int := s.getI (F.CELL_TEMP_TEMP c) / 20

/-- Cell `a` comes before cell `b` in placement: hot cells last, then by temperature, then by number (R461). -/
def placedBefore (s : State) (a b : Nat) : Bool :=
  let ha := s.flag (F.CELL_STAT_HOT a)
  let hb := s.flag (F.CELL_STAT_HOT b)
  if ha != hb then hb
  else if tempStep s a ≠ tempStep s b then decide (tempStep s a < tempStep s b)
  else decide (a < b)

/-- A cell put into its place of a sorted list. -/
def placeCell (s : State) (c : Nat) : List Nat → List Nat
  | [] => [c]
  | d :: t => if placedBefore s c d then c :: d :: t else d :: placeCell s c t

/-- The order of placement of serving cells. -/
def placement (s : State) : List Nat := (serving s).foldl (fun l c => placeCell s c l) []

/-- The temperatures that the cells' sensors give at a boundary, 0.1 °C, by cell. While ARR is off the CELL pages keep what they hold (R559). -/
def tickTemps (ts : List Int) (s : State) : State :=
  if 2 ≤ pstate s then s else
  (List.range (min 17 ts.length)).foldl (fun s c =>
    let t := ts.getD c 0
    (s.putI (F.CELL_TEMP_TEMP c) t).putB (F.CELL_STAT_HOT c) (decide (10 * (s.get F.ARR_CFG_HOT_TH_C : Int) ≤ t))) s

/-! ### The bench (R452, R623, R625) -/

/-- The next cell after `c` in number order that is not retired, if any. -/
def nextCell (s : State) (c : Nat) : Option Nat :=
  ((List.range 17).map fun i => (c + 1 + i) % 17).find? fun d => !retired s d

/-- The recorded bench cell (DESIGN CHOICE, log entry 4). -/
def benchRecord (s : State) : Nat := (s.wordAt 0x38003F00).toNat % 32

/-- Cell `c` goes on the bench and is recorded; its test starts. -/
def toBench (c : Nat) (s : State) : State :=
  let s := memPut 0x38003F00 [BitVec.ofNat 32 c] (s.put F.ARR_STAT_BENCH c)
  { s with bist.cell := some c, bist.pat := 0 }

/-- ARR's effective EN becomes 1 for the first time after a reset: the first bench is chosen (R625). -/
def firstBench (s : State) : State :=
  if s.bist.benchUp ∨ !s.en 0x30 then s else
  let s := { s with bist.benchUp := true }
  let s := if spares s then (match nextCell s (benchRecord s) with
    | some c => toBench c s
    | none => s) else s
  showRoles s

/-- The bench cell leaves the bench; its test is discarded (R475, R626). -/
def leaveBench (s : State) : State :=
  { s.put F.ARR_STAT_BENCH 31 with bist.cell := none, bist.pat := 0 }

/-! ### Retirement (R473–R476) -/

/-- Cell `c` is retired with that cause of CELL_RET; its partition is not looked at here. -/
def retireCell (c cause : Nat) (inj : Bool) (s : State) : State :=
  if retired s c then s else
  let s := if s.gov.live.contains c then showLive { s with gov.live := s.gov.live.filter (· ≠ c), gov.pred := s.gov.pred - cellCost s (level s) } else s
  let s := if isBench s c then leaveBench s else s
  let s := s.put F.ARR_RETIRED_BITS (setBitTo (s.get F.ARR_RETIRED_BITS) c true)
  let s := (s.put (F.CELL_RET_CAUSE c) cause).put (F.CELL_RETTICK_TICK c) s.tick.num
  let s := almCount 11 (s.raise E.ARR_CELL_FAIL)
  -- while a cell is retired no cell is on the bench, and every other cell serves (R452)
  let s := if s.get F.ARR_STAT_BENCH = 31 then s else leaveBench s
  faultEvent 0x51 c (queueSystem (showRoles s)) false inj

/-- The partition of a failed cell goes to the bench cell, which leaves the bench, or to the head of the dispatch order (R475). -/
def failCell (c cause : Nat) (inj : Bool) (s : State) : State :=
  if retired s c then s else
  let bench := s.get F.ARR_STAT_BENCH
  match aget s.arr.work c with
  | none => retireCell c cause inj s
  | some p =>
    let s := takeWork c s
    let run := s.arr.run.map fun r => { r with repeated := true }
    let s := { s with arr.run := run }.bump F.ARR_CNT_REPEATED
    let s := retireCell c cause inj s
    if bench = 31 then { s with arr.queue := p :: s.arr.queue }
    else
      let s := unparkCell bench s
      let run := s.arr.run.map fun r => { r with list := r.list ++ [bench] }
      showRoles (giveWork bench p { s with arr.run := run })

/-! ### REQUALIFY (R478, R628, R630) -/

/-- ARR_CMDSTAT shows the last command. -/
def cmdStat (op result cell : Nat) (s : State) : State :=
  ((s.put F.ARR_CMDSTAT_OP op).put F.ARR_CMDSTAT_RESULT result).put F.ARR_CMDSTAT_CELL cell

/-- A write of ARR_CELLCMD; an OP other than REQUALIFY does nothing. -/
def cellCmd (w : Word) (s : State) : State :=
  let c := getBits w 4 0
  if getBits w 31 24 ≠ 1 then s
  else if 17 ≤ c ∨ !retired s c ∨ s.bist.req.isSome ∨ s.flag F.BIST_STAT_ROM_BAD then cmdStat 1 3 c s
  else showRoles ((cmdStat 1 1 c { s with bist.req := some (c, 0), bist.reqEnd := none }).putB F.BIST_STAT_REQ_RUN true)

/-- REQUAL_DONE: the test has ended. -/
def requalDone (s : State) : State := match s.bist.req, s.bist.reqEnd with
  | some (c, _), some pass =>
    let s := { s with bist.req := none, bist.reqEnd := none }.putB F.BIST_STAT_REQ_RUN false
    let s := (cmdStat 1 (if pass then 2 else 3) c s).raise E.ARR_REQUAL_DONE
    if !pass then showRoles s
    else
      let s := s.put F.ARR_RETIRED_BITS (setBitTo (s.get F.ARR_RETIRED_BITS) c false)
      let s := (s.put (F.CELL_RET_CAUSE c) 0).put (F.CELL_RETTICK_TICK c) 0
      let s := if spares s && s.get F.ARR_STAT_BENCH == 31 then toBench c s else s
      queueSystem (showRoles s)
  | _, _ => s

end Sys2Proof.Machine
end

