-- ==== Sys2Proof/Machine/Tensor.lean ====
section
/-! DEFINITION. Model images, tiles, weights and operators of the inference array (chapters 12 and 13): what a cell reads and computes. -/

namespace Sys2Proof.Machine

/-! ### Model images (R453, R455) -/

/-- A layer descriptor. -/
structure LayerD where
  op : Nat
  path : Nat
  wfmt : Nat
  npart : Nat
  sub : Nat
  wsrc : Nat
  inO : Nat
  in2 : Nat
  out : Nat
  nIn : Nat
  nOut : Nat
  ksize : Nat
  stride : Nat
  len : Nat
  woff : Nat
  m : Nat
  shift : Nat
  p6 : Nat
  deriving DecidableEq, Repr

/-- The first byte of MODEL A (0) or B (1). -/
def imageBase (slot : Nat) : Nat := (partBase (3 + slot)).1

/-- Header word H`i` of a slot's image. -/
def imageWordN (s : State) (slot i : Nat) : Nat := (s.wordAt (imageBase slot + 4 * i)).toNat

/-- Fields of the header. -/
def imageLen (s : State) (slot : Nat) : Nat := imageWordN s slot 2
def layerCount (s : State) (slot : Nat) : Nat := imageWordN s slot 3 / 2 ^ 24
def inTiles (s : State) (slot : Nat) : Nat := imageWordN s slot 4 / 65536
def outCount (s : State) (slot : Nat) : Nat := imageWordN s slot 4 % 65536
def arenaLen (s : State) (slot : Nat) : Nat := imageWordN s slot 5

/-- Layer `i` of a slot's image. -/
def layerAt (s : State) (slot i : Nat) : LayerD :=
  let w (k : Nat) : Word := s.wordAt (imageBase slot + 0x40 + 32 * i + 4 * k)
  { op := getBits (w 0) 31 28, path := getBits (w 0) 27 26, wfmt := getBits (w 0) 25 24, npart := getBits (w 0) 23 16,
    sub := getBits (w 0) 15 12, wsrc := getBits (w 0) 11 11, inO := (w 1).toNat, in2 := (w 2).toNat, out := (w 3).toNat,
    nIn := getBits (w 4) 31 16, nOut := getBits (w 4) 15 0, ksize := getBits (w 5) 31 24, stride := getBits (w 5) 23 16,
    len := getBits (w 5) 15 0, woff := (w 6).toNat, m := getBits (w 7) 31 16, shift := getBits (w 7) 12 8, p6 := getBits (w 7) 7 0 }

/-- The positions of a layer's output: LEN, and for the operators with taps those at which every tap lies inside (DEDUCED, log entry 80). -/
def outLen (l : LayerD) : Nat :=
  if l.op = 2 ∨ l.op = 3 ∨ l.op = 4 then (if l.len < l.ksize then 0 else (l.len - l.ksize) / max 1 l.stride + 1) else l.len

/-- The tiles of a tensor of `n` values, and its bytes in slot placement (R483, R486). -/
def tilesOf (n : Nat) : Nat := (n + 255) / 256
def extent (n : Nat) : Nat := 320 * tilesOf n

/-- The channels of the second input (CONCAT takes the rest of N_OUT). -/
def in2Chans (l : LayerD) : Nat := if l.op = 7 then l.nOut - l.nIn else if l.op = 6 then l.nIn else 0

/-- The columns of a layer's weights (R490). -/
def colsOf (l : LayerD) : Nat := if l.op = 2 then l.ksize * l.nIn else if l.op = 3 then l.ksize else l.nIn

/-- A layer has weights. -/
def hasWeights (l : LayerD) : Bool := l.op == 1 || l.op == 2 || l.op == 3

/-- The bytes of weights in the formats of fixed size. -/
def weightLen (l : LayerD) : Nat :=
  if l.wfmt = 0 then l.nOut * colsOf l else if l.wfmt = 1 then l.nOut * ((colsOf l + 1) / 2) else 0

/-- Two ranges of bytes overlap. -/
def overlap (a la b lb : Nat) : Bool := decide (a < b + lb) && decide (b < a + la)

/-- A 16-bit number at `a`. -/
def halfAt (s : State) (a : Nat) : Nat := bytesNat (s.bytesAt a 2)

/-- A descriptor passes the soundness check (R458, R454); `d` is its words, `arena`, `wlo` and `whi` the arena's length and the bounds of the weights. -/
def layerSound (l : LayerD) (res : Nat) (arena wlo whi : Nat) : Bool :=
  let ni := l.len * l.nIn
  let no := outLen l * l.nOut
  let n2 := l.len * in2Chans l
  let two := l.op == 6 || l.op == 7
  decide (1 ≤ l.op) && decide (l.op ≤ 8) && decide (l.path ≤ 2) && decide (l.wfmt ≤ 2) && decide (1 ≤ l.npart) && decide (l.npart ≤ 16)
    && (if l.op = 4 then decide (l.sub ≤ 1) else if l.op = 5 then decide (l.sub ≤ 2) else l.sub == 0)
    && decide (1 ≤ l.ksize) && decide (l.ksize ≤ 32) && decide (1 ≤ l.stride) && decide (l.stride ≤ 8) && decide (1 ≤ l.len) && decide (l.len ≤ 4096)
    && decide (1 ≤ l.p6) && decide (l.p6 ≤ 127) && res == 0 && (two || l.in2 == 0)
    && (l.path == 0 || decide (l.op ≤ 2)) && (l.wsrc == 0 || decide (l.op ≤ 2)) && (l.op != 3 || l.nIn == l.nOut)
    && l.inO % 64 == 0 && l.in2 % 64 == 0 && l.out % 64 == 0
    && decide (l.inO + extent ni ≤ arena) && decide (l.out + extent no ≤ arena) && (!two || decide (l.in2 + extent n2 ≤ arena))
    && !overlap l.out (extent no) l.inO (extent ni) && !(two && overlap l.out (extent no) l.in2 (extent n2))
    && (l.wsrc == 1 || !hasWeights l || (decide (wlo ≤ l.woff) && decide (l.woff + weightLen l ≤ whi)))

/-- Where the blocks of compressed rows from `a` on end, as their headers say, for the rows from `row` on: none beyond `limit`. A block without rows ends the walk, since
R492 stops it when it is read (DEDUCED, log entry 172). -/
def blocksEnd (s : State) (rows limit : Nat) : Nat → Nat → Nat → Option Nat
  | 0, _, a => some a
  | f + 1, row, a =>
    if rows ≤ row then some a
    else if limit < a + 12 then none
    else
      let n := halfAt s (a + 6)
      let e := a + (12 + 2 * (n + 1) + 3 * halfAt s (a + 10) + 3) / 4 * 4
      if limit < e then none else if n = 0 then some e else blocksEnd s rows limit f (row + n) e

/-- The blocks of a layer in compressed rows end before the image's CRC at `limit`. -/
def blocksFit (s : State) (l : LayerD) (base limit : Nat) : Bool :=
  l.wsrc == 1 || !hasWeights l || l.wfmt != 2 || (blocksEnd s l.nOut limit l.nOut 0 (base + l.woff)).isSome

/-- The image of a slot is sound (R454). -/
def imageSound (s : State) (slot : Nat) : Bool :=
  let h (i : Nat) : Nat := imageWordN s slot i
  let n := layerCount s slot
  let len := imageLen s slot
  let outs := outCount s slot
  h 0 / 65536 == 0x4D44 && h 0 / 256 % 256 == 1 && h 0 % 256 / 2 == 0 && decide (1 ≤ n) && decide (n ≤ 64) && decide (h 3 / 65536 % 256 ≤ 1)
    && decide (1 ≤ inTiles s slot) && decide (inTiles s slot ≤ 1024) && decide (1 ≤ outs) && decide (outs ≤ 4096)
    && (List.range 10).all (fun i => h (6 + i) == 0) && decide (0x40 + 32 * n + 68 ≤ len) && decide (len ≤ 0x100000)
    && (List.range n).all fun i =>
      let a := imageBase slot + 0x40 + 32 * i
      let res := (s.wordAt a).toNat % 2048 + (s.wordAt (a + 28)).toNat / 8192 % 8
      layerSound (layerAt s slot i) res (arenaLen s slot) (0x40 + 32 * n) (len - 68)
        && blocksFit s (layerAt s slot i) (imageBase slot) (imageBase slot + len - 68)

/-! ### Tiles (R484, R485, R492) -/

/-- What reading a tile gives: a failed check, an unreadable word, or NNZ and the 256 values. -/
inductive TileRead where
  | bad (code : Nat)
  | unreadable
  | ok (nnz : Nat) (vals : List Int)
  deriving DecidableEq, Repr

/-- The values of a SPARSE tile: `bits` says by index whether a value is packed. -/
def spread : List Bool → List Int → List Int
  | [], _ => []
  | true :: t, v :: vs => v :: spread t vs
  | true :: t, [] => 0 :: spread t []
  | false :: t, vs => 0 :: spread t vs

/-- The bits of a bitmap's bytes in index order. -/
def bitmapBits (bs : List Byte) : List Bool := bs.flatMap fun b => tabulate 8 fun i => bitOf b.toNat i

/-- A byte as int8. -/
def int8 (b : Byte) : Int := signed 8 b.toNat

/-- The number of non-zero values. -/
def nonZero (vs : List Int) : Nat := (vs.filter (· != 0)).length

/-- The checks of R492 on a tile's header and body. -/
def checkTile (fmt flags nnz plen res : Nat) (body : List Byte) : TileRead :=
  if (fmt ≠ 1 ∧ fmt ≠ 2) ∨ flags / 2 ≠ 0 ∨ res ≠ 0 ∨ 256 < nnz then .bad 0x01
  else if fmt = 2 then
    let bits := bitmapBits (body.take 32)
    if (bits.filter id).length ≠ nnz then .bad 0x02
    else if plen ≠ nnz then .bad 0x03
    else .ok nnz (spread bits ((body.drop 32).map int8))
  else
    let vals := (body.take 256).map int8
    if plen ≠ 256 then .bad 0x03
    else if nonZero vals ≠ nnz then .bad 0x04
    else .ok nnz vals

/-- The tile at SRAM address `a` is read. -/
def readTile (a : Nat) (s : State) : State × TileRead :=
  if !inPoweredSram s a 8 then (s, .unreadable) else
  match memReads 2 a s with
  | (s, some [h0, h1]) =>
    let fmt := getBits h0 31 24
    let nnz := getBits h0 15 0
    let n := if fmt = 1 then 64 else if fmt = 2 ∧ nnz ≤ 256 then 8 + (nnz + 3) / 4 else 0
    if n ≠ 0 ∧ !inPoweredSram s (a + 8) (4 * n) then (s, .unreadable) else
    match memReads n (a + 8) s with
    | (s, some ws) => (s, checkTile fmt (getBits h0 23 16) nnz (getBits h1 31 16) (getBits h1 15 0) (wordsBytes ws))
    | (s, none) => (s, .unreadable)
  | (s, _) => (s, .unreadable)

/-- What reading a tensor gives: the failed check and its tile, an unreadable word, or all values and each tile's NNZ. -/
inductive TensorRead where
  | bad (code tile : Nat)
  | unreadable
  | ok (vals : List Int) (nnzs : List Nat)
  deriving DecidableEq, Repr

/-- `n` tiles in slot placement from `base` on, from tile `j` on. -/
def readTiles (base : Nat) : Nat → Nat → State → State × TensorRead
  | 0, _, s => (s, .ok [] [])
  | n + 1, j, s =>
    match readTile (base + 320 * j) s with
    | (s, .bad c) => (s, .bad c j)
    | (s, .unreadable) => (s, .unreadable)
    | (s, .ok z vs) =>
      match readTiles base n (j + 1) s with
      | (s, .ok ws zs) => (s, .ok (vs ++ ws) (z :: zs))
      | r => r

/-- A dense tile's bytes (R488). -/
def denseTile (sat : Bool) (vs : List Int) : List Byte :=
  let vs := (vs ++ List.replicate 256 0).take 256
  [1, BitVec.ofNat 8 (b2n sat)] ++ natBytes 2 (nonZero vs) ++ natBytes 2 256 ++ [0, 0] ++ vs.map fun v => BitVec.ofNat 8 (toCode 8 v)

/-- A tile in SPARSE form. -/
def sparseTile (vs : List Int) : List Byte :=
  let vs := (vs ++ List.replicate 256 0).take 256
  let n := nonZero vs
  let bit (m : Nat) : Byte := BitVec.ofNat 8 ((List.range 8).foldl (fun a b => if vs.getD (8 * m + b) 0 ≠ 0 then a + 2 ^ b else a) 0)
  [2, 0] ++ natBytes 2 n ++ natBytes 2 n ++ [0, 0] ++ tabulate 32 bit ++ (vs.filter (· != 0)).map fun v => BitVec.ofNat 8 (toCode 8 v)

/-- Bytes stored by the array or the DMA engine; nothing is stored where a bank does not serve. -/
def sramBytes (a : Nat) (bs : List Byte) (s : State) : State :=
  if inPoweredSram s a bs.length then { s.setBytes a bs with ecc := eccRewrite s.ecc (eccKey a) (a + bs.length) } else s

/-! ### Weights (R490–R492) -/

/-- The weights of the rows that a partition needs, as pairs of column and value, by row; or the failed check and its block. -/
inductive WeightRead where
  | bad (code block : Nat)
  | ok (rows : List (List (Nat × Int)))
  deriving DecidableEq, Repr

/-- The rows of fixed-size formats. -/
def plainRow (s : State) (a wfmt cols o : Nat) : List (Nat × Int) :=
  if wfmt = 0 then (List.range cols).map fun c => (c, int8 (s.byteAt (a + o * cols + c)))
  else (List.range cols).map fun c =>
    let b := (s.byteAt (a + o * ((cols + 1) / 2) + c / 2)).toNat
    (c, signed 4 (if c % 2 = 0 then b % 16 else b / 16))

/-- A list is nowhere falling. -/
def rising : List Nat → Bool
  | a :: b :: t => decide (a ≤ b) && rising (b :: t)
  | _ => true

/-- A list is strictly rising. -/
def strict : List Nat → Bool
  | a :: b :: t => decide (a < b) && strict (b :: t)
  | _ => true

/-- The block at `a`, which has to begin with row `row` of `rows`, with `cols` columns and end by `limit`: the failed check (R492), or its rows and the
next block's address. -/
def crBlock (s : State) (a row rows cols limit : Nat) : Nat ⊕ (List (List (Nat × Int)) × Nat) :=
  let n := halfAt s (a + 6)
  let nnz := halfAt s (a + 10)
  let rp := tabulate (n + 1) fun i => halfAt s (a + 12 + 2 * i)
  let ciA := a + 12 + 2 * (n + 1)
  let ci := tabulate nnz fun i => halfAt s (ciA + 2 * i)
  let vA := ciA + 2 * nnz
  let rowOf (r : Nat) : List Nat := (ci.take (rp.getD (r + 1) 0)).drop (rp.getD r 0)
  let len := (12 + 2 * (n + 1) + 3 * nnz + 3) / 4 * 4
  if halfAt s a ≠ 0x4352 ∨ halfAt s (a + 2) ≠ 0x0100 then .inl 0x10
  else if n = 0 ∨ halfAt s (a + 4) ≠ row ∨ rows < row + n then .inl 0x11
  else if halfAt s (a + 8) ≠ cols then .inl 0x12
  else if rp.getD 0 0 ≠ 0 then .inl 0x13
  else if !rising rp then .inl 0x14
  else if rp.getD n 0 ≠ nnz then .inl 0x15
  else if ci.any (fun c => decide (cols ≤ c)) then .inl 0x16
  else if !(List.range n).all (fun r => strict (rowOf r)) then .inl 0x17
  else if limit < a + len then .inl 0x18
  else .inr ((List.range n).map (fun r =>
    ((List.range (rp.getD (r + 1) 0)).drop (rp.getD r 0)).map fun i => (ci.getD i 0, int8 (s.byteAt (vA + i)))), a + len)

/-- Blocks from `a` on until rows below `hi` are read. -/
def crRows (s : State) (hi rows cols limit : Nat) : Nat → Nat → Nat → Nat → WeightRead
  | 0, _, _, _ => .ok []
  | f + 1, a, row, k =>
    if hi ≤ row then .ok [] else
    match crBlock s a row rows cols limit with
    | .inl c => .bad c k
    | .inr (rs, a') =>
      match crRows s hi rows cols limit f a' (row + rs.length) (k + 1) with
      | .ok more => .ok (rs ++ more)
      | r => r

/-- The weight rows `lo` to `hi` − 1 of a layer whose weights begin at `a` and may reach to `limit`. -/
def readWeights (s : State) (l : LayerD) (a limit lo hi : Nat) : WeightRead :=
  if !hasWeights l then .ok []
  else if l.wfmt = 2 then match crRows s hi l.nOut (colsOf l) limit (hi + 1) a 0 0 with
    | .ok rs => .ok ((rs.take hi).drop lo)
    | r => r
  else .ok (((List.range hi).drop lo).map (plainRow s a l.wfmt (colsOf l)))

/-! ### Operators (R456, R457) -/

/-- sat8, with whether it clamped. -/
def sat8 (x : Int) : Int × Bool := (clampInt (-128) 127 x, clampInt (-128) 127 x != x)

/-- Requantisation of a 32-bit accumulator. -/
def requant (l : LayerD) (acc : Int) : Int × Bool :=
  let a := signed 32 (toCode 32 acc)
  sat8 ((a * l.m + 2 ^ (l.shift + 15)) / 2 ^ (l.shift + 16))

/-- The rounded mean, half away from zero. -/
def mean (xs : List Int) : Int := divRound (xs.foldl (· + ·) 0) (max 1 xs.length)

/-- The sum of products of a weight row with the inputs that `x` gives by column. -/
def dot (row : List (Nat × Int)) (x : Nat → Int) : Int := row.foldl (fun a w => a + w.2 * x w.1) 0

/-- The output of channel `c` at position `p`; `x` and `y` give the values of the inputs by index, `row` is the channel's weights. -/
def operate (l : LayerD) (x y : Nat → Int) (row : List (Nat × Int)) (p c : Nat) : Int × Bool :=
  let at_ (q ch : Nat) : Int := x (q * l.nIn + ch)
  match l.op with
  | 1 => requant l (dot row fun i => at_ p i)
  | 2 => requant l (dot row fun i => at_ (p * l.stride + i / l.nIn) (i % l.nIn))
  | 3 => requant l (dot row fun k => at_ (p * l.stride + k) c)
  | 4 =>
    let xs := (List.range l.ksize).map fun k => at_ (p * l.stride + k) c
    if l.sub = 0 then (xs.foldl max (-128), false) else (mean xs, false)
  | 5 =>
    let v := at_ p c
    match l.sub with
    | 0 => (max v 0, false)
    | 1 => (min (max v 0) l.p6, false)
    | _ => (clampInt 0 127 (((2 * v + l.p6) * 127 + l.p6) / (2 * l.p6 : Nat)), false)
  | 6 => sat8 (at_ p c + y (p * l.nIn + c))
  | 7 => (if c < l.nIn then at_ p c else y (p * (l.nOut - l.nIn) + (c - l.nIn)), false)
  | _ => requant l (at_ p c)

/-- The channels of partition `k`: a contiguous share of N_OUT (R461). -/
def shareOf (l : LayerD) (k : Nat) : Nat × Nat := (k * l.nOut / max 1 l.npart, (k + 1) * l.nOut / max 1 l.npart)

/-- The outputs of channels `lo` to `hi` − 1: position, channel, value and whether it was clamped. -/
def outputs (l : LayerD) (x y : List Int) (rows : List (List (Nat × Int))) (lo hi : Nat) : List (Nat × Nat × Int × Bool) :=
  let xa := x.toArray
  let ya := y.toArray
  let ra := rows.toArray
  (List.range (outLen l)).flatMap fun p => ((List.range hi).drop lo).map fun c =>
    let r := operate l (fun i => xa.getD i 0) (fun i => ya.getD i 0) (ra.getD (c - lo) []) p c
    (p, c, r.1, r.2)

end Sys2Proof.Machine
end

