-- ==== Sys2Proof/Machine/Learn.lean ====
section
/-! DEFINITION. The learned head, stored tiles, and commissioning learning: capture, training, sealing (chapter 13). -/

namespace Sys2Proof.Machine

/-! ### The head (R512, R513) -/

/-- The first byte of copy A (1) or B (2) of a slot's head area. -/
def headBase (slot copy : Nat) : Nat := imageBase slot + 0xE0000 + (copy - 1) * 0x10000

/-- Word HW`i` of a copy. -/
def headWord (s : State) (slot copy i : Nat) : Word := s.wordAt (headBase slot copy + 4 * i)

/-- The length of a copy in bytes. -/
def headLen (s : State) (slot copy : Nat) : Nat := (headWord s slot copy 3).toNat

/-- The CRC of a copy agrees. -/
def headCrcOk (s : State) (slot copy : Nat) : Bool :=
  let n := headLen s slot copy
  let b := headBase slot copy
  decide (36 ≤ n) && decide (n ≤ 0x10000) && crc32c (s.bytesAt b (n - 4)) == s.wordAt (b + n - 4)

/-- A copy is valid (R513). -/
def headValid (s : State) (slot copy : Nat) : Bool :=
  let h := headWord s slot copy 0
  getBits h 31 8 == 0x484401 && headWord s slot copy 1 == s.wordAt (imageBase slot + 4) && headCrcOk s slot copy

/-- SEQ of a copy. -/
def headSeq (s : State) (slot copy : Nat) : Nat := (headWord s slot copy 4).toNat

/-- No head is in force. -/
def noHead (s : State) : State :=
  ((((s.put F.PRUNE_HSTAT_COPY 0).putB F.PRUNE_HSTAT_HEAD_OK false).put F.PRUNE_HSTAT_SEQ 0).put F.PRUNE_HSTAT_WFMT 0).put F.PRUNE_HLEN_LEN 0

/-- The head in force of the slot in force is determined: the valid copy with the higher SEQ, A of equal ones (DEDUCED, log entry 182). -/
def determineHead (s : State) : State :=
  let slot := s.arr.slot
  let a := headValid s slot 1
  let b := headValid s slot 2
  let c := if a && (!b || decide (headSeq s slot 2 ≤ headSeq s slot 1)) then 1 else if b then 2 else 0
  if c = 0 then noHead s else
  let s := ((s.put F.PRUNE_HSTAT_COPY c).putB F.PRUNE_HSTAT_HEAD_OK true).put F.PRUNE_HSTAT_SEQ (headSeq s slot c % 65536)
  (s.put F.PRUNE_HSTAT_WFMT (getBits (headWord s slot c 0) 7 0)).put F.PRUNE_HLEN_LEN (headLen s slot c)

/-- The copy in force, 0 for none. -/
def headCopy (s : State) : Nat := if s.flag F.PRUNE_HSTAT_HEAD_OK then s.get F.PRUNE_HSTAT_COPY else 0

/-- The link processor checks the CRC of the head in force again (R494). -/
def recheckHead (s : State) : State :=
  let c := headCopy s
  if c = 0 ∨ headCrcOk s s.arr.slot c then s else s.putB F.PRUNE_HSTAT_HEAD_OK false

/-! ### The head layer (R503) -/

/-- The layers of the slot in force that use the head. -/
def headLayers (s : State) : List LayerD :=
  if !s.flag F.ARR_STAT_MODEL_OK then []
  else (tabulate (layerCount s s.arr.slot) (layerAt s s.arr.slot)).filter fun l => l.wsrc == 1

/-- The one head layer that learning uses. -/
def headLayer (s : State) : Option LayerD := match headLayers s with
  | [l] => if l.op = 1 ∧ l.len = 1 then some l else none
  | _ => none

/-! ### Stored tiles (R487, R496) -/

/-- Bytes padded with zeros to a multiple of 16, as an entry of a stream is. -/
def entryBytes (bs : List Byte) : List Byte := bs ++ List.replicate ((16 - bs.length % 16) % 16) 0

/-- A tile of 256 values that the DMA engine stores: its bytes under FORM `form`, counted; an injection flips one bitmap bit of a SPARSE tile. -/
def storedTile (form : Nat) (vs : List Int) (s : State) : State × List Byte :=
  let n := nonZero vs
  if form = 2 ∨ (form = 0 ∧ n ≤ s.get F.DMA_CFG_STORE_TH) then
    let s := s.bump F.DMA_CNT_SPARSE
    let bs := sparseTile vs
    if s.armedAt 0x42 1 then
      -- which bit is flipped is not defined
      let k := Config.freeNat s.free % 256
      let b := bs.getD (8 + k / 8) 0 ^^^ BitVec.ofNat 8 (2 ^ (k % 8))
      ((s.fresh).disarm 0x42 1, bs.take (8 + k / 8) ++ [b] ++ bs.drop (9 + k / 8))
    else (s, bs)
  else (s.bump F.DMA_CNT_DENSE, denseTile false vs)

/-- A tensor's values in groups of 256, the last one filled with zeros. -/
def tileGroups : Nat → List Int → List (List Int)
  | 0, _ => []
  | n + 1, vs => ((vs.take 256) ++ List.replicate (256 - (vs.take 256).length) 0) :: tileGroups n (vs.drop 256)

/-- The stream entries of tiles, one after another. -/
def streamTiles : List (List Int) → State → State × List Byte
  | [], s => (s, [])
  | g :: t, s =>
    let (s, b) := storedTile 0 g s
    let (s, r) := streamTiles t s
    (s, entryBytes b ++ r)

/-! ### States (R505, R518) -/

/-- PRUNE_LSTAT.STATE. -/
def learnState (s : State) : Nat := s.get F.PRUNE_LSTAT_STATE

/-- STATE is 1–4. -/
def learning (s : State) : Bool := decide (1 ≤ learnState s) && decide (learnState s ≤ 4)

/-- STATE changes. -/
def setLearn (k : Nat) (s : State) : State :=
  if learnState s = k then s else (s.put F.PRUNE_LSTAT_STATE k).raise E.PRUNE_STATE_CHANGE

/-- What training and sealing hold is dropped. -/
def dropWork (s : State) : State :=
  let l := { s.learn with todo := [], cur := none, xs := [], ts := [], es := [], step := 0, epochOn := false, rows := [], fresh := none }
  { s with learn := l }

/-- The learning areas are lost (R518). -/
def learnLost (s : State) : State := if learning s then (setLearn 5 (dropWork s)).raise E.PRUNE_LOST else s

/-! ### The sample ring (R506, R507) -/

/-- Samples held are shown. -/
def showHeld (s : State) : State := s.put F.PRUNE_LPROG_HELD (satTo 65535 s.learn.held.length)

/-- Samples whose space [lo, hi) of the ring is needed are overwritten: they stop counting as held, and one whose turn in the epoch has not come is
skipped (R508). -/
def overwrite (lo hi : Nat) (s : State) : State :=
  let hit (x : Sample) : Bool := decide (x.off < hi) && decide (lo < x.off + x.len)
  let n := (s.learn.todo.filter hit).length
  let s := { s with learn.held := s.learn.held.filter (fun x => !hit x), learn.todo := s.learn.todo.filter (fun x => !hit x) }
  showHeld (s.bump F.PRUNE_LCNT_SKIPPED n)

/-- SAMPLE_CAPTURE: the head layer `l` starts in a run of snapshot `snap`, whose arena is at `arena`. Where an input tile or a target cannot be read, no sample
is stored. -/
def capture (l : LayerD) (arena snap : Nat) (s : State) : State :=
  if learnState s ≠ 1 ∧ learnState s ≠ 2 then s else
  match readTiles (arena + l.inO) (tilesOf l.nIn) 0 s with
  | (s, .ok vs _) =>
    match memReads ((l.nOut + 1) / 2) (s.get F.PRUNE_TGT_ADDR) s with
    | (s, some ts) =>
      let (s, tiles) := streamTiles (tileGroups (tilesOf l.nIn) vs) s
      let targets := entryBytes ((wordsBytes ts).take (2 * l.nOut))
      let len := 16 + tiles.length + targets.length
      let ring := 16 * s.get F.PRUNE_SLEN_LEN
      if ring < len then s else
      let base := s.get F.PRUNE_SAMP_ADDR
      let w := s.learn.wpos
      let wrap := decide (ring < w + len)
      let s := if wrap && decide (w < ring) then sramBytes (base + w) (natBytes 4 0x53570000 ++ List.replicate 12 0) (overwrite w (w + 16) s) else s
      let off := if wrap then 0 else w
      let num := s.learn.captures + 1
      let hdr := natBytes 4 (0x53410000 + 256 * (tilesOf l.nIn % 256)) ++ natBytes 4 (l.nOut * 65536 + len / 16) ++ natBytes 4 snap ++ natBytes 4 num
      let s := sramBytes (base + off) (hdr ++ tiles ++ targets) (overwrite off (off + len) s)
      { s with learn.fresh := some { off, len, num } }
    | (s, none) => s
  | (s, _) => s

/-- The run of the sample stored last has ended: with a valid verdict the sample counts as held, and COLLECT may become TRAIN (R505, R506). -/
def holdSample (ok : Bool) (s : State) : State := match s.learn.fresh with
  | some x =>
    let s := { s with learn.fresh := none }
    if !ok ∨ (learnState s ≠ 1 ∧ learnState s ≠ 2) then s else
    let s := { s with learn.held := s.learn.held ++ [x], learn.wpos := x.off + x.len, learn.captures := x.num }
    let s := showHeld (s.put F.PRUNE_LCNT_CAPTURES (satTo (2 ^ 24 - 1) x.num))
    if learnState s = 1 ∧ s.get F.PRUNE_SMIN2_S_MIN ≤ s.learn.held.length then setLearn 2 s else s
  | none => s

/-! ### Working weights -/

/-- Saturation to int16. -/
def sat16 (x : Int) : Int := clampInt (-32768) 32767 x

/-- int16 values as bytes. -/
def halves (vs : List Int) : List Byte := vs.flatMap fun v => natBytes 2 (toCode 16 v)

/-- int16 values of bytes. -/
def ofHalves : List Byte → List Int
  | a :: b :: t => signed 16 (bytesNat [a, b]) :: ofHalves t
  | _ => []

/-- Row `o` of the working weights (R503): none where a word of it is uncorrectable. -/
def weightRow (l : LayerD) (o : Nat) (s : State) : State × Option (List Int) :=
  if s.armedAt 0x43 1 then (s.disarm 0x43 1, none) else
  let a := s.get F.PRUNE_HEAD_ADDR + 2 * o * l.nIn
  let lo := a / 4 * 4
  let hi := (a + 2 * l.nIn + 3) / 4 * 4
  if !inPoweredSram s lo (hi - lo) then (s, none) else
  match memReads ((hi - lo) / 4) lo s with
  | (s, some ws) => (s, some (ofHalves (((wordsBytes ws).drop (a - lo)).take (2 * l.nIn))))
  | (s, none) => (s, none)

/-- Row `o` written. -/
def putRow (l : LayerD) (o : Nat) (vs : List Int) (s : State) : State :=
  sramBytes (s.get F.PRUNE_HEAD_ADDR + 2 * o * l.nIn) (halves vs) s

/-- x shifted right by `n` with rounding, the rounding term being 0 for n = 0. -/
def roundShift (x : Int) (n : Nat) : Int := if n = 0 then x else (x + 2 ^ (n - 1)) / 2 ^ n

/-- LR (R508). -/
def lrate (s : State) : Nat :=
  min (s.get F.PRUNE_LRATE_LR_MAX) (s.get F.PRUNE_LRATE_LR0 + s.get F.PRUNE_LSTAT_EPOCHS / max 1 (s.get F.PRUNE_LRATE_LR_STEP))

/-- A word of SRAM at `a` has been found uncorrectable: one of the working weights loses learning, whoever has read it (R518). -/
def weightsHit (a : Nat) (s : State) : State := match headLayer s with
  | some l =>
    let h := s.get F.PRUNE_HEAD_ADDR
    if h < eccKey a + 8 ∧ eccKey a < h + 2 * l.nIn * l.nOut then learnLost s else s
  | none => s

/-! ### Training (R508–R510) -/

/-- Tiles of stream entries from `a` on: the values, or none where one cannot be read or fails a check. -/
def streamRead : Nat → Nat → State → State × Option (List Int)
  | 0, _, s => (s, some [])
  | n + 1, a, s =>
    match readTile a s with
    | (s, .ok z vs) =>
      let fmt := (s.byteAt a).toNat
      let len := if fmt = 2 then (40 + z + 15) / 16 * 16 else 272
      match streamRead n (a + len) s with
      | (s, some r) => (s, some (vs ++ r))
      | r => r
    | (s, _) => (s, none)

/-- A sample load: the sample in hand, or skipped and counted where it cannot be read. -/
def loadSample (l : LayerD) (x : Sample) (s : State) : State :=
  let a := s.get F.PRUNE_SAMP_ADDR + x.off
  let tn := (2 * l.nOut + 15) / 16 * 16
  let skip (s : State) : State := s.bump F.PRUNE_LCNT_SKIPPED
  match streamRead (tilesOf l.nIn) (a + 16) s with
  | (s, some xs) =>
    match memReads (tn / 4) (a + x.len - tn) s with
    | (s, some ts) =>
      let r := { s.learn with cur := some x, xs := xs.take l.nIn, ts := (ofHalves (wordsBytes ts)).take l.nOut, es := [], step := 1 }
      { s with learn := r }
    | (s, none) => skip s
  | (s, none) => skip s

/-- The conditions of R510 for READY, with the mean |e| of the epoch that has ended. -/
def readyNow (mean : Nat) (s : State) : Bool :=
  let th := s.get F.PRUNE_EPOCH_ERR_TH
  decide (s.get F.PRUNE_SMIN_S_TOTAL ≤ s.learn.captures) && decide (s.get F.PRUNE_EPOCH_EPOCH_MIN ≤ s.get F.PRUNE_LSTAT_EPOCHS)
    && (th == 0 || (decide (0 < s.learn.errCnt) && decide (mean ≤ th)))

/-- The mean |e| of the epoch. -/
def epochMean (s : State) : Nat := satTo 65535 (s.learn.errSum / max 1 s.learn.errCnt)

/-- An epoch has ended (R510). -/
def epochEnd (s : State) : State :=
  let mean := epochMean s
  let s1 := { s with learn.epochOn := false }.bump F.PRUNE_LSTAT_EPOCHS
  let s2 := (if s.learn.errCnt = 0 then s1 else s1.put F.PRUNE_LPROG_ERR mean).raise E.PRUNE_EPOCH
  if readyNow mean s2 then setLearn 3 s2 else s2

/-- A forward row (R508). -/
def forwardRow (l : LayerD) (o : Nat) (s : State) : State := match weightRow l o s with
  | (s, none) => learnLost s
  | (s, some w) =>
    let acc := (w.zip s.learn.xs).foldl (fun a p => a + p.1 * p.2) 0
    let e := sat16 (s.learn.ts.getD o 0 - sat16 (roundShift acc (s.get F.PRUNE_FWD_FWD_SHIFT)))
    let r := { s.learn with es := s.learn.es ++ [e], step := s.learn.step + 1, errSum := s.learn.errSum + e.natAbs, errCnt := s.learn.errCnt + 1 }
    { s with learn := r }

/-- An update row; with the last one the sample is done. -/
def updateRow (l : LayerD) (o : Nat) (s : State) : State := match weightRow l o s with
  | (s, none) => learnLost s
  | (s, some w) =>
    let e := s.learn.es.getD o 0
    let lr := lrate s
    let s := putRow l o ((w.zip s.learn.xs).map fun p => sat16 (p.1 + roundShift (e * p.2) lr)) s
    if o + 1 < l.nOut then { s with learn.step := s.learn.step + 1 }
    else
      let s := { s with learn.cur := none, learn.step := 0, learn.trained := satTo 0xFFFFFFFF (s.learn.trained + 1) }
      if s.learn.todo.isEmpty then epochEnd s else s

/-! ### Sealing (R500–R502, R511) -/

/-- The columns of one group that pruning keeps: the `keep` of largest absolute value, the lower column first among equals. -/
def keepOf (keep : Nat) (g : List (Nat × Int)) : List (Nat × Int) :=
  let before (a b : Nat × Int) : Bool := decide (b.2.natAbs < a.2.natAbs) || (a.2.natAbs == b.2.natAbs && decide (a.1 < b.1))
  g.filter fun x => decide ((g.filter fun y => before y x).length < keep)

/-- Groups of `g` columns, the first `n` of them. -/
def groupsOf (g : Nat) : Nat → List (Nat × Int) → List (List (Nat × Int))
  | 0, _ => []
  | n + 1, r => (r.take g) :: groupsOf g n (r.drop g)

/-- q of a kept weight (R501). -/
def quant (sh : Nat) (w : Int) : Int := (sat8 (roundShift w sh)).1

/-- A row of the head: all columns for WFMT 0, the stored ones for WFMT 2. -/
def sealRowOf (s : State) (l : LayerD) (w : List Int) : List (Nat × Int) :=
  let row := (List.range l.nIn).zip w
  let q := s.get F.PRUNE_CFG_QSHIFT
  if l.wfmt = 0 then row.map fun x => (x.1, quant q x.2)
  else
    let g := 4 * 2 ^ s.get F.PRUNE_CFG_GSEL
    let kept := (groupsOf g ((l.nIn + g - 1) / g) row).flatMap (keepOf (s.get F.PRUNE_CFG_KEEP))
    (kept.map fun x => (x.1, quant q x.2)).filter fun x => x.2 != 0

/-- Rows of one block as bytes: row `row0` on, `cols` columns (R491). -/
def blockBytes (row0 cols : Nat) (rows : List (List (Nat × Int))) : List Byte :=
  let all := rows.flatten
  let rp := rows.foldl (fun (acc : List Nat) r => acc ++ [acc.getLastD 0 + r.length]) [0]
  let bs := natBytes 4 0x43520100 ++ natBytes 2 row0 ++ natBytes 2 rows.length ++ natBytes 2 cols ++ natBytes 2 all.length
    ++ rp.flatMap (natBytes 2) ++ all.flatMap (fun x => natBytes 2 x.1) ++ all.map fun x => BitVec.ofNat 8 (toCode 8 x.2)
  bs ++ List.replicate ((4 - bs.length % 4) % 4) 0

/-- Rows in blocks of at most 65 535 values and 4096 rows (R491, R502): `cur` is the block begun at row `row0`. -/
def blocks (cols row0 : Nat) : List (List (Nat × Int)) → List (List (Nat × Int)) → List (List Byte)
  | [], cur => if cur = [] then [] else [blockBytes row0 cols cur]
  | r :: t, cur =>
    if cur ≠ [] ∧ (65535 < cur.flatten.length + r.length ∨ 4096 ≤ cur.length)
    then blockBytes row0 cols cur :: blocks cols (row0 + cur.length) t [r]
    else blocks cols row0 t (cur ++ [r])

/-- The rows are complete: the head is built and its write queued, or it is too long (R511, R512, R521). -/
def sealHead (l : LayerD) (s : State) : State :=
  let rows := s.learn.rows
  let bls := if l.wfmt = 0 then [] else blocks l.nIn 0 rows []
  let body := if l.wfmt = 0 then rows.flatten.map (fun x => BitVec.ofNat 8 (toCode 8 x.2)) else bls.flatten
  let body := body ++ List.replicate ((4 - body.length % 4) % 4) 0
  let s := (s.put F.PRUNE_PRES_NNZ (satTo 65535 rows.flatten.length)).put F.PRUNE_PRES_BLOCKS bls.length
  let s := { s with learn.rows := [] }
  let len := 36 + body.length
  if 0x10000 < len then setLearn 2 (s.put F.PRUNE_LSTAT_RESULT 6) else
  let slot := s.arr.slot
  let copy := if s.get F.PRUNE_HSTAT_COPY = 1 then 2 else 1
  let other := 3 - copy
  let seq := if headValid s slot other then headSeq s slot other + 1 else 1
  let hw := [BitVec.ofNat 32 (0x48440100 + l.wfmt), s.wordAt (imageBase slot + 4), BitVec.ofNat 32 (l.nOut * 65536 + l.nIn), BitVec.ofNat 32 len,
    BitVec.ofNat 32 seq, BitVec.ofNat 32 s.learn.trained, BitVec.ofNat 32 (s.get F.PRUNE_LSTAT_EPOCHS * 65536 + s.get F.PRUNE_LPROG_ERR),
    BitVec.ofNat 32 (s.get F.PRUNE_CFG_QSHIFT * 2 ^ 24 + 4 * 2 ^ s.get F.PRUNE_CFG_GSEL * 65536 + s.get F.PRUNE_CFG_KEEP * 256)]
  let bs := wordsBytes hw ++ body
  let bs := pad16 (bs ++ bytesOfWord (crc32c bs))
  let n := (bs.length + 4095) / 4096
  let tag (i : Nat) : NvmTag := if i + 1 = n then .sealLast slot copy seq else .plain
  let chunk (i : Nat) : NvmChunk := ⟨3, headBase slot copy + 4096 * i, (bs.drop (4096 * i)).take 4096, tag i⟩
  enqueue (tabulate n chunk) { s with learn.copy := copy, learn.written := false }

/-- A row of a seal. -/
def sealRow (l : LayerD) (s : State) : State := match weightRow l s.learn.rows.length s with
  | (s, none) => learnLost s
  | (s, some w) =>
    let s := { s with learn.rows := s.learn.rows ++ [sealRowOf s l w] }
    if l.nOut ≤ s.learn.rows.length then sealHead l s else s

/-- HEAD_WRITE_COMPLETE: the seal's write has completed and is checked (R511, R513). Where learning was lost meanwhile, STATE stays (R505). -/
def headWriteComplete (s : State) : State :=
  if !s.learn.written then s else
  let s := determineHead { s with learn.written := false }
  (if learnState s = 4 then setLearn 0 s else s).raise E.PRUNE_SEALED

/-! ### LEARN_STEP (R508, R509, R511) -/

/-- The next step: its cycles and its effect. -/
def nextStep (l : LayerD) (s : State) : Option (Nat × (State → State)) :=
  let row := (l.nIn + 15) / 16
  match learnState s with
  | 2 => match s.learn.cur with
    | none => match s.learn.todo with
      | x :: t => some (16 + 40 * tilesOf l.nIn, fun s =>
          let s := loadSample l x { s with learn.todo := t }
          if s.learn.cur.isNone && t.isEmpty then epochEnd s else s)
      | [] => none
    | some _ =>
      let k := s.learn.step - 1
      if k < l.nOut then some (row + 4, forwardRow l k) else some (row + 4, updateRow l (k - l.nOut))
  | 4 => if s.learn.rows.length < l.nOut ∧ !s.learn.written ∧ s.learn.copy = 0 then some (row + 8, sealRow l) else none
  | _ => none

/-- An epoch begins, where none is under way, with the samples held (R508). -/
def epochBegin (s : State) : State :=
  if learnState s == 2 && s.learn.cur.isNone && s.learn.todo.isEmpty && !s.learn.held.isEmpty then
    if s.learn.epochOn then epochEnd s
    else
      let l := { s.learn with epochOn := true, todo := s.learn.held, errSum := 0, errCnt := 0 }
      { s with learn := l }
  else s

/-- Steps as long as they end within `avail` cycles of the slot. -/
def learnSteps (l : LayerD) (avail : Nat) : Nat → State → State
  | 0, s => s
  | f + 1, s =>
    let s := epochBegin (epochBegin s)
    match nextStep l s with
    | some (c, go) =>
      if s.learn.spent + c ≤ avail then learnSteps l avail f (go { s with learn.spent := s.learn.spent + c }) else s
    | none => s

/-- The steps that have ended at `us` µs after the slot's beginning. -/
def learnUntil (us : Nat) (s : State) : State := match headLayer s with
  | some l => let avail := us * levelMhz (level s); learnSteps l avail (avail + 1) s
  | none => s

/-! ### PRUNE_CMD (R521) -/

/-- The result of a command. -/
def pruneResult (op : Nat) (s : State) : Nat :=
  let st := learnState s
  let bad := (op = 1 ∧ st ≠ 0 ∧ st ≠ 5) ∨ (op = 3 ∧ st ≠ 2 ∧ st ≠ 3) ∨ ((op = 2 ∨ op = 4) ∧ st = 4)
  if bad then 1
  else if op = 2 ∨ op = 4 then 0
  else match headLayer s with
    | none => 2
    | some l =>
      if l.wfmt = 1 then 3
      else if 32768 < l.nIn * l.nOut then 4
      else if op = 3 ∧ 0xE0000 < imageLen s s.arr.slot then 5
      else 0

/-- q << QSHIFT; a value outside int16 is not given by the spec and is free. -/
def unquant (k sh : Nat) (q : Int) : Int :=
  let v := q * 2 ^ sh
  if sat16 v = v then v else signed 16 (Config.freeNat k)

/-- The rows with which START begins: from the head in force, or 0. -/
def startRows (init : Bool) (l : LayerD) (s : State) : List (List Int) :=
  let zero := List.replicate l.nOut (List.replicate l.nIn 0)
  let c := headCopy s
  if !init ∨ c = 0 then zero else
  let b := headBase s.arr.slot c
  let lim := b + headLen s s.arr.slot c - 4
  let sh := getBits (headWord s s.arr.slot c 7) 31 24
  match readWeights s { l with wfmt := s.get F.PRUNE_HSTAT_WFMT } (b + 32) lim 0 l.nOut with
  | .ok rows => tabulate l.nOut fun o => tabulate l.nIn fun i =>
      unquant (s.free + o * l.nIn + i) sh ((((rows.getD o []).find? fun x => x.1 == i).map (·.2)).getD 0)
  | .bad _ _ => zero

/-- START is accepted. -/
def learnStart (init : Bool) (l : LayerD) (s : State) : State :=
  let rows := startRows init l s
  let s := (List.range l.nOut).foldl (fun s o => putRow l o (rows.getD o []) s) s
  let s := { (s.fresh (l.nIn * l.nOut)) with learn := {} }
  let s := ((s.put F.PRUNE_LSTAT_EPOCHS 0).put F.PRUNE_LPROG_HELD 0).put F.PRUNE_LPROG_ERR 0
  setLearn 1 ((s.put F.PRUNE_LCNT_CAPTURES 0).put F.PRUNE_LCNT_SKIPPED 0)

/-- DISCARD is accepted: both copies are invalidated by zeroing their headers (DEDUCED, log entry 182). -/
def discardHeads (s : State) : State :=
  let zero (c : Nat) : NvmChunk := { kind := 3, addr := headBase s.arr.slot c, bytes := List.replicate 16 0, tag := .plain }
  noHead (enqueue [zero 1, zero 2] s)

/-- One command takes effect at a boundary. -/
def pruneCommand (c : Nat × Nat) (s : State) : State :=
  if c.1 = 0 ∨ 4 < c.1 then s else
  let r := pruneResult c.1 s
  let s := s.put F.PRUNE_LSTAT_RESULT r
  if r ≠ 0 then s else
  match c.1, headLayer s with
  | 1, some l => learnStart (c.2 = 1) l s
  | 2, _ => setLearn 0 (dropWork s)
  | 3, some _ => setLearn 4 { (dropWork s) with learn.copy := 0, learn.written := false }
  | 4, _ => setLearn 0 (discardHeads (dropWork s))
  | _, _ => s

/-- The commands of the tick take effect (R521). -/
def pruneCommands (s : State) : State :=
  let l := s.learn.cmds
  l.foldl (fun s c => pruneCommand c s) { s with learn.cmds := [] }

/-! ### The PRUNE page -/

/-- The areas of learning: base and length in bytes of the working weights, the ring and the targets, by the shadows (`sh`) or in force. -/
def learnAreas (sh : Bool) (s : State) : List (Nat × Nat) :=
  let g (f : Fld) : Nat := if sh then s.getS f else s.get f
  let n := match headLayer s with
    | some l => (2 * l.nIn * l.nOut, 2 * l.nOut)
    | none => (0, 0)
  [(g F.PRUNE_HEAD_ADDR, n.1), (g F.PRUNE_SAMP_ADDR, 16 * g F.PRUNE_SLEN_LEN), (g F.PRUNE_TGT_ADDR, n.2)]

/-- The extent of `n` bytes from `a` lies in SRAM. -/
def inSram (a n : Nat) : Bool := decide (0x20000000 ≤ a) && decide (a + n ≤ 0x20400000) && decide (a < 0x20400000)

/-- The PRUNE validator (R520, R521). -/
def checkPrune (s : State) : Option Nat :=
  let g := s.getS
  let keep := g F.PRUNE_CFG_KEEP
  let rng (v lo hi : Nat) : Bool := decide (v < lo) || decide (hi < v)
  let range := g F.PRUNE_CFG_GSEL == 3 || keep == 0 || decide (4 * 2 ^ g F.PRUNE_CFG_GSEL ≤ keep)
    || rng (g F.PRUNE_LRATE_LR_MAX) 1 28 || rng (g F.PRUNE_LRATE_LR0) 1 28 || decide (g F.PRUNE_LRATE_LR_MAX < g F.PRUNE_LRATE_LR0)
    || g F.PRUNE_LRATE_LR_STEP == 0 || decide (24 < g F.PRUNE_FWD_FWD_SHIFT) || g F.PRUNE_EPOCH_EPOCH_MIN == 0
    || decide (g F.PRUNE_SLEN_LEN < 64) || decide (g F.PRUNE_SMIN_S_TOTAL < 16) || decide (g F.PRUNE_SMIN2_S_MIN < 16)
  let areas := learnAreas true s
  let a (i : Nat) : Nat × Nat := areas.getD i (0, 0)
  let clash (x y : Nat × Nat) : Bool := overlap x.1 x.2 y.1 y.2
  let addr := (a 0).1 % 64 != 0 || (a 1).1 % 16 != 0 || (a 2).1 % 4 != 0 || areas.any (fun x => !inSram x.1 x.2)
    || clash (a 0) (a 1) || clash (a 0) (a 2) || clash (a 1) (a 2)
  let busy := learning s && [0x040, 0x050, 0x054, 0x060, 0x064].any fun o =>
    s.rd 0x43 o &&& BitVec.ofNat 32 (rwsMask 0x43 o) != s.rdE 0x43 o &&& BitVec.ofNat 32 (rwsMask 0x43 o)
  if range then some 0x01 else if addr then some 0x02 else if busy then some 0x03 else none

/-- Banks that learning protects (R517). -/
def learnBanks (s : State) : List Nat :=
  if !learning s then [] else
  let areas := (learnAreas false s).take 2
  (List.range 16).filter fun n => areas.any fun x => touchesBank x.1 x.2 n

/-- CORE refuses a quiesce request because of learning (R517): for FROST, and for LULL with a bank of it not retained. -/
def learnRefuses (target : Nat) (s : State) : Bool :=
  learning s && (target == 3 || (target == 2 && (learnBanks s).any fun n => !bitOf (s.get F.PWR_CFG_LULL_RET) n))

end Sys2Proof.Machine
end

