-- ==== Sys2Proof/Machine/Sensor.lean ====
section
/-! DEFINITION. The sensor crosspoint, excitation, burn-out and lead compensation (chapter 09): setups, resources, averages and the XPT and EXC
validators. -/

namespace Sys2Proof.Machine

/-- The values of setup `n`, shadow (`sh`) or effective. -/
def setupBy (g : Fld → Nat) (n : Nat) : Setup :=
  { ainp := g (F.XPT_SETUP_A_AINP n), ainn := g (F.XPT_SETUP_A_AINN n), gain := g (F.XPT_SETUP_A_GAIN n),
    refsel := g (F.XPT_SETUP_A_REFSEL n) == 1, lead := g (F.XPT_SETUP_A_LEADMODE n), bo := g (F.XPT_SETUP_A_BO_I n),
    excPin := g (F.XPT_SETUP_A_EXC_PIN n), excSrc := g (F.XPT_SETUP_A_EXC_SRC n), excEn := g (F.XPT_SETUP_A_EXC_EN n) == 1,
    settle := g (F.XPT_SETUP_A_SETTLE_US n), en := g (F.XPT_SETUP_B_EN n) == 1, auxExc := g (F.XPT_SETUP_B_AUX_EXC n) == 1,
    auxDac := g (F.XPT_SETUP_B_AUX_DAC n), biasPin := g (F.XPT_SETUP_B_BIAS_PIN n), biasKind := g (F.XPT_SETUP_B_BIAS_KIND n),
    openTh := g (F.XPT_SETUP_B_OPEN_TH n), excN := g (F.XPT_SETUP_B_EXC_N n), rLead := g (F.XPT_SETUP_C_R_LEAD_MOHM n),
    tol := g (F.XPT_SETUP_C_LEAD_TOL_MOHM n) }

/-- The effective setup `n`; there are 48. -/
def setupOf (s : State) (n : Nat) : Setup := if n < 48 then setupBy s.get n else {}

/-- ANA is powered: it is off in FROST (R373). -/
def anaOn (s : State) : Bool := !s.boot.held && pstate s != 3

/-! ### Lanes by number -/

/-- Lane `n`. -/
def laneOf (s : State) (n : Nat) : Lane := match n with
  | 0 => s.ana.lane0
  | 1 => s.ana.lane1
  | 2 => s.ana.lane2
  | 3 => s.ana.lane3
  | 4 => s.ana.lane4
  | _ => s.ana.lane5

/-- Lane `n` set. -/
def setLane (n : Nat) (l : Lane) (s : State) : State := match n with
  | 0 => { s with ana.lane0 := l }
  | 1 => { s with ana.lane1 := l }
  | 2 => { s with ana.lane2 := l }
  | 3 => { s with ana.lane3 := l }
  | 4 => { s with ana.lane4 := l }
  | 5 => { s with ana.lane5 := l }
  | _ => s

/-- The conversion of lane `n`. -/
def convOf (s : State) (n : Nat) : Option Conv := (laneOf s n).conv

/-- The conversion of lane `n` set. -/
def setConv (n : Nat) (c : Option Conv) (s : State) : State := setLane n { laneOf s n with conv := c } s

/-- The lane numbers. -/
def lanes : List Nat := [0, 1, 2, 3, 4, 5]

/-! ### Excitation (R354–R360) -/

/-- The TRIM_PPM of source `k`, from OTP. -/
def excTrim (s : State) (k : Nat) : Int := signed 16 (s.otp.excTrim[k]?.getD 0)

/-- The current of a setup's source, pA (R354). -/
def excCurrent (s : State) (v : Setup) : Nat := (10 * 2 ^ v.excN * (1000000 + excTrim s v.excSrc)).toNat

/-- The burn-out current of a setup, pA (R361). -/
def boCurrent (v : Setup) : Nat := match v.bo with
  | 1 => 200000
  | 2 => 1000000
  | 3 => 5000000
  | _ => 0

/-- EXC_OFS_US of lane `n`, 0 while it is clipped (R356). -/
def ofsUs (s : State) (n : Nat) : Nat := if s.ana.ofsClip.contains n then 0 else s.get (F.EXC_OFS_EXC_OFS_US n)

/-- A conversion is pulsed: EXC_EN, or a burn-out check (R355). -/
def pulsed (c : Conv) : Bool := c.kind == .check || c.v.excEn

/-- The excitation source that a pulsed conversion uses; a check has none on (R361). -/
def srcUsed (c : Conv) : Option Nat := if c.kind = .check ∨ !c.v.excEn then none else some c.v.excSrc

/-- The pins that a conversion drives: excitation, burn-out and bias (R357, R360, R361). -/
def pinsDriven (c : Conv) : List Nat :=
  (if c.kind = .check then [c.v.ainp, c.v.ainn] else if c.v.excEn then [c.v.excPin] else []) ++
    (if c.v.biasKind = 0 then [] else [c.v.biasPin])

/-- The pins that a conversion connects to its lane's input; a lead conversion measures from EXC_PIN to AINP (R367). -/
def pinsSensed (c : Conv) : List Nat := match c.kind with
  | .lead _ => [c.v.excPin, c.v.ainp]
  | .urgentLead => [c.v.excPin, c.v.ainp]
  | _ => [c.v.ainp, c.v.ainn]

/-- Two pulsed conversions need one source or one pin (R357). -/
def clash (a b : Conv) : Bool :=
  (pinsDriven a).any (pinsDriven b).contains || ((srcUsed a).isSome && srcUsed a == srcUsed b)

/-- The instants from its boundary at which a conversion's pulse begins, at which it starts and at which both end, in 1/288 µs (R355, R382, R383). -/
def pulseAt (c : Conv) : Nat := 288 * c.ofs
def startAt (c : Conv) : Nat := 288 * (c.ofs + c.v.settle)
def endAt (c : Conv) : Nat := startAt c + 3600 * 2 ^ c.avg

/-- The instant `t` of a conversion lies in the tick in progress; it may have come by now (DESIGN CHOICE, log entry 5). -/
def isNow (s : State) (c : Conv) (t : Nat) : Bool := decide (10000 * c.age ≤ t) && decide (t < 10000 * (c.age + tickUnits s))
def hasCome (s : State) (age t : Nat) : Bool := decide (t < 10000 * (age + tickUnits s))

/-- An urgent conversion, or the lead conversion that it needs first. -/
def forUrgent (c : Conv) : Bool := c.kind == .urgent || c.kind == .urgentLead

/-- XPT_PINSTAT and EXC_STAT.ON follow the conversions (R379). -/
def showPins (s : State) : State :=
  let cs := lanes.filterMap (convOf s)
  let bits (l : List Nat) : Nat := (List.range 16).foldl (fun n p => if l.contains p then n + 2 ^ p else n) 0
  let drv := (cs.filter fun c => c.pulseOn || (c.running && !pulsed c)).flatMap pinsDriven
  let conn := (cs.filter fun c => c.running).flatMap pinsSensed
  let on := (cs.filter fun c => c.pulseOn).filterMap srcUsed
  ((s.put F.XPT_PINSTAT_DRIVEN (bits drv)).put F.XPT_PINSTAT_CONNECTED (bits conn)).put F.EXC_STAT_ON (bits on)

/-- Lane `n` waits for its next boundary after a contest with lane `m` (R357, R358): a sequence takes its place up anew there, an urgent conversion stays. -/
def pulseWaits (n m : Nat) (contest : Bool) (s : State) : State :=
  let wait : Option Conv := match convOf s n with
    | some c => if forUrgent c then some { c with waits := true } else none
    | none => none
  let s := setConv n wait (s.bump F.EXC_CNT_WAIT)
  if contest then
    { s with ana.contests := (m, n) :: s.ana.contests.filter fun p => !(p == (m, n) || p == (n, m)) }
  else s

/-- Lane `n` wins a contest with lane `m`: it waited at the last one between them, or neither did and it has the lower number (R358). -/
def winsContest (s : State) (n m : Nat) : Bool :=
  if s.ana.contests.contains (m, n) then true
  else if s.ana.contests.contains (n, m) then false
  else decide (n < m)

/-- The lane that keeps lane `n`'s pulse `c` from starting, with whether that is a contest at one boundary (R357, R358): one that holds what it needs,
or one that wants it from the same boundary and wins. -/
def blocker (s : State) (n : Nat) (c : Conv) : Option (Nat × Bool) :=
  (lanes.filter (· != n)).findSome? fun m => match convOf s m with
    | some d =>
      if !clash c d then none
      else if d.pulseOn then some (m, d.ticks == c.ticks)
      else if d.running || d.waits || !pulsed d || d.ticks != c.ticks || winsContest s n m then none
      else if pulseAt c < endAt d ∧ pulseAt d < endAt c then some (m, true) else none
    | none => none

/-- Compliance is reached on source `k` in the pulse of lane `n` (R359). -/
def complianceOn (n k : Nat) (inj : Bool) (s : State) : State := match convOf s n with
  | none => s
  | some c =>
    if c.compl then s else
    let first := !s.ana.complPrev.contains k
    let s := setConv n (some { c with compl := true }) s
    let s := (s.put F.EXC_STAT_COMPL (setBitTo (s.get F.EXC_STAT_COMPL) k true)).raise E.EXC_COMPL_SET
    let s := { s with ana.complPrev := if first then k :: s.ana.complPrev else s.ana.complPrev }
    if first then faultEvent 0x41 k (s.bump F.EXC_CNT_COMPL) false inj else s

/-- EXC_COMPLIANCE of source `k`: some conversion's pulse uses it. -/
def excCompliance (k : Nat) (s : State) : State :=
  match lanes.find? (fun n => match convOf s n with
    | some c => c.pulseOn && srcUsed c == some k
    | none => false) with
  | some n => complianceOn n k false s
  | none => s

/-- On-time of a pulse that has still to be counted when it has been on for `t` (1/288 µs) in all. -/
def countPulse (c : Conv) (t : Nat) (s : State) : State :=
  let d := t - c.counted
  let (i, cur) := if c.kind = .check then (4, boCurrent c.v) else (c.v.excSrc, excCurrent s c.v)
  { s with ana.charge := aset s.ana.charge i ((aget s.ana.charge i).getD 0 + d * cur) }

/-- The pulse of a conversion in full, 1/288 µs. -/
def pulseTime (c : Conv) : Nat := 144 * (2 * c.v.settle + 25 * 2 ^ c.avg)

/-- EXCITATION_PULSE_START's effect for lane `n` (R355, R357–R359). -/
def pulseStart (n : Nat) (c : Conv) (s : State) : State :=
  match blocker s n c with
  | some (m, contest) => pulseWaits n m contest s
  | none =>
    let s := setConv n (some { c with pulseOn := true }) s
    let s := match srcUsed c with
      | some 0 => if s.armedAt 0x21 1 then complianceOn n 0 true (s.disarm 0x21 1) else s
      | _ => s
    showPins s

/-- The end of a pulse that has been on for `t` (1/288 µs): its COMPL bit clears, and a pulse without compliance is remembered (R359). -/
def pulseOff (c : Conv) (t : Nat) (s : State) : State :=
  if !c.pulseOn then s else
  let s := countPulse c t s
  match srcUsed c with
  | some k =>
    let s := s.put F.EXC_STAT_COMPL (setBitTo (s.get F.EXC_STAT_COMPL) k false)
    if c.compl then s else { s with ana.complPrev := s.ana.complPrev.filter (· != k) }
  | none => s

/-- The end of a pulse with its conversion. -/
def pulseEnd (c : Conv) (s : State) : State := pulseOff c (pulseTime c) s

/-- The part of the running pulses that lies before this second boundary is counted (R378). -/
def splitPulse (s : State) (n : Nat) : State := match convOf s n with
  | some c =>
    if !c.pulseOn then s else
    let t := min (pulseTime c) (10000 * c.age - pulseAt c)
    setConv n (some { c with counted := t }) (countPulse c t s)
  | none => s

/-- EXC_AVG_UPDATE at a boundary at which TICK_SECIDX becomes 0 (R378). -/
def excAverages (s : State) : State :=
  let s := lanes.foldl splitPulse s
  let q (i : Nat) : Nat := (aget s.ana.charge i).getD 0
  let avg (c : Nat) : Nat := (2 * c + 28800000000000) / 57600000000000
  let s := (((s.put F.EXC_AVG01_AVG0 (avg (q 0))).put F.EXC_AVG01_AVG1 (avg (q 1))).put F.EXC_AVG23_AVG2 (avg (q 2))).put F.EXC_AVG23_AVG3 (avg (q 3))
  let total := avg (q 0 + q 1 + q 2 + q 3 + q 4)
  let s := (s.put F.EXC_AVGBO_AVG (avg (q 4))).put F.EXC_TOTAL_TOTAL total
  let s := { s with ana.charge := [] }
  let m := s.get F.EXC_AVGMAX_UA
  if m ≠ 0 ∧ 10 * m < total then s.raise E.EXC_AVG_HIGH else s

/-- The nominal tick in whole µs (R67). -/
def tickUs (s : State) : Nat := (endLimit (s.get F.TICK_CFG_RATE))
where
  /-- R67's nominal tick lengths in whole µs. -/
  endLimit (rate : Nat) : Nat := match rate with
    | 0 => 416
    | 1 => 208
    | 2 => 104
    | _ => 69

/-- R356: offsets that a TICK commit has made too long are clipped. -/
def clipOffsets (s : State) : State :=
  let bad := lanes.filter fun n => decide (tickUs s ≤ s.get (F.EXC_OFS_EXC_OFS_US n))
  let new := bad.filter fun n => !s.ana.ofsClip.contains n
  if new = [] then s
  else (({ s with ana.ofsClip := s.ana.ofsClip ++ new }).putB F.EXC_STAT_OFS_CLIP true).raise E.EXC_OFS_CLIP

/-- An EXC commit has applied: its offsets are valid, and the clip ends (R356). -/
def afterExcCommit (s : State) : State := { s with ana.ofsClip := [] }.putB F.EXC_STAT_OFS_CLIP false

/-! ### Lead resistance (R366–R371) -/

/-- A quotient rounded to the nearest integer, a half towards +∞ (R386). -/
def halfUp (a : Int) (b : Nat) : Int := (2 * a + b) / (2 * (b : Int))

/-- D_FIX of a two-wire setup (R366). -/
def dFix (s : State) (v : Setup) : Int :=
  if v.refsel then halfUp ((v.rLead * 2 ^ v.gain * 2 ^ 23 : Nat) : Int) (s.get F.XPT_RREF_R_REF)
  else halfUp ((v.rLead * 2 ^ v.gain * 2 ^ 23 * excCurrent s v : Nat) : Int) 1250000000000000

/-- The resistance of a lead code, mΩ, rounded and saturating (R370, R372). -/
def leadMohm (s : State) (v : Setup) (d : Int) : Nat :=
  let x := if v.refsel then halfUp (d * (s.get F.XPT_RREF_R_REF : Nat)) (2 ^ v.gain * 2 ^ 23)
    else if excCurrent s v = 0 then 65535
    else halfUp (d * 1250000000000000) (2 ^ v.gain * 2 ^ 23 * excCurrent s v)
  (clampInt 0 65535 x).toNat

/-- The bit of a setup in one of the XPT bit registers. -/
def xptBit (lo hi : Fld) (n : Nat) : Fld := if n < 32 then ⟨0x20, lo.off, n, n, false⟩ else ⟨0x20, hi.off, n - 32, n - 32, false⟩
def openF (n : Nat) : Fld := xptBit F.XPT_OPEN0_BITS F.XPT_OPEN1_BITS n
def lchgF (n : Nat) : Fld := xptBit F.XPT_LCHG0_BITS F.XPT_LCHG1_BITS n

/-- A valid lead measurement of setup `n` (R370, R371). -/
def leadMeasured (n : Nat) (v : Setup) (d : Int) (s : State) : State :=
  let inj := s.armedAt 0x20 2
  let m := leadMohm s v d
  let m := if inj then min 65535 (m + v.tol + 1) else m
  let s := if inj then s.disarm 0x20 2 else s
  let s := s.put (F.XPT_LEAD_MEAS_MOHM n) m
  let s := if s.ana.refSet.contains n then s
    else { s with ana.refSet := n :: s.ana.refSet }.put (F.XPT_LEAD_REF_MOHM n) m
  if v.tol = 0 then s else
  let r := s.get (F.XPT_LEAD_REF_MOHM n)
  let out := m == 65535 || decide (v.tol < (if m < r then r - m else m - r))
  if out then
    let s := { s with ana.inTol := aset s.ana.inTol n 0 }
    if s.flag (lchgF n) then s
    else faultEvent 0x42 n (((s.putB (lchgF n) true).raise E.XPT_LEAD_CHG).bump F.XPT_CNT_LEAD) false inj
  else
    let k := (aget s.ana.inTol n).getD 0 + 1
    let s := { s with ana.inTol := aset s.ana.inTol n (min k 3) }
    if 3 ≤ k then s.putB (lchgF n) false else s

/-! ### Burn-out (R363) -/

/-- A check conversion of setup `n` gave the code `d`. -/
def checkDone (n : Nat) (v : Setup) (d : Int) (s : State) : State :=
  let inj := s.ana.injChk.contains n
  let past := inj || decide (((v.openTh * 2 ^ 15 : Nat) : Int) ≤ d)
  let s : State := { s.bump F.XPT_CNT_CHECKS with ana.injChk := s.ana.injChk.filter (· != n) }
  let lim := s.get F.XPT_CFG_OPEN_CNT
  if past then
    let k : Nat := (aget s.ana.beyond n).getD 0 + 1
    let s := { s with ana.beyond := aset s.ana.beyond n (min k 15), ana.below := adel s.ana.below n }
    if lim ≤ k ∧ !s.flag (openF n) then
      faultEvent 0x40 n (((s.putB (openF n) true).raise E.XPT_OPEN_SET).bump F.XPT_CNT_OPEN) false inj
    else s
  else
    let k : Nat := (aget s.ana.below n).getD 0 + 1
    let s := { s with ana.below := aset s.ana.below n (min k 15), ana.beyond := adel s.ana.beyond n }
    if decide (lim ≤ k) && s.flag (openF n) then (s.putB (openF n) false).raise E.XPT_OPEN_CLR else s

/-! ### Validators and commits (R380) -/

/-- The first reason for which an enabled setup fails, 0 for none. -/
def setupFails (rref : Nat) (v : Setup) : Nat :=
  if v.settle = 0 ∨ 8 < v.excN ∨ v.lead = 3 ∨ v.biasKind = 3 ∨ v.openTh = 0 then 1
  else if v.ainp = v.ainn then 2
  else if v.excEn ∧ v.biasKind ≠ 0 ∧ v.excPin = v.biasPin then 3
  else if (v.lead ≠ 0 ∧ !v.excEn) ∨ (v.lead = 2 ∧ (v.excPin = v.ainp ∨ v.excPin = v.ainn)) ∨ (v.lead = 1 ∧ v.refsel ∧ rref = 0) then 4
  else 0

/-- The XPT validator: the first failing setup and its reason. -/
def checkXpt (s : State) : Option (Nat × Nat) :=
  (List.range 48).findSome? fun n =>
    let v := setupBy s.getS n
    let r := if v.en then setupFails (s.getS F.XPT_RREF_R_REF) v else 0
    if r = 0 then none else some (n, r)

/-- The EXC validator: an offset at or beyond the nominal tick. -/
def checkExc (s : State) : Option Nat :=
  if lanes.any fun n => decide (tickUs s ≤ s.getS (F.EXC_OFS_EXC_OFS_US n)) then some 0x01 else none

/-- An XPT commit has applied: the setups that it enables measure their leads anew (R368, R370). -/
def afterXptCommit (before s : State) : State :=
  let new := (List.range 48).filter fun n =>
    let a := setupOf before n
    let b := setupOf s n
    b.en && b.lead == 2 && !(a.en && a.lead == 2)
  let s := { s with ana.refSet := s.ana.refSet.filter fun n => !new.contains n }
  lanes.foldl (fun s n => setLane n { laneOf s n with leadDone := (laneOf s n).leadDone.filter fun x => !new.contains x } s) s

/-- XPT injection point 0x01: the next check conversion of every setup with BO_I ≠ 0 is beyond the threshold. -/
def injOpen (s : State) : State := { s with ana.injChk := (List.range 48).filter fun n => (setupOf s n).bo != 0 }

end Sys2Proof.Machine
end

