-- ==== Sys2Proof/Machine/Lanes.lean ====
section
/-! DEFINITION. The precision lanes and the shadow lane (chapter 10): sequences, conversions and results, urgent requests, calibration, the five phases
of the shadow lane, and their validators. -/

namespace Sys2Proof.Machine

/-! ### Configuration of a lane -/

/-- SEQ_LEN and the setup of entry `e` of lane `n` (R387), by a field reader. -/
def seqLen (s : State) (n : Nat) : Nat := s.get (F.LANE_CFG_SEQ_LEN n)
def seqBy (g : Fld → Nat) (n e : Nat) : Nat := match e % 4 with
  | 0 => g (F.LANE_SEQ_S0 n (e / 4))
  | 1 => g (F.LANE_SEQ_S1 n (e / 4))
  | 2 => g (F.LANE_SEQ_S2 n (e / 4))
  | _ => g (F.LANE_SEQ_S3 n (e / 4))

/-- The distinct enabled setups among the first `len` entries that satisfy `p`, in sequence order. -/
def seqSetups (s : State) (n len : Nat) (p : Setup → Bool) : List Nat :=
  (((List.range len).map (seqBy s.get n)).filter fun u => (setupOf s u).en && p (setupOf s u)).eraseDups

/-- PER_TICKS in force (R385). -/
def perTicks (s : State) (n : Nat) : Nat :=
  if s.flag (F.LANE_STAT_PER_CLIP n) then rateHz s / 2400 else s.get (F.LANE_CFG_PER_TICKS n)

/-- The calibration coefficients of lane `n` at gain `g`: LANE_CALOFSg and LANE_CALGAINg, whose reset values are in OTP. -/
def laneOfs (s : State) (n g : Nat) : Int := match aget s.regs (regKey (0x22 + n) (0x100 + 8 * g)) with
  | some w => signed 24 w.toNat
  | none => signed 24 (s.otp.calOfs[8 * n + g]?.getD 0)
def laneGain (s : State) (n g : Nat) : Nat := match aget s.regs (regKey (0x22 + n) (0x104 + 8 * g)) with
  | some w => w.toNat % 2 ^ 24
  | none => s.otp.calGain[8 * n + g]?.getD 0x400000

/-- LS stands in for lane `n`: phases STAND and MATCH_OUT (R398). -/
def lsFor (s : State) (n : Nat) : Bool := s.get F.LANES_LS_FOR == n
def standsIn (s : State) (n : Nat) : Bool := lsFor s n && decide (3 ≤ s.get F.LANES_LS_PHASE)

/-! ### The pass (R387, R362, R368) -/

/-- What the walk through the pass finds: the lane at that place, the conversion that comes next, whether an entry was skipped, and whether a pass ended. -/
structure Next where
  lane : Lane
  conv : Option (ConvKind × Nat) := none
  skipped : Bool := false
  wrapped : Bool := false
  deriving DecidableEq, Repr

/-- The next conversion of lane `n`'s pass; with `look` false only what is already over is left behind. -/
def walk (s : State) (n : Nat) (look : Bool) : Nat → Next → Next
  | 0, x => x
  | f + 1, x =>
    let l := x.lane
    let len := seqLen s n
    match l.stage with
    | 0 =>
      if l.pos < len then
        let u := seqBy s.get n l.pos
        let v := setupOf s u
        if !look then x
        else if !v.en then walk s n look f { x with lane := { l with pos := l.pos + 1 }, skipped := true }
        else if v.lead = 2 ∧ !l.leadDone.contains u then { x with lane := { l with passLead := true }, conv := some (.lead true, u) }
        else { x with conv := some (.main l.pos, u) }
      else walk s n look f { x with lane := { l with stage := 1 } }
    | 1 =>
      let ws := seqSetups s n len fun v => v.lead == 2
      if l.passLead ∨ ws = [] then walk s n look f { x with lane := { l with stage := 2 } }
      else if !look then x
      else { x with conv := some (.lead false, ws[l.leadTurn % ws.length]?.getD 0) }
    | _ =>
      let bs := seqSetups s n len fun v => v.bo != 0
      if bs = [] then walk s n look f { x with lane := { l with stage := 0, pos := 0, passLead := false }, wrapped := true }
      else if !look then x
      else { x with conv := some (.check, bs[l.chkTurn % bs.length]?.getD 0) }

/-- A pass of lane `n` has ended and the next one begins: a match pass begins or is over (R398). -/
def passEnds (n : Nat) (s : State) : State :=
  let ph := s.get F.LANES_LS_PHASE
  if lsFor s n && (ph == 2 || ph == 4) then { s with ana.matchRun := if s.ana.matchRun = 0 then 1 else 2 } else s

/-- The outcome of a walk is taken over. -/
def takeWalk (n : Nat) (x : Next) (s : State) : State :=
  let s := setLane n x.lane s
  let s := if x.skipped then
      let was := s.flag (F.LANE_STAT_SKIP n)
      let s := s.putB (F.LANE_STAT_SKIP n) true
      if was then s else s.raise (E.LANE_SKIP_SET n)
    else s
  if x.wrapped then passEnds n s else s

/-- A conversion of setup `u` as lane `n` times it from this boundary. -/
def newConv (s : State) (n : Nat) (k : ConvKind) (u : Nat) : Conv :=
  { kind := k, setup := u, v := setupOf s u, avg := s.get (F.LANE_CFG_AVG_LOG2 n), ofs := ofsUs s n }

/-- The urgent conversion of setup `u` on lane `n`: a THREE_W setup without a lead conversion makes that one first (R368, DEDUCED, log entry 170). -/
def urgentConv (s : State) (n u : Nat) : Conv :=
  newConv s n (if (setupOf s u).lead = 2 ∧ !(laneOf s n).leadDone.contains u then .urgentLead else .urgent) u

/-- A request is dropped (R393, R394). -/
def urgentDrop (invalid : Bool) (s : State) : State :=
  let s := (s.putB F.LANES_URG_STAT_DROPPED true).bump F.LANES_CNT_URGENT_DROP |>.raise E.LANES_URG_DROP
  if invalid then s.putB F.LANES_URG_STAT_INVALID true else s

/-- Lane `n` times its next conversion from this boundary (R383, R384, R390), or anew an urgent one that waits for it (R357); one whose setup is no longer enabled
is dropped (R350, DESIGN CHOICE, log entry 170). -/
def armLane (s : State) (n : Nat) : State :=
  let l := laneOf s n
  let old := (convOf s n).filter (·.waits)
  if old.isSome then
    let u := (old.map (·.setup)).getD 0
    if (setupOf s u).en then setConv n (some (urgentConv s n u)) s else setConv n none (urgentDrop true s)
  else if seqLen s n = 0 ∨ !s.en (0x22 + n) then
    if l.conv.isSome then s else setLane n { l with pos := 0, stage := 0, passLead := false } s
  else if !anaOn s || l.conv.isSome || decide (l.since < perTicks s n) then s
  else
    let x := walk s n true 24 { lane := l }
    let s := takeWalk n x s
    match x.conv with
    | some (k, u) => setConv n (some (newConv s n k u)) s
    | none => s

/-! ### Starts -/

/-- The auxiliary DAC's disturbances so far, and whether one is there now (R195). -/
def dacDisturbed (s : State) (d : Nat) : Bool := s.flag (adacPassF d) || s.flag (adacClrF d)

/-- The pulse of conversion `c` may start now: its lane's offset after its boundary lies in this tick (R355). -/
def pulseDue (s : State) (c : Conv) : Bool := pulsed c && !c.pulseOn && !c.running && !c.waits && anaOn s && isNow s c (pulseAt c)

/-- EXCITATION_PULSE_START of lane `n`. -/
def excitationStart (n : Nat) (s : State) : State := match convOf s n with
  | some c => if pulseDue s c then pulseStart n c s else s
  | none => s

/-- The calibration of converter `c`: lanes 0–5, 6 LS. -/
def calOf (s : State) (c : Nat) : Option CalRun := if c = 6 then s.ana.lsCal else if c < 6 then (laneOf s c).cal else none
def setCal (c : Nat) (r : Option CalRun) (s : State) : State :=
  if c = 6 then { s with ana.lsCal := r }
  else
    let s := setLane c { laneOf s c with cal := r } s
    s.putB (F.LANE_STAT_CALIB c) r.isSome

/-- Conversion `c` may start now: EXC_OFS_US + SETTLE_US after its boundary lies in this tick, and its pulse is on (R355, R383). -/
def startDue (s : State) (c : Conv) : Bool := !c.running && !c.waits && (!pulsed c || c.pulseOn) && anaOn s && isNow s c (startAt c)

/-- CONVERSION_START of lane `n`'s sequence or urgent conversion (R355, R360, R383). -/
def laneStart (n : Nat) (s : State) : State := match convOf s n with
  | some c =>
    if !startDue s c then s else
    let c := { c with running := true, byLs := standsIn s n, dist := (adacOf s c.v.auxDac).dist, disturbed := dacDisturbed s c.v.auxDac }
    let s := setLane n { laneOf s n with conv := some c, since := c.ticks } s
    let s := s.putB (F.LANE_STAT_CONVERTING n) true
    let s := match c.kind with
      | .main e => s.put (F.LANE_STAT_ENTRY n) e
      | _ => s
    showPins s
  | none => s

/-- CONVERSION_START of an armed calibration conversion of converter `c` (R639). -/
def calStart (c : Nat) (s : State) : State := match calOf s c with
  | some r => if r.armed = 2 ∧ anaOn s then setCal c (some { r with armed := 3 }) s else s
  | none => s

/-! ### Results (R386) -/

/-- A filter sample: the code at gain `g` of `v` pV against a reference of `vref` pV, clamped (R352, R353). It is rounded as R386 rounds (DESIGN CHOICE, log entry 171);
against 0 V it is a free value. -/
def filterSample (g : Nat) (vref v : Int) : Int :=
  let d := v * 2 ^ g * 2 ^ 23
  clampInt (-8388608) 8388607
    (if vref = 0 then Config.freeCode v else if 0 < vref then halfUp d vref.natAbs else halfUp (-d) vref.natAbs)

/-- V_REF of a setup in pV, where `ext` is V(REFP) − V(REFN) (R353). -/
def vRef (v : Setup) (ext : Int) : Int := if v.refsel then ext else 1250000000000

/-- The filter samples of conversion `c` for the voltages at its inputs. -/
def codesOf (c : Conv) (ext : Int) (volts : List Int) : List Int := volts.map (filterSample c.v.gain (vRef c.v ext))

/-- Step 1: the mean of 2^`k` filter samples. -/
def dRaw (samples : List Int) (k : Nat) : Int := (samples.foldl (· + ·) 0 + 2 ^ (k - 1)) / 2 ^ k

/-- Step 2. -/
def dCal (raw ofs : Int) (gain : Nat) : Int := halfUp ((raw - ofs) * gain) (2 ^ 22)

/-- Step 3 for a result that LS makes. -/
def dMatch (d : Int) (m : Nat × Int) : Int := halfUp (d * m.1) (2 ^ 22) + m.2

/-- M_e and O_e for a conversion: of its entry, or of the first entry that names its setup. -/
def matchFor (s : State) (n : Nat) (c : Conv) : Nat × Int :=
  let e := match c.kind with
    | .main e => e
    | _ => ((List.range 8).find? fun e => seqBy s.get n e == c.setup).getD 0
  (aget s.ana.matched e).getD (2 ^ 22, 0)

/-- D of steps 1–3 for conversion `c` of lane `n`. -/
def dCode (s : State) (n : Nat) (c : Conv) (samples : List Int) : Int :=
  let raw := dRaw samples c.avg
  let g := c.v.gain
  if c.byLs then dMatch (dCal raw ((aget s.ana.lsOfs g).getD 0) ((aget s.ana.lsGain g).getD 0x400000)) (matchFor s n c)
  else dCal raw (laneOfs s n g) (laneGain s n g)

/-- D_C of step 4 (R365). -/
def dCorrected (s : State) (n : Nat) (c : Conv) (d : Int) : Int := match c.v.lead with
  | 1 => d - dFix s c.v
  | 2 => d - (aget (laneOf s n).leadCode c.setup).getD 0
  | _ => d

/-- A filter sample at the clamp of R352. -/
def atClamp (x : Int) : Bool := decide (x ≤ -8388608) || decide (8388607 ≤ x)

/-- The result word with its flags (R386 step 5, R388), and the lane with its SWAPPED and CLIP marks used. -/
def resultOf (n : Nat) (c : Conv) (samples : List Int) (dc : Int) (s : State) : State × Word :=
  let inj := s.armedAt (0x22 + n) 1
  let s := if inj then s.disarm (0x22 + n) 1 else s
  let clip := inj || samples.any atClamp || dc != clampInt (-8388608) 8388607 dc
  let l := laneOf s n
  let a := adacOf s c.v.auxDac
  let dist := c.v.auxExc && (c.disturbed || a.dist != c.dist || dacDisturbed s c.v.auxDac)
  let fl := b2n l.swapped * 128 + b2n (s.flag (openF c.setup)) * 64 + b2n c.compl * 32 + b2n (s.flag (lchgF c.setup)) * 16 + b2n dist * 8
    + b2n clip * 4
  let s := setLane n { l with swapped := false } s
  let s := if clip then s.bump (F.LANE_CNT_CLIP n) else s
  (s, BitVec.ofNat 32 (toCode 24 (clampInt (-8388608) 8388607 dc) * 256 + fl))

/-- In a match pass, the codes D_L and D_S of entry `e` are kept (R399, R402). -/
def keepPair (n e : Nat) (c : Conv) (d : Int) (par : List Int) (s : State) : State :=
  if !lsFor s n || s.ana.matchRun != 1 then s else
  let raw := dRaw par c.avg
  let g := c.v.gain
  match s.get F.LANES_LS_PHASE with
  | 2 => { s with ana.pairs := aset s.ana.pairs e (d, dCal raw ((aget s.ana.lsOfs g).getD 0) ((aget s.ana.lsGain g).getD 0x400000)) }
  | 4 =>
    let r := (laneOf s n).cal.getD { todo := [] }
    { s with ana.pairs := aset s.ana.pairs e (dCal raw ((aget r.ofs g).getD 0) ((aget r.gain g).getD 0x400000), d) }
  | _ => s

/-- A main conversion of entry `e` has ended. -/
def mainEnd (n e : Nat) (c : Conv) (samples par : List Int) (s : State) : State :=
  let d := dCode s n c samples
  let (s, w) := resultOf n c samples (dCorrected s n c d) s
  let s := keepPair n e c d par s
  let l := laneOf s n
  setLane n { l with out := l.out ++ [(e, w, c.setup)], pos := l.pos + 1 } s

/-- A lead conversion has ended (R367–R371). -/
def leadEnd (n : Nat) (first : Bool) (c : Conv) (samples : List Int) (s : State) : State :=
  let d := dCode s n c samples
  let valid := !c.compl && !s.flag (openF c.setup)
  let s := if valid then leadMeasured c.setup c.v d s else s
  let l := laneOf s n
  let l := { l with leadCode := if valid then aset l.leadCode c.setup d else l.leadCode
                    leadDone := if l.leadDone.contains c.setup then l.leadDone else c.setup :: l.leadDone }
  setLane n (if first then l else { l with stage := 2, leadTurn := l.leadTurn + 1 }) s

/-- An urgent conversion has ended (R392). -/
def urgentEnd (n : Nat) (c : Conv) (samples : List Int) (s : State) : State :=
  let (s, w) := resultOf n c samples (dCorrected s n c (dCode s n c samples)) s
  ((s.wr 0x28 0x050 w).putB F.LANES_URG_STAT_DONE true).raise E.LANES_URG_DONE

/-- The lead conversion before an urgent one has ended; the urgent one waits for the lane's next boundary (R368, DEDUCED, log entry 170). -/
def urgentLeadEnd (n : Nat) (c : Conv) (samples : List Int) (s : State) : State :=
  setConv n (some { c with kind := .urgent, running := false, pulseOn := false, waits := true }) (leadEnd n true c samples s)

/-- Conversion `c` of lane `n` may end now with that many samples of its converter and of the one that senses in parallel (R381, R382, R398). -/
def endDue (s : State) (n : Nat) (c : Conv) (len par : Nat) : Bool :=
  let both := lsFor s n && s.ana.matchRun == 1 && (match c.kind with
    | .main _ => true
    | _ => false)
  c.running && len == 2 ^ c.avg && (!both || par == 2 ^ c.avg) && hasCome s c.age (endAt c)

/-- CONVERSION_END of lane `n` with the input voltages of its filter samples (pV), those of the converter that senses in parallel, and V(REFP) − V(REFN). -/
def laneEnd (n : Nat) (volts parVolts : List Int) (ext : Int) (s : State) : State := match convOf s n with
  | some c =>
    if !endDue s n c volts.length parVolts.length then s else
    let samples := codesOf c ext volts
    let par := codesOf c ext parVolts
    let s := pulseEnd c s
    let s := match c.kind with
      | .main e => mainEnd n e c samples par s
      | .lead first => leadEnd n first c samples s
      | .check =>
        let s := checkDone c.setup c.v (dCode s n c samples) s
        let l := laneOf s n
        passEnds n (setLane n { l with stage := 0, pos := 0, passLead := false, chkTurn := l.chkTurn + 1 } s)
      | .urgent => urgentEnd n c samples s
      | .urgentLead => s
    let s := (setConv n none s).putB (F.LANE_STAT_CONVERTING n) false
    let s := if c.kind = .urgentLead then urgentLeadEnd n c samples s else s
    let s := if forUrgent c then s else takeWalk n (walk s n false 24 { lane := laneOf s n }) s
    showPins s
  | none => s

/-! ### Calibration (R396–R398) -/

/-- The gains of lane `n`'s enabled entries; of all eight entries where SEQ_LEN is 0. -/
def laneGains (s : State) (n : Nat) : List Nat :=
  let len := if seqLen s n = 0 then 8 else seqLen s n
  ((seqSetups s n len fun _ => true).map fun u => (setupOf s u).gain).eraseDups

/-- The conversions of a calibration at those gains. -/
def calTodo (gs : List Nat) : List (Nat × Bool) := gs.flatMap fun g => [(g, false), (g, true)]

/-- The coefficient that makes a gain conversion read 0.9 of full scale. -/
def gainFrom (x : Int) : Nat :=
  if x ≤ 0 then 2 ^ 24 - 1 else min (2 ^ 24 - 1) (halfUp (75497472 * 4194304) (10 * x.toNat)).toNat

/-- A match phase of lane `n` begins: with the next pass, or at once where one is about to begin. -/
def beginMatch (n ph : Nat) (s : State) : State :=
  let l := laneOf s n
  let now := l.conv.isNone && l.pos == 0 && l.stage == 0
  { s with ana.matchRun := b2n now, ana.pairs := [] }.put F.LANES_LS_PHASE ph

/-- The last calibration conversion of converter `c` has ended. -/
def calOver (c : Nat) (r : CalRun) (s : State) : State :=
  let n := s.get F.LANES_LS_FOR
  if c = 6 then
    let s := { s with ana.lsOfs := r.ofs, ana.lsGain := r.gain, ana.lsCal := none }
    if s.get F.LANES_LS_PHASE = 1 then beginMatch n 2 s else s
  else if n = c ∧ s.get F.LANES_LS_PHASE = 3 then beginMatch n 4 s
  else s

/-- The running calibration conversion of converter `c` may end: AVG = 256 samples after its lane's offset (R382, R396, R639). -/
def calEndDue (s : State) (c : Nat) (r : CalRun) : Bool :=
  r.armed == 3 && hasCome s r.age (288 * ofsUs s (if c = 6 then s.get F.LANES_LS_FOR else c) + 3600 * 256)

/-- CONVERSION_END of a calibration conversion of converter `c`, whose full scale is the internal reference's (R396). -/
def calEnd (c : Nat) (volts : List Int) (s : State) : State := match calOf s c with
  | some r =>
    if !calEndDue s c r ∨ volts.length ≠ 256 then s else
    match r.todo with
    | (g, isGain) :: t =>
      let raw := dRaw (volts.map (filterSample g 1250000000000)) 8
      let r := if isGain then { r with gain := aset r.gain g (gainFrom (raw - (aget r.ofs g).getD 0)) } else { r with ofs := aset r.ofs g raw }
      let r := { r with todo := t, armed := 0 }
      let s := setCal c (some r) s
      if t = [] then calOver c r s else s
    | [] => s
  | none => s

/-- CAL_PERIOD_S has passed since the lane's last completed calibration. -/
def calDueLane (s : State) (n : Nat) : Bool :=
  s.flag F.LANES_CAL_CAL_EN && s.en (0x22 + n) && decide (s.get F.LANES_CAL_CAL_PERIOD_S * 28800 ≤ (laneOf s n).calAge) && laneGains s n != []

/-- A direct calibration of lane `n` is due or in progress (R397); it waits while the lane converts (R395). -/
def directDue (s : State) (n : Nat) : Bool :=
  seqLen s n == 0 && s.en (0x22 + n) && (convOf s n).isNone && match (laneOf s n).cal with
    | some r => r.armed == 0 && r.todo != []
    | none => calDueLane s n

/-- The lanes that the shadow-lane cycle may begin for, in its cyclic order (R398). -/
def cycleLane (s : State) : Option Nat :=
  ((List.range 6).map fun i => (s.ana.lsNext + i) % 6).find? fun n =>
    decide (0 < seqLen s n) && !s.flag (F.LANE_CFG_CAL_EXCL n) && calDueLane s n

/-- CAL_DUE: the cycle begins in PREP for the next lane that is due. -/
def calDue (s : State) : State :=
  if s.get F.LANES_LS_PHASE ≠ 0 ∨ !anaOn s then s else
  match cycleLane s with
  | some n =>
    let s := { s with ana.lsCal := some { todo := calTodo (laneGains s n) }, ana.lsNext := (n + 1) % 6 }
    (s.put F.LANES_LS_FOR n).put F.LANES_LS_PHASE 1
  | none => s

/-- The CAL task of R617 is due. -/
def calTaskDue (s : State) : Bool :=
  s.flag F.LANES_CAL_CAL_EN && (s.get F.LANES_LS_PHASE != 0 || (cycleLane s).isSome ||
    lanes.any fun n => directDue s n || (seqLen s n == 0 && (laneOf s n).cal.isSome))

/-- A calibration of converter `c` has a conversion that can be armed. -/
def armable (s : State) (c : Nat) : Bool := match calOf s c with
  | some r => r.armed == 0 && r.todo != []
  | none => false

/-- CAL_STEP's choice (R639): the shadow-lane cycle first, then the lowest idle lane that is due. -/
def calChoice (arg : Nat) (s : State) : Option Nat :=
  let ok (c : Nat) : Bool := arg % 128 == 0 || bitOf arg c
  let cyc := match s.get F.LANES_LS_PHASE with
    | 1 => some 6
    | 3 => some (s.get F.LANES_LS_FOR)
    | _ => none
  match cyc with
  | some c => if armable s c && ok c then some c else lanes.find? fun n => ok n && directDue s n
  | none => lanes.find? fun n => ok n && directDue s n

/-- CAL_STEP arms one calibration conversion: false where none is due. -/
def calStep (arg : Nat) (s : State) : State × Bool := match calChoice arg s with
  | some c =>
    let r := (calOf s c).getD { todo := calTodo (laneGains s c) }
    (setCal c (some { r with armed := 1, age := 0 }) s, true)
  | none => (s, false)

/-- A direct calibration of lane `n` is abandoned and starts over later (R395). -/
def abandonDirect (n : Nat) (s : State) : State :=
  if (laneOf s n).cal.isNone || standsIn s n then s
  else (setCal n none s).bump F.LANES_CNT_CAL_ABANDON |>.raise E.LANES_CAL_ABANDON

/-- The coefficients of a calibration replace those of lane `n` (R397, R402). -/
def applyCal (n : Nat) (r : CalRun) (s : State) : State :=
  let s := r.ofs.foldl (fun s g => s.wr (0x22 + n) (0x100 + 8 * g.1) (BitVec.ofNat 32 (toCode 24 (clampInt (-8388608) 8388607 g.2)))) s
  let s := r.gain.foldl (fun s g => s.wr (0x22 + n) (0x104 + 8 * g.1) (BitVec.ofNat 32 g.2)) s
  let s := setCal n none s
  setLane n { laneOf s n with calAge := 0 } (s.bump F.LANES_CNT2_APPLIED)

/-- A direct calibration whose last conversion has ended is applied at this boundary (R397). -/
def directApply (s : State) (n : Nat) : State := match (laneOf s n).cal with
  | some r => if r.todo = [] ∧ !lsFor s n then applyCal n r s else s
  | none => s

/-! ### The shadow lane's swaps (R399–R403) -/

/-- The cycle ends in IDLE. -/
def cycleIdle (s : State) : State := { (s.put F.LANES_LS_FOR 7).put F.LANES_LS_PHASE 0 with ana.lsCal := none, ana.matchRun := 0, ana.pairs := [] }

/-- M_e and O_e of a pair (R399). -/
def matchPair (p : Int × Int) : Int × Int :=
  if (2 ^ 20 : Int) ≤ p.1.natAbs then
    if p.2 = 0 then (0, 0)
    else (if 0 < p.2 then halfUp (p.1 * 2 ^ 22) p.2.natAbs else halfUp (-p.1 * 2 ^ 22) p.2.natAbs, 0)
  else (2 ^ 22, p.1 - p.2)

/-- A match within the limits of R399. -/
def goodMatch (m : Int × Int) : Bool := decide ((m.1 - 2 ^ 22).natAbs ≤ 4096) && decide (m.2.natAbs ≤ 1024)

/-- A lead or check conversion of lane `n` spans this boundary (R377, R400). -/
def spansSwap (s : State) (n : Nat) : Bool := match convOf s n with
  | some c => (c.pulseOn || c.running) && (match c.kind with
    | .lead _ => true
    | .check => true
    | _ => false)
  | none => false

/-- A swap: the next result of the lane is marked (R401). -/
def swapped (n ph : Nat) (s : State) : State :=
  let s := setLane n { laneOf s n with swapped := true } s
  let s := (s.bump F.LANES_CNT2_SWAPS).raise E.LANES_SWAP
  (s.put F.LANES_LS_PHASE ph).putB (F.LANE_STAT_STOOD_IN n) (ph == 3)

/-- CAL_REJECT is counted and raised. -/
def calReject (s : State) : State := (s.bump F.LANES_CNT_CAL_REJECT).raise E.LANES_CAL_REJECT

/-- The end of MATCH_IN (R399, R400). -/
def matchInEnd (n : Nat) (s : State) : State :=
  let ms := s.ana.pairs.map fun p => (p.1, matchPair p.2)
  if !ms.all (fun m => goodMatch m.2) then calReject (cycleIdle s)
  else if spansSwap s n then s
  else
    let s := { s with ana.matched := ms.map fun m => (m.1, (m.2.1.toNat, m.2.2)), ana.matchRun := 0 }
    setCal n (some { todo := calTodo (laneGains s n) }) (swapped n 3 s)

/-- The end of MATCH_OUT (R400, R402). -/
def matchOutEnd (n : Nat) (s : State) : State :=
  if spansSwap s n then s else
  let step := s.ana.pairs.foldl (fun m p => max m (p.2.1 - p.2.2).natAbs) 0
  let inj := s.armedAt 0x28 1
  let step := if inj then step + s.get F.LANES_HMAX_HSTEP_MAX + 1 else step
  let s := if inj then s.disarm 0x28 1 else s
  let s := s.put F.LANES_LS_HSTEP (satTo 65535 step)
  let r := (laneOf s n).cal.getD { todo := [] }
  let s := if step ≤ s.get F.LANES_HMAX_HSTEP_MAX then (applyCal n r s).raise E.LANES_CAL_DONE
    else
      let s := setCal n none (calReject s)
      setLane n { laneOf s n with calAge := 0 } s
  cycleIdle (swapped n 0 s)

/-- SHADOW_SWAP: what the end of a match phase brings at this boundary. -/
def shadowBoundary (s : State) : State :=
  let n := s.get F.LANES_LS_FOR
  if s.ana.matchRun ≠ 2 then s
  else match s.get F.LANES_LS_PHASE with
    | 2 => matchInEnd n s
    | 4 => matchOutEnd n s
    | _ => s

/-! ### Urgent requests (R392–R395) -/

/-- URGENT_REQUEST: a write of LANES_URG, whose GO requests a conversion. -/
def urgentWrite (w : Word) (s : State) : State :=
  let lane := getBits w 10 8
  let setup := getBits w 5 0
  let s := (s.put F.LANES_URG_LANE lane).put F.LANES_URG_SETUP setup
  if getBits w 31 31 = 0 then s else
  let s := ((s.putB F.LANES_URG_STAT_DONE false).putB F.LANES_URG_STAT_DROPPED false).putB F.LANES_URG_STAT_INVALID false
  let s := s.put F.LANES_URG_STAT_LANE lane
  if s.ana.urg.isSome then urgentDrop false s else { s with ana.urg := some (lane, setup) }

/-- A calibration conversion of lane `n` is running. -/
def calRuns (s : State) (n : Nat) : Bool := match (laneOf s n).cal with
  | some r => r.armed == 3
  | none => false

/-- The pending request at its boundary. -/
def urgentBoundary (s : State) : State := match s.ana.urg with
  | none => s
  | some (n, u) =>
    let s := { s with ana.urg := none }
    let inj := s.armedAt 0x28 2
    let s := if inj then s.disarm 0x28 2 else s
    if 6 ≤ n ∨ 48 ≤ u ∨ !(setupOf s u).en then urgentDrop true s
    else if inj || !s.en (0x22 + n) || seqLen s n != 0 || (convOf s n).isSome || calRuns s n || !anaOn s then urgentDrop false s
    else setConv n (some (urgentConv s n u)) (abandonDirect n s)

/-! ### The boundary -/

/-- The results that wait are written (R11, R388, R389). -/
def laneResults (s : State) (n : Nat) : State :=
  let one (s : State) (r : Nat × Word × Nat) : State :=
    let l := laneOf s n
    let q := (l.seqno + 1) % 256
    let s := setLane n { l with seqno := q } s
    let s := s.wr (0x22 + n) (0x060 + 4 * r.1) r.2.1
    let s := s.wr (0x22 + n) (0x080 + 4 * r.1) (BitVec.ofNat 32 (s.tick.num % 65536 * 65536 + q * 256 + r.2.2))
    s.bump (F.LANE_CNT_RESULTS n)
  let s := (laneOf s n).out.foldl one s
  setLane n { laneOf s n with out := [] } s

/-- A tick has ended for a calibration: what was armed in it is timed from this boundary, and anew where no command has started it (R639, DESIGN CHOICE, log entry 5). -/
def ageCal (u : Nat) (r : CalRun) : CalRun :=
  if r.armed = 3 then { r with age := r.age + u } else if r.armed = 1 then { r with armed := 2 } else r

/-- A tick has ended for a conversion of lane `n` that has not started: where its pulse's or its own instant lay in it and no command made it so, it waits for the
lane's next boundary, as one that is ready at another instant does (R383, DESIGN CHOICE, log entry 5). -/
def missStart (n : Nat) (c : Conv) (s : State) : State :=
  let s := pulseOff c (10000 * (c.age + tickUnits s) - pulseAt c) s
  showPins (setConv n (if forUrgent c then some { c with waits := true, pulseOn := false } else none) s)

/-- A tick has ended for lane `n`. -/
def ageLane (s : State) (n : Nat) : State :=
  let l := laneOf s n
  let u := tickUnits s
  let s := setLane n { l with since := min 4095 (l.since + 1), calAge := l.calAge + u, cal := l.cal.map (ageCal u) } s
  match l.conv with
  | some c =>
    if !c.running && hasCome s c.age (if pulsed c && !c.pulseOn then pulseAt c else startAt c) then missStart n c s
    else setConv n (some { c with ticks := c.ticks + 1, age := c.age + u }) s
  | none => s

/-- The tick that ends, for the lanes and LS. -/
def ageLanes (s : State) : State :=
  let s := lanes.foldl ageLane s
  { s with ana.lsCal := s.ana.lsCal.map (ageCal (tickUnits s)) }

/-- The lanes at a boundary. -/
def lanesBoundary (s : State) : State :=
  let s := lanes.foldl laneResults s
  let s := lanes.foldl directApply s
  let s := shadowBoundary s
  let s := urgentBoundary s
  lanes.foldl armLane s

/-! ### Commits, power and validators -/

/-- A TICK commit has changed RATE: the lanes whose spacing leaves the bounds use the smallest one (R385). -/
def clipPeriods (s : State) : State :=
  lanes.foldl (fun s n =>
    let p := s.get (F.LANE_CFG_PER_TICKS n)
    if decide (rateHz s ≤ 2400 * p) && decide (10 * p ≤ rateHz s) then s
    else if s.flag (F.LANE_STAT_PER_CLIP n) then s
    else (s.putB (F.LANE_STAT_PER_CLIP n) true).raise (E.LANE_PER_CLIP n)) s

/-- A LANE commit of lane `n` has applied (R385, R395). -/
def afterLaneCommit (n : Nat) (s : State) : State :=
  let s := s.putB (F.LANE_STAT_PER_CLIP n) false
  if seqLen s n ≠ 0 then abandonDirect n s else s

/-- An XPT commit has applied: conversions whose pulse or start is still to come are timed anew with the new setups (R351). -/
def retime (s : State) : State :=
  lanes.foldl (fun s n => match convOf s n with
    | some c => if c.pulseOn || c.running then s else setConv n (if forUrgent c then some { c with waits := true } else none) s
    | none => s) s

/-- ANA refuses a quiesce request (R375, R403). -/
def anaRefuses (s : State) : Bool :=
  lanes.any (fun n => match convOf s n with
    | some c => c.pulseOn
    | none => false) || s.get F.LANES_LS_PHASE == 2 || s.get F.LANES_LS_PHASE == 4

/-- ANA accepts a quiesce request for FROST in PREP or STAND: the cycle ends, and the lane's trial coefficients go (R403, DEDUCED, log entry 100). -/
def calQuiesce (s : State) : State :=
  let ph := s.get F.LANES_LS_PHASE
  let n := s.get F.LANES_LS_FOR
  if ph = 1 ∨ ph = 3 then
    let s := if ph = 3 then setCal n none s else s
    (cycleIdle (s.putB (F.LANE_STAT_STOOD_IN n) false)).bump F.LANES_CNT_CAL_ABANDON |>.raise E.LANES_CAL_ABANDON else s

/-- ANA loses power: what runs is lost. -/
def anaDown (s : State) : State :=
  showPins (lanes.foldl (fun s n => (setCal n none (setConv n none s)).putB (F.LANE_STAT_CONVERTING n) false) s)

/-- ANA is released: averages and EXC_STAT restart, a lead conversion comes first (R368, R374). -/
def anaUp (s : State) : State :=
  let s := lanes.foldl (fun s n => setLane n { laneOf s n with leadDone := [], since := 4095 } s) s
  let s := { s with ana.charge := [], ana.complPrev := [] }
  (((s.wr 0x21 0x058 0).wr 0x21 0x05C 0).wr 0x21 0x060 0).wr 0x21 0x064 0 |>.wr 0x21 0x068 0

/-- The validator of lane `n` (R415). -/
def checkLane (n : Nat) (s : State) : Option Nat :=
  let per := s.getS (F.LANE_CFG_PER_TICKS n)
  let avg := s.getS (F.LANE_CFG_AVG_LOG2 n)
  let len := s.getS (F.LANE_CFG_SEQ_LEN n)
  if per = 0 ∨ avg = 0 ∨ 8 < avg ∨ 8 < len then some 0x01
  else if (List.range len).any fun e => !(setupOf s (seqBy s.getS n e)).en then some 0x02
  else if rateHz s ≤ 2400 * per ∧ 10 * per ≤ rateHz s then none
  else some 0x03

/-- The LANES validator. -/
def checkLanes (s : State) : Option Nat :=
  let a := s.getS F.LANES_COLL_ADDR
  if s.getS F.LANES_CAL_CAL_PERIOD_S < 10 ∨ s.getS F.LANES_HMAX_HSTEP_MAX = 0 then some 0x01
  else if a % 64 ≠ 0 ∨ a < 0x20000000 ∨ 0x20400000 < a + 0x188 then some 0x02
  else none

/-! ### LANE_COLLECT (R391, R734) -/

/-- A result without OPEN, COMPL, LEAD, EXCDIST and CLIP. -/
def cleanResult (w : Word) : Bool := getBits w 6 2 == 0

/-- The results and tags of lane `n` as LANE_COLLECT copies them. -/
def laneWords (s : State) (n : Nat) : List Word :=
  (tabulate 8 fun e => s.rd (0x22 + n) (0x060 + 4 * e)) ++ tabulate 8 fun e => s.rd (0x22 + n) (0x080 + 4 * e)

/-- A written result of lane `n` is valid as a primary value (R734). -/
def hasClean (s : State) (n : Nat) : Bool :=
  (List.range 8).any fun e => match aget s.regs (regKey (0x22 + n) (0x060 + 4 * e)) with
    | some w => cleanResult w
    | none => false

/-- A store of the KV4811's own to SRAM; nothing is stored where a bank does not serve. -/
def sramStore (a : Nat) (ws : List Word) (s : State) : State := if inPoweredSram s a (4 * ws.length) then memPut a ws s else s

/-- The first valid primary value (R734). -/
def firstValue (ms : Nat) (s : State) : State :=
  let s := ({ s with boot.firstSeen := true }.put F.SYS_BOOT1_FIRST_MS (satTo 65535 ms)).putB F.SYS_BSTAT_FIRST_OK true
  s.raise E.SYS_FIRST_VALUE

/-- LANE_COLLECT's copies; `ms` is the time of the boundary that begins the slot, in ms from the POR release. -/
def laneCollect (arg ms : Nat) (s : State) : State :=
  let sel := lanes.filter fun n => if arg % 64 = 0 then s.en (0x22 + n) else bitOf arg n
  let a := s.get F.LANES_COLL_ADDR
  let first := !s.boot.firstSeen && sel.any (hasClean s)
  let s := if first then firstValue ms s else s
  let s := sel.foldl (fun s n => sramStore (a + 64 * n) (laneWords s n) s) s
  if bitOf arg 6 then sramStore (a + 0x180) [s.rd 0x28 0x050, s.rd 0x28 0x054] s else s

end Sys2Proof.Machine
end

