-- ==== Sys2Proof/Machine/Fast.lean ====
section
/-! DEFINITION. The fast lanes (chapter 10): the sample word, the splice, the LMS estimator, and the ring in SRAM. -/

namespace Sys2Proof.Machine

/-- Fast lane `k`. -/
def fastOf (s : State) (k : Nat) : Fast := if k = 0 then s.fast0 else s.fast1
def setFast (k : Nat) (f : Fast) (s : State) : State := if k = 0 then { s with fast0 := f } else { s with fast1 := f }

/-- FS_F, the FINE full scale on the common scale (R405). -/
def fsF : Int := 524288

/-- C' of a raw COARSE value (R406). -/
def coarse (s : State) (k : Nat) (c : Int) : Int := (s.get (F.FAST_GAIN_G k) : Int) * c / 2 ^ 30 + s.getI (F.FAST_OFS_O k) / 2 ^ 8

/-- FINE clipped; COARSE clipped (R405, R409). -/
def fineClip (f : Int) : Bool := decide (fsF ≤ f.natAbs)
def coarseClip (c : Int) : Bool := decide (c ≤ -8388608) || decide (8388607 ≤ c)

/-- |F| at or above 0.9 of its full scale; |C'| below 0.3 of it (R407). -/
def fineHigh (f : Int) : Bool := decide (9 * fsF ≤ 10 * (f.natAbs : Int))
def coarseSmall (c : Int) : Bool := decide (10 * (c.natAbs : Int) < 3 * fsF)

/-- The path of a sample, 1 COARSE, and the run of small COARSE samples up to it, on either path (R407, R408). -/
def choosePath (s : State) (k : Nat) (f c' : Int) : Nat × Nat :=
  let st := fastOf s k
  let h := if coarseSmall c' then min 255 (st.hold + 1) else 0
  match s.get (F.FAST_CFG_FORCE k) with
  | 1 => (0, h)
  | 2 => (1, h)
  | _ =>
    if s.get (F.FAST_STAT_PATH k) = 0 then
      let p := st.fPrev.getD f
      if fineHigh f || fineClip f then (1, h)
      else if s.flag (F.FAST_CFG_SLOPE_EN k) && decide (fsF ≤ (f + 2 * (f - p)).natAbs) then (1, h)
      else (0, h)
    else if s.get (F.FAST_CFG_HOLD k) ≤ h then (0, h) else (1, h)

/-- The estimator is reset (R413). -/
def resetEstimator (k : Nat) (s : State) : State :=
  let s := ((s.put (F.FAST_GAIN_G k) 0x40000000).put (F.FAST_OFS_O k) 0).put (F.FAST_RESID_R k) 0xFFFFFF
  setFast k { fastOf s k with updates := 0, need := 2048, errs := [] } (s.putB (F.FAST_STAT_CONV k) false)

/-- The estimator's update by a sample (R410), or its freeze. -/
def estimate (k : Nat) (f c : Int) (s : State) : State :=
  if !s.flag (F.FAST_CFG_LMS_EN k) || fineHigh f || fineClip f || coarseClip c then s.putB (F.FAST_STAT_FROZEN k) true
  else
    let e := f - coarse s k c
    let o := s.getI (F.FAST_OFS_O k) + e * 256 / 2 ^ s.get (F.FAST_CFG_MU_O k)
    let g := (s.get (F.FAST_GAIN_G k) : Int) + (if (2 ^ 17 : Int) ≤ c.natAbs then e * c / 2 ^ s.get (F.FAST_CFG_MU_G k) else 0)
    let s := ((s.putB (F.FAST_STAT_FROZEN k) false).putI (F.FAST_OFS_O k) o).put (F.FAST_GAIN_G k) (clampInt 0 0xFFFFFFFF g).toNat
    let st := fastOf s k
    let errs := (e.natAbs :: st.errs).take 256
    let s := setFast k { st with errs, updates := satTo 65535 (st.updates + 1) } s
    if errs.length < 256 then s
    else s.put (F.FAST_RESID_R k) (satTo 0xFFFFFF ((errs.foldl (· + ·) 0 + 128) / 256))

/-- CONV follows the residual (R411). -/
def converge (k : Nat) (s : State) : State :=
  let st := fastOf s k
  let r := s.get (F.FAST_RESID_R k)
  let th := s.get (F.FAST_MATCH_MATCH_TH k)
  if s.flag (F.FAST_STAT_CONV k) then
    if 2 * th < r then ((s.putB (F.FAST_STAT_CONV k) false).bump (F.FAST_CNT_CONVLOSS k)).raise (E.FAST_CONV_LOST k) else s
  else if st.need ≤ st.updates ∧ r ≤ th then (s.putB (F.FAST_STAT_CONV k) true).raise (E.FAST_CONV_SET k)
  else s

/-- The word that is delivered: FAST_WORD, and the FIFO of 8 words (R414). -/
def deliver (k : Nat) (w : Word) (s : State) : State :=
  let s := s.put (F.FAST_WORD_WORD k) w.toNat
  let st := fastOf s k
  if st.fifo.length < 8 then setFast k { st with now := some w, fifo := st.fifo ++ [w] } s
  else ((setFast k { st with now := some w, fifo := st.fifo.tail ++ [w] } s).bump (F.FAST_CNT2_FIFO_OVF k)).raise (E.FAST_FIFO_OVF k)

/-- FAST_SAMPLE: the word of the sampling instant at the start of the tick (R404–R411). -/
def fastSample (k : Nat) (f c : Int) (s : State) : State × Word :=
  let f := clampInt (-fsF) fsF f
  let c := clampInt (-8388608) 8388607 c
  let c' := coarse s k c
  let old := s.get (F.FAST_STAT_PATH k)
  let (path, hold) := choosePath s k f c'
  let inj := s.armedAt (0x29 + k) 1
  let s := if inj then s.disarm (0x29 + k) 1 else s
  let ovr := inj || (if path = 0 then fineClip f else coarseClip c)
  let unm := path == 1 && !s.flag (F.FAST_STAT_CONV k)
  let x := clampInt (-8388608) 8388607 (if path = 0 then f else c')
  let w := BitVec.ofNat 32 (toCode 24 x * 256 + b2n ovr * 8 + b2n unm * 4 + b2n (path != old) * 2 + path)
  let s := if path = old then s
    else if path = 1 then (s.bump (F.FAST_CNT_SPLICES k)).raise (E.FAST_SPLICE_C k)
    else s.raise (E.FAST_SPLICE_F k)
  let s := if ovr && !s.flag (F.FAST_STAT_OVR k) then (s.bump (F.FAST_CNT_OVR k)).raise (E.FAST_OVR_SET k) else s
  let s := ((s.put (F.FAST_STAT_PATH k) path).putB (F.FAST_STAT_OVR k) ovr).putB (F.FAST_STAT_HOLD_RUN k) (path == 1 && decide (0 < hold))
  let s := converge k (estimate k f c s)
  (setFast k { fastOf s k with fPrev := some f, hold } s, w)

/-- The fast lane at a boundary: the word of three ticks before becomes available (R12), and the sample of the tick that begins is taken. -/
def fastBoundary (k : Nat) (f c : Int) (s : State) : State :=
  let st := fastOf s k
  let s := setFast k { st with now := none } s
  let s := match st.delay.headD none with
    | some w => if pstate s = 0 then deliver k w s else s
    | none => s
  let st := fastOf s k
  let rest := st.delay.tail
  if s.en (0x29 + k) && anaOn s then
    let (s, w) := fastSample k f c s
    setFast k { fastOf s k with delay := rest ++ [some w] } s
  else setFast k { st with delay := rest ++ [none], fPrev := none, hold := 0 } s

/-- Words go to the ring one after another (R414). -/
def ringWrite (k : Nat) : List Word → State → State
  | [], s => s
  | w :: t, s =>
    let p := s.get (F.FAST_RPOS_POS k)
    let n := s.get (F.FAST_RLEN_LEN k)
    let p := if p < n then p else 0
    let a := s.get (F.FAST_RING_ADDR k) + 4 * p
    let s := if inPoweredSram s a 4 then (memWrite a w s).1 else s
    ringWrite k t (s.put (F.FAST_RPOS_POS k) (if p + 1 < n then p + 1 else 0))

/-- FAST_COLLECT of one lane. -/
def fastCollect1 (k : Nat) (s : State) : State :=
  if s.get (F.FAST_RLEN_LEN k) = 0 then s
  else
    let ws := (fastOf s k).fifo
    setFast k { fastOf s k with fifo := [] } s |> ringWrite k ws

/-- FAST_COLLECT: ARG [1:0] selects the lanes, 0 both (R414). -/
def fastCollect (arg : Nat) (s : State) : State :=
  let s := if arg % 4 = 0 ∨ bitOf arg 0 then fastCollect1 0 s else s
  if arg % 4 = 0 ∨ bitOf arg 1 then fastCollect1 1 s else s

/-- A FAST commit that sets EN resets the estimator (R413). -/
def afterFastCommit (k : Nat) (before s : State) : State :=
  if s.en (0x29 + k) && !before.en (0x29 + k) then resetEstimator k s else s

/-- ANA is released: CONV waits for 256 updates that confirm it (R413). -/
def fastUp (k : Nat) (s : State) : State :=
  setFast k { fastOf s k with updates := 0, need := 256, errs := [], delay := [none, none, none], fPrev := none, hold := 0 } (s.putB (F.FAST_STAT_CONV k) false)

/-- The FAST validator. -/
def checkFast (k : Nat) (s : State) : Option Nat :=
  let th := s.getS (F.FAST_MATCH_MATCH_TH k)
  let a := s.getS (F.FAST_RING_ADDR k)
  let n := s.getS (F.FAST_RLEN_LEN k)
  if s.getS (F.FAST_CFG_HOLD k) = 0 ∨ s.getS (F.FAST_CFG_MU_G k) < 16 ∨ s.getS (F.FAST_CFG_FORCE k) = 3 ∨ th < 64 then some 0x01
  else if a % 4 ≠ 0 ∨ (n ≠ 0 ∧ (a < 0x20000000 ∨ 0x20400000 < a + 4 * n)) then some 0x02
  else none

end Sys2Proof.Machine
end

