-- ==== Sys2Proof/Machine/Link.lean ====
section
/-! DEFINITION. The PHY and its link, the receive filters of the MAC, the transmit queue, PTP and the time of day (chapter 07). -/

namespace Sys2Proof.Machine

/-- The link is up, in G3. -/
def linkUp (s : State) : Bool := gen s == 3 && s.flag F.TPHY_STAT_LINK

/-! ### Transmit queue (R256, R258) -/

/-- The bytes on the wire of a frame with `n` bytes between the Ethernet header and the FCS: preamble, header, FCS, gap, and the least length. -/
def wireBytes (n : Nat) : Nat := max 64 (n + 18) + 20

/-- A frame joins the transmit queue, unless it would exceed TX_GAP_BYTES (R258). -/
def queueTx (f : TxFrame) (s : State) : State :=
  if s.get F.MAC_TX_GAP < f.wire then s else { s with link.tx := s.link.tx ++ [f] }

/-- A frame with `n` bytes between the Ethernet header and the FCS, of no IP datagram that is routed. -/
def plainTx (n : Nat) (w : TxWhat) : TxFrame := { kind := 3, wire := wireBytes n, what := w }

/-- A PTP frame. -/
def ptpTx (w : TxWhat) : TxFrame := { kind := 1, wire := 92, what := w }

/-! ### Own addresses (R325, R326) -/

/-- The modified EUI-64 link-local address of a MAC address. -/
def linkLocal (mac : Nat) : Nat :=
  let hi := mac / 2 ^ 24
  let lo := mac % 2 ^ 24
  let eui := Nat.xor (hi * 2 ^ 40 + 0xFFFE * 2 ^ 24 + lo) (2 ^ 57)
  0xFE80 * 2 ^ 112 + eui

/-- The configured IPv6 address, and the IPv4 address. -/
def ip6Cfg (s : State) : Nat := (List.range 4).foldl (fun a i => a * 2 ^ 32 + s.get (F.ACC_IP6_A i)) 0
def ip4Own (s : State) : Nat := s.get F.ACC_IP4_A

/-- The IPv6 addresses in use. -/
def ip6Own (s : State) : List Nat :=
  if !s.flag F.MAC_FILT_IPV6_EN then [] else
  (if s.link.dadFailed.contains 0 then [] else [linkLocal s.otp.mac])
    ++ (if s.flag F.ACC_CFG_IP6_CFG_EN && !s.link.dadFailed.contains 1 then [ip6Cfg s] else [])

/-- An address of the KV4811 in the given protocol. -/
def ownIp (s : State) (v6 : Bool) (ip : Nat) : Bool :=
  if v6 then (ip6Own s).contains ip else s.flag F.MAC_FILT_IPV4_EN && ip4Own s == ip

/-- An address read from four registers; the gateways. -/
def gatewayOf (s : State) (v6 : Bool) : Nat :=
  if v6 then (List.range 4).foldl (fun a i => a * 2 ^ 32 + s.get (F.ACC_IP6GW_A i)) 0 else s.get F.ACC_IP4GW_A

/-- A peer is on the link: its prefix is that of fe80::/64, of the configured address or of the IPv4 address. -/
def onLink (s : State) (v6 : Bool) (ip : Nat) : Bool :=
  if v6 then ip / 2 ^ 64 == 0xFE80 * 2 ^ 48
    || (s.flag F.ACC_CFG_IP6_CFG_EN && ip / 2 ^ (128 - s.get F.ACC_IP6_PFX_LEN) == ip6Cfg s / 2 ^ (128 - s.get F.ACC_IP6_PFX_LEN))
  else Nat.land ip (s.get F.ACC_IP4MASK_A) == Nat.land (ip4Own s) (s.get F.ACC_IP4MASK_A)

/-- The next hop to a peer: the peer itself on the link, the gateway for an off-link one (R325). -/
def hopTo (s : State) (v6 : Bool) (ip : Nat) : Hop := { v6, ip := if onLink s v6 ip then ip else gatewayOf s v6 }

/-- The MAC address of a next hop is known. -/
def resolved (s : State) (h : Hop) : Bool := s.link.nbrs.any fun n => n.1 == h.v6 && n.2.1 == h.ip

/-- The MAC address of a neighbour is learned, and the frames that waited for it join the queue (R325; DESIGN CHOICE, log entry 168). -/
def learnNbr (v6 : Bool) (ip mac : Nat) (s : State) : State :=
  let s := { s with link.nbrs := (v6, ip, mac) :: s.link.nbrs.filter fun n => !(n.1 == v6 && n.2.1 == ip) }
  let is (f : TxFrame) : Bool := match f.hop with
    | some h => h.v6 == v6 && h.ip == ip
    | none => false
  let fs := s.link.unres.filter is
  fs.foldl (fun s f => queueTx f s) { s with link.unres := s.link.unres.filter fun f => !is f }

/-- An IP datagram for `f`'s next hop is queued; where its MAC address is not known, a neighbour solicitation or an ARP request goes out and the frame waits for the answer. -/
def queueIp (f : TxFrame) (s : State) : State := match f.hop with
  | some h =>
    if resolved s h then queueTx f s
    else
      let asked := s.link.unres.any fun x => x.hop == f.hop
      let s : State := { s with link.unres := s.link.unres ++ [f] }
      if asked then s else queueTx (if h.v6 then plainTx 72 (.neighbourSol h.ip) else plainTx 28 (.arpRequest h.ip)) s
  | none => queueTx f s

/-- The solicited-node multicast MAC address of an IPv6 address. -/
def solicitedMac (ip : Nat) : Nat := 0x3333FF000000 + ip % 2 ^ 24

/-! ### PHY and link (R244–R249) -/

/-- LINK_UP: the partner's abilities, the resolved role, and the SQI and MSE (R244, R245, R247, R286 apart). Duplicate address detection and a gratuitous
ARP follow (R325). -/
def linkUpEvent (hiAdv hiReq master : Bool) (sqi mse : Nat) (s : State) : State :=
  if gen s ≠ 3 ∨ s.flag F.TPHY_STAT_LINK then s else
  let an := s.flag F.TPHY_CFG_AN_EN
  let hi := if an then s.flag F.TPHY_CFG_HI_AMP_ADV && hiAdv && (s.flag F.TPHY_CFG_HI_AMP_REQ || hiReq) else s.flag F.TPHY_CFG_FORCE_HI
  let role := if an then master else s.flag F.TPHY_CFG_FORCE_ROLE
  let s := (((s.putB F.TPHY_STAT_LINK true).putB F.TPHY_STAT_TRAINING false).putB F.TPHY_STAT_AN_DONE an).putB F.TPHY_STAT_AMP_HI hi
  let s := ((s.putB F.TPHY_STAT_ROLE role).put F.TPHY_STAT_SQI sqi).put F.TPHY_MSE_MSE mse
  let s := { s with link.dadFailed := [] }.raise E.TPHY_LINK_UP
  let s := (ip6Own s).foldl (fun s ip => queueTx (plainTx 72 (.neighbourSol ip)) s) s
  if s.flag F.MAC_FILT_IPV4_EN then queueTx (plainTx 28 .gratuitousArp) s else s

/-- PTP is lost (R264). -/
def ptpLost (s : State) : State :=
  let s := { s with link.wait := none }.putB F.PTP_STAT_MEAS_OK false
  if !s.link.up then s else
  let s := { s with link.up := false }
  ptpLoss (almCount 15 ((s.bump F.PTP_CNT_ERR_LOSS).raise E.PTP_PTP_LOST))

/-- The link goes down: LINK_DOWN's state without its fault. -/
def dropLink (s : State) : State :=
  let s := ((s.putB F.TPHY_STAT_LINK false).putB F.TPHY_STAT_AN_DONE false).put F.TPHY_STAT_SQI 0
  ptpLost { s with link.ptpQ := [], link.genQ := [], link.tx := [], link.unres := [], link.nbrs := [] }

/-- LINK_DOWN: the link monitor declares link fail, and training restarts (R248, R264, R590). -/
def linkDown (inj : Bool) (s : State) : State :=
  if !linkUp s then s else
  let s := (dropLink s).putB F.TPHY_STAT_TRAINING true
  let s := almCount 14 ((s.bump F.TPHY_CNT_LINK_DOWN).raise E.TPHY_LINK_DOWN)
  faultEvent 0x31 0 s false inj

/-- The PHY's measurements of a tick: SQI, MSE and symbol errors; the injected SQI of 0 lasts one tick. -/
def tickPhy (sqi mse errs : Nat) (s : State) : State :=
  if !linkUp s then s else
  let inj := s.armedAt 0x14 2
  let s := if inj then s.disarm 0x14 2 else s
  let q := if inj then 0 else min 7 sqi
  let s := ((s.put F.TPHY_STAT_SQI q).put F.TPHY_MSE_MSE mse).bump F.TPHY_CNT_SYMERR errs
  if s.get F.TPHY_CFG_SQI_MIN ≤ q then { s with link.sqiLow := false } else s

/-- SQI_LOW: the SQI has fallen below SQI_MIN (R249). -/
def sqiLow (s : State) : State :=
  if linkUp s ∧ s.get F.TPHY_STAT_SQI < s.get F.TPHY_CFG_SQI_MIN ∧ !s.link.sqiLow then
    { s with link.sqiLow := true }.raise E.TPHY_SQI_LOW
  else s

/-! ### Receive filters (R250–R255) -/

/-- Check 3: a destination address that is received. -/
def dstPasses (s : State) (d : Nat) : Bool :=
  d == s.otp.mac || d == 0xFFFFFFFFFFFF || d == 0x011B19000000 || d == 0x0180C200000E || d == 0x333300000001
    || (ip6Own s).any (fun ip => solicitedMac ip == d)
    || (s.flag F.MAC_FILT_MC0_EN && d == s.get F.MAC_MC0_HI_HI * 2 ^ 32 + s.get F.MAC_MC0_LO_LO)
    || (s.flag F.MAC_FILT_MC1_EN && d == s.get F.MAC_MC1_HI_HI * 2 ^ 32 + s.get F.MAC_MC1_LO_LO)

/-- Check 4. -/
def vlanPasses (s : State) : Option Nat → Bool
  | none => true
  | some v => v == 0 || (s.flag F.MAC_FILT_VLAN_EN && v == s.get F.MAC_FILT_VID)

/-- Check 5. -/
def typePasses (s : State) (t : Nat) : Bool :=
  t == 0x88F7 || (t == 0x86DD && s.flag F.MAC_FILT_IPV6_EN) || ((t == 0x0800 || t == 0x0806) && s.flag F.MAC_FILT_IPV4_EN)

/-- The least recently used bucket: of those idle for the same time, the one behind the others, since a bucket that is used goes to the front. -/
def oldest : List Bucket → Option Bucket
  | [] => none
  | b :: t => match oldest t with
    | some o => if b.idle ≤ o.idle then some o else some b
    | none => some b

/-- The bucket of a source: its own, a new one, or that of the least recently used address; a new one is full (R252). -/
def takeBucket (src full : Nat) (bs : List Bucket) : Bucket × List Bucket :=
  match bs.find? (fun b => b.src == src) with
  | some b => (b, bs.filter fun x => x.src != src)
  | none =>
    let new : Bucket := ⟨src, full, 0⟩
    if bs.length < 16 then (new, bs)
    else match oldest bs with
      | some o => (new, bs.filter fun x => x.src != o.src)
      | none => (new, bs)

/-- Check 6: a token of the source's bucket is taken; false where there is none. -/
def sourceRate (src : Nat) (s : State) : State × Bool :=
  let (b, rest) := takeBucket src (s.get F.MAC_RATE_SRC_BURST * 28800) s.link.buckets
  if 28800 ≤ b.tok then ({ s with link.buckets := { b with tok := b.tok - 28800, idle := 0 } :: rest }, true)
  else ({ s with link.buckets := { b with idle := 0 } :: rest }, false)

/-- A drop under check 6, with FLOOD where it is the first after 1 s (R255). -/
def sourceDrop (src : Nat) (s : State) : State :=
  let first := decide (28800 ≤ s.link.sinceDrop)
  let s := { s with link.sinceDrop := 0 }.bump F.MAC_CNT_RATE_SRC
  if first then ((s.put F.MAC_FLOOD_HI_HI (src / 2 ^ 32)).put F.MAC_FLOOD_LO_LO src).raise E.MAC_FLOOD else s

/-- Checks 7 and 8 and the queues (R253, R254). The answer says whether the frame is queued. -/
def rateAndQueue (f : MacFrame) (s : State) : State × Bool :=
  if f.etherType = 0x88F7 then
    if 4 ≤ s.link.ptpQ.length then ((s.bump F.MAC_CNT_Q_PTPQ).raise E.MAC_QFULL, false)
    else ({ s with link.ptpQ := s.link.ptpQ ++ [f] }.bump F.MAC_CNT_OK_RX, true)
  else if s.link.gtok < 28800 then (s.bump F.MAC_CNT_RATE_GLOBAL, false)
  else
    let s := { s with link.gtok := s.link.gtok - 28800 }
    if 16 ≤ s.link.genQ.length then ((s.bump F.MAC_CNT_Q_QFULL).raise E.MAC_QFULL, false)
    else ({ s with link.genQ := s.link.genQ ++ [f] }.bump F.MAC_CNT_OK_RX, true)

/-- The eight checks of R250 in order; the answer says whether the frame is queued. -/
def macChecks (f : MacFrame) (s : State) : State × Bool :=
  if !linkUp s then (s, false) else
  let inj := s.armedAt 0x15 1
  let s := if inj then s.disarm 0x15 1 else s
  if !f.fcsOk || inj then (s.bump F.MAC_CNT_ERR_FCS, false)
  else if f.len < 64 ∨ 1522 < f.len then (s.bump F.MAC_CNT_ERR_LEN, false)
  else if !dstPasses s f.dst then (s.bump F.MAC_CNT_DST_DST, false)
  else if !vlanPasses s f.vlan then (s.bump F.MAC_CNT_DST_VLAN, false)
  else if f.etherType = 0x88BA ∨ f.etherType = 0x88B8 then (s.bump F.MAC_CNT_TYPE_PUBLISH, false)
  else if !typePasses s f.etherType then (s.bump F.MAC_CNT_TYPE_TYPE, false)
  else match sourceRate f.src s with
    | (s, false) => (sourceDrop f.src s, false)
    | (s, true) => rateAndQueue f s

/-- The buckets' refill and ages over a tick (R252, R253, R255). -/
def tickMac (s : State) : State :=
  let u := tickUnits s
  let top := s.get F.MAC_RATE_SRC_BURST * 28800
  let age (b : Bucket) : Bucket := { b with tok := min top (b.tok + u * s.get F.MAC_RATE_SRC_PPS), idle := satTo 288000 (b.idle + u) }
  { s with
    link.buckets := s.link.buckets.map age
    link.gtok := min (64 * 28800) (s.link.gtok + u * s.get F.MAC_GRATE_GLOBAL_PPS)
    link.sinceDrop := satTo 28800 (s.link.sinceDrop + u) }

/-! ### PTP (R259–R264) -/

/-- A frame has one of the multicast addresses at which a message of its kind is accepted (R259): Sync, Follow_Up and Announce at 01-1B-19-00-00-00, peer delay messages at both. -/
def ptpAddr (dst : Nat) : PtpMsg → Bool
  | .sync _ _ _ _ _ _ _ => dst == 0x011B19000000
  | .followUp _ _ _ => dst == 0x011B19000000
  | .announce _ => dst == 0x011B19000000
  | _ => dst == 0x011B19000000 || dst == 0x0180C200000E

/-- A message of the wrong domain or kind, or at another address, is dropped as it comes (R259): the counter it goes to (DEDUCED, log entry 166). -/
def ptpDrops (s : State) (dst : Nat) : Payload → Option Fld
  | .ptp d m => if d ≠ s.get F.PTP_CFG_DOMAIN then some F.PTP_CNT_ERR_OTHER
    else match m with
      | .endToEnd => some F.PTP_CNT_ERR_E2E
      | .other => some F.PTP_CNT_ERR_OTHER
      | m => if ptpAddr dst m then none else some F.PTP_CNT_ERR_OTHER
  | _ => some F.PTP_CNT_ERR_OTHER

/-- The message at the head of the PTP queue. -/
def ptpHead (s : State) : Option PtpMsg := match s.link.ptpQ with
  | f :: _ => match f.payload with
    | .ptp _ m => some m
    | _ => none
  | [] => none

/-- The head of the PTP queue leaves it. -/
def ptpPop (s : State) : State := { s with link.ptpQ := s.link.ptpQ.tail }

/-- A foreign master is qualified: two Announces within four intervals, and fewer than 255 steps removed. -/
def qualified (f : Foreign) : Bool := decide (f.ann.steps < 255) && (match f.ages with
  | _ :: b :: _ => decide (b ≤ 4 * 28800)
  | _ => false)

/-- The data set comparison of IEEE 1588: the fields of two grandmasters, or for one and the same the steps to it and the sender (PRESUMED, log entry 166). -/
def dataSet (a : Announce) (same : Bool) : List Nat := if same then [a.steps, a.sender] else [a.p1, a.gmClass, a.accuracy, a.variance, a.p2, a.gmId]

/-- One list of fields comes before another. -/
def fieldsBefore : List Nat → List Nat → Bool
  | a :: s, b :: t => decide (a < b) || (a == b && fieldsBefore s t)
  | _, _ => false

/-- Master `a` is better than master `b`. -/
def betterMaster (a b : Announce) : Bool := fieldsBefore (dataSet a (a.gmId == b.gmId)) (dataSet b (a.gmId == b.gmId))

/-- The best qualified foreign master. -/
def bestMaster (fs : List Foreign) : Option Foreign :=
  (fs.filter qualified).foldl (fun b f => match b with
    | some x => if betterMaster f.ann x.ann then some f else some x
    | none => some f) none

/-- PTP_STAT and PTP_GMID show the selected master. -/
def showMaster (s : State) : State :=
  let s := s.put F.PTP_STAT_FOREIGN ((s.link.foreign.filter qualified).length)
  match s.link.sel.bind fun m => s.link.foreign.find? fun f => f.ann.sender == m with
  | some f =>
    let s := { s with link.utcOffset := f.ann.utcOffset }
    (((s.put F.PTP_STAT_GM_CLASS f.ann.gmClass).putB F.PTP_STAT_MASTER_SEL true).put F.PTP_GMID_HI_HI (f.ann.gmId / 2 ^ 32)).put
      F.PTP_GMID_LO_LO f.ann.gmId
  | none => s.putB F.PTP_STAT_MASTER_SEL false

/-- The best master is selected; a change raises MASTER_CHANGE (R261). -/
def selectMaster (s : State) : State :=
  let b := (bestMaster s.link.foreign).map fun f => f.ann.sender
  let s' := showMaster { s with link.sel := b }
  if b ≠ s.link.sel ∧ b ≠ none then s'.raise E.PTP_MASTER_CHANGE else s'

/-- PTP_ANNOUNCE (R261). -/
def ptpAnnounce (s : State) : State := match ptpHead s with
  | some (.announce a) =>
    let s := (ptpPop s).bump F.PTP_CNT_RX_ANNOUNCE
    let fs := s.link.foreign
    let fs := match fs.find? (fun f => f.ann.sender == a.sender) with
      | some f => fs.map fun x => if x.ann.sender == a.sender then { ann := a, ages := 0 :: f.ages.take 1 } else x
      | none =>
        let fs := if fs.length < 4 then fs else fs.filter qualified
        if fs.length < 4 then fs ++ [{ ann := a, ages := [0] }] else fs
    selectMaster { s with link.foreign := fs }
  | _ => s

/-- ANNOUNCE_TIMEOUT: three intervals without an Announce of the selected master (R259, R264). -/
def announceTimeout (s : State) : State :=
  match s.link.sel.bind fun m => s.link.foreign.find? fun f => f.ann.sender == m with
  | some f =>
    if f.ages.headD 0 < 3 * 28800 then s else
    let s := selectMaster { s with link.foreign := s.link.foreign.filter fun x => x.ann.sender != f.ann.sender }
    if s.link.sel = none then ptpLost s else s
  | none => s

/-- A hardware timestamp in ns, at a resolution of 8 ns (R260; rounded down, DEDUCED, log entry 165). -/
def stamp8 (t : Int) : Int := t / 8 * 8

/-- While PTP is the source in use, the servo takes an offset over: the time of day steps above 1 ms and slews otherwise (R265). -/
def todServo (off : Int) (s : State) : State :=
  if s.get F.TICK_STAT_SRC ≠ 2 then s
  else if off < -1000000 ∨ 1000000 < off then
    { s with link.tod := (s.link.tod - off * 288 : Int).toNat, link.todErr := 0 }.raise E.PTP_TOD_STEP
  else { s with link.todErr := off * 288 }

/-- A Sync is complete: it is an outlier or a measurement (R260, R263). -/
def ptpMeasure (t1 t2 phase freq : Int) (s : State) : State :=
  let off := stamp8 t2 - s.otp.phyRx - t1 - (s.get F.PTP_PDELAY_NS : Int) - s.getI F.PTP_ASYM_NS
  let d := off - s.getI F.PTP_OFFSET_NS
  let inj := s.armedAt 0x16 1
  let s := if inj then s.disarm 0x16 1 else s
  if inj || (s.get F.TICK_STAT_STATE == 2 && (decide (d < -1000000) || decide (1000000 < d))) then
    ((s.putB F.PTP_STAT_MEAS_OK false).bump F.PTP_CNT_ERR_OUTLIER).raise E.PTP_OUTLIER
  else
    let s := { (s.putI F.PTP_OFFSET_NS off).putB F.PTP_STAT_MEAS_OK true with link.up := true, link.sinceMeas := 0 }
    todServo off (ptpRef phase freq s)

/-- A Sync can yield a measurement: the selected master's, with a valid peer delay (R263). -/
def syncCounts (sender : Nat) (s : State) : Bool := s.link.sel == some sender && s.flag F.PTP_STAT_PD_VALID

/-- PTP_SYNC (R263). -/
def ptpSync (s : State) : State := match ptpHead s with
  | some (.sync m q two t1 t2 ph fr) =>
    let s := (ptpPop s).bump F.PTP_CNT_RX_SYNC
    if !syncCounts m s then s.putB F.PTP_STAT_MEAS_OK false
    else if two then { s with link.wait := some (m, q, t2, ph, fr, 0) }
    else ptpMeasure t1 t2 ph fr s
  | _ => s

/-- PTP_FOLLOW_UP (R263). -/
def ptpFollowUp (s : State) : State := match ptpHead s with
  | some (.followUp m q t1) =>
    let s := ptpPop s
    match s.link.wait with
    | some (m', q', t2, ph, fr, age) =>
      if m = m' ∧ q = q' ∧ age ≤ 28800 ∧ syncCounts m s then ptpMeasure t1 t2 ph fr { s with link.wait := none }
      else s
    | none => s
  | _ => s

/-- SYNC_LOSS_TIMEOUT: SYNC_LOSS sync intervals without a measurement (R264). -/
def syncLoss (s : State) : State :=
  if s.link.up ∧ s.get F.PTP_CFG_SYNC_LOSS * 28800 ≤ s.link.sinceMeas then ptpLost s else s

/-- PD_VALID follows the last three requests; with its end PTP is lost (R262, R264). -/
def showPd (s : State) : State :=
  let v := s.link.pdHist.any id
  let was := s.flag F.PTP_STAT_PD_VALID
  let s := s.putB F.PTP_STAT_PD_VALID v
  if was && !v then ptpLost (s.raise E.PTP_PD_INVALID) else s

/-- PDELAY_REQ_TX: every second a request goes out; one before it without an answer has yielded nothing (R259, R262). -/
def pdelayReqTx (s : State) : State :=
  if !linkUp s || decide (s.link.pdSince + tickUnits s ≤ 28800) then s else
  let s := if s.link.pdOut then showPd { s with link.pdHist := false :: s.link.pdHist.take 2 } else s
  queueTx (ptpTx (.pdelayReq 0x0180C200000E)) { s with link.pdOut := true, link.pdSince := 0 }

/-- The peer delay of a response: half of the round trip between the own timestamps, less the neighbour's time; the PHY's latencies are removed (R260, R262). -/
def peerDelay (t1 t4 turn : Int) (s : State) : Int := (stamp8 t4 - s.otp.phyRx - (stamp8 t1 + s.otp.phyTx) - turn) / 2

/-- PDELAY_RESP: a measurement of the peer delay (R262). -/
def pdelayResp (s : State) : State := match ptpHead s with
  | some (.pdelayResp t1 t4 turn) =>
    let s := ptpPop s
    if !s.link.pdOut then s.bump F.PTP_CNT_ERR_OTHER else
    let d := peerDelay t1 t4 turn s
    let s := { s with link.pdOut := false }
    if 0 ≤ d ∧ d ≤ (s.get F.PTP_PDMAX_NS : Int) then
      let vs := d.toNat :: s.link.pd.take (s.get F.PTP_CFG_PD_AVG - 1)
      let s := { s with link.pd := vs, link.pdHist := true :: s.link.pdHist.take 2 }
      showPd (s.put F.PTP_PDELAY_NS (vs.foldl (· + ·) 0 / vs.length))
    else showPd { s.bump F.PTP_CNT_PD_INVALID with link.pdHist := false :: s.link.pdHist.take 2 }
  | _ => s

/-- PDELAY_REQ_RX: the neighbour's request is answered in two steps, at the address at which it came (R259, R260; DEDUCED, log entry 166). -/
def pdelayReqRx (s : State) : State := match s.link.ptpQ with
  | f :: _ => match f.payload with
    | .ptp _ (.pdelayReq t2) =>
      let s := (ptpPop s).bump F.PTP_CNT_PD_ANSWERED
      queueTx (ptpTx (.pdelayRespFollowUp f.dst none)) (queueTx (ptpTx (.pdelayResp f.dst (stamp8 t2 - s.otp.phyRx))) s)
    | _ => s
  | [] => s

/-- PTP's timers over a tick. -/
def tickPtp (s : State) : State :=
  let u := tickUnits s
  let fs := (s.link.foreign.map fun f => { f with ages := f.ages.map fun a => satTo 144000 (a + u) }).filter fun f =>
    decide (f.ages.headD 0 ≤ 4 * 28800) || s.link.sel == some f.ann.sender
  let w := s.link.wait.bind fun (m, q, t, p, f, a) => if 28800 < a + u then none else some (m, q, t, p, f, a + u)
  let s := { s with link.foreign := fs, link.wait := w, link.sinceMeas := satTo (28800 * 20) (s.link.sinceMeas + u), link.pdSince := satTo 28800 (s.link.pdSince + u) }
  s.put F.PTP_STAT_FOREIGN ((fs.filter qualified).length)

/-! ### Time of day (R265–R267) -/

/-- The time of day over the tick that ends, with its slew of at most 100 ppm (R265; DESIGN CHOICE, log entry 50). -/
def todRun (s : State) : State :=
  let len : Int := tickLen s
  let c := clampInt (-(len / 10000)) (len / 10000) s.link.todErr
  { s with link.tod := ((s.link.tod : Int) + len - c).toNat, link.todErr := s.link.todErr - c }

/-- PTP_TODSET at a second boundary (R266); where the source in use is PTP by then, the write is without effect (DEDUCED, log entry 166). -/
def tickTod (s : State) : State := match s.link.todPend with
  | some sec =>
    if s.get F.TICK_SECIDX_IDX ≠ 0 then s
    else if s.get F.TICK_STAT_SRC = 2 then { s with link.todPend := none }
    else { s with link.tod := sec * 288000000000, link.todErr := 0, link.todPend := none, link.todSet := true }
  | none => s

/-- PTP_TODSET_WRITE; ignored while the tick runs on PTP (R266). -/
def todSetWrite (w : Word) (s : State) : State :=
  if s.get F.TICK_STAT_SRC = 2 then s
  else { s with link.todPend := some w.toNat }.put F.PTP_TODSET_S w.toNat

/-- The time of day `ns` ns into the tick: seconds, which saturate (R6), and nanoseconds. -/
def todAt (ns : Nat) (s : State) : Nat × Nat :=
  let t := s.link.tod + ns * 288
  (min 0xFFFFFFFF (t / 288000000000), t % 288000000000 / 288)

/-- A read of PTP_TOD_S: the seconds, with PTP_TOD_NS latched (R289). -/
def todRead (ns : Nat) (s : State) : State × Word :=
  let t := todAt ns s
  ((s.put F.PTP_TOD_S_S t.1).put F.PTP_TOD_NS_NS t.2, BitVec.ofNat 32 t.1)

/-- UTC seconds of the time of day at a boundary (R267); 0 while the time of day is less than the offset (DESIGN CHOICE, log entry 167). -/
def utcSeconds (s : State) : Nat :=
  (todAt 0 s).1 - (if s.get F.TICK_STAT_SRC = 2 then s.link.utcOffset else s.get F.PTP_UTC_OFS)

/-- The smpSynch value in force (R268). -/
def smpSynch (s : State) : Nat :=
  let src := s.get F.TICK_STAT_SRC
  let from_ := if src = 1 ∨ src = 2 then src else s.tick.lockSrc
  let gm := s.get F.PTP_STAT_GM_CLASS
  if !s.flag F.TICK_STAT_SYNCED then 0
  else if from_ = 2 ∧ (gm = 6 ∨ gm = 7) then 2
  else if from_ = 1 ∧ s.flag F.PTP_CFG_PPS_GLOBAL then 2
  else 1

/-! ### Validators (R289) -/

/-- TPHY has no field that can leave its range. -/
def checkTphy (_ : State) : Option Nat := none

/-- The range checks of MAC and PTP. -/
def checkMac (s : State) : Option Nat :=
  let p := s.getS F.MAC_RATE_SRC_PPS
  let b := s.getS F.MAC_RATE_SRC_BURST
  let g := s.getS F.MAC_GRATE_GLOBAL_PPS
  if p < 10 ∨ 2000 < p ∨ b < 4 ∨ g < 100 ∨ 10000 < g then some 0x01 else none
def checkPtp (s : State) : Option Nat :=
  let l := s.getS F.PTP_CFG_SYNC_LOSS
  let a := s.getS F.PTP_CFG_PD_AVG
  let m := s.getS F.PTP_PDMAX_NS
  if l < 2 ∨ 16 < l ∨ a < 1 ∨ 64 < a ∨ m < 100 ∨ 50000 < m then some 0x01 else none

end Sys2Proof.Machine
end

