-- ==== Sys2Proof/Machine/Storm.lean ====
section
/-! DEFINITION. Stormbox, the disturbance recorder (chapter 11): rows, triggers, records, the archive. -/

namespace Sys2Proof.Machine

/-! ### Layout (R416, R418) -/

/-- ROW_WORDS, by a field reader. -/
def rowWords (g : Fld → Nat) : Nat := g F.REC_ROW_F0_EN + g F.REC_ROW_F1_EN + g F.REC_ROW_NX

/-- RING_ROWS and L_MAX. -/
def ringRows (g : Fld → Nat) : Nat := (g F.REC_AREA_KIB * 1024 - 64) / (4 * rowWords g)
def lMax (g : Fld → Nat) : Nat := min 65536 (ringRows g)

/-- The first byte of area `a`. -/
def areaBase (g : Fld → Nat) (a : Nat) : Nat := g F.REC_BUF_ADDR + a * (g F.REC_AREA_KIB * 1024)

/-- Area `a`. -/
def areaOf (s : State) (a : Nat) : RecArea := if a = 0 then s.stor.area0 else s.stor.area1
def setArea (a : Nat) (x : RecArea) (s : State) : State := if a = 0 then { s with stor.area0 := x } else { s with stor.area1 := x }

/-- The active area and the other one. -/
def activeArea (s : State) : Nat := s.get F.REC_STAT_ACTIVE
def otherArea (s : State) : Nat := 1 - activeArea s

/-- An area is free: it holds no sealed record (R423). -/
def areaFree (s : State) (a : Nat) : Bool := (areaOf s a).held.isNone

/-- The state of R421. -/
def recState (s : State) : Nat := s.get F.REC_STAT_STATE

/-- The highest RECNO in the archive, in REC_LAST or in a held area (R433). -/
def recHigh (s : State) : Nat :=
  let held (a : Nat) : Nat := match (areaOf s a).held with
    | some h => h.recno
    | none => 0
  s.stor.entries.foldl (fun m e => max m e.1) (max (s.get F.REC_LAST_RECNO) (max (held 0) (held 1)))

/-- REC_STAT and REC_HIST follow the block; RECNO_END clears when the highest RECNO is no longer the last (R434). -/
def showRec (s : State) : State :=
  let s := s.putB F.REC_STAT_RECNO_END (s.flag F.REC_STAT_RECNO_END && recHigh s == 0xFFFFFFFF)
  let s := (s.putB F.REC_STAT_HELD0 (!areaFree s 0)).putB F.REC_STAT_HELD1 (!areaFree s 1)
  let s := s.putB F.REC_STAT_ARCH_BUSY s.stor.job.isSome
  (s.put F.REC_HIST_RING_ROWS (satTo 65535 (ringRows s.get))).put F.REC_HIST_HIST (satTo 65535 (areaOf s (activeArea s)).hist)

/-- Both histories are 0 (R420); a record in CAPTURE or SEAL keeps its place in the ring (R427). -/
def clearHistory (s : State) : State :=
  let fresh (a : Nat) : RecArea :=
    let keeps := a == activeArea s && (recState s == 2 || recState s == 3)
    { areaOf s a with hist := 0, idx := if keeps then (areaOf s a).idx else 0 }
  setArea 0 (fresh 0) (setArea 1 (fresh 1) s)

/-! ### Rows (R416, R417) -/

/-- The word of fast lane `k` in the row. -/
def rowFast (s : State) (k : Nat) : Word := if s.en (0x29 + k) then (fastOf s k).now.getD 0 else 0

/-- A row: its words and its marks; `xs` are the extra words as read, none where the read ended other than OK. -/
def makeRow (s : State) (xs : List (Option Word)) : List Word × Nat :=
  let fs := (if s.flag F.REC_ROW_F0_EN then [rowFast s 0] else []) ++ (if s.flag F.REC_ROW_F1_EN then [rowFast s 1] else [])
  let xs := xs.take (s.get F.REC_ROW_NX)
  let mark := b2n (fs.any fun w => bitOf w.toNat 3) + 2 * b2n (fs.any fun w => bitOf w.toNat 2) + 4 * b2n (inFault s) + 8 * b2n (xs.any (·.isNone))
  (fs ++ xs.map (·.getD 0), mark)

/-- The row of a tick goes into area `a`. -/
def storeRow (a : Nat) (ws : List Word) (s : State) : State :=
  let x := areaOf s a
  let n := ringRows s.get
  let i := if x.idx < n then x.idx else 0
  let at_ := areaBase s.get a + 64 + 4 * rowWords s.get * i
  let store (s : State) (k : Nat) : State := if inPoweredSram s (at_ + 4 * k) 4 then (memWrite (at_ + 4 * k) (ws.getD k 0) s).1 else s
  let s := (List.range ws.length).foldl store s
  setArea a { x with idx := if i + 1 < n then i + 1 else 0, hist := min n (x.hist + 1) } s

/-! ### Trigger units (R425) -/

/-- S of a unit's source. -/
def unitValue (s : State) (xs : List (Option Word)) (src : Nat) : Int :=
  if src < 2 then signed 24 ((rowFast s src).toNat / 256)
  else if src - 2 < s.get F.REC_ROW_NX then signed 32 (((xs.getD (src - 2) none).getD 0).toNat)
  else 0

/-- The condition of unit `k` on the new value `v` with its history. -/
def unitHit (s : State) (k : Nat) (u : RecUnit) (v : Int) : Bool :=
  let hi := s.getI (F.REC_TU_HI_HI k)
  if s.get (F.REC_TU_CFG_KIND k) = 0 then decide (hi ≤ v) || decide (v ≤ s.getI (F.REC_TU_LO_LO k))
  else match u.hist[s.get (F.REC_TU_CFG_DEB k) - 1]? with
    | some o => decide (hi ≤ ((v - o).natAbs : Int))
    | none => false

/-- Unit `k` sees a row: the unit after it, and whether it fires. -/
def stepUnit (s : State) (xs : List (Option Word)) (k : Nat) (u : RecUnit) : RecUnit × Bool :=
  if !s.flag (F.REC_TU_CFG_EN k) then ({}, false) else
  let v := unitValue s xs (s.get (F.REC_TU_CFG_SRC k))
  let hit := unitHit s k u v
  let need := if s.get (F.REC_TU_CFG_KIND k) = 0 then s.get (F.REC_TU_CFG_DEB k) else 1
  let run := if hit then min 255 (u.run + 1) else 0
  let off := if hit then 0 else min 255 (u.off + 1)
  let fire := !u.spent && decide (need ≤ run)
  ({ hist := (v :: u.hist).take 16, run, off, spent := fire || (u.spent && decide (off < need)) }, fire)

/-- The four units see the row of tick `t`: the triggers they make. -/
def stepUnits (t : Nat) (xs : List (Option Word)) (s : State) : State × List RecTrig :=
  let us := (List.range 4).map fun k => stepUnit s xs k (s.stor.units.getD k {})
  let new := (List.range 4).filterMap fun k =>
    if (us.getD k ({}, false)).2 then some { tick := t, kind := s.get (F.REC_TU_CFG_KIND k) + 1, src := k : RecTrig } else none
  ({ s with stor.units := us.map (·.1) }, new)

/-! ### Triggers from outside the rows (R424) -/

/-- A trigger attributed to the tick that runs. -/
def addTrig (kind src : Nat) (s : State) : State :=
  if !s.en 0x2C then s else { s with stor.trigs := s.stor.trigs ++ [{ tick := s.tick.num, kind, src }] }

/-- An edge on GPIOn (0–3) or WAKE_IN (4). -/
def recEdge (src : Nat) (falling : Bool) (s : State) : State :=
  if bitOf (s.get F.REC_EDGE_EN) src && bitOf (s.get F.REC_EDGE_POL) src == falling then addTrig 3 src s else s

/-- A new verdict. -/
def recVerdict (code flags : Nat) (s : State) : State :=
  let m := s.get F.REC_VMASK_VMASK
  let hit := decide (code &&& m = s.get F.REC_VTRIG_VCODE &&& m) || decide (flags &&& s.get F.REC_VTRIG_VFLAG_MASK ≠ 0)
  if s.flag F.REC_VTRIG_EN && hit then addTrig 4 0 s else s

/-- A write of GO = 1 to REC_TRIG by a path with that code: SPI makes an SW trigger, the others a LINK trigger. -/
def recGo (code : Nat) (s : State) : State := addTrig (if code = 3 then 5 else 6) code s

/-! ### Stamps -/

/-- The start of the tick that begins is kept. -/
def pushStamp (s : State) : State :=
  let t := todAt 0 s
  let st : RecStamp := {
    num := s.tick.num, idx := s.get F.TICK_SECIDX_IDX, tod := t.1, ns := t.2, smp := smpSynch s,
    synced := s.flag F.TICK_STAT_SYNCED, vcode := getBits s.arr.core 31 16, vflags := getBits s.arr.core 15 8 }
  { s with stor.stamps := (st :: s.stor.stamps).take 4 }

/-- The start of tick `t`. -/
def stampOf (s : State) (t : Nat) : RecStamp := (s.stor.stamps.find? fun x => x.num == t).getD { num := t }

/-! ### Missed triggers (R429, R430) -/

/-- A trigger is missed. -/
def missTrig (cause : Nat) (s : State) (g : RecTrig) : State :=
  let n := s.get F.REC_MLOG_CNT_NEXT
  let w2 := BitVec.ofNat 32 (cause * 2 ^ 24 + g.kind * 65536 + g.src * 256)
  let cap := s.stor.cap.map fun c => { c with missed := satTo 65535 (c.missed + 1) }
  let s := { s with stor.cap := cap, stor.mlog := aset s.stor.mlog n (BitVec.ofNat 32 g.tick, BitVec.ofNat 32 (stampOf s g.tick).tod, w2) }
  let s := (s.put F.REC_MLOG_CNT_NEXT ((n + 1) % 16)).bump F.REC_MLOG_CNT_TOTAL
  (almCount 20 (s.bump F.REC_CNT_MISSED)).raise E.REC_MISSED

/-! ### Records (R427–R434) -/

/-- The record begins with trigger `g`; `more` triggers came with it. -/
def beginRecord (g : RecTrig) (more : Nat) (s : State) : State :=
  let a := activeArea s
  let x := areaOf s a
  let n := ringRows s.get
  let p := s.get F.REC_CFG_P_REQ
  let q := s.get F.REC_CFG_Q_REQ
  let pAct := min p x.hist
  let i := if x.idx < n then x.idx else 0
  let c : RecCap := {
    recno := recHigh s + 1, kind := g.kind, src := g.src, pReq := p, pAct, qReq := q, trig := g.tick, last := g.tick + q - 1,
    first := (i + n - pAct) % n, stamp := stampOf s g.tick, coinc := satTo 255 more, ofs := pAct }
  let s := { s with stor.cap := some c }
  let s := if pAct < p then s.bump F.REC_CNT_CHAIN_SHORT else s
  (s.put F.REC_STAT_STATE 2).raise E.REC_TRIGGER

/-- The record is extended by trigger `g` (R428). -/
def chainRecord (g : RecTrig) (more : Nat) (c : RecCap) (s : State) : State :=
  let end_ := max c.last (g.tick + c.qReq - 1)
  let lim := c.trig + lMax s.get - c.pAct - 1
  let c := { c with last := min end_ lim, capped := c.capped || decide (lim < end_), chains := satTo 255 (c.chains + 1)
                    coinc := satTo 255 (c.coinc + more), ofs := g.tick + c.pAct - c.trig }
  (({ s with stor.cap := some c }.bump F.REC_CNT_CHAIN_CHAINED).put F.REC_STAT_STATE 2).raise E.REC_TRIGGER

/-- The triggers attributed to the row that is written take effect (R424, R427–R429). -/
def takeTrigs (gs : List RecTrig) (s : State) : State :=
  let before (a b : RecTrig) : Bool := decide (a.kind < b.kind) || (a.kind == b.kind && decide (a.src ≤ b.src))
  match gs with
  | [] => s
  | g0 :: t =>
    let g := t.foldl (fun m x => if before m x then m else x) g0
    match recState s, s.stor.cap with
    | 1, _ => beginRecord g t.length s
    | 4, _ => gs.foldl (missTrig 3) s
    | st, some c =>
      if !s.flag F.REC_ROW_CHAIN then gs.foldl (missTrig 1) s
      else if st = 3 ∧ lMax s.get ≤ c.pAct + (c.last + 1 - c.trig) then gs.foldl (missTrig 2) s
      else chainRecord g t.length c s
    | _, none => s

/-- FLAGS of a record (R432). -/
def recFlags (c : RecCap) (s : State) : Nat :=
  let ms := (s.stor.marks.filter fun m => decide (c.trig ≤ m.1 + c.pAct) && decide (m.1 ≤ c.last)).map (·.2)
  let any (i : Nat) : Bool := ms.any fun m => bitOf m i
  b2n (decide (c.pAct < c.pReq)) + 2 * b2n (decide (0 < c.chains)) + 4 * b2n c.capped + 8 * b2n (any 0) + 16 * b2n (any 1)
    + 32 * b2n (!c.stamp.synced) + 64 * b2n (any 2) + 128 * b2n (any 3)

/-- The header W0–W15 (R431). -/
def recHeader (c : RecCap) (s : State) : List Word :=
  let map_ := s.get F.REC_ROW_F0_EN + 2 * s.get F.REC_ROW_F1_EN + 16 * s.get F.REC_ROW_NX
  let t := c.stamp
  let ws := [0x53420110, c.recno, recFlags c s * 65536 + c.kind * 256 + c.src, c.pReq * 65536 + c.pAct,
      c.qReq * 65536 + map_ * 256 + s.get F.TICK_CFG_RATE * 16 + rowWords s.get, c.pAct + (c.last + 1 - c.trig), c.trig]
    ++ [t.smp * 2 ^ 30 + t.idx * 65536 + c.trig / 2 ^ 32, t.tod, t.ns, c.chains * 2 ^ 24 + c.coinc * 65536 + c.ofs,
      t.vcode * 65536 + t.vflags * 256, s.get F.REC_XADDR_ADDR, c.missed * 65536, c.first]
  let ws := ws.map (BitVec.ofNat 32)
  ws ++ [crcWords ws]

/-- The recorder goes to ARMED in area `a`. -/
def armArea (a : Nat) (s : State) : State := (s.put F.REC_STAT_ACTIVE a).put F.REC_STAT_STATE 1

/-- SEAL at the boundary that ends the seal tick (R431, R434). -/
def sealRecord (c : RecCap) (s : State) : State :=
  let a := activeArea s
  let base := areaBase s.get a
  let s := if inPoweredSram s base 64 then memPut base (recHeader c s) s else s
  let held : RecHeld := { recno := c.recno, rows := c.pAct + (c.last + 1 - c.trig), rw := rowWords s.get, first := c.first, ring := ringRows s.get, base }
  let s := setArea a { areaOf s a with held := some held, hist := 0, idx := 0 } { s with stor.cap := none }
  let s := almCount 19 ((s.put F.REC_LAST_RECNO c.recno).bump F.REC_CNT_SEALED |>.raise E.REC_SEALED)
  if c.recno = 0xFFFFFFFF then ((s.putB F.REC_STAT_RECNO_END true).raise E.REC_RECNO_END).put F.REC_STAT_STATE 0
  else if areaFree s (1 - a) then armArea (1 - a) s
  else (s.put F.REC_STAT_STATE 4).raise E.REC_WAIT_ENTER

/-- Held areas that REC_ACK frees, with archiving off (R423, R442). -/
def freeHeld (s : State) : State :=
  let off := !s.flag F.REC_ROW_ARCH_EN || s.flag F.REC_STAT_RETIRED
  let one (s : State) (a : Nat) : State := match (areaOf s a).held with
    | some h => if off && !h.queued && decide (h.recno ≤ s.get F.REC_ACK_RECNO) then setArea a { areaOf s a with held := none } s else s
    | none => s
  one (one s 0) 1

/-- A tick has passed for the held areas. -/
def ageHeld (s : State) : State :=
  let one (s : State) (a : Nat) : State := match (areaOf s a).held with
    | some h => setArea a { areaOf s a with held := some { h with age := satTo (28800 * 4000) (h.age + tickUnits s) } } s
    | none => s
  one (one s 0) 1

/-- The row of tick `t` is written and the triggers attributed to it take effect, in ARMED, CAPTURE and SEAL (R416, R421, R424). -/
def rowBoundary (t : Nat) (xs : List (Option Word)) (s : State) : State :=
  let (ws, mark) := makeRow s xs
  let (s, new) := stepUnits t xs s
  let gs := new ++ s.stor.trigs.filter fun g => g.tick == t
  let s := { s with stor.trigs := s.stor.trigs.filter fun g => decide (t < g.tick)
                    stor.marks := (if mark = 0 then s.stor.marks else aset s.stor.marks t mark).filter fun m => decide (t < m.1 + 65537) }
  let sealing := recState s == 3
  let s := takeTrigs gs s
  match recState s with
  | 1 => storeRow (activeArea s) ws s
  | 2 =>
    let s := storeRow (activeArea s) ws s
    let s := if areaFree s (otherArea s) then storeRow (otherArea s) ws s else s
    match s.stor.cap with
    | some c => if c.last ≤ t then s.put F.REC_STAT_STATE 3 else s
    | none => s
  | 3 =>
    let s := if areaFree s (otherArea s) then storeRow (otherArea s) ws s else s
    match s.stor.cap with
    | some c => if sealing then sealRecord c s else s
    | none => s
  | _ => s

/-- Stormbox at a boundary, before its row: held areas age, an area is armed (R420–R422). -/
def stormArm (s : State) : State :=
  let s := freeHeld (ageHeld s)
  if !s.en 0x2C then ({ s with stor.cap := none, stor.trigs := [] }).put F.REC_STAT_STATE 0
  else if recState s = 4 ∨ (recState s = 0 ∧ s.flag F.REC_STAT_INDEX_READY ∧ !s.flag F.REC_STAT_RECNO_END) then
    if areaFree s 0 then armArea 0 (clearHistory s) else if areaFree s 1 then armArea 1 (clearHistory s)
    else if recState s = 4 then s else (s.put F.REC_STAT_STATE 4).raise E.REC_WAIT_ENTER
  else s

/-- A row of the tick `num` − 3 is written at this boundary (R416, R445). -/
def rowDue (s : State) : Bool := s.en 0x2C && pstate s == 0 && !s.slp.out && decide (3 ≤ s.tick.num) && recState s != 0 && recState s != 4

/-- A boundary out of RUN (R416, R445), as that of a refused sleep entry (R563), writes no row: the histories are 0 and the units begin anew. In CAPTURE the row's place in the ring
is passed over and END still ends the capture; in SEAL the tick still ends with the header (DEDUCED, log entry 164). -/
def rowMissed (t : Nat) (s : State) : State :=
  let s := clearHistory { s with stor.units := [{}, {}, {}, {}] }
  match s.stor.cap with
  | none => s
  | some c =>
    if recState s = 3 then sealRecord c s else
    let a := activeArea s
    let x := areaOf s a
    let s := setArea a { x with idx := if x.idx + 1 < ringRows s.get then x.idx + 1 else 0 } s
    if c.last ≤ t then s.put F.REC_STAT_STATE 3 else s

/-- Stormbox at a boundary: the row, with the extra words as read, or the triggers that find none. -/
def stormRow (xs : List (Option Word)) (s : State) : State :=
  let t := s.tick.num - 3
  let later (s : State) : State := { s with stor.trigs := s.stor.trigs.filter fun g => decide (t < g.tick) }
  if !s.en 0x2C then showRec s
  else if pstate s ≠ 0 ∨ s.slp.out ∨ s.tick.num < 3 then showRec (rowMissed t (later s))
  else if recState s = 0 then showRec (later s)
  else if recState s = 4 then showRec ((s.stor.trigs.filter fun g => g.tick == t).foldl (missTrig 3) (later s))
  else showRec (rowBoundary t xs s)

/-- A REC commit has applied (R420). -/
def afterRecCommit (before s : State) : State :=
  let same (o : Nat) : Bool := before.rdE 0x2C o == s.rdE 0x2C o
  let s := if same 0x044 && same 0x048 && same 0x04C && (before.en 0x2C || !s.en 0x2C) then s else clearHistory s
  showRec (freeHeld s)

/-! ### The archive (R435–R442) -/

/-- Bytes of an archive entry with that many rows of that many words (R436). -/
def entryLen (rows rw : Nat) : Nat := (64 + 4 * rows * rw + 15) / 16 * 16 + 16

/-- The size of ARCHIVE. -/
def archSize : Nat := (partBase 6).2

/-- Word `i` of the entry that `j` writes: its SRAM address, or its value. -/
def entryWord (j : ArchJob) (i : Nat) : Nat ⊕ Word :=
  let h := j.held
  let n := j.len / 4
  if i < 16 then .inl (h.base + 4 * i)
  else if i < 16 + h.rows * h.rw then
    let k := i - 16
    .inl (h.base + 64 + 4 * (h.rw * ((h.first + k / h.rw) % h.ring) + k % h.rw))
  else if i = n - 4 then .inr (j.crc ^^^ 0xFFFFFFFF)
  else if i = n - 3 then .inr (BitVec.ofNat 32 (0x53450000 + j.zeroed))
  else if i = n - 2 then .inr (BitVec.ofNat 32 h.recno)
  else if i = n - 1 then .inr (BitVec.ofNat 32 (j.len / 16))
  else .inr 0

/-- The next `n` words of the entry are read for archiving (R437). -/
def entryWords : Nat → Nat → ArchJob → State → List Word → ArchJob × State × List Word
  | 0, _, j, s, acc => (j, s, acc.reverse)
  | n + 1, i, j, s, acc => match entryWord j i with
    | .inr w => entryWords n (i + 1) j s (w :: acc)
    | .inl a =>
      let (s, r) := if inPoweredSram s a 4 then memRead a s else (s, none)
      let w := r.getD 0
      let j := { j with zeroed := if r.isNone then satTo 65535 (j.zeroed + 1) else j.zeroed
                        head := if i < 16 then j.head ++ [w] else j.head
                        crc := if i < 16 then j.crc else (bytesOfWord w).foldl crc32cByte j.crc }
      entryWords n (i + 1) j s (w :: acc)

/-- The next chunk of the entry joins the queue (R438). -/
def archChunk (s : State) : State := match s.stor.job with
  | none => s
  | some j =>
    let n := min 4096 (j.len - j.pos)
    let (j', s, ws) := entryWords (n / 4) (j.pos / 4) j s []
    let tag := if j.pos + n < j.len then NvmTag.arch j.area else NvmTag.archLast j.area
    enqueue [{ kind := 5, addr := (partBase 6).1 + j.off + j.pos, bytes := wordsBytes ws, tag }] { s with stor.job := some { j' with pos := j.pos + n } }

/-- An entry of `len` bytes at offset `off` takes the space of the entries that it overlaps (R439). -/
def takeSpace (off len : Nat) (s : State) : State :=
  let hit (e : Nat × Nat × Nat) : Bool := decide (e.2.1 < off + len) && decide (off < e.2.1 + e.2.2)
  let lost := (s.stor.entries.filter fun e => hit e && decide (s.get F.REC_ACK_RECNO < e.1)).length
  { s with stor.entries := s.stor.entries.filter fun e => !hit e }.bump F.REC_CNT_ARCH_UNREAD_LOST lost

/-- A held area that is not yet handed over, the lower RECNO first. -/
def handOver (s : State) : Option (Nat × RecHeld) :=
  let c (a : Nat) : Option (Nat × RecHeld) := match (areaOf s a).held with
    | some h => if h.queued then none else some (a, h)
    | none => none
  match c 0, c 1 with
  | some x, some y => if x.2.recno ≤ y.2.recno then some x else some y
  | some x, none => some x
  | none, y => y

/-- The archive is written: ARCH_EN = 1 and the partition not retired (R435, R442). -/
def archOn (s : State) : Bool := s.flag F.REC_ROW_ARCH_EN && !s.flag F.REC_STAT_RETIRED

/-- The archive writer begins the entry of area `a`, with its first chunk (R438, R439). -/
def archStart (a : Nat) (h : RecHeld) (s : State) : State :=
  let len := entryLen h.rows h.rw
  let wraps := decide (archSize < s.stor.wpos + len)
  let off := if wraps then 0 else s.stor.wpos
  let s := takeSpace off len s
  let h := { h with queued := true }
  let s := setArea a { areaOf s a with held := some h } { s with stor.job := some { area := a, held := h, off, len } }
  let s := archChunk s
  if wraps then addPass 6 s else s

/-- REC_SERVICE hands the sealed area to the archive writer (R435), where it waits for the entry before it. -/
def recService (s : State) : State :=
  if !archOn s || !s.flag F.REC_STAT_INDEX_READY then s else
  match handOver s with
  | none => s
  | some (a, h) =>
    if s.stor.job.isNone then showRec (archStart a h s)
    else setArea a { areaOf s a with held := some { h with queued := true } } { s with stor.waits := some a }

/-- A retirement that waited for the entry takes effect (R667). -/
def archSettle (s : State) : State := if s.nvm.archPend then retireArchive { s with nvm.archPend := false } else s

/-- The entry in progress has ended: a retirement takes effect, and the area that was handed over meanwhile is written, or stays held where no entry is written any more (R442). -/
def archNext (s : State) : State :=
  let s := archSettle { s with stor.job := none }
  match s.stor.waits with
  | none => showRec s
  | some a =>
    let s : State := { s with stor.waits := none }
    match (areaOf s a).held with
    | none => showRec s
    | some h => showRec (if archOn s then archStart a h s else setArea a { areaOf s a with held := some { h with queued := false } } s)

/-- The header as written makes a valid entry of its record: HCRC, and W1 that T2 repeats (R437, R438). -/
def entryHeadOk (j : ArchJob) : Bool := crcWords (j.head.take 15) == j.head.getD 15 0 && (j.head.getD 1 0).toNat == j.held.recno

/-- A chunk of the entry is complete: the next one follows, or the entry is complete and its area free (R423, R438). -/
def archDone (last : Bool) (s : State) : State := match s.stor.job with
  | none => s
  | some j =>
    if !last then archChunk s
    else
      let s := setArea j.area { areaOf s j.area with held := none } s
      let es := if entryHeadOk j then s.stor.entries ++ [(j.held.recno, j.off, j.len)] else s.stor.entries
      let s := { s with stor.entries := es, stor.wpos := j.off + j.len }
      let s := (s.bump F.REC_CNT_ARCH_DONE).raise E.REC_ARCH_DONE
      archNext (if j.zeroed = 0 then s else s.bump F.REC_CNT_ARCH_ZEROED)

/-- A chunk of the entry ended as if the power had failed: the entry is invalid, its area waits to be handed over again (DEDUCED, log entry 72). -/
def archTorn (s : State) : State := match s.stor.job with
  | none => s
  | some j =>
    let x := areaOf s j.area
    archNext (setArea j.area { x with held := x.held.map fun h => { h with queued := false } } s)

/-- REC_ARCH_STALL (R441). -/
def archStall (s : State) : State :=
  let one (s : State) (a : Nat) : State := match (areaOf s a).held with
    | some h =>
      if s.flag F.REC_ROW_ARCH_EN && !s.flag F.REC_STAT_RETIRED && !h.stalled && decide (s.get F.REC_ARCH_WAIT_S * 28800 ≤ h.age) then
        faultEvent 0x72 0 (setArea a { areaOf s a with held := some { h with stalled := true } } s)
      else s
    | none => s
  one (one s 0) 1

/-- The length of a valid entry at ARCHIVE offset `off`, with its RECNO (R438, R440). -/
def validEntry (off : Nat) (s : State) : State × Option (Nat × Nat × Nat) :=
  let a := (partBase 6).1 + off
  let (s, hb, ok) := ownRead a 64 s
  let h := bytesWords hb
  let w (i : Nat) : Nat := (h.getD i 0).toNat
  let len := entryLen (w 5) (w 4 % 16)
  if !ok || w 0 != 0x53420110 || crcWords (h.take 15) != h.getD 15 0 || decide (archSize < off + len) then (s, none) else
  let (s, eb, ok) := ownRead a len s
  let rows := (eb.drop 64).take (4 * w 5 * (w 4 % 16))
  let t := bytesWords (eb.drop (len - 16))
  if ok && crc32c rows == t.getD 0 0 && (t.getD 2 0).toNat == w 1 && (t.getD 3 0).toNat == len / 16 then (s, some (w 1, off, len)) else (s, none)

/-- The offsets of ARCHIVE at which an entry can begin: the 16-byte boundaries with a MAGIC, in rising order. -/
def archStarts (s : State) : List Nat :=
  (s.mem.filter fun c => decide ((partBase 6).1 ≤ c.1) && decide (c.1 < (partBase 6).1 + archSize) && c.1 % 16 == 0 && c.2 == 0x53).map
    fun c => c.1 - (partBase 6).1

/-- INDEX_READY: the archive scan of the start-up (R433, R434, R440). -/
def indexReady (s : State) : State :=
  if s.flag F.REC_STAT_INDEX_READY ∨ !s.flag F.SYS_BSTAT_ROM_OK then s else
  let (s, es) := (archStarts s).foldl (fun (x : State × List (Nat × Nat × Nat)) off =>
    let (s, e) := validEntry off x.1
    (s, x.2 ++ e.toList)) (s, [])
  let high := es.foldl (fun m e => if m.1 < e.1 then e else m) (0, 0, 0)
  let older := es.filter fun e => decide (high.2.1 + high.2.2 ≤ e.2.1)
  let newer := es.filter fun e => decide (e.2.1 < high.2.1 + high.2.2)
  let s : State := { s with stor.entries := older ++ newer, stor.wpos := high.2.1 + high.2.2 }
  let s := (s.putB F.REC_STAT_INDEX_READY true).raise E.REC_INDEX_READY
  if recHigh s = 0xFFFFFFFF then (s.putB F.REC_STAT_RECNO_END true).raise E.REC_RECNO_END else s

/-! ### Reading (R443, R444) -/

/-- REC_ACK_WRITE. -/
def recAck (w : Word) (s : State) : State :=
  let v := min w.toNat (s.get F.REC_LAST_RECNO)
  showRec (freeHeld (s.put F.REC_ACK_RECNO (max v (s.get F.REC_ACK_RECNO))))

/-- REC_FIND_WRITE. -/
def recFind (w : Word) (s : State) : State :=
  ({ s with stor.find := some w.toNat }.put F.REC_FIND_RECNO w.toNat).putB F.REC_FOUND_STAT_DONE false |>.putB F.REC_FOUND_STAT_VALID false

/-- REC_FIND_DONE. -/
def recFindDone (s : State) : State := match s.stor.find with
  | none => s
  | some n =>
    if !s.flag F.REC_STAT_INDEX_READY then s else
    let s := { s with stor.find := none }.putB F.REC_FOUND_STAT_DONE true
    match s.stor.entries.find? fun e => e.1 == n with
    | some e => ((s.putB F.REC_FOUND_STAT_VALID true).put F.REC_FOUND_ADDR_ADDR ((partBase 6).1 + e.2.1)).put F.REC_FOUND_LEN_LEN (e.2.2 / 16)
    | none => s

/-- An entry of the missed-trigger log as REC_MLOG_W0–W2 show it. -/
def mlogWords (s : State) : Word × Word × Word := (aget s.stor.mlog (s.get F.REC_MLOG_IDX_IDX)).getD (0, 0, 0)

/-- REC refuses a quiesce request for `target`, 3 FROST (R446). -/
def recRefuses (target : Nat) (s : State) : Bool :=
  recState s == 2 || recState s == 3 || (target == 3 && (!areaFree s 0 || !areaFree s 1))

/-! ### The validator (R449) -/

/-- XADDR to its last byte lies in SRAM, retention RAM or the register pages. -/
def xaddrOk (a n : Nat) : Bool :=
  a % 4 == 0 && ((decide (0x20000000 ≤ a) && decide (a + n ≤ 0x20400000)) || (decide (0x38000000 ≤ a) && decide (a + n ≤ 0x38004000))
    || (decide (0x40000000 ≤ a) && decide (a + n ≤ 0x40020000)))

/-- Areas and layout change. -/
def recLayoutChanges (s : State) : Bool :=
  [F.REC_ROW_NX, F.REC_ROW_F1_EN, F.REC_ROW_F0_EN, F.REC_BUF_ADDR, F.REC_AREA_KIB].any fun f => s.get f != s.getS f

/-- A trigger unit within its ranges. -/
def unitRange (s : State) (k : Nat) : Bool :=
  let d := s.getS (F.REC_TU_CFG_DEB k)
  decide (1 ≤ d) && (s.getS (F.REC_TU_CFG_KIND k) == 0 || decide (d ≤ 16))

/-- The REC validator. -/
def checkRec (s : State) : Option Nat :=
  let k := s.getS F.REC_AREA_KIB
  let w := s.getS F.REC_ARCH_WAIT_S
  let nx := s.getS F.REC_ROW_NX
  let b := s.getS F.REC_BUF_ADDR
  if s.getS F.REC_CFG_Q_REQ = 0 ∨ 6 < nx ∨ k < 64 ∨ 1024 < k ∨ k % 64 ≠ 0 ∨ w = 0 ∨ 3600 < w ∨ !(List.range 4).all (unitRange s) then some 0x01
  else if rowWords s.getS = 0 then some 0x02
  else if lMax s.getS < s.getS F.REC_CFG_P_REQ + s.getS F.REC_CFG_Q_REQ then some 0x03
  else if b % 65536 ≠ 0 ∨ b < 0x20000000 ∨ 0x20400000 < b + 2 * k * 1024 then some 0x04
  else if 0 < nx ∧ !xaddrOk (s.getS F.REC_XADDR_ADDR) (4 * nx) then some 0x05
  else if recLayoutChanges s ∧ (recState s = 2 ∨ recState s = 3 ∨ !areaFree s 0 ∨ !areaFree s 1) then some 0x06
  else none

/-- The banks that hold a part of an area, which the governor never gates while EN = 1 (R419). -/
def recBanks (s : State) : List Nat :=
  if s.en 0x2C then (List.range 16).filter fun n => touchesBank (s.get F.REC_BUF_ADDR) (2 * 1024 * s.get F.REC_AREA_KIB) n else []

end Sys2Proof.Machine
end

