-- ==== Sys2Proof/Machine/Array.lean ====
section
/-! DEFINITION. Runs of the inference array: requests, layers, partitions, failures, verdicts and slot changes (chapter 12). -/

namespace Sys2Proof.Machine

/-! ### Requests (R459) -/

/-- A run is requested; with one in progress or pending the request is counted and dropped. -/
def requestRun (s : State) : State :=
  if s.arr.run.isSome ∨ s.flag F.ARR_STAT_GO_PEND then s.bump F.ARR_CNT2_SKIP else s.putB F.ARR_STAT_GO_PEND true

/-- A write of GO = 1 to ARR_GO. -/
def arrGo (s : State) : State := if s.get F.ARR_CFG_RUN_MODE = 1 then requestRun s else s

/-- A frame starts: every RUN_PERIOD-th one requests a run in RUN_MODE 2. -/
def arrFrame (s : State) : State :=
  if s.get F.ARR_CFG_RUN_MODE ≠ 2 then { s with arr.frames := 0 } else
  let n := s.arr.frames + 1
  if s.get F.ARR_RUN_RUN_PERIOD ≤ n then requestRun { s with arr.frames := 0 } else { s with arr.frames := n }

/-! ### The end of a run (R467–R471) -/

/-- No cell holds a partition any longer. -/
def dropPartitions (s : State) : State :=
  let s' := s.arr.work.foldl (fun s x => s.put (F.CELL_STAT_BUSY x.1) 0) s
  { s' with arr.work := [], arr.prog := [], arr.queue := [] }

/-- The run is over with a verdict that waits for the boundary. -/
def finishRun (v : Verdict) (s : State) : State :=
  let s := (dropPartitions s).putB F.ARR_STAT_RUNNING false
  let s := if v.ok then s.bump F.ARR_CNT_RUNS else s.bump F.ARR_CNT_INVALID
  holdSample v.ok { s with arr.run := none, arr.verdict := some v, arr.crcs := [] }

/-- The flags of R470 that are known at the run's end. -/
def runFlags (r : Run) (invalid : Bool) (s : State) : Nat :=
  b2n invalid + 2 * b2n r.repeated + 4 * b2n r.degraded + 16 * b2n r.head + 32 * s.arr.slot + 64 * b2n r.test

/-- The run ends INVALID with a cause of ARR_ABORT. -/
def abortRun (cause tile cell : Nat) (s : State) : State := match s.arr.run with
  | some r =>
    let s := ((s.put F.ARR_ABORT_CAUSE cause).put F.ARR_ABORT_LAYER r.layer).put F.ARR_ABORT_TILE tile
    let v : Verdict := ⟨0xFFFF, runFlags r true s, 0, 0, r.snap, false⟩
    finishRun v (s.put F.ARR_ABORT_CELL cell)
  | none => s

/-- A check of a tile or of a block has failed (R467, R493, R494). -/
def metaAbort (code checker item cell : Nat) (learned : Bool) (s : State) : State :=
  let layer := match s.arr.run with
    | some r => r.layer
    | none => 0
  let s := (((s.put F.DMA_META_CODE code).put F.DMA_META_CHECKER checker).put F.DMA_META_LAYER layer).put F.DMA_META_TILE (item % 256)
  let s := (s.bump F.DMA_CNT3_META).raise E.DMA_META
  let s := if learned then recheckHead s else s
  faultEvent 0x50 code (abortRun 1 item cell s)

/-- Raw words of `n` slot tiles copied from `a` to `b`, as far as each tile's form reaches; false where a word cannot be read. -/
def copyTiles (a b : Nat) : Nat → State → State × Bool
  | 0, s => (s, true)
  | n + 1, s =>
    if !inPoweredSram s a 8 then (s, false) else
    match memReads 2 a s with
    | (s, some h) =>
      let fmt := getBits (h.getD 0 0) 31 24
      let nnz := getBits (h.getD 0 0) 15 0
      let w := if fmt = 1 then 64 else if fmt = 2 ∧ nnz ≤ 256 then 8 + (nnz + 3) / 4 else 0
      if w ≠ 0 ∧ !inPoweredSram s (a + 8) (4 * w) then (s, false) else
      match memReads w (a + 8) s with
      | (s, some ws) => copyTiles (a + 320) (b + 320) n (sramBytes b (wordsBytes (h ++ ws)) s)
      | (s, none) => (s, false)
    | (s, none) => (s, false)

/-- The index of the highest of a list's values, ties to the lower index, with the value. -/
def bestOf : List Int → Nat → Nat × Int → Nat × Int
  | [], _, b => b
  | v :: t, i, b => bestOf t (i + 1) (if b.2 < v then (i, v) else b)

/-- The last layer `l` has ended (R469): the outputs are copied to OUT_ADDR and the verdict is formed. -/
def completeRun (l : LayerD) (r : Run) (s : State) : State :=
  let n := outCount s s.arr.slot
  let out := s.get F.ARR_ARENA_ADDR + l.out
  match readTiles out (tilesOf n) 0 s with
  | (s, .ok vs _) =>
    let vs := vs.take n
    let (k, b) := bestOf vs 0 (0, -129)
    let rest := vs.take k ++ vs.drop (k + 1)
    -- one output has no second highest: that half of ARR_SCORE is not given
    let second := if rest.isEmpty then Config.freeNat s.free % 256 else toCode 8 (bestOf rest 0 (0, -129)).2
    let s := s.fresh
    let h3 := imageWordN s s.arr.slot 3
    let base := h3 % 65536
    let code := if h3 / 65536 % 256 = 0 then (base + k) % 65536 else base / 256 * 256 + toCode 8 (vs.getD 0 0)
    match copyTiles out (s.get F.ARR_OUT_ADDR) (tilesOf n) s with
    | (s, true) => finishRun ⟨code, runFlags r false s, toCode 8 b, second, r.snap, true⟩ s
    | (s, false) => abortRun 2 0 0 s
  | (s, .bad c t) => metaAbort c 1 t 0 (l.wsrc = 1) s
  | (s, .unreadable) => abortRun 2 0 0 s

/-! ### Layers (R461, R504) -/

/-- Partitions go, in order, each to the first free live cell of the layer's list. -/
def dispatch : Nat → State → State
  | 0, s => s
  | f + 1, s => match s.arr.run, s.arr.queue with
    | some r, p :: t =>
      match r.list.find? fun c => s.gov.live.contains c && (aget s.arr.work c).isNone with
      | some c =>
        dispatch f (giveWork c p { s with arr.queue := t })
      | none => s
    | _, _ => s

/-- All partitions that can go do. -/
def dispatchAll (s : State) : State := dispatch 17 s

/-- The tiles of an output tensor at `a`: their headers are written, `sat` naming the tiles in which a value was clamped, and indices beyond the end
are 0 (R483, R488). -/
def writeHeaders (a n : Nat) (sat : List Nat) (s : State) : State :=
  (List.range (tilesOf n)).foldl (fun s j =>
    let t := a + 320 * j
    let used := min 256 (n - 256 * j)
    let s := if used < 256 then sramBytes (t + 8 + used) (List.replicate (256 - used) 0) s else s
    let vals := (s.bytesAt (t + 8) 256).map int8
    sramBytes t ([1, BitVec.ofNat 8 (b2n (sat.contains j))] ++ natBytes 2 (nonZero vals) ++ natBytes 2 256 ++ [0, 0]) s) s

/-- Output tiles of zeros (R504). -/
def writeZeros (a n : Nat) (s : State) : State :=
  (List.range (tilesOf n)).foldl (fun s j => sramBytes (a + 320 * j) (denseTile false []) s) s

/-- The layer that the run is at. -/
def runLayer (s : State) (r : Run) : LayerD := layerAt s s.arr.slot r.layer

/-- The cap of the slot that runs: layers it may complete, none for no cap (R460). -/
def layerCap (s : State) : Option Nat := match s.plan.run with
  | some r =>
    let k := r.slot.arg % 256
    if k ≠ 0 then some k else if r.slot.kind = 1 then some 1 else none
  | none => some 0

/-- The slot may start or complete another layer. -/
def mayGoOn (s : State) (r : Run) : Bool := match layerCap s with
  | some k => decide (r.done < k)
  | none => true

/-- The next layer starts, where the slot lets it and a cell is live; layers of a head that is not there end at once, and the next one follows. -/
def startLayers : Nat → State → State
  | 0, s => s
  | f + 1, s => match s.arr.run with
    | none => s
    | some r =>
      if r.started ∨ !mayGoOn s r ∨ s.gov.live = [] then s else
      let l := runLayer s r
      let arena := s.get F.ARR_ARENA_ADDR
      let s := s.put F.ARR_STAT_LAYER r.layer
      let r := { r with degraded := r.degraded || !spares s }
      let s := if l.wsrc = 1 then capture l arena r.snap s else s
      let n := outLen l * l.nOut
      let out := arena + l.out
      if l.wsrc = 1 ∧ r.copy = 0 then
        let s := writeZeros out n s
        let r := { r with layer := r.layer + 1, done := r.done + 1 }
        if r.layer < layerCount s s.arr.slot then startLayers f { s with arr.run := some r }
        else completeRun l r { s with arr.run := some r }
      else
        let list := (placement s).filter fun c => s.gov.live.contains c
        let crcs := s.arr.crcs.filter fun c => !overlap c.out (extent (c.len * c.n)) out (extent n)
        let r := { r with started := true, list, ended := 0, sat := [], head := r.head || l.wsrc == 1 }
        let a := { s.arr with run := some r, crcs, queue := List.range l.npart, work := [], prog := [] }
        dispatchAll { s with arr := a }

/-- The layer in progress has ended. -/
def endLayer (s : State) : State := match s.arr.run with
  | none => s
  | some r =>
    let l := runLayer s r
    let s := writeHeaders (s.get F.ARR_ARENA_ADDR + l.out) (outLen l * l.nOut) r.sat s
    let r := { r with layer := r.layer + 1, started := false, done := r.done + 1 }
    if r.layer < layerCount s s.arr.slot then startLayers 64 { s with arr.run := some r }
    else completeRun l r { s with arr.run := some r }

/-! ### ARR_LAYER (R460, R545) -/

/-- A run starts at its snapshot tick: the input tiles are copied into the arena. -/
def startRun (s : State) : State :=
  let slot := s.arr.slot
  let r : Run := { snap := s.tick.num, copy := headCopy s }
  let s := (s.putB F.ARR_STAT_GO_PEND false).putB F.ARR_STAT_RUNNING true
  let s := { s with arr.run := some r, arr.crcs := [], arr.queue := [] }
  if serving s = [] then abortRun 3 0 0 s else
  match copyTiles (s.get F.ARR_IN_ADDR) (s.get F.ARR_ARENA_ADDR + (layerAt s slot 0).inO) (inTiles s slot) s with
  | (s, true) => s
  | (s, false) => abortRun 2 0 0 s

/-- Serving cells are unparked in the order of placement as long as each is admitted, up to the level's limit (R545). -/
def unparkFor : List Nat → State → State
  | [], s => s
  | c :: t, s =>
    if s.gov.live.contains c then unparkFor t s
    else if levelCells (level s) ≤ s.gov.live.length then s
    else match admits (obRuns s) (s.gov.pred + cellCost s (level s)) s with
      | (s, true) => unparkFor t (unparkCell c s)
      | (s, false) => s

/-- The array has a run in progress, or one pending that it may start. -/
def hasRun (s : State) : Bool := s.arr.run.isSome || (s.flag F.ARR_STAT_GO_PEND && s.flag F.ARR_STAT_MODEL_OK)

/-- The cells with a partition go on with it at `ns` ns of the tick (R462). -/
def resumeCells (ns : Nat) (s : State) : State :=
  let f := levelMhz (level s)
  { s with arr.now := ns, arr.prog := s.arr.prog.map fun x => (x.1, { x.2 with since := ns, mhz := f }) }

/-- ARR_LAYER: slot `idx` comes up at `at_` µs. An O slot for which the governor grants no cell is skipped (DEDUCED, log entry 81). -/
def arrLayer (idx at_ : Nat) (s : State) : State :=
  let cnt := s.rd 0x06 0x068
  if !hasRun s then
    match slotBegin 7 idx at_ 0 true s with
    | (s', true) => endAtOnce at_ s'
    | (s', false) => s'.wr 0x06 0x068 cnt
  else
    match slotBegin 7 idx at_ 0 false s with
    | (s, false) => s
    | (s, true) =>
      let s := resumeCells (1000 * at_) { s with arr.run := s.arr.run.map fun r => { r with done := 0 } }
      if serving s = [] then
        let s := if s.arr.run.isSome then abortRun 3 0 0 s else startRun s
        endAtOnce at_ s
      else
        let s := unparkFor (placement s) s
        let o := obRuns s
        if s.gov.live = [] ∧ o then ((endRun s).bump F.PLAN_CNT_O_SKIP).bump F.GOV_CNT3_REFUSED else
        let s := if s.arr.run.isSome then s else startRun s
        dispatchAll (startLayers 65 s)

/-! ### PARTITION_END (R462, R464–R468) -/

/-- The running slot is an ARR_LAYER slot. -/
def arrSlot (s : State) : Bool := match s.plan.run with
  | some r => r.slot.action == 7
  | none => false

/-- The address of value `e` of a tensor in slot placement at `a`. -/
def valueAddr (a e : Nat) : Nat := a + 320 * (e / 256) + 8 + e % 256

/-- The CRC of a partition's outputs as they stand in the arena at `arena`. -/
def partCrc (arena : Nat) (c : PartCrc) (s : State) : Word :=
  crc32c ((List.range c.len).flatMap fun p => ((List.range c.hi).drop c.lo).map fun ch => s.byteAt (valueAddr (arena + c.out) (p * c.n + ch)))

/-- The tiles in which a partition has values: their first byte in the arena and their length. -/
def partRange (c : PartCrc) : Nat × Nat :=
  let first := c.lo / 256
  let last := ((c.len - 1) * c.n + c.hi - 1) / 256
  (c.out + 320 * first, if c.len = 0 ∨ c.hi ≤ c.lo then 0 else 320 * (last + 1 - first))

/-- Layer `l` reads that partition of an earlier layer. -/
def reads (l : LayerD) (c : PartCrc) : Bool :=
  let r := partRange c
  overlap r.1 r.2 l.inO (extent (l.len * l.nIn)) || overlap r.1 r.2 l.in2 (extent (l.len * in2Chans l))

/-- The partitions that layer `l` reads have the CRC they were written with; an injection fails the next check (R468). -/
def crcsOk (l : LayerD) (arena : Nat) (s : State) : State × Bool :=
  let mine := s.arr.crcs.filter (reads l)
  if mine.isEmpty then (s, true)
  else if s.armedAt 0x30 2 then
    ({ s.disarm 0x30 2 with arr.run := s.arr.run.map fun r => { r with test := true } }, false)
  else (s, mine.all fun c => partCrc arena c s == c.crc)

/-- The outputs of a partition are stored. -/
def storeOutputs (a : Nat) (l : LayerD) (os : List (Nat × Nat × Int × Bool)) (s : State) : State :=
  os.foldl (fun s o => sramBytes (valueAddr a (o.1 * l.nOut + o.2.1)) [BitVec.ofNat 8 (toCode 8 o.2.2.1)] s) s

/-- A tile with that NNZ takes the sparse path (R465). -/
def sparseTaken (l : LayerD) (s : State) (z : Nat) : Bool :=
  decide (l.op ≤ 2) && l.path != 1 && (l.path == 2 || decide (z ≤ s.get F.ARR_CFG_SPARSE_TH))

/-- How many of a layer's input tiles take the sparse path (R465). -/
def sparseCount (l : LayerD) (nnzs : List Nat) (s : State) : Nat := (nnzs.filter (sparseTaken l s)).length

/-! ### Tiles by time (R462, R464, R466) -/

/-- The output positions for which input tile `j` is read: those of its values for DENSE, those with a tap among them for CONV1D (DEDUCED, log entry 173). -/
def positionsOf (l : LayerD) (j : Nat) : Nat :=
  let lo := 256 * j / max 1 l.nIn
  let hi := min (l.len * l.nIn - 1) (256 * j + 255) / max 1 l.nIn
  if l.op = 2 then
    let st := max 1 l.stride
    min (outLen l) (hi / st + 1) - (lo + 1 - l.ksize + st - 1) / st
  else hi + 1 - lo

/-- The cycles of input tile `j` with NNZ `z` for a partition of `n` outputs per position (R464). -/
def tileCycles (l : LayerD) (s : State) (n j z : Nat) : Nat :=
  let c := (256 * n + 63) / 64 * positionsOf l j
  if sparseTaken l s z then (c * max z 32 + 255) / 256 + 16 else c

/-- The tiles by which a partition of `n` outputs per position proceeds: the input's for DENSE and CONV1D, the output's for the other operators (DEDUCED, log entry 173). -/
def tileCount (l : LayerD) (n : Nat) : Nat := if l.op ≤ 2 then tilesOf (l.len * l.nIn) else tilesOf (outLen l * n)

/-- The cycles of a partition of the operators 3–8 (R466), which its tiles share. -/
def plainCycles (l : LayerD) (n : Nat) : Nat :=
  (outLen l * n + 7) / 8 + (if l.op = 3 ∨ l.op = 4 then (l.ksize - 1) * outLen l else 0)

/-- The cycles of tile `j` of a partition of `n` outputs per position; `z` is its NNZ. -/
def cyclesOf (l : LayerD) (s : State) (n j z : Nat) : Nat :=
  if l.op ≤ 2 then tileCycles l s n j z
  else
    let k := tileCount l n
    plainCycles l n * (j + 1) / k - plainCycles l n * j / k

/-- NNZ in the header of input tile `j` of layer `l`. -/
def headNnz (l : LayerD) (s : State) (j : Nat) : Nat := halfAt s (s.get F.ARR_ARENA_ADDR + l.inO + 320 * j + 2)

/-- The cycles of the tiles that are left to a cell with progress `g` in partition `p`, and those of the whole partition. -/
def cyclesLeft (l : LayerD) (p : Nat) (g : Prog) (s : State) : List Nat :=
  let n := (shareOf l p).2 - (shareOf l p).1
  ((List.range (tileCount l n)).drop g.tiles).map fun j => cyclesOf l s n j (headNnz l s j)
def cyclesAll (l : LayerD) (p : Nat) (g : Prog) (s : State) : Nat :=
  let n := (shareOf l p).2 - (shareOf l p).1
  (cyclesLeft l p g s).foldl (· + ·) (((List.range g.tiles).map fun j => cyclesOf l s n j (g.nnzs.getD j 0)).foldl (· + ·) 0)

/-- START + BUDGET of the running slot, ns of the tick: a tile starts only when its predicted end falls within it (R462). -/
def tileLimit (s : State) : Nat := match s.plan.run with
  | some r => 1000 * (r.slot.start + r.slot.budget)
  | none => 0

/-- The progress of cell `c`, and its clock in MHz: the highest since it went on. -/
def progOf (s : State) (c : Nat) : Prog := (aget s.arr.prog c).getD {}
def cellMhz (s : State) (g : Prog) : Nat := max g.mhz (levelMhz (level s))

/-- The tiles of `ts` that a cell completes by `ns` when it begins at `since` with clock `f`: how many, and their cycles. -/
def tilesBy (f since ns : Nat) : List Nat → Nat → Nat × Nat
  | [], cum => (0, cum)
  | t :: ts, cum => if f * since + 1000 * (cum + t) ≤ f * ns then
      let r := tilesBy f since ns ts (cum + t)
      (r.1 + 1, r.2)
    else (0, cum)

/-- Partition `p` of the layer in progress has been computed by cell `c`. -/
def storePartition (c p : Nat) (l : LayerD) (xs ys : List Int) (nnzs nny : List Nat) (rows : List (List (Nat × Int))) (s : State) : State :=
  let (lo, hi) := shareOf l p
  let arena := s.get F.ARR_ARENA_ADDR
  let os := outputs l xs ys rows lo hi
  let s := storeOutputs (arena + l.out) l os s
  let pc : PartCrc := ⟨l.out, l.nOut, outLen l, lo, hi, 0⟩
  let pc := { pc with crc := partCrc arena pc s }
  let sat := (os.filter fun o => o.2.2.2).map fun o => (o.1 * l.nOut + o.2.1) / 256
  let sp := sparseCount l nnzs s
  let s := (s.bump F.ARR_TILES_SPARSE sp).bump F.ARR_TILES_DENSE (nnzs.length + nny.length - sp)
  let run := s.arr.run.map fun r => { r with ended := r.ended + 1, sat := (r.sat ++ sat).eraseDups }
  let s := (takeWork c { s with arr.run := run, arr.crcs := s.arr.crcs ++ [pc] }).bump (F.CELL_CNT_PARTS c)
  match s.arr.run with
  | some r => if l.npart ≤ r.ended then endLayer s else dispatchAll s
  | none => s

/-- Cell `c` completes `k` tiles of its input: their values stay in its local memory (R462). -/
def readAhead (c k : Nat) (l : LayerD) (s : State) : State :=
  let arena := s.get F.ARR_ARENA_ADDR
  match crcsOk l arena s with
  | (s, false) => abortRun 2 0 c s
  | (s, true) =>
    let g := progOf s c
    match readTiles (arena + l.inO) k g.tiles s with
    | (s, .bad code t) => metaAbort code 1 t c (l.wsrc = 1) s
    | (s, .unreadable) => abortRun 2 0 c s
    | (s, .ok xs zs) => { s with arr.prog := aset s.arr.prog c { g with tiles := g.tiles + k, vals := g.vals ++ xs, nnzs := g.nnzs ++ zs } }

/-- Cell `c` has worked until `ns` ns of the tick: it has completed the tiles whose predicted end lies by then and within START + BUDGET. A cell that should have ended
is clocked on (R462, R473). -/
def cellUntil (ns : Nat) (s : State) (c : Nat) : State := match s.arr.run, aget s.arr.work c with
  | some r, some p =>
    let l := runLayer s r
    let g := progOf s c
    let f := cellMhz s g
    let left := cyclesLeft l p g s
    let (k, cyc) := tilesBy f g.since (min ns (tileLimit s)) left 0
    if left.length ≤ k then
      let s := if 0 < k ∧ l.op ≤ 2 then readAhead c k l s
        else { s with arr.prog := aset s.arr.prog c { g with tiles := g.tiles + k } }
      if s.arr.run.isNone then s else
      let g' := progOf s c
      { s with arr.prog := aset s.arr.prog c { g' with since := max g.since ns, used := g.used + (ns - g.since) * f / 1000 } }
    else if k = 0 then s
    else
      let s := if l.op ≤ 2 then readAhead c k l s else { s with arr.prog := aset s.arr.prog c { g with tiles := g.tiles + k } }
      if s.arr.run.isNone then s else
      { s with arr.prog := aset s.arr.prog c { progOf s c with since := g.since + 1000 * cyc / max 1 f, used := g.used + cyc } }
  | _, _ => s

/-- The running ARR_LAYER slot has worked until `at_` µs. -/
def arrUntil (at_ : Nat) (s : State) : State :=
  if arrSlot s then (s.arr.work.map (·.1)).foldl (cellUntil (1000 * at_)) s else s

/-- Cell `c` finishes the computation of partition `p` (R462, R467, R468, R492). -/
def computePartition (c p : Nat) (r : Run) (s : State) : State :=
  let l := runLayer s r
  let arena := s.get F.ARR_ARENA_ADDR
  let g := progOf s c
  match crcsOk l arena s with
  | (s, false) => abortRun 2 0 c s
  | (s, true) =>
    let done := if l.op ≤ 2 then g.tiles else 0
    match readTiles (arena + l.inO) (tilesOf (l.len * l.nIn) - done) done s with
    | (s, .bad code t) => metaAbort code 1 t c (l.wsrc = 1) s
    | (s, .unreadable) => abortRun 2 0 c s
    | (s, .ok xs zs) =>
      let xs := g.vals ++ xs
      let zs := g.nnzs ++ zs
      match readTiles (arena + l.in2) (tilesOf (l.len * in2Chans l)) 0 s with
      | (s, .bad code t) => metaAbort code 1 t c (l.wsrc = 1) s
      | (s, .unreadable) => abortRun 2 0 c s
      | (s, .ok ys yz) =>
        let slot := s.arr.slot
        let (lo, hi) := shareOf l p
        let hb := headBase slot r.copy
        let wr := if l.wsrc = 1 then readWeights s l (hb + 32 + l.woff) (hb + headLen s slot r.copy - 4) lo hi
          else readWeights s l (imageBase slot + l.woff) (imageBase slot + imageLen s slot - 68) lo hi
        match wr with
        | .bad code b => metaAbort code 2 b c (l.wsrc = 1) s
        | .ok rows => storePartition c p l xs ys zs yz rows s

/-- After a cell's failure: its partition may go to another cell; with no serving cell left the run ends (R475, R477). -/
def afterFailure (s : State) : State :=
  if serving s = [] then (if s.arr.run.isSome then abortRun 3 0 0 s else s) else dispatchAll s

/-- Cell `c` fails with that cause, by an injection or not. -/
def cellFails (c cause : Nat) (inj : Bool) (s : State) : State := afterFailure (failCell c cause inj s)

/-- A watchdog trip of cell `c`. -/
def watchdogTrip (c : Nat) (inj : Bool) (s : State) : State :=
  let s := s.bump (F.CELL_CNT_WDOG c)
  let s := if inj then { s with arr.run := s.arr.run.map fun r => { r with test := true } } else s
  cellFails c (if inj then 4 else 3) inj s

/-- Partition `p` of cell `c` may end at `ns` ns of the tick: its tiles that are left may all start in this slot, and their cycles have passed (R462, R464). -/
def mayEnd (c p ns : Nat) (r : Run) (s : State) : Bool :=
  let g := progOf s c
  let f := cellMhz s g
  let left := cyclesLeft (runLayer s r) p g s
  let done := f * g.since + 1000 * left.foldl (· + ·) 0
  decide (s.arr.now ≤ ns) && decide (done ≤ f * ns) && (left.isEmpty || decide (done ≤ f * tileLimit s))

/-- PARTITION_END of cell `c` at `ns` ns of the tick; it met `corr` corrected errors of its local memory, or an uncorrectable one (R473). A failure may come before the
partition's predicted end. -/
def partitionEnd (c ns corr : Nat) (uncorr : Bool) (s : State) : State :=
  match s.arr.run, aget s.arr.work c with
  | some r, some p =>
    let fails := uncorr || s.armedAt (0x31 + c) 1 || s.armedAt 0x30 1
    if !arrSlot s ∨ !r.started ∨ !(if fails then decide (s.arr.now ≤ ns) else mayEnd c p ns r s) then s else
    let s := { s with arr.now := ns }.bump (F.CELL_CNT_CORR c) corr
    if s.armedAt (0x31 + c) 1 then cellFails c 4 true (s.disarm (0x31 + c) 1)
    else if uncorr then cellFails c 2 false s
    else if s.armedAt 0x30 1 then watchdogTrip c true (s.disarm 0x30 1)
    else computePartition c p r s
  | _, _ => s

/-- The limit of cell `c`'s partition has passed at `ns` ns of the tick: 2 × its predicted cycles + 1024, of the cycles in which the cell is clocked (R473). -/
def overdue (c ns : Nat) (s : State) : Bool := match s.arr.run, aget s.arr.work c with
  | some r, some p =>
    let g := progOf s c
    arrSlot s && r.started && decide (s.arr.now ≤ ns)
      && decide (1000 * (2 * cyclesAll (runLayer s r) p g s + 1024) ≤ 1000 * g.used + (ns - g.since) * cellMhz s g)
  | _, _ => false

/-- CELL_WATCHDOG of cell `c` (R473). -/
def cellWatchdog (c ns : Nat) (s : State) : State := if overdue c ns s then watchdogTrip c false { s with arr.now := ns } else s

/-! ### Verdicts at a boundary (R469–R472) -/

/-- ARR_VNOW: ticks since the snapshot of the latest verdict. -/
def showVnow (s : State) : State := match s.arr.snap with
  | some k => s.put F.ARR_VNOW_AGE (satTo 0xFFFFFFFF (s.tick.num - k))
  | none => s

/-- VERDICT: a run that has ended delivers its verdict at the boundary. -/
def verdictBoundary (s : State) : State := match s.arr.verdict with
  | none => showVnow s
  | some v =>
    let age := satTo 0xFFFFFFFF (s.tick.num - v.snap)
    let fl := v.flags + (if s.get F.ARR_RUN_AGE_MAX < age then 8 else 0)
    let s := ((s.put F.ARR_VERDICT_CODE v.code).put F.ARR_VERDICT_FLAGS fl).put F.ARR_VTICK_TICK s.tick.num
    let s := s.put F.ARR_VAGE_AGE age
    let s := if v.ok then (s.put F.ARR_SCORE_BEST v.best).put F.ARR_SCORE_SECOND v.second else s
    let s := s.raise E.ARR_VERDICT
    let s := if v.ok then s else s.raise E.ARR_INVALID
    recVerdict v.code fl (showVnow { s with arr.verdict := none, arr.snap := some v.snap, arr.core := s.rd 0x30 0x05C })

/-! ### The slot in force (R454, R479, R513, R518) -/

/-- A slot's image is valid, and sound. -/
def slotGood (s : State) (slot : Nat) : Bool :=
  let w := (s.rd 0x30 0x090).toNat
  bitOf w slot && bitOf w (4 + slot)

/-- ARR_MSTAT and MODEL_OK show the image of the slot in force. -/
def showModel (s : State) : State :=
  let ok := slotGood s s.arr.slot
  let h1 := if ok then imageWordN s s.arr.slot 1 else 0
  (s.putB F.ARR_STAT_MODEL_OK ok).wr 0x30 0x08C (BitVec.ofNat 32 h1)

/-- A change of SLOT that waits takes effect at a boundary at which no run is in progress. -/
def slotBoundary (s : State) : State :=
  let want := s.get F.ARR_CFG_SLOT
  if want = s.arr.slot then s.putB F.ARR_STAT_PEND_SLOT false
  else if s.arr.run.isSome then s.putB F.ARR_STAT_PEND_SLOT true
  else
    let s := (learnLost s).putB F.ARR_STAT_PEND_SLOT false
    (determineHead (showModel { s with arr.slot := want })).raise E.ARR_SLOT_CHANGE

/-- The image in a slot has changed or has been checked: the slot in force is shown anew; learning loses its areas where the image changed (R518). -/
def imageChanged (slot : Nat) (changed : Bool) (s : State) : State :=
  if slot ≠ s.arr.slot then s else determineHead (showModel (if changed then learnLost s else s))

/-! ### Quiesce, wake, and the ARR page (R479, R480, R482) -/

/-- ARR refuses a quiesce request (R480). -/
def arrRefuses (s : State) : Bool := match s.arr.run with
  | some r => r.started
  | none => false

/-- The arena's extent touches a bank of `lost`. -/
def arenaTouches (s : State) (n : Nat) : Bool := touchesBank (s.get F.ARR_ARENA_ADDR) (arenaLen s s.arr.slot) n

/-- After a wake in which the banks of `lost` lost their contents: a run whose arena was among them ends (R480). -/
def arrWake (lost : List Nat) (s : State) : State :=
  if s.arr.run.isSome && lost.any (arenaTouches s) then abortRun 4 0 0 s else s

/-- The bytes of input and output tiles of a slot's image. -/
def inExtent (s : State) (slot : Nat) : Nat := 320 * inTiles s slot
def outExtent (s : State) (slot : Nat) : Nat := extent (outCount s slot)

/-- Banks that the array pins (R547): the arena's while a run is in progress; those of IN_ADDR and OUT_ADDR while the page is enabled. -/
def arrBanks (s : State) : List Nat :=
  let slot := s.arr.slot
  let on := s.en 0x30 && s.flag F.ARR_STAT_MODEL_OK
  (List.range 16).filter fun n => (s.flag F.ARR_STAT_RUNNING && arenaTouches s n)
    || (on && (touchesBank (s.get F.ARR_IN_ADDR) (inExtent s slot) n || touchesBank (s.get F.ARR_OUT_ADDR) (outExtent s slot) n))

/-- The ARR validator. -/
def checkArr (s : State) : Option Nat :=
  let g := s.getS
  let slot := g F.ARR_CFG_SLOT
  let hot := g F.ARR_CFG_HOT_TH_C
  let range := decide (hot < 60) || decide (150 < hot) || g F.ARR_CFG_RUN_MODE == 3 || g F.ARR_RUN_RUN_PERIOD == 0 || g F.ARR_RUN_AGE_MAX == 0
  let model := slot != s.arr.slot && !slotGood s slot
  let ok (a n : Nat) : Bool := a % 64 == 0 && inSram a n
  let known := slotGood s slot
  let ext (n : Nat) : Nat := if known then n else 0
  let addr := !ok (g F.ARR_IN_ADDR) (ext (inExtent s slot)) || !ok (g F.ARR_OUT_ADDR) (ext (outExtent s slot))
    || !ok (g F.ARR_ARENA_ADDR) (ext (arenaLen s slot))
  if range then some 0x01 else if model then some 0x02 else if addr then some 0x03 else none

end Sys2Proof.Machine
end

