-- ==== Sys2Proof/Machine/Background.lean ====
section
/-! DEFINITION. Self-test and background work: cell tests, the bench's rotation, the scrub, B slots, idle gaps, ages and starvation
(chapter 17). -/

namespace Sys2Proof.Machine

/-! ### The cell under test (R619–R628) -/

/-- The cell whose test runs next, with its completed patterns: a REQUALIFY test goes first. -/
def underTest (s : State) : Option (Nat × Nat) := match s.bist.req with
  | some x => some x
  | none => s.bist.cell.map fun c => (c, s.bist.pat)

/-- BIST_STAT shows the test. A test that has passed and waits for its rotation shows segment 0 and pattern 0 (DEDUCED, log entry 82). -/
def showBist (s : State) : State :=
  let (c, n) := match underTest s with
    | some (c, n) => (c, n % 3200)
    | none => (31, 0)
  let s := ((s.put F.BIST_STAT_CELL c).put F.BIST_STAT_SEG (n / 400)).put F.BIST_STAT_PAT (n % 400)
  s.putB F.BIST_STAT_IDLE_MODE (!spares s && s.flag F.BIST_CFG_IDLE_EN)

/-- The scan clock in MHz. -/
def scanMhz (s : State) : Nat := min 125 (levelMhz (level s))

/-- The bits of BIST_ROT: a pass of cell `c`, and the end of a round (R624). -/
def markPass (c : Nat) (s : State) : State :=
  let s := s.put F.BIST_ROT_BITS (setBitTo (s.get F.BIST_ROT_BITS) c true)
  if cells.all fun d => retired s d || bitOf (s.get F.BIST_ROT_BITS) d then
    ((s.put F.BIST_ROT_BITS 0).bump F.BIST_CNT_ROUNDS).raise E.BIST_ROUND_DONE
  else s

/-- BIST_LAST and BIST_LTICK record the end of a test. -/
def testEnds (c result seg : Nat) (s : State) : State :=
  let s := ((s.put F.BIST_LAST_CELL c).put F.BIST_LAST_RESULT result).put F.BIST_LAST_SEG seg
  s.put F.BIST_LTICK_TICK s.tick.num

/-- A cell whose logic test has passed all eight checkpoints. -/
def testPass (c : Nat) (s : State) : State :=
  let s := ((testEnds c 1 0 s).bump F.BIST_CNT_PASSED).raise E.BIST_TEST_PASS
  if s.bist.req.isSome then markPass c { s with bist.reqEnd := some true }
  else if isBench s c then s.putB F.BIST_STAT_ROT_PEND true
  else
    let s := markPass c s
    { s with bist.cell := nextCell s c, bist.pat := 0 }

/-- A checkpoint of segment `seg` does not match (R621). -/
def testFail (c seg : Nat) (inj : Bool) (s : State) : State :=
  let s := ((testEnds c 2 seg s).bump F.BIST_CNT_FAILED).raise E.BIST_TEST_FAIL
  if s.bist.req.isSome then { s with bist.reqEnd := some false }
  else
    let s := { s with bist.cell := none, bist.pat := 0 }
    afterFailure (retireCell c (if inj then 4 else 1) inj s)

/-- A cell that holds an unfinished partition is not lent to a test (R21). -/
def notLent (s : State) (c : Nat) : Bool := s.bist.req.isNone && !isBench s c && (aget s.arr.work c).isSome

/-- One completed pattern of the cell under test. -/
def pattern (s : State) : State := match underTest s with
  | none => s
  | some (c, n) =>
    if 3200 ≤ n ∨ s.bist.reqEnd.isSome ∨ notLent s c then s else
    let n := n + 1
    let s := if s.bist.req.isSome then { s with bist.req := some (c, n) } else { s with bist.pat := n }
    if n % 400 ≠ 0 then s
    else if s.armedAt 0x09 1 then testFail c (n / 400 - 1) true (s.disarm 0x09 1)
    else if s.bist.bad then testFail c (n / 400 - 1) false { s with bist.bad := false }
    else if n = 3200 then testPass c s else s

/-- `n` patterns; a test that ends leaves the rest unused. -/
def patterns : Nat → State → State
  | 0, s => s
  | n + 1, s => patterns n (pattern s)

/-! ### Rotation (R623–R625) -/

/-- BENCH_ROTATION at a boundary. -/
def rotate (s : State) : State :=
  let c := s.get F.ARR_STAT_BENCH
  if !s.flag F.BIST_STAT_ROT_PEND then s
  else if c = 31 then s.putB F.BIST_STAT_ROT_PEND false
  else if arrRefuses s then s
  else
    let s := markPass c (s.putB F.BIST_STAT_ROT_PEND false)
    let s := match nextCell s c with
      | some d => toBench d (parkCell d s)
      | none => s
    (showRoles s).raise E.BIST_ROT_DONE

/-- While no spare is left, tests of serving cells begin with the cell after the recorded one (R627). -/
def gapTest (s : State) : State :=
  if spares s ∨ s.bist.cell.isSome ∨ !s.bist.benchUp then s else { s with bist.cell := nextCell s (benchRecord s), bist.pat := 0 }

/-! ### The scrub (R635–R637) -/

/-- The next bank from `b` on, of at most `n`, that the scrub visits; 16 for the pass's end. -/
def scrubBank (s : State) : Nat → Nat → Nat
  | 0, b => b
  | n + 1, b => if 16 ≤ b then 16 else if bankOff s b then scrubBank s n (b + 1) else b

/-- The scrub leaves bank 15: a pass has ended. -/
def scrubPass (s : State) : State :=
  (((s.put F.BG_SCRUB_BANK 0).put F.BG_SCRUB_WORD 0).bump F.BG_SCRUB_PASS_COUNT).raise E.BG_SCRUB_PASS

/-- The position after a word. -/
def scrubNext (s : State) : State :=
  let w := s.get F.BG_SCRUB_WORD + 1
  if w < 32768 then s.put F.BG_SCRUB_WORD w
  else
    let b := s.get F.BG_SCRUB_BANK + 1
    if 16 ≤ b then scrubPass s else (s.put F.BG_SCRUB_BANK b).put F.BG_SCRUB_WORD 0

/-- The corrected word is written back, unless a foreground write has reached it. -/
def scrubBack (k : Nat) (s : State) : State :=
  if s.bist.raced then { s with bist.raced := false }.bump F.BG_CNT_ABANDONED
  else { s with ecc := adel s.ecc k }.bump F.BG_CNT_CORR

/-- The word at `a` is scrubbed. -/
def scrubAt (a : Nat) (s : State) : State :=
  let inj := s.armedAt 0x0A 1
  let s := if inj then s.disarm 0x0A 1 else s
  let err := eccJoin (aget s.ecc a) (if inj then some .dataBit else none)
  let s := match err with
    | some e => { s with ecc := aset s.ecc a e }
    | none => s
  let r := eccDecode s.free err
  let k := s.free
  let s := if err = some .beyond then s.fresh 3 else s
  match r with
  | .clean => s
  | .wrongClean => s
  | .data => scrubBack a (memCorrected false a s)
  | .check => scrubBack a (memCorrected true a s)
  | .wrongData => scrubBack a ((memCorrected false a s).setBytes a (wordsBytes [Config.freeWord (k + 1), Config.freeWord (k + 2)]))
  | .uncorr => ((weightsHit a (memUncorr false a s)).put F.BG_SCRUB_ERR_ADDR a).bump F.BG_CNT_UNCORR |>.raise E.BG_SCRUB_UNCORR

/-- One scrub step: false where no bank can be visited, or an injection blocks the steps. -/
def scrubStep (s : State) : State × Bool :=
  if 0 < s.bist.blocked ∨ s.armedAt 0x0A 2 ∨ (List.range 16).all (bankOff s) then (s, false) else
  let b := scrubBank s 16 (s.get F.BG_SCRUB_BANK)
  let s := if b = s.get F.BG_SCRUB_BANK then s
    else if 16 ≤ b then
      let s := scrubPass s
      s.put F.BG_SCRUB_BANK (scrubBank s 16 0)
    else (s.put F.BG_SCRUB_BANK b).put F.BG_SCRUB_WORD 0
  (scrubNext (scrubAt (0x20000000 + s.get F.BG_SCRUB_BANK * 0x40000 + 8 * s.get F.BG_SCRUB_WORD) s), true)

/-- Up to `n` scrub steps, and how many were made. -/
def scrubSteps : Nat → State → State × Nat
  | 0, s => (s, 0)
  | n + 1, s => match scrubStep s with
    | (s, true) => let r := scrubSteps n s; (r.1, r.2 + 1)
    | (s, false) => (s, 0)

/-! ### Tasks (R617, R642–R644) -/

/-- A task is due (R617). -/
def taskDue (s : State) (t : Nat) : Bool := match t with
  | 0 => (s.flag F.BIST_CFG_ROT_EN && cells.any fun c => !retired s c) || s.bist.req.isSome
  | 1 => s.flag F.BG_CFG_SCRUB_EN
  | _ => calTaskDue s

/-- A task has a unit of work for a B slot: BIST needs a REQUALIFY test, or a bench cell whose test has not passed (R618, R623, R630). -/
def taskReady (s : State) (t : Nat) : Bool :=
  taskDue s t && (t != 0 || (!s.flag F.BIST_STAT_ROM_BAD
    && (s.bist.req.isSome || (s.flag F.BIST_CFG_ROT_EN && spares s && s.bist.cell.isSome && !s.flag F.BIST_STAT_ROT_PEND))))

/-- A task has a unit of work for an idle gap: as promoted, or a test of the cells while no spare is left (R627, R628, R643). -/
def gapReady (s : State) (t : Nat) : Bool :=
  let promoted := bitOf (s.get F.BG_STAT_PROMOTED) t
  let idle := t == 0 && !spares s && !s.flag F.BIST_STAT_ROM_BAD &&
    (s.bist.req.isSome || (s.flag F.BIST_CFG_ROT_EN && s.flag F.BIST_CFG_IDLE_EN && match s.bist.cell with
      | some c => (aget s.arr.work c).isNone
      | none => false))
  (promoted && taskReady s t) || idle

/-- The age field of a task. -/
def ageFld (t : Nat) : Fld := match t with
  | 0 => F.BG_AGE0_BIST
  | 1 => F.BG_AGE0_SCRUB
  | _ => F.BG_AGE1_CAL

/-- Among tasks, the one with the highest age, ties to the lower bit. -/
def oldestTask (s : State) (ts : List Nat) : Option Nat :=
  ts.foldl (fun b t => match b with
    | some x => if s.get (ageFld x) < s.get (ageFld t) then some t else some x
    | none => some t) none

/-- A task has made progress: its age is 0, its promotion and STARVED end. -/
def progress (t : Nat) (s : State) : State :=
  let s := { s with bist.progress := setBitTo s.bist.progress t true }.put (ageFld t) 0
  (s.put F.BG_STAT_PROMOTED (setBitTo (s.get F.BG_STAT_PROMOTED) t false)).put F.BG_STAT_STARVED (setBitTo (s.get F.BG_STAT_STARVED) t false)

/-- BG_STAT shows which tasks are due. -/
def showDue (s : State) : State :=
  s.put F.BG_STAT_DUE ((List.range 3).foldl (fun a t => a + 2 ^ t * b2n (taskDue s t)) 0)

/-- A frame starts: in RUN the ages advance (R642), from the second frame on, as before the first there is none in which a task made no progress (DEDUCED, log entry 177); an
injection that blocks the scrub runs out. -/
def ageFrame (s : State) : State :=
  let s := if s.armedAt 0x0A 2 then { s.disarm 0x0A 2 with bist.blocked := 2 * s.get F.BG_CFG_STARVE_FRAMES + 1 }
    else { s with bist.blocked := s.bist.blocked - 1 }
  let step (s : State) (t : Nat) : State := if taskDue s t && !bitOf s.bist.progress t then s.bump (ageFld t) else s
  let s := if s.bist.frameRun ∧ pstate s = 0 then (List.range 3).foldl step s else s
  { s with bist.progress := 0, bist.frameRun := true }

/-- PROMOTED (R643). -/
def promoteTasks (s : State) : State :=
  (List.range 3).foldl (fun s t =>
    if s.flag F.BG_CFG_PROMOTE_EN && decide (s.get F.BG_CFG_STARVE_FRAMES ≤ s.get (ageFld t)) && !bitOf (s.get F.BG_STAT_PROMOTED) t then
      (s.put F.BG_STAT_PROMOTED (setBitTo (s.get F.BG_STAT_PROMOTED) t true)).bump F.BG_CNT2_PROMOTIONS |>.raise E.BG_PROMOTED
    else s) s

/-- BG_STARVED (R644): INFO is the task's bit as it stands in BG_STAT.DUE (DEDUCED, log entry 83). -/
def starvedTasks (s : State) : State :=
  (List.range 3).foldl (fun s t =>
    if decide (2 * s.get F.BG_CFG_STARVE_FRAMES ≤ s.get (ageFld t)) && !bitOf (s.get F.BG_STAT_STARVED) t then
      let s := (s.put F.BG_STAT_STARVED (setBitTo (s.get F.BG_STAT_STARVED) t true)).bump F.BG_CNT2_STARVED
      faultEvent 0x70 (2 ^ t) (s.raise E.BG_STARVED) false (t == 1 && decide (0 < s.bist.blocked))
    else s) s

/-! ### Units of work by time -/

/-- `n` more units of task `t`; `arg` is the slot's ARG where the slot is the task's own. The answer says whether any was done. -/
def doUnits (t arg n : Nat) (s : State) : State :=
  if n = 0 then s else
  match t with
  | 0 => progress 0 (patterns n s)
  | 1 => match scrubSteps n s with
    | (s, 0) => s
    | (s, _) => progress 1 s
  | _ => match calStep arg s with
    | (s, true) => progress 2 s
    | (s, false) => s

/-- The units of task `t` that end within `us` µs of the start of its work. -/
def unitsIn (t us : Nat) (s : State) : Nat := match t with
  | 0 => (us - 4) * scanMhz s / 180
  | 1 => us * levelMhz (level s) / 6
  | _ => if 40 ≤ us * levelMhz (level s) then 1 else 0

/-- The running B slot has worked until `at_` µs. -/
def workUntil (at_ : Nat) (s : State) : State := match s.bist.task, s.plan.run with
  | some t, some r =>
    let stop := min at_ (if t = 0 then s.bist.sliceEnd else r.slot.start + r.slot.budget)
    let n := unitsIn t (stop - r.began) s
    let n := if t = 1 ∧ s.bist.arg ≠ 0 then min n s.bist.arg else n
    let done := s.bist.units
    doUnits t s.bist.arg (n - done) { s with bist.units := max n done }
  | _, _ => s

/-- The slice or slot of a task is over, completed or preempted (R622). -/
def closeWork (completed : Bool) (s : State) : State := match s.bist.task with
  | some 0 =>
    let s := { s with bist.task := none, bist.bad := false, gov.pred := s.gov.pred - cellCost s (level s) }.putB F.BIST_STAT_RUNNING false
    showBist (s.bump (if completed then F.BIST_CNT2_DONE else F.BIST_CNT2_PREEMPTED))
  | some _ => { s with bist.task := none, bist.raced := false }
  | none => s

/-- The work of a task that lost its slot is closed as preempted: done at the end of every command. -/
def settleWork (s : State) : State := if s.bist.task.isSome && s.plan.run.isNone then closeWork false s else s

/-- A B slot with the own task `own` comes up: it runs its own task where that is due, otherwise the due task of the highest age; `bad` and `raced` are what
its work meets. -/
def backSlot (act own idx at_ : Nat) (bad raced : Bool) (s : State) : State :=
  let s := gapTest s
  let pick := if taskReady s own then some own else oldestTask s ((List.range 3).filter (taskReady s))
  let due := s.plan.todo.any fun d => d.idx == idx && d.action == act && mayStart s d at_ && decide (at_ < d.start + d.budget)
  if !due ∨ s.plan.run.isSome then (slotBegin act idx at_ 0 false s).1 else
  let extra := if pick = some 0 then cellCost s (level s) else 0
  match pick with
  | none =>
    let s := { s with plan.todo := s.plan.todo.filter fun d => d.idx != idx }
    s.bump F.BG_CNT2_DEFER
  | some t =>
    match slotBegin act idx at_ extra true s with
    | (s, false) => s.bump F.BG_CNT2_DEFER
    | (s, true) =>
      let r := s.plan.run
      let arg := if t = own then runArg s else 0
      let stop := match r with
        | some r => r.slot.start + min r.slot.budget (s.get F.BIST_CFG_SLICE_US)
        | none => 0
      let b := { s.bist with task := some t, arg := arg, units := 0, sliceEnd := stop, bad := bad, raced := raced }
      let s := { s with bist := b }
      if t ≠ 0 then s
      else
        let s := { s with gov.pred := s.gov.pred + extra }.putB F.BIST_STAT_RUNNING true
        if s.armedAt 0x09 2 then preemptB (s.disarm 0x09 2) else s

/-- IDLE_GAP_WORK from `at_` to `till` µs of the tick: it stops 2 µs before the next slot or boundary (R641). A
gap slice counts as completed when it runs to that point or its test ends, and as preempted otherwise. -/
def gapWork (at_ till : Nat) (bad raced : Bool) (s : State) : State :=
  let s := gapTest s
  let len := (endLimits (s.get F.TICK_CFG_RATE)).2
  let next := s.plan.todo.foldl (fun a d => if at_ ≤ d.start then min a d.start else a) len
  if pstate s ≠ 0 ∨ s.slp.out ∨ s.plan.run.isSome ∨ at_ < s.plan.freeAt ∨ next < at_ + s.get F.BG_CFG_GAP_MIN_US then s else
  match oldestTask s ((List.range 3).filter (gapReady s)) with
  | none => s
  | some t =>
    let extra := if t = 0 then cellCost s (level s) else 0
    match admits (obRuns s) (s.gov.pred + extra) s with
    | (s, false) => s.bump F.GOV_CNT3_REFUSED
    | (s, true) =>
      let stop := min till (next - 2)
      let b := s.bist
      let n := unitsIn t (stop - at_) s
      let s := doUnits t 0 n { s with bist.bad := bad, bist.raced := raced }
      let s := endBurst { s with bist.bad := false, bist.raced := false, plan.freeAt := stop }
      let past := stop == next - 2 || s.bist.cell != b.cell || s.bist.req.isSome != b.req.isSome
      showBist (if t ≠ 0 then s else s.bump (if past then F.BIST_CNT2_DONE else F.BIST_CNT2_PREEMPTED))

/-! ### Start-up tests (R630–R633) -/

/-- CORE_TEST_DONE: the test of 1000 patterns at P0 has ended, after 15.0 ms. -/
def coreTestDone (pass : Bool) (s : State) : State :=
  if s.boot.coreTest ≠ 1 ∨ s.boot.coreU + tickUnits s < 432 then s else
  let s := { s with boot.coreTest := if pass then 2 else 3 }.putB F.SYS_BSTAT_CORE_TEST false
  let s := (s.putB F.BIST_START_CORE_RAN true).putB F.BIST_START_CORE_PASS pass
  if pass then s else faultEvent 0x71 1 s

/-- The test in progress falls back to the first pattern of its segment (R629). -/
def segmentStart (s : State) : State :=
  let f (n : Nat) : Nat := n / 400 * 400
  let b := { s.bist with pat := f s.bist.pat, req := s.bist.req.map fun x => (x.1, f x.2) }
  showBist { s with bist := b }

/-- The test restarts at pattern 0 (R629). -/
def testRestart (s : State) : State :=
  let b := { s.bist with pat := 0, req := s.bist.req.map fun x => (x.1, 0) }
  showBist { s with bist := b }

/-- Background work's part of a boundary: what BIST and BG show. -/
def backBoundary (s : State) : State := showDue (showBist (gapTest s))

/-- The validators of BIST and BG. -/
def checkBist (s : State) : Option Nat :=
  let v := s.getS F.BIST_CFG_SLICE_US
  if v < 10 ∨ 60 < v then some 0x01 else none

def checkBg (s : State) : Option Nat :=
  let g := s.getS F.BG_CFG_GAP_MIN_US
  if s.getS F.BG_CFG_STARVE_FRAMES = 0 ∨ g < 10 ∨ 60 < g then some 0x01 else none

end Sys2Proof.Machine
end

