-- ==== Sys2Proof/Machine/Single.lean ====
section
/-! DEFINITION. IEEE 754 single-precision numbers of FSK messages (R227, R229, R232), as exact fractions. -/

namespace Sys2Proof.Machine

/-- The value of a single as numerator and denominator; none for an infinity or a NaN. -/
def singleVal (w : Word) : Option (Int × Nat) :=
  let e := getBits w 30 23
  let f := getBits w 22 0
  if e = 255 then none else
  let m : Int := if e = 0 then f else f + 2 ^ 23
  let m := if bitOf w.toNat 31 then -m else m
  let e := max e 1
  some (if 150 ≤ e then (m * 2 ^ (e - 150), 1) else (m, 2 ^ (150 - e)))

/-- The quotient rounded to the nearest integer, a tie to the even one. -/
def roundEven (n d : Nat) : Nat :=
  let q := n / d
  let r := n % d
  if d < 2 * r ∨ (d = 2 * r ∧ q % 2 = 1) then q + 1 else q

/-- `n` × 2^`k` / `d`, as a quotient of naturals. -/
def scaledFrac (n d : Nat) (k : Int) : Nat × Nat := if 0 ≤ k then (n * 2 ^ k.toNat, d) else (n, d * 2 ^ (-k).toNat)

/-- The single nearest to the positive fraction n / d; one below the normal range becomes 0, one above it infinity. -/
def singleOfPos (n d : Nat) : Nat :=
  let k : Int := 24 + (Nat.log2 d : Int) - Nat.log2 n
  let x := scaledFrac n d k
  let k := if 2 ^ 24 * x.2 ≤ x.1 then k - 1 else k
  let x := scaledFrac n d k
  let q := roundEven x.1 x.2
  -- q may have been rounded up to 2^24: the sum carries into the exponent
  let e : Int := 150 - k
  if e ≤ 0 then 0 else if 255 ≤ e then 0x7F800000 else (e.toNat - 1) * 2 ^ 23 + q

/-- The single nearest to a fraction. -/
def singleOf (n : Int) (d : Nat) : Word :=
  if n = 0 ∨ d = 0 then 0
  else if 0 < n then BitVec.ofNat 32 (singleOfPos n.toNat d) else BitVec.ofNat 32 (2 ^ 31 + singleOfPos (-n).toNat d)

end Sys2Proof.Machine
end

