-- ==== Sys2Proof/Machine/Keys.lean ====
section
/-! DEFINITION. The window keys' baselines and lock, the LED, and the GPIO pins (chapter 20). -/

namespace Sys2Proof.Machine

/-- Key `n`. -/
def keyOf (s : State) (n : Nat) : KeyOne := match n with
  | 0 => s.keys.k0
  | 1 => s.keys.k1
  | _ => s.keys.k2

/-- Key `n` set. -/
def setKey (n : Nat) (k : KeyOne) (s : State) : State := match n with
  | 0 => { s with keys.k0 := k }
  | 1 => { s with keys.k1 := k }
  | _ => { s with keys.k2 := k }

/-- One bit of a per-key field. -/
def keyBit (f : Fld) (n : Nat) (b : Bool) (s : State) : State := s.put f (setBitTo (s.get f) n b)
def hasBit (s : State) (f : Fld) (n : Nat) : Bool := bitOf (s.get f) n

/-- The delta of a key (R694). -/
def keyDelta (s : State) (n : Nat) : Int := (s.get (F.KEYS_SIG_SIGNAL n) : Int) - s.get (F.KEYS_SIG_BASELINE n)

/-- The baseline of key `n` becomes its present signal. -/
def rebaseKey (n : Nat) (s : State) : State :=
  setKey n { keyOf s n with negMs := none, drift := 0 } (s.put (F.KEYS_SIG_BASELINE n) (s.get (F.KEYS_SIG_SIGNAL n)))

/-- KEYS_CMD REBASE (R700). -/
def rebaseKeys (s : State) : State :=
  let s := (List.range 3).foldl (fun s n => rebaseKey n (setKey n { keyOf s n with on := 0, off := 0, touchMs := 0 } s)) s
  (s.put F.KEYS_STAT_TOUCH 0).put F.KEYS_STAT_IGNORE 0

/-- The sequence buffer is cleared. -/
def clearSeq (s : State) : State := { s with keys.buf := [] }

/-! ### The local lock (R302, R705) -/

/-- The lock is set or cleared. -/
def setLock (on : Bool) (s : State) : State :=
  let s := if s.flag F.KEYS_STAT_LOCK = on then s else s.raise E.KEYS_LOCK_CHANGE
  let tmo := s.get F.KEYS_LOCK_TMO_S
  { s.putB F.KEYS_STAT_LOCK on with keys.lockLeft := if on && tmo != 0 then some (tmo * 28800) else none }

/-- A change of the lock takes effect at the boundary (R704). -/
def lockBoundary (s : State) : State := match s.keys.lockReq with
  | some on => setLock on { s with keys.lockReq := none }
  | none => s

/-- The lock's time runs on by `u` units at a boundary, during a reset too. -/
def lockTime (u : Nat) (s : State) : State := { s with keys.lockLeft := s.keys.lockLeft.map fun l => l - u }
def tickLock (s : State) : State := lockTime (tickUnits s) s

/-- LOCK_TIMEOUT. -/
def lockTimeout (s : State) : State := if s.keys.lockLeft = some 0 then setLock false s else s

/-! ### LED (R710, R711) -/

/-- The LED shows the pulses of kind `k` from now on. -/
def flash (k : Nat) (s : State) : State := { s with keys.led := k, keys.ledU := 0 }

/-- The LED's time runs on at a boundary. -/
def tickLed (s : State) : State :=
  let u := s.keys.ledU + tickUnits s
  let past := match s.keys.led with
    | 1 => decide (1440 ≤ u)
    | 2 => decide (17280 ≤ u)
    | 3 => decide (17280 ≤ u)
    | _ => true
  { s with keys.led := if past then 0 else s.keys.led, keys.ledU := if past then 0 else u, keys.blinkU := (s.keys.blinkU + tickUnits s) % 28800 }

/-- The LED sinks LED_MA. -/
def ledOn (s : State) : Bool :=
  if pstate s = 3 ∨ startCeil s then false else
  match s.get F.KEYS_CFG_LED_MODE with
  | 0 => false
  | 1 => true
  | _ =>
    let base := if inFault s then decide (s.keys.blinkU % 7200 < 3600)
      else if s.get F.KEYS_STAT_TRIM ≠ 0 then decide (s.keys.blinkU < 14400)
      else s.flag F.KEYS_STAT_LOCK
    match s.keys.led with
    | 1 => !base
    | 2 => decide (s.keys.ledU % 5760 < 2880)
    | 3 => true
    | _ => base

/-! ### GPIO (R712, R713) -/

/-- The byte of GPIO_CFG for pin `n`. -/
def gpioCfg (s : State) (n : Nat) : Nat := getBits (s.rdE 0x49 0x040) (8 * n + 7) (8 * n)

/-- The source that output pin `n` drives. -/
def gpioSource (s : State) (n : Nat) : Bool := match gpioCfg s n / 16 % 4 with
  | 0 => bitOf (s.get F.GPIO_OUT_OUT) n
  | 1 => inFault s
  | 2 => s.keys.pinLock
  | _ => s.keys.pinTrim

/-- What pin `n` drives: none for an input and for the high of an open drain. -/
def gpioDrive (s : State) (n : Nat) : Option Bool := match gpioCfg s n % 4 with
  | 1 => some (gpioSource s n)
  | 2 => if gpioSource s n then none else some false
  | _ => none

/-- GPIO_EDGE: an edge on pin `n` is sampled (R712, R424). -/
def gpioEdge (n : Nat) (falling : Bool) (s : State) : State :=
  let f := if falling then F.GPIO_EDGE_FALL else F.GPIO_EDGE_RISE
  recEdge n falling ((s.put f (setBitTo (s.get f) n true)).raise E.GPIO_EDGE)

/-- The levels at a boundary, and the lock and trim mode that a mirroring pin shows from now on. -/
def tickGpio (levels : Nat) (s : State) : State :=
  { s.put F.GPIO_IN_LEVELS levels with keys.pinLock := s.flag F.KEYS_STAT_LOCK, keys.pinTrim := s.get F.KEYS_STAT_TRIM != 0 }

/-- The time since the last scan runs on at a boundary. -/
def tickScan (s : State) : State := { s with keys.scanU := s.keys.scanU.map fun u => u + tickUnits s }

/-! ### Validators -/

/-- The KEYS validator. -/
def checkKeys (s : State) : Option Nat :=
  let out (f : Fld) (lo hi : Nat) : Bool := decide (s.getS f < lo) || decide (hi < s.getS f)
  if out F.KEYS_CFG_SCAN_MS 10 100 || out F.KEYS_CFG_DEB 1 8 || out F.KEYS_CFG_LED_MODE 0 2 || out F.KEYS_TH_TOUCH_TH 20 4000
      || out F.KEYS_TH_NEG_TH 20 4000 || out F.KEYS_TIME_MAX_TOUCH_S 5 3600 || out F.KEYS_TIME_DRIFT_SCANS 4 255 || out F.KEYS_TIME_TRIM_TMO_S 10 255
      || out F.KEYS_TRIM_STEP_PPM 1 1000 || out F.KEYS_TRIM_STEP_DUA 1 1000 || out F.KEYS_LED_MA 1 8 then some 0x01 else none

/-- The GPIO validator. -/
def checkGpio (s : State) : Option Nat :=
  let w := s.rd 0x49 0x040
  if (List.range 4).any fun n => getBits w (8 * n + 1) (8 * n) == 3 || getBits w (8 * n + 3) (8 * n + 2) == 3 then some 0x01 else none

end Sys2Proof.Machine
end

