-- ==== Sys2Proof/Machine/Almanac.lean ====
section
/-! DEFINITION. The Almanac (chapter 19): histograms, counters, commits, the ring of slots, the forecast, and ALM_CMD. -/

namespace Sys2Proof.Machine

/-! ### Histograms (R673–R675) -/

/-- A 32-bit count and a 48-bit bin of the live image. -/
def almBin32 (off : Nat) (s : State) : State := almAdd off 1 0xFFFFFFFF s
def almBin48 (off n : Nat) (s : State) : State := almAdd off n (2 ^ 48 - 1) s

/-- A bin index by steps from `lo`: below it 0, from `top` on `last`. -/
def stepBin (x lo step : Int) (last : Nat) : Nat :=
  if x < lo then 0 else min last ((x - lo) / step + 1).toNat

/-- The reservoir bin (R673). -/
def resBin (s : State) : Nat :=
  if s.get F.GOV_RES_RES_CRES_UF = 0 ∨ s.alm.resFault then 0
  else
    let v := s.get F.GOV_RESQ_VRES
    let stop := s.get F.GOV_RESV_RES_VSTOP
    if v ≤ stop then 1 else 2 + min 9 (10 * (v - stop) / (s.get F.GOV_RESV_RES_VMAX - stop))

/-- The environmental sample of a second boundary; `die` is the die temperature in 0.1 °C (R673). -/
def almSample (die : Int) (s : State) : State :=
  if s.get F.TICK_SECIDX_IDX ≠ 0 ∨ pstate s = 3 then s else
  let s := almBin32 (0x010 + 4 * stepBin die (-450) 50 40) s
  let s := almBin32 (0x0B4 + 4 * stepBin s.gov.vpre 2800 100 29) s
  let s := if loopGen s then almBin32 (0x12C + 4 * stepBin (s.get F.LINE_BUDGET_I_LOOP_UA) 3000 500 43) s else s
  almBin32 (0x1DC + 4 * resBin s) s

/-- The residency of the tick that ends (R674). -/
def almResidency (s : State) : State :=
  let u := tickUnits s
  let s := almBin48 (0x240 + 8 * pstate s) u s
  if pstate s ≤ 1 then almBin48 (0x210 + 8 * level s) u s else s

/-- The slack bin (R675). -/
def slackBin (k : Int) : Nat :=
  if k < 0 then 0 else if k ≤ 1 then 1
  else ((List.range 8).find? fun i => decide (k.toNat < 2 ^ (i + 2))).elim 10 (fun i => i + 2)

/-- The slack of the tick that ends, where it ran slots (R675). -/
def almSlack (s : State) : State :=
  if !s.plan.active then s
  else almBin48 (0x260 + 8 * (match s.plan.slack with
    | none => 11
    | some k => slackBin k)) 1 s

/-- The time since the last AON second runs on by `u` units. -/
def tickAon (u : Nat) (s : State) : State := { s with flt.aonU := satTo 57600 (s.flt.aonU + u) }

/-- AON_SECOND, a second after the last: OP_S, the AON second counter, and the second of the generation latched (R604, R676; DESIGN CHOICE, log
entry 5); the unauthenticated replies of R330 are counted by this second. -/
def aonSecond (s : State) : State :=
  if !mayReach s s.flt.aonU 28800 then s else
  let s := { almCount 0 s with flt.aonS := satTo 0xFFFFFFFF (s.flt.aonS + 1), flt.aonU := s.flt.aonU - 28800, acc.anonReplies := 0 }
  match gen s with
  | 1 => almCount 16 s
  | 2 => almCount 17 s
  | 3 => almCount 18 s
  | _ => s

/-! ### The image -/

/-- The 32-bit word of a live image at a byte offset; a 48-bit bin takes two (R671). -/
def imageWord (m : Assoc Nat) (off : Nat) : Word :=
  if 0x210 ≤ off ∧ off < 0x2C0 then
    let b := (aget m (off / 8 * 8)).getD 0
    BitVec.ofNat 32 (if off % 8 = 0 then b / 2 ^ 32 else b)
  else BitVec.ofNat 32 ((aget m off).getD 0)

/-- The words 0x000–0x5BF of a live image. -/
def imageWords (m : Assoc Nat) : List Word := tabulate 368 fun i => imageWord m (4 * i)

/-- The live image that words spell. -/
def imageOf (ws : List Word) : Assoc Nat :=
  let at_ (off : Nat) : Nat := (ws.getD (off / 4) 0).toNat
  ((List.range 368).filterMap fun i =>
    let off := 4 * i
    if 0x210 ≤ off ∧ off < 0x2C0 then
      (if off % 8 = 0 then some (off, at_ off * 2 ^ 32 + at_ (off + 4)) else none)
    else some (off, at_ off)).filter fun e => e.2 != 0

/-- A slot's bytes (R671): the image with its first four words, zeros, and the CRC, of which an injection flips a bit. -/
def slotBytes (m : Assoc Nat) (slot aseq opS_ cause : Nat) (flip : Bool) : List Byte :=
  let head : List Word := [BitVec.ofNat 32 (0x414C0100 + slot), BitVec.ofNat 32 aseq, BitVec.ofNat 32 opS_, BitVec.ofNat 32 (cause * 2 ^ 24)]
  let body := head ++ (imageWords m).drop 4 ++ List.replicate (1023 - 368) 0
  let crc := crcWords body
  wordsBytes (body ++ [if flip then crc ^^^ 1 else crc])

/-- The address of slot `i`. -/
def slotAddr (i : Nat) : Nat := 0x10250000 + i * 0x1000

/-- What a slot is found to be: no MAGIC, so that no commit stands there and it is not counted as invalid (DEDUCED, log entry 180), invalid, or valid with its words (R681). -/
inductive SlotFound where
  | none
  | invalid (magic : Bool) (aseq : Nat)
  | valid (words : List Word)
  deriving DecidableEq, Repr

/-- Slot `i` is read and judged. -/
def readSlot (i : Nat) (s : State) : State × SlotFound :=
  let (s, bs, ok) := ownRead (slotAddr i) 4096 s
  let ws := bytesWords bs
  let w0 := ws.getD 0 0
  let magic := getBits w0 31 16 == 0x414C
  if !magic && ok then (s, .none)
  else if magic && ok && getBits w0 15 8 == 1 && getBits w0 5 0 == i && crcWords (ws.take 1023) == ws.getD 1023 0 then (s, .valid ws)
  else (s, .invalid magic (ws.getD 1 0).toNat)

/-! ### The forecast (R685–R687) -/

/-- F_p (R686). -/
def forecast (p : Nat) (s : State) : Nat :=
  let wear := s.get (F.NVM_WEAR_PASSES p)
  let ret := s.get F.NVM_CFG_WEAR_RETIRE
  let d := almGet s (0x560 + 12 * p + 8)
  if ret ≤ wear then 0
  else if d = 0 then 0xFFFFFFFF
  else satTo 0xFFFFFFFF ((ret - wear) * s.get F.ALM_FCFG_RATE_H / d)

/-- The window of partition `p` closes when it is due (R685). -/
def closeWindow (s : State) (p : Nat) : State :=
  let o := 0x560 + 12 * p
  let wear := s.get (F.NVM_WEAR_PASSES p)
  if s.get F.ALM_FCFG_RATE_H * 3600 ≤ opS s - almGet s (o + 4) then
    almSet (o + 4) (opS s) (almSet o wear (almSet (o + 8) (wear - almGet s o) s))
  else s

/-- F_p lies below WARN_H. -/
def lowForecast (s : State) (p : Nat) : Bool :=
  let h := s.get F.ALM_FCFG_WARN_H
  h != 0 && decide (forecast p s < h)

/-- The warning of partition `p`: at the boundary at which F_p is found below WARN_H (R687; DEDUCED, log entry 179). -/
def warnForecast (s : State) (p : Nat) : State :=
  let m := s.get F.ALM_STAT_FC_WARN
  if lowForecast s p && !bitOf m p then
    faultEvent 0x63 (p * 4096) ((s.put F.ALM_STAT_FC_WARN (setBitTo m p true)).raise E.ALM_FC_WARN)
  else s

/-- The warning of partition `p` ends at a snapshot that finds F_p at or above WARN_H (R687). -/
def unwarn (s : State) (p : Nat) : State :=
  if lowForecast s p then s else s.put F.ALM_STAT_FC_WARN (setBitTo (s.get F.ALM_STAT_FC_WARN) p false)

/-- The warnings at a boundary, once the Almanac is loaded. -/
def almWarnings (s : State) : State := if s.alm.loaded then (List.range 7).foldl warnForecast s else s

/-! ### Commits (R678–R682) -/

/-- The CAUSE of a snapshot that replaces a queued one: CTR_RESET after a RESET, otherwise the lower code of both (R680). -/
def replaceCause (new old : Nat) : Nat := if new = 3 then 3 else min new old

/-- A commit falls due with a CAUSE. Of several due at one snapshot the lowest is kept, but CTR_RESET where a RESET is among them (R690; DEDUCED, log entry 178). -/
def joinCause (a b : Nat) : Nat := if a = 3 ∨ b = 3 then 3 else min a b
def makeDue (cause : Nat) (s : State) : State :=
  { s with alm.due := some (match s.alm.due with
    | some c => joinCause c cause
    | none => cause) }

/-- ALM_COMMIT_DUE (R678). -/
def commitDue (s : State) : State :=
  if s.alm.loaded ∧ s.alm.lastOpS + s.get F.ALM_CFG_COMMIT_MIN * 60 ≤ opS s then makeDue 1 s else s

/-- The chunk of an Almanac commit that is queued and not started. -/
def queuedCommit (s : State) : Option NvmChunk := s.nvm.queue.find? fun c => c.kind == 4

/-- ALM_SNAPSHOT at a boundary in RUN (R678–R680, R685). While a commit is being written the next one waits (DEDUCED, log entry 40). -/
def almSnapshot (s : State) : State := match s.alm.due with
  | none => s
  | some cause =>
    let writing : Bool := match s.nvm.writing with
      | some c => c.kind == 4
      | none => false
    if pstate s ≠ 0 ∨ writing then s
    else if s.get F.ALM_ASEQ_ASEQ = 0xFFFFFFFF then { s with alm.due := none }
    else
      let s := (List.range 7).foldl closeWindow { s with alm.due := none }
      let s := (List.range 7).foldl unwarn s
      let (s, cause) := match queuedCommit s with
        | some c =>
          let old := match c.tag with
            | .alm _ _ k => k
            | _ => cause
          ({ s with nvm.queue := s.nvm.queue.erase c }.bump F.ALM_CNT_SUPERSEDED, replaceCause cause old)
        | none => (s, cause)
      let seq := s.get F.ALM_ASEQ_ASEQ + 1
      let i := s.alm.next
      let flip := s.armedAt 0x0B 2
      let s := if flip then s.disarm 0x0B 2 else s
      let bs := slotBytes s.alm.live i seq (opS s) cause flip
      let s := { s with alm.lastOpS := opS s }.putB F.ALM_STAT_PEND true
      enqueue [{ kind := 4, addr := slotAddr i, bytes := bs, tag := .alm i seq cause }] s

/-- An Almanac chunk has been written: the slot is in force when it is valid (R681, R682). -/
def almWritten (i : Nat) (s : State) : State :=
  let s := s.putB F.ALM_STAT_PEND ((queuedCommit s).isSome)
  match readSlot i s with
  | (s, .valid ws) =>
    let s := (s.put F.ALM_STAT_SLOT i).put F.ALM_ASEQ_ASEQ (ws.getD 1 0).toNat
    let s := ({ s with alm.next := (i + 1) % 64 }.bump F.ALM_CNT_COMMITS).raise E.ALM_COMMITTED
    if i = 63 then addPass 5 s else s
  | (s, _) => s

/-! ### ALM_CMD (R688–R692) -/

/-- A write of ALM_CMD waits for the boundary. -/
def almCmd (w : Word) (s : State) : State :=
  { s with alm.cmds := s.alm.cmds ++ [(getBits w 31 24, getBits w 3 0)] }.putB F.ALM_CSTAT_BUSY true

/-- The offsets that a RESET mask clears (R689). -/
def resetClears (mask off : Nat) : Bool :=
  (bitOf mask 0 && decide (0x010 ≤ off) && decide (off < 0x20C)) ||
  (bitOf mask 1 && decide (0x210 ≤ off) && decide (off < 0x2C0)) ||
  (bitOf mask 2 && decide (0x340 ≤ off) && decide (off < 0x540)) ||
  (bitOf mask 3 && [9, 10, 11, 12, 13, 14, 15, 19, 20, 21, 22, 24].contains ((off - 0x2C0) / 4) && decide (0x2C0 ≤ off) && decide (off < 0x340))

/-- An accepted RESET (R689, R690). -/
def almReset (mask : Nat) (s : State) : State :=
  let s := { s with alm.live := s.alm.live.filter fun e => !resetClears mask e.1 }
  let s := almSet 0x328 (opS s) (almSet 0x324 mask (almCount 23 s))
  makeDue 3 (s.raise E.ALM_RESET_DONE)

/-- An accepted SNAP (R688). -/
def almSnap (s : State) : State := { s with alm.snap := s.alm.live }.putB F.ALM_STAT_SNAP_OK true |>.raise E.ALM_SNAP_DONE

/-- One command takes effect with its result (R692). -/
def almEffect (s : State) (c : Nat × Nat) : State :=
  let full := s.get F.ALM_ASEQ_ASEQ == 0xFFFFFFFF
  let (s, r) :=
    if c.1 = 0 ∨ 3 < c.1 ∨ (c.1 = 3 ∧ c.2 = 0) then (s, 1)
    else if (c.1 = 1 ∨ c.1 = 3) ∧ full then (s, 2)
    else if c.1 = 2 ∧ pstate s ≠ 0 then (s, 3)
    else if c.1 = 1 then (makeDue 2 s, 0)
    else if c.1 = 2 then (almSnap s, 0)
    else (almReset c.2 s, 0)
  ((s.put F.ALM_CSTAT_OP c.1).put F.ALM_CSTAT_RESULT r).putB F.ALM_CSTAT_BUSY false

/-- The commands of the tick take effect, a SNAP after the others. -/
def almCommands (s : State) : State :=
  let cs := s.alm.cmds
  let s := { s with alm.cmds := [] }
  (cs.filter (·.1 == 2)).foldl almEffect ((cs.filter (·.1 != 2)).foldl almEffect s)

/-- ALM_WIN_DATA as read, 0 beyond the buffer's 368 words (DESIGN CHOICE, log entry 181), and the index after it (R688, R691). -/
def almWinWord (s : State) : Word :=
  let i := s.get F.ALM_WIN_IDX_INDEX
  if i < 368 then imageWord s.alm.snap (4 * i) else 0
def almWinNext (s : State) : State :=
  if s.flag F.ALM_WIN_IDX_AINC then s.put F.ALM_WIN_IDX_INDEX (s.get F.ALM_WIN_IDX_INDEX + 1) else s

/-- ALM_NEXT_S as read. -/
def almNextS (s : State) : Nat :=
  if s.alm.loaded then s.alm.lastOpS + s.get F.ALM_CFG_COMMIT_MIN * 60 - opS s else 0

/-- The validator of the ALM page (R691): the reason. -/
def checkAlm (s : State) : Option Nat :=
  let m := s.getS F.ALM_CFG_COMMIT_MIN
  let r := s.getS F.ALM_FCFG_RATE_H
  if m < 10 ∨ 1440 < m ∨ r < 24 ∨ 8760 < r then some 0x01 else none

/-! ### Loading at start-up (R683, R684) -/

/-- All slots are read, lowest first: the valid one with the highest ASEQ, how many are invalid, whether one holds MAGIC, the highest ASEQ found. -/
structure SlotScan where
  best : Option (Nat × List Word) := none
  invalid : Nat := 0
  magic : Bool := false
  top : Nat := 0
  deriving DecidableEq, Repr

/-- One slot of the scan. -/
def scanSlot (x : State × SlotScan) (i : Nat) : State × SlotScan :=
  match readSlot i x.1 with
  | (s, .none) => (s, x.2)
  | (s, .invalid m a) =>
    (s, { x.2 with invalid := x.2.invalid + 1, magic := x.2.magic || m, top := if m then max x.2.top a else x.2.top })
  | (s, .valid ws) =>
    let a := (ws.getD 1 0).toNat
    let better := match x.2.best with
      | some (_, b) => decide ((b.getD 1 0).toNat < a)
      | none => true
    (s, { x.2 with best := if better then some (i, ws) else x.2.best, magic := true, top := max x.2.top a })

/-- The live image is selected (R683), `kept` saying that the reset kept the Almanac RAM, and the reset cause is counted (R684). -/
def almLoad (kept : Bool) (cause : Nat) (s : State) : State :=
  let (s, sc) := (List.range 64).foldl scanSlot (s, {})
  let s := { s with alm.loaded := true }.put F.ALM_CNT_INVALID (satTo 255 sc.invalid)
  let keep := kept && !s.alm.bad
  let s := match sc.best with
    | some (i, ws) =>
      let s := { s with alm.next := (i + 1) % 64, alm.lastOpS := (ws.getD 2 0).toNat }
      let s := (s.put F.ALM_STAT_SLOT i).put F.ALM_ASEQ_ASEQ (ws.getD 1 0).toNat
      if keep then s.put F.ALM_STAT_LOAD 0
      else { s with alm.live := imageOf ws, alm.bad := false }.put F.ALM_STAT_LOAD 1
    | none =>
      let s := { s with alm.next := 0, alm.lastOpS := 0 }.put F.ALM_ASEQ_ASEQ sc.top
      if keep then s.put F.ALM_STAT_LOAD 0
      else
        let s := { s with alm.live := [], alm.bad := false }
        if sc.magic then (s.put F.ALM_STAT_LOAD 3).raise E.ALM_ALM_LOST else s.put F.ALM_STAT_LOAD 2
  almCount cause s

end Sys2Proof.Machine
end

