-- ==== Sys2Proof/Machine/Faults.lean ====
section
/-! DEFINITION. The fault hub's commands (chapter 16): leaks, the calm period, traps, FLT_CMD, DIE_HOT, ALIVE, and the validators of FLT0
and FLT1. -/

namespace Sys2Proof.Machine

/-- LEAK of a source in 1/288 000 s (R597). -/
def leakTime (s : State) (id : Nat) : Nat := 288 * max 1 (getBits (srcCfg s id) 31 16 / getBits (srcCfg s id) 15 8)

/-- A source's leak may have fallen due (R597; DESIGN CHOICE, log entry 5). -/
def leakDue (s : State) (id : Nat) : Bool := decide (leakTime s id < (aget s.flt.leakU id).getD 0 + 10 * tickUnits s)

/-- ESC_LEAK of a source (R597): C loses 1, and the next leak is timed from this one. -/
def escLeak (id : Nat) (s : State) : State :=
  let c := (aget s.flt.esc id).getD 0
  if c = 0 ∨ !leakDue s id then s
  else if c = 1 then { s with flt.esc := adel s.flt.esc id, flt.leakU := adel s.flt.leakU id }
  else { s with flt.esc := aset s.flt.esc id (c - 1), flt.leakU := aset s.flt.leakU id ((aget s.flt.leakU id).getD 0 - leakTime s id) }

/-- The leak timers at a boundary. -/
def tickLeaks (s : State) : State := { s with flt.leakU := s.flt.leakU.map fun x => (x.1, x.2 + 10 * tickUnits s) }

/-- The calm timer at a boundary, in ms (R603). -/
def tickCalm (s : State) : State :=
  if s.get F.FLT_STAT_STATE ≠ 1 then s else
  let u := s.flt.calmU + tickUnits s
  { s with flt.calmU := u }.put F.FLT_CALM_CALM (satTo (2 ^ 22 - 1) (u * 10 / 288))

/-- FAULT_EXIT: the calm timer has reached CALM × 100 ms (R603). -/
def faultExit (s : State) : State :=
  if s.get F.FLT_STAT_STATE = 1 ∧ s.get F.FLT_CFG_CALM * 100 ≤ s.get F.FLT_CALM_CALM then
    let s := (s.put F.FLT_STAT_STATE 0).put F.FLT_STAT_ENTRY_SRC 0xFF
    let s := almCount 9 (addRecovery (s.bump F.FLT_CNT_RECOVERY))
    { s with flt.aliveFirst := true }.raise E.FLT0_FAULT_EXIT
  else s

/-- FLT_TRAP_ACK (R613). -/
def trapAck (w : Word) (s : State) : State := match s.flt.traps with
  | (_, q) :: t => if q = w.toNat then { s with flt.traps := t } else s.bump F.FLT_CNT_ACK_MISS
  | [] => s.bump F.FLT_CNT_ACK_MISS

/-- FLT_ESC (R616): the source whose counter is read. -/
def escSelect (w : Word) (s : State) : State := s.put F.FLT_ESC_SEL (getBits w 23 16)

/-- CLEAR_ESC (R598). -/
def clearEsc (s : State) : State := { s with flt.esc := [], flt.leakU := [] }

/-- CLEAR_LOCKOUT: accepted while LOCKOUT is in force; the reset follows at the next boundary (R607). -/
def clearLockout (s : State) : State :=
  if s.get F.FLT_STAT_STATE = 2 then { s with boot.resetAt := 8 :: s.boot.resetAt } else s

/-- A write of FLT_CMD (R607, R598). CLEAR_ESC needs no CONFIRM value, none being given (DEDUCED, log entry 30). -/
def fltCmd (w : Word) (s : State) : State :=
  match getBits w 31 24 with
  | 1 => if getBits w 15 0 = 0xC10C then clearLockout s else s
  | 2 => clearEsc s
  | _ => s

/-- A write of RST_CMD (R738). -/
def rstCmd (w : Word) (s : State) : State :=
  if getBits w 31 24 = 1 ∧ getBits w 15 0 = 0x5A17 then { s with boot.resetAt := 7 :: s.boot.resetAt } else s

/-- The junction limit, °C (R784). -/
def dieLimit (s : State) : Int := if s.otp.grade = 0x58 then 150 else 130

/-- The die temperature of a tick, in 0.1 °C: the counts of DIE_HOT (R590). -/
def tickDie (t : Int) (s : State) : State :=
  let hot := decide (10 * dieLimit s ≤ t)
  let cool := decide (t ≤ 10 * dieLimit s - 50)
  let h := if hot then satTo 16 (s.flt.hotTicks + 1) else 0
  let c := if cool then satTo 16 (s.flt.coolTicks + 1) else 0
  { s with flt.hotTicks := h, flt.coolTicks := c, flt.hotArmed := s.flt.hotArmed || decide (16 ≤ c) }

/-- DIE_HOT (R590). -/
def dieHot (s : State) : State :=
  if s.flt.hotArmed ∧ 16 ≤ s.flt.hotTicks then faultEvent 0x13 0 { s with flt.hotArmed := false } else s

/-- ALIVE at a boundary, from the completion of boot on (R609, R610, R733). -/
def tickAlive (s : State) : State :=
  if !s.flag F.SYS_BSTAT_DONE ∨ inFault s ∨ !s.flag F.FLT_CFG_ALIVE_EN then s.putB F.FLT_STAT_ALIVE false
  else if s.tick.num % 2 ^ s.get F.FLT_CFG_ALIVE_M = 0 then
    { s with flt.aliveFirst := false }.putB F.FLT_STAT_ALIVE (s.flt.aliveFirst || !s.flag F.FLT_STAT_ALIVE)
  else s

/-- The shadow FLT_SRC word of a source. -/
def srcShadow (s : State) (id : Nat) : Word := s.rd (7 + id / 64) (0x100 + 4 * (id % 64))

/-- One source's shadow is outside its ranges, or names BLOCK_RESET without a block page (R616): the reason. -/
def badSrc (s : State) (id : Nat) : Option Nat :=
  let w := srcShadow s id
  let base := getBits w 2 0
  let esc := getBits w 6 4
  if 5 < base ∨ 5 < esc ∨ getBits w 15 8 = 0 ∨ getBits w 31 16 = 0 then some 0x01
  else if (base = 3 ∨ esc = 3) ∧ blockPage id = none then some 0x02
  else none

/-- The validators of FLT0 (`p` = 7) and FLT1 (`p` = 8): the id and the reason; a field of FLT_CFG names id 0. -/
def checkFlt (p : Nat) (s : State) : Option (Nat × Nat) :=
  let calm := s.getS F.FLT_CFG_CALM
  let cfgBad := p = 7 ∧ (calm = 0 ∨ 36000 < calm ∨ s.getS F.FLT_CFG_RECOV_MAX = 0)
  if cfgBad then some (0, 0x01)
  else (faultIds.filter fun i => i / 64 + 7 == p).findSome? fun i => (badSrc s i).map fun r => (i, r)

/-- What a commit of FLT0 or FLT1 that has applied brings about: a source whose N or W changed has its C at 0 (R598). -/
def afterFltCommit (p : Nat) (before s : State) : State :=
  let changed (id : Nat) : Bool := id / 64 + 7 == p && getBits (srcCfg before id) 31 8 != getBits (srcCfg s id) 31 8
  { s with flt.esc := s.flt.esc.filter (fun e => !changed e.1), flt.leakU := s.flt.leakU.filter fun e => !changed e.1 }

/-- FLT_TRAP as read (R611). -/
def trapWord (s : State) : Word := match s.flt.traps with
  | (id, q) :: _ => BitVec.ofNat 32 (2 ^ 31 + id * 2 ^ 16 + q)
  | [] => 0

/-- FLT_STAT as read: RECOV_24H and the traps queued are counted (R604, R616). -/
def fltStatWord (s : State) : Word :=
  putBits (putBits (s.rd 0x07 0x044) 15 12 (satTo 15 (recov24 s))) 11 8 s.flt.traps.length

/-- FLT_ESC as read. -/
def escWord (s : State) : Word :=
  putBits (s.rd 0x07 0x07C) 7 0 ((aget s.flt.esc (s.get F.FLT_ESC_SEL)).getD 0)

/-- The fault record that FLT_REC_IDX selects. -/
def recWords (s : State) : Word × Word := (aget s.flt.ring (s.get F.FLT_REC_IDX_IDX)).getD (0, 0)

end Sys2Proof.Machine
end

