-- ==== Sys2Proof/Machine/Power.lean ====
section
/-! DEFINITION. Which domains are powered (R26, R556, R805) and the enumeration of registers with RWS fields. -/

namespace Sys2Proof.Machine

/-- Domain `d` is powered: in the state in force, and LOOP not in G3 (R26, R556). A state's domains change when the state is reached and when RUN is
reached again (DEDUCED, log entry 84). -/
def domOn (s : State) (d : Dom) : Bool := match d with
  | .aon => true
  | .loop => gen s != 3
  | .ana => pstate s != 3
  | .link => pstate s != 3
  | .core => pstate s != 3
  | .arr => decide (pstate s ≤ 1)

/-- Domain `d` serves accesses: CORE does not while its start-up test runs (R731). -/
def domServes (s : State) (d : Dom) : Bool := domOn s d && (d != .core || s.boot.coreTest != 1)

/-- The domain of a page. -/
def pageDom (p : Nat) : Dom := match pageEnt p with
  | some e => e.dom
  | none => .aon

/-- A page's domain is powered. -/
def pageOn (s : State) (p : Nat) : Bool := domOn s (pageDom p)

/-- SRAM bank `n` is powered (PWR_DOM): not gated, and in RUN or DOZE. -/
def bankPowered (s : State) (n : Nat) : Bool := !bitOf (s.get F.GOV_BANKS_GATED) n && decide (pstate s ≤ 1)

/-- PWR_DOM as read. -/
def powerWord (s : State) : Word :=
  let m := (List.range 16).foldl (fun a n => a + 2 ^ n * b2n (bankPowered s n)) 0
  BitVec.ofNat 32 (m * 65536 + 32 * b2n (domOn s .arr) + 16 * b2n (domOn s .core) + 8 * b2n (domOn s .link) + 4 * b2n (domOn s .ana)
    + 2 * b2n (domOn s .loop) + 1)

/-! ### Registers -/

/-- The mapped pages in rising order. -/
def allPages : List Nat := (List.range 128).filter fun p => (pageEnt p).isSome

/-- The offsets of the block registers of page `p`, in table order. -/
def pageOffsets (p : Nat) : List Nat :=
  (pageRegs p).flatMap fun e => (List.range e.c1).flatMap fun i => (List.range e.c2).map fun j => e.off + i * e.s1 + j * e.s2

/-- The offsets of page `p` that hold RWS fields: PG_CTRL where EN is not fixed, the FLT_SRC words, and block registers. -/
def rwsOffsets (p : Nat) : List Nat :=
  let flt := if p = 7 ∨ p = 8 then (List.range 64).map (fun i => 0x100 + 4 * i) else []
  ((0x008 :: (flt ++ pageOffsets p)).eraseDups).filter fun o => rwsMask p o != 0

/-- Every offset of page `p` at which a register stands. -/
def regOffsets (p : Nat) : List Nat :=
  let flt := if p = 7 ∨ p = 8 then (List.range 64).map (fun i => 0x100 + 4 * i) else []
  ((List.range 10).map fun i => 4 * i) ++ flt ++ pageOffsets p

/-- The RWS fields of page `p`: shadow or effective words equal. -/
def clean (s : State) (p : Nat) : Bool :=
  (rwsOffsets p).all fun o => s.rd p o &&& BitVec.ofNat 32 (rwsMask p o) == s.rdE p o &&& BitVec.ofNat 32 (rwsMask p o)

end Sys2Proof.Machine
end

