-- ==== Sys2Proof/Machine/SleepReq.lean ====
section
/-! DEFINITION. Sleep requests and wake latches (chapter 15, R561–R563, R567, R568, R575–R581). -/

namespace Sys2Proof.Machine

/-- The quiesce block of a page, 1 to 6 (R565). -/
def blockOf (p : Nat) : Nat :=
  if 0x30 ≤ p ∧ p ≤ 0x41 then 1
  else if p = 0x2C then 2
  else if p = 0x12 ∨ (0x20 ≤ p ∧ p ≤ 0x2A) then 3
  else if 0x13 ≤ p ∧ p ≤ 0x18 then 4
  else if p = 0x0C then 5
  else 6

/-- A wake source's bit is enabled; FAULT always is. -/
def wakeEnabled (s : State) (k : Nat) : Bool := k == 5 || bitOf (s.rdE 0x02 0x044).toNat k

/-- Any retries that remain are cancelled. -/
def cancelRetry (s : State) : State :=
  let s := if s.get F.PWR_STAT_ENTRY = 5 then s.put F.PWR_STAT_ENTRY 0 else s
  { s with slp.retryIn := 0 }.put F.PWR_STAT_RETRY_LEFT 0

/-- The exit begins (R570–R572); a wake clears the key buffer (R702). -/
def beginExit (s : State) : State :=
  { s with slp.exiting := true, keys.buf := [] }.put F.PWR_STAT_ENTRY 4

/-- Wake source `k` fires: its latch sets whatever the state (R579). An enabled one is a wake: a retry wait is cancelled (R568, DEDUCED, log entry 100), an entry in progress notes
it (R580), and a state that is reached is left. -/
def wakeLatch (k : Nat) (s : State) : State :=
  let s := s.put F.PWR_WAKE_SRC_LATCH (setBitTo (s.get F.PWR_WAKE_SRC_LATCH) k true)
  if !wakeEnabled s k then s else
  let s := if s.get F.PWR_STAT_ENTRY = 5 then cancelRetry s else s
  let s := if s.slp.firstSeen then s
    else { s with slp.firstSeen := true }.put F.PWR_WAKE_SRC_FIRST (k + 1) |>.put F.PWR_WTIME_TICK s.tick.num
  if s.slp.req.isSome || s.slp.down.isSome then { s with slp.wokeEntry := true }
  else if pstate s ≠ 0 ∧ !s.slp.exiting then beginExit s
  else s

/-- WAKE: LINE (0), KNOCK (1) or an edge of WAKE_IN (2), falling or not. LINE fires on amplitude in G2 only; in G3 a received frame sets it (R575). An edge of
WAKE_IN may also be a Stormbox trigger (R424). The other sources fire within other commands (DEDUCED, log entry 100). -/
def wakeFires (src : Nat) (falling : Bool) (s : State) : State := match src with
  | 0 => if gen s = 2 then wakeLatch 0 s else s
  | 1 => if gen s = 0 then s else wakeLatch 1 s
  | 2 =>
    let s := recEdge 4 falling s
    if s.flag F.PWR_WAKE_CFG_WAKE_IN_POL == falling then wakeLatch 2 s else s
  | _ => s

/-- ALARM_TICK. -/
def alarmTick (s : State) : Nat := s.get F.PWR_ALARM_HI_HI * 2 ^ 32 + s.get F.PWR_ALARM_LO_LO

/-- ALARM at the boundary at which TICK_NUM equals ALARM_TICK; with a period, ALARM_TICK moves on, in the shadow too where that held the same value
(R575, DEDUCED, log entry 101). -/
def alarmFires (s : State) : State :=
  if s.tick.num ≠ alarmTick s then s else
  let s := wakeLatch 3 s
  let p := s.get F.PWR_ALARM_PER_PERIOD
  if p = 0 then s else
  let same := s.getS F.PWR_ALARM_LO_LO == s.get F.PWR_ALARM_LO_LO && s.getS F.PWR_ALARM_HI_HI == s.get F.PWR_ALARM_HI_HI
  let n := (alarmTick s + p) % 2 ^ 48
  let lo := BitVec.ofNat 32 n
  let hi := BitVec.ofNat 32 (n / 2 ^ 32)
  let s := (s.wrE 0x02 0x04C lo).wrE 0x02 0x050 hi
  if same then (s.wr 0x02 0x04C lo).wr 0x02 0x050 hi else s

/-- The loop is parked for FROST (R585). -/
def loopParked (s : State) : Bool :=
  (s.get F.LDAC_CFG_MODE == 1 || s.get F.LDAC_CFG_MODE == 3) && !s.flag F.LDAC_STAT_SPAN_PASS && !s.flag F.LDAC_STAT_RAMPING
    && !s.flag F.LDAC_STAT_STARTUP

/-- PWR_FROST_EST: the OTP costs of the functions enabled in AON and LOOP (R584). -/
def frostEst (s : State) : Nat :=
  s.otp.frostUa + (if s.en 0x48 then s.otp.frostKeys else 0) + (if getBits (s.rdE 0x02 0x044) 4 0 = 0 then 0 else s.otp.frostWake)
    + (if s.flag F.TICK_CFG_PPS_OUT_EN then s.otp.frostPps else 0) + (if loopGen s then s.otp.frostLoop else 0)

/-- The first failing check of R561; a retry does not count its own wait as BUSY. -/
def sleepReason (target : Nat) (retry : Bool) (s : State) : Option Nat :=
  let entering := s.slp.req.isSome || s.slp.down.isSome || pstate s != 0
  let waiting := !retry && s.get F.PWR_STAT_ENTRY == 5
  let pendingWake := (List.range 6).any fun k => wakeEnabled s k && bitOf (s.get F.PWR_WAKE_SRC_LATCH) k
  if entering || waiting then some 0x01
  else if startCeil s then some 0x02
  else if inFault s then some 0x03
  else if getBits (s.rdE 0x02 0x044) 4 0 = 0 then some 0x04
  else if pendingWake then some 0x05
  else if target = 3 ∧ loopGen s ∧ !loopParked s then some 0x06
  else if target = 3 ∧ 70 < frostEst s then some 0x07
  else none

/-- PWR_RESULT takes the end of a request. -/
def sleepResult (result reason block why target : Nat) (s : State) : State :=
  s.wr 0x02 0x060 (BitVec.ofNat 32 (result * 2 ^ 24 + reason * 2 ^ 16 + block * 2 ^ 12 + why * 2 ^ 8 + target))

/-- A request ends REFUSED: the stopped blocks resume, and a retry may follow (R566–R568). -/
def sleepRefused (target block why : Nat) (s : State) : State :=
  let s := { s with slp.req := none, slp.firstSeen := true }
  let s := sleepResult 2 0 block why target ((s.bump F.PWR_CNT_REFUSED).raise E.PWR_REFUSED)
  if s.slp.wokeEntry ∨ s.get F.PWR_STAT_RETRY_LEFT = 0 then (cancelRetry s).put F.PWR_STAT_ENTRY 0
  else { s with slp.retryIn := s.get F.PWR_CFG_RETRY_GAP, slp.retryTarget := target }.put F.PWR_STAT_ENTRY 5

/-- A sleep request that is made, anew or again (R561, R563, R567). -/
def sleepAsk (target : Nat) (retry : Bool) (s : State) : State :=
  let inj := s.armedAt 0x02 2
  let s := if inj then s.disarm 0x02 2 else s
  let s := match sleepReason target retry s with
    | some r => sleepResult 3 r 0 0 target ((cancelIf retry s).bump F.PWR_CNT2_REJECTED |>.raise E.PWR_REJECTED)
    | none =>
      let s := { s with slp.req := some target, slp.retryTarget := target, slp.firstSeen := false, slp.wokeEntry := false }
      if retry then s.put F.PWR_STAT_ENTRY 0 else s.put F.PWR_STAT_RETRY_LEFT (s.get F.PWR_CFG_RETRY)
  if inj then wakeLatch 2 s else s
where
  /-- A retry that is rejected ends its series. -/
  cancelIf (retry : Bool) (s : State) : State := if retry then cancelRetry s else s

/-- A write of PWR_SLEEP with GO = 1: SLEEP_REQUEST, or SLEEP_CANCEL with TARGET 0 (R561, R562). -/
def sleepWrite (w : Word) (s : State) : State :=
  let t := getBits w 1 0
  if !bitOf w.toNat 31 then s else if t = 0 then (if s.get F.PWR_STAT_ENTRY = 5 then cancelRetry s else s) else sleepAsk t false s

/-- SLEEP_RETRY: the frame of the retry has begun (R567). -/
def sleepRetry (s : State) : State :=
  if s.get F.PWR_STAT_ENTRY = 5 ∧ s.slp.retryIn = 0 then
    let s := (s.bump F.PWR_CNT2_RETRIES).put F.PWR_STAT_RETRY_LEFT (s.get F.PWR_STAT_RETRY_LEFT - 1)
    sleepAsk s.slp.retryTarget true s
  else s

/-- The retry wait at a frame start. -/
def retryFrame (s : State) : State := { s with slp.retryIn := s.slp.retryIn - 1 }

/-- The PWR validator. -/
def checkPwr (s : State) : Option Nat :=
  let th := s.getS F.PWR_WAKE_CFG_G2_TH_MV
  let c := s.getS F.PWR_WAKE_CFG_G3_CNT
  if s.getS F.PWR_CFG_RETRY_GAP = 0 ∨ th < 80 ∨ 250 < th ∨ c < 4 ∨ 64 < c then some 0x01 else none

end Sys2Proof.Machine
end

