-- ==== Sys2Proof/Machine/View.lean ====
section
/-! DEFINITION. What a read of a register shows: the common registers of every page (R66), and the registers whose value follows from OTP or from other state
(R50, R342, R347, R444, R691 and the register tables); all others show their word. -/

namespace Sys2Proof.Machine

/-- The group of a page (R298). -/
def pageGroup (p : Nat) : Nat := match pageEnt p with
  | some e => e.group
  | none => 0

/-- The pages of a group. -/
def groupPages (g : Nat) : List Nat := allPages.filter fun p => pageGroup p == g

/-- The lease on a page's group. -/
def leaseOf (s : State) (p : Nat) : Option Lease := aget s.page.leases (pageGroup p)

/-- PG_OWNER as read (R347): whole seconds left, rounded up. -/
def ownerWord (s : State) (p : Nat) : Word := match leaseOf s p with
  | some l => BitVec.ofNat 32 ((l.left + 28799) / 28800 * 2 ^ 20 + l.holder * 2 ^ 12)
  | none => 0

/-- PG_STAT as read. -/
def pageStat (s : State) (p : Nat) : Word :=
  BitVec.ofNat 32 (16 * b2n (s.page.crefused.contains p) + 8 * b2n (s.page.srstPend.contains p) + 4 * b2n (leaseOf s p).isSome
    + 2 * b2n (s.locks.contains p) + b2n (s.en p))

/-- The common registers of page `p` as read at the normal address. -/
def commonWord (s : State) (p off : Nat) : Word := match off with
  | 0x008 => putBits (s.rd p off &&& 1) 2 2 (b2n (s.locks.contains p))
  | 0x00C => pageStat s p
  | 0x018 => s.rd p 0x010 &&& s.rd p 0x014
  | 0x01C => putBits (s.rd p off) 31 31 (b2n (aget s.page.inj p).isSome)
  | 0x020 => putBits (s.rd p off) 1 1 (b2n (s.page.commitPend.contains p))
  | 0x024 => ownerWord s p
  | _ => s.rd p off

/-- A page raises an event request (R60). -/
def eventReq (s : State) (p : Nat) : Bool := s.rd p 0x010 &&& s.rd p 0x014 != 0

/-- SPI_EVSUMk. -/
def evsum (s : State) (k : Nat) : Word :=
  BitVec.ofNat 32 ((List.range 32).foldl (fun a b => a + 2 ^ b * b2n ((pageEnt (32 * k + b)).isSome && eventReq s (32 * k + b))) 0)

/-- Some event request is pending; some trap is. -/
def anyEvent (s : State) : Bool := allPages.any (eventReq s)
def anyTrap (s : State) : Bool := !s.flt.traps.isEmpty

/-- HIRQ_N is low (R324), released until ROM boot is complete (R736). -/
def hirqLow (s : State) : Bool :=
  !s.boot.held && s.flag F.SYS_BSTAT_ROM_OK && ((bitOf (s.rd 0x19 0x040).toNat 0 && anyEvent s) || anyTrap s)

/-- KSHLD carries the electrode waveform from the start of the key scan on, and VREFOUT 1.250 V once ROM boot is complete; before, they are low and at high impedance
(R736). -/
def shieldDriven (s : State) : Bool := !s.boot.held && s.boot.loadDone
def vrefDriven (s : State) : Bool := !s.boot.held && s.flag F.SYS_BSTAT_ROM_OK

/-- ACC_SESSk: the sessions in their order. -/
def sessWord (s : State) (k : Nat) : Word := match aget s.acc.sessions k with
  | some x => BitVec.ofNat 32 (x.sid * 2 ^ 24 + x.kind * 2 ^ 20 + b2n x.pending * 2 ^ 19 + x.role * 2 ^ 16 + x.key * 2 ^ 12 + (x.idle + 28799) / 28800)
  | none => 0

/-- One bit per key slot. -/
def slotBits (ks : List KeySlot) (f : KeySlot → Bool) : Nat := (List.range ks.length).foldl (fun a i => a + 2 ^ i * b2n (f (ks.getD i {}))) 0

/-- ACC_KEYSTAT; LAST_ERR is the register's own. -/
def keyStatWord (s : State) : Word :=
  putBits (putBits (putBits (putBits (s.rd 0x18 0x090) 19 18 (slotBits s.otp.mkeys (·.revoked))) 17 16 (slotBits s.otp.mkeys (·.programmed)))
    15 8 (slotBits s.otp.keys (·.revoked))) 7 0 (slotBits s.otp.keys (·.programmed))

/-- ACC_KEYROLE. -/
def keyRoleWord (s : State) : Word := BitVec.ofNat 32 ((List.range 8).foldl (fun a i => a + 4 ^ i * ((s.otp.keys.getD i {}).role % 4)) 0)

/-- The entry of the contention log that ACC_CLOG_IDX selects. -/
def clogWords (s : State) : Word × Word × Word := (aget s.acc.clog (s.get F.ACC_CLOG_IDX_IDX)).getD (0, 0, 0)

/-- FSK_XSTAT (R240, R444). DEGRADED shows that the array has no spare cell (DEDUCED, log entry 102). -/
def xstat (s : State) : Nat :=
  b2n (inFault s) + 2 * b2n (s.get F.FLT_STAT_STATE == 2) + 4 * s.get F.LINE_STAT_LIFTOFF + 8 * s.get F.LINE_STAT_OVERDRAW
    + 16 * s.get F.LDAC_STAT_READBACK + 32 * b2n (s.flag F.TICK_CFG_TIME_REQ && !s.flag F.TICK_STAT_SYNCED)
    + 64 * b2n (!s.flag F.ARR_STAT_SPARES) + 128 * b2n s.boot.cfgLost
    + 256 * b2n (decide (s.get F.REC_ACK_RECNO < s.get F.REC_LAST_RECNO))

/-- Banks that collected results pin (R547): those of COLLECT_ADDR while the lanes' page is enabled, those of a fast lane's ring while its page is. -/
def laneBanks (s : State) : List Nat :=
  let ring (k n : Nat) : Bool := s.en (0x29 + k) && touchesBank (s.get (F.FAST_RING_ADDR k)) (4 * s.get (F.FAST_RLEN_LEN k)) n
  (List.range 16).filter fun n => (s.en 0x28 && touchesBank (s.get F.LANES_COLL_ADDR) 0x188 n) || ring 0 n || ring 1 n

/-- The pinned banks, as GOV_BANKS.PINNED (R547). -/
def pinned (s : State) : Nat := (recBanks s ++ learnBanks s ++ arrBanks s ++ laneBanks s).foldl (fun m n => setBitTo m n true) 0

/-- GOV_BANKS takes the pinned banks, which a sample of the governor leaves alone. -/
def pinBanks (s : State) : State := s.put F.GOV_BANKS_PINNED (pinned s)

/-- The FSK modem is on: G2 is latched and LINK is powered (R199). -/
def fskOn (s : State) : Bool := gen s == 2 && pstate s != 3

/-- FSK_STAT as read: RUNNING and BURSTING follow the modem (BURSTING: burst mode is on and the modem runs; DEDUCED, log entry 114). -/
def fskStatWord (s : State) : Word :=
  putBits (putBits (s.rd 0x13 0x07C) 0 0 (b2n (fskOn s))) 4 4 (b2n (fskOn s && s.flag F.FSK_BURST_EN))

/-- A block register whose value follows from other state; none for the others. -/
def derived (s : State) (p off : Nat) : Option Word :=
  let n (v : Nat) : Option Word := some (BitVec.ofNat 32 v)
  match p with
  | 0x00 => if off = 0x040 then n (0x4811 * 2 ^ 16 + s.otp.step * 2 ^ 8 + s.otp.grade) else none
  | 0x01 => if off = 0x044 then n s.boot.hist else none
  | 0x02 => if off = 0x044 then some (putBits (s.rd p off) 5 5 1) else if off = 0x06C then some (powerWord s) else if off = 0x078 then n (frostEst s) else none
  | 0x03 =>
    if 0x090 ≤ off ∧ off < 0x0A8 then n (s.otp.govBase.getD ((off - 0x090) / 4) 0 * 2 ^ 16 + s.otp.govCell.getD ((off - 0x090) / 4) 0)
    else if off = 0x0A8 then n s.otp.bankUa else if off = 0x064 then n (cap s / 10).toNat
    else if off = 0x05C then some (putBits (s.rd p off) 20 20 (b2n (cap s != (budget s : Int)))) else if off = 0x070 then some (putBits (s.rd p off) 31 16 (pinned s)) else none
  | 0x04 => if off = 0x044 then some (putBits (s.rd p off) 3 3 (b2n (!s.boot.held && decide (pstate s < 2)))) else none  -- PLL_LOCK (R523, R556)
  | 0x05 => if off = 0x054 then n s.tick.num else none
  | 0x06 => if off = 0x048 then some (planWinValue s) else if off = F.PLAN_VSTAT_OK.off then some (planVstat s) else none
  | 0x07 => match off with
    | 0x044 => some (fltStatWord s)
    | 0x04C => some (trapWord s)
    | 0x064 => some (recWords s).1
    | 0x068 => some (recWords s).2
    | 0x07C => some (escWord s)
    | _ => none
  | 0x0B => if off = 0x050 then n (almNextS s) else if off = F.ALM_WIN_DATA_DATA.off then some (almWinWord s)
    else if 0x068 ≤ off ∧ off < 0x068 + 28 then n (forecast ((off - 0x068) / 4) s) else none
  | 0x13 => match off with
    | 0x044 => n s.otp.devType
    | 0x048 => n s.otp.devId
    | 0x07C => some (fskStatWord s)
    | 0x098 => n (xstat s)
    | _ => none
  | 0x15 => if off = 0x040 then n (s.otp.mac / 2 ^ 32) else if off = 0x044 then n s.otp.mac else none
  | 0x18 => match off with
    | 0x080 => some (sessWord s 0)
    | 0x084 => some (sessWord s 1)
    | 0x088 => some (sessWord s 2)
    | 0x08C => some (sessWord s 3)
    | 0x090 => some (keyStatWord s)
    | 0x094 => some (keyRoleWord s)
    | 0x0A0 => n s.otp.patchVer
    | 0x0B8 => some (clogWords s).1
    | 0x0BC => some (clogWords s).2.1
    | 0x0C0 => some (clogWords s).2.2
    | _ => none
  | 0x19 => if off = 0x044 then some (putBits (s.rd p off) 5 5 (s.get F.SYS_STRAP_BOOTSEL)) else if 0x050 ≤ off then some (evsum s ((off - 0x050) / 4)) else none
  | 0x21 => if 0x06C ≤ off ∧ off < 0x07C then n (toCode 16 (excTrim s ((off - 0x06C) / 4))) else none
  | 0x2C => match off with
    | 0x0D4 => some (mlogWords s).1
    | 0x0D8 => some (mlogWords s).2.1
    | 0x0DC => some (mlogWords s).2.2
    | _ => none
  | _ =>
    if 0x22 ≤ p ∧ p < 0x28 ∧ 0x100 ≤ off ∧ off < 0x140 then
      let g := (off - 0x100) / 8
      n (if off % 8 = 0 then toCode 24 (laneOfs s (p - 0x22) g) else laneGain s (p - 0x22) g)
    else none

/-- Status of page `p` that shows state which the page's soft reset does not end, with the bits: it returns to its reset value with the page, and shows that state again from the
next boundary on (R52, DEDUCED, log entry 103). -/
def srstHides (p : Nat) : List (Nat × Nat) := match p with
  | 0x09 => [(0x044, 0x40)]
  | 0x0D => [(0x044, 0xFFFFFFFF)]
  | 0x10 => [(0x04C, 0xC1)]
  | 0x11 => [(0x070, 0x203)]
  | 0x2C => [(0x0A0, 0x1C0)]
  | 0x30 => [(0x058, 0x1F0001), (0x08C, 0xFFFFFFFF), (0x090, 0xFFFFFFFF)]
  | _ => if 0x31 ≤ p ∧ p ≤ 0x41 then [(0x040, 0x72)] else []

/-- The bits of the register at `off` of page `p` that read their reset value, in the tick after the page's soft reset. -/
def hidden (s : State) (p off : Nat) : Nat := if s.page.justReset.contains p then (aget (srstHides p) off).getD 0 else 0

/-- The word at the normal address of a register (R5, R66). -/
def normalWord (s : State) (p off : Nat) : Word :=
  if off < 0x40 then commonWord s p off else mergeMask ((derived s p off).getD (s.rd p off)) (resetWord p off) (hidden s p off)

/-- The word at the alias: the effective value of every RWS field, and the normal value of the others (R50). -/
def aliasWord (s : State) (p off : Nat) : Word := mergeMask (normalWord s p off) (s.rdE p off) (rwsMask p off)

end Sys2Proof.Machine
end

