-- ==== Sys2Proof/Machine/Session.lean ====
section
/-! DEFINITION. Leases, sessions and the OTP keys (chapter 08, R303–R308, R334–R346). -/

namespace Sys2Proof.Machine

/-! ### Leases -/

/-- An event of every page of a group. -/
def raiseGroup (g bit : Nat) (s : State) : State := (groupPages g).foldl (fun s p => s.raise (p, bit)) s

/-- The lease on group `g` ends: LEASE_END on every page of the group (R307). -/
def endLease (g : Nat) (s : State) : State :=
  if (aget s.page.leases g).isNone then s else raiseGroup g E.LEASE_END { s with page.leases := adel s.page.leases g }

/-- Every lease that `p` picks by its holder ends. -/
def endLeases (p : Nat → Bool) (s : State) : State :=
  (s.page.leases.filter fun e => p e.2.holder).foldl (fun s e => endLease e.1 s) s

/-- LEASE_EXPIRY: the remaining time of group `g`'s lease has reached 0 (R307). -/
def leaseExpiry (g : Nat) (s : State) : State := match aget s.page.leases g with
  | some l => if l.left = 0 then endLease g s else s
  | none => s

/-! ### Sessions (R334–R341) -/

/-- The session with `sid`: its slot and itself. -/
def sessionOf (s : State) (sid : Nat) : Option (Nat × Session) := s.acc.sessions.find? fun e => e.2.sid == sid

/-- A session or handshake ends; an open session's leases end with it (R340). -/
def endSession (slot : Nat) (s : State) : State := match aget s.acc.sessions slot with
  | some x =>
    let s := { s with acc.sessions := adel s.acc.sessions slot }
    if x.pending then s else (endLeases (· == x.sid) s).raise E.ACC_SESSION_END
  | none => s

/-- Every session that `p` picks ends. -/
def endSessions (p : Session → Bool) (s : State) : State :=
  (s.acc.sessions.filter fun e => p e.2).foldl (fun s e => endSession e.1 s) s

/-- AUTH_FAIL_MAX consecutive checks of the path of code `kind` have failed (R341). -/
def failsOut (s : State) (kind : Nat) : Bool := decide (max 1 (s.get F.ACC_CFG_AUTH_FAIL_MAX) ≤ (aget s.acc.fails kind).getD 0)

/-- The path of code `kind` is under authentication hold, from the failure that brings it on (R341). -/
def underHold (s : State) (kind : Nat) : Bool := (aget s.acc.holds kind).isSome || failsOut s kind

/-- A failed PROVE or MAC check (R341). -/
def authFailed (kind : Nat) (s : State) : State :=
  let n := (aget s.acc.fails kind).getD 0 + 1
  ({ s with acc.fails := aset s.acc.fails kind (satTo 255 n) }.bump F.ACC_CNT_AUTH_FAIL).raise E.ACC_AUTH_FAIL

/-- A passed one ends the run of failures. -/
def authPassed (kind : Nat) (s : State) : State := { s with acc.fails := adel s.acc.fails kind }

/-- AUTH_HOLD: AUTH_FAIL_MAX consecutive failures begin a hold of 60 s (R341). -/
def authHold (kind : Nat) (s : State) : State :=
  if !failsOut s kind ∨ (aget s.acc.holds kind).isSome then s
  else { s with acc.fails := adel s.acc.fails kind, acc.holds := aset s.acc.holds kind (60 * 28800) }.raise E.ACC_AUTH_HOLD

/-- AUTH_HOLD_EXPIRY. -/
def authHoldExpiry (kind : Nat) (s : State) : State :=
  if aget s.acc.holds kind = some 0 then { s with acc.holds := adel s.acc.holds kind } else s

/-- ID of R336. -/
def idBytes (s : State) : List Byte := natBytes 2 s.otp.devType ++ natBytes 3 s.otp.devId

/-- HMAC16 of R336. -/
def hmac16 (key m : List Byte) : List Byte := (hmac key m).take 16

/-- SK of R336. -/
def sessionKey (s : State) (k nh nd : List Byte) (sid : Nat) : List Byte :=
  hmac k ([0x59, 0x52, 0x41, 0x50] ++ nh ++ nd ++ [BitVec.ofNat 8 sid] ++ idBytes s)

/-- The next SID in turn that no session uses (R334). -/
def pickSid (s : State) : Nat → Nat → Nat
  | 0, n => n
  | k + 1, n => if (sessionOf s n).isSome then pickSid s k (if n = 254 then 1 else n + 1) else n

/-- REFUSE. -/
def refuseMsg (reason : Nat) : List Byte := [0x07, BitVec.ofNat 8 reason]

/-- A free session slot. -/
def freeSlot (s : State) : Option Nat := (List.range 4).find? fun k => (aget s.acc.sessions k).isNone

/-- HELLO (R335): a handshake opens, or is refused in the order of the reasons' codes (DEDUCED, log entry 110). -/
def hello (kind port : Nat) (peer : List Byte) (key : Nat) (nh : List Byte) (s : State) : State × List Byte :=
  let k := s.otp.keys.getD key {}
  match freeSlot s with
  | none => (s, refuseMsg 0x01)
  | some slot =>
    if !k.programmed || k.revoked then (s, refuseMsg 0x02)
    else if underHold s kind then (s, refuseMsg 0x03)
    else
      let sid := pickSid s 254 s.acc.nextSid
      let nd := tabulate 16 fun i => Config.freeByte (s.free + i)
      let x : Session := {
        sid, kind, pending := true, role := k.role, key, idle := 10 * 28800, nonceH := nh, nonceD := nd,
        sk := sessionKey s k.key nh nd sid, lastCtr := 0, peer, port }
      let s := { s with acc.sessions := aset s.acc.sessions slot x, acc.nextSid := if sid = 254 then 1 else sid + 1 }.fresh 16
      (s, [0x02, BitVec.ofNat 8 sid, BitVec.ofNat 8 k.role] ++ nd)

/-- A session is bound to a path and its peer (R338). -/
def boundTo (x : Session) (kind port : Nat) (peer : List Byte) : Bool := x.kind == kind && x.port == port && x.peer == peer

/-- PROVE (R335). -/
def prove (kind port : Nat) (peer : List Byte) (sid : Nat) (mac : List Byte) (s : State) : State × List Byte :=
  match sessionOf s sid with
  | some (slot, x) =>
    if underHold s kind then (s, refuseMsg 0x03)
    else if !x.pending || !boundTo x kind port peer then (s, refuseMsg 0x05)
    else if mac ≠ hmac16 x.sk ([0x03] ++ x.nonceD ++ idBytes s) then (authFailed kind s, refuseMsg 0x04)
    else
      let x' := { x with pending := false, idle := s.get F.ACC_SESS_SESS_IDLE_S * 28800 }
      let s := authPassed kind { s with acc.sessions := aset s.acc.sessions slot x' }
      ((s.bump F.ACC_CNT_AUTH_OPENED).raise E.ACC_SESSION_OPEN, [0x04, BitVec.ofNat 8 sid] ++ hmac16 x.sk ([0x04] ++ x.nonceH ++ idBytes s))
  | none => (s, refuseMsg (if underHold s kind then 0x03 else 0x05))

/-- CLOSE (R335, R337). -/
def closeSession (kind port : Nat) (peer : List Byte) (sid ctr : Nat) (mac : List Byte) (s : State) : State × List Byte :=
  match sessionOf s sid with
  | some (slot, x) =>
    if underHold s kind then (s, refuseMsg 0x03)
    else if x.pending || !boundTo x kind port peer then (s, refuseMsg 0x05)
    else if mac ≠ hmac16 x.sk ([0x05, BitVec.ofNat 8 sid] ++ natBytes 4 ctr) then (authFailed kind s, refuseMsg 0x04)
    else
      let s := authPassed kind s
      if ctr ≤ x.lastCtr then (s.bump F.ACC_CNT_AUTH_REPLAY, refuseMsg 0x05)
      else (endSession slot s, [0x06, BitVec.ofNat 8 sid])
  | none => (s, refuseMsg (if underHold s kind then 0x03 else 0x05))

/-- What kind of session message a body is: 1 HELLO, 3 PROVE, 5 CLOSE; 0 for no message that a host may send. -/
def sessionType (body : List Byte) : Nat := match body with
  | 0x01 :: t => if t.length = 17 then 1 else 0
  | 0x03 :: t => if t.length = 17 then 3 else 0
  | 0x05 :: t => if t.length = 21 then 5 else 0
  | _ => 0

/-- A session message is handled: the answer, none where the message is malformed. -/
def sessionMsg (kind port : Nat) (peer body : List Byte) (s : State) : State × Option (List Byte) :=
  let sid := (body.getD 1 0).toNat
  match sessionType body with
  | 1 => let r := hello kind port peer sid (body.drop 2) s; (r.1, some r.2)
  | 3 => let r := prove kind port peer sid (body.drop 2) s; (r.1, some r.2)
  | 5 => let r := closeSession kind port peer sid (bytesNat ((body.drop 2).take 4)) (body.drop 6) s; (r.1, some r.2)
  | _ => (s, none)

/-- CHALLENGE_TIMEOUT: a handshake's 10 s are over (R335). -/
def challengeTimeout (sid : Nat) (s : State) : State := match sessionOf s sid with
  | some (slot, x) => if x.pending && x.idle == 0 then endSession slot s else s
  | none => s

/-- SESSION_IDLE_TIMEOUT (R340). -/
def idleTimeout (sid : Nat) (s : State) : State := match sessionOf s sid with
  | some (slot, x) => if !x.pending && x.idle == 0 then endSession slot s else s
  | none => s

/-- What an authenticated request is checked for (orders 5–7 of R330): 0 passed, 8 HOLD, 3 AUTH, 4 REPLAY. -/
def checkAuthentic (kind port : Nat) (peer : List Byte) (sid ctr : Nat) (input mac : List Byte) (s : State) : State × Nat :=
  if underHold s kind then (s, 8) else
  match sessionOf s sid with
  | none => ((s.bump F.ACC_CNT_AUTH_FAIL).raise E.ACC_AUTH_FAIL, 3)
  | some (_, x) =>
    if x.pending || !boundTo x kind port peer then ((s.bump F.ACC_CNT_AUTH_FAIL).raise E.ACC_AUTH_FAIL, 3) else
    let inj := s.armedAt 0x18 1
    let s := if inj then s.disarm 0x18 1 else s
    if inj || mac != hmac16 x.sk input then (authFailed kind s, 3)
    else
      let s := authPassed kind s
      if ctr ≤ x.lastCtr then (s.bump F.ACC_CNT_AUTH_REPLAY, 4) else (s, 0)

/-- The request is accepted: CTR and idle time (R337, R340). -/
def acceptRequest (sid ctr : Nat) (s : State) : State := match sessionOf s sid with
  | some (slot, x) =>
    let x := { x with lastCtr := ctr, idle := s.get F.ACC_SESS_SESS_IDLE_S * 28800 }
    { s with acc.sessions := aset s.acc.sessions slot x }
  | none => s

/-- After CTR 0xFFFF_FFFF the session ends (R337). -/
def endExhausted (sid ctr : Nat) (s : State) : State := match sessionOf s sid with
  | some (slot, _) => if ctr = 0xFFFFFFFF then endSession slot s else s
  | none => s

/-- The times of leases, sessions and holds run on at a boundary. -/
def tickSessions (s : State) : State :=
  let u := tickUnits s
  let lease (e : Nat × Lease) : Nat × Lease := (e.1, { e.2 with left := e.2.left - u })
  let sess (e : Nat × Session) : Nat × Session := (e.1, { e.2 with idle := e.2.idle - u })
  let hold (e : Nat × Nat) : Nat × Nat := (e.1, e.2 - u)
  { s with
    page.leases := s.page.leases.map lease
    acc.sessions := s.acc.sessions.map sess
    acc.holds := s.acc.holds.map hold }

/-! ### Keys (R342, R345, R346) -/

/-- ACC_KEYDATA takes a word; a full buffer takes none. -/
def keyData (w : Word) (s : State) : State :=
  if s.acc.keyBuf.length < 16 then { s with acc.keyBuf := s.acc.keyBuf ++ [w] } else s

/-- LAST_ERR. -/
def keyErr (n : Nat) (s : State) : State := s.put F.ACC_KEYSTAT_LAST_ERR n

/-- A key command has changed the OTP. -/
def keyChanged (s : State) : State := (keyErr 0 s).raise E.ACC_KEY_CHANGE

/-- PROG_K of a slot with a role. -/
def progK (slot role : Nat) (s : State) : State :=
  let ws := s.acc.keyBuf
  let s := { s with acc.keyBuf := [] }
  let k := s.otp.keys.getD slot {}
  if k.programmed then keyErr 1 s
  else if ws.length ≠ 8 then keyErr 2 s
  else keyChanged { s with otp.keys := s.otp.keys.set slot { k with programmed := true, role, key := wordsBytes ws } }

/-- PROG_MK; there are two slots (DEDUCED, log entry 111). -/
def progMk (slot : Nat) (s : State) : State :=
  let ws := s.acc.keyBuf
  let s := { s with acc.keyBuf := [] }
  let k := s.otp.mkeys.getD slot {}
  if 2 ≤ slot then s
  else if k.programmed then keyErr 1 s
  else if ws.length ≠ 16 then keyErr 2 s
  else keyChanged { s with otp.mkeys := s.otp.mkeys.set slot { k with programmed := true, key := wordsBytes ws } }

/-- REVOKE_K: the sessions on the key end at once (R340). -/
def revokeK (slot : Nat) (s : State) : State :=
  let k := s.otp.keys.getD slot {}
  if !k.programmed then keyErr 3 s
  else endSessions (fun x => x.key == slot) (keyChanged { s with otp.keys := s.otp.keys.set slot { k with revoked := true } })

/-- REVOKE_MK. -/
def revokeMk (slot : Nat) (s : State) : State :=
  let k := s.otp.mkeys.getD slot {}
  if 2 ≤ slot then s
  else if !k.programmed then keyErr 3 s
  else keyChanged { s with otp.mkeys := s.otp.mkeys.set slot { k with revoked := true } }

/-- CLEAR. -/
def keyClear (s : State) : State := keyErr 0 { s with acc.keyBuf := [] }

/-- A write of ACC_KEYCMD. -/
def keyCmd (w : Word) (s : State) : State :=
  let slot := getBits w 2 0
  match getBits w 31 24 with
  | 1 => progK slot (getBits w 5 4) s
  | 2 => progMk slot s
  | 3 => revokeK slot s
  | 4 => revokeMk slot s
  | 5 => keyClear s
  | _ => s

/-- The ACC validator: ADDR looks at the addresses that are enabled (DEDUCED, log entry 112). -/
def checkAcc (s : State) : Option Nat :=
  let n := s.getS F.ACC_SESS_NOTIFY_MS
  let i := s.getS F.ACC_SESS_SESS_IDLE_S
  let pfx := s.getS F.ACC_IP6_PFX_LEN
  let a6 := (List.range 4).foldl (fun a k => a * 2 ^ 32 + s.getS (F.ACC_IP6_A k)) 0
  let a4 := s.getS F.ACC_IP4_A
  let bad6 := a6 == 0 || a6 / 2 ^ 120 == 0xFF || a6 / 2 ^ 118 == 0xFE80 / 64
  let bad4 := (decide (0xE0000000 ≤ a4) && decide (a4 < 0xF0000000)) || a4 == 0xFFFFFFFF || a4 / 2 ^ 16 == 0xA9FE
  if s.getS F.ACC_CFG_PORT < 1024 ∨ s.getS F.ACC_CFG_AUTH_FAIL_MAX = 0 ∨ n < 10 ∨ 1000 < n ∨ i < 10 ∨ 3600 < i ∨ pfx = 0 ∨ 128 < pfx then some 0x01
  else if (s.getS F.ACC_CFG_IP6_CFG_EN == 1 && bad6) || (a4 != 0 && bad4) then some 0x02
  else none

end Sys2Proof.Machine
end

