-- ==== Sys2Proof/Machine/Store.lean ====
section
/-! DEFINITION. The commands of the NVM and MEM pages, the completion of chunks, configuration and system records (chapter 18), and the
checks of model images (R344). -/

namespace Sys2Proof.Machine

/-! ### Results (R657) -/

/-- A command has ended. -/
def nvmDone (op result : Nat) (s : State) : State :=
  (((s.put F.NVM_CSTAT_OP op).put F.NVM_CSTAT_RESULT result).putB F.NVM_CSTAT_BUSY false).raise E.NVM_CMD_DONE

/-- A command that changes nothing ends with its result at once; one that was refused as BUSY leaves BUSY of the running one. -/
def nvmRefused (op result : Nat) (s : State) : State :=
  ((s.put F.NVM_CSTAT_OP op).put F.NVM_CSTAT_RESULT result).raise E.NVM_CMD_DONE

/-- A command is queued or running. -/
def nvmBusy (s : State) : Bool := s.flag F.NVM_CSTAT_BUSY

/-- A command is accepted and runs. -/
def nvmRuns (op : Nat) (s : State) : State := ((s.put F.NVM_CSTAT_OP op).put F.NVM_CSTAT_RESULT 0).putB F.NVM_CSTAT_BUSY true

/-! ### MODEL_WRITE and PATCH_WRITE (R656, R658) -/

/-- The source's bytes: none where they are not wholly in powered banks or one is uncorrectable. -/
def sourceBytes (a n : Nat) (s : State) : State × Option (List Byte) :=
  let lo := a / 4 * 4
  let hi := (a + n + 3) / 4 * 4
  if !inPoweredSram s a n then (s, none) else
  match memReads ((hi - lo) / 4) lo s with
  | (s, some ws) => (s, some (((wordsBytes ws).drop (a - lo)).take n))
  | (s, none) => (s, none)

/-- MODEL_WRITE at offset 0: the slot is no longer valid or sound (R658). -/
def clearSlot (slot : Nat) (s : State) : State :=
  let w := (s.rd 0x30 0x090).toNat
  imageChanged slot true (s.wr 0x30 0x090 (BitVec.ofNat 32 (setBitTo (setBitTo w slot false) (4 + slot) false)))

/-- The chunk that writes zero over HW0 of a head copy and leaves the rest of its 128-bit word (R654, R658). -/
def zeroHead (slot copy : Nat) (s : State) : NvmChunk :=
  { kind := 6, addr := headBase slot copy, bytes := List.replicate 4 0 ++ s.bytesAt (headBase slot copy + 4) 12, tag := .plain }

/-- MODEL_WRITE (`op` 1, of slot `slot`) and PATCH_WRITE (`op` 3). -/
def chunkCmd (op slot : Nat) (s : State) : State :=
  let p := if op = 1 then 3 + slot else 0
  let ofs := s.get F.NVM_OFS_OFS
  let n := s.get F.NVM_LEN_LEN
  if nvmBusy s then nvmRefused op 1 s
  else if n < 16 ∨ 4096 < n ∨ n % 16 ≠ 0 ∨ ofs % 16 ≠ 0 ∨ (partBase p).2 < ofs + n then nvmRefused op 2 s
  else match sourceBytes (s.get F.NVM_SRC_SRC) n s with
    | (s, none) => nvmRefused op 3 s
    | (s, some bs) =>
      if op = 1 ∧ slot = s.get F.ARR_CFG_SLOT then nvmRefused op 4 s else
      let s := nvmRuns op s
      let s := if op = 1 ∧ ofs = 0 then enqueue [zeroHead slot 1 s, zeroHead slot 2 s] (clearSlot slot s) else s
      enqueue [{ kind := 6, addr := (partBase p).1 + ofs, bytes := bs, tag := .cmd op }] s

/-! ### MODEL_CHECK and PATCH_CHECK (R343, R344, R454) -/

/-- A model image is valid (R344); the link processor reads it under ECC. -/
def imageValid (slot : Nat) (s : State) : State × Bool :=
  let n := imageLen s slot
  if n < 0x40 + 32 + 68 ∨ 0x100000 < n then (s, false) else
  let (s, bs, ok) := ownRead (imageBase slot) ((n + 15) / 16 * 16) s
  let k := s.otp.mkeys.getD (imageWordN s slot 0 % 2) {}
  let crc := BitVec.ofNat 32 (bytesNat ((bs.drop (n - 68)).take 4))
  (s, ok && getBits (BitVec.ofNat 32 (bytesNat (bs.take 4))) 31 16 == 0x4D44 && crc32c (bs.take (n - 68)) == crc && k.programmed && !k.revoked
    && ecdsaOk k.key ((bs.drop (n - 64)).take 64) (bs.take (n - 64)))

/-- ARR_MVALID takes the results of a check of slot `slot`. -/
def checkImage (slot : Nat) (s : State) : State :=
  let (s, v) := imageValid slot s
  let snd := imageSound s slot
  let w := setBitTo (setBitTo (s.rd 0x30 0x090).toNat slot v) (4 + slot) snd
  imageChanged slot false (s.wr 0x30 0x090 (BitVec.ofNat 32 w))

/-- MODEL_CHECK (`op` 2) and PATCH_CHECK (`op` 4) begin. -/
def checkCmd (op slot : Nat) (s : State) : State :=
  if nvmBusy s then nvmRefused op 1 s else { nvmRuns op s with nvm.checking := some (op, slot) }

/-- The patch of `n` bytes in PATCH is sound (R343): its CRC-32C and its signature, which lie at its end as a model image's do (PRESUMED, log entry 85). -/
def patchSound (n : Nat) (s : State) : State × Bool :=
  if n < 68 ∨ (partBase 0).2 < n then (s, false) else
  let (s, bs, ok) := ownRead (partBase 0).1 ((n + 15) / 16 * 16) s
  let crc := BitVec.ofNat 32 (bytesNat ((bs.drop (n - 68)).take 4))
  (s, ok && crc32c (bs.take (n - 68)) == crc && ecdsaOk s.otp.patchKey ((bs.drop (n - 64)).take 64) (bs.take (n - 64)))

/-- A patch of version `ver` and `n` bytes is accepted, and raises ACC_PATCHVER (R343); the counter has 64 bits (R342). -/
def takePatch (ver n : Nat) (s : State) : State := match patchSound n s with
  | (s, true) => if ver < s.otp.patchVer ∨ 64 < ver then s else { s with otp.patchVer := ver, boot.patchWait := true }
  | (s, false) => s

/-- CMD_DONE: the check has finished. Where a patch keeps its version and its length is not in the spec: `patch` gives them (DESIGN CHOICE, log entry 85). -/
def checkEnd (patch : Option (Nat × Nat)) (s : State) : State := match s.nvm.checking with
  | some (2, slot) => nvmDone 2 0 (checkImage slot { s with nvm.checking := none })
  | some (op, _) =>
    let s := { s with nvm.checking := none }
    nvmDone op 0 (match patch with
      | some (v, n) => takePatch v n s
      | none => s)
  | none => s

/-! ### Configuration records (R659–R664) -/

/-- The first byte and the words of a configuration copy: 1 = A, 2 = B. -/
def cfgWord (s : State) (c i : Nat) : Word := s.wordAt (copyBase c + 4 * i)

/-- The sections of a record: pairs of address and value, and plan words. -/
structure CfgRec where
  seq : Nat
  pairs : List (Nat × Word)
  plan : Option (List Word)
  deriving DecidableEq, Repr

/-- Words in pairs. -/
def pairUp : List Word → List (Nat × Word)
  | a :: b :: t => (a.toNat, b) :: pairUp t
  | _ => []

/-- A TYPE 1 address is a register word of this release with an RWS field. -/
def cfgAddr (a : Nat) : Bool :=
  decide (0x40000000 ≤ a) && decide (a < 0x40020000) && a % 4 == 0 && (pageEnt ((a - 0x40000000) / 0x400)).isSome
    && rwsMask ((a - 0x40000000) / 0x400) ((a - 0x40000000) % 0x400) != 0

/-- Sections read from words: what follows them, or none where one does not fit or is of no known type. -/
def sections : Nat → List Word → CfgRec → Option (CfgRec × List Word)
  | 0, ws, r => some (r, ws)
  | n + 1, s0 :: s1 :: ws, r =>
    let k := getBits s0 23 0
    match getBits s0 31 24 with
    | 1 => if s1 ≠ 0 ∨ ws.length < 2 * k then none else
        let ps := pairUp (ws.take (2 * k))
        if ps.all fun x => cfgAddr x.1 then sections n (ws.drop (2 * k)) { r with pairs := r.pairs ++ ps } else none
    | 2 => if s1 ≠ 0 ∨ k ≠ 1536 ∨ ws.length < k then none else sections n (ws.drop k) { r with plan := some (ws.take k) }
    | _ => none
  | _, _, _ => none

/-- The record of copy `c`, where it is valid (R661). The sections fit exactly when only zero padding of less than 16 bytes follows them. -/
def readCfg (c : Nat) (s : State) : State × Option CfgRec :=
  let c0 := cfgWord s c 0
  let len := (cfgWord s c 2).toNat
  if getBits c0 31 8 ≠ 0x434601 ∨ len < 48 ∨ 0x7800 < len ∨ len % 16 ≠ 0 then (s, none) else
  let (s, bs, ok) := ownRead (copyBase c) len s
  let ws := bytesWords bs
  let n := getBits (ws.getD 0 0) 7 0
  if !ok ∨ crc32c (bs.take (len - 4)) ≠ ws.getD (len / 4 - 1) 0 ∨ n = 0 ∨ 2 < n then (s, none) else
  match sections n ((ws.drop 4).take (len / 4 - 5)) ⟨(ws.getD 1 0).toNat, [], none⟩ with
  | some (r, rest) => (s, if rest.length < 4 && rest.all (· == 0) then some r else none)
  | none => (s, none)

/-- SEQ of a copy where it is valid. -/
def cfgSeq (c : Nat) (s : State) : Option Nat := (readCfg c s).2.map (·.seq)

/-- The highest valid SEQ. -/
def topSeq (s : State) : Nat := max ((cfgSeq 1 s).getD 0) ((cfgSeq 2 s).getD 0)

/-- SAVE_CONFIG waits for the boundary (R657, R660). -/
def saveConfig (s : State) : State :=
  if nvmBusy s then nvmRefused 5 1 s
  else if topSeq s = 0xFFFFFFFF then nvmRefused 5 5 s
  else { nvmRuns 5 s with nvm.savePend := true }

/-- The pairs of a save: the effective values, and for unpowered pages those of the record in force or the reset values. -/
def savePairs (inForce : Option CfgRec) (s : State) : List (Nat × Word) :=
  allPages.flatMap fun p => (rwsOffsets p).map fun o =>
    let a := 0x40000000 + p * 0x400 + o
    let mask := BitVec.ofNat 32 (rwsMask p o)
    let v := if pageOn s p then s.rdE p o &&& mask
      else match inForce.bind fun r => r.pairs.find? fun x => x.1 == a with
        | some x => x.2
        | none => resetWord p o &&& mask
    (a, v)

/-- The record of a save as bytes. An injection flips one bit of its CRC word. -/
def cfgBytes (seq : Nat) (flip : Bool) (pairs : List (Nat × Word)) (plan : List Word) : List Byte :=
  let body := [BitVec.ofNat 32 (0x01000000 + pairs.length), 0] ++ pairs.flatMap (fun x => [BitVec.ofNat 32 x.1, x.2])
    ++ [BitVec.ofNat 32 (0x02000000 + 1536), 0] ++ plan
  let len := (4 * body.length + 20 + 15) / 16 * 16
  let ws := [0x43460102, BitVec.ofNat 32 seq, BitVec.ofNat 32 len, 0] ++ body
  let bs := wordsBytes (ws ++ List.replicate (len / 4 - 1 - ws.length) 0)
  let crc := crc32c bs
  bs ++ bytesOfWord (if flip then crc ^^^ 1 else crc)

/-- The boundary at which SAVE_CONFIG takes its values (R660). -/
def saveBoundary (s : State) : State :=
  if !s.nvm.savePend then s else
  let s := { s with nvm.savePend := false }
  let (s, a) := readCfg 1 s
  let (s, b) := readCfg 2 s
  let copy := match a, b with
    | none, _ => 1
    | _, none => 2
    | some x, some y => if y.seq < x.seq then 2 else 1
  let top := max ((a.map (·.seq)).getD 0) ((b.map (·.seq)).getD 0)
  let inForce := match s.get F.NVM_CONF_COPY with
    | 1 => a
    | 2 => b
    | _ => none
  let bank := planBank s (s.get F.PLAN_CTRL_BANK)
  let flip := s.armedAt 0x0C 2
  let s := if flip then s.disarm 0x0C 2 else s
  let bs := cfgBytes (top + 1) flip (savePairs inForce s) (tabulate 1536 (bankWord bank))
  enqueue (recordChunks 2 (copyBase copy) (.cfgZero copy) (.cfgLast copy (top + 1)) bs) s

/-- NVM_CONF's valid bit of a copy. -/
def cfgValidF (c : Nat) : Fld := if c = 1 then F.NVM_CONF_A_VALID else F.NVM_CONF_B_VALID

/-- The last chunk of a save has been written: a valid copy is in force, and the command ends (R660, R661). -/
def cfgWritten (c : Nat) (s : State) : State :=
  let (s, r) := readCfg c s
  let s := s.putB (cfgValidF c) r.isSome
  let s := match r with
    | some x => (s.put F.NVM_CONF_COPY c).put F.NVM_CSEQ_SEQ x.seq
    | none => s
  nvmDone 5 0 (addPass c s)

/-! ### RETIRE_ARCH (R667) -/

/-- RETIRE_ARCH. -/
def retireCmd (s : State) : State :=
  if nvmBusy s then nvmRefused 6 1 s
  else if s.flag F.NVM_STAT_ARCH_RETIRED then nvmRefused 6 6 s
  else
    let s := if archBusy s then { s with nvm.archPend := true } else retireArchive s
    nvmDone 6 0 s

/-- A write of NVM_CMD; an OP that the spec does not name does nothing (DEDUCED, log entry 86). -/
def nvmCmd (w : Word) (s : State) : State :=
  let slot := getBits w 0 0
  match getBits w 31 24 with
  | 1 => chunkCmd 1 slot s
  | 2 => checkCmd 2 slot s
  | 3 => chunkCmd 3 slot s
  | 4 => checkCmd 4 slot s
  | 5 => saveConfig s
  | 6 => retireCmd s
  | _ => s

/-! ### NVM_CHUNK_COMPLETE -/

/-- What the completion of a chunk brings about; `torn` says that an injection ended it as a power failure would. -/
def chunkEffect (c : NvmChunk) (torn : Bool) (s : State) : State := match c.tag with
  | .plain => s
  | .sysLast => s
  | .cfgZero k => s.putB (cfgValidF k) false
  | .cfgLast k _ => cfgWritten k s
  | .sealLast _ _ _ => { s with learn.written := true }
  | .alm i _ _ => almWritten i s
  | .arch _ => if torn then archTorn s else archDone false s
  | .archLast _ => if torn then archTorn s else archDone true s
  | .cmd op =>
    let p := partOf c.addr
    let s := if c.addr = (partBase p).1 then addPass p s else s
    let s := if op = 1 then imageChanged (p - 3) true s else s
    nvmDone op 0 s

/-- The injection that ends a chunk as a power failure would (R449, R669, R691): NVM point 0x01 any chunk, ALM point 0x01 one of a commit, REC point 0x02 one
of an archive entry. -/
def tornBy (c : NvmChunk) (s : State) : Option (Nat × Nat) :=
  if s.armedAt 0x0C 1 then some (0x0C, 1)
  else if c.kind = 4 ∧ s.armedAt 0x0B 1 then some (0x0B, 1)
  else if c.kind = 5 ∧ s.armedAt 0x2C 2 then some (0x2C, 2)
  else none

/-- NVM_CHUNK_COMPLETE. -/
def chunkComplete (s : State) : State := match s.nvm.writing with
  | none => s
  | some c =>
    let s := { s with nvm.writing := none }
    match tornBy c s with
    | some (p, pt) => showQueue (chunkEffect c true (tearChunk c (s.disarm p pt)))
    | none => showQueue (chunkEffect c false (storeChunk c s))

/-! ### MEM_CMD CLEAR_WORD (R649, R656) -/

/-- CLEAR_WORD: zero data with valid check bits in the enclosing word of MEM_CMDADDR, where it is in SRAM that serves, the cell window, or retention RAM. -/
def clearWord (s : State) : State :=
  let a := s.get F.MEM_CMDADDR_ADDR
  let k := eccKey a
  if 0x20000000 ≤ a ∧ a < 0x20400000 then
    if bankOff s (bankOf a) then s else
    let s := { s.setBytes k (List.replicate 8 0) with ecc := adel s.ecc k }
    if eccKey (s.get F.MEM_UNCORR_ADDR_ADDR) = k then { s with nvm.memLive := false } else s
  else if 0x38000000 ≤ a ∧ a < 0x38004000 then
    let s := { s.setBytes k (List.replicate 4 0) with ecc := adel s.ecc k }
    if eccKey (s.get F.MEM_UNCORR_ADDR_ADDR) = k then { s with nvm.memLive := false } else s
  else if 0x30000000 ≤ a ∧ a < 0x30008000 then
    let c := s.get F.MEM_WIN_CELL
    let o := (a - 0x30000000) / 8 * 8
    if !domOn s .arr ∨ roleOf s c ≠ 0 ∨ s.get (F.CELL_STAT_BUSY c) = 1 then s else
    { (s.setCellWord c o 0).setCellWord c (o + 4) 0 with ecc := adel s.ecc (cellEccKey c o) }
  else s

/-- The validators of NVM and MEM. -/
def checkNvm (s : State) : Option Nat :=
  let v := s.getS F.NVM_CFG_WEAR_RETIRE
  if v < 1000000 ∨ 200000000 < v then some 0x01 else none

def checkMem (s : State) : Option Nat := if 16 < s.getS F.MEM_WIN_CELL then some 0x01 else none

/-! ### The records at start-up (R662, R665) -/

/-- The system record of copy `c` where it is valid: its words. -/
def readSys (c : Nat) (s : State) : State × Option (List Word) :=
  let (s, bs, ok) := ownRead (copyBase c + 0x7800) 80 s
  let ws := (bytesWords bs).take 17
  (s, if ok && getBits (ws.getD 0 0) 31 8 == 0x535901 && crcWords (ws.take 16) == ws.getD 16 0 then some ws else none)

/-- CONFIG_LOST, raised once in a start-up (R663, R665). -/
def configLost (s : State) : State := if s.boot.cfgLost then s else faultEvent 0x62 0 { s with boot.cfgLost := true }

/-- The system record is loaded: retired cells, ARCHIVE's retirement, wear. -/
def loadSystem (s : State) : State :=
  let (s, a) := readSys 1 s
  let (s, b) := readSys 2 s
  let seq (r : Option (List Word)) : Nat := match r with
    | some ws => (ws.getD 1 0).toNat + 1
    | none => 0
  let (copy, r) := if seq b ≤ seq a then (1, a) else (2, b)
  match r with
  | none => configLost { s with nvm.sysSeq := 0, nvm.sysCopy := 0 }
  | some ws =>
    let s := { s with nvm.sysSeq := (ws.getD 1 0).toNat, nvm.sysCopy := copy }
    let ret := (ws.getD 2 0).toNat % 2 ^ 17
    let cause (c : Nat) : Nat := (ws.getD (3 + c / 8) 0).toNat / 2 ^ (28 - 4 * (c % 8)) % 16
    let s := (s.put F.ARR_RETIRED_BITS ret).putB F.ARR_STAT_SPARES (ret == 0)
    let s := (List.range 17).foldl (fun s c => if bitOf ret c then s.put (F.CELL_STAT_ROLE c) 3 else s) s
    let s := (List.range 17).foldl (fun s c => s.put (F.CELL_RET_CAUSE c) (cause c)) s
    let arch := bitOf (ws.getD 8 0).toNat 0
    let s := (s.putB F.NVM_STAT_ARCH_RETIRED arch).putB F.REC_STAT_RETIRED arch
    let s : State := (List.range 7).foldl (fun s p => s.put (F.NVM_WEAR_PASSES p) (ws.getD (9 + p) 0).toNat) s
    let worn := (List.range 7).filter fun p => decide (s.get F.NVM_CFG_WEAR_RETIRE ≤ s.get (F.NVM_WEAR_PASSES p))
    { s with alm.worn := worn }.put F.NVM_STAT_WORN (worn.foldl (fun a p => a + 2 ^ p) 0)

/-- A value of the load is written to the shadow of its register. -/
def loadPair (s : State) (x : Nat × Word) : State :=
  let p := (x.1 - 0x40000000) / 0x400
  let o := (x.1 - 0x40000000) % 0x400
  if pageOn s p then s.wr p o (mergeMask (s.rd p o) x.2 (rwsMask p o)) else s

/-- CONFIG_LOAD (R662, R663): the shadows take the values of the record, and a commit of every page is requested. -/
def configLoad (s : State) : State :=
  if !s.flag F.SYS_BSTAT_ROM_OK ∨ s.boot.loadPend ∨ s.boot.loadDone ∨ s.get F.SYS_STRAP_BOOTSEL = 1 then s else
  let (s, a) := readCfg 1 s
  let (s, b) := readCfg 2 s
  let s := (s.putB F.NVM_CONF_A_VALID a.isSome).putB F.NVM_CONF_B_VALID b.isSome
  let pick : Option (Nat × CfgRec) := match a, b with
    | some x, some y => if x.seq < y.seq then some (2, y) else some (1, x)
    | some x, none => some (1, x)
    | none, some y => some (2, y)
    | none, none => none
  let add := allPages.filter fun p => !s.page.commitPend.contains p && pageOn s p
  let s := match pick with
    | some (c, r) =>
      let s := r.pairs.foldl loadPair ((s.put F.NVM_CONF_COPY c).put F.NVM_CSEQ_SEQ r.seq)
      let s := { s with page.commitPend := s.page.commitPend ++ add }
      match r.plan with
      | some ws => ((List.range 1536).foldl (fun s i => setBankWord 1 i (ws.getD i 0) s) s).putS F.PLAN_CTRL_BANK 1
      | none => s
    | none => configLost (s.put F.NVM_CONF_COPY 0)
  { s with boot.loadPend := true }

end Sys2Proof.Machine
end

