-- ==== Sys2Proof/Machine/Access.lean ====
section
/-! DEFINITION. Register and memory accesses: the checks of R35 and R293, reads and writes, what a write of each command field does, leases, and the contention
of paths at a boundary (chapters 02 and 08). -/

namespace Sys2Proof.Machine

/-! ### Paths (R290–R292, R297–R301) -/

/-- The session that a path names. -/
def pathSid (p : Path) : Nat := match p with
  | .yrap sid => sid
  | .fsk _ sid => sid
  | _ => 0

/-- A path as a sender: KEYS, SPI, each FSK master, each YRAP session. -/
def senderId (p : Path) : Nat := match p with
  | .keys => 0
  | .spi => 1
  | .fsk sec _ => 2 + b2n sec
  | .fskU sec => 2 + b2n sec
  | .yrap sid => 4 + sid

/-- The rank of a write to group `g` (R290, R306). -/
def pathRank (s : State) (g : Nat) (p : Path) : Nat := match p with
  | .keys => 2
  | .spi => 3
  | .fsk sec _ => 5 + b2n sec
  | .fskU sec => 5 + b2n sec
  | .yrap sid => match aget s.page.leases g with
    | some l => if l.holder = sid ∧ sid ≠ 0 then 4 else 7
    | none => 7

/-- The path holds role `need`; KEYS and universal writes are not asked (R300). -/
def roleOk (s : State) (p : Path) (need : Nat) : Bool :=
  let ofSession (sid : Nat) : Bool := match sessionOf s sid with
    | some (_, x) => !x.pending && decide (need ≤ x.role)
    | none => false
  match p with
  | .keys => true
  | .fskU _ => true
  | .spi => decide (need ≤ s.get F.SPI_CFG_SPI_ROLE)
  | .yrap sid => ofSession sid
  | .fsk _ sid => ofSession sid

/-- The write role of a group (R298). -/
def groupRole (g : Nat) : Nat := if g = 2 ∨ g = 6 then 1 else if g = 4 then 3 else 2

/-- A write of `w` that its chapter marks MAINTAIN (R299, R478, R521, R607, R656, R690, R737). -/
def needsMaintain (p off : Nat) (w : Word) : Bool :=
  let op := getBits w 31 24
  off == 0x01C || (p == 0x01 && off == 0x048) || (p == 0x07 && off == 0x054) || (p == 0x0B && off == 0x054 && op == 3)
    || (p == 0x0C && off == 0x044 && (op == 3 || op == 4 || op == 6)) || (p == 0x30 && off == 0x074) || (p == 0x43 && off == 0x068 && op == 4)

/-- The path may make this kind of write (R304, R346, R705). -/
def kindOk (s : State) (path : Path) (p off : Nat) (w : Word) : Bool :=
  let op := getBits w 31 24
  let spi := path == .spi
  let leaser := match path with
    | .spi => true
    | .yrap _ => true
    | _ => false
  if off = 0x024 then leaser
  else if p = 0x18 ∧ off = 0x09C ∧ (op = 1 ∨ op = 2) then spi && s.flag F.SYS_STRAP_BOOTSEL
  else if p = 0x48 ∧ off = 0x078 ∧ op = 1 then spi
  else true

/-! ### The checks (R35, R293) -/

/-- The bits of a register that a write may change. -/
def writable (e : RegEnt) : Nat := e.rws ||| e.rw ||| e.w1c ||| e.wo

/-- A page's write lock covers the register at `off` (R55). -/
def lockCovers (s : State) (p off : Nat) : Bool :=
  s.locks.contains p && !(off == 0x018 || off == 0x020 || off == 0x024)

/-- A path of rank 4–7. -/
def remote (p : Path) : Bool := match p with
  | .keys => false
  | .spi => false
  | _ => true

/-- OWNED (R305, R306): a lease binds the path, or another holder's lease stands against one that is to be taken. -/
def ownedBy (s : State) (path : Path) (p off : Nat) (w : Word) : Bool := match leaseOf s p with
  | none => false
  | some l =>
    let mine := match path with
      | .spi => l.holder == 0xFF
      | .yrap sid => l.holder == sid
      | _ => false
    let take := off == 0x024 && decide (1 ≤ getBits w 11 0) && decide (getBits w 11 0 ≤ 3600)
    (remote path && !mine) || (take && !mine)

/-- Checks 8–11 of R293 for a register write: the outcome. -/
def ownChecks (path : Path) (p off : Nat) (w : Word) (rws : Bool) (s : State) : State × Nat :=
  let need := if needsMaintain p off w then 3 else groupRole (pageGroup p)
  let inj := rws && s.armedAt 0x18 2
  if !roleOk s path need || !kindOk s path p off w then (s, 0x09)
  else if s.flag F.KEYS_STAT_LOCK && remote path then (s, 0x0A)
  else if ownedBy s path p off w then ((s.bump F.ACC_CNT_ACC_OWNED).raise E.ACC_OWNED_REFUSED, 0x0B)
  else if inj then (s.disarm 0x18 2, 0x0C)
  else if rws && decide (256 ≤ s.page.journal.length) then (s, 0x0C)
  else (s, 0)

/-- Checks 8–10 for a memory write; memories belong to no group. -/
def memChecks (path : Path) (a : Nat) (s : State) : Nat :=
  let need := if 0x38003F00 ≤ a ∧ a < 0x38004000 then 3 else 2
  if !roleOk s path need then 0x09 else if s.flag F.KEYS_STAT_LOCK && remote path then 0x0A else 0

/-! ### What a write does -/

/-- A write of PG_FLT_INJ (R62, R65, R802). -/
def injWrite (p : Nat) (w : Word) (s : State) : State :=
  if !bitOf w.toNat 16 then s.wr p 0x01C (w &&& 0xFFFF) else
  let pt := getBits w 7 0
  if (aget s.page.inj p).isSome ∨ pt = 0 ∨ injPoints p < pt then s else
  { s.wr p 0x01C (w &&& 0xFFFF) with page.inj := aset s.page.inj p (pt, max 1 (getBits w 15 8)) }

/-- A write of `path` to page `p` at rank 4 raises its rank in the page's group for the whole tick (R292). -/
def noteOwner (path : Path) (p : Nat) (s : State) : State :=
  let x := (pageGroup p, pathSid path)
  if pathRank s (pageGroup p) path = 4 ∧ !s.page.owners.contains x then { s with page.owners := x :: s.page.owners } else s

/-- What R292 and R313 note of a register write that has ended OK, before it acts; `kind` is 2 for PG_COMMIT.GO, 1 for an RWS field, 0 for any other. -/
def noteWrite (path : Path) (p off : Nat) (e : RegEnt) (w : Word) (s : State) : State :=
  let s := noteOwner path p s
  let kind := if off = 0x020 ∧ bitOf w.toNat 0 then 2 else if e.rws ≠ 0 then 1 else 0
  if p = 0x11 then { s with page.ldacOrd := s.page.ldacOrd ++ [(path, off, kind)] } else s

/-- A write of LEASE_S that has passed its checks (R303); a session that takes the lease ranks 4 for the whole tick (R292). -/
def leaseWrite (path : Path) (p : Nat) (w : Word) (s : State) : State :=
  let n := getBits w 11 0
  let g := pageGroup p
  if n = 0 then endLease g s
  else if 3600 < n then s
  else
    let holder := match path with
      | .spi => 0xFF
      | _ => pathSid path
    noteOwner path p { s with page.leases := aset s.page.leases g ⟨holder, n * 28800⟩ }

/-- A commit requested while the blocks are being asked to quiesce: where its page's block has still to answer, which the spec does not fix to an instant, it refuses, and
the entry is unwound (R51, R564, R566; a free choice, DEDUCED, log entry 100). -/
def goWhileAsked (p : Nat) (s : State) : State := match s.slp.down with
  | some t =>
    if !s.slp.asking then s
    else if Config.freeBool s.free then sleepRefused t (blockOf p) 1 { s.fresh with slp.down := none, slp.asking := false }
    else s.fresh
  | none => s

/-- A commit of page `p` is requested (R42). -/
def requestCommit (p : Nat) (s : State) : State :=
  let s := if gen s = 0 ∧ !s.page.early.contains p then { s with page.early := p :: s.page.early } else s
  goWhileAsked p (if s.page.commitPend.contains p then s else { s with page.commitPend := s.page.commitPend ++ [p] })

/-- A soft reset of page `p` is requested (R52, R53). -/
def requestSrst (p : Nat) (s : State) : State :=
  if State.capBit p 29 || s.page.srstPend.contains p then s else { s with page.srstPend := s.page.srstPend ++ [p] }

/-- A page is locked (R54). -/
def lockPage (p : Nat) (s : State) : State := if s.locks.contains p then s else { s with locks := p :: s.locks }

/-- After an order to LDAC the budget follows the target that is then pending (R16). -/
def noteLdac (p : Nat) (s : State) : State := if p = 0x11 then updateBudget s else s

/-- An RWS write is noted in the journal (R309, R315). -/
def journalWrite (path : Path) (p off : Nat) (old new : Word) (s : State) : State :=
  noteLdac p { s with page.journal := s.page.journal ++ [⟨path, pathRank s (pageGroup p) path, p, off, old, new⟩] }

/-- SPI_CFG: a write that would raise SPI_ROLE leaves it unchanged (R301). -/
def spiCfg (w : Word) (s : State) : State :=
  let r := min (getBits w 9 8) (s.get F.SPI_CFG_SPI_ROLE)
  let r := if s.get F.SPI_CFG_SPI_ROLE < getBits w 9 8 then s.get F.SPI_CFG_SPI_ROLE else r
  (s.put F.SPI_CFG_SPI_ROLE r).put F.SPI_CFG_IRQ_EN (getBits w 0 0)

/-- A write of MEM_CMD. -/
def memCmd (w : Word) (s : State) : State := if getBits w 31 24 = 1 then clearWord s else s

/-- A write of PRUNE_CMD waits for the boundary (R521). -/
def pruneWrite (w : Word) (s : State) : State := { s with learn.cmds := s.learn.cmds ++ [(getBits w 31 24, getBits w 0 0)] }

/-- A write of KEYS_CMD: UNLOCK and REBASE (R700, R705). -/
def keysCmd (w : Word) (s : State) : State := match getBits w 31 24 with
  | 1 => setLock false s
  | 2 => rebaseKeys s
  | _ => s

/-- The effect of a write to a register with one of its own; none where a write only sets its fields. -/
def commandWrite (path : Path) (p off : Nat) (w : Word) (s : State) : Option State := match p, off with
  | 0x01, 0x044 => some { s with boot.hist := (BitVec.ofNat 32 s.boot.hist &&& ~~~ (w &&& 0x1FE)).toNat }
  | 0x01, 0x048 => some (rstCmd w s)
  | 0x02, 0x058 => some (sleepWrite w (s.put F.PWR_SLEEP_TARGET (getBits w 1 0)))
  | 0x06, 0x044 => some (planWinAddr w s)
  | 0x06, 0x048 => some (planWinWrite w s)
  | 0x07, 0x050 => some (trapAck (w &&& 0xFFFF) s)
  | 0x07, 0x054 => some (fltCmd w s)
  | 0x07, 0x07C => some (escSelect w s)
  | 0x0B, 0x054 => some (almCmd w s)
  | 0x0C, 0x044 => some (nvmCmd w s)
  | 0x0D, 0x054 => some (memCmd w s)
  | 0x16, 0x050 => some (todSetWrite w s)
  | 0x18, 0x098 => some (keyData w s)
  | 0x18, 0x09C => some (keyCmd w s)
  | 0x19, 0x040 => some (spiCfg w s)
  | 0x28, 0x04C => some (urgentWrite w s)
  | 0x2C, 0x09C => some (if bitOf w.toNat 0 then recGo (pathRank s (pageGroup p) path) s else s)
  | 0x2C, 0x0AC => some (recAck w s)
  | 0x2C, 0x0B0 => some (recFind w s)
  | 0x30, 0x054 => some (if bitOf w.toNat 0 then arrGo s else s)
  | 0x30, 0x074 => some (cellCmd w s)
  | 0x43, 0x068 => some (pruneWrite w s)
  | 0x48, 0x078 => some (keysCmd w s)
  | _, _ => none

/-- A write of PG_CTRL: EN as RWS, WLOCK, SRST. -/
def ctrlWrite (path : Path) (p : Nat) (e : RegEnt) (w : Word) (s : State) : State :=
  let old := s.rd p 0x008
  let new := mergeMask old w e.rws
  let s := if e.rws = 0 then s else journalWrite path p 0x008 old new (s.wr p 0x008 new)
  let s := if bitOf w.toNat 2 then lockPage p s else s
  if bitOf w.toNat 1 then requestSrst p s else s

/-- The fields of a block register take a write: RWS shadows, RW fields, W1C bits (R36). -/
def fieldWrite (path : Path) (p off : Nat) (e : RegEnt) (w : Word) (s : State) : State :=
  let old := s.rd p off
  let new := mergeMask old w (e.rws ||| e.rw) &&& ~~~ (w &&& BitVec.ofNat 32 e.w1c)
  let s := s.wr p off new
  let s := if e.rws = 0 then s else journalWrite path p off old new s
  if (p = 0x07 ∨ p = 0x08) ∧ (off = 0x074 ∨ off = 0x078) then fltIrq s else s

/-- A register write that has ended OK is performed. -/
def performWrite (path : Path) (p off : Nat) (e : RegEnt) (w : Word) (s : State) : State := match off with
  | 0x008 => ctrlWrite path p e w s
  | 0x018 =>
    let s := s.wr p 0x010 (s.rd p 0x010 &&& ~~~ (w &&& BitVec.ofNat 32 e.w1c))
    if p = 0x07 ∨ p = 0x08 then fltIrq s else s  -- IRQ_SRC stays raised while its condition lasts (R594)
  | 0x01C => injWrite p w s
  | 0x020 => if bitOf w.toNat 0 then noteLdac p (requestCommit p s) else s
  | 0x024 => leaseWrite path p w s
  | _ => (commandWrite path p off w s).getD (fieldWrite path p off e w s)

/-! ### Regions (R27, R805) -/

/-- A region of the address map, with what lies there: SRAM, the cell window, retention RAM, non-volatile memory, a register, its alias. -/
inductive Region where
  | unmapped
  | nvm
  | sram
  | cell
  | ret
  | reg (p off : Nat) (e : RegEnt)
  | alias_ (p off : Nat)
  deriving DecidableEq, Repr

/-- The register at byte `d` of the register pages. -/
def regAt (d : Nat) : Option (Nat × Nat × RegEnt) :=
  if (pageEnt (d / 0x400)).isNone then none else (regEnt (d / 0x400) (d % 0x400)).map fun e => (d / 0x400, d % 0x400, e.1)

/-- The region of an address. -/
def regionOf (a : Nat) : Region :=
  if 0x10000000 ≤ a ∧ a < 0x10400000 then .nvm
  else if 0x20000000 ≤ a ∧ a < 0x20400000 then .sram
  else if 0x30000000 ≤ a ∧ a < 0x30008000 then .cell
  else if 0x38000000 ≤ a ∧ a < 0x38004000 then .ret
  else if 0x40000000 ≤ a ∧ a < 0x40020000 then match regAt (a - 0x40000000) with
    | some (p, off, e) => .reg p off e
    | none => .unmapped
  else if 0x40100000 ≤ a ∧ a < 0x40120000 then match regAt (a - 0x40100000) with
    | some (p, off, _) => .alias_ p off
    | none => .unmapped
  else .unmapped

/-- The cell that the window reaches does not serve it (R651). -/
def cellOff (s : State) : Bool :=
  let c := s.get F.MEM_WIN_CELL
  roleOf s c != 0 || s.get (F.CELL_STAT_BUSY c) == 1

/-- The power checks of R35: DOMAIN_OFF, BANK_OFF, or 0. -/
def powerCheck (s : State) (a : Nat) : Region → Nat
  | .nvm => if domServes s .core then 0 else 3
  | .sram => if bankOff s (bankOf a) then 4 else 0
  | .cell => if !domOn s .arr then 3 else if cellOff s then 4 else 0
  | .reg p _ _ => if domServes s (pageDom p) then 0 else 3
  | .alias_ p _ => if domServes s (pageDom p) then 0 else 3
  | _ => 0

/-- A 32-bit read of the cell window; an uncorrectable word, or one that an injection makes so, is a failure of the cell (R473, R482, R651). -/
def cellWinRead (a : Nat) (s : State) : State × Option Word :=
  let c := s.get F.MEM_WIN_CELL
  let o := a - 0x30000000
  if c < 17 ∧ s.armedAt (0x31 + c) 1 then (cellFails c 4 true (s.disarm (0x31 + c) 1), none) else
  let err := aget s.ecc (cellEccKey c o)
  let r := eccDecode s.free err
  let k := s.free
  let s := if err = some .beyond then s.fresh 2 else s
  match r with
  | .clean => (s, some (s.cellWordAt c o))
  | .data => (s.bump (F.CELL_CNT_CORR c), some (s.cellWordAt c o))
  | .check => (s.bump (F.CELL_CNT_CORR c), some (s.cellWordAt c o))
  | .uncorr => (cellFails c 2 false s, none)
  | .wrongData => (s.bump (F.CELL_CNT_CORR c), some (Config.freeWord (k + 1)))
  | .wrongClean => (s, some (Config.freeWord (k + 1)))

/-! ### Reads -/

/-- What a read of a register at its normal address changes besides RC fields: latches and the indices of windows (R89, R114, R289, R688). -/
def readEffect (p off ns : Nat) (s : State) : State := match p, off with
  | 0x05, 0x054 => s.put F.TICK_NUM_HI_HI (s.tick.num / 2 ^ 32)
  | 0x06, 0x048 => planWinNext s
  | 0x0B, 0x060 => almWinNext s
  | 0x16, 0x068 => (todRead ns s).1
  | _, _ => s

/-- A read of a register at its normal address, `ns` ns into the tick (R37). -/
def regRead (p off ns : Nat) (s : State) : State × Word :=
  let w := if p = 0x16 ∧ off = 0x068 then (todRead ns s).2 else normalWord s p off
  let s := readEffect p off ns s
  let m := rcMask p off
  (if m = 0 then s else s.wr p off (mergeMask (s.rd p off) (resetWord p off) m), w)

/-- A register path reads SRAM or retention RAM; an uncorrectable word of the working weights loses learning (R518). -/
def pathRead (a : Nat) (s : State) : State × Option Word := match memRead a s with
  | (s, none) => (if a < 0x30000000 then weightsHit a s else s, none)
  | r => r

/-- A single-word read: its outcome and data (R35). -/
def readAccess (addr : Word) (ns : Nat) (s : State) : State × Nat × Word :=
  let a := addr.toNat
  if a % 4 ≠ 0 then (s, 0x01, 0) else
  let r := regionOf a
  if r = .unmapped then (s, 0x02, 0)
  else if powerCheck s a r ≠ 0 then (s, powerCheck s a r, 0)
  else
    let data (x : State × Option Word) : State × Nat × Word := match x with
      | (s, some w) => (s, 0x00, w)
      | (s, none) => (s, 0x05, 0)
    match r with
    | .nvm => data (nvmRead a s)
    | .cell => data (cellWinRead a s)
    | .reg p off _ => let x := regRead p off ns s; (x.1, 0x00, x.2)
    | .alias_ p off => (s, 0x00, aliasWord s p off)
    | _ => data (pathRead a s)

/-! ### Writes -/

/-- A write of the word at `a` of SRAM or retention RAM that has ended OK; its ECC word was read before (R33). -/
def memStore (a : Nat) (w : Word) (s : State) : State := ({ s with ecc := adel s.ecc (eccKey a) }).setWord a w

/-- A single-word write: its outcome (R35, R293). -/
def writeAccess (path : Path) (addr w : Word) (s : State) : State × Nat :=
  let a := addr.toNat
  if a % 4 ≠ 0 then (s, 0x01) else
  let r := regionOf a
  if r = .unmapped then (s, 0x02)
  else if powerCheck s a r ≠ 0 then (s, powerCheck s a r)
  else match r with
    | .reg p off e =>
      if writable e = 0 then (s, 0x06)
      else if lockCovers s p off then (s, 0x07)
      else
        let x := ownChecks path p off w (e.rws != 0) s
        if x.2 ≠ 0 then x else (performWrite path p off e w (noteWrite path p off e w x.1), 0)
    | .sram => match pathRead a s with
      | (s, none) => (s, 0x05)
      | (s, some _) => if memChecks path a s ≠ 0 then (s, memChecks path a s) else (memStore a w s, 0)
    | .ret => match memRead a s with
      | (s, none) => (s, 0x05)
      | (s, some _) => if memChecks path a s ≠ 0 then (s, memChecks path a s) else (memStore a w s, 0)
    | .cell => match cellWinRead a s with
      | (s, none) => (s, 0x05)
      | (s, some _) =>
        if memChecks path a s ≠ 0 then (s, memChecks path a s) else
        let c := s.get F.MEM_WIN_CELL
        ({ s with ecc := adel s.ecc (cellEccKey c (a - 0x30000000)) }.setCellWord c (a - 0x30000000) w, 0)
    | _ => (s, 0x06)

/-- The normal address of a register. -/
def regAddr (p off : Nat) : Word := BitVec.ofNat 32 (0x40000000 + p * 0x400 + off)

/-- A write to a register by its page and offset; a page number above 0x7F names no page. -/
def writeReg (path : Path) (p off : Nat) (w : Word) (s : State) : State :=
  if p < 0x80 then (writeAccess path (regAddr p off) w s).1 else s

/-! ### Contention (R309–R313, R316) -/

/-- An entry of the contention log, made in the boundary cycle: it bears the number of the tick that ends (R312, R316). -/
def addClog (page winSid loseSid winner loser kind off : Nat) (s : State) : State :=
  let n := s.get F.ACC_CLOG_CNT_NEXT
  let w1 := BitVec.ofNat 32 (page * 2 ^ 24 + winSid * 2 ^ 16 + loseSid * 2 ^ 8 + winner * 16 + loser)
  let w2 := BitVec.ofNat 32 (kind * 2 ^ 16 + pageGroup page * 2 ^ 12 + off)
  let s := { s with acc.clog := aset s.acc.clog n (BitVec.ofNat 32 (s.tick.num - 1), w1, w2) }
  ((s.put F.ACC_CLOG_CNT_NEXT ((n + 1) % 32)).bump F.ACC_CLOG_CNT_TOTAL).raise E.ACC_CONTENTION

/-- The rank of a path in a group in the tick that ends: the highest among its writes to the group (R292). -/
def tickRank (s : State) (g : Nat) (p : Path) : Nat := match p with
  | .yrap sid => if s.page.owners.contains (g, sid) then 4 else 7
  | _ => pathRank s g p

/-- The journal of a group, with each sender at its rank in the tick (R292). -/
def groupJournal (s : State) (g : Nat) : List JEntry :=
  (s.page.journal.filter fun e => pageGroup e.page == g).map fun e => { e with rank := tickRank s g e.path }

/-- The shadow of one register that the journal names, resolved for the winner (R310). -/
def resolveReg (win : Nat) (js : List JEntry) (s : State) (x : Nat × Nat) : State :=
  let mine (e : JEntry) : Bool := e.page == x.1 && e.off == x.2
  let v := match (js.filter fun e => mine e && e.rank == win).getLast? with
    | some e => some e.val
    | none => (js.find? mine).map (·.old)
  match v with
  | some w => s.wr x.1 x.2 (mergeMask (s.rd x.1 x.2) w (rwsMask x.1 x.2))
  | none => s

/-- The words of the late replies of a losing path in group `g` that R311 undoes. -/
def undoLate (g : Nat) (losers : List Nat) (s : State) : State :=
  let word (w : WordOut) : WordOut := if w.undoable && w.group == g then { w with outcome := 0x0D } else w
  let reply (l : LateReply) : LateReply := if losers.contains (senderId l.path) then { l with words := l.words.map word } else l
  { s with acc.late := s.acc.late.map reply }

/-- CONTENTION_RESOLVE for one group: the entries of the losing paths, by rank. -/
def resolveGroup (s : State) (g : Nat) : State :=
  let js := groupJournal s g
  let ranks := (js.map (·.rank)).eraseDups
  if ranks.length < 2 then s else
  let win := ranks.foldl min 99
  let s := ((js.map fun e => (e.page, e.off)).eraseDups).foldl (resolveReg win js) s
  let winner := js.find? fun e => e.rank == win
  let winSid := match winner with
    | some e => pathSid e.path
    | none => 0
  let losers := ranks.filter (· ≠ win)
  let s := losers.foldl (fun s r => match js.find? fun e => e.rank == r with
    | some e =>
      let same := js.any fun x => x.rank == win && x.page == e.page && x.off == e.off
      (addClog e.page winSid (pathSid e.path) win r (if same then 0 else 1) e.off s).bump F.ACC_CNT_ACC_PREEMPTED
    | none => s) s
  undoLate g ((js.filter fun e => e.rank != win).map fun e => senderId e.path) s

/-- CONTENTION_RESOLVE in the boundary cycle (R309–R312); the tick's journal is closed. -/
def contention (s : State) : State :=
  let s := (List.range 8).foldl resolveGroup s
  { s with page.journal := [] }

/-- An LDAC commit applies while the LOOPCLR_N clamp is in force: the MASKED entry (R313). -/
def maskedEntry (s : State) : State :=
  let rank (x : Path × Nat × Nat) : Nat := tickRank s 2 x.1
  let kind (k : Nat) : List (Path × Nat × Nat) := s.page.ldacOrd.filter fun x => x.2.2 == k
  let pool := if (kind 2).isEmpty then kind 1 else kind 2
  if !s.flag F.LDAC_STAT_CLR || pool.isEmpty then s else
  let best := pool.foldl (fun a x => min a (rank x)) 99
  match pool.find? fun x => rank x == best with
  | some x =>
    let first := match s.page.ldacOrd.find? fun y => senderId y.1 == senderId x.1 with
      | some y => y.2.1
      | none => 0x020
    addClog 0x11 0 (pathSid x.1) 1 best 2 first s
  | none => s

end Sys2Proof.Machine
end

