-- ==== Sys2Proof/Machine/Publish.lean ====
section
/-! DEFINITION. The sampled-value and GOOSE publisher and the start of frames on the line (chapter 07, R256–R258, R268–R286). -/

namespace Sys2Proof.Machine

/-! ### Sizes and the validator (R276–R278) -/

/-- The encoded size of a length (ℓ of chapter 07). -/
def lenSize (x : Nat) : Nat := if x ≤ 127 then 1 else if x ≤ 255 then 2 else 3

/-- The ASDUs of a frame. -/
def asdus (g : Fld → Nat) : Nat := 2 ^ g F.PUB_CFG_ASDUS

/-- The bytes of an ASDU of stream `st`, and the wire bytes W_s of its frame. -/
def asduBytes (g : Fld → Nat) (st : Nat) : Nat :=
  19 + g (F.PUB_SIDLEN_LEN st) + 8 * g (F.PUB_SCFG_NCH st) + 4 * g F.PUB_CFG_SMPRATE_OPT
def svWire (g : Fld → Nat) (st : Nat) : Nat :=
  let q := asdus g * asduBytes g st
  let u := 4 + lenSize q + q
  46 + 4 * g F.PUB_CFG_VLAN_TAG + (1 + lenSize u + u)

/-- The enabled streams. -/
def streamsOn (g : Fld → Nat) : List Nat := (List.range 4).filter fun st => bitOf (g F.PUB_CFG_STREAM_EN) st

/-- The sum of W_s over the enabled streams, and the largest. -/
def wireSum (g : Fld → Nat) : Nat := (streamsOn g).foldl (fun a st => a + svWire g st) 0
def wireMax (g : Fld → Nat) : Nat := (streamsOn g).foldl (fun a st => max a (svWire g st)) 0

/-- The GOOSE PDU's length and the wire bytes of its frame (PRESUMED, log entry 90). -/
def gooseU (g : Fld → Nat) : Nat := 81 + g F.PUB_GLEN_GOCBREF_LEN + g F.PUB_GLEN_DATSET_LEN + g F.PUB_GLEN_GOID_LEN
def gooseWire (g : Fld → Nat) : Nat := 46 + 4 * g F.PUB_CFG_VLAN_TAG + (1 + lenSize (gooseU g) + gooseU g)

/-- TX_GAP_BYTES at a rate in Hz (R276). A tick is 1 250 000 / rate bytes of the line; G is kept in bytes × rate. -/
def txGap (rate : Nat) (g : Fld → Nat) : Nat :=
  if (streamsOn g).isEmpty then 1542
  else
    let x : Int := 1250000 * ((asdus g : Int) + 1) + (rate : Int) * ((wireMax g : Int) - 2 * (wireSum g : Int))
    min 1542 (x / (rate : Int)).toNat

/-- The load in 0.1 % (R276). -/
def svLoad (rate : Nat) (g : Fld → Nat) : Nat := wireSum g * 8 * rate * 1000 / (asdus g * 10000000)

/-- RANGE: a field outside its range. -/
def pubRange (g : Fld → Nat) : Bool :=
  let out (f : Fld) (lo hi : Nat) : Bool := decide (g f < lo) || decide (hi < g f)
  g F.PUB_CFG_ASDUS == 3 || out F.PUB_LIMIT_BW_PCT 50 90 || out F.PUB_GCFG_GAPPID 0 0x3FFF || out F.PUB_GTIME_T0_MS 100 60000
    || out F.PUB_GTIME_T1_MS 1 100 || out F.PUB_GLEN_GOCBREF_LEN 1 32 || out F.PUB_GLEN_DATSET_LEN 1 32 || out F.PUB_GLEN_GOID_LEN 1 32
    || (List.range 4).any fun st => out (F.PUB_SCFG_APPID st) 0x4000 0x7FFF || out (F.PUB_SCFG_NCH st) 1 8 || out (F.PUB_SIDLEN_LEN st) 1 34

/-- CH_ADDR: an SRC = 2 channel whose ADDR is not word-aligned or not in SRAM. -/
def pubBadAddr (g : Fld → Nat) : Bool := (List.range 4).any fun st => (List.range 8).any fun c =>
  let a := g (F.PUB_SADDR_ADDR st c)
  g (F.PUB_SCH_SRC st c) == 2 && (a % 4 != 0 || decide (a < 0x20000000) || decide (0x20400000 ≤ a))

/-- The first failing reason of R277 at a rate in Hz, from the registers as `g` reads them. -/
def pubReason (rate : Nat) (g : Fld → Nat) : Option Nat :=
  if pubRange g then some 0x01
  else if g F.PUB_LIMIT_BW_PCT * asdus g * 100000 < wireSum g * 8 * rate then some 0x02
  else if 1250000 + rate * wireMax g < rate * wireSum g then some 0x03
  else if txGap rate g < 256 then some 0x04
  else if g F.PUB_CFG_GOOSE_EN = 1 ∧ txGap rate g < gooseWire g then some 0x05
  else if pubBadAddr g then some 0x06
  else none

/-- The validator of the PUB page. -/
def checkPub (s : State) : Option Nat := pubReason (rateHz s) s.getS

/-- PUB_SIZE, PUB_LOAD and TX_GAP_BYTES of the configuration in force. -/
def showPubSizes (s : State) : State :=
  let s := (s.put F.PUB_SIZE_SUM (wireSum s.get)).put F.PUB_SIZE_GOOSE (gooseWire s.get)
  (s.put F.PUB_LOAD_LOAD (svLoad (rateHz s) s.get)).put F.MAC_TX_GAP (txGap (rateHz s) s.get)

/-- What a PUB commit that has applied brings about: the sizes, and the end of HALT (R278). -/
def afterPubCommit (s : State) : State := showPubSizes (s.putB F.PUB_STAT_HALT false)

/-- A TICK commit has changed RATE: the publisher validates again (R278), and the next sample begins a group (R271). -/
def revalidatePub (s : State) : State :=
  let s := showPubSizes { s with pub.anew := true }
  match pubReason (rateHz s) s.get with
  | some _ => (s.putB F.PUB_STAT_HALT true).raise E.PUB_HALT
  | none => s

/-! ### Samples (R273–R275) -/

/-- The effective PUB words. -/
def pubWords (s : State) : Assoc Word := s.eff.filter fun e => e.1 / 0x400 == 0x17

/-- A field of a captured configuration. -/
def cfgOf (c : Assoc Word) (f : Fld) : Nat := getBits ((aget c (regKey f.page f.off)).getD (resetWord f.page f.off)) f.hi f.lo

/-- sat32((S × MUL) >> SH) of a sample word (R273). -/
def scaled (w : Word) (mul sh : Nat) : Word :=
  BitVec.ofNat 32 (toCode 32 (clampInt (-2147483648) 2147483647 (signed 24 (getBits w 31 8) * signed 16 mul / 2 ^ sh)))

/-- The quality of a fast-lane sample (R275, orders 2 and 3). -/
def fastQuality (w : Word) : Nat :=
  let o := bitOf w.toNat 3
  let u := bitOf w.toNat 2
  (if o then 1 else if u then 3 else 0) + 4 * b2n o + 512 * b2n u

/-- A quality base with validity questionable and oldData (R274, R275). -/
def repeated (q : Nat) : Nat := (setBitTo q 7 true) / 4 * 4 + 3

/-- Channel `c` of stream `st` for the sample that becomes available: value and quality without the rules of the due boundary. A fast lane that delivers no
word leaves its value open (DESIGN CHOICE, log entry 91). -/
def channelOf (cfg : Assoc Word) (st c : Nat) (s : State) : Word × Nat :=
  let g := cfgOf cfg
  let fast (k : Nat) : Word × Nat := match (fastOf s k).now with
    | some w => (scaled w (g (F.PUB_SCH_MUL st c)) (g (F.PUB_SCH_SH st c)), fastQuality w)
    | none => (Config.freeWord (s.free + st * 8 + c), 0)
  match g (F.PUB_SCH_SRC st c) with
  | 0 => fast 0
  | 1 => fast 1
  | 2 =>
    let v := (aget s.pub.vals (st * 8 + c)).getD (0, 0)
    if s.pub.served then v else (v.1, repeated v.2)
  | _ => (0, 0)

/-- The channels of every stream for the sample that becomes available. -/
def sampleOf (cfg : Assoc Word) (s : State) : List (List (Word × Nat)) :=
  tabulate 4 fun st => tabulate (cfgOf cfg (F.PUB_SCFG_NCH st)) fun c => channelOf cfg st c s

/-- PUB_SERVICE reads the SRAM channels of the oldest sample that is not yet available (R274); one that cannot be read keeps its value. -/
def pubService (s : State) : State := match s.pub.ticks with
  | [] => s
  | t :: _ =>
    let chans := (streamsOn (cfgOf t.cfg)).flatMap fun st => (List.range (cfgOf t.cfg (F.PUB_SCFG_NCH st))).map fun c => (st, c)
    let read (s : State) (x : Nat × Nat) : State :=
      let a := cfgOf t.cfg (F.PUB_SADDR_ADDR x.1 x.2)
      if cfgOf t.cfg (F.PUB_SCH_SRC x.1 x.2) ≠ 2 ∨ !inPoweredSram s a 8 then s
      else match memReads 2 a s with
        | (s, some ws) => { s with pub.vals := aset s.pub.vals (x.1 * 8 + x.2) (ws.getD 0 0, (ws.getD 1 0).toNat) }
        | (s, none) => s
    let s := chans.foldl read s
    { s with pub.served := true }

/-! ### Frames (R270–R272, R275) -/

/-- A length in the encoding of ASN.1. -/
def berLen (n : Nat) : List Byte :=
  if n ≤ 127 then [BitVec.ofNat 8 n] else if n ≤ 255 then [0x81, BitVec.ofNat 8 n] else 0x82 :: natBytes 2 n

/-- Tag, length and content. -/
def tlv (tag : Nat) (bs : List Byte) : List Byte := BitVec.ofNat 8 tag :: (berLen bs.length ++ bs)

/-- The quality of a channel at the due boundary (R275, orders 1 and —). -/
def dueQuality (fault test : Bool) (q : Nat) : Nat :=
  let q := if fault then (setBitTo q 6 true) / 4 * 4 + 1 else q
  if test then setBitTo q 11 true else q

/-- The first `n` bytes of a string area of words at `off`, `st` the field of its words. -/
def textBytes (word : Nat → Word) (n : Nat) : List Byte := (wordsBytes (tabulate 9 word)).take n

/-- An ASDU of stream `st` (R272). -/
def asduOf (cfg : Assoc Word) (st rate synch cnt : Nat) (fault : Bool) (chans : List (Word × Nat)) : List Byte :=
  let g := cfgOf cfg
  let test := g F.PUB_CFG_TEST == 1
  let data := chans.flatMap fun x => bytesOfWord x.1 ++ natBytes 4 (dueQuality fault test x.2)
  tlv 0x30 (tlv 0x80 (textBytes (fun i => BitVec.ofNat 32 (g (F.PUB_SVID_TEXT st i))) (g (F.PUB_SIDLEN_LEN st)))
    ++ tlv 0x82 (natBytes 2 cnt) ++ tlv 0x83 (natBytes 4 (g (F.PUB_SREV_CONFREV st)))
    ++ (if g F.PUB_CFG_SMPRATE_OPT = 1 then tlv 0x86 (natBytes 2 rate) else [])
    ++ tlv 0x85 [BitVec.ofNat 8 synch] ++ tlv 0x87 data)

/-- A layer 2 frame from its destination address to its APDU (R270). -/
def pubFrame (g : Fld → Nat) (mac dst etype appid : Nat) (apdu : List Byte) : List Byte :=
  natBytes 6 dst ++ natBytes 6 mac
    ++ (if g F.PUB_CFG_VLAN_TAG = 1 then natBytes 2 0x8100 ++ natBytes 2 (g F.PUB_CFG_VLAN_PRI * 0x2000 + g F.PUB_CFG_VID) else [])
    ++ natBytes 2 etype ++ natBytes 2 appid ++ natBytes 2 (8 + apdu.length) ++ natBytes 4 0 ++ apdu

/-- The frame of stream `st` for the samples of a group. -/
def svFrame (cfg : Assoc Word) (st : Nat) (samples : List (Nat × List (List (Word × Nat)))) (s : State) : List Byte :=
  let g := cfgOf cfg
  let seq := samples.flatMap fun x => asduOf cfg st (rateHz s) (smpSynch s) x.1 (inFault s) (x.2.getD st [])
  pubFrame g s.otp.mac (0x010CCD040000 + g (F.PUB_SCFG_DST_LSB st)) 0x88BA (g (F.PUB_SCFG_APPID st))
    (tlv 0x60 (tlv 0x80 [BitVec.ofNat 8 samples.length] ++ tlv 0xA2 seq))

/-! ### The line (R13, R256, R257, R280) -/

/-- The tick's length in ns, rounded down. -/
def tickNs (s : State) : Nat := tickLen s / 288

/-- SV frames that have ended by `ns` count as sent (R280). -/
def svUntil (ns : Nat) (s : State) : State :=
  let past (f : SvOut) : Bool := decide (f.start + 800 * f.wire ≤ ns)
  let n := (s.pub.sv.filter past).length
  let s := { s with pub.sv := s.pub.sv.filter fun f => !past f }
  (s.bump F.PUB_CNT_SENT n).bump F.MAC_CNT_OK_TX n

/-- One SV frame is lost (R280). -/
def svLost (s : State) : State := (s.bump F.PUB_CNT_LOST).raise E.PUB_SV_LOST

/-- The link goes down `ns` ns after the boundary: SV frames that have not ended are lost. -/
def svCut (ns : Nat) (s : State) : State :=
  let s := svUntil ns s
  let n := s.pub.sv.length
  let s := { s with pub.sv := [], pub.busy := 0 }
  (List.range n).foldl (fun s _ => svLost s) s

/-- A due SV frame of `wire` bytes is put on the line as soon as that is free, or discarded as lost (R256, R280). -/
def svDue (wire : Nat) (bytes : List Byte) (s : State) : State :=
  let inj := s.armedAt 0x17 1
  let s := if inj then s.disarm 0x17 1 else s
  if inj || !linkUp s || pstate s != 0 || s.slp.out || decide (tickNs s ≤ s.pub.busy) then svLost s
  else { s with pub.sv := s.pub.sv ++ [⟨bytes, wire, s.pub.busy⟩], pub.busy := s.pub.busy + 800 * wire }

/-- The last sample of a group with enabled streams: its frames are due when it becomes available. -/
def endsGroup (t : PubTick) : Bool := t.pos == some (asdus (cfgOf t.cfg) - 1) && !(streamsOn (cfgOf t.cfg)).isEmpty

/-- The next boundary at which SV frames are due, counted from the last one, 0, and the configuration of their group: of a group that is complete in the pipeline, of the one that is in
assembly, or of one that could begin at the next boundary under the configuration in force; none without enabled streams. -/
def nextDue (s : State) : Option (Nat × Assoc Word) :=
  let n := s.pub.ticks.length
  let size (c : Assoc Word) : Nat := asdus (cfgOf c)
  let want := pubWords s
  let new := if (streamsOn (cfgOf want)).isEmpty then none else some (3 + size want, want)
  match (List.range n).find? fun i => (s.pub.ticks[i]?.map endsGroup).getD false with
  | some i => (s.pub.ticks[i]?).map fun t => (i + 4 - n, t.cfg)
  | none => match s.pub.ticks.getLast? with
    | some t => match t.pos with
      | some p => if p + 1 < size t.cfg ∧ !(streamsOn (cfgOf t.cfg)).isEmpty then some (3 + (size t.cfg - 1 - p), t.cfg) else new
      | none => new
    | none => new

/-- The latest instant, in ns from the last boundary, at which every SV frame of the next due boundary can still start within its window (R257). -/
def svDeadline (s : State) : Option Nat :=
  if pstate s ≠ 0 ∨ s.flag F.PUB_STAT_HALT then none else
  (nextDue s).map fun d =>
    let g := cfgOf d.2
    let last := (streamsOn g).foldl (fun _ st => svWire g st) 0
    (d.1 + 1) * tickNs s - 800 * (wireSum g - last)

/-- The waiting frame that goes next: the first of the lowest kind (R256). -/
def nextFrame (s : State) : Option TxFrame :=
  ((s.link.tx.find? fun f => f.kind == 1) <|> s.link.tx.find? fun f => f.kind == 2) <|> s.link.tx.head?

/-- A peer delay answer has been sent with the transmit timestamp `t3`: its Follow_Up carries it (R259, R260). -/
def stampFollowUp (t3 : Int) (f : TxFrame) : TxFrame := match f.what with
  | .pdelayRespFollowUp d none => { f with what := .pdelayRespFollowUp d (some t3) }
  | _ => f

/-- FRAME_TX_START at `ns` ns after the boundary (R256, R257). -/
def frameTxStart (ns : Nat) (s : State) : State :=
  let s := svUntil ns s
  match nextFrame s with
  | some f =>
    let fits := match svDeadline s with
      | some d => decide (ns + 800 * f.wire < d)
      | none => true
    if !linkUp s || decide (ns < s.pub.busy) || !fits then s else
    let s := { s with link.tx := s.link.tx.erase f, link.sent := some f, pub.busy := ns + 800 * f.wire }
    let s := s.bump F.MAC_CNT_OK_TX
    match f.what with
    | .goose _ => s.bump F.PUB_GCNT_COUNT
    | .pdelayResp _ _ =>
      let t := todAt ns s
      let t3 := stamp8 (t.1 * 1000000000 + t.2) + s.otp.phyTx
      { s with link.tx := s.link.tx.map (stampFollowUp t3) }
    | _ => s
  | none => s

/-! ### GOOSE (R281–R286) -/

/-- GOOSE frames are sent: enabled, link up, in RUN, DOZE or LULL (R286). -/
def gooseRuns (s : State) : Bool := s.flag F.PUB_CFG_GOOSE_EN && linkUp s && decide (pstate s ≤ 2)

/-- The members of the data set (R281). -/
def gooseMembers (s : State) : List Nat :=
  [b2n (inFault s), b2n (s.get F.FLT_STAT_STATE == 2), s.get F.FLT_STAT_ENTRY_SRC, getBits s.arr.core 31 16, getBits s.arr.core 15 8,
    s.get F.PUB_GUSER_USER]

/-- TimeQuality (R285). -/
def timeQuality (s : State) : Byte :=
  let synced := s.flag F.TICK_STAT_SYNCED
  let fail := s.get F.TICK_STAT_STATE == 0 && !s.link.todSet
  BitVec.ofNat 8 (64 * b2n fail + 32 * b2n (!synced) + (if synced then 20 else 31))

/-- t: the UTC of a boundary with its TimeQuality (R282, R285). -/
def gooseTime (s : State) : List Byte :=
  natBytes 4 (utcSeconds s) ++ natBytes 3 ((todAt 0 s).2 * 2 ^ 24 / 1000000000) ++ [timeQuality s]

/-- The content of an unsigned integer in ASN.1: the fewest bytes that hold it with a sign bit of 0. -/
def berNat (v : Nat) : List Byte := natBytes (if v < 2 ^ 7 then 1 else if v < 2 ^ 15 then 2 else if v < 2 ^ 23 then 3 else if v < 2 ^ 31 then 4 else 5) v

/-- A string area of the PUB page. -/
def gooseText (s : State) (off n : Nat) : List Byte := (wordsBytes (tabulate 8 fun i => s.rdE 0x17 (off + 4 * i))).take n

/-- A GOOSE frame of the state published last, with the interval to the next frame (R281, R284, PRESUMED, log entry 90). -/
def gooseFrame (s : State) : List Byte :=
  let m := s.pub.members.getD []
  let long (tag v : Nat) : List Byte := tlv tag (berNat v)
  let data := tlv 0x83 [BitVec.ofNat 8 (m.getD 0 0)] ++ tlv 0x83 [BitVec.ofNat 8 (m.getD 1 0)] ++ long 0x86 (m.getD 2 0)
    ++ long 0x86 (m.getD 3 0) ++ tlv 0x84 [0, BitVec.ofNat 8 (m.getD 4 0)] ++ long 0x86 (m.getD 5 0)
  let pdu := tlv 0x80 (gooseText s 0x290 (s.get F.PUB_GLEN_GOCBREF_LEN)) ++ long 0x81 (2 * s.pub.interval)
    ++ tlv 0x82 (gooseText s 0x2B0 (s.get F.PUB_GLEN_DATSET_LEN)) ++ tlv 0x83 (gooseText s 0x2D0 (s.get F.PUB_GLEN_GOID_LEN)) ++ tlv 0x84 s.pub.t
    ++ long 0x85 (s.get F.PUB_GST_ST) ++ long 0x86 (s.get F.PUB_GSQ_SQ) ++ tlv 0x87 [BitVec.ofNat 8 (s.get F.PUB_CFG_TEST)]
    ++ long 0x88 (s.get F.PUB_GREV_REV) ++ tlv 0x89 [0] ++ tlv 0x8A [6] ++ tlv 0xAB data
  pubFrame s.get s.otp.mac (0x010CCD010000 + s.get F.PUB_GCFG_GDST_LSB) 0x88B8 (s.get F.PUB_GCFG_GAPPID) (tlv 0x61 pdu)

/-- A frame joins the GOOSE position of the queue, at its head for a new state (R282). -/
def queueGoose (front : Bool) (s : State) : State :=
  if !gooseRuns s then s else
  let bs := gooseFrame s
  let f : TxFrame := { kind := 2, wire := max 84 (bs.length + 24), what := .goose bs }
  if front && decide (f.wire ≤ s.get F.MAC_TX_GAP) then { s with link.tx := f :: s.link.tx } else queueTx f s

/-- A counter that wraps from 2^32 − 1 to 1 (R283). -/
def wrapCount (n : Nat) : Nat := if n = 0xFFFFFFFF then 1 else n + 1

/-- The interval after `n` ms (R283). -/
def nextInterval (t0 n : Nat) : Nat := if 2 * n ≤ t0 then 2 * n else t0

/-- A new state at a boundary (R282, R283). -/
def gooseNew (m : List Nat) (s : State) : State :=
  let s := (s.put F.PUB_GST_ST (wrapCount (s.get F.PUB_GST_ST))).put F.PUB_GSQ_SQ 0
  let s := { s with pub.members := some m, pub.t := gooseTime s, pub.interval := s.get F.PUB_GTIME_T1_MS, pub.since := 0 }.raise E.PUB_GOOSE_STATE
  queueGoose true s

/-- The current state again, with sqNum incremented, the time of the state and the TimeQuality of now (R283, R285, R286). -/
def gooseAgain (interval : Nat) (s : State) : State :=
  let s := s.put F.PUB_GSQ_SQ (wrapCount (s.get F.PUB_GSQ_SQ))
  queueGoose false { s with pub.interval := interval, pub.since := 0, pub.t := s.pub.t.take 7 ++ [timeQuality s] }

/-- GOOSE_RETRANSMIT: the interval to the next frame has expired (R283). -/
def gooseRetransmit (s : State) : State :=
  if gooseRuns s && s.pub.members.isSome && decide (s.pub.interval * 288 < 10 * (s.pub.since + tickUnits s)) then gooseAgain (nextInterval (s.get F.PUB_GTIME_T0_MS) s.pub.interval) s else s

/-- GOOSE on a link that has come up (R286). -/
def gooseLinkUp (s : State) : State :=
  if gooseRuns s && s.pub.members.isSome then gooseAgain (s.get F.PUB_GTIME_T1_MS) s else s

/-- GOOSE_STATE_CHANGE at a boundary (R282); while GOOSE_EN = 0 nothing counts as published. -/
def gooseBoundary (s : State) : State :=
  if !s.flag F.PUB_CFG_GOOSE_EN then { s with pub.members := none }
  else
    let inj := s.armedAt 0x17 2
    let s := if inj then s.disarm 0x17 2 else s
    let m := gooseMembers s
    if inj || s.pub.members != some m then gooseNew m s else s

/-! ### The publisher at a boundary -/

/-- The oldest sample becomes available; the last of a group makes frames due (R271). -/
def sampleAvailable (t : PubTick) (s : State) : State :=
  let g := cfgOf t.cfg
  let prev := if t.pos = some 0 then [] else s.pub.group
  let group := prev ++ [(t.cnt, sampleOf t.cfg s)]
  let s := { s with pub.group := group }.fresh 32
  if t.pos ≠ some (asdus g - 1) ∨ s.flag F.PUB_STAT_HALT then s
  else (streamsOn g).foldl (fun s st => svDue (svWire g st) (svFrame t.cfg st group s) s) s

/-- A sample that begins a group under configuration `c`, where its smpCnt begins one (R271); otherwise it belongs to no frame. -/
def beginsGroup (idx : Nat) (c : Assoc Word) : PubTick := ⟨idx, if idx % asdus (cfgOf c) = 0 then some 0 else none, c⟩

/-- The sample of the tick that begins: it continues its group, or begins one with the configuration of R279. A relabel leaves the groups as they are, since no frame is added or omitted
(R269); a new RATE, and a return from FROST, begin anew (DEDUCED, log entry 169). -/
def nextSample (s : State) : PubTick :=
  let idx := s.get F.TICK_SECIDX_IDX
  if s.pub.anew then beginsGroup idx s.pub.want else
  match s.pub.ticks.getLast? with
  | none => beginsGroup idx s.pub.want
  | some t =>
    let size := asdus (cfgOf t.cfg)
    match t.pos with
    | none => beginsGroup idx s.pub.want
    | some p =>
      if p + 1 < size then ⟨idx, some (p + 1), t.cfg⟩
      else if idx % asdus (cfgOf s.pub.want) = 0 ∨ idx % size ≠ 0 then ⟨idx, some 0, s.pub.want⟩
      else ⟨idx, some 0, t.cfg⟩

/-- The line at a boundary: SV frames that have ended count as sent, and its times are counted from this boundary on. -/
def lineTick (s : State) : State :=
  let ns := tickNs s
  let s := svUntil ns s
  let back (f : SvOut) : SvOut := { f with start := f.start - (ns : Int) }
  { s with pub.sv := s.pub.sv.map back, pub.busy := s.pub.busy - ns, pub.since := satTo 1800000 (s.pub.since + tickUnits s) }

/-- The publisher at a boundary, after the fast lanes (R12, R256, R271, R279). -/
def pubBoundary (s : State) : State :=
  if pstate s = 3 then { s with pub.ticks := [], pub.group := [], pub.served := false } else
  let s : State := match s.pub.ticks with
    | a :: b :: c :: rest =>
      let s := sampleAvailable a s
      { s with pub.ticks := b :: c :: rest }
    | _ => s
  let t := nextSample s
  let s := { s with pub.ticks := s.pub.ticks ++ [t], pub.served := false, pub.anew := false, pub.want := pubWords s }
  let s := s.put F.PUB_STAT_SMPSYNCH (smpSynch s)
  let on := if pstate s = 0 ∧ linkUp s ∧ !s.flag F.PUB_STAT_HALT then cfgOf t.cfg F.PUB_CFG_STREAM_EN else 0
  (gooseBoundary (s.put F.PUB_STAT_STREAMING on)).putB F.PUB_STAT_GOOSE_RUN (gooseRuns s)

/-- SRST of the PUB page: the publisher starts anew, and no stream limits the other frames (R52, R276). -/
def pubRestart (s : State) : State := { s with pub := { busy := s.pub.busy } }.put F.MAC_TX_GAP (txGap (rateHz s) s.get)

end Sys2Proof.Machine
end

