-- ==== Sys2Proof/Machine/Yrap.lean ====
section
/-! DEFINITION. Multi-word accesses, YRAP messages and replies, NOTIFY, and the IP neighbours' requests (chapter 08, R325–R333). -/

namespace Sys2Proof.Machine

/-! ### Multi-word accesses (R32, R234) -/

/-- Up to `n` words are read from `a` on, until one ends other than OK: the data, and the last outcome. -/
def readWords (ns : Nat) : Nat → Nat → State → State × List Word × Nat
  | 0, _, s => (s, [], 0)
  | n + 1, a, s => match readAccess (BitVec.ofNat 32 a) ns s with
    | (s, 0, w) => let r := readWords ns n (a + 4) s; (r.1, w :: r.2.1, r.2.2)
    | (s, o, _) => (s, [], o)

/-- What R311 needs to know of a word written at `a`. -/
def wordOut (a outcome : Nat) : WordOut := match regionOf a with
  | .reg p _ e => ⟨p, pageGroup p, outcome == 0 && e.rws != 0, outcome⟩
  | _ => ⟨0, 8, false, outcome⟩

/-- Words are written from `a` on, until one ends other than OK. -/
def writeWords (path : Path) : List Word → Nat → State → State × List WordOut
  | [], _, s => (s, [])
  | w :: t, a, s => match writeAccess path (BitVec.ofNat 32 a) w s with
    | (s, 0) => let r := writeWords path t (a + 4) s; (r.1, wordOut a 0 :: r.2)
    | (s, o) => (s, [wordOut a o])

/-- The commits of all the pages are requested in one tick (R235, R328). -/
def commitPages (path : Path) : List Nat → State → State × List WordOut
  | [], s => (s, [])
  | p :: t, s =>
    let (s, o) := writeAccess path (regAddr p 0x020) 1 s
    let r := commitPages path t s
    (r.1, ⟨p, pageGroup p, false, o⟩ :: r.2)

/-- DONE and OUTCOME (R296); the words of a request's commits are taken in the order of their pages. -/
def doneOf (ws : List WordOut) : Nat := (ws.filter fun w => w.outcome == 0).length
def outcomeOf (ws : List WordOut) : Nat :=
  (ws.filter fun w => w.outcome != 0).foldl (fun (a : Nat × Nat) w => if w.page < a.1 then (w.page, w.outcome) else a) (256, 0) |>.2

/-! ### Messages (R327–R331) -/

/-- A message as received: its fields and the datagram's addresses. -/
structure YrapReq where
  vlan : Option Nat
  v6 : Bool
  ip : Nat
  port : Nat
  op : Nat
  sid : Nat
  status : Nat
  len : Nat
  tag : Nat
  ctr : Nat
  /-- Bytes 0 to the end of the body, the body, the MAC. -/
  front : List Byte
  body : List Byte
  mac : List Byte
  /-- LEN matches the datagram. -/
  fits : Bool
  deriving DecidableEq, Repr

/-- The message of a datagram; none where MAGIC or VER is wrong or the header is not complete. -/
def yrapParse (vlan : Option Nat) (v6 : Bool) (ip port : Nat) (d : List Byte) : Option YrapReq :=
  let n (i k : Nat) : Nat := bytesNat ((d.drop i).take k)
  if d.length < 16 ∨ n 0 3 ≠ 0x595201 then none else
  let len := n 6 2
  let sid := n 4 1
  some { vlan, v6, ip, port, op := n 3 1, sid, status := n 5 1, len, tag := n 8 4, ctr := n 12 4,
         front := d.take (16 + len), body := (d.drop 16).take len, mac := d.drop (16 + len),
         fits := d.length == 16 + len + (if sid = 0 then 0 else 16) }

/-- The message at the head of the receive queue. -/
def yrapHead (s : State) : Option YrapReq := match s.link.genQ with
  | f :: _ => match f.payload with
    | .udp v6 src _ sp _ d => yrapParse f.vlan v6 src sp d
    | _ => none
  | [] => none

/-- The head of the receive queue leaves it. -/
def genPop (s : State) : State := { s with link.genQ := s.link.genQ.tail }

/-- An address as bytes: what a session is bound to (R338). -/
def ipBytes (v6 : Bool) (ip : Nat) : List Byte := natBytes (if v6 then 16 else 4) ip

/-- The wire bytes of a message (R331). -/
def yrapWire (vlan : Option Nat) (v6 : Bool) (body : Nat) (mac : Bool) : Nat := 62 + 4 * b2n vlan.isSome + (if v6 then 40 else 20) + body + 16 * b2n mac

/-- A message is built and queued with the VLAN tag of its request; with a key it carries its MAC. -/
def yrapSend (vlan : Option Nat) (v6 : Bool) (ip port op sid status tag ctr : Nat) (body : List Byte) (dir : Byte) (sk : Option (List Byte)) (s : State) : State :=
  let front := [0x59, 0x52, 0x01, BitVec.ofNat 8 op, BitVec.ofNat 8 sid, BitVec.ofNat 8 status] ++ natBytes 2 body.length ++ natBytes 4 tag
    ++ natBytes 4 ctr ++ body
  let mac := match sk with
    | some k => hmac16 k (dir :: front)
    | none => []
  queueIp { kind := 3, wire := yrapWire vlan v6 body.length sk.isSome, what := .yrap port ip (front ++ mac), vlan, hop := some (hopTo s v6 ip) } s

/-- The key that signs a reply to session `sid`: none without an open session. -/
def replyKey (s : State) (sid : Nat) : Option (List Byte) := match sessionOf s sid with
  | some (_, x) => if x.pending then none else some x.sk
  | none => none

/-- A reply to a request; those with STATUS 3, 4 and 8 carry no MAC and are limited to four per second (R330). -/
def yrapReply (m : YrapReq) (status : Nat) (body : List Byte) (sk : Option (List Byte)) (s : State) : State :=
  let bare := status == 3 || status == 4 || status == 8
  if bare && decide (4 ≤ s.acc.anonReplies) then s else
  let s := if bare then { s with acc.anonReplies := s.acc.anonReplies + 1 } else s
  yrapSend m.vlan m.v6 m.ip m.port m.op m.sid status m.tag m.ctr body 0x01 (if bare then none else sk) (s.bump F.ACC_CNT_YRAP_REPLIES)

/-- N or P of a request. -/
def yrapCount (m : YrapReq) : Nat := (m.body.getD (if m.op = 3 then 0 else 4) 0).toNat

/-- Reserved bytes that are not 0: STATUS, CTR without a session, bytes 5–7 of a READ or WRITE, SID of a SESSION (DEDUCED, log entry 113). -/
def yrapReserved (m : YrapReq) : Bool :=
  m.status != 0 || (m.sid == 0 && m.ctr != 0) || ((m.op == 1 || m.op == 2) && ((m.body.drop 5).take 3).any (· != 0)) || (m.op == 4 && m.sid != 0)

/-- N or P out of range, or LEN does not match it. -/
def yrapRange (m : YrapReq) : Bool :=
  let n := yrapCount m
  match m.op with
  | 1 => m.len != 8 || n == 0 || decide (128 < n)
  | 2 => m.len != 8 + 4 * n || n == 0 || decide (64 < n)
  | 3 => m.len != 1 + n || n == 0 || decide (16 < n)
  | _ => false

/-- Orders 1–4 of R330. -/
def yrapStatus (s : State) (m : YrapReq) : Nat :=
  if !m.fits || yrapReserved m then 0x01
  else if m.op = 0 ∨ 4 < m.op then 0x07
  else if yrapRange m then 0x02
  else if m.sid = 0 ∧ (m.op = 2 ∨ m.op = 3 ∨ (m.op = 1 ∧ !s.flag F.ACC_CFG_ANON_READ)) then 0x06
  else 0

/-- The link processor may make remote accesses: in a gap between slots, and in a LINK_JOB slot whose cap is not used up (R333; DEDUCED, log entry 123). -/
def linkMay (s : State) : Bool := match s.plan.run with
  | none => true
  | some r => r.slot.action == 10 && (r.slot.arg % 256 == 0 || decide (r.used < r.slot.arg % 256))

/-- `n` words are accessed. -/
def linkUse (n : Nat) (s : State) : State := { s with plan.run := s.plan.run.map fun r => { r with used := r.used + n } }

/-- A request is carried out (R328): a READ is answered at once, a WRITE or COMMIT after the boundary (R329). -/
def yrapDo (ns : Nat) (m : YrapReq) (sk : Option (List Byte)) (s : State) : State :=
  let a := bytesNat (m.body.take 4)
  let n := yrapCount m
  let path : Path := .yrap m.sid
  let s := linkUse n s
  let late (ws : List WordOut) (s : State) : State :=
    { s with acc.late := s.acc.late ++ [{ path := path, dest := .yrap m.vlan m.v6 m.ip m.port m.tag, op := m.op, sid := m.sid, ctr := m.ctr,
                                          sk := sk.getD [], words := ws }] }
  match m.op with
  | 1 =>
    let r := readWords ns n a s
    let zeros := List.replicate (4 * (n - r.2.1.length)) 0
    yrapReply m 0 ([BitVec.ofNat 8 r.2.1.length, BitVec.ofNat 8 r.2.2, 0, 0] ++ wordsBytes r.2.1 ++ zeros) sk r.1
  | 2 => let r := writeWords path (bytesWords (m.body.drop 8)) a s; late r.2 r.1
  | _ => let r := commitPages path ((m.body.drop 1).map (·.toNat)) s; late r.2 r.1

/-- Orders 5–8 of R330 and the request itself. -/
def yrapRequest (ns : Nat) (m : YrapReq) (s : State) : State :=
  let (s, st) := if m.sid = 0 then (s, 0)
    else checkAuthentic 4 m.port (ipBytes m.v6 m.ip) m.sid m.ctr (0x00 :: m.front) m.mac s
  if st ≠ 0 then yrapReply m st [] none s else
  let sk := if m.sid = 0 then none else replyKey s m.sid
  if m.op = 1 ∧ s.get F.MAC_TX_GAP < yrapWire m.vlan m.v6 (4 + 4 * yrapCount m) (m.sid != 0) then
    yrapReply m 5 [] sk (s.bump F.ACC_CNT_YRAP_TOO_LONG)
  else endExhausted m.sid m.ctr (yrapDo ns m sk (acceptRequest m.sid m.ctr s))

/-- A SESSION operation: the session message is answered with one; a malformed one with FORMAT (DEDUCED, log entry 110). -/
def yrapSession (m : YrapReq) (s : State) : State := match sessionMsg 4 m.port (ipBytes m.v6 m.ip) m.body s with
  | (s, some b) => yrapReply m 0 b none s
  | (s, none) => yrapReply m 1 [] none s

/-- A message is handled. -/
def yrapHandle (ns : Nat) (m : YrapReq) (s : State) : State :=
  let st := yrapStatus s m
  if st ≠ 0 then yrapReply m st [] (replyKey s m.sid) s
  else if m.op = 4 then yrapSession m s else yrapRequest ns m s

/-- The READ, WRITE or COMMIT at the head of the receive queue is handled where its OP is `op` and the link processor may make accesses; otherwise it waits. -/
def yrapOp (op ns : Nat) (s : State) : State := match yrapHead s with
  | some m => if m.op = op ∧ linkMay s then yrapHandle ns m (genPop s) else s
  | none => s

/-- The session message at the head is handled where it is of type `kind`. -/
def yrapSessionOp (kind : Nat) (s : State) : State := match yrapHead s with
  | some m => if m.op = 4 ∧ sessionType m.body = kind then yrapHandle 0 m (genPop s) else s
  | none => s

/-- The YRAP part of a late reply. -/
def yrapLate (l : LateReply) (s : State) : State := match l.dest with
  | .yrap vlan v6 ip port tag =>
    let body := [BitVec.ofNat 8 (doneOf l.words), BitVec.ofNat 8 (outcomeOf l.words), 0, 0]
    yrapSend vlan v6 ip port l.op l.sid 0 tag l.ctr body 0x01 (some l.sk) (s.bump F.ACC_CNT_YRAP_REPLIES)
  | _ => s

/-! ### NOTIFY (R332) -/

/-- The open YRAP session that NOTIFY_SID names. -/
def notifySession (s : State) : Option (Nat × Session) := match sessionOf s (s.get F.ACC_NOTIFY_SID) with
  | some (slot, x) => if x.kind = 4 ∧ !x.pending ∧ s.get F.ACC_NOTIFY_SID ≠ 0 then some (slot, x) else none
  | none => none

/-- What a NOTIFY shows: SPI_EVSUM0–3 and TRAP. -/
def notifyWords (s : State) : List Word := tabulate 4 (evsum s) ++ [BitVec.ofNat 32 (b2n (anyTrap s))]

/-- A NOTIFY is due: for a page or trap that the last one of the lasting condition did not show, at most one every NOTIFY_MS; for the same again after 1 s. -/
def notifyDue (s : State) : Bool :=
  let gap := s.acc.notifyGap + tickUnits s
  let shown := (notifyWords s).zip (s.acc.notified ++ List.replicate 5 0)
  (anyEvent s || anyTrap s) && decide (s.get F.ACC_SESS_NOTIFY_MS * 288 ≤ 10 * gap)
    && (decide (28800 ≤ gap) || shown.any fun x => x.1 &&& ~~~ x.2 != 0)

/-- YRAP_NOTIFY (R332). The TAG of a NOTIFY is not given and is free. -/
def yrapNotify (s : State) : State := match notifySession s with
  | some (slot, x) =>
    if !linkUp s ∨ !notifyDue s then s else
    let x := { x with notifyCtr := satTo 0xFFFFFFFF (x.notifyCtr + 1) }
    let body := wordsBytes (notifyWords s)
    let tag := (Config.freeWord s.free).toNat
    let s := { s.fresh with acc.sessions := aset s.acc.sessions slot x, acc.notifyGap := 0, acc.notified := notifyWords s }
    yrapSend none (x.peer.length == 16) (bytesNat x.peer) x.port 5 x.sid 0 tag x.notifyCtr body 0x02 (some x.sk) s
  | none => s

/-- YRAP's times at a boundary; a condition that has ended is new when it comes again. -/
def tickYrap (s : State) : State :=
  { s with acc.notifyGap := satTo 28800 (s.acc.notifyGap + tickUnits s), acc.notified := if anyEvent s || anyTrap s then s.acc.notified else [] }

/-! ### Neighbours (R325, R326) -/

/-- DAD_FAIL: address 0, link-local, or 1, configured, fails duplicate address detection. -/
def dadFail (which : Nat) (s : State) : State :=
  if !linkUp s ∨ !s.flag F.MAC_FILT_IPV6_EN ∨ 2 ≤ which ∨ s.link.dadFailed.contains which then s
  else { s with link.dadFailed := which :: s.link.dadFailed }.raise E.ACC_DAD_FAIL

/-- The payload at the head of the receive queue. -/
def genPayload (s : State) : Option Payload := s.link.genQ.head?.map (·.payload)

/-- NEIGHBOUR_SOLICITATION. -/
def neighbourSolRx (s : State) : State := match genPayload s with
  | some (.neighbourSol _ t) =>
    let s := genPop s
    if (ip6Own s).contains t then queueTx (plainTx 72 (.neighbourAdv t)) s else s
  | _ => s

/-- ARP_REQUEST. -/
def arpRequestRx (s : State) : State := match genPayload s with
  | some (.arpRequest _ t) =>
    let s := genPop s
    if ownIp s false t then queueTx (plainTx 28 (.arpReply t)) s else s
  | _ => s

/-- ECHO_REQUEST. -/
def echoRequestRx (s : State) : State := match genPayload s with
  | some (.echo v6 src dst d) =>
    let s := genPop s
    if ownIp s v6 dst then queueIp { plainTx ((if v6 then 48 else 28) + d.length) (.echoReply src d) with hop := some (hopTo s v6 src) } s else s
  | _ => s

/-! ### Received frames -/

/-- A datagram that no row handles is dropped at once (R326, R330): an unsupported one, and a message with a wrong MAGIC or VER; both count in DROP. -/
def unsupported (s : State) (f : MacFrame) : Bool := match f.payload with
  | .udp v6 src dst sp dp d => !ownIp s v6 dst || dp != s.get F.ACC_CFG_PORT || (yrapParse f.vlan v6 src sp d).isNone
  | .echo v6 _ dst _ => !ownIp s v6 dst
  | .arpRequest _ _ => false
  | .neighbourSol _ _ => false
  | _ => true

/-- What a frame tells of the neighbour that sent it: the next hop to the source of a datagram, the address of an advertisement or a reply (R325; DESIGN CHOICE, log entry 168). -/
def learnFrom (f : MacFrame) (s : State) : State := match f.payload with
  | .udp v6 src _ _ _ _ => learnNbr v6 (hopTo s v6 src).ip f.src s
  | .echo v6 src _ _ => learnNbr v6 (hopTo s v6 src).ip f.src s
  | .neighbourAdv ip mac => learnNbr true ip mac s
  | .arpReply ip mac => learnNbr false ip mac s
  | _ => s

/-- A frame that only answers a resolution. -/
def resolves (f : MacFrame) : Bool := match f.payload with
  | .neighbourAdv _ _ => true
  | .arpReply _ _ => true
  | _ => false

/-- A message with an unknown OP, which has no row, is answered at once. -/
def unknownOp (f : MacFrame) : Option YrapReq := match f.payload with
  | .udp v6 src _ sp _ d => match yrapParse f.vlan v6 src sp d with
    | some m => if m.op = 0 ∨ 4 < m.op then some m else none
    | none => none
  | _ => none

/-- What becomes at once of a frame that has just been queued. -/
def afterQueued (f : MacFrame) (s : State) : State :=
  if f.etherType = 0x88F7 then
    match ptpDrops s f.dst f.payload with
    | some c => { s with link.ptpQ := s.link.ptpQ.dropLast }.bump c
    | none => s
  else
  let s := learnFrom f s
  if resolves f then { s with link.genQ := s.link.genQ.dropLast }
  else if unsupported s f then ({ s with link.genQ := s.link.genQ.dropLast }).bump F.ACC_CNT_YRAP_DROP
  else match unknownOp f with
    | some m => yrapHandle 0 m { s with link.genQ := s.link.genQ.dropLast }
    | none => s

/-- MAC_FRAME_RX: the eight checks, the queues, and in G3 the wake source LINE in DOZE and LULL (R250–R255, R575). -/
def macFrameRx (f : MacFrame) (s : State) : State :=
  let wake := linkUp s && (pstate s == 1 || pstate s == 2) && f.etherType != 0x88F7
  match macChecks f s with
  | (s, true) => let s := afterQueued f s; if wake then wakeLatch 0 s else s
  | (s, false) => s

end Sys2Proof.Machine
end

