-- ==== Sys2Proof/Machine/Fsk.lean ====
section
/-! DEFINITION. The FSK modem: carrier, reception, FSK_SERVICE, replies and burst frames, transmission, the jabber guard (chapter 06). Times are in 1/28 800 s;
a bit time is 24 and a character time 264. A time kept since an instant within a tick may differ from the exact one by less than a tick: what needs a least
time is let through when it may have passed, and what ends at a limit when the limit may have been reached (DESIGN CHOICE, log entry 5). -/

namespace Sys2Proof.Machine

/-! ### Carrier (R205–R207) -/

/-- CD_TH for a noise floor, in mVpp. -/
def cdTh (s : State) (nf : Nat) : Nat := min 110 (max 80 (nf + s.get F.FSK_CFG_CD_MARGIN_MV))

/-- The receiver hears the line. -/
def hears (s : State) : Bool := fskOn s && !s.flag F.FSK_STAT_TX_ACTIVE && s.fsk.blank == 0

/-- One bit time without carrier moves NF, held × 2^16, by 1/64 of the way to its amplitude `a` (R207; DEDUCED, log entry 158). -/
def nfStep (x a : Nat) : Nat := (63 * x + 65536 * a) / 64

/-- CD_TH follows NF and CD_MARGIN_MV while the receiver hears (R205, R207). -/
def showTh (s : State) : State := if hears s then s.put F.FSK_AD_CD_TH (cdTh s (s.get F.FSK_AD_NF)) else s

/-- CARRIER_DETECT: after bit times without carrier with the amplitudes `quiet`, two of amplitudes `a` and `b`. A frame counts as being received from its carrier on, and `mine` says
that it is addressed to the KV4811 (DEDUCED, log entry 114). -/
def carrierDetect (quiet : List Nat) (a b : Nat) (mine : Bool) (s : State) : State :=
  if !hears s || s.flag F.FSK_STAT_CARRIER then s else
  let nf := quiet.foldl nfStep s.fsk.nf
  let s := showTh ({ s with fsk.nf := nf }.put F.FSK_AD_NF (satTo 255 (nf / 65536)))
  let th := s.get F.FSK_AD_CD_TH
  if a ≤ th ∨ b ≤ th then s else
  (({ s with fsk.rxMine := mine, fsk.carU := 0 }.putB F.FSK_STAT_CARRIER true).putB F.FSK_STAT_RX_FRAME true).put F.FSK_AD_AMP (satTo 255 b)

/-- CARRIER_END: two bit times of amplitudes `a` and `b`. -/
def carrierEnd (a b : Nat) (s : State) : State :=
  let th := s.get F.FSK_AD_CD_TH - 10
  if !hears s || !s.flag F.FSK_STAT_CARRIER || decide (th ≤ a) || decide (th ≤ b) then s else
  { (s.putB F.FSK_STAT_CARRIER false).putB F.FSK_STAT_RX_FRAME false with fsk.quiet := 48 }

/-- NOISE_TIMEOUT: 25 character times of carrier (R211). -/
def noiseTimeout (s : State) : State :=
  if !fskOn s || !s.flag F.FSK_STAT_CARRIER || !s.flag F.FSK_STAT_RX_FRAME || !mayReach s s.fsk.carU 6600 then s
  else (s.putB F.FSK_STAT_RX_FRAME false).bump F.FSK_CNT_STR_NOISE

/-! ### Reception (R209–R213) -/

/-- A dropped frame (R213). -/
def fskDrop (f : Fld) (s : State) : State := (s.bump f).raise E.FSK_RX_ERR

/-- FRAME_GAP_TIMEOUT. -/
def frameGap (s : State) : State :=
  if !fskOn s || !s.flag F.FSK_STAT_RX_FRAME then s else fskDrop F.FSK_CNT_ERR_GAP (s.putB F.FSK_STAT_RX_FRAME false)

/-- The 38 address bits of the long address (R210). -/
def longAddr (s : State) : Nat := s.otp.devType % 2 ^ 14 * 2 ^ 24 + s.otp.devId % 2 ^ 24

/-- `n` bytes of FSK_TEXT from offset `off` on. -/
def fskText (s : State) (off n : Nat) : List Byte := (wordsBytes (tabulate ((n + 3) / 4) fun i => s.rdE 0x13 (off + 4 * i))).take n

/-- A frame's place in R211: 0 addressed to the KV4811 and answered, 1 ignored. -/
def addressed (s : State) (f : FskFrame) : Bool :=
  if f.long then
    f.addr == longAddr s || (f.addr == 0 && ((f.cmd == 11 && f.data.take 6 == fskText s 0x100 6) || (f.cmd == 21 && f.data.take 32 == fskText s 0x134 32)))
  else f.cmd == 0 && f.addr == s.get F.FSK_CFG_POLL_ADDR

/-- The exclusive OR of bytes (R209). -/
def xorBytes (bs : List Byte) : Byte := bs.foldl (· ^^^ ·) 0

/-- The bytes of a frame from its delimiter to its last data byte (R209, R210). -/
def headBytes (delim : Byte) (long : Bool) (addr : Nat) (sec burst : Bool) (cmd : Nat) (data : List Byte) : List Byte :=
  let top := 128 * b2n (!sec) + 64 * b2n burst
  let a := if long then natBytes 5 (top * 2 ^ 32 + addr) else [BitVec.ofNat 8 (top + addr)]
  delim :: (a ++ [BitVec.ofNat 8 cmd, BitVec.ofNat 8 data.length] ++ data)

/-- The delimiter of a frame from a master, a slave, or of a burst; the family's (PRESUMED, log entry 115). -/
def delimiter (kind : Nat) (long : Bool) : Byte :=
  (if kind = 0 then 0x02 else if kind = 1 then 0x06 else 0x01) ||| (if long then 0x80 else 0)

/-- The check byte of a received frame is the exclusive OR of its bytes (R209). -/
def checkOk (f : FskFrame) : Bool :=
  f.check == xorBytes (headBytes (delimiter f.kind f.long) f.long f.addr f.secondary f.burst f.cmd f.data)

/-- The characters of a frame from its delimiter on. -/
def frameChars (f : FskFrame) : Nat := (if f.long then 9 else 5) + f.data.length

/-- The commands that have a row (R227). -/
def fskKnown (c : Nat) : Bool :=
  [0, 1, 2, 3, 6, 7, 8, 9, 11, 12, 13, 15, 16, 17, 18, 19, 20, 21, 22, 33, 38, 40, 45, 46, 48, 59, 103, 104, 105, 107, 108, 109, 200, 201, 202, 203].contains c

/-- The mean of a mark and a space level, and the slicer's threshold, both × 2^16: learned over the preamble, then tracked with a time constant of 16 bit times (R208; DEDUCED, log
entry 158). -/
def levelMean (m : Int × Int) : Int := 32768 * (m.1 + m.2)
def slicer (learned tracked : List (Int × Int)) : Int :=
  tracked.foldl (fun x m => x + (levelMean m - x) / 16) ((learned.map levelMean).sum / learned.length)

/-- FSK_FRAME_RX: a whole frame is received (R209–R213, R238). -/
def frameRx (f : FskFrame) (s : State) : State :=
  if !hears s then s else
  let s := (s.putB F.FSK_STAT_RX_FRAME false).put F.FSK_AD_SLICER (toCode 8 (divRound (slicer f.learned f.tracked) 65536))
  let mine := f.kind == 0 && addressed s f
  let inj := mine && s.armedAt 0x13 1
  let s := if inj then s.disarm 0x13 1 else s
  if f.pre < 5 ∨ 20 < f.pre ∨ !mayReach s s.fsk.upU (264 * (2 + frameChars f) + f.gap) then s
  else if !f.charsOk then fskDrop F.FSK_CNT_ERR_CHAR s
  else if !checkOk f ∨ inj then fskDrop F.FSK_CNT_ERR_CHECK s
  else if f.kind ≠ 0 then (s.bump F.FSK_CNT_STR_STRANGER).raise E.FSK_STRANGER
  else if !mine then s.bump F.FSK_CNT_RX_OTHER
  else if 128 < f.data.length then fskDrop F.FSK_CNT_ERR_LONG s
  else
    let s := if fskKnown f.cmd then s.bump F.FSK_CNT_RX_GOOD else s.bump F.FSK_CNT_STR_NOCMD
    { s with fsk.rx := s.fsk.rx ++ [{ secondary := f.secondary, long := f.long, addr := f.addr, cmd := f.cmd, data := f.data }] }

/-! ### Replies (R214, R219, R222, R230) -/

/-- The flags of a master. -/
def coldF (sec : Bool) : Fld := if sec then F.FSK_STAT_CS_S else F.FSK_STAT_CS_P
def changedF (sec : Bool) : Fld := if sec then F.FSK_STAT_CC_S else F.FSK_STAT_CC_P

/-- The device status byte for a master (R230). Until the master's first command 48, bit 4 compares with 0, the register's reset value; SRST of the page keeps what was read
(DESIGN CHOICE, log entry 160). -/
def fskStatus (s : State) (sec : Bool) : Nat :=
  let seen := if sec then s.fsk.seenS else s.fsk.seenP
  128 * b2n (inFault s) + 64 * s.get (changedF sec) + 32 * s.get (coldF sec) + 16 * b2n (xstat s != seen)
    + 8 * b2n (s.get F.LDAC_OUT_SOURCE != 0) + 4 * b2n (s.flag F.LDAC_STAT_SAT_LO || s.flag F.LDAC_STAT_SAT_HI)
    + 2 * b2n ([1, 2, 3].any fun n => s.flag (F.FSK_VAR_CFG_EN n) && s.flag (F.FSK_VAR_CFG_OOL n)) + b2n (s.flag (F.FSK_VAR_CFG_OOL 0))

/-- A frame of the KV4811 from its delimiter on (R209, R210, R219). -/
def outBytes (kind : Nat) (long : Bool) (addr : Nat) (sec burst : Bool) (cmd : Nat) (data : List Byte) : List Byte :=
  let bs := headBytes (delimiter kind long) long addr sec burst cmd data
  bs ++ [xorBytes bs]

/-- A reply to a request is ready, its status byte as of now (DESIGN CHOICE, log entry 159): response code, device status and data; a broadcast request is answered with the own long address. -/
def fskReply (r : FskReq) (code : Nat) (data : List Byte) (s : State) : State :=
  if r.dead then s else
  let d := [BitVec.ofNat 8 code, BitVec.ofNat 8 (fskStatus s r.secondary)] ++ data
  let addr := if r.long then longAddr s else r.addr
  let bs := outBytes 1 r.long addr r.secondary (s.flag F.FSK_BURST_EN) r.cmd d
  { s with fsk.ready := s.fsk.ready ++ [⟨bs, s.get F.FSK_CFG_RESP_PRE, r.secondary, r.age⟩] }

/-- The answer to a write waits for its boundary: the requests behind it wait too (R221). -/
def fskLateWaits (s : State) : Bool := s.acc.late.any fun l => match l.dest with
  | .fsk _ => true
  | _ => false

/-- Requests whose command has no row are answered with code 64, in their turn (R227). -/
def fskUnknown : Nat → State → State
  | 0, s => s
  | f + 1, s => match s.fsk.lp with
    | r :: t => if fskKnown r.cmd || fskLateWaits s then s else fskUnknown f (fskReply r 64 [] { s with fsk.lp := t })
    | [] => s

/-- The request in turn, where its command is one of `cmds`. -/
def fskTurn (cmds : List Nat) (s : State) : Option FskReq := match s.fsk.lp with
  | r :: _ => if cmds.contains r.cmd && !fskLateWaits s then some r else none
  | [] => none

/-- The request in turn is processed by `f`. -/
def fskDo (cmds : List Nat) (f : FskReq → State → State) (s : State) : State := match fskTurn cmds s with
  | some r => fskUnknown 64 (f r { s with fsk.lp := s.fsk.lp.tail })
  | none => s

/-- A reply is pending (R225, R237). -/
def replyPending (s : State) : Bool :=
  !s.fsk.rx.isEmpty || !s.fsk.lp.isEmpty || !s.fsk.ready.isEmpty || !s.fsk.mq.isEmpty || fskLateWaits s

/-! ### Transmission (R201–R204, R214–R220) -/

/-- The draw at the last governor sample is at or below the transmit limit (R203). -/
def txDrawOk (s : State) : Bool := decide (10 * s.get F.GOV_DRAW_DRAW + 5000 ≤ budget s)

/-- TX_GATED: a transmission that is ready waits for the draw. -/
def showGate (s : State) : State :=
  let waits := fskOn s && s.fsk.sending.isNone && !s.fsk.stuck && (!s.fsk.mq.isEmpty || (s.fsk.burstTx && s.fsk.burst.isSome))
  s.putB F.FSK_STAT_TX_GATED (waits && !txDrawOk s)

/-- A transmission may start after `chars` character times without carrier (R203, R204, R218, R225). -/
def txMay (s : State) (chars : Nat) : Bool :=
  fskOn s && s.fsk.sending.isNone && !s.fsk.stuck && s.flag F.LINE_STAT_LOOP_ENG && !startCeil s && !s.flag F.FSK_STAT_CARRIER
    && mayReach s s.fsk.quiet (264 * chars) && txDrawOk s

/-- A transmission starts. -/
def txBegin (o : FskOut) (s : State) : State :=
  showGate ({ s with fsk.sending := some o, fsk.sendU := 0 }.putB F.FSK_STAT_TX_ACTIVE true)

/-- FSK_TX_START: the oldest reply that the modem holds (R214, R218, R222); an injection holds one back. -/
def fskTxStart (s : State) : State :=
  match s.fsk.mq with
  | o :: t =>
    if s.armedAt 0x13 2 ∨ !mayReach s o.age 264 ∨ !mayStay s o.age 7392 then showGate s
    else if !txMay s 1 then showGate s
    else txBegin o (({ s with fsk.mq := t }.bump F.FSK_CNT_TX_REPLY).putB (coldF o.secondary) false)
  | [] => s

/-- The oldest reply that has not started, or the request that waits for it, is discarded. -/
def dropReply (s : State) : Option State := match s.fsk.mq, s.fsk.ready with
  | o :: t, _ => if mayReach s o.age 7392 then some { s with fsk.mq := t } else none
  | [], o :: t => if mayReach s o.age 7392 then some { s with fsk.ready := t } else none
  | [], [] =>
    let late (r : FskReq) : Bool := !r.dead && mayReach s r.age 7392
    let kill (r : FskReq) : FskReq := { r with dead := r.dead || late r }
    let lateTo (l : LateReply) : LateReply := match l.dest with
      | .fsk r => { l with dest := .fsk (kill r) }
      | _ => l
    let any := s.fsk.lp.any late || s.fsk.rx.any late || s.acc.late.any fun l => match l.dest with
      | .fsk r => late r
      | _ => false
    if any then
      some { s with fsk.lp := s.fsk.lp.map kill, fsk.rx := s.fsk.rx.filter (fun r => !late r), acc.late := s.acc.late.map lateTo }
    else none

/-- REPLY_LATE (R214). -/
def replyLate (s : State) : State :=
  if !fskOn s then s else
  match dropReply s with
  | some s => showGate (((s.disarm 0x13 2).bump F.FSK_CNT_TX_LATE).raise E.FSK_REPLY_LATE)
  | none => s

/-- The transmitter goes off: the receiver stays blanked for two bit times (R207). -/
def txOff (s : State) : State :=
  showGate ({ s with fsk.sending := none, fsk.sendU := 0, fsk.blank := 48, fsk.quiet := 0 }.putB F.FSK_STAT_TX_ACTIVE false)

/-- FSK_TX_END: the frame's characters have been sent, preamble included. -/
def fskTxEnd (s : State) : State := match s.fsk.sending with
  | some o => if mayReach s s.fsk.sendU (264 * (o.pre + o.bytes.length)) then txOff s else s
  | none => s

/-- The jabber guard trips (R220). -/
def jabber (inj : Bool) (s : State) : State :=
  let s := { s with fsk.stuck := true }.bump F.FSK_CNT_TX_JABBER
  faultEvent 0x30 0 (if s.fsk.sending.isSome then txOff s else showGate s) false inj

/-- FSK_TX_STUCK: the transmitter has been active for 1.5 s. -/
def fskTxStuck (s : State) : State := if s.fsk.sending.isSome ∧ mayReach s s.fsk.sendU 43200 then jabber false s else s

/-! ### FSK_SERVICE (R216, R232) -/

/-- The snapshot of variable `n`: its word, and whether the read ended OK; where it did not no value is stated, and it is free. -/
def snapVar (n : Nat) (s : State) : State × (Word × Bool) :=
  match readAccess (BitVec.ofNat 32 (s.get (F.FSK_VAR_ADDR_ADDR n))) 0 s with
  | (s, 0, w) => (s, (w, true))
  | (s, _, _) => (s.fresh, (Config.freeWord s.free, false))

/-- SNAP: the enabled variables, in order. -/
def fskSnap (s : State) : State :=
  (List.range 4).foldl (fun s n =>
    if s.flag (F.FSK_VAR_CFG_EN n) then let r := snapVar n s; { r.1 with fsk.snap := r.1.fsk.snap.set n (some r.2) } else s) s

/-- FSK_SERVICE: the slot begins and its ARG is carried out: RXH, TXH, SNAP; outside G2 none of the three (R216; DESIGN CHOICE, log entry 161). -/
def fskService (idx at_ : Nat) (s : State) : State := match slotBegin 4 idx at_ 0 true s with
  | (s, true) =>
    if !fskOn s then s else
    let arg := if runArg s % 8 = 0 then 7 else runArg s % 8
    let s := if !bitOf arg 0 ∨ s.fsk.rx.isEmpty then s
      else fskUnknown 64 ({ s with fsk.lp := s.fsk.lp ++ s.fsk.rx, fsk.rx := [] }.raise E.FSK_FRAME_RX)
    let s := if !bitOf arg 1 then s
      else showGate { s with fsk.mq := s.fsk.mq ++ s.fsk.ready, fsk.ready := [], fsk.burstTx := s.fsk.burstTx || s.fsk.burst.isSome }
    if bitOf arg 2 then fskSnap s else s
  | (s, false) => s

/-! ### Boundary, restart -/

/-- The modem's times at a boundary. -/
def tickFsk (s : State) : State :=
  let u := tickUnits s
  let age (r : FskReq) : FskReq := { r with age := satTo 28800 (r.age + u) }
  let out (o : FskOut) : FskOut := { o with age := satTo 1728000 (o.age + u) }
  let f := s.fsk
  let f := { f with
    rx := f.rx.map age, lp := f.lp.map age, ready := f.ready.map out, mq := f.mq.map out, burst := f.burst.map fun t => satTo 1728000 (t + u),
    sendU := satTo 43200 (f.sendU + u), quiet := satTo 28800 (f.quiet + u), blank := f.blank - u, upU := satTo 100000 (f.upU + u), carU := satTo 28800 (f.carU + u),
    sinceDue := satTo 1728000 (f.sinceDue + u) }
  let lateTo (l : LateReply) : LateReply := match l.dest with
    | .fsk r => { l with dest := .fsk (age r) }
    | _ => l
  showTh (showGate { s with fsk := f, acc.late := s.acc.late.map lateTo })

/-- After a wake from FROST LINK was released 250 µs before RUN (R238, R572). -/
def fskUp (s : State) : State := { s with fsk.upU := 7 }

/-- SRST of the FSK page: the block restarts, the jabber guard included (R52, R220). -/
def fskRestart (s : State) : State :=
  let notFsk (l : LateReply) : Bool := match l.dest with
    | .fsk _ => false
    | _ => true
  { s with fsk := { seenP := s.fsk.seenP, seenS := s.fsk.seenS }, acc.late := s.acc.late.filter notFsk }

/-- A change from G2 to G1 abandons a burst frame that has not started (R239). -/
def fskLeaves (s : State) : State := { s with fsk.burst := none, fsk.burstTx := false }

/-- What an FSK commit that has applied brings about. -/
def afterFskCommit (before s : State) : State :=
  showTh (if before.get F.FSK_CFG_POLL_ADDR = s.get F.FSK_CFG_POLL_ADDR then s else s.raise E.FSK_POLL_CHANGE)

/-- The FSK validator (R241). -/
def checkFsk (s : State) : Option Nat :=
  let out (f : Fld) (lo hi : Nat) : Bool := decide (s.getS f < lo) || decide (hi < s.getS f)
  let en (n : Nat) : Bool := s.getS (F.FSK_VAR_CFG_EN n) == 1
  let code (c : Nat) : Bool := (List.range 4).any fun n => en n && s.getS (F.FSK_VAR_CFG_DVCODE n) == c
  let cmd := s.getS F.FSK_BURST_CMD
  if out F.FSK_CFG_CD_MARGIN_MV 5 40 || out F.FSK_CFG_RESP_PRE 5 20 || out F.FSK_BURST_PERIOD_MS 500 60000 then some 0x01
  else if !([1, 2, 3, 9, 33, 48].contains cmd) then some 0x02
  else if (List.range 4).any fun n => en n && !xaddrOk (s.getS (F.FSK_VAR_ADDR_ADDR n)) 4 then some 0x03
  else if (cmd = 9 ∨ cmd = 33) ∧ [F.FSK_BVARS_B0, F.FSK_BVARS_B1, F.FSK_BVARS_B2, F.FSK_BVARS_B3].any (fun f => !code (s.getS f)) then some 0x04
  else none

end Sys2Proof.Machine
end

