-- ==== Sys2Proof/Machine/FskCmd.lean ====
section
/-! DEFINITION. The commands that the KV4811 answers over FSK, burst frames, and the replies built after a boundary (chapter 06). The data layouts of the
universal and common-practice commands are the family's; bytes whose value neither the spec nor that layout gives are free (PRESUMED, log entry 115). -/

namespace Sys2Proof.Machine

/-! ### Data of read commands (R227, R231, R232) -/

/-- `n` bytes that the spec does not state. -/
def freeBytes (n : Nat) (s : State) : State × List Byte := (s.fresh n, tabulate n fun i => Config.freeByte (s.free + i))

/-- The snapshot of variable `n`; free, and read OK, before its first SNAP and while it is not enabled (R232). -/
def varSnap (n : Nat) (s : State) : State × (Word × Bool) := match s.fsk.snap.getD n none with
  | some v => if s.flag (F.FSK_VAR_CFG_EN n) then (s, v) else (s.fresh, (Config.freeWord s.free, true))
  | none => (s.fresh, (Config.freeWord s.free, true))

/-- The status of variable `n` (R232): QUAL, and 0 in the fault state or after a read that ended other than OK. -/
def varStatus (n : Nat) (s : State) : Nat := if inFault s || !(varSnap n s).2.2 then 0 else s.get (F.FSK_VAR_CFG_QUAL n)

/-- Unit and value of variable `n`. -/
def varBytes (n : Nat) (s : State) : State × List Byte :=
  let r := varSnap n s
  (r.1, BitVec.ofNat 8 (s.get (F.FSK_VAR_CFG_UNIT n)) :: bytesOfWord r.2.1)

/-- Several data one after another. -/
def concatData : List (State → State × List Byte) → State → State × List Byte
  | [], s => (s, [])
  | f :: t, s => let r := f s; let q := concatData t r.1; (q.1, r.2 ++ q.2)

/-- Data that need no free value. -/
def pureData (f : State → List Byte) (s : State) : State × List Byte := (s, f s)

/-- The loop current in mA: TARGET_DUA × 0.1 µA. -/
def loopBytes (s : State) : List Byte := bytesOfWord (singleOf (s.get F.LDAC_OUT_TARGET_DUA) 10000)

/-- The span in force: during a passage still the one before it (R173). -/
def spanNow (s : State) : Nat := if s.flag F.LDAC_STAT_SPAN_PASS then 1 - s.get F.LDAC_CFG_SPAN else s.get F.LDAC_CFG_SPAN

/-- The percent of range on the span in force. -/
def percentBytes (s : State) : List Byte :=
  let span := spanNow s
  bytesOfWord (singleOf (((s.get F.LDAC_OUT_TARGET_DUA : Int) - spanBase span) * 100) (spanWidth span).toNat)

/-- Commands 0, 11, 21: 254, the expanded device type, the least preambles of a request, revision 7, four bytes not stated, the device ID, RESP_PRE, and nine
bytes not stated. -/
def identData : State → State × List Byte :=
  concatData [pureData fun s => [254] ++ natBytes 2 s.otp.devType ++ [5, 7], freeBytes 4,
    pureData fun s => natBytes 3 s.otp.devId ++ [BitVec.ofNat 8 (s.get F.FSK_CFG_RESP_PRE)], freeBytes 9]

/-- Command 3: the loop current, and unit and value of variable 0 and of the other enabled ones. -/
def dynamicData (s : State) : State × List Byte :=
  concatData (pureData loopBytes :: varBytes 0 :: (([1, 2, 3].filter fun n => s.flag (F.FSK_VAR_CFG_EN n)).map varBytes)) s

/-- The enabled variable with device-variable code `c`. -/
def varOfCode (s : State) (c : Nat) : Option Nat :=
  (List.range 4).find? fun n => s.flag (F.FSK_VAR_CFG_EN n) && s.get (F.FSK_VAR_CFG_DVCODE n) == c

/-- Command 33's answer for a code: the code, unit and value; a code that names no enabled variable has unit 250 and no stated value. -/
def codeBytes (c : Byte) (s : State) : State × List Byte := match varOfCode s c.toNat with
  | some n => let r := varBytes n s; (r.1, c :: r.2)
  | none => let r := freeBytes 4 s; (r.1, [c, 250] ++ r.2)

/-- Command 9's answer for a code: the code, its classification, unit, value and status. -/
def statusBytes (c : Byte) (s : State) : State × List Byte :=
  let (s, cl) := freeBytes 1 s
  match varOfCode s c.toNat with
  | some n =>
    let st := varStatus n s
    let r := varBytes n s
    (r.1, c :: (cl ++ r.2 ++ [BitVec.ofNat 8 (64 * st)]))
  | none => let r := freeBytes 4 s; (r.1, c :: (cl ++ [250] ++ r.2 ++ [0]))

/-- Command 9: a status byte that is not stated, the variables, and a time stamp that is not stated. -/
def statusData (cs : List Byte) : State → State × List Byte := concatData ([freeBytes 1] ++ (cs.take 8).map statusBytes ++ [freeBytes 4])

/-- Command 33. -/
def variableData (cs : List Byte) : State → State × List Byte := concatData ((cs.take 4).map codeBytes)

/-- Command 48 (R231). -/
def extraData (s : State) : List Byte := natBytes 2 (xstat s) ++ natBytes 2 (s.get F.FSK_XUSER_USER) ++ [0, 0, 0, 0, 0]

/-- Command 105: burst control, command, the four variables and four unused ones, the message, the number of messages, the extended command, the period and
the longest period in 1/32 ms, the continuous trigger with bytes that are not stated. -/
def burstData : State → State × List Byte :=
  concatData [pureData fun s => [BitVec.ofNat 8 (s.get F.FSK_BURST_EN), BitVec.ofNat 8 (s.get F.FSK_BURST_CMD)] ++ bytesOfWord (s.rdE 0x13 0x054)
      ++ [250, 250, 250, 250, 0, 1] ++ natBytes 2 (s.get F.FSK_BURST_CMD) ++ natBytes 4 (32 * s.get F.FSK_BURST_PERIOD_MS),
    freeBytes 4, pureData fun _ => [0], freeBytes 6]

/-- The data of a command that a burst frame may carry. -/
def burstCmdData (cmd : Nat) (s : State) : State × List Byte :=
  let slots := bytesOfWord (s.rdE 0x13 0x054)
  match cmd with
  | 1 => varBytes 0 s
  | 2 => (s, loopBytes s ++ percentBytes s)
  | 3 => dynamicData s
  | 9 => statusData slots s
  | 33 => variableData slots s
  | _ => (s, extraData s)

/-! ### Read commands -/

/-- A read command answers with its data and code 0. -/
def readCmd (cmds : List Nat) (f : State → State × List Byte) : State → State :=
  fskDo cmds fun r s => let x := f s; fskReply r 0 x.2 x.1

/-- Commands 9 and 33 need at least one code: code 5 without one. -/
def codesCmd (cmd : Nat) (f : List Byte → State → State × List Byte) : State → State :=
  fskDo [cmd] fun r s => if r.data.isEmpty then fskReply r 5 [] s else let x := f r.data s; fskReply r 0 x.2 x.1

/-- Command 11 or 21 to the own long address: answered where the tag of `n` bytes at `off` of FSK_TEXT matches. -/
def tagCmd (cmd off n : Nat) : State → State :=
  fskDo [cmd] fun r s =>
    if r.data.length < n then fskReply r 5 [] s
    else if r.data.take n ≠ fskText s off n then s
    else let x := identData s; fskReply r 0 x.2 x.1

/-- Command 48: the master has now read FSK_XSTAT (R230). -/
def statusCmd : State → State :=
  fskDo [48] fun r s =>
    let s := if r.secondary then { s with fsk.seenS := xstat s } else { s with fsk.seenP := xstat s }
    fskReply r 0 (extraData s) s

/-! ### Write commands (R223, R228, R229) -/

/-- Fields are written one after another by a path, each to its register's shadow word, until one ends other than OK. -/
def fskPuts (path : Path) : List (Fld × Nat) → State → State × List WordOut
  | [], s => (s, [])
  | (f, v) :: t, s =>
    let a := 0x40000000 + f.page * 0x400 + f.off
    match writeAccess path (BitVec.ofNat 32 a) (putBits (s.rd f.page f.off) f.hi f.lo v) s with
    | (s, 0) => let r := fskPuts path t s; (r.1, wordOut a 0 :: r.2)
    | (s, o) => (s, [wordOut a o])

/-- A universal write: the fields, the commits of `pages`, and the reply after the boundary; an order that ends other than OK has code 16 (R295). -/
def fskWrite (r : FskReq) (ws : List (Fld × Nat)) (pages : List Nat) (out : List Byte) (s : State) : State :=
  let path : Path := .fskU r.secondary
  match fskPuts path ws s with
  | (s, os) =>
    if outcomeOf os ≠ 0 then fskReply r 16 [] s else
    match commitPages path pages s with
    | (s, cs) =>
      if outcomeOf cs ≠ 0 then fskReply r 16 [] s else
      { s with acc.late := s.acc.late ++ [{ path := path, dest := .fsk r, op := r.cmd, words := os ++ cs, out := out, pages := pages }] }

/-- What a write command does with its data: a response code other than 0, or the fields, pages and reply data. -/
abbrev WriteCmd := State → List Byte → Nat ⊕ (List (Fld × Nat) × List Nat × List Byte)

/-- The request in turn makes register accesses and is processed by `f` once the link processor may make them (R333). -/
def accessDo (cmds : List Nat) (f : FskReq → State → State) (s : State) : State := if linkMay s then fskDo cmds f s else s

/-- A write command: code 7 while UNIV_WR_EN is 0, code 5 with fewer than `n` bytes. -/
def writeCmd (cmd n : Nat) (f : WriteCmd) : State → State :=
  accessDo [cmd] fun r s =>
    if !s.flag F.FSK_CFG_UNIV_WR_EN then fskReply r 7 [] s
    else if r.data.length < n then fskReply r 5 [] s
    else match f s r.data with
      | .inl code => fskReply r code [] s
      | .inr (ws, pages, out) => fskWrite r ws pages out (linkUse (ws.length + pages.length) s)

/-- Words of FSK_TEXT from offset `off` on that hold `bs`, the first byte most significant. -/
def textWords (off : Nat) (bs : List Byte) : List (Fld × Nat) :=
  let n := (bs.length + 3) / 4
  tabulate n fun i => (⟨0x13, off + 4 * i, 31, 0, true⟩, bytesNat (((bs ++ [0, 0, 0]).drop (4 * i)).take 4))

/-- Three bytes in bits [23:0] of the word at `off` (DATE, FINAL). -/
def textLow (off : Nat) (bs : List Byte) : Fld × Nat := (⟨0x13, off, 23, 0, true⟩, bytesNat bs)

/-- Command 6 (R223). -/
def pollCmd : WriteCmd := fun s d =>
  let poll := (d.getD 0 0).toNat
  let mode := (d.getD 1 0).toNat
  if 63 < poll then .inl 2
  else if 1 < mode then .inl 12
  else
    let m := s.get F.LDAC_CFG_MODE
    let set := if mode = 0 then [(F.LDAC_CFG_MODE, 1)] else if m = 1 then [(F.LDAC_CFG_MODE, 0)] else []
    .inr ((F.FSK_CFG_POLL_ADDR, poll) :: set, [0x13, 0x11], d.take 2)

/-- Commands 17, 18, 19, 22. -/
def messageCmd : WriteCmd := fun _ d => .inr (textWords 0x11C (d.take 24), [0x13], d.take 24)
def tagDescCmd : WriteCmd := fun _ d =>
  .inr (textWords 0x100 (d.take 6) ++ textWords 0x108 ((d.drop 6).take 12) ++ [textLow 0x114 ((d.drop 18).take 3)], [0x13], d.take 21)
def finalCmd : WriteCmd := fun _ d => .inr ([textLow 0x118 (d.take 3)], [0x13], d.take 3)
def longTagCmd : WriteCmd := fun _ d => .inr (textWords 0x134 (d.take 32), [0x13], d.take 32)

/-- The first four data bytes as a single. -/
def dataSingle (d : List Byte) : Option (Int × Nat) := singleVal (BitVec.ofNat 32 (bytesNat (d.take 4)))

/-- Command 40 (R229). -/
def fixedCmd : WriteCmd := fun s d =>
  if s.get F.LDAC_CFG_MODE = 1 then .inl 11 else
  match dataSingle d with
  | none => .inl 4
  | some (n, den) =>
    if n = 0 then .inr ([(F.LDAC_CFG_MODE, 0)], [0x11], d.take 4)
    else if n * 5 < 16 * (den : Int) then .inl 4
    else if 24 * (den : Int) < n then .inl 3
    else .inr ([(F.LDAC_TEST_TEST_UA, (divRound (n * 1000) den).toNat), (F.LDAC_CFG_MODE, 2)], [0x11], d.take 4)

/-- Commands 45 and 46: TEST must be in force at `ref` µA; what is added to field `f` is `k` × (ref − m) / `per`, rounded, within ±`lim`. -/
def trimCmd (ref : Nat) (f : Fld) (k per : Nat) (lim : Int) : WriteCmd := fun s d =>
  if loopSource s ≠ 2 ∨ s.get F.LDAC_TEST_TEST_UA ≠ ref then .inl 9 else
  match dataSingle d with
  | none => .inl 4
  | some (n, den) =>
    let add := divRound (((ref : Int) * den - n * 1000) * k) (per * den)
    let v := signed 16 (s.getS f) + add
    if lim < v then .inl 3 else if v < -lim then .inl 4 else .inr ([(f, toCode 16 v)], [0x11], d.take 4)

/-- Command 59. -/
def preambleCmd : WriteCmd := fun _ d =>
  let n := (d.getD 0 0).toNat
  if n < 5 then .inl 4 else if 20 < n then .inl 3 else .inr ([(F.FSK_CFG_RESP_PRE, n)], [0x13], d.take 1)

/-- Command 103: the message, the period and the longest period in 1/32 ms. -/
def burstPeriodCmd : WriteCmd := fun _ d =>
  let ms := bytesNat ((d.drop 1).take 4) / 32
  if (d.getD 0 0).toNat ≠ 0 then .inl 9
  else if ms < 500 then .inl 4
  else if 60000 < ms then .inl 3
  else .inr ([(F.FSK_BURST_PERIOD_MS, ms)], [0x13], d.take 9)

/-- Command 104: only the continuous trigger, 0, is accepted. -/
def burstTriggerCmd : WriteCmd := fun _ d => if (d.getD 1 0).toNat ≠ 0 then .inl 2 else .inr ([], [0x13], d)

/-- Command 107: the codes of the burst slots. -/
def burstVarsCmd : WriteCmd := fun _ d =>
  let fs := [F.FSK_BVARS_B0, F.FSK_BVARS_B1, F.FSK_BVARS_B2, F.FSK_BVARS_B3]
  .inr ((fs.zip d).map (fun x => (x.1, x.2.toNat)), [0x13], d)

/-- Command 108: the burst command, in one byte or in two. -/
def burstCommandCmd : WriteCmd := fun _ d =>
  let c := if d.length < 2 then bytesNat d else bytesNat (d.take 2)
  if !([1, 2, 3, 9, 33, 48].contains c) then .inl 2 else .inr ([(F.FSK_BURST_CMD, c)], [0x13], d)

/-- Command 109: burst mode off or on. -/
def burstControlCmd : WriteCmd := fun _ d =>
  let c := (d.getD 0 0).toNat
  if 1 < c then .inl 2 else .inr ([(F.FSK_BURST_EN, c)], [0x13], d)

/-- Command 38: the configuration-changed flag of the requesting master (R222). -/
def clearChangedCmd : State → State :=
  fskDo [38] fun r s =>
    if !s.flag F.FSK_CFG_UNIV_WR_EN then fskReply r 7 [] s
    else let s := s.putB (changedF r.secondary) false; fskReply r 0 r.data s

/-! ### Vendor commands (R233–R236, R339) -/

/-- The path of a master as its sessions are bound: 5 primary, 6 secondary. -/
def masterKind (r : FskReq) : Nat := if r.secondary then 6 else 5

/-- Reply data with CTR and MAC where a session signs them; the MAC covers the status bytes too (R336). -/
def signedData (r : FskReq) (sk : Option (List Byte)) (ctr : Nat) (data : List Byte) (s : State) : List Byte := match sk with
  | some k =>
    let d := data ++ natBytes 4 ctr
    d ++ hmac16 k ([0x01, BitVec.ofNat 8 r.cmd, 0, BitVec.ofNat 8 (fskStatus s r.secondary)] ++ d)
  | none => data

/-- The parts of a vendor request: SID, CTR, the bytes between and the MAC; the size of what stands around the middle. -/
structure VendorReq where
  sid : Nat
  ctr : Nat
  mid : List Byte
  front : List Byte
  mac : List Byte
  deriving DecidableEq, Repr

/-- A vendor request is taken apart. -/
def vendorParse (d : List Byte) : VendorReq :=
  let sid := (d.headD 0).toNat
  if sid = 0 then ⟨0, 0, d.drop 1, d, []⟩
  else ⟨sid, bytesNat ((d.drop 1).take 4), (d.drop 5).take (d.length - 21), d.take (d.length - 16), d.drop (d.length - 16)⟩

/-- Orders 1 and 2 of R236: `at_` bytes stand before N or P in the middle part, `unit` bytes follow for each, up to `top`; the response code, or 0. -/
def vendorShape (d : List Byte) (at_ unit top : Nat) : Nat :=
  let around := if (d.headD 0).toNat = 0 then 1 else 21
  let lead := if (d.headD 0).toNat = 0 then 1 else 5
  if d.length < around + at_ + 1 then 5 else
  let n := (d.getD (lead + at_) 0).toNat
  if n = 0 ∨ top < n then 2
  else if d.length < around + at_ + 1 + n * unit then 5
  else if d.length ≠ around + at_ + 1 + n * unit then 2 else 0

/-- Order 3 of R236. -/
def vendorAuth (r : FskReq) (v : VendorReq) (s : State) : State × Bool :=
  if v.sid = 0 then (s, r.cmd == 200 && s.flag F.ACC_CFG_ANON_READ) else
  match checkAuthentic (masterKind r) 0 [] v.sid v.ctr ([0x00, BitVec.ofNat 8 r.cmd] ++ v.front) v.mac s with
  | (s, 0) => (acceptRequest v.sid v.ctr s, true)
  | (s, _) => (s, false)

/-- A vendor request of the given shape is checked and carried out by `f`, which gets the session's key. -/
def vendorCmd (cmd at_ unit top : Nat) (f : FskReq → VendorReq → Option (List Byte) → State → State) : State → State :=
  accessDo [cmd] fun r s =>
    let code := vendorShape r.data at_ unit top
    if code ≠ 0 then fskReply r code [] s else
    let v := vendorParse r.data
    match vendorAuth r v s with
    | (s, false) => fskReply r 16 [] s
    | (s, true) => endExhausted v.sid v.ctr (f r v (if v.sid = 0 then none else replyKey s v.sid) s)

/-- YRD. -/
def yrd (ns : Nat) : State → State :=
  vendorCmd 200 4 0 16 fun r v sk s =>
    let n := (v.mid.getD 4 0).toNat
    let x := readWords ns n (bytesNat (v.mid.take 4)) (linkUse n s)
    let data := [BitVec.ofNat 8 x.2.1.length, BitVec.ofNat 8 x.2.2] ++ wordsBytes x.2.1 ++ List.replicate (4 * (n - x.2.1.length)) 0
    fskReply r 0 (signedData r sk v.ctr data x.1) x.1

/-- The reply of a YWR or YCOMMIT waits for the boundary. -/
def vendorLate (r : FskReq) (v : VendorReq) (sk : Option (List Byte)) (ws : List WordOut) (pages : List Nat) (s : State) : State :=
  { s with acc.late := s.acc.late ++ [{ path := .fsk r.secondary v.sid, dest := .fsk r, op := r.cmd, sid := v.sid, ctr := v.ctr, sk := sk.getD [],
                                        words := ws, pages := pages }] }

/-- YWR. -/
def ywr : State → State :=
  vendorCmd 201 4 4 8 fun r v sk s =>
    let x := writeWords (.fsk r.secondary v.sid) (bytesWords (v.mid.drop 5)) (bytesNat (v.mid.take 4)) (linkUse (v.mid.getD 4 0).toNat s)
    vendorLate r v sk x.2 [] x.1

/-- YCOMMIT. -/
def ycommit : State → State :=
  vendorCmd 202 0 1 8 fun r v sk s =>
    let ps := (v.mid.drop 1).map (·.toNat)
    let x := commitPages (.fsk r.secondary v.sid) ps (linkUse ps.length s)
    vendorLate r v sk x.2 ps x.1

/-- YSESS: a session message (R335). Of a malformed one R236 states only an empty body (code 5) and one too long (code 2); any other has code 2 (DESIGN CHOICE, log entry 110). -/
def ysessDo (r : FskReq) (s : State) : State :=
  if r.data.isEmpty then fskReply r 5 [] s
  else if 64 < r.data.length then fskReply r 2 [] s
  else match sessionMsg (masterKind r) 0 [] r.data s with
    | (s, some b) => fskReply r 0 b s
    | (s, none) => fskReply r 2 [] s

def ysess : State → State := fskDo [203] ysessDo

/-- The FSK request in turn, where it is a session message of type `kind`. -/
def ysessOp (kind : Nat) (s : State) : State := match fskTurn [203] s with
  | some r => if sessionType r.data = kind then ysess s else s
  | none => s

/-! ### Replies after the boundary -/

/-- A commit on one of the pages has applied at this boundary. -/
def someApplied (pages : List Nat) (s : State) : Bool :=
  pages.any fun p => !s.page.crefused.contains p && !s.page.commitPend.contains p

/-- Configuration changed is set for both masters (R222). -/
def setChanged (s : State) : State := ((s.putB F.FSK_STAT_CC_P true).putB F.FSK_STAT_CC_S true).raise E.FSK_CFG_CHANGED

/-- The FSK part of a late reply. -/
def fskLate (l : LateReply) (s : State) : State := match l.dest with
  | .fsk r =>
    let asked := if l.op = 202 then (l.words.filter fun w => w.outcome == 0).map (·.page) else l.pages
    let ok := l.op = 202 ∨ l.op < 200 ∧ outcomeOf l.words = 0
    let s := if ok ∧ someApplied asked s then setChanged s else s
    if l.op < 200 then (if outcomeOf l.words ≠ 0 then fskReply r 16 [] s else fskReply r 0 l.out s)
    else
      let data := [BitVec.ofNat 8 (doneOf l.words), BitVec.ofNat 8 (outcomeOf l.words)]
      fskReply r 0 (signedData r (some l.sk) l.ctr data s) s
  | _ => s

/-- The replies that waited for this boundary are built (R329, R339). -/
def lateReplies (s : State) : State :=
  let ls := s.acc.late
  fskUnknown 64 (ls.foldl (fun s l => fskLate l (yrapLate l s)) { s with acc.late := [] })

/-! ### Burst mode (R224–R226) -/

/-- The burst period in 1/28 800 s. -/
def burstPeriod (s : State) : Nat := s.get F.FSK_BURST_PERIOD_MS * 288 / 10

/-- The burst frame that waits is abandoned (R225). -/
def burstAbandon (s : State) : State := showGate (({ s with fsk.burst := none, fsk.burstTx := false }.bump F.FSK_CNT_BURST_DEFER).raise E.FSK_BURST_DEFER)

/-- BURST_DUE: a frame that has waited since the last one became due is abandoned for it (R225). The first frame after a reset may be due at once, and the period runs on while
BURST_EN is 0 (R224; DESIGN CHOICE, log entry 162). -/
def burstDue (s : State) : State :=
  if !fskOn s || !s.flag F.FSK_BURST_EN || !mayReach s s.fsk.sinceDue (burstPeriod s) then s
  else
    let s := if s.fsk.burst.isSome then burstAbandon s else s
    { s with fsk.burst := some 0, fsk.burstTx := false, fsk.sinceDue := 0 }

/-- BURST_TX_START: the frame carries the latest SNAP; the master bit alternates. -/
def burstTxStart (s : State) : State :=
  if s.fsk.burst.isNone || !s.fsk.burstTx || !s.flag F.FSK_BURST_EN || replyPending s || !txMay s 8 then showGate s else
  let cmd := s.get F.FSK_BURST_CMD
  let sec := s.fsk.burstSec
  let (s, data) := burstCmdData cmd s
  let bs := outBytes 2 true (longAddr s) sec true cmd ([0, BitVec.ofNat 8 (fskStatus s sec)] ++ data)
  let s := { s with fsk.burst := none, fsk.burstTx := false, fsk.burstSec := !sec }.bump F.FSK_CNT_BURST_SENT
  txBegin ⟨bs, s.get F.FSK_CFG_RESP_PRE, sec, 0⟩ s

/-- BURST_DEFER: a burst frame that has waited one whole period (R225). -/
def burstDefer (s : State) : State := match s.fsk.burst with
  | some t => if mayReach s t (burstPeriod s) then burstAbandon s else s
  | none => s

end Sys2Proof.Machine
end

