-- ==== Sys2Proof/Machine/KeyActions.lean ====
section
/-! DEFINITION. The key scan, presses and sequences, and the local actions, which write through the KEYS path (chapter 20). -/

namespace Sys2Proof.Machine

/-! ### Scan and touch (R694–R700) -/

/-- A key's touch begins or ends. -/
def setTouch (n : Nat) (on : Bool) (s : State) : State :=
  setKey n { keyOf s n with on := 0, off := 0, touchMs := 0 } (keyBit F.KEYS_STAT_TOUCH n on s)

/-- One of the first eight scans of a key (R695). -/
def baseScan (n sig : Nat) (s : State) : State :=
  let k := keyOf s n
  let k := { k with scans := k.scans + 1, sum := k.sum + sig }
  let s := setKey n k s
  if k.scans < 8 then s else keyBit F.KEYS_STAT_BASE_OK n true (s.put (F.KEYS_SIG_BASELINE n) (k.sum / 8))

/-- The baseline's drift: one count towards the signal every DRIFT_SCANS scans without a touch (R697). -/
def driftScan (n : Nat) (s : State) : State :=
  let k := keyOf s n
  let d := keyDelta s n
  let b := s.get (F.KEYS_SIG_BASELINE n)
  if k.drift + 1 < s.get F.KEYS_TIME_DRIFT_SCANS then setKey n { k with drift := k.drift + 1 } s
  else setKey n { k with drift := 0 } (s.put (F.KEYS_SIG_BASELINE n) (if 0 < d then b + 1 else if d < 0 then b - 1 else b))

/-- The touch of key `n` after a scan: true where the scan declares a press (R696, R697, R699). -/
def touchScan (n : Nat) (s : State) : State × Bool :=
  let k := keyOf s n
  let d := keyDelta s n
  let th : Int := s.get F.KEYS_TH_TOUCH_TH
  let deb := s.get F.KEYS_CFG_DEB
  if hasBit s F.KEYS_STAT_IGNORE n then
    (if d < -(s.get F.KEYS_TH_NEG_TH : Int) then rebaseKey n (keyBit F.KEYS_STAT_IGNORE n false s) else s, false)
  else if hasBit s F.KEYS_STAT_TOUCH n then
    let low := decide (2 * d < th)
    if low && decide (deb ≤ k.off + 1) then (setTouch n false s, false)
    else (setKey n { k with off := if low then k.off + 1 else 0, touchMs := k.touchMs + s.get F.KEYS_CFG_SCAN_MS } s, false)
  else if th ≤ d then
    if deb ≤ k.on + 1 then (setTouch n true s, true) else (setKey n { k with on := k.on + 1 } s, false)
  else
    let s := setKey n { k with on := 0 } s
    (if 2 * (d.natAbs : Int) < th then driftScan n s else s, false)

/-- How long the delta has stayed below −NEG_TH (R698). -/
def negScan (n : Nat) (s : State) : State :=
  let k := keyOf s n
  let below := decide (keyDelta s n < -(s.get F.KEYS_TH_NEG_TH : Int))
  setKey n { k with negMs := if below then some (match k.negMs with
    | some t => t + s.get F.KEYS_CFG_SCAN_MS
    | none => 0) else none } s

/-- A scan of key `n` with its signal; true where it declares a press. -/
def scanKey (n sig : Nat) (s : State) : State × Bool :=
  let sig := min 65535 (if n = 0 ∧ 0 < s.keys.injMs then sig + 2 * s.get F.KEYS_TH_TOUCH_TH else sig)
  let s := s.put (F.KEYS_SIG_SIGNAL n) sig
  if !hasBit s F.KEYS_STAT_BASE_OK n then (baseScan n sig s, false) else touchScan n (negScan n s)

/-- REBASE_NEG of key `n` (R698). -/
def rebaseNeg (n : Nat) (s : State) : State := match (keyOf s n).negMs with
  | some t => if t < 2000 then s else ((rebaseKey n s).bump F.KEYS_CNT2_REBASE_NEG).raise E.KEYS_REBASE_NEG
  | none => s

/-- STUCK of key `n` (R699, R702). -/
def stuck (n : Nat) (s : State) : State :=
  if !hasBit s F.KEYS_STAT_TOUCH n ∨ (keyOf s n).touchMs < s.get F.KEYS_TIME_MAX_TOUCH_S * 1000 then s else
  let s := keyBit F.KEYS_STAT_IGNORE n true (rebaseKey n (setTouch n false s))
  clearSeq ((s.bump F.KEYS_CNT2_STUCK).raise E.KEYS_STUCK)

/-! ### Writes of the KEYS path (R704) -/

/-- A write of the KEYS path that changes bits [hi:lo] of a shadow word of LDAC. -/
def keysPut (f : Fld) (v : Nat) (s : State) : State := writeReg .keys f.page f.off (putBits (s.rd f.page f.off) f.hi f.lo v) s

/-- An LDAC commit of the KEYS path. -/
def keysCommit (s : State) : State := writeReg .keys 0x11 0x020 1 s

/-- MODE, TEST_UA. -/
def keysMode (mode : Nat) (s : State) : State := keysPut F.LDAC_CFG_MODE mode s
def keysTest (ua : Nat) (s : State) : State := keysPut F.LDAC_TEST_TEST_UA ua s

/-- A trim step: `up` adds it, otherwise it is subtracted, and the result is clamped to the field's range (R707, R196). -/
def trimStep (up : Bool) (s : State) : State :=
  let f := if s.get F.KEYS_STAT_TRIM = 1 then F.LDAC_UTRIM_ZERO_DUA else F.LDAC_UTRIM_GAIN_PPM
  let step : Int := if s.get F.KEYS_STAT_TRIM = 1 then s.get F.KEYS_TRIM_STEP_DUA else s.get F.KEYS_TRIM_STEP_PPM
  let lim : Int := if s.get F.KEYS_STAT_TRIM = 1 then 1000 else 5000
  let v := clampInt (-lim) lim (signed 16 (s.getS f) + (if up then step else -step))
  keysCommit (keysPut f (toCode 16 v) s)

/-- Trim mode ends; `restoreAll` brings back ZERO_DUA and GAIN_PPM too (R708, R709). -/
def leaveTrim (restoreAll : Bool) (s : State) : State := match s.keys.saved with
  | some v =>
    let s := { s with keys.saved := none, keys.trimMs := 0, keys.trimOn := false }.put F.KEYS_STAT_TRIM 0
    let s := keysTest v.testUa (keysMode v.mode s)
    let s := if restoreAll then keysPut F.LDAC_UTRIM_GAIN_PPM v.gain (keysPut F.LDAC_UTRIM_ZERO_DUA v.zero s) else s
    keysCommit s
  | none => s

/-- Trim mode is cancelled (R709). -/
def cancelTrim (s : State) : State :=
  if s.keys.saved.isNone then s else (leaveTrim true s).raise E.KEYS_TRIM_CANCEL

/-- TRIM_CANCEL: TRIM_TMO_S seconds without a press. -/
def trimTimeout (s : State) : State :=
  if s.keys.saved.isSome ∧ s.get F.KEYS_TIME_TRIM_TMO_S * 1000 ≤ s.keys.trimMs then cancelTrim s else s

/-- At a boundary: the TEST mode of trim mode has come into force, or another order has ended it (R709). -/
def trimBoundary (s : State) : State :=
  if s.keys.saved.isNone then s
  else if s.get F.LDAC_CFG_MODE = 2 then { s with keys.trimOn := true }
  else if s.keys.trimOn then cancelTrim s else s

/-! ### Sequences (R701–R703) -/

/-- The code of a full buffer (R701). -/
def seqCode (b : List (Nat × Nat)) : Option Nat := match b with
  | [(a, t), (b, _), (c, _)] =>
    if 5000 < t then none else
    match a, b, c with
    | 0, 1, 2 => some 1
    | 2, 1, 0 => some 2
    | 1, 1, 0 => some 3
    | 1, 0, 1 => some 4
    | 1, 2, 1 => some 5
    | 1, 1, 1 => some 6
    | _, _, _ => none
  | _ => none

/-- The first failing condition of R703 for a code. -/
def seqResult (s : State) (c : Nat) : Nat :=
  let en := bitOf (s.get F.KEYS_CFG_ACT_EN) (if c ≤ 2 then 0 else if c = 3 then 1 else 2)
  let trim := s.get F.KEYS_STAT_TRIM != 0
  if !en then 1
  else if 3 ≤ c ∧ gen s = 3 then 2
  else if 3 ≤ c ∧ c ≤ 5 ∧ s.get F.LDAC_CFG_MODE = 1 then 3
  else if (3 ≤ c && decide (c ≤ 5) && trim) || (c == 6 && !trim) then 4
  else 0

/-- A sequence is complete: it is refused, or accepted and waits for its action. -/
def seqComplete (c : Nat) (s : State) : State :=
  let r := seqResult s c
  let s := (clearSeq s).put F.KEYS_SEQ_CODE c |>.put F.KEYS_SEQ_RESULT r
  if r = 0 then (flash 2 ({ s with keys.done := some c }.bump F.KEYS_CNT_ACCEPTED)).raise E.KEYS_SEQ_DONE
  else (flash 3 (s.bump F.KEYS_CNT_REFUSED)).raise E.KEYS_SEQ_REFUSED

/-- The one press of a scan: a trim step, or an entry of the buffer (R701, R707). -/
def onePress (n : Nat) (s : State) : State :=
  let s := flash 1 { s with keys.trimMs := 0 }
  if s.keys.saved.isSome ∧ n ≠ 1 then trimStep (n == 2) s else
  let b := s.keys.buf ++ [(n, 0)]
  let b := b.drop (b.length - 3)
  let s := { s with keys.buf := b }
  match seqCode b with
  | some c => seqComplete c s
  | none => s

/-- SCAN_MS has passed since the last scan (R694). -/
def scanDue (s : State) : Bool := match s.keys.scanU with
  | some u => mayReach s u (s.get F.KEYS_CFG_SCAN_MS * 288 / 10)
  | none => true

/-- KEY_SCAN with the signals of K0–K2: the scan runs from the boundary at which the load's commits apply, every SCAN_MS (R694, R730). The presses of a chord are
discarded (R702). -/
def keyScan (g0 g1 g2 : Nat) (s : State) : State :=
  if !s.boot.loadDone ∨ !scanDue s then s else
  let s : State := { s with keys.scanU := some 0 }
  let ms := s.get F.KEYS_CFG_SCAN_MS
  let older (e : Nat × Nat) : Nat × Nat := (e.1, e.2 + ms)
  let s := { s with keys.buf := s.keys.buf.map older, keys.trimMs := s.keys.trimMs + ms }
  let (s, p0) := scanKey 0 g0 s
  let (s, p1) := scanKey 1 g1 s
  let (s, p2) := scanKey 2 g2 s
  let s := { s with keys.injMs := s.keys.injMs - ms }
  let ps := (if p0 then [0] else []) ++ (if p1 then [1] else []) ++ (if p2 then [2] else [])
  if ps.isEmpty then s else
  let s := (s.bump F.KEYS_CNT_PRESSES ps.length).raise E.KEYS_PRESS
  let s := match ps with
    | [n] => onePress n s
    | _ => flash 1 ({ clearSeq s with keys.trimMs := 0 }.bump F.KEYS_CNT2_CHORD)
  if ps.any fun n => bitOf (s.get F.PWR_WAKE_CFG_KEY_MASK) n then wakeLatch 4 s else s

/-! ### Actions (R705–R708) -/

/-- The accepted sequence `c` is carried out: none waits after it. -/
def actOn (c : Nat) (f : State → State) (s : State) : State :=
  if s.keys.done = some c then f { s with keys.done := none } else s

/-- Code 3: the loop test current on or off (R706). -/
def loopTest (s : State) : State :=
  let m := s.get F.LDAC_CFG_MODE
  keysCommit (keysMode (if m = 2 then 0 else 2) s)

/-- Code 4 or 5: trim mode `k` (1 zero, 2 span) is entered (R707). -/
def enterTrim (k : Nat) (s : State) : State :=
  let v : TrimSave := ⟨s.get F.LDAC_CFG_MODE, s.get F.LDAC_TEST_TEST_UA, s.get F.LDAC_UTRIM_ZERO_DUA, s.get F.LDAC_UTRIM_GAIN_PPM⟩
  let s := { s with keys.saved := some v, keys.trimMs := 0, keys.trimOn := false }.put F.KEYS_STAT_TRIM k
  keysCommit (keysTest (if k = 1 then 4000 else 20000) (keysMode 2 s))

/-- Code 6: trim mode ends with the trim kept, and with SAVE_EN the configuration is saved (R708). -/
def storeTrim (s : State) : State :=
  let s := leaveTrim false s
  if s.flag F.KEYS_CFG_SAVE_EN then saveConfig s else s

/-- The action of code `c` (R705–R708). -/
def keyAction (c : Nat) (s : State) : State := match c with
  | 1 => { s with keys.lockReq := some true }
  | 2 => { s with keys.lockReq := some false }
  | 3 => loopTest s
  | 4 => enterTrim 1 s
  | 5 => enterTrim 2 s
  | _ => storeTrim s

/-- An accepted sequence whose action no command has carried out in its tick is carried out at the boundary that ends it (R704). -/
def overdueAction (s : State) : State := match s.keys.done with
  | some c => actOn c (keyAction c) s
  | none => s

end Sys2Proof.Machine
end

