-- ==== Sys2Proof/Machine/Dma.lean ====
section
/-! DEFINITION. The DMA engine's jobs (chapter 13, R495–R499). -/

namespace Sys2Proof.Machine

/-- KIND, FORM and COUNT of a job; stream placement, a ring. -/
def jobKind (g : Fld → Nat) (j : Nat) : Nat := g (F.DMA_JOB_CFG_KIND j)
def jobForm (g : Fld → Nat) (j : Nat) : Nat := g (F.DMA_JOB_CFG_FORM j)
def jobCount (g : Fld → Nat) (j : Nat) : Nat := g (F.DMA_JOB_CFG_COUNT j)
def jobStream (g : Fld → Nat) (j : Nat) : Bool := g (F.DMA_JOB_CFG_PLACE j) == 1
def jobRing (g : Fld → Nat) (j : Nat) : Bool := g (F.DMA_JOB_CFG_RING j) == 1

/-- The bytes of a unit's source (R495). -/
def srcUnit (kind : Nat) : Nat := match kind with
  | 0 => 4
  | 1 => 256
  | _ => 320

/-- The bytes of a unit of the destination: of a ring's unit, and of an entry without a ring (R497). -/
def dstUnit (g : Fld → Nat) (j : Nat) : Nat := match jobKind g j with
  | 0 => 4
  | 2 => 256
  | _ => if jobStream g j then 16 else 320

/-- The cycles of a unit (R495), taken as exact (DESIGN CHOICE, log entry 17). -/
def unitCycles (kind : Nat) : Nat := match kind with
  | 0 => 1
  | 3 => 80
  | _ => 72

/-- A source word is read at `ns` ns of the tick: none where the read ends other than OK (R499); an injection makes it end in ECC_UNCORR. -/
def dmaWord (a ns : Nat) (s : State) : State × Option Word :=
  if s.armedAt 0x42 2 then
    let s := s.disarm 0x42 2
    (if a < 0x40000000 then memUncorr true a s else s, none)
  else match readAccess (BitVec.ofNat 32 a) ns s with
    | (s, 0, w) => (s, some w)
    | (s, _, _) => (s, none)

/-- `n` source words. -/
def dmaWords : Nat → Nat → State → State × Option (List Word)
  | 0, _, s => (s, some [])
  | n + 1, a, s => match dmaWord a 0 s with
    | (s, none) => (s, none)
    | (s, some w) => match dmaWords n (a + 4) s with
      | (s, some ws) => (s, some (w :: ws))
      | (s, none) => (s, none)

/-- 256 source bytes from any address. -/
def dmaBytes (a : Nat) (s : State) : State × Option (List Byte) :=
  match dmaWords ((a % 4 + 259) / 4) (a / 4 * 4) s with
  | (s, some ws) => (s, some (((wordsBytes ws).drop (a % 4)).take 256))
  | (s, none) => (s, none)

/-- A slot tile of the source is read and checked. -/
def dmaTile (a : Nat) (s : State) : State × TileRead :=
  if s.armedAt 0x42 2 then (memUncorr true a (s.disarm 0x42 2), .unreadable) else readTile a s

/-- A tile's bytes as they lie in memory, for TILECOPY; it is counted by its form, and an injection flips a bitmap bit of a SPARSE one. -/
def ownForm (a nnz : Nat) (s : State) : State × List Byte :=
  if (s.byteAt a).toNat = 1 then (s.bump F.DMA_CNT_DENSE, s.bytesAt a 264)
  else
    let bs := s.bytesAt a (40 + nnz)
    let s := s.bump F.DMA_CNT_SPARSE
    if s.armedAt 0x42 1 then
      let k := Config.freeNat s.free % 256
      let b := bs.getD (8 + k / 8) 0 ^^^ BitVec.ofNat 8 (2 ^ (k % 8))
      ((s.fresh).disarm 0x42 1, bs.take (8 + k / 8) ++ [b] ++ bs.drop (9 + k / 8))
    else (s, bs)

/-- What a unit's source gives: an error of the read, a failed check, or the bytes of the destination. -/
inductive UnitRead where
  | err
  | bad (code : Nat)
  | ok (bs : List Byte)
  deriving DecidableEq, Repr

/-- Unit `k` of job `j` reads its source, `ns` ns into the tick (R495, R496). -/
def unitRead (j k ns : Nat) (s : State) : State × UnitRead :=
  let kind := jobKind s.get j
  let a := s.get (F.DMA_JOB_SRC_ADDR j) + k * srcUnit kind
  match kind with
  | 0 => match dmaWord a ns s with
    | (s, some w) => (s, .ok (bytesOfWord w))
    | (s, none) => (s, .err)
  | 1 => match dmaBytes a s with
    | (s, some bs) => let r := storedTile (jobForm s.get j) (bs.map int8) s; (r.1, .ok r.2)
    | (s, none) => (s, .err)
  | _ => match dmaTile a s with
    | (s, .ok z vs) =>
      if kind = 2 then (s, .ok (vs.map fun v => BitVec.ofNat 8 (toCode 8 v))) else let r := ownForm a z s; (r.1, .ok r.2)
    | (s, .bad c) => (s, .bad c)
    | (s, .unreadable) => (s, .err)

/-- The ring of a job, in units; at least one. -/
def ringLen (s : State) (j : Nat) : Nat := max 1 (s.get (F.DMA_JOB_RLEN_LEN j))

/-- The place of a unit's bytes: COPY writes words, the other kinds whole entries. -/
def dmaStore (kind a : Nat) (bs : List Byte) (s : State) : State := match kind, bytesWords bs with
  | 0, w :: _ => if inPoweredSram s a 4 then (memWrite a w s).1 else s
  | _, _ => sramBytes a bs s

/-- A unit's bytes are written and the position advances (R487, R497); a stream entry longer than its whole ring is not written (DEDUCED, log entry 120). -/
def unitWrite (j : Nat) (bs : List Byte) (s : State) : State :=
  let kind := jobKind s.get j
  let dst := s.get (F.DMA_JOB_DST_ADDR j)
  let u := dstUnit s.get j
  let stream := jobStream s.get j && kind != 0 && kind != 2
  let bs := if stream then entryBytes bs else bs
  let n := if stream then bs.length / 16 else 1
  if jobRing s.get j then
    let len := ringLen s j
    let p := s.get (F.DMA_JOB_POS_POS j) % len
    if len < n then s
    else if len < p + n then
      let s := sramBytes (dst + p * u) (List.replicate 8 0) s
      (dmaStore kind dst bs s).put (F.DMA_JOB_POS_POS j) (n % len)
    else (dmaStore kind (dst + p * u) bs s).put (F.DMA_JOB_POS_POS j) ((p + n) % len)
  else
    let s := dmaStore kind (dst + s.dma.out) bs s
    { s with dma.out := s.dma.out + n * u }

/-- DMA_STAT shows the job that runs. -/
def showDma (s : State) : State := s.put F.DMA_STAT_RUNNING (match s.dma.jobs with
  | j :: _ => if s.dma.on then 2 ^ j else 0
  | [] => 0)

/-- The run of job `j` begins. -/
def runBegin (j : Nat) (s : State) : State :=
  let s := s.put F.DMA_STAT_ERR (setBitTo (s.get F.DMA_STAT_ERR) j false)
  let s := s.wr 0x42 (0x094 + 0x20 * j) 0
  showDma { s with dma.on := true, dma.units := 0, dma.out := 0, dma.spent := s.dma.spent + 16 }

/-- The run of the job in progress is over. -/
def runOver (s : State) : State := showDma { s with dma.jobs := s.dma.jobs.tail, dma.on := false, dma.units := 0, dma.out := 0 }

/-- The run of job `j` sets its ERR. -/
def runErr (j : Nat) (s : State) : State :=
  (s.put F.DMA_STAT_ERR (setBitTo (s.get F.DMA_STAT_ERR) j true)).putB (F.DMA_JOB_LAST_ERR j) true

/-- A metadata failure found by the DMA engine (R493). -/
def runMeta (j k code : Nat) (s : State) : State :=
  let s := (((s.put F.DMA_META_CODE code).put F.DMA_META_CHECKER 3).put F.DMA_META_LAYER j).put F.DMA_META_TILE (k % 256)
  faultEvent 0x50 code (((runErr j s).bump F.DMA_CNT3_META).raise E.DMA_META)

/-- Unit `dma.units` of job `j` is done (R495–R499). -/
def runUnit (j ns : Nat) (s : State) : State :=
  let k := s.dma.units
  match unitRead j k ns s with
  | (s, .err) => runOver (((runErr j s).bump F.DMA_CNT2_ERR).raise E.DMA_JOB_ERR)
  | (s, .bad c) => runOver (runMeta j k c s)
  | (s, .ok bs) =>
    let s := unitWrite j bs { s with dma.units := k + 1, dma.spent := s.dma.spent + unitCycles (jobKind s.get j) }
    let s := s.put (F.DMA_JOB_LAST_UNITS j) (k + 1)
    if k + 1 < jobCount s.get j then s
    else runOver (((s.putB (F.DMA_JOB_LAST_DONE j) true).bump F.DMA_CNT2_DONE).raise E.DMA_JOB_DONE)

/-- The run in progress is INCOMPLETE (R498). -/
def runCut (s : State) : State := if s.dma.on then runOver (s.bump F.DMA_CNT2_INCOMPLETE) else s

/-- The engine works: `now` is the number of cycles since the slot began, none for as many as it takes; `lim` those of an O slot. -/
def dmaSteps (mhz began : Nat) (now lim : Option Nat) : Nat → State → State
  | 0, s => s
  | f + 1, s => match s.dma.jobs with
    | [] => s
    | j :: _ =>
      let fits (t : Option Nat) (c : Nat) : Bool := match t with
        | some t => decide (c ≤ t)
        | none => true
      if !s.dma.on then
        if fits now s.dma.spent && fits lim s.dma.spent then dmaSteps mhz began now lim f (runBegin j s) else s
      else
        let stop := s.dma.spent + unitCycles (jobKind s.get j)
        if !fits lim stop then dmaSteps mhz began now lim f (runCut s)
        else if fits now stop then dmaSteps mhz began now lim f (runUnit j (began * 1000 + stop * 1000 / max 1 mhz) s)
        else s

/-- A DMA_JOB slot runs. -/
def dmaSlot (s : State) : Option Running := match s.plan.run with
  | some r => if r.slot.action = 9 then some r else none
  | none => none

/-- The work of a DMA_JOB slot up to `at_` µs of the tick, or all that it does (R498). -/
def dmaUntil (at_ : Option Nat) (s : State) : State := match dmaSlot s with
  | some r =>
    let mhz := levelMhz (level s)
    let lim := if r.slot.kind = 2 then some ((r.slot.start + r.slot.budget - r.began) * mhz) else none
    let left := s.dma.jobs.foldl (fun a j => a + jobCount s.get j + 2) 1
    dmaSteps mhz r.began (at_.map fun t => (t - r.began) * mhz) lim left s
  | none => s

/-- The slot is over: a run that has not ended is INCOMPLETE, and the jobs after it do not run. -/
def dmaAbort (s : State) : State := if s.dma.jobs.isEmpty then s else
  let s := runCut s
  showDma { s with dma := {} }

/-- DMA_JOB: the slot begins, with the jobs that ARG selects among those with EN = 1 (R495, DEDUCED, log entry 120). -/
def dmaJob (idx at_ : Nat) (s : State) : State := match slotBegin 9 idx at_ 0 true s with
  | (s, true) =>
    let arg := runArg s % 256
    let js := (List.range 8).filter fun j => s.get (F.DMA_JOB_CFG_EN j) == 1 && (arg == 0 || bitOf arg j)
    { s with dma := { jobs := js } }
  | (s, false) => s

/-! ### Validator (R520) -/

/-- [a, a + n) lies in SRAM, or where COPY's source may lie. -/
def dmaRegion (kind a n : Nat) : Bool :=
  let in_ (lo hi : Nat) : Bool := decide (lo ≤ a) && decide (a + n ≤ hi)
  in_ 0x20000000 0x20400000 || (kind == 0 && (in_ 0x38000000 0x38004000 || in_ 0x40000000 0x40020000))

/-- The source's extent, and the destination's; a stream without a ring is taken at its longest entries (DEDUCED, log entry 120). -/
def srcLen (g : Fld → Nat) (j : Nat) : Nat := jobCount g j * srcUnit (jobKind g j)
def dstLen (g : Fld → Nat) (j : Nat) : Nat :=
  if jobRing g j then g (F.DMA_JOB_RLEN_LEN j) * dstUnit g j
  else if jobStream g j then jobCount g j * (if jobForm g j = 1 then 272 else 304)
  else jobCount g j * dstUnit g j

/-- An address is not aligned as its use asks. -/
def jobMisaligned (g : Fld → Nat) (j : Nat) : Bool :=
  let src := g (F.DMA_JOB_SRC_ADDR j)
  let dst := g (F.DMA_JOB_DST_ADDR j)
  match jobKind g j with
  | 0 => src % 4 != 0 || dst % 4 != 0
  | 1 => dst % (if jobStream g j then 16 else 64) != 0
  | 2 => src % 64 != 0
  | _ => src % 64 != 0 || dst % (if jobStream g j then 16 else 64) != 0

/-- The reason against one job. -/
def jobReason (g : Fld → Nat) (j : Nat) : Option Nat :=
  let kind := jobKind g j
  let src := g (F.DMA_JOB_SRC_ADDR j)
  let dst := g (F.DMA_JOB_DST_ADDR j)
  if g (F.DMA_JOB_CFG_EN j) = 0 then none
  else if 3 < kind ∨ jobForm g j = 3 ∨ (jobStream g j ∧ (kind = 0 ∨ kind = 2)) ∨ jobCount g j = 0 then some 0x01
  else if jobMisaligned g j then some 0x02
  else if !dmaRegion kind src (srcLen g j) || !dmaRegion 1 dst (dstLen g j) || dstLen g j == 0 then some 0x03
  else if overlap src (srcLen g j) dst (dstLen g j) then some 0x04
  else if jobStream g j ∧ jobRing g j ∧ g (F.DMA_JOB_RLEN_LEN j) < 17 then some 0x05
  else none

/-- The DMA validator: the job and the reason. -/
def checkDma (s : State) : Option (Nat × Nat) :=
  (List.range 8).findSome? fun j => (jobReason s.getS j).map fun r => (j, r)

end Sys2Proof.Machine
end

