-- ==== Sys2Proof/Machine/Validate.lean ====
section
/-! DEFINITION. The validators (R48): the loop output's, the line's and the governor's (chapters 04, 05, 14), and one table of what each page's validator refuses,
with the word that its REJECT register then shows. -/

namespace Sys2Proof.Machine

/-- A shadow field lies outside [lo, hi]. -/
def outside (s : State) (f : Fld) (lo hi : Nat) : Bool := decide (s.getS f < lo) || decide (hi < s.getS f)

/-- A signed 16-bit shadow field lies outside ±`lim`. -/
def outsideI (s : State) (f : Fld) (lim : Nat) : Bool := decide (lim < (signed 16 (s.getS f)).natAbs)

/-- The LDAC validator (R197); `load` says that the commit is the configuration load's, which SENSING does not touch (DEDUCED, log entry 15). -/
def checkLdac (load : Bool) (s : State) : Option Nat :=
  let range := outside s F.LDAC_CFG_SAFE_TICKS 2 255 || outside s F.LDAC_SAFE_STARTUP_UA 3200 4000 || outside s F.LDAC_SAFE_SAFE_UA 3200 4000
    || outside s F.LDAC_ALARM_UP_UA 20100 24000 || outside s F.LDAC_ALARM_DN_UA 3200 3600 || outside s F.LDAC_SAT_SAT_HI_UA 20000 23900
    || outside s F.LDAC_SAT_SAT_LO_UA 3300 4000 || outside s F.LDAC_TEST_TEST_TMO_S 0 3600 || outside s F.LDAC_TEST_TEST_UA 3200 24000
    || outside s F.LDAC_TRIM_READBACK_TOL_UA 10 500 || outside s F.LDAC_TRIM_TRIM_LIM_UA 0 100
    || outsideI s F.LDAC_UTRIM_GAIN_PPM 5000 || outsideI s F.LDAC_UTRIM_ZERO_DUA 1000
  let order := decide (s.getS F.LDAC_SAT_SAT_LO_UA ≤ s.getS F.LDAC_ALARM_DN_UA) || decide (s.getS F.LDAC_ALARM_UP_UA ≤ s.getS F.LDAC_SAT_SAT_HI_UA)
    || decide (s.getS F.LDAC_SAT_SAT_HI_UA ≤ s.getS F.LDAC_SAT_SAT_LO_UA)
  let busy := s.flag F.LDAC_STAT_SPAN_PASS && decide (0 < s.ldac.passLeft) && s.getS F.LDAC_CFG_SPAN != s.get F.LDAC_CFG_SPAN
  if range then some 0x01
  else if order then some 0x02
  else if busy then some 0x03
  else if !load && (gen s == 0 || s.page.early.contains 0x11) then some 0x04
  else if s.ldac.argBad then some 0x05
  else none

/-- The ADAC validator (R192). -/
def checkAdac (s : State) : Option Nat :=
  let busy (n : Nat) : Bool := s.flag (adacPassF n) && decide (0 < (adacOf s n).pass) && s.getS (F.ADAC_CFG_GAIN n) != s.get (F.ADAC_CFG_GAIN n)
  if busy 0 || busy 1 then some 0x01 else none

/-- The LINE validator (R143, R144, R157). The loop is held at the multidrop fixed current while MODE is 1 (R165). -/
def checkLine (load : Bool) (s : State) : Option Nat :=
  if !load && (gen s == 0 || s.page.early.contains 0x10) then some 0x01
  else if s.getS F.LINE_CFG_FSK_EN = 0 ∧ s.flag F.LINE_CFG_FSK_EN ∧ s.get F.LDAC_CFG_MODE = 1 then some 0x02
  else if outside s F.LINE_CFG_LIFT_WARN_MV 3000 5000 || outside s F.LINE_CFG_LIFT_HOLD 1 255 then some 0x03
  else none

/-- The GOV validator (R101, R554). `env` is the state whose plan is in force: this one, or one with the plan that commits at the same boundary (R806). -/
def checkGov (env s : State) : Option Nat :=
  let floor := s.getS F.GOV_CFG_P_FLOOR
  let guar := s.getS F.GOV_CFG_GUAR_CELLS
  let cres := s.getS F.GOV_RES_RES_CRES_UF
  let range := outside s F.GOV_CFG_P_CEIL 0 5 || decide (5 < floor) || outside s F.GOV_CFG_UP_HOLD 1 255 || decide (16 < guar)
    || outside s F.GOV_MARGIN_HEADROOM_UA 0 2000 || outside s F.GOV_MARGIN_MARGIN_UA 150 600 || outside s F.GOV_BUDGET_BUDGET_UA 3000 500000
    || outside s F.GOV_LOW_BELOW_MAX 1 255 || outside s F.GOV_LOW_LOW_UA 3200 20000 || (cres != 0 && outside s F.GOV_RES_RES_CRES_UF 100 2200)
    || outside s F.GOV_RES_RES_CHG_MAX 1 15 || outside s F.GOV_RESV_RES_VMAX 4000 5200 || outside s F.GOV_RESV_RES_VSTOP 2400 4000
    || decide (s.getS F.GOV_CFG_P_CEIL < floor) || decide (s.getS F.GOV_RESV_RES_VMAX < s.getS F.GOV_RESV_RES_VSTOP + 400) || decide (levelCells floor < guar)
  let fit : Bool := if gen s = 3 then decide ((s.getS F.GOV_BUDGET_BUDGET_UA : Int) < baseCost s floor + guar * cellCost s floor)
    else decide ((s.getS F.GOV_LOW_LOW_UA : Int) - s.getS F.GOV_MARGIN_MARGIN_UA < baseCost s floor)
  if range then some 0x01
  else match planInForceFails floor (guarShadow s) env with
    | some 5 => some 0x02
    | some _ => some 0x03
    | none => if fit then some 0x04 else none

/-- The state as it will be when the shadows of one of PLAN's or GOV's control registers are in force. -/
def withShadow (p : Nat) (offs : List Nat) (s : State) : State := offs.foldl (fun t o => t.wrE p o (s.rd p o)) s

/-- A reason as the REJECT register at `off` shows it. -/
def reasonAt (off : Nat) (r : Option Nat) : Option (Nat × Word) := r.map fun k => (off, BitVec.ofNat 32 k)

/-- A number and a reason as the REJECT register at `off` shows them. -/
def pairAt (off : Nat) (r : Option (Nat × Nat)) : Option (Nat × Word) := r.map fun k => (off, BitVec.ofNat 32 (k.1 * 256 + k.2))

/-- What the boundary says about its commits: they are the configuration load's; the commits of PLAN and GOV are checked against each other (R806); a GOV commit
changes P_FLOOR or the guaranteed cells (R94). -/
structure CommitEnv where
  load : Bool
  joint : Bool
  govMoves : Bool
  deriving DecidableEq, Repr

/-- Why the validator of page `p` refuses its shadows: its REJECT register's offset and word; none where the commit applies. -/
def refusalOf (e : CommitEnv) (p : Nat) (s : State) : Option (Nat × Word) := match p with
  | 0x02 => reasonAt 0x07C (checkPwr s)
  | 0x03 => reasonAt 0x084 (checkGov (if e.joint then withShadow 6 [0x008, 0x040] s else s) s)
  | 0x05 => reasonAt 0x064 (checkTick s)
  | 0x06 =>
    let r := checkPlan (e.govMoves && !e.joint) s
    if r.reason = 0 then none else some (0x050, putBits (resultWord r) 0 0 0)
  | 0x07 => pairAt 0x084 (checkFlt 7 s)
  | 0x08 => pairAt 0x084 (checkFlt 8 s)
  | 0x09 => reasonAt 0x060 (checkBist s)
  | 0x0A => reasonAt 0x064 (checkBg s)
  | 0x0B => reasonAt 0x084 (checkAlm s)
  | 0x0C => reasonAt 0x090 (checkNvm s)
  | 0x0D => reasonAt 0x05C (checkMem s)
  | 0x10 => reasonAt 0x05C (checkLine e.load s)
  | 0x11 => reasonAt 0x078 (checkLdac e.load s)
  | 0x12 => reasonAt 0x05C (checkAdac s)
  | 0x13 => reasonAt 0x094 (checkFsk s)
  | 0x14 => reasonAt 0x050 (checkTphy s)
  | 0x15 => reasonAt 0x088 (checkMac s)
  | 0x16 => reasonAt 0x07C (checkPtp s)
  | 0x17 => reasonAt 0x060 (checkPub s)
  | 0x18 => reasonAt 0x0C4 (checkAcc s)
  | 0x20 => pairAt 0x05C (checkXpt s)
  | 0x21 => reasonAt 0x084 (checkExc s)
  | 0x28 => reasonAt 0x064 (checkLanes s)
  | 0x29 => reasonAt 0x070 (checkFast 0 s)
  | 0x2A => reasonAt 0x070 (checkFast 1 s)
  | 0x2C => reasonAt 0x0E0 (checkRec s)
  | 0x30 => reasonAt 0x094 (checkArr s)
  | 0x42 => pairAt 0x058 (checkDma s)
  | 0x43 => reasonAt 0x084 (checkPrune s)
  | 0x48 => reasonAt 0x07C (checkKeys s)
  | 0x49 => reasonAt 0x050 (checkGpio s)
  | _ => if 0x22 ≤ p ∧ p ≤ 0x27 then reasonAt 0x054 (checkLane (p - 0x22) s) else none

end Sys2Proof.Machine
end

