-- ==== Sys2Proof/Machine/Restart.lean ====
section
/-! DEFINITION. Soft resets of a page (R52) and injections (R62, R802): what each page's block does. -/

namespace Sys2Proof.Machine

/-! ### Soft reset -/

/-- What a soft reset of page `p` leaves in its words: the fields whose reset value the register tables take from outside the page (a load, start-up, non-volatile memory,
the straps), and the status of `srstHides`, which then reads its reset value for a tick (DEDUCED, log entry 103). -/
def srstKeeps (p : Nat) : List (Nat × Nat) := srstHides p ++ (match p with
  | 0x09 => [(0x048, 0xFFFFFFFF)]
  | 0x0B => [(0x048, 0x3F310000), (0x04C, 0xFFFFFFFF)]
  | 0x10 => [(0x044, 0xFFFFFFFF)]
  | 0x30 => [(0x070, 0xFFFFFFFF)]
  | _ => if 0x31 ≤ p ∧ p ≤ 0x41 then [(0x050, 0xFFFFFFFF)] else [])

/-- The registers of page `p` return to their reset values, but for what `srstKeeps` names (R52). -/
def resetPage (p : Nat) (s : State) : State :=
  let out (e : Nat × Word) : Bool := e.1 / 0x400 != p
  let s' := { s with regs := s.regs.filter out, eff := s.eff.filter out }
  (srstKeeps p).foldl (fun t k => t.wr p k.1 (mergeMask (resetWord p k.1) (s.rd p k.1) k.2)) s'

/-- A cell's page restarts: a partition in progress goes back to the dispatch order. -/
def restartCell (c : Nat) (s : State) : State := requeue c s

/-- The state behind the pages of the front end restarts. -/
def restartAna (p : Nat) (s : State) : State := match p with
  | 0x20 =>
    let a := { s.ana with beyond := [], below := [], refSet := [], inTol := [], injChk := [] }
    { s with ana := a }
  | 0x21 =>
    let a := { s.ana with contests := [], complPrev := [], ofsClip := [], charge := [] }
    { s with ana := a }
  | 0x28 =>
    let s := cycleIdle s
    let a := { s.ana with lsOfs := [], lsGain := [], lsNext := 0, matched := [], urg := none }
    { s with ana := a }
  | _ =>
    let n := p - 0x22
    let s := if lsFor s n then cycleIdle s else s
    showPins (setLane n {} s)

/-- The internal state of page `p`'s block restarts (R52); `s` has the page's registers reset, `b` is the state before. -/
def restartBlock (p : Nat) (b s : State) : State := match p with
  | 0x06 => { s with plan.todo := [], plan.run := none, plan.slack := none, plan.active := false, plan.checked := false, plan.env0 := envList s }
  | 0x09 => testRestart { s with bist.bad := false }
  | 0x0A => { s with bist.progress := 0, bist.blocked := 0 }
  | 0x0B => { s with alm.cmds := [], alm.snap := [] }
  | 0x0D => { s with nvm.memLive := false }
  | 0x10 =>
    let l : Line := { hitRun := s.line.hitRun, windows := s.line.windows, sensed := s.line.sensed, cmdTick := s.line.cmdTick }
    updateBudget (strapFsk { s with line := l })
  | 0x11 =>
    let l : Ldac := { pinLow := s.ldac.pinLow, ripe := s.ldac.ripe, clamp := s.ldac.clamp, norm := normalFinal s.get }
    retarget { s with ldac := l }
  | 0x12 => { s with adac0 := { dist := s.adac0.dist }, adac1 := { dist := s.adac1.dist } }
  | 0x13 => fskRestart s
  | 0x14 => if gen s = 3 then (dropLink (svCut 0 s)).putB F.TPHY_STAT_TRAINING true else s
  | 0x15 => { s with link.buckets := [], link.gtok := 64 * 28800, link.sinceDrop := 28800, link.ptpQ := [], link.genQ := [], link.tx := [] }
  | 0x16 =>
    let l := { s.link with foreign := [], sel := none, wait := none, up := false, sinceMeas := 0, pd := [], pdHist := [], pdOut := false,
                           tod := 0, todErr := 0, todPend := none, todSet := false, utcOffset := 0 }
    if b.link.up then ptpLoss { s with link := l } else { s with link := l }
  | 0x17 => pubRestart s
  | 0x19 => { s with spi := {} }
  | 0x29 => setFast 0 {} s
  | 0x2A => setFast 1 {} s
  | 0x2C =>
    let r : Rec := { entries := s.stor.entries, wpos := s.stor.wpos, stamps := s.stor.stamps }
    showRec { s with stor := r }
  | 0x30 =>
    let a : Arr := { slot := s.arr.slot, core := s.arr.core }
    showRoles { dropPartitions s with arr := a, bist.req := none, bist.reqEnd := none }
  | 0x42 => { s with dma := {} }
  | 0x43 => determineHead { s with learn := {} }
  | 0x48 => { s with keys := {} }
  | _ =>
    if 0x20 ≤ p ∧ p ≤ 0x28 then restartAna p s
    else if 0x31 ≤ p ∧ p ≤ 0x41 then restartCell (p - 0x31) s
    else s

/-- The soft reset of page `p` applies: fields, block, pending shadows, injections (R52, R802). -/
def softReset (p : Nat) (s : State) : State :=
  let b := if p = 0x48 then cancelTrim s else s
  let s := restartBlock p b (resetPage p b)
  let pg := { s.page with commitPend := s.page.commitPend.filter (· ≠ p), early := s.page.early.filter (· ≠ p),
                          srstPend := s.page.srstPend.filter (· ≠ p), crefused := s.page.crefused.filter (· ≠ p),
                          inj := adel s.page.inj p, armed := s.page.armed.filter (·.1 ≠ p) }
  { s with page := pg }.raise (p, E.SRST_DONE)

/-- SRST_APPLY at a boundary: every pending soft reset of a page whose domain is powered (R52). -/
def softResets (s : State) : State :=
  let ps := s.page.srstPend.filter (pageOn s)
  ps.foldl (fun s p => softReset p s) { s with page.justReset := ps }

/-! ### Injections -/

/-- One injection of point `pt` of page `p` (R62). A point that acts on the next event of its kind waits for it. -/
def inject (p pt : Nat) (s : State) : State := match p, pt with
  | 0x04, 1 => { s with gov.injLow := 8 }
  | 0x05, 1 => injLoseSource s
  | 0x05, 2 => injXtalFail s
  | 0x07, 1 => faultEvent 0x7E 0 s false true
  | 0x10, 1 => { s with line.injDrv := s.get F.LINE_CFG_LIFT_HOLD }
  | 0x10, 2 => { s with line.injOver := 2 }
  | 0x11, 1 => { s with ldac.injRb := 8 }
  | 0x11, 2 => assertClamp (!clampHeld s) { s with ldac.injClr := 2 }
  | 0x12, 1 => adacOverload 0 s
  | 0x13, 3 => jabber true s
  | 0x14, 1 => if linkUp s then linkDown true (svCut 0 s) else s
  | 0x20, 1 => injOpen s
  | 0x29, 2 => resetEstimator 0 s
  | 0x2A, 2 => resetEstimator 1 s
  | 0x2C, 1 => recGo 3 s
  | 0x48, 1 => { s with keys.injMs := (s.get F.KEYS_TIME_MAX_TOUCH_S + 1) * 1000 }
  | _, _ => { s with page.armed := s.page.armed ++ [(p, pt)] }

/-- The injection series at a boundary: one injection of each whose domain is powered (R62, R802). -/
def tickInject (s : State) : State :=
  let on := s.page.inj.filter fun e => pageOn s e.1
  let step (e : Nat × (Nat × Nat)) : Nat × (Nat × Nat) := if pageOn s e.1 then (e.1, (e.2.1, e.2.2 - 1)) else e
  let s' := { s with page.inj := (s.page.inj.map step).filter fun e => e.2.2 != 0 }
  on.foldl (fun s e => inject e.1 e.2.1 s) s'

end Sys2Proof.Machine
end

