-- ==== Sys2Proof/Machine/Sleep.lean ====
section
/-! DEFINITION. Sleep entry and exit (chapter 15, R556–R574, R580): quiesce, refusal, the states' domains and banks. -/

namespace Sys2Proof.Machine

/-! ### Quiesce (R564–R568) -/

/-- LINK is busy (R237, R288), or a write reply waits for its boundary. -/
def linkBusy (s : State) : Bool :=
  s.flag F.FSK_STAT_RX_FRAME || s.flag F.FSK_STAT_TX_ACTIVE || replyPending s || decide (0 < s.pub.busy) || !s.pub.sv.isEmpty
    || !s.link.ptpQ.isEmpty || !s.link.genQ.isEmpty || !s.acc.late.isEmpty

/-- WHY of the refusal of block `b`, 0 where it accepts (R565). -/
def refusalWhy (b target : Nat) (s : State) : Nat :=
  let frost := target == 3
  if b = 6 ∧ s.armedAt 0x02 1 then 2
  else if s.page.commitPend.any fun p => blockOf p == b then 1
  else match b with
    | 1 => if arrRefuses s || s.bist.req.isSome then 2 else 0
    | 2 => if recState s = 2 ∨ recState s = 3 then 2 else if recRefuses target s then 3 else 0
    | 3 => if frost && anaRefuses s then 2 else 0
    | 4 => if frost && linkBusy s then 2 else 0
    | 5 => if s.nvm.writing.isSome || !s.nvm.queue.isEmpty then 2 else 0
    | _ => if s.get F.MEM_STAT_ZEROFILL ≠ 0 then 2 else if learnRefuses target s then 3 else 0

/-- The first block that refuses, with its WHY (R564). -/
def firstRefusal (target : Nat) (s : State) : Option (Nat × Nat) :=
  ([1, 2, 3, 4, 5, 6].map fun b => (b, refusalWhy b target s)).find? fun x => x.2 != 0

/-- An accepted request at its entry boundary (R563–R566): the six answers are taken as of this boundary (DEDUCED, log entry 100). -/
def sleepEntry (s : State) : State := match s.slp.req with
  | none => s
  | some t =>
    let r := firstRefusal t s
    let anaAsked : Bool := match r with
      | some x => decide (3 < x.1)
      | none => true
    let s := { s with slp.out := true }
    let s := if t = 3 ∧ anaAsked then calQuiesce s else s
    match r with
    | some (b, why) =>
      let s := if b = 6 ∧ s.armedAt 0x02 1 then s.disarm 0x02 1 else s
      sleepRefused t b why s
    | none => { s with slp.req := none, slp.down := some t, slp.asking := true }.put F.PWR_STAT_ENTRY 3

/-- At the boundaries after an entry or an exit, the KV4811 counts as in RUN again (R563, R574). -/
def sleepBoundary (s : State) : State :=
  let busy := pstate s != 0 || s.slp.down.isSome || s.slp.hold
  { s with slp.out := busy, slp.hold := false, slp.asking := false }

/-! ### Entry (R557, R569) -/

/-- The banks that the state `t` does not keep, and those that it keeps in retention; a gated bank is left to the governor (DEDUCED, log entry 100). -/
def banksLost (t : Nat) (s : State) : List Nat :=
  (List.range 16).filter fun n => !gated s n && (t == 3 || (t == 2 && !bitOf (s.get F.PWR_CFG_LULL_RET) n))
def banksKept (t : Nat) (s : State) : Nat :=
  (List.range 16).foldl (fun m n => if t == 2 && !gated s n && bitOf (s.get F.PWR_CFG_LULL_RET) n then m + 2 ^ n else m) 0

/-- A set of banks as bits. -/
def bankBits (ns : List Nat) : Nat := ns.foldl (fun m n => m + 2 ^ n) 0

/-- LINK loses power: the link drops; leases and sessions end (R287, R307, R340). -/
def frostLink (s : State) : State :=
  let s := if gen s = 3 then (dropLink s).putB F.TPHY_STAT_TRAINING false else s
  endLeases (fun _ => true) (endSessions (fun _ => true) s)

/-- SLEEP_STATE_REACHED (R569): the state takes its value, and its domains and banks lose power, the cells with ARR's; a raise decided at the entry boundary is dropped (DEDUCED,
DEDUCED, log entry 136); a wake that came before starts the exit at once (R580). -/
def stateReached (s : State) : State := match s.slp.down with
  | none => s
  | some t =>
    let kept := banksKept t s
    let lost := banksLost t s
    let s := if t = 3 then anaDown (frostLink s) else s
    let s := if s.gov.raiseTo.isSome then setVcore (level s) s else s
    let s := { s with slp.down := none, slp.asking := false, gov.raiseTo := none }.putB F.CLK_STAT_CHANGING false
    let s := if t = 1 then s else parkAll s
    let s := if t = 2 then setVcore 0 (setLevel 0 s) else s
    let s := ((s.put F.PWR_STAT_STATE t).put F.PWR_STAT_ENTRY 0).put F.PWR_STAT_RETAINED kept
    let s := s.put F.MEM_STAT_RETAINED kept
    let s := if t = 1 then s else clearCells (segmentStart (lost.foldl (fun s n => clearBank n s) s))
    let s := if t = 3 then setCharger s else s
    let s := sleepResult 1 0 0 0 t ((s.bump F.PWR_CNT_SLEEPS).put F.PWR_STAT_RETRY_LEFT 0)
    if s.slp.wokeEntry then
      beginExit ((s.putB F.PWR_RESULT_WAKE_IN_ENTRY true).bump F.PWR_CNT_WAKE_IN_ENTRY |>.raise E.PWR_WAKE_IN_ENTRY)
    else s

/-! ### Exit (R570–R574) -/

/-- WAKE_EXIT_COMPLETE: RUN. `early` says that the next boundary comes before slots may resume: within 20 µs of this instant after FROST (R574). -/
def exitComplete (early : Bool) (s : State) : State :=
  if !s.slp.exiting then s else
  let t := pstate s
  let lost := banksLost t s
  let s := { s with slp.exiting := false, slp.wokeEntry := false, slp.firstSeen := true, slp.hold := early && t == 3 }
  let s := ((s.put F.PWR_STAT_STATE 0).put F.PWR_STAT_ENTRY 0).put F.PWR_STAT_RETAINED 0
  let s := (s.put F.MEM_STAT_RETAINED 0).raise E.PWR_WOKE
  if t ≤ 1 then s else
  let s := parkBeyond 1 (setVcore 1 (setLevel 1 s))
  let s := s.put F.MEM_STAT_ZEROFILL (s.get F.MEM_STAT_ZEROFILL ||| bankBits lost)
  let s := arrWake lost s
  if t = 2 then s else
  let s := fastUp 1 (fastUp 0 (anaUp s))
  let s := if gen s = 3 then s.putB F.TPHY_STAT_TRAINING true else s
  fskUp s

end Sys2Proof.Machine
end

