-- ==== Sys2Proof/Machine/Startup.lean ====
section
/-! DEFINITION. Resets and start-up (chapter 21, R715–R738). -/

namespace Sys2Proof.Machine

/-! ### The assertion of a reset (R715–R723) -/

/-- The registers that the classes SYSTEM and SOFT leave: the voltage-scaling trims, and for SOFT the count of the fault record ring and the local lock. -/
def keptRegs (cls : Nat) (s : State) : Assoc Word :=
  let keep (p o : Nat) (m : Assoc Word) : Assoc Word := aset m (regKey p o) (s.rd p o)
  let m := if cls = 1 then [] else keep 0x04 0x04C (keep 0x04 0x048 [])
  if cls = 3 then aset (keep 0x07 0x05C m) (regKey 0x48 0x058) (putBits 0 16 16 (s.get F.KEYS_STAT_LOCK)) else m

/-- What a reset of class `cls` leaves of the state (R721); `b` is the reset's own record. -/
def clearedState (cls : Nat) (b : Boot) (s : State) : State :=
  let m := clearCells (clearSram s)
  let m := if cls = 1 then initRetention m else m
  let alm : Alm := if cls = 1 then {} else { live := s.alm.live, bad := s.alm.bad }
  let tick : Tick := if cls = 1 then {} else
    { num := s.tick.num, phase := s.tick.phase, xtalRuns := s.tick.xtalRuns, xtalOk := s.tick.xtalOk, xtalSeen := s.tick.xtalOk, sincePps := s.tick.sincePps }
  let flt : Flt := if cls = 3 then { ring := s.flt.ring, recov := s.flt.recov, aonS := s.flt.aonS, aonU := s.flt.aonU } else {}
  let keys : Keys := if cls = 3 then { lockLeft := s.keys.lockLeft } else {}
  { pending := s.pending, regs := keptRegs cls s, mem := m.mem, ecc := m.ecc, otp := s.otp, boot := b, flt := flt, alm := alm, tick := tick,
    ldac := { pinLow := s.ldac.pinLow, ripe := s.ldac.ripe }, keys := keys, free := s.free }

/-- The reset is asserted with cause `cause` (R718, R719): the class of the cause that is reported decides what is cleared, a write in progress ends as by a
power failure (R723), RST_HIST stays, and TICK_NUM is noted (R726). -/
def assertReset (cause info : Nat) (s : State) : State :=
  let old := if s.boot.held then s.boot.causes else []
  let cs := if old.contains cause then old else old ++ [cause]
  let rep := reportedCause cs
  let s := match s.nvm.writing with
    | some c => tearChunk c s
    | none => s
  let b : Boot := {
    held := true
    causes := cs
    info := if rep = cause then info else s.boot.info
    hist := s.boot.hist
    histOk := s.boot.histOk
    prevTick := if s.boot.held then s.boot.prevTick else s.tick.num % 2 ^ 32
    patchWait := s.boot.patchWait
    unitsAt := if s.boot.held then s.boot.unitsAt else tickUnits s }
  clearedState (causeClass rep) b s

/-- POR: VPRE has fallen to 2.6 V or below; `lost` says that it fell below 1.5 V, so that RST_HIST's check pattern is gone (R715, R721, R725). -/
def porAssert (lost : Bool) (s : State) : State :=
  let s := assertReset 1 0 s
  if lost then { s with boot.histOk := false } else s

/-- BOR_MAIN of `rail`, 1 VLDO18 or 2 VCORE; the main regulator is off in FROST (R715, R726). -/
def borMain (rail : Nat) (s : State) : State := if pstate s = 3 then s else assertReset 2 rail s

/-- BOR_LP: the low-power rail has collapsed in FROST (R583). -/
def borLp (s : State) : State := if pstate s = 3 then assertReset 3 0 s else s

/-- RST_N has been low for `lowNs` ns: from 2 µs the reset is asserted, below 0.5 µs it is not, between the two it may be (R716). -/
def rstN (lowNs : Nat) (s : State) : State :=
  if lowNs < 500 then s
  else if 2000 ≤ lowNs then assertReset 4 0 s
  else if Config.freeBool s.free then assertReset 4 0 s.fresh else s.fresh

/-- WDOG: the watchdog has not been serviced for 250 ms; it runs while LINK is powered and the link processor runs, from LINK's release on (R717). -/
def wdog (s : State) : State :=
  if s.boot.held ∨ pstate s = 3 ∨ !s.flag F.SYS_BSTAT_ROM_OK ∨ !mayReach s s.boot.linkU 7200 then s else assertReset 5 0 s

/-- The times of start-up run on with a tick that ends: that since the release, that of the CORE test, and that of the link processor, which is 0 while LINK is off. -/
def tickBoot (s : State) : State :=
  let b := s.boot
  let runs := s.flag F.SYS_BSTAT_ROM_OK && pstate s != 3
  { s with boot := { b with relU := satTo 20000 (b.relU + tickUnits s), coreU := if b.coreTest = 1 then b.coreU + tickUnits s else b.coreU, linkU := if runs then satTo 7212 (b.linkU + tickUnits s) else 0 } }

/-! ### POR release (R720, R725–R728, R122) -/

/-- The straps give the generation, or leave it to sensing (R122, R130). -/
def strapGen (straps : Nat) (s : State) : State := match straps with
  | 1 => latchGen 1 0 0 s
  | 2 => latchGen 2 0 0 (strapFsk s)
  | 3 => latchGen 3 0 0 s
  | _ => s

/-- POR_RELEASE: the straps (GEN1, GEN0 and BOOTSEL) and TEST_EN are sampled, the cause is reported, and start-up begins. With TEST_EN high no start-up sequence
runs (R749). -/
def porRelease (gens : Nat) (bootsel testEn : Bool) (s : State) : State :=
  if !s.boot.held ∨ s.boot.testMode then s
  else if testEn then { s with boot.testMode := true } else
  let cause := reportedCause s.boot.causes
  let cls := causeClass cause
  let hist := s.boot.causes.foldl (fun h c => setBitTo h c true) (if s.boot.histOk then s.boot.hist else 0)
  let s : State := { s with boot.held := false, boot.hist := hist, boot.histOk := true }
  let s := ((s.put F.RST_CAUSE_CAUSE cause).put F.RST_CAUSE_CLASS cls).put F.RST_CAUSE_INFO s.boot.info
  let s := s.put F.RST_PREVTICK_TICK (if cls = 1 then 0 else s.boot.prevTick)
  let straps := gens % 4
  let s := (s.putB F.SYS_STRAP_BOOTSEL bootsel).put F.SYS_STRAP_GEN straps
  let s := s.put F.LINE_GEN_STRAP straps
  let s := showPhase (s.put F.TICK_STAT_SRC (if s.tick.xtalOk then 0 else 3))
  let s := s.putB F.BIST_START_LINK_EN s.otp.linkEn
  let s : State := { s with ldac.norm := normalFinal s.get }
  let s := strapGen straps s
  if s.ldac.pinLow then assertClamp true s else s

/-! ### ROM boot and the configuration load (R730) -/

/-- The LINK start-up test (R632, R633). -/
def linkTest (pass : Bool) (s : State) : State :=
  if !s.otp.linkEn then s else
  let s := (s.putB F.BIST_START_LINK_RAN true).putB F.BIST_START_LINK_PASS pass
  if pass then s else faultEvent 0x71 2 s

/-- OTP words that read as uncorrectable: in a trim or identity field a fault, in a key slot its revocation (R668). -/
def readOtp (s : State) : State :=
  let s : State := s.otp.badTrim.foldl (fun s i => faultEvent 0x64 i s) s
  let revoke (i : Nat) (k : KeySlot) : KeySlot := { k with revoked := k.revoked || s.otp.badKeys.contains i }
  { s with otp.keys := s.otp.keys.mapIdx revoke }

/-- ROM_BOOT_COMPLETE, `us` after POR release: the results of the LINK test and of the ROM's check; then steps 4 and 5 of R730. -/
def romBoot (us : Nat) (linkPass romBad : Bool) (s : State) : State :=
  if s.flag F.SYS_BSTAT_ROM_OK then s else
  let s := linkTest linkPass (readOtp s)
  let s := if romBad then faultEvent 0x71 3 (s.putB F.BIST_STAT_ROM_BAD true) else s
  let s := (s.putB F.SYS_BSTAT_ROM_OK true).put F.SYS_BOOT0_ROM_US (satTo 65535 us)
  let s := { s with boot.patched := s.boot.patchWait }.putB F.SYS_BSTAT_PATCHED s.boot.patchWait
  let s := loadSystem s
  let cause := reportedCause s.boot.causes
  let s := almLoad (causeClass cause != 1) cause s
  determineHead (checkImage 1 (checkImage 0 s))

/-- The configuration load has applied at this boundary, `us` after POR release (R662); with BOOTSEL = 1 there is none (R729). With straps 11 the ceiling ends
(R130). -/
def loadSettled (applied : Bool) (us : Nat) (s : State) : State :=
  let factory := s.get F.SYS_STRAP_BOOTSEL = 1 ∧ s.flag F.SYS_BSTAT_ROM_OK
  if s.boot.loadDone ∨ !(applied || factory) then s else
  let s : State := { s with boot.loadDone := true, boot.loadPend := false }
  let s := if applied then s.put F.SYS_BOOT0_CFG_US (satTo 65535 us) else s
  let s := if applied && s.get F.NVM_CONF_COPY != 0 then s.putB F.SYS_BSTAT_CFG_LOADED true else s
  if s.get F.SYS_STRAP_GEN = 3 then endCeiling (us / 1000) s else s

/-- The CORE start-up test begins at the first boundary after loop control engages, in G3 after the load (R631, R731). -/
def beginCoreTest (s : State) : State :=
  let wanted := s.flag F.BIST_CFG_START_CORE || s.get F.SYS_STRAP_BOOTSEL == 1
  if s.boot.coreTest = 0 ∧ s.boot.loadDone ∧ wanted ∧ (s.flag F.LINE_STAT_LOOP_ENG ∨ gen s = 3) then
    { s with boot.coreTest := 1 }.putB F.SYS_BSTAT_CORE_TEST true
  else s

/-- Start-up at a boundary: the test that is disabled counts as over; the sequencer starts (R732); boot completes (R733). A test that is due holds the
sequencer (DEDUCED, log entry 16). -/
def bootBoundary (s : State) : State :=
  let wanted := s.flag F.BIST_CFG_START_CORE || s.get F.SYS_STRAP_BOOTSEL == 1
  let s : State := if s.boot.coreTest = 0 ∧ s.boot.loadDone ∧ !wanted then { s with boot.coreTest := 4 } else s
  let s : State := if !s.boot.seqStarted ∧ !startCeil s ∧ s.boot.loadDone ∧ 2 ≤ s.boot.coreTest then
      { s with boot.seqStarted := true }.putB F.SYS_BSTAT_SEQ_HOLD false
    else s
  if !s.flag F.SYS_BSTAT_DONE ∧ s.boot.loadDone ∧ s.boot.seqStarted ∧ (s.boot.coreTest = 2 ∨ s.boot.coreTest = 4) then
    ((s.putB F.SYS_BSTAT_DONE true).raise E.SYS_BOOT_DONE).raise E.RST_RESET_SEEN
  else s

/-- The resets accepted for this boundary (R607, R718): one reset with every cause among them. -/
def acceptedResets (s : State) : State := s.boot.resetAt.foldl (fun s c => assertReset c 0 s) s

end Sys2Proof.Machine
end

