-- ==== Sys2Proof/Machine/Actions.lean ====
section
/-! DEFINITION. The slots of the plan: the actions that no other file holds, the work of a slot by time, the ends of slots, and what every command ends with. -/

namespace Sys2Proof.Machine

/-! ### Actions (R93) -/

/-- Slot `idx` with action `act` begins at `at_` µs, and its effect follows. -/
def slotDo (act idx at_ : Nat) (f : State → State) (s : State) : State := match slotBegin act idx at_ 0 true s with
  | (s, true) => f s
  | (s, false) => s

/-- LOOP_UPDATE: a commit of LDAC is requested; a non-zero ARG makes it fail (R169, R197). -/
def loopUpdate (s : State) : State :=
  let s := updateBudget (requestCommit 0x11 s)
  { s with ldac.argBad := s.ldac.argBad || runArg s != 0 }

/-- LEARN_STEP: the slot's cycles begin (R509). -/
def learnStep (s : State) : State := { s with learn.spent := 0 }

/-! ### Work by time -/

/-- The training and seal steps of a LEARN_STEP slot that have ended at `at_` µs. -/
def learnWork (at_ : Nat) (s : State) : State := match s.plan.run with
  | some r => if r.slot.action = 8 then learnUntil (min at_ (r.slot.start + r.slot.budget) - r.began) s else s
  | none => s

/-- What the running slot has done at `at_` µs of the tick; `whole` says that its work is complete. -/
def slotWork (whole : Bool) (at_ : Nat) (s : State) : State :=
  dmaUntil (if whole then none else some at_) (learnWork at_ (workUntil at_ (arrUntil at_ s)))

/-! ### The ends of slots -/

/-- O_SLOT_BUDGET_EXPIRY. -/
def budgetExpiry (s : State) : State := match s.plan.run with
  | some r => oExpiry (slotWork false (r.slot.start + r.slot.budget) s)
  | none => s

/-- B_SLOT_BUDGET_END. -/
def backgroundEnd (s : State) : State := match s.plan.run with
  | some r => if r.slot.kind = 3 then bEnd (closeWork true (slotWork false (r.slot.start + r.slot.budget) s)) else s
  | none => s

/-- SLOT_COMPLETE at `at_` µs. Where that is past the end of the budget, the budget has expired first: DEADLINE is raised, an O slot has been aborted, a B slot has
stopped (R105, R109, R110). -/
def slotComplete (at_ : Nat) (s : State) : State := match s.plan.run with
  | some r =>
    if !completesAt r at_ then s
    else if at_ ≤ budgetEnd r then slotEnd at_ (closeWork true (slotWork true at_ s))
    else if r.slot.kind = 1 then slotEnd at_ (closeWork true (slotWork true at_ (mDeadline s)))
    else if r.slot.kind = 2 then budgetExpiry s
    else backgroundEnd s
  | none => s

/-- The instant of the last sample, from the boundary that ends a tick of `len` µs on. -/
def tickSample (len : Nat) (s : State) : State := { s with gov.sampled := max (-1000) (s.gov.sampled - len) }

/-- GOVERNOR_SAMPLE at `at_` µs of the tick, 20 µs after the one before it; as instants are whole µs, 19 may show (R532; DESIGN CHOICE, log entry 5). -/
def sampleAt (at_ load chg vres vpre : Nat) (s : State) : State :=
  if (at_ : Int) < s.gov.sampled + 19 then s else
  let s : State := { s with gov.sampled := at_ }
  let b := s.plan.run
  let s := showGate (governorSample load chg vres vpre (pinBanks (slotWork false at_ s)))
  if b.isSome ∧ s.plan.run.isNone then usedTo at_ s else s

/-! ### What every command ends with -/

/-- The ARR_LAYER slot of `b` has ended: the live cells beyond the guaranteed ones without an unfinished partition are parked (R545), in the order of R538 (DEDUCED, log
entry 129). -/
def parkIdle (b s : State) : State :=
  if arrSlot b && s.plan.run.isNone then
    parkExcess (s.gov.live.length - guarCells s) ((parkOrder s).filter fun c => (aget s.arr.work c).isNone) s
  else s

/-- Work and transfers whose slot has ended are closed (R498, R622). -/
def closeOpen (s : State) : State :=
  let s := settleWork s
  if (dmaSlot s).isNone then dmaAbort s else s

/-- The entry to the fault state: the clamp, the end of a burst and of trim mode, a B slot preempted, ALIVE low, the wake source FAULT (R180, R575, R600, R709). -/
def faultEntry (s : State) : State :=
  if !s.flt.entered then s else
  let s := cancelTrim (preemptB (endBurst (faultClamp s)))
  let s := wakeLatch 5 (s.putB F.FLT_STAT_ALIVE false)
  { s with flt.entered := false, flt.aliveFirst := true }

/-- A CHIP_RESET reaction asserts its reset (R595, R718). -/
def chipReset (s : State) : State := match s.flt.chipReset with
  | some id => assertReset 6 id s
  | none => s

/-- The end of a command: work and transfers of a slot that has ended are closed, and the fault hub's reactions follow; `b` is the state before it. -/
def settle (b s : State) : State := chipReset (closeOpen (faultEntry (parkIdle b (closeOpen s))))

/-- The effect `f` of a command, which has none while the reset is asserted. -/
def act (f : State → State) (s : State) : Host.Outcome State Fault Refusal := .next (if s.boot.held then s else settle s (f s))

end Sys2Proof.Machine
end

