-- ==== Sys2Proof/Machine/Boundary.lean ====
section
/-! DEFINITION. TICK_BOUNDARY (R15): what happens at a boundary, in its order, with the commits of the shadow registers (R42–R48, R664, R806). -/

namespace Sys2Proof.Machine

/-! ### Commits -/

/-- The shadow words of page `p` become effective (R42). -/
def takeShadows (p : Nat) (s : State) : State :=
  (rwsOffsets p).foldl (fun s o =>
    let w := mergeMask (s.rdE p o) (s.rd p o) (rwsMask p o)
    if w = s.rdE p o then s else s.wrE p o w) s

/-- What a commit that has applied brings about in its page's block; `b` is the state before it. -/
def afterCommit (load : Bool) (p : Nat) (b s : State) : State := match p with
  | 0x03 => updateBudget s
  | 0x04 => setVcore (s.gov.raiseTo.getD (level s)) s
  | 0x05 =>
    let t := clipPeriods (clipOffsets (afterTickCommit b s))
    if b.get F.TICK_CFG_RATE = s.get F.TICK_CFG_RATE then t else revalidatePub t
  | 0x06 => s.wr 0x06 0x050 0
  | 0x07 => afterFltCommit 7 b s
  | 0x08 => afterFltCommit 8 b s
  | 0x10 =>
    let s := afterLineCommit b s
    if gen b = 2 ∧ gen s = 1 then fskLeaves s else s
  | 0x11 => afterLdacCommit load b s
  | 0x12 => afterAdacCommit b s
  | 0x13 => afterFskCommit b s
  | 0x17 => afterPubCommit s
  | 0x20 => retime (afterXptCommit b s)
  | 0x21 => afterExcCommit s
  | 0x29 => afterFastCommit 0 b s
  | 0x2A => afterFastCommit 1 b s
  | 0x2C => afterRecCommit b s
  | _ => if 0x22 ≤ p ∧ p ≤ 0x27 then afterLaneCommit (p - 0x22) s else s

/-- A commit applies (R42, R47). -/
def applyCommit (load : Bool) (p : Nat) (s : State) : State :=
  let t := takeShadows p s
  let t := t.put ⟨p, 0x020, 31, 16, false⟩ (s.tick.num % 65536)
  let t : State := { t with page.crefused := t.page.crefused.filter (· ≠ p) }
  (afterCommit load p s t).raise (p, E.COMMIT_DONE)

/-- A commit is refused: its page's REJECT register shows why (R48); one of the configuration load counts for NVM_LOAD (R664). -/
def refuseCommit (load : Bool) (p : Nat) (r : Nat × Word) (s : State) : State :=
  let cr := if s.page.crefused.contains p then s.page.crefused else p :: s.page.crefused
  let s := ({ s with page.crefused := cr }.wr p r.1 r.2).raise (p, E.COMMIT_REFUSED)
  if !load then s else
  let s := if s.get F.NVM_LOAD_REFUSED = 0 then s.put F.NVM_LOAD_FIRST p else s
  (s.bump F.NVM_LOAD_REFUSED).raise E.NVM_LOAD_PARTIAL

/-- The commit of page `p` at this boundary. -/
def commitPage (e : CommitEnv) (p : Nat) (s : State) : State :=
  let load := e.load || (s.boot.loadHeld && (p == 3 || p == 6))
  let s := if p = 0x11 then spanDone s else if p = 0x12 then passDone 1 (passDone 0 s) else s
  let r := refusalOf e p s
  let pg := { s.page with commitPend := s.page.commitPend.filter (· ≠ p), early := s.page.early.filter (· ≠ p) }
  let s : State := { s with page := pg }
  match r with
  | some r => refuseCommit load p r s
  | none => applyCommit load p (if p = 0x11 then maskedEntry s else s)

/-- The commits that this boundary makes, in the order of their pages: those of powered pages, those of PLAN and GOV once the generation is latched (R806), those of FSK
once G2 is (R199), but for the configuration load's, whose only exceptions R662 names (DEDUCED, log entry 163). -/
def commitsNow (s : State) : List Nat := allPages.filter fun p =>
  s.page.commitPend.contains p && pageOn s p && (gen s != 0 || (p != 3 && p != 6)) && (gen s == 2 || p != 0x13 || s.boot.loadPend)

/-- The commits of a boundary. In G3 those of LOOP's pages never apply (DEDUCED, log entry 103). The answer says whether a PLAN commit has applied. -/
def commits (s : State) : State × Bool :=
  let load := s.boot.loadPend
  let ps := commitsNow s
  let both := ps.contains 3 && ps.contains 6
  let held := load || s.boot.loadHeld || (s.page.early.contains 3 && s.page.early.contains 6)
  let e : CommitEnv := { load, joint := both && held, govMoves := ps.contains 3 && govChanges s }
  let s := ps.foldl (fun s p => commitPage e p s) s
  let plan := ps.contains 6 && !s.page.crefused.contains 6
  let gone (p : Nat) : Bool := gen s == 3 && pageDom p == .loop
  let pg := { s.page with commitPend := s.page.commitPend.filter (!gone ·), ldacOrd := [], owners := [] }
  let still := s.page.commitPend.contains 3 || s.page.commitPend.contains 6
  ({ s with page := pg, ldac.argBad := false, boot.loadHeld := (load || s.boot.loadHeld) && still }, plan)

/-! ### The parts of a boundary -/

/-- The tick that ends: its slots, its time in the Almanac, its number, the phase and the source (R70–R85, R106, R113, R674, R675). -/
def endTick (t : TickIn) (s : State) : State :=
  let len := (endLimits (s.get F.TICK_CFG_RATE)).2
  let s := tickSample len (tickBoot (tickWindow (tickAon (tickUnits s) s)))
  let s := todRun (lineTick (ageLanes s))
  let s := parkIdle s (settleWork (planTickEnd (dmaAbort (slotWork false len s))))
  boundarySource (tickPhase (tickCount t.guarded (almResidency (almSlack s))))

/-- What was measured over the tick that ends. -/
def measure (t : TickIn) (s : State) : State :=
  let s := tickTest (tickPassage s)
  let s := tickTrim t.shunt s.line.cmdTick s
  let s := tickLine t.shunt t.cut t.cutPart t.full t.vpre (tickAdac t.ovld0 t.ovld1 s)
  let s := avsReport (if pstate s = 0 then t.margin else none) s
  tickPhy t.sqi t.mse t.errs (tickDie t.die s)

/-- What takes effect at a boundary after the commits: commands, the time of day, the lock, the clamps and the ramp. -/
def effects (s : State) : State :=
  let s := tickTod (almCommands (pruneCommands s))
  let s := trimBoundary (lockBoundary (saveBoundary s))
  keepCommand (rampStep (releaseFaultClamp (releaseClamp (ppsOutPulse s))))

/-- Start-up's part (R630–R633, R731–R733); `load` says that the load's commits have applied. -/
def startUp (load : Bool) (us : Nat) (s : State) : State := bootBoundary (loadSettled load us (beginCoreTest s))

/-- The tick that begins: the governor, sleep entry, the frame and the slots; `plan` says that a plan commit has applied. -/
def beginTick (plan : Bool) (t : TickIn) (s : State) : State :=
  let s := rotate (firstBench (tickTemps t.temps s))
  let s := tickGovernor (placement s) s
  let start := frameStarts plan s
  let s := sleepEntry (sleepBoundary (if start then retryFrame s else s))
  let s := planTickBegin plan (backBoundary (slotBoundary s))
  if start then ageFrame (arrFrame s) else s

/-- The lanes and what follows them: fast lanes, the verdict, Stormbox, the publisher. -/
def samples (t : TickIn) (s : State) : State :=
  let s := if s.get F.TICK_SECIDX_IDX = 0 then excAverages s else s
  let s := fastBoundary 1 t.fine1 t.coarse1 (fastBoundary 0 t.fine0 t.coarse0 (lanesBoundary s))
  let s := stormArm (pushStamp (verdictBoundary s))
  let (s, xs) := if rowDue s then extraWords (s.get F.REC_ROW_NX) (s.get F.REC_XADDR_ADDR) s else (s, [])
  pubBoundary (stormRow xs s)
where
  /-- The extra words of a row (R416, R417). -/
  extraWords : Nat → Nat → State → State × List (Option Word)
    | 0, _, s => (s, [])
    | n + 1, a, s =>
      let (s, o, w) := readAccess (BitVec.ofNat 32 a) 0 s
      let (s, ws) := extraWords n (a + 4) s
      (s, (if o = 0 then some w else none) :: ws)

/-- The timers and outputs that follow the tick. -/
def timers (t : TickIn) (s : State) : State :=
  let s := tickAlive (tickCalm (tickLeaks s))
  let s := tickFsk (tickYrap (tickSessions s))
  let s := tickGpio t.gpio (tickLed (tickScan (tickLock s)))
  almWarnings (almSnapshot (almSample t.die (tickPtp (tickMac s))))

/-- TICK_BOUNDARY out of reset. -/
def boundary (t : TickIn) (s : State) : State :=
  let s := endTick t s
  if !s.boot.resetAt.isEmpty then acceptedResets s else
  let s := tickInject (softResets (contention (measure t (overdueAction s))))
  let load := s.boot.loadPend
  let (s, plan) := commits s
  let s := effects (lateReplies s)
  let s := startUp load t.us s
  freezeTicks (timers t (samples t (beginTick plan t s)))

/-- TICK_BOUNDARY while the reset is asserted: but after a cold one TICK_NUM goes on, and so does the lock's time (R722, R705). -/
def heldBoundary (s : State) : State :=
  if causeClass (reportedCause s.boot.causes) = 1 then s else lockTime s.boot.unitsAt <| tickAon s.boot.unitsAt { s with tick.num := satTo (2 ^ 48 - 1) (s.tick.num + 1) }

end Sys2Proof.Machine
end

