-- ==== Sys2Proof/Machine/Spi.lean ====
section
/-! DEFINITION. The SPI port (chapter 08, R317–R323). -/

namespace Sys2Proof.Machine

/-- What a frame is, by its length, CRC and CMD (R318–R322). -/
inductive SpiKind where
  | read (addr : Word)
  | write (addr data : Word)
  | status (addr : Word)
  | early
  | length
  | crc
  | badCmd
  deriving DecidableEq, Repr

/-- The kind of a frame. -/
def spiKind (f : SpiFrame) : SpiKind :=
  if f.early then .early
  else if f.cycles ≠ 80 ∨ f.sdi.length ≠ 10 then .length
  else if crc8 (f.sdi.take 9) ≠ f.sdi.getD 9 0 then .crc
  else
    let a := BitVec.ofNat 32 (bytesNat ((f.sdi.drop 1).take 4))
    match (f.sdi.headD 0).toNat with
    | 0x3C => .read a
    | 0xC3 => .write a (BitVec.ofNat 32 (bytesNat ((f.sdi.drop 5).take 4)))
    | 0x96 => .status a
    | _ => .badCmd

/-- The SDO frame that goes out during this frame (R318); in an early frame it is not defined. -/
def sdoFrame (early : Bool) (s : State) : State × List Byte :=
  if early then (s.fresh 10, tabulate 10 fun i => Config.freeByte (s.free + i)) else
  let st := s.spi.outcome + 32 * b2n (anyEvent s) + 64 * b2n (anyTrap s)
  let bs := BitVec.ofNat 8 st :: (bytesOfWord s.spi.paddr ++ bytesOfWord s.spi.pdata)
  (s, bs ++ [crc8 bs])

/-- What the next frame reports, and SPI_STAT. -/
def spiNext (outcome : Nat) (addr data : Word) (s : State) : State :=
  { s with spi.outcome := outcome, spi.paddr := addr, spi.pdata := data }.put F.SPI_STAT_OUTCOME outcome

/-- A frame that is not executed is counted and raises its event (R321, R322, R319). -/
def spiReject (k : SpiKind) (s : State) : State := match k with
  | .crc => ((spiNext 0x0E 0 0 s).bump F.SPI_CNT_CRC).raise E.SPI_CRC_ERR
  | .badCmd => ((spiNext 0x0F 0 0 s).bump F.SPI_CNT_CMD_BAD_CMD).raise E.SPI_BAD_CMD
  | _ => ((spiNext 0x10 0 0 s).bump F.SPI_CNT_FRAME).raise E.SPI_FRAME_ERR

/-- The SPI port executes frames: from the end of ROM boot on, in RUN (R323, R736). -/
def spiOn (s : State) : Bool := s.flag F.SYS_BSTAT_ROM_OK && pstate s == 0

/-- A frame, its access `ns` ns into the tick. An injection treats it as a CRC failure. -/
def spiFrame (f : SpiFrame) (ns : Nat) (s : State) : State :=
  if !spiOn s then s else
  let (s, sdo) := sdoFrame f.early s
  let s := { s with spi.sdo := sdo }
  let inj := !f.early && s.armedAt 0x19 1
  let s := if inj then s.disarm 0x19 1 else s
  if inj then spiReject .crc s else
  match spiKind f with
  | .read a =>
    match readAccess a ns (s.bump F.SPI_CNT_EXEC) with
    | (s, 0, w) => spiNext 0 a w s
    | (s, o, _) => spiNext o a 0 s
  | .write a w =>
    match writeAccess .spi a w (s.bump F.SPI_CNT_EXEC) with
    | (s, 0) => spiNext 0 a w s
    | (s, o) => spiNext o a 0 s
  | .status a => { s.bump F.SPI_CNT_EXEC with spi.outcome := 0, spi.paddr := a, spi.pdata := 0 }
  | k => spiReject k s

/-- The row that a frame belongs to: 0 SPI_READ, 1 SPI_WRITE, 2 SPI_STATUS, 3 SPI_FRAME_REJECT. -/
def spiRow (f : SpiFrame) : Nat := match spiKind f with
  | .read _ => 0
  | .write _ _ => 1
  | .status _ => 2
  | _ => 3

/-- A frame sent as row `row`: frames of another row change nothing (DESIGN CHOICE, log entry 2). -/
def spiAs (row : Nat) (f : SpiFrame) (ns : Nat) (s : State) : State := if spiRow f = row then spiFrame f ns s else s

end Sys2Proof.Machine
end

