-- ==== Sys2Proof/Machine/Rows.lean ====
section
/-! DEFINITION. What the rows of the command table share beside the blocks' own operations: a path that reaches the device, the words that command rows write, and
rows that two blocks serve. -/

namespace Sys2Proof.Machine

/-! ### Paths -/

/-- An access on path `p` reaches the device: an SPI frame and a key sequence, a datagram while the link is up, an FSK command while the modem runs
(R290, R323, R736). -/
def pathOn (p : Path) (s : State) : Bool := match p with
  | .keys => true
  | .spi => spiOn s
  | .yrap _ => linkUp s && s.flag F.SYS_BSTAT_ROM_OK
  | .fsk _ _ => fskOn s && s.flag F.SYS_BSTAT_ROM_OK
  | .fskU _ => fskOn s && s.flag F.SYS_BSTAT_ROM_OK

/-- The effect of an access on path `p`; an access that does not reach the device has none. -/
def overPath (p : Path) (f : State → State) (s : State) : State := if pathOn p s then f s else s

/-- A single-word write to any address. -/
def writeAny (p : Path) (addr w : Word) (s : State) : State := (writeAccess p addr w s).1

/-- A single-word read of any address. -/
def readAny (addr : Word) (ns : Nat) (s : State) : State := (readAccess addr ns s).1

/-- A write to SRAM, the cell window or retention RAM; the row has no other addresses. -/
def writeMemory (p : Path) (addr w : Word) (s : State) : State := match regionOf addr.toNat with
  | .sram => writeAny p addr w s
  | .cell => writeAny p addr w s
  | .ret => writeAny p addr w s
  | _ => s

/-! ### The words of command writes -/

/-- PG_CTRL with EN and one of its command bits. -/
def ctrlWord (en : Bool) (bit : Nat) : Word := BitVec.ofNat 32 (b2n en + bit)

/-- PG_FLT_INJ with GO (R62). -/
def injWord (point count : Nat) : Word := BitVec.ofNat 32 (0x10000 + count % 256 * 256 + point % 256)

/-- A command register's word: OP in its top byte (R607, R656, R690). -/
def opWord (op low : Nat) : Word := BitVec.ofNat 32 (op * 2 ^ 24 + low)

/-- LANES_URG with GO. -/
def urgentWord (lane setup : Nat) : Word := BitVec.ofNat 32 (0x80000000 + lane % 8 * 256 + setup % 64)

/-- LEASE_TAKE: 1 to 3600 s (R303). -/
def takeLease (p : Path) (page secs : Nat) (s : State) : State :=
  if 1 ≤ secs ∧ secs ≤ 3600 then writeReg p page 0x024 (BitVec.ofNat 32 secs) s else s

/-- An access to PLAN_WIN_DATA: a write of a word, or a read. -/
def winDataAccess (p : Path) (w : Option Word) (s : State) : State := match w with
  | some w => writeReg p 0x06 0x048 w s
  | none => readAny (regAddr 0x06 0x048) 0 s

/-- SLEEP_REQUEST for a state other than RUN (R561). -/
def askSleep (p : Path) (target : Nat) (s : State) : State :=
  if 1 ≤ target ∧ target ≤ 3 then writeReg p 0x02 0x058 (BitVec.ofNat 32 (0x80000000 + target)) s else s

/-! ### Rows that two blocks serve -/

/-- GEN_CHANGE_DEFERRED: the generation, and the modem that it leaves without work. -/
def deferredChange (s : State) : State :=
  let t := genChangeDeferred s
  if gen s = 2 ∧ gen t = 1 then fskLeaves t else t

/-- The data of command 7: the polling address and the loop current mode, 0 while the current is held (R227). -/
def pollData (s : State) : List Byte :=
  [BitVec.ofNat 8 (s.get F.FSK_CFG_POLL_ADDR), if s.get F.LDAC_CFG_MODE = 1 then 0 else 1]

/-- The data of command 13: tag, descriptor and date. -/
def tagData (s : State) : List Byte := fskText s 0x100 6 ++ fskText s 0x108 12 ++ (fskText s 0x114 4).drop 1

/-- LINK_UP, after which GOOSE sends again (R286); in FROST the PHY is off. -/
def linkUpRow (hiAdv hiReq master : Bool) (sqi mse : Nat) (s : State) : State :=
  if pstate s = 3 ∨ gen s ≠ 3 ∨ s.flag F.TPHY_STAT_LINK then s else gooseLinkUp (linkUpEvent hiAdv hiReq master sqi mse s)

/-- LINK_DOWN `ns` ns into the tick: SV frames on the line are lost (R280). -/
def linkDownRow (ns : Nat) (s : State) : State := if linkUp s then linkDown false (svCut ns s) else s

/-- A session message of type `kind`, over FSK or over YRAP. -/
def sessionRow (fsk : Bool) (kind : Nat) (s : State) : State := if fsk then ysessOp kind s else yrapSessionOp kind s

/-- CONVERSION_START. -/
def conversionBegin (cal : Bool) (n : Nat) (s : State) : State := if cal then calStart n s else laneStart n s

/-- CONVERSION_END. -/
def conversionOver (cal : Bool) (n : Nat) (volts parVolts : List Int) (ext : Int) (s : State) : State :=
  if cal then calEnd n volts s else laneEnd n volts parVolts ext s


end Sys2Proof.Machine
end

