-- ==== Sys2Proof/Machine/CmdAna.lean ====
section
/-! DEFINITION. The meanings of the commands of the sensor front end and its lanes: each row's effect on State, with the rule of its row. -/

namespace Sys2Proof.Machine

/-- EXCITATION_PULSE_START (R355). -/
def execExcitationPulseStart (n : Nat) (s : State) : Host.Outcome State Fault Refusal := act (excitationStart n) s

/-- CONVERSION_START (R383). -/
def execConversionStart (cal : Bool) (n : Nat) (s : State) : Host.Outcome State Fault Refusal := act (conversionBegin cal n) s

/-- CONVERSION_END (R386). -/
def execConversionEnd (cal : Bool) (n : Nat) (volts : List Int) (side : ConvSide) (s : State) : Host.Outcome State Fault Refusal :=
  act (conversionOver cal n volts side.volts side.ext) s

/-- EXC_COMPLIANCE (R359). -/
def execExcCompliance (k : Nat) (s : State) : Host.Outcome State Fault Refusal := act (Machine.excCompliance k) s

/-- URGENT_REQUEST (R392). -/
def execUrgentRequest (p : Path) (lane setup : Nat) (s : State) : Host.Outcome State Fault Refusal :=
  act (overPath p (writeReg p 0x28 0x04C (urgentWord lane setup))) s

/-- CAL_DUE (R398). -/
def execCalDue (s : State) : Host.Outcome State Fault Refusal := act Machine.calDue s

end Sys2Proof.Machine
end

