-- ==== Sys2Proof/Machine/CmdArray.lean ====
section
/-! DEFINITION. The meanings of the commands of the inference array and its learning: each row's effect on State, with the rule of its row. -/

namespace Sys2Proof.Machine

/-- ARR_GO (R459). -/
def execArrGo (p : Path) (s : State) : Host.Outcome State Fault Refusal := act (overPath p (writeReg p 0x30 0x054 1)) s

/-- PARTITION_END (R462). -/
def execPartitionEnd (x : CellInstant) (corr : Nat) (uncorr : Bool) (s : State) : Host.Outcome State Fault Refusal :=
  act (Machine.partitionEnd x.c x.ns corr uncorr) s

/-- CELL_WATCHDOG (R473). -/
def execCellWatchdog (x : CellInstant) (s : State) : Host.Outcome State Fault Refusal := act (Machine.cellWatchdog x.c x.ns) s

/-- REQUALIFY (R478). -/
def execRequalify (p : Path) (c : Nat) (s : State) : Host.Outcome State Fault Refusal := act (overPath p (writeReg p 0x30 0x074 (opWord 1 (c % 32)))) s

/-- REQUAL_DONE (R478). -/
def execRequalDone (s : State) : Host.Outcome State Fault Refusal := act Machine.requalDone s

/-- START (R521). -/
def execStart (p : Path) (init : Bool) (s : State) : Host.Outcome State Fault Refusal := act (overPath p (writeReg p 0x43 0x068 (opWord 1 (b2n init)))) s

/-- STOP (R521). -/
def execStop (p : Path) (s : State) : Host.Outcome State Fault Refusal := act (overPath p (writeReg p 0x43 0x068 (opWord 2 0))) s

/-- SEAL_HEAD (R511). -/
def execSealHead (p : Path) (s : State) : Host.Outcome State Fault Refusal := act (overPath p (writeReg p 0x43 0x068 (opWord 3 0))) s

/-- DISCARD (R521). -/
def execDiscard (p : Path) (s : State) : Host.Outcome State Fault Refusal := act (overPath p (writeReg p 0x43 0x068 (opWord 4 0))) s

/-- HEAD_WRITE_COMPLETE (R513). -/
def execHeadWriteComplete (s : State) : Host.Outcome State Fault Refusal := act Machine.headWriteComplete s

end Sys2Proof.Machine
end

