-- ==== Sys2Proof/Machine/CmdFault.lean ====
section
/-! DEFINITION. The meanings of the commands of the fault hub and background work: each row's effect on State, with the rule of its row. -/

namespace Sys2Proof.Machine

/-- ESC_LEAK (R597). -/
def execEscLeak (id : Nat) (s : State) : Host.Outcome State Fault Refusal := act (Machine.escLeak id) s

/-- FAULT_EXIT (R603). -/
def execFaultExit (s : State) : Host.Outcome State Fault Refusal := act Machine.faultExit s

/-- CLEAR_LOCKOUT (R607). -/
def execClearLockout (p : Path) (s : State) : Host.Outcome State Fault Refusal := act (overPath p (writeReg p 0x07 0x054 (opWord 1 0xC10C))) s

/-- CLEAR_ESC (R598). -/
def execClearEsc (p : Path) (s : State) : Host.Outcome State Fault Refusal := act (overPath p (writeReg p 0x07 0x054 (opWord 2 0))) s

/-- FLT_TRAP_ACK (R613). -/
def execFltTrapAck (p : Path) (w : Word) (s : State) : Host.Outcome State Fault Refusal := act (overPath p (writeReg p 0x07 0x050 w)) s

/-- FLT_ESC_SELECT (R616). -/
def execFltEscSelect (p : Path) (w : Word) (s : State) : Host.Outcome State Fault Refusal := act (overPath p (writeReg p 0x07 0x07C w)) s

/-- DIE_HOT (R590). -/
def execDieHot (s : State) : Host.Outcome State Fault Refusal := act Machine.dieHot s

/-- IDLE_GAP_WORK (R641). -/
def execIdleGapWork (at_ till : Nat) (bad raced : Bool) (s : State) : Host.Outcome State Fault Refusal := act (gapWork at_ till bad raced) s

/-- PROMOTED (R643). -/
def execPromoted (s : State) : Host.Outcome State Fault Refusal := act promoteTasks s

/-- BG_STARVED (R644). -/
def execBgStarved (s : State) : Host.Outcome State Fault Refusal := act starvedTasks s

/-- CORE_TEST_DONE (R631). -/
def execCoreTestDone (pass : Bool) (s : State) : Host.Outcome State Fault Refusal := act (Machine.coreTestDone pass) s

end Sys2Proof.Machine
end

