-- ==== Sys2Proof/Machine/CmdFsk.lean ====
section
/-! DEFINITION. The meanings of the commands of the FSK modem: each row's effect on State, with the rule of its row. -/

namespace Sys2Proof.Machine

/-- CARRIER_DETECT (R206). -/
def execCarrierDetect (c : Carrier) (a b : Nat) (s : State) : Host.Outcome State Fault Refusal := act (Machine.carrierDetect c.quiet a b c.mine) s

/-- CARRIER_END (R206). -/
def execCarrierEnd (a b : Nat) (s : State) : Host.Outcome State Fault Refusal := act (Machine.carrierEnd a b) s

/-- FSK_FRAME_RX (R211). -/
def execFskFrameRx (f : FskFrame) (s : State) : Host.Outcome State Fault Refusal := act (frameRx f) s

/-- FRAME_GAP_TIMEOUT (R211). -/
def execFrameGapTimeout (s : State) : Host.Outcome State Fault Refusal := act frameGap s

/-- NOISE_TIMEOUT (R211). -/
def execNoiseTimeout (s : State) : Host.Outcome State Fault Refusal := act Machine.noiseTimeout s

/-- FSK_TX_START (R218). -/
def execFskTxStart (s : State) : Host.Outcome State Fault Refusal := act Machine.fskTxStart s

/-- REPLY_LATE (R214). -/
def execReplyLate (s : State) : Host.Outcome State Fault Refusal := act Machine.replyLate s

/-- FSK_TX_END (R207). -/
def execFskTxEnd (s : State) : Host.Outcome State Fault Refusal := act Machine.fskTxEnd s

/-- FSK_TX_STUCK (R220). -/
def execFskTxStuck (s : State) : Host.Outcome State Fault Refusal := act Machine.fskTxStuck s

/-- BURST_DUE (R224). -/
def execBurstDue (s : State) : Host.Outcome State Fault Refusal := act Machine.burstDue s

/-- BURST_TX_START (R225). -/
def execBurstTxStart (s : State) : Host.Outcome State Fault Refusal := act Machine.burstTxStart s

/-- BURST_DEFER (R225). -/
def execBurstDefer (s : State) : Host.Outcome State Fault Refusal := act Machine.burstDefer s

end Sys2Proof.Machine
end

