-- ==== Sys2Proof/Machine/CmdFskCommands.lean ====
section
/-! DEFINITION. The meanings of the commands of the commands of an FSK master: each row's effect on State, with the rule of its row. -/

namespace Sys2Proof.Machine

/-- READ_UNIQUE_IDENTIFIER (R227). -/
def execReadUniqueIdentifier (s : State) : Host.Outcome State Fault Refusal := act (readCmd [0] identData) s

/-- READ_UNIQUE_ID_BY_TAG (R227). -/
def execReadUniqueIdByTag (s : State) : Host.Outcome State Fault Refusal := act (tagCmd 11 0x100 6) s

/-- READ_UNIQUE_ID_BY_LONG_TAG (R227). -/
def execReadUniqueIdByLongTag (s : State) : Host.Outcome State Fault Refusal := act (tagCmd 21 0x134 32) s

/-- READ_PV (R227). -/
def execReadPv (s : State) : Host.Outcome State Fault Refusal := act (readCmd [1] (varBytes 0)) s

/-- READ_LOOP_CURRENT_PERCENT (R227). -/
def execReadLoopCurrentPercent (s : State) : Host.Outcome State Fault Refusal := act (readCmd [2] (pureData fun s => loopBytes s ++ percentBytes s)) s

/-- READ_DYNAMIC_VARIABLES (R227). -/
def execReadDynamicVariables (s : State) : Host.Outcome State Fault Refusal := act (readCmd [3] dynamicData) s

/-- WRITE_POLLING_ADDRESS (R223). -/
def execWritePollingAddress (s : State) : Host.Outcome State Fault Refusal := act (writeCmd 6 2 pollCmd) s

/-- READ_LOOP_CONFIGURATION (R223). -/
def execReadLoopConfiguration (s : State) : Host.Outcome State Fault Refusal := act (readCmd [7] (pureData pollData)) s

/-- READ_VARIABLE_CLASSIFICATIONS (R227). -/
def execReadVariableClassifications (s : State) : Host.Outcome State Fault Refusal := act (readCmd [8] (freeBytes 4)) s

/-- READ_DEVICE_VARS_WITH_STATUS (R232). -/
def execReadDeviceVarsWithStatus (s : State) : Host.Outcome State Fault Refusal := act (codesCmd 9 statusData) s

/-- READ_DEVICE_VARIABLES (R232). -/
def execReadDeviceVariables (s : State) : Host.Outcome State Fault Refusal := act (codesCmd 33 variableData) s

/-- READ_MESSAGE (R227). -/
def execReadMessage (s : State) : Host.Outcome State Fault Refusal := act (readCmd [12] (pureData fun s => fskText s 0x11C 24)) s

/-- READ_TAG_DESCRIPTOR_DATE (R227). -/
def execReadTagDescriptorDate (s : State) : Host.Outcome State Fault Refusal := act (readCmd [13] (pureData tagData)) s

/-- READ_DEVICE_INFORMATION (R227). -/
def execReadDeviceInformation (s : State) : Host.Outcome State Fault Refusal := act (readCmd [15] (freeBytes 18)) s

/-- READ_FINAL_ASSEMBLY_NUMBER (R227). -/
def execReadFinalAssemblyNumber (s : State) : Host.Outcome State Fault Refusal := act (readCmd [16] (pureData fun s => (fskText s 0x118 4).drop 1)) s

/-- READ_LONG_TAG (R227). -/
def execReadLongTag (s : State) : Host.Outcome State Fault Refusal := act (readCmd [20] (pureData fun s => fskText s 0x134 32)) s

/-- WRITE_MESSAGE (R227). -/
def execWriteMessage (s : State) : Host.Outcome State Fault Refusal := act (writeCmd 17 24 messageCmd) s

/-- WRITE_TAG_DESCRIPTOR_DATE (R227). -/
def execWriteTagDescriptorDate (s : State) : Host.Outcome State Fault Refusal := act (writeCmd 18 21 tagDescCmd) s

/-- WRITE_FINAL_ASSEMBLY_NUMBER (R227). -/
def execWriteFinalAssemblyNumber (s : State) : Host.Outcome State Fault Refusal := act (writeCmd 19 3 finalCmd) s

/-- WRITE_LONG_TAG (R227). -/
def execWriteLongTag (s : State) : Host.Outcome State Fault Refusal := act (writeCmd 22 32 longTagCmd) s

/-- RESET_CONFIG_CHANGED_FLAG (R222). -/
def execResetConfigChangedFlag (s : State) : Host.Outcome State Fault Refusal := act clearChangedCmd s

/-- ENTER_EXIT_FIXED_CURRENT (R229). -/
def execEnterExitFixedCurrent (s : State) : Host.Outcome State Fault Refusal := act (writeCmd 40 4 fixedCmd) s

/-- TRIM_LOOP_CURRENT_ZERO (R229). -/
def execTrimLoopCurrentZero (s : State) : Host.Outcome State Fault Refusal := act (writeCmd 45 4 (trimCmd 4000 F.LDAC_UTRIM_ZERO_DUA 10 1 1000)) s

/-- TRIM_LOOP_CURRENT_GAIN (R229). -/
def execTrimLoopCurrentGain (s : State) : Host.Outcome State Fault Refusal := act (writeCmd 46 4 (trimCmd 20000 F.LDAC_UTRIM_GAIN_PPM 50 1 5000)) s

/-- READ_ADDITIONAL_DEVICE_STATUS (R231). -/
def execReadAdditionalDeviceStatus (s : State) : Host.Outcome State Fault Refusal := act statusCmd s

/-- WRITE_NUM_RESPONSE_PREAMBLES (R227). -/
def execWriteNumResponsePreambles (s : State) : Host.Outcome State Fault Refusal := act (writeCmd 59 1 preambleCmd) s

/-- WRITE_BURST_PERIOD (R227). -/
def execWriteBurstPeriod (s : State) : Host.Outcome State Fault Refusal := act (writeCmd 103 9 burstPeriodCmd) s

/-- WRITE_BURST_TRIGGER (R227). -/
def execWriteBurstTrigger (s : State) : Host.Outcome State Fault Refusal := act (writeCmd 104 2 burstTriggerCmd) s

/-- READ_BURST_CONFIGURATION (R227). -/
def execReadBurstConfiguration (s : State) : Host.Outcome State Fault Refusal := act (readCmd [105] burstData) s

/-- WRITE_BURST_DEVICE_VARIABLES (R227). -/
def execWriteBurstDeviceVariables (s : State) : Host.Outcome State Fault Refusal := act (writeCmd 107 1 burstVarsCmd) s

/-- WRITE_BURST_COMMAND (R227). -/
def execWriteBurstCommand (s : State) : Host.Outcome State Fault Refusal := act (writeCmd 108 1 burstCommandCmd) s

/-- BURST_CONTROL (R227). -/
def execBurstControl (s : State) : Host.Outcome State Fault Refusal := act (writeCmd 109 1 burstControlCmd) s

/-- YRD (R234). -/
def execYrd (ns : Nat) (s : State) : Host.Outcome State Fault Refusal := act (Machine.yrd ns) s

/-- YWR (R234). -/
def execYwr (s : State) : Host.Outcome State Fault Refusal := act Machine.ywr s

/-- YCOMMIT (R235). -/
def execYcommit (s : State) : Host.Outcome State Fault Refusal := act Machine.ycommit s

/-- YSESS (R335). -/
def execYsess (s : State) : Host.Outcome State Fault Refusal := act Machine.ysess s

end Sys2Proof.Machine
end

