-- ==== Sys2Proof/Machine/CmdKeys.lean ====
section
/-! DEFINITION. The meanings of the commands of the window keys: each row's effect on State, with the rule of its row. -/

namespace Sys2Proof.Machine

/-- KEY_SCAN (R694). -/
def execKeyScan (g0 g1 g2 : Nat) (s : State) : Host.Outcome State Fault Refusal := act (Machine.keyScan g0 g1 g2) s

/-- STUCK (R699). -/
def execStuck (n : Nat) (s : State) : Host.Outcome State Fault Refusal := act (Machine.stuck n) s

/-- REBASE_NEG (R698). -/
def execRebaseNeg (n : Nat) (s : State) : Host.Outcome State Fault Refusal := act (Machine.rebaseNeg n) s

/-- LOCAL_LOCK_ON (R705). -/
def execLocalLockOn (s : State) : Host.Outcome State Fault Refusal := act (actOn 1 fun s => { s with keys.lockReq := some true }) s

/-- LOCAL_LOCK_OFF (R705). -/
def execLocalLockOff (s : State) : Host.Outcome State Fault Refusal := act (actOn 2 fun s => { s with keys.lockReq := some false }) s

/-- LOOP_TEST_CURRENT (R706). -/
def execLoopTestCurrent (s : State) : Host.Outcome State Fault Refusal := act (actOn 3 loopTest) s

/-- ENTER_ZERO_TRIM (R707). -/
def execEnterZeroTrim (s : State) : Host.Outcome State Fault Refusal := act (actOn 4 (enterTrim 1)) s

/-- ENTER_SPAN_TRIM (R707). -/
def execEnterSpanTrim (s : State) : Host.Outcome State Fault Refusal := act (actOn 5 (enterTrim 2)) s

/-- STORE_TRIM (R708). -/
def execStoreTrim (s : State) : Host.Outcome State Fault Refusal := act (actOn 6 Machine.storeTrim) s

/-- TRIM_CANCEL (R709). -/
def execTrimCancel (s : State) : Host.Outcome State Fault Refusal := act trimTimeout s

/-- LOCK_TIMEOUT (R705). -/
def execLockTimeout (s : State) : Host.Outcome State Fault Refusal := act Machine.lockTimeout s

/-- UNLOCK (R705). -/
def execUnlock (p : Path) (s : State) : Host.Outcome State Fault Refusal := act (overPath p (writeReg p 0x48 0x078 (opWord 1 0))) s

/-- REBASE (R700). -/
def execRebase (p : Path) (s : State) : Host.Outcome State Fault Refusal := act (overPath p (writeReg p 0x48 0x078 (opWord 2 0))) s

end Sys2Proof.Machine
end

