-- ==== Sys2Proof/Machine/CmdLink.lean ====
section
/-! DEFINITION. The meanings of the commands of the single-pair Ethernet link and PTP: each row's effect on State, with the rule of its row. -/

namespace Sys2Proof.Machine

/-- LINK_UP (R247). -/
def execLinkUp (hiAdv hiReq master : Bool) (sqi mse : Nat) (s : State) : Host.Outcome State Fault Refusal := act (linkUpRow hiAdv hiReq master sqi mse) s

/-- LINK_DOWN (R248). -/
def execLinkDown (ns : Nat) (s : State) : Host.Outcome State Fault Refusal := act (linkDownRow ns) s

/-- SQI_LOW (R249). -/
def execSqiLow (s : State) : Host.Outcome State Fault Refusal := act Machine.sqiLow s

/-- MAC_FRAME_RX (R250). -/
def execMacFrameRx (f : MacFrame) (s : State) : Host.Outcome State Fault Refusal := act (Machine.macFrameRx f) s

/-- FRAME_TX_START (R257). -/
def execFrameTxStart (ns : Nat) (s : State) : Host.Outcome State Fault Refusal := act (Machine.frameTxStart ns) s

/-- GOOSE_RETRANSMIT (R283). -/
def execGooseRetransmit (s : State) : Host.Outcome State Fault Refusal := act Machine.gooseRetransmit s

/-- PTP_SYNC (R263). -/
def execPtpSync (s : State) : Host.Outcome State Fault Refusal := act Machine.ptpSync s

/-- PTP_FOLLOW_UP (R263). -/
def execPtpFollowUp (s : State) : Host.Outcome State Fault Refusal := act Machine.ptpFollowUp s

/-- PTP_ANNOUNCE (R261). -/
def execPtpAnnounce (s : State) : Host.Outcome State Fault Refusal := act Machine.ptpAnnounce s

/-- PDELAY_REQ_RX (R259). -/
def execPdelayReqRx (s : State) : Host.Outcome State Fault Refusal := act Machine.pdelayReqRx s

/-- PDELAY_REQ_TX (R259). -/
def execPdelayReqTx (s : State) : Host.Outcome State Fault Refusal := act Machine.pdelayReqTx s

/-- PDELAY_RESP (R262). -/
def execPdelayResp (s : State) : Host.Outcome State Fault Refusal := act Machine.pdelayResp s

/-- ANNOUNCE_TIMEOUT (R264). -/
def execAnnounceTimeout (s : State) : Host.Outcome State Fault Refusal := act Machine.announceTimeout s

/-- SYNC_LOSS_TIMEOUT (R264). -/
def execSyncLossTimeout (s : State) : Host.Outcome State Fault Refusal := act syncLoss s

/-- PTP_TODSET_WRITE (R266). -/
def execPtpTodsetWrite (p : Path) (w : Word) (s : State) : Host.Outcome State Fault Refusal := act (overPath p (writeReg p 0x16 0x050 w)) s

/-- TOD_READ (R289). -/
def execTodRead (p : Path) (ns : Nat) (s : State) : Host.Outcome State Fault Refusal := act (overPath p (readAny (regAddr 0x16 0x068) ns)) s

end Sys2Proof.Machine
end

