-- ==== Sys2Proof/Machine/CmdLoop.lean ====
section
/-! DEFINITION. The meanings of the commands of the line and the loop DAC: each row's effect on State, with the rule of its row. -/

namespace Sys2Proof.Machine

/-- DETECTION_WINDOW_END (R126). -/
def execDetectionWindowEnd (qual cross ms : Nat) (s : State) : Host.Outcome State Fault Refusal := act (windowEnd qual cross ms) s

/-- LOOP_ENGAGE (R181). -/
def execLoopEngage (ms : Nat) (s : State) : Host.Outcome State Fault Refusal := act (Machine.loopEngage ms) s

/-- LIFTOFF_DETECT (R137). -/
def execLiftoffDetect (s : State) : Host.Outcome State Fault Refusal := act Machine.liftoffDetect s

/-- LIFTOFF_CLEAR (R138). -/
def execLiftoffClear (s : State) : Host.Outcome State Fault Refusal := act Machine.liftoffClear s

/-- LOOP_OVERDRAW (R140). -/
def execLoopOverdraw (s : State) : Host.Outcome State Fault Refusal := act Machine.loopOverdraw s

/-- GEN_CHANGE_DEFERRED (R142). -/
def execGenChangeDeferred (s : State) : Host.Outcome State Fault Refusal := act deferredChange s

/-- LOOPCLR_ASSERT (R177). -/
def execLoopclrAssert (lowNs : Nat) (s : State) : Host.Outcome State Fault Refusal :=
  .next (if s.boot.held then loopclrLowHeld lowNs s else settle s (loopclrLow lowNs s))

/-- LOOPCLR_DEASSERT (R178). -/
def execLoopclrDeassert (highNs : Nat) (s : State) : Host.Outcome State Fault Refusal :=
  .next (if s.boot.held then loopclrHigh highNs s else settle s (loopclrHigh highNs s))

/-- SPAN_DONE (R173). -/
def execSpanDone (s : State) : Host.Outcome State Fault Refusal := act Machine.spanDone s

/-- TEST_END (R168). -/
def execTestEnd (s : State) : Host.Outcome State Fault Refusal := act Machine.testEnd s

/-- TRIM_LIMIT (R185). -/
def execTrimLimit (s : State) : Host.Outcome State Fault Refusal := act Machine.trimLimit s

/-- READBACK_SET (R186). -/
def execReadbackSet (s : State) : Host.Outcome State Fault Refusal := act Machine.readbackSet s

/-- READBACK_CLEAR (R186). -/
def execReadbackClear (s : State) : Host.Outcome State Fault Refusal := act Machine.readbackClear s

/-- PASS_DONE (R191). -/
def execPassDone (n : Nat) (s : State) : Host.Outcome State Fault Refusal := act (Machine.passDone n) s

/-- ADAC_OVERLOAD (R189). -/
def execAdacOverload (n : Nat) (s : State) : Host.Outcome State Fault Refusal := act (Machine.adacOverload n) s

end Sys2Proof.Machine
end

