-- ==== Sys2Proof/Machine/CmdNvm.lean ====
section
/-! DEFINITION. The meanings of the commands of non-volatile memory and the Almanac: each row's effect on State, with the rule of its row. -/

namespace Sys2Proof.Machine

/-- CLEAR_WORD (R649). -/
def execClearWord (p : Path) (s : State) : Host.Outcome State Fault Refusal := act (overPath p (writeReg p 0x0D 0x054 (opWord 1 0))) s

/-- MODEL_WRITE (R658). -/
def execModelWrite (p : Path) (slot : Nat) (s : State) : Host.Outcome State Fault Refusal := act (overPath p (writeReg p 0x0C 0x044 (opWord 1 (slot % 2)))) s

/-- MODEL_CHECK (R656). -/
def execModelCheck (p : Path) (slot : Nat) (s : State) : Host.Outcome State Fault Refusal := act (overPath p (writeReg p 0x0C 0x044 (opWord 2 (slot % 2)))) s

/-- PATCH_WRITE (R656). -/
def execPatchWrite (p : Path) (s : State) : Host.Outcome State Fault Refusal := act (overPath p (writeReg p 0x0C 0x044 (opWord 3 0))) s

/-- PATCH_CHECK (R343). -/
def execPatchCheck (p : Path) (s : State) : Host.Outcome State Fault Refusal := act (overPath p (writeReg p 0x0C 0x044 (opWord 4 0))) s

/-- SAVE_CONFIG (R660). -/
def execSaveConfig (p : Path) (s : State) : Host.Outcome State Fault Refusal := act (overPath p (writeReg p 0x0C 0x044 (opWord 5 0))) s

/-- RETIRE_ARCH (R667). -/
def execRetireArch (p : Path) (s : State) : Host.Outcome State Fault Refusal := act (overPath p (writeReg p 0x0C 0x044 (opWord 6 0))) s

/-- NVM_CHUNK_START (R654). -/
def execNvmChunkStart (s : State) : Host.Outcome State Fault Refusal := act chunkStart s

/-- NVM_CHUNK_COMPLETE (R654). -/
def execNvmChunkComplete (s : State) : Host.Outcome State Fault Refusal := act chunkComplete s

/-- CONFIG_LOAD (R662). -/
def execConfigLoad (s : State) : Host.Outcome State Fault Refusal := act Machine.configLoad s

/-- AON_SECOND (R676). -/
def execAonSecond (s : State) : Host.Outcome State Fault Refusal := act aonSecond s

/-- ALM_COMMIT_DUE (R678). -/
def execAlmCommitDue (s : State) : Host.Outcome State Fault Refusal := act commitDue s

/-- COMMIT (R678). -/
def execAlmCommit (p : Path) (s : State) : Host.Outcome State Fault Refusal := act (overPath p (writeReg p 0x0B 0x054 (opWord 1 0))) s

/-- SNAP (R688). -/
def execAlmSnap (p : Path) (s : State) : Host.Outcome State Fault Refusal := act (overPath p (writeReg p 0x0B 0x054 (opWord 2 0))) s

/-- RESET (R689). -/
def execAlmReset (p : Path) (mask : Nat) (s : State) : Host.Outcome State Fault Refusal := act (overPath p (writeReg p 0x0B 0x054 (opWord 3 (mask % 16)))) s

/-- ALM_WIN_READ (R688). -/
def execAlmWinRead (p : Path) (s : State) : Host.Outcome State Fault Refusal := act (overPath p (readAny (regAddr 0x0B 0x060) 0)) s

/-- CMD_DONE (R657). -/
def execCmdDone (patch : Option (Nat × Nat)) (s : State) : Host.Outcome State Fault Refusal := act (checkEnd patch) s

end Sys2Proof.Machine
end

