-- ==== Sys2Proof/Machine/CmdPower.lean ====
section
/-! DEFINITION. The meanings of the commands of the governor and voltage scaling: each row's effect on State, with the rule of its row. -/

namespace Sys2Proof.Machine

/-- GOVERNOR_SAMPLE (R532). -/
def execGovernorSample (at_ load chg vres vpre : Nat) (s : State) : Host.Outcome State Fault Refusal := act (sampleAt at_ load chg vres vpre) s

/-- BANK_ZERO_FILL_DONE (R548). -/
def execBankZeroFillDone (n : Nat) (s : State) : Host.Outcome State Fault Refusal := act (zeroFillDone n) s

/-- BUDGET_RISE_HOLD_EXPIRY (R533). -/
def execBudgetRiseHoldExpiry (s : State) : Host.Outcome State Fault Refusal := act riseExpiry s

/-- AVS_LIMIT (R531). -/
def execAvsLimit (s : State) : Host.Outcome State Fault Refusal := act Machine.avsLimit s

/-- GOV_BELOW_FLOOR (R543). -/
def execGovBelowFloor (s : State) : Host.Outcome State Fault Refusal := act belowFloor s

/-- RES_FAULT (R156). -/
def execResFault (s : State) : Host.Outcome State Fault Refusal := act Machine.resFault s

/-- LEVEL_DONE (R528). -/
def execLevelDone (s : State) : Host.Outcome State Fault Refusal := act Machine.levelDone s

end Sys2Proof.Machine
end

