-- ==== Sys2Proof/Machine/CmdRegs.lean ====
section
/-! DEFINITION. The meanings of the commands of register and memory accesses and page commands: each row's effect on State, with the rule of its row. -/

namespace Sys2Proof.Machine

/-- REGISTER_WRITE (R35). -/
def execRegisterWrite (p : Path) (addr data : Word) (s : State) : Host.Outcome State Fault Refusal := act (overPath p (writeAny p addr data)) s

/-- RC_READ (R37). -/
def execRcRead (p : Path) (addr : Word) (ns : Nat) (s : State) : Host.Outcome State Fault Refusal := act (overPath p (readAny addr ns)) s

/-- MEMORY_WRITE (R33). -/
def execMemoryWrite (p : Path) (addr data : Word) (s : State) : Host.Outcome State Fault Refusal := act (overPath p (writeMemory p addr data)) s

/-- COMMIT_REQUEST (R42). -/
def execCommitRequest (p : Path) (page : Nat) (s : State) : Host.Outcome State Fault Refusal := act (overPath p (writeReg p page 0x020 1)) s

/-- SOFT_RESET_REQUEST (R52). -/
def execSoftResetRequest (p : Path) (page : Nat) (en : Bool) (s : State) : Host.Outcome State Fault Refusal :=
  act (overPath p (writeReg p page 0x008 (ctrlWord en 2))) s

/-- WRITE_LOCK (R54). -/
def execWriteLock (p : Path) (page : Nat) (en : Bool) (s : State) : Host.Outcome State Fault Refusal :=
  act (overPath p (writeReg p page 0x008 (ctrlWord en 4))) s

/-- EVENT_CLEAR (R58). -/
def execEventClear (p : Path) (page : Nat) (w : EventBits) (s : State) : Host.Outcome State Fault Refusal :=
  act (overPath p (writeReg p page 0x018 (w.bits &&& ~~~w.same))) s

/-- FAULT_INJECTION_START (R62). -/
def execFaultInjectionStart (p : Path) (page point count : Nat) (s : State) : Host.Outcome State Fault Refusal :=
  act (overPath p (writeReg p page 0x01C (injWord point count))) s

/-- LEASE_TAKE (R303). -/
def execLeaseTake (p : Path) (page secs : Nat) (s : State) : Host.Outcome State Fault Refusal := act (overPath p (takeLease p page secs)) s

/-- LEASE_RELEASE (R303). -/
def execLeaseRelease (p : Path) (page : Nat) (s : State) : Host.Outcome State Fault Refusal := act (overPath p (writeReg p page 0x024 0)) s

/-- LEASE_EXPIRY (R307). -/
def execLeaseExpiry (group : Nat) (s : State) : Host.Outcome State Fault Refusal := act (leaseExpiry group) s

end Sys2Proof.Machine
end

