-- ==== Sys2Proof/Machine/CmdReset.lean ====
section
/-! DEFINITION. The meanings of the commands of resets and start-up: each row's effect on State, with the rule of its row. -/

namespace Sys2Proof.Machine

/-- POR (R715). -/
def execPor (lost : Bool) (s : State) : Host.Outcome State Fault Refusal := .next (porAssert lost s)

/-- BOR_MAIN (R715). -/
def execBorMain (rail : Nat) (s : State) : Host.Outcome State Fault Refusal := .next (Machine.borMain rail s)

/-- BOR_LP (R583). -/
def execBorLp (s : State) : Host.Outcome State Fault Refusal := .next (Machine.borLp s)

/-- RST_N (R716). -/
def execRstN (lowNs : Nat) (s : State) : Host.Outcome State Fault Refusal := .next (Machine.rstN lowNs s)

/-- WDOG (R717). -/
def execWdog (s : State) : Host.Outcome State Fault Refusal := .next (Machine.wdog s)

/-- RST_CMD_RESET (R738). -/
def execRstCmdReset (p : Path) (s : State) : Host.Outcome State Fault Refusal := act (overPath p (writeReg p 0x01 0x048 (opWord 1 0x5A17))) s

/-- POR_RELEASE (R720). -/
def execPorRelease (gens : Nat) (bootsel testEn : Bool) (s : State) : Host.Outcome State Fault Refusal :=
  .next (settle s (Machine.porRelease gens bootsel testEn s))

/-- ROM_BOOT_COMPLETE (R730). -/
def execRomBootComplete (us : Nat) (linkPass romBad : Bool) (s : State) : Host.Outcome State Fault Refusal := act (romBoot us linkPass romBad) s

end Sys2Proof.Machine
end

