-- ==== Sys2Proof/Machine/CmdSleep.lean ====
section
/-! DEFINITION. The meanings of the commands of sleep and wake: each row's effect on State, with the rule of its row. -/

namespace Sys2Proof.Machine

/-- SLEEP_REQUEST (R561). -/
def execSleepRequest (p : Path) (target : Nat) (s : State) : Host.Outcome State Fault Refusal := act (overPath p (askSleep p target)) s

/-- SLEEP_CANCEL (R562). -/
def execSleepCancel (p : Path) (s : State) : Host.Outcome State Fault Refusal := act (overPath p (writeReg p 0x02 0x058 0x80000000)) s

/-- SLEEP_STATE_REACHED (R569). -/
def execSleepStateReached (s : State) : Host.Outcome State Fault Refusal := act stateReached s

/-- SLEEP_RETRY (R567). -/
def execSleepRetry (s : State) : Host.Outcome State Fault Refusal := act Machine.sleepRetry s

/-- WAKE (R575). -/
def execWake (src : Nat) (falling : Bool) (s : State) : Host.Outcome State Fault Refusal := act (wakeFires src falling) s

/-- ALARM (R575). -/
def execAlarm (s : State) : Host.Outcome State Fault Refusal := act alarmFires s

/-- WAKE_EXIT_COMPLETE (R574). -/
def execWakeExitComplete (early : Bool) (s : State) : Host.Outcome State Fault Refusal := act (exitComplete early) s

end Sys2Proof.Machine
end

