-- ==== Sys2Proof/Machine/CmdSlots.lean ====
section
/-! DEFINITION. The meanings of the commands of the actions of slots: each row's effect on State, with the rule of its row. -/

namespace Sys2Proof.Machine

/-- NOP (R93). -/
def execNop (idx at_ : Nat) (s : State) : Host.Outcome State Fault Refusal := act (slotDo 0 idx at_ id) s

/-- LANE_COLLECT (R391). -/
def execLaneCollect (idx at_ ms : Nat) (s : State) : Host.Outcome State Fault Refusal := act (slotDo 1 idx at_ fun s => Machine.laneCollect (runArg s) ms s) s

/-- FAST_COLLECT (R414). -/
def execFastCollect (idx at_ : Nat) (s : State) : Host.Outcome State Fault Refusal := act (slotDo 2 idx at_ fun s => Machine.fastCollect (runArg s) s) s

/-- LOOP_UPDATE (R169). -/
def execLoopUpdate (idx at_ : Nat) (s : State) : Host.Outcome State Fault Refusal := act (slotDo 3 idx at_ Machine.loopUpdate) s

/-- FSK_SERVICE (R216). -/
def execFskService (idx at_ : Nat) (s : State) : Host.Outcome State Fault Refusal := act (Machine.fskService idx at_) s

/-- PUB_SERVICE (R274). -/
def execPubService (idx at_ : Nat) (s : State) : Host.Outcome State Fault Refusal := act (slotDo 5 idx at_ Machine.pubService) s

/-- REC_SERVICE (R435). -/
def execRecService (idx at_ : Nat) (s : State) : Host.Outcome State Fault Refusal := act (slotDo 6 idx at_ Machine.recService) s

/-- ARR_LAYER (R460). -/
def execArrLayer (idx at_ : Nat) (s : State) : Host.Outcome State Fault Refusal := act (Machine.arrLayer idx at_) s

/-- LEARN_STEP (R508). -/
def execLearnStep (idx at_ : Nat) (s : State) : Host.Outcome State Fault Refusal := act (slotDo 8 idx at_ Machine.learnStep) s

/-- DMA_JOB (R495). -/
def execDmaJob (idx at_ : Nat) (s : State) : Host.Outcome State Fault Refusal := act (Machine.dmaJob idx at_) s

/-- LINK_JOB (R333). -/
def execLinkJob (idx at_ : Nat) (s : State) : Host.Outcome State Fault Refusal := act (slotDo 10 idx at_ id) s

/-- BIST_SLICE (R620). -/
def execBistSlice (idx at_ : Nat) (bad raced : Bool) (s : State) : Host.Outcome State Fault Refusal := act (backSlot 11 0 idx at_ bad raced) s

/-- SCRUB_STEP (R635). -/
def execScrubStep (idx at_ : Nat) (bad raced : Bool) (s : State) : Host.Outcome State Fault Refusal := act (backSlot 12 1 idx at_ bad raced) s

/-- CAL_STEP (R639). -/
def execCalStep (idx at_ : Nat) (bad raced : Bool) (s : State) : Host.Outcome State Fault Refusal := act (backSlot 13 2 idx at_ bad raced) s

/-- HOST_SIGNAL (R93). -/
def execHostSignal (idx at_ : Nat) (s : State) : Host.Outcome State Fault Refusal := act (slotDo 14 idx at_ fun s => Machine.hostSignal (runArg s) s) s

end Sys2Proof.Machine
end

