-- ==== Sys2Proof/Machine/CmdSpi.lean ====
section
/-! DEFINITION. The meanings of the commands of the SPI port and key storage: each row's effect on State, with the rule of its row. -/

namespace Sys2Proof.Machine

/-- SPI_READ (R319). -/
def execSpiRead (f : SpiFrame) (ns : Nat) (s : State) : Host.Outcome State Fault Refusal := act (spiAs 0 f ns) s

/-- SPI_WRITE (R319). -/
def execSpiWrite (f : SpiFrame) (ns : Nat) (s : State) : Host.Outcome State Fault Refusal := act (spiAs 1 f ns) s

/-- SPI_STATUS (R319). -/
def execSpiStatus (f : SpiFrame) (s : State) : Host.Outcome State Fault Refusal := act (spiAs 2 f 0) s

/-- SPI_FRAME_REJECT (R321). -/
def execSpiFrameReject (f : SpiFrame) (s : State) : Host.Outcome State Fault Refusal := act (spiAs 3 f 0) s

/-- ACC_KEYDATA_WRITE (R345). -/
def execAccKeydataWrite (p : Path) (w : Word) (s : State) : Host.Outcome State Fault Refusal := act (overPath p (writeReg p 0x18 0x098 w)) s

/-- PROG_K (R345). -/
def execProgK (p : Path) (slot role : Nat) (s : State) : Host.Outcome State Fault Refusal :=
  act (overPath p (writeReg p 0x18 0x09C (opWord 1 (role % 4 * 16 + slot % 8)))) s

/-- PROG_MK (R345). -/
def execProgMk (p : Path) (slot : Nat) (s : State) : Host.Outcome State Fault Refusal := act (overPath p (writeReg p 0x18 0x09C (opWord 2 (slot % 8)))) s

/-- REVOKE_K (R342). -/
def execRevokeK (p : Path) (slot : Nat) (s : State) : Host.Outcome State Fault Refusal := act (overPath p (writeReg p 0x18 0x09C (opWord 3 (slot % 8)))) s

/-- REVOKE_MK (R342). -/
def execRevokeMk (p : Path) (slot : Nat) (s : State) : Host.Outcome State Fault Refusal := act (overPath p (writeReg p 0x18 0x09C (opWord 4 (slot % 8)))) s

/-- CLEAR (R345). -/
def execClear (p : Path) (s : State) : Host.Outcome State Fault Refusal := act (overPath p (writeReg p 0x18 0x09C (opWord 5 0))) s

end Sys2Proof.Machine
end

