-- ==== Sys2Proof/Machine/CmdStorm.lean ====
section
/-! DEFINITION. The meanings of the commands of Stormbox: each row's effect on State, with the rule of its row. -/

namespace Sys2Proof.Machine

/-- REC_TRIG (R424). -/
def execRecTrig (p : Path) (s : State) : Host.Outcome State Fault Refusal := act (overPath p (writeReg p 0x2C 0x09C 1)) s

/-- GPIO_EDGE (R712). -/
def execGpioEdge (n : Nat) (falling : Bool) (s : State) : Host.Outcome State Fault Refusal := act (Machine.gpioEdge n falling) s

/-- REC_ARCH_STALL (R441). -/
def execRecArchStall (s : State) : Host.Outcome State Fault Refusal := act archStall s

/-- REC_ACK_WRITE (R444). -/
def execRecAckWrite (p : Path) (w : Word) (s : State) : Host.Outcome State Fault Refusal := act (overPath p (writeReg p 0x2C 0x0AC w)) s

/-- REC_FIND_WRITE (R443). -/
def execRecFindWrite (p : Path) (w : Word) (s : State) : Host.Outcome State Fault Refusal := act (overPath p (writeReg p 0x2C 0x0B0 w)) s

/-- REC_FIND_DONE (R443). -/
def execRecFindDone (s : State) : Host.Outcome State Fault Refusal := act Machine.recFindDone s

/-- INDEX_READY (R440). -/
def execIndexReady (s : State) : Host.Outcome State Fault Refusal := act Machine.indexReady s

end Sys2Proof.Machine
end

