-- ==== Sys2Proof/Machine/CmdTick.lean ====
section
/-! DEFINITION. The meanings of the commands of the tick engine and the plans: each row's effect on State, with the rule of its row. -/

namespace Sys2Proof.Machine

/-- TICK_BOUNDARY (R68). -/
def execTickBoundary (t : TickIn) (s : State) : Host.Outcome State Fault Refusal := .next (if s.boot.held then heldBoundary s else settle s (boundary t s))

/-- PPS_IN_EDGE (R73). -/
def execPpsInEdge (e : PpsEdge) (ns mppm : Int) (s : State) : Host.Outcome State Fault Refusal := act (ppsEdge e.falling e.since ns mppm) s

/-- PPS_IN_LOSS (R73). -/
def execPpsInLoss (s : State) : Host.Outcome State Fault Refusal := act ppsLoss s

/-- XTAL_STOP (R77). -/
def execXtalStop (s : State) : Host.Outcome State Fault Refusal := .next (if s.boot.held then xtalStopHeld s else settle s (xtalStop s))

/-- XTAL_STARTUP_TIMEOUT (R77). -/
def execXtalStartupTimeout (s : State) : Host.Outcome State Fault Refusal := act xtalTimeout s

/-- XTAL_STABLE (R77). -/
def execXtalStable (s : State) : Host.Outcome State Fault Refusal := .next (if s.boot.held then xtalStableHeld s else settle s (xtalStable s))

/-- HOLDOVER_LIMIT_EXPIRY (R87). -/
def execHoldoverLimitExpiry (s : State) : Host.Outcome State Fault Refusal := act holdoverExpiry s

/-- PPS_OUT_END (R82). -/
def execPpsOutEnd (s : State) : Host.Outcome State Fault Refusal := act ppsOutEnd s

/-- TICK_NUM_READ (R114). -/
def execTickNumRead (p : Path) (s : State) : Host.Outcome State Fault Refusal := act (overPath p (readAny (regAddr 0x05 0x054) 0)) s

/-- PLAN_WIN_ADDR_WRITE (R114). -/
def execPlanWinAddrWrite (p : Path) (w : Word) (s : State) : Host.Outcome State Fault Refusal := act (overPath p (writeReg p 0x06 0x044 w)) s

/-- PLAN_WIN_DATA_ACCESS (R89). -/
def execPlanWinDataAccess (p : Path) (w : Option Word) (s : State) : Host.Outcome State Fault Refusal := act (overPath p (winDataAccess p w)) s

/-- M_SLOT_DEADLINE (R105). -/
def execMSlotDeadline (s : State) : Host.Outcome State Fault Refusal := act mDeadline s

/-- O_SLOT_BUDGET_EXPIRY (R109). -/
def execOSlotBudgetExpiry (s : State) : Host.Outcome State Fault Refusal := act budgetExpiry s

/-- B_SLOT_BUDGET_END (R110). -/
def execBSlotBudgetEnd (s : State) : Host.Outcome State Fault Refusal := act backgroundEnd s

/-- SLOT_COMPLETE (R112). -/
def execSlotComplete (at_ : Nat) (s : State) : Host.Outcome State Fault Refusal := act (slotComplete at_) s

end Sys2Proof.Machine
end

