-- ==== Sys2Proof/Machine/CmdYrap.lean ====
section
/-! DEFINITION. The meanings of the commands of YRAP, its network messages and sessions: each row's effect on State, with the rule of its row. -/

namespace Sys2Proof.Machine

/-- YRAP_READ (R328). -/
def execYrapRead (ns : Nat) (s : State) : Host.Outcome State Fault Refusal := act (yrapOp 1 ns) s

/-- YRAP_WRITE (R328). -/
def execYrapWrite (s : State) : Host.Outcome State Fault Refusal := act (yrapOp 2 0) s

/-- YRAP_COMMIT (R328). -/
def execYrapCommit (s : State) : Host.Outcome State Fault Refusal := act (yrapOp 3 0) s

/-- YRAP_SESSION (R328). -/
def execYrapSession (s : State) : Host.Outcome State Fault Refusal := act (yrapOp 4 0) s

/-- YRAP_NOTIFY (R332). -/
def execYrapNotify (s : State) : Host.Outcome State Fault Refusal := act Machine.yrapNotify s

/-- DAD_FAIL (R326). -/
def execDadFail (which : Nat) (s : State) : Host.Outcome State Fault Refusal := act (Machine.dadFail which) s

/-- NEIGHBOUR_SOLICITATION (R325). -/
def execNeighbourSolicitation (s : State) : Host.Outcome State Fault Refusal := act neighbourSolRx s

/-- ARP_REQUEST (R325). -/
def execArpRequest (s : State) : Host.Outcome State Fault Refusal := act arpRequestRx s

/-- ECHO_REQUEST (R325). -/
def execEchoRequest (s : State) : Host.Outcome State Fault Refusal := act echoRequestRx s

/-- HELLO (R335). -/
def execHello (fsk : Bool) (s : State) : Host.Outcome State Fault Refusal := act (sessionRow fsk 1) s

/-- PROVE (R335). -/
def execProve (fsk : Bool) (s : State) : Host.Outcome State Fault Refusal := act (sessionRow fsk 3) s

/-- CLOSE (R340). -/
def execClose (fsk : Bool) (s : State) : Host.Outcome State Fault Refusal := act (sessionRow fsk 5) s

/-- CHALLENGE_TIMEOUT (R335). -/
def execChallengeTimeout (sid : Nat) (s : State) : Host.Outcome State Fault Refusal := act (Machine.challengeTimeout sid) s

/-- SESSION_IDLE_TIMEOUT (R340). -/
def execSessionIdleTimeout (sid : Nat) (s : State) : Host.Outcome State Fault Refusal := act (idleTimeout sid) s

/-- AUTH_HOLD (R341). -/
def execAuthHold (kind : Nat) (s : State) : Host.Outcome State Fault Refusal := act (Machine.authHold kind) s

/-- AUTH_HOLD_EXPIRY (R341). -/
def execAuthHoldExpiry (kind : Nat) (s : State) : Host.Outcome State Fault Refusal := act (Machine.authHoldExpiry kind) s

end Sys2Proof.Machine
end

