-- ==== Sys2Proof/Machine/Dispatch.lean ====
section
/-! DEFINITION. The meaning of every command: one arm per constructor of Instr, in the order of spec/opcode_table.json. -/

namespace Sys2Proof.Machine

/-- The command's effect on everything but the queue. -/
def exec (i : Instr) (s : State) : Host.Outcome State Fault Refusal :=
  match i with
  | .registerWrite p addr data => Sys2Proof.Machine.execRegisterWrite p addr data s
  | .rcRead p addr ns => Sys2Proof.Machine.execRcRead p addr ns s
  | .memoryWrite p addr data => Sys2Proof.Machine.execMemoryWrite p addr data s
  | .commitRequest p page => Sys2Proof.Machine.execCommitRequest p page s
  | .softResetRequest p page en => Sys2Proof.Machine.execSoftResetRequest p page en s
  | .writeLock p page en => Sys2Proof.Machine.execWriteLock p page en s
  | .eventClear p page w => Sys2Proof.Machine.execEventClear p page w s
  | .faultInjectionStart p page point count => Sys2Proof.Machine.execFaultInjectionStart p page point count s
  | .leaseTake p page secs => Sys2Proof.Machine.execLeaseTake p page secs s
  | .leaseRelease p page => Sys2Proof.Machine.execLeaseRelease p page s
  | .leaseExpiry group => Sys2Proof.Machine.execLeaseExpiry group s
  | .tickBoundary t => Sys2Proof.Machine.execTickBoundary t s
  | .ppsInEdge e ns mppm => Sys2Proof.Machine.execPpsInEdge e ns mppm s
  | .ppsInLoss => Sys2Proof.Machine.execPpsInLoss s
  | .xtalStop => Sys2Proof.Machine.execXtalStop s
  | .xtalStartupTimeout => Sys2Proof.Machine.execXtalStartupTimeout s
  | .xtalStable => Sys2Proof.Machine.execXtalStable s
  | .holdoverLimitExpiry => Sys2Proof.Machine.execHoldoverLimitExpiry s
  | .ppsOutEnd => Sys2Proof.Machine.execPpsOutEnd s
  | .tickNumRead p => Sys2Proof.Machine.execTickNumRead p s
  | .planWinAddrWrite p w => Sys2Proof.Machine.execPlanWinAddrWrite p w s
  | .planWinDataAccess p w => Sys2Proof.Machine.execPlanWinDataAccess p w s
  | .mSlotDeadline => Sys2Proof.Machine.execMSlotDeadline s
  | .oSlotBudgetExpiry => Sys2Proof.Machine.execOSlotBudgetExpiry s
  | .bSlotBudgetEnd => Sys2Proof.Machine.execBSlotBudgetEnd s
  | .slotComplete at_ => Sys2Proof.Machine.execSlotComplete at_ s
  | .nop idx at_ => Sys2Proof.Machine.execNop idx at_ s
  | .laneCollect idx at_ ms => Sys2Proof.Machine.execLaneCollect idx at_ ms s
  | .fastCollect idx at_ => Sys2Proof.Machine.execFastCollect idx at_ s
  | .loopUpdate idx at_ => Sys2Proof.Machine.execLoopUpdate idx at_ s
  | .fskService idx at_ => Sys2Proof.Machine.execFskService idx at_ s
  | .pubService idx at_ => Sys2Proof.Machine.execPubService idx at_ s
  | .recService idx at_ => Sys2Proof.Machine.execRecService idx at_ s
  | .arrLayer idx at_ => Sys2Proof.Machine.execArrLayer idx at_ s
  | .learnStep idx at_ => Sys2Proof.Machine.execLearnStep idx at_ s
  | .dmaJob idx at_ => Sys2Proof.Machine.execDmaJob idx at_ s
  | .linkJob idx at_ => Sys2Proof.Machine.execLinkJob idx at_ s
  | .bistSlice idx at_ bad raced => Sys2Proof.Machine.execBistSlice idx at_ bad raced s
  | .scrubStep idx at_ bad raced => Sys2Proof.Machine.execScrubStep idx at_ bad raced s
  | .calStep idx at_ bad raced => Sys2Proof.Machine.execCalStep idx at_ bad raced s
  | .hostSignal idx at_ => Sys2Proof.Machine.execHostSignal idx at_ s
  | .governorSample at_ load chg vres vpre => Sys2Proof.Machine.execGovernorSample at_ load chg vres vpre s
  | .bankZeroFillDone n => Sys2Proof.Machine.execBankZeroFillDone n s
  | .budgetRiseHoldExpiry => Sys2Proof.Machine.execBudgetRiseHoldExpiry s
  | .avsLimit => Sys2Proof.Machine.execAvsLimit s
  | .govBelowFloor => Sys2Proof.Machine.execGovBelowFloor s
  | .resFault => Sys2Proof.Machine.execResFault s
  | .detectionWindowEnd qual cross ms => Sys2Proof.Machine.execDetectionWindowEnd qual cross ms s
  | .loopEngage ms => Sys2Proof.Machine.execLoopEngage ms s
  | .liftoffDetect => Sys2Proof.Machine.execLiftoffDetect s
  | .liftoffClear => Sys2Proof.Machine.execLiftoffClear s
  | .loopOverdraw => Sys2Proof.Machine.execLoopOverdraw s
  | .genChangeDeferred => Sys2Proof.Machine.execGenChangeDeferred s
  | .loopclrAssert lowNs => Sys2Proof.Machine.execLoopclrAssert lowNs s
  | .loopclrDeassert highNs => Sys2Proof.Machine.execLoopclrDeassert highNs s
  | .spanDone => Sys2Proof.Machine.execSpanDone s
  | .testEnd => Sys2Proof.Machine.execTestEnd s
  | .trimLimit => Sys2Proof.Machine.execTrimLimit s
  | .readbackSet => Sys2Proof.Machine.execReadbackSet s
  | .readbackClear => Sys2Proof.Machine.execReadbackClear s
  | .passDone n => Sys2Proof.Machine.execPassDone n s
  | .adacOverload n => Sys2Proof.Machine.execAdacOverload n s
  | .carrierDetect c a b => Sys2Proof.Machine.execCarrierDetect c a b s
  | .carrierEnd a b => Sys2Proof.Machine.execCarrierEnd a b s
  | .fskFrameRx f => Sys2Proof.Machine.execFskFrameRx f s
  | .frameGapTimeout => Sys2Proof.Machine.execFrameGapTimeout s
  | .noiseTimeout => Sys2Proof.Machine.execNoiseTimeout s
  | .readUniqueIdentifier => Sys2Proof.Machine.execReadUniqueIdentifier s
  | .readUniqueIdByTag => Sys2Proof.Machine.execReadUniqueIdByTag s
  | .readUniqueIdByLongTag => Sys2Proof.Machine.execReadUniqueIdByLongTag s
  | .readPv => Sys2Proof.Machine.execReadPv s
  | .readLoopCurrentPercent => Sys2Proof.Machine.execReadLoopCurrentPercent s
  | .readDynamicVariables => Sys2Proof.Machine.execReadDynamicVariables s
  | .writePollingAddress => Sys2Proof.Machine.execWritePollingAddress s
  | .readLoopConfiguration => Sys2Proof.Machine.execReadLoopConfiguration s
  | .readVariableClassifications => Sys2Proof.Machine.execReadVariableClassifications s
  | .readDeviceVarsWithStatus => Sys2Proof.Machine.execReadDeviceVarsWithStatus s
  | .readDeviceVariables => Sys2Proof.Machine.execReadDeviceVariables s
  | .readMessage => Sys2Proof.Machine.execReadMessage s
  | .readTagDescriptorDate => Sys2Proof.Machine.execReadTagDescriptorDate s
  | .readDeviceInformation => Sys2Proof.Machine.execReadDeviceInformation s
  | .readFinalAssemblyNumber => Sys2Proof.Machine.execReadFinalAssemblyNumber s
  | .readLongTag => Sys2Proof.Machine.execReadLongTag s
  | .writeMessage => Sys2Proof.Machine.execWriteMessage s
  | .writeTagDescriptorDate => Sys2Proof.Machine.execWriteTagDescriptorDate s
  | .writeFinalAssemblyNumber => Sys2Proof.Machine.execWriteFinalAssemblyNumber s
  | .writeLongTag => Sys2Proof.Machine.execWriteLongTag s
  | .resetConfigChangedFlag => Sys2Proof.Machine.execResetConfigChangedFlag s
  | .enterExitFixedCurrent => Sys2Proof.Machine.execEnterExitFixedCurrent s
  | .trimLoopCurrentZero => Sys2Proof.Machine.execTrimLoopCurrentZero s
  | .trimLoopCurrentGain => Sys2Proof.Machine.execTrimLoopCurrentGain s
  | .readAdditionalDeviceStatus => Sys2Proof.Machine.execReadAdditionalDeviceStatus s
  | .writeNumResponsePreambles => Sys2Proof.Machine.execWriteNumResponsePreambles s
  | .writeBurstPeriod => Sys2Proof.Machine.execWriteBurstPeriod s
  | .writeBurstTrigger => Sys2Proof.Machine.execWriteBurstTrigger s
  | .readBurstConfiguration => Sys2Proof.Machine.execReadBurstConfiguration s
  | .writeBurstDeviceVariables => Sys2Proof.Machine.execWriteBurstDeviceVariables s
  | .writeBurstCommand => Sys2Proof.Machine.execWriteBurstCommand s
  | .burstControl => Sys2Proof.Machine.execBurstControl s
  | .yrd ns => Sys2Proof.Machine.execYrd ns s
  | .ywr => Sys2Proof.Machine.execYwr s
  | .ycommit => Sys2Proof.Machine.execYcommit s
  | .ysess => Sys2Proof.Machine.execYsess s
  | .fskTxStart => Sys2Proof.Machine.execFskTxStart s
  | .replyLate => Sys2Proof.Machine.execReplyLate s
  | .fskTxEnd => Sys2Proof.Machine.execFskTxEnd s
  | .fskTxStuck => Sys2Proof.Machine.execFskTxStuck s
  | .burstDue => Sys2Proof.Machine.execBurstDue s
  | .burstTxStart => Sys2Proof.Machine.execBurstTxStart s
  | .burstDefer => Sys2Proof.Machine.execBurstDefer s
  | .linkUp hiAdv hiReq master sqi mse => Sys2Proof.Machine.execLinkUp hiAdv hiReq master sqi mse s
  | .linkDown ns => Sys2Proof.Machine.execLinkDown ns s
  | .sqiLow => Sys2Proof.Machine.execSqiLow s
  | .macFrameRx f => Sys2Proof.Machine.execMacFrameRx f s
  | .frameTxStart ns => Sys2Proof.Machine.execFrameTxStart ns s
  | .gooseRetransmit => Sys2Proof.Machine.execGooseRetransmit s
  | .ptpSync => Sys2Proof.Machine.execPtpSync s
  | .ptpFollowUp => Sys2Proof.Machine.execPtpFollowUp s
  | .ptpAnnounce => Sys2Proof.Machine.execPtpAnnounce s
  | .pdelayReqRx => Sys2Proof.Machine.execPdelayReqRx s
  | .pdelayReqTx => Sys2Proof.Machine.execPdelayReqTx s
  | .pdelayResp => Sys2Proof.Machine.execPdelayResp s
  | .announceTimeout => Sys2Proof.Machine.execAnnounceTimeout s
  | .syncLossTimeout => Sys2Proof.Machine.execSyncLossTimeout s
  | .ptpTodsetWrite p w => Sys2Proof.Machine.execPtpTodsetWrite p w s
  | .todRead p ns => Sys2Proof.Machine.execTodRead p ns s
  | .yrapRead ns => Sys2Proof.Machine.execYrapRead ns s
  | .yrapWrite => Sys2Proof.Machine.execYrapWrite s
  | .yrapCommit => Sys2Proof.Machine.execYrapCommit s
  | .yrapSession => Sys2Proof.Machine.execYrapSession s
  | .yrapNotify => Sys2Proof.Machine.execYrapNotify s
  | .dadFail which => Sys2Proof.Machine.execDadFail which s
  | .neighbourSolicitation => Sys2Proof.Machine.execNeighbourSolicitation s
  | .arpRequest => Sys2Proof.Machine.execArpRequest s
  | .echoRequest => Sys2Proof.Machine.execEchoRequest s
  | .hello fsk => Sys2Proof.Machine.execHello fsk s
  | .prove fsk => Sys2Proof.Machine.execProve fsk s
  | .close fsk => Sys2Proof.Machine.execClose fsk s
  | .challengeTimeout sid => Sys2Proof.Machine.execChallengeTimeout sid s
  | .sessionIdleTimeout sid => Sys2Proof.Machine.execSessionIdleTimeout sid s
  | .authHold kind => Sys2Proof.Machine.execAuthHold kind s
  | .authHoldExpiry kind => Sys2Proof.Machine.execAuthHoldExpiry kind s
  | .spiRead f ns => Sys2Proof.Machine.execSpiRead f ns s
  | .spiWrite f ns => Sys2Proof.Machine.execSpiWrite f ns s
  | .spiStatus f => Sys2Proof.Machine.execSpiStatus f s
  | .spiFrameReject f => Sys2Proof.Machine.execSpiFrameReject f s
  | .accKeydataWrite p w => Sys2Proof.Machine.execAccKeydataWrite p w s
  | .progK p slot role => Sys2Proof.Machine.execProgK p slot role s
  | .progMk p slot => Sys2Proof.Machine.execProgMk p slot s
  | .revokeK p slot => Sys2Proof.Machine.execRevokeK p slot s
  | .revokeMk p slot => Sys2Proof.Machine.execRevokeMk p slot s
  | .clear p => Sys2Proof.Machine.execClear p s
  | .excitationPulseStart n => Sys2Proof.Machine.execExcitationPulseStart n s
  | .conversionStart cal n => Sys2Proof.Machine.execConversionStart cal n s
  | .conversionEnd cal n volts side => Sys2Proof.Machine.execConversionEnd cal n volts side s
  | .excCompliance k => Sys2Proof.Machine.execExcCompliance k s
  | .urgentRequest p lane setup => Sys2Proof.Machine.execUrgentRequest p lane setup s
  | .calDue => Sys2Proof.Machine.execCalDue s
  | .recTrig p => Sys2Proof.Machine.execRecTrig p s
  | .gpioEdge n falling => Sys2Proof.Machine.execGpioEdge n falling s
  | .recArchStall => Sys2Proof.Machine.execRecArchStall s
  | .recAckWrite p w => Sys2Proof.Machine.execRecAckWrite p w s
  | .recFindWrite p w => Sys2Proof.Machine.execRecFindWrite p w s
  | .recFindDone => Sys2Proof.Machine.execRecFindDone s
  | .indexReady => Sys2Proof.Machine.execIndexReady s
  | .arrGo p => Sys2Proof.Machine.execArrGo p s
  | .partitionEnd x corr uncorr => Sys2Proof.Machine.execPartitionEnd x corr uncorr s
  | .cellWatchdog x => Sys2Proof.Machine.execCellWatchdog x s
  | .requalify p c => Sys2Proof.Machine.execRequalify p c s
  | .requalDone => Sys2Proof.Machine.execRequalDone s
  | .start p init => Sys2Proof.Machine.execStart p init s
  | .stop p => Sys2Proof.Machine.execStop p s
  | .sealHead p => Sys2Proof.Machine.execSealHead p s
  | .discard p => Sys2Proof.Machine.execDiscard p s
  | .headWriteComplete => Sys2Proof.Machine.execHeadWriteComplete s
  | .sleepRequest p target => Sys2Proof.Machine.execSleepRequest p target s
  | .sleepCancel p => Sys2Proof.Machine.execSleepCancel p s
  | .sleepStateReached => Sys2Proof.Machine.execSleepStateReached s
  | .sleepRetry => Sys2Proof.Machine.execSleepRetry s
  | .wake src falling => Sys2Proof.Machine.execWake src falling s
  | .alarm => Sys2Proof.Machine.execAlarm s
  | .wakeExitComplete early => Sys2Proof.Machine.execWakeExitComplete early s
  | .escLeak id => Sys2Proof.Machine.execEscLeak id s
  | .faultExit => Sys2Proof.Machine.execFaultExit s
  | .clearLockout p => Sys2Proof.Machine.execClearLockout p s
  | .clearEsc p => Sys2Proof.Machine.execClearEsc p s
  | .fltTrapAck p w => Sys2Proof.Machine.execFltTrapAck p w s
  | .fltEscSelect p w => Sys2Proof.Machine.execFltEscSelect p w s
  | .dieHot => Sys2Proof.Machine.execDieHot s
  | .idleGapWork at_ till bad raced => Sys2Proof.Machine.execIdleGapWork at_ till bad raced s
  | .promoted => Sys2Proof.Machine.execPromoted s
  | .bgStarved => Sys2Proof.Machine.execBgStarved s
  | .coreTestDone pass => Sys2Proof.Machine.execCoreTestDone pass s
  | .clearWord p => Sys2Proof.Machine.execClearWord p s
  | .modelWrite p slot => Sys2Proof.Machine.execModelWrite p slot s
  | .modelCheck p slot => Sys2Proof.Machine.execModelCheck p slot s
  | .patchWrite p => Sys2Proof.Machine.execPatchWrite p s
  | .patchCheck p => Sys2Proof.Machine.execPatchCheck p s
  | .saveConfig p => Sys2Proof.Machine.execSaveConfig p s
  | .retireArch p => Sys2Proof.Machine.execRetireArch p s
  | .nvmChunkStart => Sys2Proof.Machine.execNvmChunkStart s
  | .nvmChunkComplete => Sys2Proof.Machine.execNvmChunkComplete s
  | .configLoad => Sys2Proof.Machine.execConfigLoad s
  | .aonSecond => Sys2Proof.Machine.execAonSecond s
  | .almCommitDue => Sys2Proof.Machine.execAlmCommitDue s
  | .almCommit p => Sys2Proof.Machine.execAlmCommit p s
  | .almSnap p => Sys2Proof.Machine.execAlmSnap p s
  | .almReset p mask => Sys2Proof.Machine.execAlmReset p mask s
  | .almWinRead p => Sys2Proof.Machine.execAlmWinRead p s
  | .keyScan g0 g1 g2 => Sys2Proof.Machine.execKeyScan g0 g1 g2 s
  | .stuck n => Sys2Proof.Machine.execStuck n s
  | .rebaseNeg n => Sys2Proof.Machine.execRebaseNeg n s
  | .localLockOn => Sys2Proof.Machine.execLocalLockOn s
  | .localLockOff => Sys2Proof.Machine.execLocalLockOff s
  | .loopTestCurrent => Sys2Proof.Machine.execLoopTestCurrent s
  | .enterZeroTrim => Sys2Proof.Machine.execEnterZeroTrim s
  | .enterSpanTrim => Sys2Proof.Machine.execEnterSpanTrim s
  | .storeTrim => Sys2Proof.Machine.execStoreTrim s
  | .trimCancel => Sys2Proof.Machine.execTrimCancel s
  | .lockTimeout => Sys2Proof.Machine.execLockTimeout s
  | .unlock p => Sys2Proof.Machine.execUnlock p s
  | .rebase p => Sys2Proof.Machine.execRebase p s
  | .por lost => Sys2Proof.Machine.execPor lost s
  | .borMain rail => Sys2Proof.Machine.execBorMain rail s
  | .borLp => Sys2Proof.Machine.execBorLp s
  | .rstN lowNs => Sys2Proof.Machine.execRstN lowNs s
  | .wdog => Sys2Proof.Machine.execWdog s
  | .rstCmdReset p => Sys2Proof.Machine.execRstCmdReset p s
  | .porRelease gens bootsel testEn => Sys2Proof.Machine.execPorRelease gens bootsel testEn s
  | .romBootComplete us linkPass romBad => Sys2Proof.Machine.execRomBootComplete us linkPass romBad s
  | .levelDone => Sys2Proof.Machine.execLevelDone s
  | .cmdDone patch => Sys2Proof.Machine.execCmdDone patch s

end Sys2Proof.Machine
end

