-- ==== Sys2Proof/Safety.lean ====
section
/-! DEFINITION. What holds in every state that a command leaves, the checks that an access passes, and the canonical form of the memories: the terms of the statements. -/

namespace Sys2Proof.Machine

/-- Both memories are in their canonical form. -/
def State.memWf (s : State) : Bool := Memory.wf s.mem && CellMemory.wf s.cellMem

/-- Nothing is left half done: no fault entry and no CHIP_RESET reaction waits, background work has its slot, and a transfer has its DMA_JOB slot. -/
abbrev Settled (s : State) : Prop :=
  s.flt.entered = false ∧ s.flt.chipReset = none ∧ (s.bist.task ≠ none → s.plan.run ≠ none) ∧ (s.dma.jobs ≠ [] → dmaSlot s ≠ none)

/-- The block takes commands: no reset is asserted, and nothing is left half done. -/
abbrev Ready (s : State) : Prop := s.boot.held = false ∧ Settled s

/-- The access on path `path` reaches the device and passes the checks of R35 and R293 for a write of `w` to the register at `off` of page `p`. -/
abbrev MayWrite (path : Path) (p off : Nat) (w : Word) (s : State) : Prop :=
  pathOn path s = true ∧ domServes s (pageDom p) = true ∧ lockCovers s p off = false
    ∧ roleOk s path (if needsMaintain p off w then 3 else groupRole (pageGroup p)) = true ∧ kindOk s path p off w = true
    ∧ (s.flag F.KEYS_STAT_LOCK && remote path) = false ∧ ownedBy s path p off w = false

/-- The contention log takes another RWS write: no injected refusal waits, and the tick's journal has room (R309, R62). -/
abbrev JournalFree (s : State) : Prop := s.armedAt 0x18 2 = false ∧ s.page.journal.length < 256

/-- The access on path `path` reaches the device, and page `p` is powered (R26, R35). -/
abbrev MayRead (path : Path) (p : Nat) (s : State) : Prop := pathOn path s = true ∧ domServes s (pageDom p) = true

/-- The states `s` and `t` differ at most in the registers whose keys are listed. -/
def SameBut (ks : List Nat) (s t : State) : Prop :=
  t = { s with regs := t.regs, eff := t.eff } ∧ ∀ k, k ∉ ks → aget t.regs k = aget s.regs k ∧ aget t.eff k = aget s.eff k

/-- Slot `d` of the plan, with index `idx` and action `act`, starts when it comes up at `at_` µs: no slot runs, that is its time and no M slot before it waits (R103, R108, R110), and
the governor admits an O or B slot without action (R537). -/
abbrev SlotStarts (act idx at_ : Nat) (d : Slot) (s : State) : Prop :=
  s.plan.todo.find? (fun x => x.idx == idx && x.action == act) = some d ∧ s.plan.run = none ∧ at_ = startOf s d
    ∧ (∀ x, x ∈ s.plan.todo → x.kind = 1 → d.start ≤ x.start)
    ∧ (d.kind = 1 ∧ s.armedAt 0x06 1 = false
      ∨ d.kind = 2 ∧ fitsCap s s.gov.pred = true ∧ s.armedAt 0x06 2 = false
      ∨ d.kind = 3 ∧ at_ < d.start + d.budget ∧ fitsCap s s.gov.pred = true)

/-- The state in which slot `d` has begun at `at_` µs and nothing else has changed. -/
def slotStarted (d : Slot) (idx at_ : Nat) (s : State) : State :=
  { s with
    plan.todo := s.plan.todo.filter fun x => x.idx != idx
    plan.run := some { slot := d, began := at_, late := decide (d.start < at_), gov := s.flag F.GOV_STAT_EMERG, inj := false } }

/-- From `s` to `t` one fault event has been counted and recorded, and the fault hub's own state, events, reports and counts apart, only registers have changed. -/
def FaultRecorded (s t : State) : Prop :=
  t.get F.FLT_REC_CNT_TOTAL = satTo 65535 (s.get F.FLT_REC_CNT_TOTAL + 1) ∧ t.flt.chipReset = none ∧ t.flt.entered = false ∧ t.boot = s.boot ∧ t.plan = s.plan
    ∧ t.mem = s.mem ∧ t.page = s.page

/-- No stored word has a standing error, and no injected flip waits for a read (R647). -/
abbrev NoEccErrors (s : State) : Prop := s.ecc = [] ∧ sramFlip s = (none, 0)

/-- The reactions of source `id` only record: LOG or IRQ (R592). -/
abbrev RecordsOnly (id : Nat) (s : State) : Prop := getBits (srcCfg s id) 6 4 ≤ 1 ∧ getBits (srcCfg s id) 2 0 ≤ 1

/-- The FSK request `r` with command `c` is the one in turn and the only one, no earlier one's answer is still to come, and its reply is still awaited (R214, R221). -/
abbrev Requested (r : FskReq) (c : Nat) (s : State) : Prop := s.fsk.lp = [r] ∧ r.cmd = c ∧ r.dead = false ∧ fskLateWaits s = false

/-- The reply frame to `r` in the state `s`: response code, device status and data after address, command and byte count (R209, R210, R219, R230). -/
def replyFrame (r : FskReq) (code : Nat) (data : List Byte) (s : State) : FskOut :=
  { bytes := outBytes 1 r.long (if r.long then longAddr s else r.addr) r.secondary (s.flag F.FSK_BURST_EN) r.cmd
      ([BitVec.ofNat 8 code, BitVec.ofNat 8 (fskStatus s r.secondary)] ++ data)
    pre := s.get F.FSK_CFG_RESP_PRE, secondary := r.secondary, age := r.age }

/-- From `s` to `t` the request in turn has been answered with that code and data, and nothing else has changed. -/
def Answered (r : FskReq) (code : Nat) (data : List Byte) (s t : State) : Prop :=
  t = { s with fsk.lp := [], fsk.ready := s.fsk.ready ++ [replyFrame r code data s], free := t.free }

/-- Enabled variable `n` has the snapshot `v`. -/
abbrev Snapped (n : Nat) (v : Word × Bool) (s : State) : Prop := s.flag (F.FSK_VAR_CFG_EN n) = true ∧ s.fsk.snap.getD n none = some v

/-- Unit and value of variable `n` with snapshot `v`. -/
def unitAndValue (n : Nat) (v : Word × Bool) (s : State) : List Byte := BitVec.ofNat 8 (s.get (F.FSK_VAR_CFG_UNIT n)) :: bytesOfWord v.1

/-- The orders of an FSK master on pages `ps` pass the checks of R35 and R293, and the journal has room for `n` of them (R228). -/
def OrdersPass (r : FskReq) (ps : List Nat) (n : Nat) (s : State) : Prop :=
  (∀ p, p ∈ ps → ∀ off w, off ≠ 0x024 → MayWrite (.fskU r.secondary) p off w s) ∧ s.armedAt 0x18 2 = false ∧ s.page.journal.length + n ≤ 256

/-- From `s` to `t` a write command has written shadow fields of pages `ps` and requested their commits; its reply, with data `out`, waits for the boundary
(R228, R295). -/
def ReplyWaits (r : FskReq) (ps : List Nat) (out : List Byte) (s t : State) : Prop :=
  t.fsk = { s.fsk with lp := [] } ∧ (∀ p, p ∈ ps → p ∈ t.page.commitPend)
    ∧ (∃ ws, t.acc.late = s.acc.late ++ [{ path := .fskU r.secondary, dest := .fsk r, op := r.cmd, words := ws, out := out, pages := ps }]
        ∧ ∀ w, w ∈ ws → w.outcome = 0)
    ∧ t = { s with regs := t.regs, eff := t.eff, page := t.page, acc.late := t.acc.late, gov.window := t.gov.window, fsk := t.fsk, plan := t.plan }
    ∧ (∃ n, t.plan = (linkUse n s).plan)
    ∧ ∀ p off, p ∈ ps → t.rdE p off = s.rdE p off

/-- `n` bytes of the shadow words of FSK_TEXT from offset `off` on. -/
def shadowText (s : State) (off n : Nat) : List Byte := (wordsBytes (tabulate ((n + 3) / 4) fun i => s.rd 0x13 (off + 4 * i))).take n

/-- Session `x` in slot `slot`, with number `sid`, is open, is bound to the path and peer, and accepts this CTR and MAC (R337, R338, R341). -/
abbrev SessionAccepts (kind port : Nat) (peer : List Byte) (sid ctr : Nat) (input mac : List Byte) (slot : Nat) (x : Session) (s : State) : Prop :=
  sessionOf s sid = some (slot, x) ∧ x.pending = false ∧ boundTo x kind port peer = true ∧ mac = hmac16 x.sk input ∧ x.lastCtr < ctr ∧ ctr < 0xFFFFFFFF
    ∧ underHold s kind = false ∧ s.armedAt 0x18 1 = false

/-- The register at `off` of page `p` is there, is written as a whole by RWS and RW fields, and path `path` may write `w` to it. -/
def PlainWrite (path : Path) (p off : Nat) (e : RegEnt) (w : Word) (s : State) : Prop :=
  p < 0x80 ∧ 0x40 ≤ off ∧ off < 0x400 ∧ off % 4 = 0 ∧ (pageEnt p).isSome = true ∧ (∃ i, regEnt p off = some (e, i)) ∧ e.rws ≠ 0 ∧ p ≠ 0x11
    ∧ commandWrite path p off w s = none ∧ MayWrite path p off w s ∧ JournalFree s

/-- The register at `off` of page `p` is there, its domain serves, and a read of it has no effect. -/
abbrev PlainRead (p off : Nat) (s : State) : Prop :=
  p < 0x80 ∧ off < 0x400 ∧ off % 4 = 0 ∧ (pageEnt p).isSome = true ∧ (regEnt p off).isSome = true ∧ rcMask p off = 0 ∧ domServes s (pageDom p) = true
    ∧ ¬((p = 0x05 ∧ off = 0x054) ∨ (p = 0x06 ∧ off = 0x048) ∨ (p = 0x0B ∧ off = 0x060) ∨ (p = 0x16 ∧ off = 0x068))

end Sys2Proof.Machine
end

