-- ==== Sys2Proof/Certificates/Slice0/Obligations.lean ====
section
/-! DEFINITION. The statements for the provers: what each command does, what it leaves alone, and what holds in every state. -/

open Sys2Proof Sys2Proof.Machine

/-- A step takes the command at the front of the queue: With command c in front, the step is exec of c on the state with the rest of the queue; with an empty
queue the block idles (DESIGN CHOICE, log entry 121). (95_what_each_step_holds.md) -/
def Obligations.StepRunsFrontCommand : Prop :=
  (∀ (s : State) (c : Instr) (rest : List Instr), s.pending = c :: rest → step s = exec c { s with pending := rest })
    ∧ ∀ s : State, s.pending = [] → step s = .next s

/-- The state after reset takes commands once its reset is released, and nothing is half done in it: State.reset is settled, its memories are in canonical
form, its queue is empty, and its reset is still asserted. (R715, R720) -/
def Obligations.ResetIsReady : Prop :=
  Settled State.reset ∧ State.reset.memWf = true ∧ State.reset.pending = [] ∧ State.reset.boot.held = true

/-- No step leaves a fault reaction, a piece of background work or a transfer half done: Every command completes in every state, and where nothing is half
done before it, nothing is half done after it: no fault entry or CHIP_RESET reaction waits, background work has its slot, and a transfer has its DMA_JOB slot,
whatever the command. So it is for every step. (R498, R595, R599, R622) -/
def Obligations.EveryStepSettles : Prop :=
  (∀ (c : Instr) (s : State), ∃ t, exec c s = .next t ∧ (Settled s → Settled t)) ∧ ∀ s t : State, Settled s → step s = .next t → Settled t

/-- A step takes one command; TICK_NUM counts boundaries and never jumps; a held reset ends at POR release: No command adds a waiting command or drops one but
itself. TICK_NUM is changed by nothing but TICK_BOUNDARY, which adds one up to the 48-bit limit, and a reset that is then held and has cleared it (R6, R71). A
reset that is held ends only with POR_RELEASE (R720). (R6, R71, R720, R721) -/
def Obligations.TickNumAndResetMoveByTheirRules : Prop :=
  ∀ (s t : State) (c : Instr) (rest : List Instr), s.pending = c :: rest → step s = .next t →
    t.pending = rest
      ∧ (t.tick.num = s.tick.num ∨ (t.tick.num = 0 ∧ t.boot.held = true) ∨ ((∃ x, c = .tickBoundary x) ∧ t.tick.num = satTo (2 ^ 48 - 1) (s.tick.num + 1)))
      ∧ (s.boot.held = true → t.boot.held = false → ∃ gens bootsel testEn, c = .porRelease gens bootsel testEn)

/-- A field that is set reads back, and every other bit keeps its value: Setting a field of any register leaves it reading the value modulo its width, every
bit of the word outside the field and every other register as they were; an event sets its bit of PG_EVT_RAW and no other. (R36, R57) -/
def Obligations.FieldWriteReadsBack : Prop :=
  (∀ (s : State) (f : Fld) (v : Nat), f.lo ≤ f.hi → f.hi < 32 →
      (s.put f v).get f = v % 2 ^ (f.hi + 1 - f.lo)
      ∧ (∀ i, i < f.lo ∨ f.hi < i → ((s.put f v).rd f.page f.off).getLsbD i = (s.rd f.page f.off).getLsbD i)
      ∧ ∀ p off, regKey p off ≠ regKey f.page f.off → (s.put f v).rd p off = s.rd p off ∧ (s.put f v).rdE p off = s.rdE p off)
    ∧ ∀ (s : State) (p b : Nat), b < 32 →
      ((s.raise (p, b)).rd p 0x010).getLsbD b = true
      ∧ (∀ i, i ≠ b → ((s.raise (p, b)).rd p 0x010).getLsbD i = (s.rd p 0x010).getLsbD i)
      ∧ ∀ q off, regKey q off ≠ regKey p 0x010 → (s.raise (p, b)).rd q off = s.rd q off

/-- A register write that passes its checks changes the writable fields and nothing else: For a register without an effect of its own: RWS and RW bits take
the word, W1C bits written 1 clear, all other bits stay (R36); a lease holder's rank and an order to LDAC are noted (R292, R313). An RWS write changes the
shadow and enters the journal of R309; the effective values wait for a commit. (R36, R35, R309) -/
def Obligations.RegisterWrites : Prop :=
  ∀ (s : State) (path : Path) (p off i : Nat) (e : RegEnt) (w : Word), Ready s → p < 0x80 → 0x40 ≤ off → off < 0x400 → off % 4 = 0 →
    (pageEnt p).isSome = true → regEnt p off = some (e, i) → writable e ≠ 0 → commandWrite path p off w s = none → MayWrite path p off w s →
    (e.rws = 0 → ¬((p = 0x07 ∨ p = 0x08) ∧ (off = 0x074 ∨ off = 0x078)) →
      exec (.registerWrite path (regAddr p off) w) s =
        .next ((noteWrite path p off e w s).wr p off (mergeMask (s.rd p off) w (e.rws ||| e.rw) &&& ~~~ (w &&& BitVec.ofNat 32 e.w1c))))
    ∧ (e.rws ≠ 0 → JournalFree s → ∃ t, exec (.registerWrite path (regAddr p off) w) s = .next t
        ∧ t.rd p off = mergeMask (s.rd p off) w (e.rws ||| e.rw) &&& ~~~ (w &&& BitVec.ofNat 32 e.w1c) ∧ t.rdE p off = s.rdE p off
        ∧ t.page.journal.length = s.page.journal.length + 1
        ∧ t = { s with regs := t.regs, eff := t.eff, page := t.page, gov.window := t.gov.window }
        ∧ (p ≠ 0x11 → SameBut [regKey p off] s { t with page := s.page }))

/-- A write that its checks refuse leaves the whole state as it was: Misaligned, unmapped, unpowered, read-only, locked, without its role, or remote while the
local lock is set (R35, R293): nothing changes. An RWS write refused for a lease only counts and raises its event. (R35, R293, R55) -/
def Obligations.RefusedWritesChangeNothing : Prop :=
  ∀ (s : State) (path : Path) (addr w : Word), Ready s →
    (addr.toNat % 4 ≠ 0 → exec (.registerWrite path addr w) s = .next s)
    ∧ (regionOf addr.toNat = .unmapped → exec (.registerWrite path addr w) s = .next s)
    ∧ (powerCheck s addr.toNat (regionOf addr.toNat) ≠ 0 → exec (.registerWrite path addr w) s = .next s)
    ∧ (∀ p off, regionOf addr.toNat = .alias_ p off → exec (.registerWrite path addr w) s = .next s)
    ∧ ∀ p off e, regionOf addr.toNat = .reg p off e →
      (writable e = 0 ∨ lockCovers s p off = true
          ∨ roleOk s path (if needsMaintain p off w then 3 else groupRole (pageGroup p)) = false ∨ kindOk s path p off w = false
          ∨ (s.flag F.KEYS_STAT_LOCK && remote path) = true →
        exec (.registerWrite path addr w) s = .next s)
      ∧ (addr.toNat % 4 = 0 → powerCheck s addr.toNat (.reg p off e) = 0 → pathOn path s = true → writable e ≠ 0 → lockCovers s p off = false
          → roleOk s path (if needsMaintain p off w then 3 else groupRole (pageGroup p)) = true → kindOk s path p off w = true
          → (s.flag F.KEYS_STAT_LOCK && remote path) = false → ownedBy s path p off w = true →
        exec (.registerWrite path addr w) s = .next ((s.bump F.ACC_CNT_ACC_OWNED).raise E.ACC_OWNED_REFUSED))

/-- A read has no side effects, except on RC fields, latches and windows: A read at the normal address returns RC fields to their reset value and leaves
everything else alone, save for the registers whose own rules name an effect; a read at the effective-value alias changes nothing (R37). (R37) -/
def Obligations.RegisterReads : Prop :=
  (∀ (s : State) (path : Path) (p off i ns : Nat) (e : RegEnt), Ready s → p < 0x80 → off < 0x400 → off % 4 = 0 → (pageEnt p).isSome = true →
      regEnt p off = some (e, i) → MayRead path p s →
      ¬((p = 0x05 ∧ off = 0x054) ∨ (p = 0x06 ∧ off = 0x048) ∨ (p = 0x0B ∧ off = 0x060) ∨ (p = 0x16 ∧ off = 0x068)) →
      ∃ t, exec (.rcRead path (regAddr p off) ns) s = .next t ∧ t.rd p off = mergeMask (s.rd p off) (resetWord p off) e.rc
        ∧ SameBut [regKey p off] s t ∧ t.rdE p off = s.rdE p off)
    ∧ ∀ (s : State) (path : Path) (addr : Word) (p off ns : Nat), Ready s → regionOf addr.toNat = .alias_ p off → exec (.rcRead path addr ns) s = .next s

/-- A write to SRAM, retention RAM or the cell window stores its four bytes and no others: Where the bank or cell serves, the word of its ECC has no error and
the path holds its role: the bytes of the word lie at the address, most significant byte first (DEDUCED, log entry 3), every other byte of memory and every
register keeps its value. (R33, R35, R647, R651) -/
def Obligations.MemoryWrites : Prop :=
  ∀ (s : State) (path : Path) (addr w : Word), Ready s → s.memWf = true → addr.toNat % 4 = 0 → pathOn path s = true →
    (regionOf addr.toNat = .sram ∧ bankOff s (bankOf addr.toNat) = false ∧ sramFlip s = (none, 0) ∨ regionOf addr.toNat = .ret) →
    aget s.ecc (eccKey addr.toNat) = none → memChecks path addr.toNat s = 0 →
    ∃ t, exec (.memoryWrite path addr w) s = .next t
      ∧ t.bytesAt addr.toNat 4 = bytesOfWord w
      ∧ (∀ a, a < addr.toNat ∨ addr.toNat + 4 ≤ a → t.byteAt a = s.byteAt a)
      ∧ t.memWf = true ∧ t = { s with mem := t.mem, ecc := t.ecc }

/-- A write through the cell window stores into the local memory of the cell that MEM_WIN names: Where the cell is live and idle and its ECC word has no
error, the four bytes lie in that cell's memory; the memory map and every register keep their values. (R651, R35) -/
def Obligations.CellWindowWrites : Prop :=
  ∀ (s : State) (path : Path) (addr w : Word), Ready s → s.memWf = true → addr.toNat % 4 = 0 → pathOn path s = true → regionOf addr.toNat = .cell →
    powerCheck s addr.toNat .cell = 0 → aget s.ecc (cellEccKey (s.get F.MEM_WIN_CELL) (addr.toNat - 0x30000000)) = none → memChecks path addr.toNat s = 0 →
    ∃ t, exec (.memoryWrite path addr w) s = .next t
      ∧ t.cellWordAt (s.get F.MEM_WIN_CELL) (addr.toNat - 0x30000000) = w
      ∧ (∀ a, a < s.get F.MEM_WIN_CELL * 0x8000 + (addr.toNat - 0x30000000) ∨ s.get F.MEM_WIN_CELL * 0x8000 + (addr.toNat - 0x30000000) + 4 ≤ a →
          cellRead cellDefault t.cellMem a = cellRead cellDefault s.cellMem a)
      ∧ t = { s with cellMem := t.cellMem, ecc := t.ecc }

/-- Commit, soft reset, write lock, event clear and injection act on their page alone: A write of GO puts the page among the commits that wait (R42); SRST
among the resets that wait, but on a FIXED_EN page (R52, R53); WLOCK locks the page (R54); PG_EVT clears the bits written 1 in PG_EVT_RAW (R58), but for an
event of the same cycle (R59); PG_FLT_INJ with GO starts its series, COUNT 0 counting as 1 (R62). (R42, R52, R53, R54, R58, R59, R62) -/
def Obligations.PageCommands : Prop :=
  ∀ (s : State) (path : Path) (page : Nat), Ready s → page < 0x80 → (pageEnt page).isSome = true →
    (MayWrite path page 0x020 1 s → ∃ t, exec (.commitRequest path page) s = .next t ∧ page ∈ t.page.commitPend
      ∧ (∀ q, q ∈ s.page.commitPend → q ∈ t.page.commitPend)
      ∧ t = { s with regs := t.regs, eff := t.eff, page := t.page, gov.window := t.gov.window, slp := t.slp, free := t.free }
      ∧ (s.slp.asking = false → t.slp = s.slp ∧ t.free = s.free ∧ (page ≠ 0x11 → SameBut [] s { t with page := s.page })))
    ∧ (∀ en, MayWrite path page 0x008 (ctrlWord en 2) s → JournalFree s → ∃ t, exec (.softResetRequest path page en) s = .next t
      ∧ (State.capBit page 29 = false → page ∈ t.page.srstPend) ∧ (State.capBit page 29 = true → t.page.srstPend = s.page.srstPend)
      ∧ t = { s with regs := t.regs, eff := t.eff, page := t.page, gov.window := t.gov.window } ∧ t.rdE page 0x008 = s.rdE page 0x008
      ∧ (page ≠ 0x11 → SameBut [regKey page 0x008] s { t with page := s.page }))
    ∧ (∀ en, MayWrite path page 0x008 (ctrlWord en 4) s → JournalFree s → ∃ t, exec (.writeLock path page en) s = .next t ∧ page ∈ t.locks
      ∧ (∀ q, q ∈ s.locks → q ∈ t.locks) ∧ (∀ q, q ∈ t.locks → q = page ∨ q ∈ s.locks) ∧ t.page.srstPend = s.page.srstPend
      ∧ (page ≠ 0x11 → SameBut [regKey page 0x008] s { t with page := s.page, locks := s.locks }))
    ∧ (∀ bits same : Word, MayWrite path page 0x018 (bits &&& ~~~same) s → ∃ t, exec (.eventClear path page ⟨bits, same⟩) s = .next t
      ∧ (∀ i, i < 32 → bits.getLsbD i = true → same.getLsbD i = false → (eventMask page).testBit i = true → page ≠ 0x07 → page ≠ 0x08 → (t.rd page 0x010).getLsbD i = false)
      ∧ (page ≠ 0x07 → page ≠ 0x08 → ∀ i, (bits.getLsbD i = false ∨ same.getLsbD i = true) → (t.rd page 0x010).getLsbD i = (s.rd page 0x010).getLsbD i)
      ∧ normalWord t page 0x018 = t.rd page 0x010 &&& t.rd page 0x014
      ∧ t.page = { s.page with owners := t.page.owners, ldacOrd := t.page.ldacOrd }
      ∧ SameBut [regKey 0x07 0x010, regKey 0x08 0x010, regKey page 0x010] s { t with page := s.page })
    ∧ ∀ point count, MayWrite path page 0x01C (injWord point count) s → aget s.page.inj page = none → 1 ≤ point → point ≤ injPoints page → point < 256 → count < 256 →
      ∃ t, exec (.faultInjectionStart path page point count) s = .next t ∧ aget t.page.inj page = some (point, max 1 count)
        ∧ t.page = { s.page with inj := t.page.inj, owners := t.page.owners, ldacOrd := t.page.ldacOrd } ∧ SameBut [regKey page 0x01C] s { t with page := s.page }

/-- A lease is taken for its seconds, and every end of it raises LEASE_END on the pages of its group: A write of 1 to 3600 to PG_OWNER takes the lease of the
page's group for that time (28 800 units of time a second); a write of 0, and the expiry at a boundary at which no time is left, end it and raise LEASE_END on
each page of the group (R303, R307). (R303, R307) -/
def Obligations.Leases : Prop :=
  (∀ (s : State) (path : Path) (page secs : Nat), Ready s → page < 0x80 → (pageEnt page).isSome = true → 1 ≤ secs → secs ≤ 3600 →
      MayWrite path page 0x024 (BitVec.ofNat 32 secs) s →
      ∃ t, exec (.leaseTake path page secs) s = .next t
        ∧ aget t.page.leases (pageGroup page) = some ⟨if path = .spi then 0xFF else pathSid path, secs * 28800⟩
        ∧ (∀ g, g ≠ pageGroup page → aget t.page.leases g = aget s.page.leases g)
        ∧ t = { s with page.leases := t.page.leases, page.owners := t.page.owners, page.ldacOrd := t.page.ldacOrd })
    ∧ (∀ (s : State) (path : Path) (page : Nat) (l : Lease), Ready s → page < 0x80 → (pageEnt page).isSome = true → MayWrite path page 0x024 0 s →
      aget s.page.leases (pageGroup page) = some l →
      ∃ t, exec (.leaseRelease path page) s = .next t ∧ t.page.leases = adel s.page.leases (pageGroup page)
        ∧ (∀ p, p ∈ groupPages (pageGroup page) → (t.rd p 0x010).getLsbD E.LEASE_END = true)
        ∧ t = { s with regs := t.regs, page.leases := t.page.leases, page.owners := t.page.owners, page.ldacOrd := t.page.ldacOrd })
    ∧ (∀ (s : State) (g holder : Nat), Ready s → aget s.page.leases g = some ⟨holder, 0⟩ →
      ∃ t, exec (.leaseExpiry g) s = .next t ∧ t.page.leases = adel s.page.leases g
        ∧ (∀ p, p ∈ groupPages g → (t.rd p 0x010).getLsbD E.LEASE_END = true) ∧ t = { s with regs := t.regs, page.leases := t.page.leases })
    ∧ ∀ (s : State) (g holder left : Nat), Ready s → aget s.page.leases g = some ⟨holder, left⟩ → left ≠ 0 → exec (.leaseExpiry g) s = .next s

/-- A boundary adds one to TICK_NUM, whatever else happens at it: In every state that takes commands and for every measurement that arrives with it, a
boundary advances the 48-bit TICK_NUM by exactly one up to its limit, also where a fault reaction at it resets the chip; an accepted reset is asserted at the
boundary (R71, R718). (R71, R68, R718) -/
def Obligations.BoundaryAdvancesTickNum : Prop :=
  (∀ (s : State) (x : TickIn), Ready s → s.boot.resetAt = [] →
      ∃ t, exec (.tickBoundary x) s = .next t ∧ t.tick.num = satTo (2 ^ 48 - 1) (s.tick.num + 1))
    ∧ ∀ (s : State) (x : TickIn), Ready s → s.boot.resetAt ≠ [] → ∃ t, exec (.tickBoundary x) s = .next t ∧ t.boot.held = true

/-- Edges of PPS_IN: the first is a reference only, valid ones count and measure, loss gives holdover: With PPS_EN = 0, or of the other polarity than PPS_EDGE
selects, an edge does nothing. The first edge after enabling or a loss only starts the count. An edge 1 s ± 100 µs after the one before it counts up to three
and, with PPS_IN in use, sets the phase error; the third within ±1 µs in succession locks. A loss of PPS_IN in use while LOCKED enters HOLDOVER (R73, R78,
R83, R85, R86). (R73, R78, R83, R85, R86) -/
def Obligations.PpsReferences : Prop :=
  ∀ (s : State) (falling : Bool) (since : Nat) (ns mppm : Int), Ready s →
    (s.flag F.TICK_CFG_PPS_EN = false ∨ s.flag F.TICK_CFG_PPS_EDGE ≠ falling → exec (.ppsInEdge ⟨falling, since⟩ ns mppm) s = .next s)
    ∧ (s.flag F.TICK_CFG_PPS_EN = true → s.flag F.TICK_CFG_PPS_EDGE = falling → s.tick.ppsFirst = false →
      exec (.ppsInEdge ⟨falling, since⟩ ns mppm) s = .next { s with tick.ppsFirst := true, tick.ppsRefs := 0, tick.ppsAge := 0 })
    ∧ (s.flag F.TICK_CFG_PPS_EN = true → s.flag F.TICK_CFG_PPS_EDGE = falling → s.tick.ppsFirst = true → 999900000 ≤ since → since ≤ 1000100000 → s.get F.TICK_STAT_SRC = 1 →
      ∃ t, exec (.ppsInEdge ⟨falling, since⟩ ns mppm) s = .next t ∧ t.tick.ppsRefs = min 3 (s.tick.ppsRefs + 1) ∧ t.tick.phase = ns * 288
        ∧ (-1000 ≤ ns → ns ≤ 1000 → 2 ≤ s.tick.lockRefs → t.get F.TICK_STAT_STATE = 2 ∧ t.flag F.TICK_STAT_SYNCED = true)
        ∧ (1000 < ns → t.tick.lockRefs = 0)
        ∧ t = { s with regs := t.regs, eff := t.eff, tick := t.tick })
    ∧ (s.tick.ppsFirst = true → mayReach s s.tick.ppsAge 43200 = true → s.get F.TICK_STAT_SRC = 1 → s.get F.TICK_STAT_STATE = 2 →
      ∃ t, exec .ppsInLoss s = .next t ∧ t.get F.TICK_STAT_STATE = 3 ∧ t.tick.ppsFirst = false ∧ t.tick.ppsRefs = 0 ∧ t.tick.srcLost = true
        ∧ (t.rd 0x05 0x010).getLsbD E.TICK_HOLDOVER_ENTER.2 = true ∧ t = { s with regs := t.regs, eff := t.eff, tick := t.tick })
    ∧ (s.tick.ppsFirst = true → mayReach s s.tick.ppsAge 43200 = true → s.get F.TICK_STAT_SRC ≠ 1 → exec .ppsInLoss s = .next { s with tick.ppsFirst := false, tick.ppsRefs := 0 })
    ∧ (s.tick.ppsFirst = false ∨ mayReach s s.tick.ppsAge 43200 = false → exec .ppsInLoss s = .next s)

/-- The crystal stops and becomes stable; holdover that reaches its limit ends in FREE; PPS_OUT falls: A crystal that stops is lost as the source and raises
XTAL_FAIL, but not under the exemption of R77; one that has not run stably by 3 ms likewise, and once only; a stable one is available. At HOLDOVER_LIMIT a
HOLDOVER becomes FREE and SYNCED clears, in ACQUIRE only SYNCED clears (R86, R87), with TIME_UNSYNC where time is required (R590). PPS_OUT goes low after its
10 ms (R82). Where a fault is raised, its reactions only record. (R77, R82, R86, R87, R590) -/
def Obligations.CrystalAndHoldover : Prop :=
  ∀ s : State, Ready s →
    (s.tick.xtalOk = true → (loopGen s && s.flag F.TICK_CFG_RC_ALLOW && !s.flag F.TICK_CFG_TIME_REQ) = true →
      exec .xtalStop s = .next { s with tick.xtalRuns := false, tick.xtalOk := false, tick.srcLost := s.tick.srcLost || s.get F.TICK_STAT_SRC == 0 })
    ∧ (s.tick.xtalOk = true → (loopGen s && s.flag F.TICK_CFG_RC_ALLOW && !s.flag F.TICK_CFG_TIME_REQ) = false → RecordsOnly 0x01 s →
      ∃ t, exec .xtalStop s = .next t ∧ t.tick = { s.tick with xtalRuns := false, xtalOk := false, srcLost := s.tick.srcLost || s.get F.TICK_STAT_SRC == 0 }
        ∧ FaultRecorded s t)
    ∧ (s.tick.xtalOk = false → exec .xtalStop s = .next { s with tick.xtalRuns := false })
    ∧ (s.tick.xtalTimed = false → mayReach s s.boot.relU 86 = true → s.tick.xtalSeen = false → s.tick.xtalOk = false →
      (loopGen s && s.flag F.TICK_CFG_RC_ALLOW && !s.flag F.TICK_CFG_TIME_REQ) = true →
      exec .xtalStartupTimeout s = .next { s with tick.xtalTimed := true, tick.srcLost := s.tick.srcLost || s.get F.TICK_STAT_SRC == 0 })
    ∧ (s.tick.xtalTimed = false → mayReach s s.boot.relU 86 = true → s.tick.xtalSeen = false → s.tick.xtalOk = false →
      (loopGen s && s.flag F.TICK_CFG_RC_ALLOW && !s.flag F.TICK_CFG_TIME_REQ) = false → RecordsOnly 0x01 s →
      ∃ t, exec .xtalStartupTimeout s = .next t ∧ t.tick = { s.tick with xtalTimed := true, srcLost := s.tick.srcLost || s.get F.TICK_STAT_SRC == 0 } ∧ FaultRecorded s t)
    ∧ (s.tick.xtalTimed = false → mayReach s s.boot.relU 86 = true → (s.tick.xtalSeen || s.tick.xtalOk) = true → exec .xtalStartupTimeout s = .next { s with tick.xtalTimed := true })
    ∧ (s.tick.xtalTimed = true ∨ mayReach s s.boot.relU 86 = false → exec .xtalStartupTimeout s = .next s)
    ∧ exec .xtalStable s = .next { s with tick.xtalRuns := true, tick.xtalOk := true, tick.xtalSeen := true }
    ∧ (s.tick.holdRun = true → s.get F.TICK_HOLD_HOLDOVER_LIMIT * 28800 ≤ s.tick.hold → s.flag F.TICK_CFG_TIME_REQ = false →
      ∃ t, exec .holdoverLimitExpiry s = .next t ∧ t.flag F.TICK_STAT_SYNCED = false
        ∧ (s.get F.TICK_STAT_STATE = 3 → t.get F.TICK_STAT_STATE = 0) ∧ (s.get F.TICK_STAT_STATE = 1 → t.get F.TICK_STAT_STATE = 1)
        ∧ t = { s with regs := t.regs, eff := t.eff })
    ∧ (s.tick.holdRun = true → s.get F.TICK_HOLD_HOLDOVER_LIMIT * 28800 ≤ s.tick.hold → s.flag F.TICK_CFG_TIME_REQ = true → s.flag F.TICK_STAT_SYNCED = true →
      RecordsOnly 0x03 s → ∃ t, exec .holdoverLimitExpiry s = .next t ∧ t.flag F.TICK_STAT_SYNCED = false ∧ FaultRecorded s t)
    ∧ (s.tick.holdRun = false ∨ s.tick.hold < s.get F.TICK_HOLD_HOLDOVER_LIMIT * 28800 → exec .holdoverLimitExpiry s = .next s)
    ∧ (mayReach s s.tick.sincePps 288 = true → exec .ppsOutEnd s = .next { s with tick.ppsOut := false })
    ∧ (mayReach s s.tick.sincePps 288 = false → exec .ppsOutEnd s = .next s)

/-- TICK_NUM reads coherently, and the plan window reads and writes the bank it addresses: A read of TICK_NUM_LO returns bits 31 to 0 and latches bits 47 to
32 for TICK_NUM_HI (R114). A write of PLAN_WIN_ADDR sets bank and index and clears WIN_ERR. A data write stores one word of the idle bank; one to the bank in
force is ignored and sets WIN_ERR (R89); indices from 0x600 on are ignored (R90); AINC steps the index after each access. (R89, R90, R114) -/
def Obligations.TickNumAndPlanWindow : Prop :=
  ∀ (s : State) (path : Path), Ready s →
    (MayRead path 0x05 s → exec (.tickNumRead path) s = .next (s.put F.TICK_NUM_HI_HI (s.tick.num / 2 ^ 32)) ∧ normalWord s 0x05 0x054 = BitVec.ofNat 32 s.tick.num)
    ∧ (∀ w, MayWrite path 0x06 0x044 w s → ∃ t, exec (.planWinAddrWrite path w) s = .next t
      ∧ t.get F.PLAN_WIN_ADDR_INDEX = getBits w 10 0 ∧ t.get F.PLAN_WIN_ADDR_WBANK = getBits w 12 12 ∧ t.get F.PLAN_WIN_ADDR_AINC = getBits w 16 16
      ∧ t.flag F.PLAN_STAT_WIN_ERR = false ∧ SameBut [regKey 0x06 0x044, regKey 0x06 F.PLAN_STAT_WIN_ERR.off] { noteOwner path 0x06 s with plan.checked := true } t)
    ∧ (∀ w, MayWrite path 0x06 0x048 w s → s.get F.PLAN_WIN_ADDR_WBANK = s.get F.PLAN_CTRL_BANK →
      ∃ t, exec (.planWinDataAccess path (some w)) s = .next t ∧ t.flag F.PLAN_STAT_WIN_ERR = true ∧ t.plan = { s.plan with checked := true }
        ∧ t = { noteOwner path 0x06 s with regs := t.regs, plan := t.plan })
    ∧ (∀ w, MayWrite path 0x06 0x048 w s → s.get F.PLAN_WIN_ADDR_WBANK ≠ s.get F.PLAN_CTRL_BANK → s.get F.PLAN_WIN_ADDR_INDEX < 0x600 →
      s.flag F.PLAN_WIN_ADDR_AINC = true → w ≠ 0 →
      ∃ t, exec (.planWinDataAccess path (some w)) s = .next t
        ∧ bankWord (planBank t (s.get F.PLAN_WIN_ADDR_WBANK)) (s.get F.PLAN_WIN_ADDR_INDEX) = w
        ∧ (∀ j, j ≠ s.get F.PLAN_WIN_ADDR_INDEX →
            bankWord (planBank t (s.get F.PLAN_WIN_ADDR_WBANK)) j = bankWord (planBank s (s.get F.PLAN_WIN_ADDR_WBANK)) j)
        ∧ planBank t (1 - s.get F.PLAN_WIN_ADDR_WBANK) = planBank s (1 - s.get F.PLAN_WIN_ADDR_WBANK)
        ∧ t.get F.PLAN_WIN_ADDR_INDEX = (s.get F.PLAN_WIN_ADDR_INDEX + 1) % 2 ^ 11 ∧ t = { noteOwner path 0x06 s with regs := t.regs, plan := t.plan })
    ∧ (∀ w, MayWrite path 0x06 0x048 w s → s.get F.PLAN_WIN_ADDR_WBANK ≠ s.get F.PLAN_CTRL_BANK → 0x600 ≤ s.get F.PLAN_WIN_ADDR_INDEX →
      s.flag F.PLAN_WIN_ADDR_AINC = false → exec (.planWinDataAccess path (some w)) s = .next { noteOwner path 0x06 s with plan.checked := true })
    ∧ (MayRead path 0x06 s → s.flag F.PLAN_WIN_ADDR_AINC = true →
      exec (.planWinDataAccess path none) s = .next (s.put F.PLAN_WIN_ADDR_INDEX (s.get F.PLAN_WIN_ADDR_INDEX + 1)))
    ∧ (MayRead path 0x06 s → s.flag F.PLAN_WIN_ADDR_AINC = false → exec (.planWinDataAccess path none) s = .next s)

/-- Slots end: an M slot goes on past its budget, an O slot is aborted, a B slot stops, a completed one leaves its slack: An M slot at the end of its budget
raises DEADLINE and still runs (R105); an O slot there is aborted and counted, with O_ABORT (R109); a B slot stops (R110); a slot that completes leaves, an M
slot with its slack in the smallest of the tick (R112). The slots whose work a separate rule advances (ARR_LAYER, LEARN_STEP, DMA_JOB, background tasks) are
stated with their own rows. (R105, R109, R110, R112, R113) -/
def Obligations.SlotsEnd : Prop :=
  ∀ (s : State) (r : Running), Ready s → s.plan.run = some r →
    (r.slot.kind = 1 → r.dl = false → RecordsOnly 0x00 s → ∃ t, exec .mSlotDeadline s = .next t ∧ t.plan.run = some { r with dl := true }
      ∧ t.get F.PLAN_DL_INFO_SLOT = r.slot.idx % 32 ∧ t.get F.PLAN_DL_INFO_ABORTED = 0 ∧ t.get F.PLAN_DL_TICK_TICK = s.tick.num % 2 ^ 32
      ∧ (t.rd 0x06 0x010).getLsbD E.PLAN_DEADLINE_EVT.2 = true
      ∧ t = { s with regs := t.regs, eff := t.eff, plan.run := t.plan.run, alm.live := t.alm.live, flt := t.flt })
    ∧ ((r.slot.kind ≠ 1 ∨ r.dl = true) → exec .mSlotDeadline s = .next s)
    ∧ (r.slot.kind = 2 → r.slot.action ≠ 7 → r.slot.action ≠ 8 → r.slot.action ≠ 9 → s.bist.task = none →
      exec .oSlotBudgetExpiry s = .next
        (({ s with plan.run := none, plan.freeAt := max s.plan.freeAt (r.slot.start + r.slot.budget) }.putB F.GOV_STAT_BURST false).bump F.PLAN_CNT_O_OVERRUN |>.raise E.PLAN_O_ABORT))
    ∧ (r.slot.kind = 3 → r.slot.action ≠ 7 → r.slot.action ≠ 8 → r.slot.action ≠ 9 → s.bist.task = none →
      exec .bSlotBudgetEnd s = .next ({ s with plan.run := none, plan.freeAt := max s.plan.freeAt (r.slot.start + r.slot.budget) }.putB F.GOV_STAT_BURST false))
    ∧ (∀ at_, r.slot.kind = 1 → r.inj = false → r.began ≤ at_ → (r.dl = true ∨ at_ ≤ r.began + r.slot.budget) → r.slot.action ≠ 7 → r.slot.action ≠ 8 → r.slot.action ≠ 9 → s.bist.task = none →
      (∀ d, d ∈ s.plan.todo → d.kind = 1) →
      exec (.slotComplete at_) s = .next { s with
        plan.run := none
        plan.mEnd := at_
        plan.freeAt := max s.plan.freeAt at_
        plan.slack := some (match s.plan.slack with
          | some m => min m ((r.slot.start + r.slot.budget : Nat) - (at_ : Int))
          | none => (r.slot.start + r.slot.budget : Nat) - (at_ : Int)) })

/-- A slot that is due begins, and NOP, HOST_SIGNAL, LOOP_UPDATE, LINK_JOB and LEARN_STEP have their effects: A due slot leaves those that wait and runs from
then on, late where it starts after START (R103, R107); NOP does nothing more, HOST_SIGNAL shows its ARG and raises SLOT_SIGNAL, LOOP_UPDATE requests a commit
of LDAC that a non-zero ARG makes fail, LINK_JOB gives the link processor its time, LEARN_STEP starts its cycles anew (R93, R169, R333, R508). Where no such
slot waits, nothing happens. (R93, R103, R169, R197, R333, R508) -/
def Obligations.SlotsOfTheTickBegin : Prop :=
  ∀ (s : State) (idx at_ : Nat) (d : Slot), Ready s →
    (SlotStarts 0 idx at_ d s → exec (.nop idx at_) s = .next (slotStarted d idx at_ s))
    ∧ (SlotStarts 10 idx at_ d s → exec (.linkJob idx at_) s = .next (slotStarted d idx at_ s))
    ∧ (SlotStarts 14 idx at_ d s → exec (.hostSignal idx at_) s = .next (((slotStarted d idx at_ s).put F.PLAN_POS_SIG_ARG d.arg).raise E.PLAN_SLOT_SIGNAL))
    ∧ (SlotStarts 8 idx at_ d s → exec (.learnStep idx at_) s = .next { slotStarted d idx at_ s with learn.spent := 0 })
    ∧ (SlotStarts 3 idx at_ d s → gen s ≠ 0 → ∃ t, exec (.loopUpdate idx at_) s = .next t ∧ 0x11 ∈ t.page.commitPend ∧ t.plan = (slotStarted d idx at_ s).plan
      ∧ t.ldac = { s.ldac with argBad := s.ldac.argBad || d.arg != 0 }
      ∧ t = { s with regs := t.regs, eff := t.eff, plan := t.plan, ldac := t.ldac, page.commitPend := t.page.commitPend, gov.window := t.gov.window })
    ∧ ((∀ x, x ∈ s.plan.todo → x.idx ≠ idx) →
      exec (.nop idx at_) s = .next s ∧ exec (.linkJob idx at_) s = .next s ∧ exec (.hostSignal idx at_) s = .next s ∧ exec (.learnStep idx at_) s = .next s
        ∧ exec (.loopUpdate idx at_) s = .next s)

/-- LANE_COLLECT copies a lane's results to SRAM, FAST_COLLECT moves a fast lane's FIFO to its ring: A LANE_COLLECT slot whose ARG names one lane copies that
lane's result words to COLL_ADDR + 64 n and nothing else (R391). A FAST_COLLECT slot for lane FAST0 writes the FIFO's word at the ring's position, moves the
position on, wrapping at LEN, and empties the FIFO (R414). (R391, R414, R93) -/
def Obligations.CollectSlots : Prop :=
  ∀ (s : State) (idx at_ : Nat) (d : Slot), Ready s → s.memWf = true →
    (∀ ms n, SlotStarts 1 idx at_ d s → n < 6 → d.arg = 2 ^ n → s.boot.firstSeen = true →
      inPoweredSram s (s.get F.LANES_COLL_ADDR + 64 * n) 64 = true →
      ∃ t, exec (.laneCollect idx at_ ms) s = .next t ∧ t.bytesAt (s.get F.LANES_COLL_ADDR + 64 * n) 64 = wordsBytes (laneWords s n)
        ∧ (∀ a, a < s.get F.LANES_COLL_ADDR + 64 * n ∨ s.get F.LANES_COLL_ADDR + 64 * n + 64 ≤ a → t.byteAt a = s.byteAt a)
        ∧ t = { slotStarted d idx at_ s with mem := t.mem, ecc := t.ecc })
    ∧ ∀ w, SlotStarts 2 idx at_ d s → d.arg = 1 → NoEccErrors s → s.fast0.fifo = [w] → s.get (F.FAST_RPOS_POS 0) < s.get (F.FAST_RLEN_LEN 0) →
      inPoweredSram s (s.get (F.FAST_RING_ADDR 0) + 4 * s.get (F.FAST_RPOS_POS 0)) 4 = true →
      ∃ t, exec (.fastCollect idx at_) s = .next t ∧ t.fast0 = { s.fast0 with fifo := [] }
        ∧ t.bytesAt (s.get (F.FAST_RING_ADDR 0) + 4 * s.get (F.FAST_RPOS_POS 0)) 4 = bytesOfWord w
        ∧ t.get (F.FAST_RPOS_POS 0) = (s.get (F.FAST_RPOS_POS 0) + 1) % s.get (F.FAST_RLEN_LEN 0)
        ∧ t = { slotStarted d idx at_ s with mem := t.mem, fast0 := t.fast0, regs := t.regs, eff := t.eff }

/-- FSK_SERVICE, PUB_SERVICE and REC_SERVICE hand work over: ARG RXH hands the received frames to the link processor and raises FRAME_RX, TXH hands prepared
messages to the modem (R216). PUB_SERVICE marks the oldest sample as served, and with no stream enabled changes nothing else (R274). REC_SERVICE makes the
lower held record the archive's job and queues its first chunk; while an entry is written the record handed over waits for it (R435, R438). (R216, R274, R435,
R438) -/
def Obligations.ServiceSlots : Prop :=
  ∀ (s : State) (idx at_ : Nat) (d : Slot), Ready s →
    (SlotStarts 4 idx at_ d s → fskOn s = true → d.arg = 1 → s.fsk.rx ≠ [] → (∀ r, (s.fsk.lp ++ s.fsk.rx).head? = some r → fskKnown r.cmd = true) →
      exec (.fskService idx at_) s = .next ({ slotStarted d idx at_ s with fsk.lp := s.fsk.lp ++ s.fsk.rx, fsk.rx := [] }.raise E.FSK_FRAME_RX))
    ∧ (SlotStarts 4 idx at_ d s → fskOn s = true → d.arg = 2 → ∃ t, exec (.fskService idx at_) s = .next t ∧ t.fsk.mq = s.fsk.mq ++ s.fsk.ready
      ∧ t.fsk.ready = [] ∧ t.fsk.rx = s.fsk.rx ∧ t = { slotStarted d idx at_ s with fsk := t.fsk, regs := t.regs })
    ∧ (SlotStarts 4 idx at_ d s → fskOn s = false → exec (.fskService idx at_) s = .next (slotStarted d idx at_ s))
    ∧ (∀ k ks, SlotStarts 5 idx at_ d s → s.pub.ticks = k :: ks → streamsOn (cfgOf k.cfg) = [] →
      exec (.pubService idx at_) s = .next { slotStarted d idx at_ s with pub.served := true })
    ∧ (SlotStarts 5 idx at_ d s → s.pub.ticks = [] → exec (.pubService idx at_) s = .next (slotStarted d idx at_ s))
    ∧ (∀ a h, SlotStarts 6 idx at_ d s → NoEccErrors s → s.flag F.REC_ROW_ARCH_EN = true → s.flag F.REC_STAT_RETIRED = false → s.stor.job = none →
      s.flag F.REC_STAT_INDEX_READY = true → handOver s = some (a, h) → s.stor.wpos + entryLen h.rows h.rw ≤ archSize →
      ∃ t j c, exec (.recService idx at_) s = .next t ∧ t.stor.job = some j ∧ j.area = a ∧ j.held.recno = h.recno ∧ j.off = s.stor.wpos
        ∧ t.nvm.queue = s.nvm.queue ++ [c] ∧ c.kind = 5 ∧ c.addr = (partBase 6).1 + s.stor.wpos ∧ (areaOf t a).held = some { h with queued := true } ∧ t.mem = s.mem)
    ∧ ∀ a h, SlotStarts 6 idx at_ d s → s.flag F.REC_ROW_ARCH_EN = true → s.flag F.REC_STAT_RETIRED = false → s.stor.job ≠ none →
      s.flag F.REC_STAT_INDEX_READY = true → handOver s = some (a, h) → ∃ t, exec (.recService idx at_) s = .next t ∧ t.stor.waits = some a ∧ t.stor.job = s.stor.job
        ∧ (areaOf t a).held = some { h with queued := true } ∧ t = { slotStarted d idx at_ s with stor := t.stor }

/-- ARR_LAYER gives a waiting partition to a free live cell; DMA_JOB selects its jobs; B slots begin their background work: An ARR_LAYER slot in a started
layer dispatches the partition that waits to the first free live cell of the layer's list (R461); without a run it completes at once. DMA_JOB takes the jobs
that ARG selects among those with EN = 1 (R495). BIST_SLICE, SCRUB_STEP and CAL_STEP run their own task where it is ready, BIST with the power of the cell
under test (R618, R620, R635, R639). (R460, R461, R495, R618, R620, R635, R639) -/
def Obligations.ArrayAndDmaSlots : Prop :=
  ∀ (s : State) (idx at_ : Nat) (d : Slot), Ready s →
    (∀ (r : Run) (p c : Nat), SlotStarts 7 idx at_ d s → s.arr.run = some r → r.started = true → serving s ≠ [] → (∀ x, x ∈ placement s → x ∈ s.gov.live) →
      s.gov.live ≠ [] → s.arr.queue = [p] → (r.list.find? fun c => s.gov.live.contains c && (aget s.arr.work c).isNone) = some c → c < 17 →
      ∃ t, exec (.arrLayer idx at_) s = .next t ∧ t.arr.queue = [] ∧ aget t.arr.work c = some p ∧ t.arr.run = some { r with done := 0 }
        ∧ t.get (F.CELL_STAT_BUSY c) = 1 ∧ t.get (F.CELL_WORK_LAYER c) = r.layer % 64 ∧ t.plan = (slotStarted d idx at_ s).plan
        ∧ t = { s with regs := t.regs, eff := t.eff, arr := t.arr, plan := t.plan })
    ∧ (SlotStarts 7 idx at_ d s → d.kind = 1 → hasRun s = false → (∀ x, x ∈ s.plan.todo → x.kind = 1) →
      ∃ t, exec (.arrLayer idx at_) s = .next t ∧ t.plan.run = none ∧ t.plan.todo = s.plan.todo.filter (fun x => x.idx != idx) ∧ t.arr = s.arr)
    ∧ (SlotStarts 9 idx at_ d s → exec (.dmaJob idx at_) s = .next { slotStarted d idx at_ s with
        dma := { jobs := (List.range 8).filter fun j => s.get (F.DMA_JOB_CFG_EN j) == 1 && (d.arg % 256 == 0 || bitOf (d.arg % 256) j) } })
    ∧ (∀ raced, SlotStarts 11 idx at_ d s → d.kind = 3 → spares s = true → taskReady s 0 = true → fitsCap s (s.gov.pred + cellCost s (level s)) = true →
      s.armedAt 0x09 2 = false →
      ∃ t, exec (.bistSlice idx at_ false raced) s = .next t ∧ t.bist.task = some 0 ∧ t.bist.bad = false ∧ t.plan.run = (slotStarted d idx at_ s).plan.run
        ∧ t.gov.pred = s.gov.pred + cellCost s (level s) ∧ t.flag F.BIST_STAT_RUNNING = true ∧ t.mem = s.mem)
    ∧ (∀ raced, SlotStarts 12 idx at_ d s → d.kind = 3 → spares s = true → taskReady s 1 = true →
      ∃ t, exec (.scrubStep idx at_ false raced) s = .next t ∧ t.bist.task = some 1 ∧ t.bist.raced = raced ∧ t.bist.arg = d.arg
        ∧ t = { slotStarted d idx at_ s with bist := t.bist })
    ∧ ∀ bad, SlotStarts 13 idx at_ d s → d.kind = 3 → spares s = true → taskReady s 2 = true →
      ∃ t, exec (.calStep idx at_ bad false) s = .next t ∧ t.bist.task = some 2 ∧ t.bist.arg = d.arg ∧ t = { slotStarted d idx at_ s with bist := t.bist }

/-- The governor samples, a filled bank serves, a held rise of the budget takes effect, a level change ends: A sample within the cap sets the prediction to
the measured demand less the charger's current and shows the draw, the reservoir and VPRE, and sheds nothing (R532, R536, R538). The end of a bank's fill
leaves it all zero and serving (R548, R573). The oldest held budget leaves the window (R533). LEVEL_DONE ends the sequence of a change (R528). (R532, R533,
R536, R528, R548, R573) -/
def Obligations.GovernorCommands : Prop :=
  ∀ s : State, Ready s →
    (∀ at_ load chg vres vpre : Nat, s.gov.sampled + 19 ≤ at_ → s.plan.run = none → pstate s ≠ 3 → s.armedAt 3 1 = false → s.armedAt 3 2 = false → s.flag F.GOV_STAT_BURST = false →
      10 * (load : Int) ≤ cap s →
      ∃ t, exec (.governorSample at_ load chg vres vpre) s = .next t ∧ t.gov.pred = load ∧ t.gov.vpre = vpre
        ∧ t.get F.GOV_DRAW_DRAW = (load + min chg (s.get F.GOV_FLOW_CHG)) % 2 ^ 20 ∧ t.get F.GOV_FLOW_CRES = 0 ∧ t.get F.GOV_RESQ_VRES = vres % 2 ^ 16
        ∧ t.gov.live = s.gov.live ∧ level t = level s ∧ t.get F.GOV_BANKS_GATED = s.get F.GOV_BANKS_GATED
        ∧ (chargerAllowed t = false → t.get F.GOV_FLOW_CHG = 0)
        ∧ t = { s with regs := t.regs, eff := t.eff, gov := t.gov })
    ∧ (∀ at_ load chg vres vpre : Nat, (at_ : Int) < s.gov.sampled + 19 → exec (.governorSample at_ load chg vres vpre) s = .next s)
    ∧ (∀ n, s.memWf = true → n < 16 → bitOf (s.get F.MEM_STAT_ZEROFILL) n = true →
      ∃ t, exec (.bankZeroFillDone n) s = .next t ∧ bitOf (t.get F.MEM_STAT_ZEROFILL) n = false
        ∧ (∀ a, 0x20000000 + n * 0x40000 ≤ a → a < 0x20000000 + (n + 1) * 0x40000 → t.byteAt a = 0)
        ∧ (∀ a, a < 0x20000000 + n * 0x40000 ∨ 0x20000000 + (n + 1) * 0x40000 ≤ a → t.byteAt a = s.byteAt a)
        ∧ t = { s with regs := t.regs, mem := t.mem, ecc := t.ecc })
    ∧ (∀ a age b k rest, s.gov.window = (a, age) :: (b, k) :: rest → mayReach s age 28 = true → ∃ t, exec .budgetRiseHoldExpiry s = .next t ∧ t.gov.window = (b, k) :: rest
      ∧ t.get F.LINE_BUDGET_BUDGET_UA = b / 10 % 2 ^ 16 ∧ t.flag F.GOV_STAT_RISE_HOLD = !rest.isEmpty
      ∧ t = { s with regs := t.regs, gov.window := t.gov.window })
    ∧ (∀ a age rest, s.gov.window = (a, age) :: rest → (rest = [] ∨ mayReach s age 28 = false) → exec .budgetRiseHoldExpiry s = .next s)
    ∧ (s.flag F.CLK_STAT_CHANGING = true → s.gov.raiseTo = none → exec .levelDone s = .next ((s.putB F.CLK_STAT_CHANGING false).raise E.CLK_LEVEL_DONE))
    ∧ (s.flag F.CLK_STAT_CHANGING = false → exec .levelDone s = .next s)

/-- A trim at its limit blocks the level, a level below P_FLOOR and a failed reservoir are reported: AVS_LIMIT blocks the level in force and raises its event
and fault (R531); GOV_BELOW_FLOOR shows BELOW and is raised once (R543); RES_FAULT, once a window of charging has met a condition of it, keeps charger and
bursts off until reset (R156). Each fault is recorded under the reactions of its source, here such that only record. (R156, R531, R543) -/
def Obligations.GovernorFaults : Prop :=
  ∀ s : State, Ready s →
    (8 ≤ s.gov.lowRun → s.getI (trimFld (level s)) = 30 → bitOf (s.get F.CLK_STAT_BLOCKED) (level s) = false → level s < 6 → RecordsOnly 0x11 s →
      ∃ t, exec .avsLimit s = .next t ∧ bitOf (t.get F.CLK_STAT_BLOCKED) (level s) = true ∧ t.flag F.CLK_STAT_AVS_LIMIT = true
        ∧ (t.rd 0x04 0x010).getLsbD E.CLK_AVS_LIMIT.2 = true ∧ FaultRecorded s t)
    ∧ (bitOf (s.get F.CLK_STAT_BLOCKED) (level s) = true → exec .avsLimit s = .next s)
    ∧ (s.get F.GOV_LOW_BELOW_MAX ≤ s.gov.belowRun → 0 < s.gov.belowRun → s.gov.belowRaised = false → RecordsOnly 0x10 s →
      ∃ t, exec .govBelowFloor s = .next t ∧ t.flag F.GOV_STAT_BELOW = true ∧ t.gov.belowRaised = true ∧ (t.rd 0x03 0x010).getLsbD E.GOV_BELOW_FLOOR.2 = true
        ∧ FaultRecorded s t)
    ∧ (s.gov.belowRaised = true → exec .govBelowFloor s = .next s)
    ∧ (s.get F.GOV_RES_RES_CRES_UF ≠ 0 → s.gov.resOff = false → s.gov.resDue = true → RecordsOnly 0x12 s →
      ∃ t, exec .resFault s = .next t ∧ t.gov.resOff = true ∧ t.get F.GOV_FLOW_CHG = 0 ∧ t.flag F.GOV_STAT_CHG = false ∧ t.flag F.GOV_STAT_BURST = false
        ∧ FaultRecorded s t)
    ∧ (s.gov.resOff = true ∨ s.gov.resDue = false → exec .resFault s = .next s)

/-- Detection windows latch the generation, the loop engages at its start-up target, a deferred change applies: A third window in succession with hits latches
G3, the ninth without them G1 or G2 by FSK_EN; before that a window only counts (R123 to R127). LOOP_ENGAGE drives the loop with STARTUP_UA (R121, R181). A
deferred change to G1 applies once no frame is in progress (R142). (R121, R123, R126, R127, R142, R181) -/
def Obligations.LoopStartUp : Prop :=
  ∀ s : State, Ready s →
    (∀ qual cross ms, s.line.sensed = false → mayReach s s.boot.relU (864 + 576 * s.line.windows) = true → gen s = 0 → s.get F.SYS_STRAP_GEN = 0 → 32 ≤ qual → 2 ≤ s.line.hitRun →
      ∃ t, exec (.detectionWindowEnd qual cross ms) s = .next t ∧ gen t = 3 ∧ t.get F.LINE_GEN_GEN = 3 ∧ t.get F.SYS_GEN_HOW = 1 ∧ t.line.sensed = true
        ∧ (t.rd 0x00 0x010).getLsbD E.SYS_GEN_LATCHED.2 = true ∧ t = { s with regs := t.regs, eff := t.eff, line := t.line, gov.window := t.gov.window })
    ∧ (∀ qual cross ms, s.line.sensed = false → mayReach s s.boot.relU (864 + 576 * s.line.windows) = true → gen s = 0 → s.get F.SYS_STRAP_GEN = 0 → qual < 32 → 8 ≤ s.line.windows →
      ∃ t, exec (.detectionWindowEnd qual cross ms) s = .next t ∧ gen t = (if s.flag F.LINE_CFG_FSK_EN then 2 else 1) ∧ t.get F.SYS_GEN_HOW = 2
        ∧ t.line.sensed = true ∧ t = { s with regs := t.regs, eff := t.eff, line := t.line, gov.window := t.gov.window })
    ∧ (∀ qual cross ms, s.line.sensed = false → mayReach s s.boot.relU (864 + 576 * s.line.windows) = true → gen s = 0 → s.get F.SYS_STRAP_GEN = 0 → qual < 32 → s.line.windows < 8 →
      ∃ t, exec (.detectionWindowEnd qual cross ms) s = .next t ∧ gen t = 0 ∧ t.line.windows = s.line.windows + 1 ∧ t.line.hitRun = 0
        ∧ (s.get F.LINE_SENSE_WINDOWS < 8 → t.get F.LINE_SENSE_WINDOWS = s.get F.LINE_SENSE_WINDOWS + 1)
        ∧ t = { s with regs := t.regs, line := t.line })
    ∧ (∀ qual cross ms, gen s ≠ 0 ∨ mayReach s s.boot.relU (864 + 576 * s.line.windows) = false → exec (.detectionWindowEnd qual cross ms) s = .next s)
    ∧ (∀ ms, s.flag F.LINE_STAT_LOOP_ENG = false → s.get F.SYS_STRAP_GEN ≠ 3 → gen s ≠ 3 → s.flag F.LDAC_STAT_CLR = false → s.flag F.LDAC_STAT_FAULT_CLAMP = false →
      s.flag F.LDAC_STAT_SPAN_PASS = false → ∃ t, exec (.loopEngage ms) s = .next t ∧ t.flag F.LINE_STAT_LOOP_ENG = true ∧ t.flag F.LDAC_STAT_STARTUP = true
        ∧ t.get F.LDAC_OUT_SOURCE = 4 ∧ t.get F.LDAC_OUT_TARGET_DUA = trimmedBy s.get (uaCur (s.get F.LDAC_SAFE_STARTUP_UA)) % 2 ^ 18 ∧ gen t = gen s
        ∧ t = { s with regs := t.regs, eff := t.eff, ldac := t.ldac, gov.window := t.gov.window })
    ∧ (∀ ms, s.flag F.LINE_STAT_LOOP_ENG = true → exec (.loopEngage ms) s = .next s)
    ∧ (gen s = 2 → s.flag F.LINE_STAT_GEN_PEND = true → fskBusy s = false → ∃ t, exec .genChangeDeferred s = .next t ∧ gen t = 1 ∧ t.get F.LINE_GEN_GEN = 1
        ∧ t.flag F.LINE_STAT_GEN_PEND = false ∧ t.fsk.burst = none ∧ (t.rd 0x10 0x010).getLsbD E.LINE_GEN_CHANGE.2 = true
        ∧ t = { s with regs := t.regs, fsk := t.fsk })
    ∧ (s.flag F.LINE_STAT_GEN_PEND = false → exec .genChangeDeferred s = .next s)

/-- LOOPCLR_N clamps the loop at once and is released from its pin: A low level of at least 1 µs asserts the clamp: the loop's target is the CLR code's, the
event is raised and counted (R162, R176, R177); one below 0.5 µs does nothing; a high level makes the clamp ripe for release at the first boundary after 1 µs
(R178). (R162, R176, R177, R178) -/
def Obligations.LoopClamp : Prop :=
  ∀ s : State, Ready s →
    (∀ lowNs, 1000 ≤ lowNs → gen s ≠ 3 → s.flag F.LINE_STAT_LOOP_ENG = true → clampHeld s = false →
      ∃ t, exec (.loopclrAssert lowNs) s = .next t ∧ t.flag F.LDAC_STAT_CLR = true ∧ t.ldac.pinLow = true ∧ t.get F.LDAC_OUT_SOURCE = 7
        ∧ t.get F.LDAC_OUT_TARGET_DUA = clrTarget s % 2 ^ 18 ∧ (t.rd 0x11 0x010).getLsbD E.LDAC_CLR_ASSERT.2 = true
        ∧ t = { s with regs := t.regs, eff := t.eff, ldac := t.ldac, adac0 := t.adac0, adac1 := t.adac1, gov.window := t.gov.window })
    ∧ (∀ lowNs, lowNs < 500 → exec (.loopclrAssert lowNs) s = .next s)
    ∧ ∀ highNs, exec (.loopclrDeassert highNs) s = .next { s with ldac.pinLow := false, ldac.ripe := decide (1000 ≤ highNs) }

/-- Lift-off, overdraw, readback and the trim limit are reported as their rules say: LIFTOFF is set when a cause has held for LIFT_HOLD ticks and clears when
none is left (R137, R138); OVERDRAW is raised once (R140); READBACK is set after 8 failing ticks and cleared after 16 passing ones (R186); TRIM_LIMIT after 8
ticks at the limit (R185). Each fault is recorded, under reactions that only record. (R137, R138, R140, R185, R186) -/
def Obligations.LoopSupervision : Prop :=
  ∀ s : State, Ready s →
    (gen s ≠ 3 → s.get F.LINE_CFG_LIFT_HOLD ≤ s.line.drvOn → s.flag F.LINE_STAT_LIFTOFF = false → RecordsOnly 0x20 s →
      ∃ t, exec .liftoffDetect s = .next t ∧ t.flag F.LINE_STAT_LIFTOFF = true ∧ t.flag F.LINE_STAT_LIFT_DRV = true
        ∧ (t.rd 0x10 0x010).getLsbD E.LINE_LIFTOFF_SET.2 = true ∧ FaultRecorded s t)
    ∧ (gen s = 3 → exec .liftoffDetect s = .next s ∧ exec .liftoffClear s = .next s)
    ∧ (gen s ≠ 3 → 16 ≤ s.line.drvOff → s.flag F.LINE_STAT_LIFT_VPRE = false → s.flag F.LINE_STAT_LIFTOFF = true →
      ∃ t, exec .liftoffClear s = .next t ∧ t.flag F.LINE_STAT_LIFTOFF = false ∧ t.flag F.LINE_STAT_LIFT_DRV = false
        ∧ (t.rd 0x10 0x010).getLsbD E.LINE_LIFTOFF_CLR.2 = true ∧ t = { s with regs := t.regs, gov.window := t.gov.window })
    ∧ (gen s ≠ 3 → 2 ≤ s.line.overTicks → s.line.overRaised = false → RecordsOnly 0x21 s →
      ∃ t, exec .loopOverdraw s = .next t ∧ t.line = { s.line with overRaised := true } ∧ FaultRecorded s t)
    ∧ (s.line.overTicks < 2 → exec .loopOverdraw s = .next s)
    ∧ (8 ≤ s.ldac.failTicks → s.flag F.LDAC_STAT_READBACK = false → RecordsOnly 0x22 s →
      ∃ t, exec .readbackSet s = .next t ∧ t.flag F.LDAC_STAT_READBACK = true ∧ (t.rd 0x11 0x010).getLsbD E.LDAC_READBACK_SET.2 = true ∧ FaultRecorded s t)
    ∧ (s.ldac.failTicks < 8 → exec .readbackSet s = .next s)
    ∧ (16 ≤ s.ldac.passTicks → exec .readbackClear s = .next (s.putB F.LDAC_STAT_READBACK false))
    ∧ (s.ldac.passTicks < 16 → exec .readbackClear s = .next s)
    ∧ (8 ≤ s.ldac.limTicks → s.flag F.LDAC_STAT_TRIM_LIMIT = false → exec .trimLimit s = .next ((s.putB F.LDAC_STAT_TRIM_LIMIT true).raise E.LDAC_TRIM_LIMIT))
    ∧ (s.ldac.limTicks < 8 → exec .trimLimit s = .next s)

/-- A span passage, a TEST and a gain passage end, and an auxiliary output reports its overload once: SPAN_DONE ends the passage after its last tick (R173);
TEST_END returns MODE to 0 in both copies (R168); PASS_DONE ends an auxiliary DAC's passage (R191); ADAC_OVERLOAD is counted and raised on entry only (R189).
(R168, R173, R189, R191) -/
def Obligations.PassagesAndTest : Prop :=
  ∀ s : State, Ready s →
    (s.flag F.LDAC_STAT_SPAN_PASS = true → s.ldac.passLeft = 0 → ∃ t, exec .spanDone s = .next t ∧ t.flag F.LDAC_STAT_SPAN_PASS = false
      ∧ (t.rd 0x11 0x010).getLsbD E.LDAC_SPAN_DONE.2 = true ∧ t = { s with regs := t.regs, ldac := t.ldac, line.cmdTick := t.line.cmdTick, gov.window := t.gov.window })
    ∧ (s.ldac.passLeft ≠ 0 → exec .spanDone s = .next s)
    ∧ (s.ldac.testOver = true → s.get F.LDAC_CFG_MODE = 2 → ∃ t, exec .testEnd s = .next t ∧ t.get F.LDAC_CFG_MODE = 0 ∧ t.getS F.LDAC_CFG_MODE = 0
      ∧ t.flag F.LDAC_STAT_TEST_ACTIVE = false ∧ (t.rd 0x11 0x010).getLsbD E.LDAC_TEST_END.2 = true ∧ t.ldac.testU = 0
      ∧ t = { s with regs := t.regs, eff := t.eff, ldac := t.ldac, line.cmdTick := t.line.cmdTick, gov.window := t.gov.window })
    ∧ (s.ldac.testOver = false → exec .testEnd s = .next s)
    ∧ (∀ n, n < 2 → s.flag (adacPassF n) = true → (adacOf s n).pass = 0 →
      exec (.passDone n) s = .next ((s.putB (adacPassF n) false).raise (if n = 0 then E.ADAC_PASS_DONE0 else E.ADAC_PASS_DONE1)))
    ∧ (∀ n, s.flag (adacPassF n) = false → exec (.passDone n) s = .next s)
    ∧ (∀ n, n < 2 → s.flag (adacOvldF n) = false →
      exec (.adacOverload n) s = .next (((s.putB (adacOvldF n) true).bump F.ADAC_CNT_OVLD).raise E.ADAC_OVLD_SET))
    ∧ ∀ n, s.flag (adacOvldF n) = true → exec (.adacOverload n) s = .next s

/-- Carrier is declared and ends, noise and gaps end the reception of a frame: Bit times without carrier average into the noise floor with a time constant of
64 of them (R207; its fixed-point form is DEDUCED, log entry 158's). Two bit times above CD_TH then declare carrier, with CD_TH the least of 110 and the
greater of 80 and the noise floor plus its margin (R205, R206); two below CD_TH less 10 mVpp end it. A frame that gaps is dropped with RX_ERR (R213), one that
is noise is counted (R211). (R205, R206, R211, R213) -/
def Obligations.FskReceiver : Prop :=
  ∀ s : State, Ready s →
    (∀ (quiet : List Nat) a b mine nf th, hears s = true → s.flag F.FSK_STAT_CARRIER = false → nf = quiet.foldl (fun x y => (63 * x + 65536 * y) / 64) s.fsk.nf →
      th = min 110 (max 80 (min 255 (nf / 65536) + s.get F.FSK_CFG_CD_MARGIN_MV)) →
      ∃ t, exec (.carrierDetect ⟨quiet, mine⟩ a b) s = .next t ∧ t.fsk.nf = nf ∧ t.get F.FSK_AD_NF = min 255 (nf / 65536) ∧ t.get F.FSK_AD_CD_TH = th
        ∧ t = { s with regs := t.regs, fsk.nf := nf, fsk.rxMine := t.fsk.rxMine, fsk.carU := t.fsk.carU }
        ∧ (th < a → th < b → t.flag F.FSK_STAT_CARRIER = true ∧ t.flag F.FSK_STAT_RX_FRAME = true ∧ t.get F.FSK_AD_AMP = min 255 b ∧ t.fsk.rxMine = mine)
        ∧ (a ≤ th ∨ b ≤ th → t.flag F.FSK_STAT_CARRIER = false ∧ t.flag F.FSK_STAT_RX_FRAME = s.flag F.FSK_STAT_RX_FRAME ∧ t.get F.FSK_AD_AMP = s.get F.FSK_AD_AMP
          ∧ t.fsk.rxMine = s.fsk.rxMine))
    ∧ (∀ a b, hears s = true → s.flag F.FSK_STAT_CARRIER = true → a < s.get F.FSK_AD_CD_TH - 10 → b < s.get F.FSK_AD_CD_TH - 10 →
      ∃ t, exec (.carrierEnd a b) s = .next t ∧ t.flag F.FSK_STAT_CARRIER = false ∧ t.flag F.FSK_STAT_RX_FRAME = false ∧ t.fsk.quiet = 48
        ∧ t = { s with regs := t.regs, fsk.quiet := t.fsk.quiet })
    ∧ (∀ a b, hears s = true → s.get F.FSK_AD_CD_TH - 10 ≤ a ∨ s.get F.FSK_AD_CD_TH - 10 ≤ b → exec (.carrierEnd a b) s = .next s)
    ∧ (fskOn s = true → s.flag F.FSK_STAT_CARRIER = true → s.flag F.FSK_STAT_RX_FRAME = true → mayReach s s.fsk.carU 6600 = true →
      exec .noiseTimeout s = .next ((s.putB F.FSK_STAT_RX_FRAME false).bump F.FSK_CNT_STR_NOISE))
    ∧ (fskOn s = true → s.flag F.FSK_STAT_RX_FRAME = true →
      exec .frameGapTimeout s = .next (((s.putB F.FSK_STAT_RX_FRAME false).bump F.FSK_CNT_ERR_GAP).raise E.FSK_RX_ERR))
    ∧ (fskOn s = false → exec .noiseTimeout s = .next s ∧ exec .frameGapTimeout s = .next s
      ∧ (∀ a b, exec (.carrierEnd a b) s = .next s) ∧ ∀ quiet a b mine, exec (.carrierDetect ⟨quiet, mine⟩ a b) s = .next s)

/-- A frame with a character error or a wrong check byte is dropped and counted, whatever it holds: Whatever the frame's address, command and data: no request
joins the receive queue and no reply comes into being; CHAR or CHECK counts it, with RX_ERR (R212, R213). (R212) -/
def Obligations.BrokenFramesAreDropped : Prop :=
  ∀ (s : State) (f : FskFrame), Ready s → hears s = true → 5 ≤ f.pre → f.pre ≤ 20 → mayReach s s.fsk.upU (264 * (2 + frameChars f) + f.gap) = true →
    (f.charsOk = false ∨ checkOk f = false) →
    ∃ t, exec (.fskFrameRx f) s = .next t ∧ t.fsk = s.fsk ∧ t.link = s.link ∧ t.acc = s.acc
      ∧ (f.charsOk = false → t.get F.FSK_CNT_ERR_CHAR = min 255 (s.get F.FSK_CNT_ERR_CHAR + 1) ∧ t.get F.FSK_CNT_ERR_CHECK = s.get F.FSK_CNT_ERR_CHECK)
      ∧ (f.charsOk = true → t.get F.FSK_CNT_ERR_CHECK = min 255 (s.get F.FSK_CNT_ERR_CHECK + 1) ∧ t.get F.FSK_CNT_ERR_CHAR = s.get F.FSK_CNT_ERR_CHAR)
      ∧ (t.rd 0x13 0x010).getLsbD E.FSK_RX_ERR.2 = true
      ∧ t.page.armed = (if (f.kind == 0 && addressed s f && s.armedAt 0x13 1) = true then s.page.armed.erase (0x13, 1) else s.page.armed)
      ∧ t = { s with regs := t.regs, page.armed := t.page.armed }

/-- A good frame is queued, ignored, a stranger or too long, as its address, kind and length say: A frame of the supported kind that is addressed to the
KV4811 joins the queue of received requests; one for another device only counts; a stranger counts and raises STRANGER; one with more than 128 data bytes is
dropped (R211, R213, R227). (R209, R210, R211, R213) -/
def Obligations.FskFrameReception : Prop :=
  ∀ (s : State) (f : FskFrame), Ready s → hears s = true → 5 ≤ f.pre → f.pre ≤ 20 → mayReach s s.fsk.upU (264 * (2 + frameChars f) + f.gap) = true →
    f.charsOk = true → checkOk f = true → s.armedAt 0x13 1 = false →
    ∃ t, exec (.fskFrameRx f) s = .next t ∧ t.flag F.FSK_STAT_RX_FRAME = false ∧ t = { s with regs := t.regs, fsk.rx := t.fsk.rx }
      ∧ (f.kind ≠ 0 → t.fsk.rx = s.fsk.rx ∧ (t.rd 0x13 0x010).getLsbD E.FSK_STRANGER.2 = true
        ∧ t.get F.FSK_CNT_STR_STRANGER = satTo (2 ^ (F.FSK_CNT_STR_STRANGER.hi + 1 - F.FSK_CNT_STR_STRANGER.lo) - 1) (s.get F.FSK_CNT_STR_STRANGER + 1))
      ∧ (f.kind = 0 → addressed s f = false → t.fsk.rx = s.fsk.rx ∧ t.rd 0x13 0x010 = s.rd 0x13 0x010
        ∧ t.get F.FSK_CNT_RX_OTHER = min 65535 (s.get F.FSK_CNT_RX_OTHER + 1))
      ∧ (f.kind = 0 → addressed s f = true → 128 < f.data.length → t.fsk.rx = s.fsk.rx ∧ (t.rd 0x13 0x010).getLsbD E.FSK_RX_ERR.2 = true)
      ∧ (f.kind = 0 → addressed s f = true → f.data.length ≤ 128 →
        t.fsk.rx = s.fsk.rx ++ [{ secondary := f.secondary, long := f.long, addr := f.addr, cmd := f.cmd, data := f.data }]
        ∧ t.rd 0x13 0x010 = s.rd 0x13 0x010)

/-- Replies start, come late and end; burst frames fall due, start and are abandoned: A reply starts between 1 and 28 character times after its request, after
a quiet character time and within the transmit limit (R203, R214, R218); the first reply to a master clears its cold start (R222). One that cannot is
discarded with REPLY_LATE. The receiver stays blanked for 2 bit times after the end (R207). A transmitter active for 1.5 s stops (R220). Burst frames: R224 to
R226. (R203, R204, R207, R214, R218, R220, R222, R224, R225, R226) -/
def Obligations.FskTransmission : Prop :=
  ∀ s : State, Ready s →
    (∀ o rest, s.fsk.mq = o :: rest → s.armedAt 0x13 2 = false → mayReach s o.age 264 = true → mayStay s o.age 7392 = true → fskOn s = true →
      s.fsk.sending = none → s.fsk.stuck = false → s.flag F.LINE_STAT_LOOP_ENG = true → startCeil s = false → s.flag F.FSK_STAT_CARRIER = false →
      mayReach s s.fsk.quiet 264 = true → 10 * s.get F.GOV_DRAW_DRAW + 5000 ≤ budget s →
      ∃ t, exec .fskTxStart s = .next t ∧ t.fsk.sending = some o ∧ t.fsk.mq = rest ∧ t.flag F.FSK_STAT_TX_ACTIVE = true ∧ t.flag (coldF o.secondary) = false
        ∧ t.flag F.FSK_STAT_TX_GATED = false ∧ t = { s with regs := t.regs, fsk := { s.fsk with sending := t.fsk.sending, sendU := 0, mq := t.fsk.mq } })
    ∧ (s.flag F.LINE_STAT_LOOP_ENG = false ∨ startCeil s = true →
      ∃ t u, exec .fskTxStart s = .next t ∧ t.fsk = s.fsk ∧ exec .burstTxStart s = .next u ∧ u.fsk = s.fsk)
    ∧ (∀ o rest, s.fsk.mq = o :: rest → fskOn s = true → mayReach s o.age 7392 = true →
      ∃ t, exec .replyLate s = .next t ∧ t.fsk = { s.fsk with mq := rest } ∧ (t.rd 0x13 0x010).getLsbD E.FSK_REPLY_LATE.2 = true
        ∧ t = { s with regs := t.regs, fsk := t.fsk, page.armed := t.page.armed })
    ∧ (∀ o rest, s.fsk.mq = [] → s.fsk.ready = o :: rest → fskOn s = true → mayReach s o.age 7392 = true →
      ∃ t, exec .replyLate s = .next t ∧ t.fsk = { s.fsk with ready := rest } ∧ (t.rd 0x13 0x010).getLsbD E.FSK_REPLY_LATE.2 = true
        ∧ t = { s with regs := t.regs, fsk := t.fsk, page.armed := t.page.armed })
    ∧ (∀ o rest, s.fsk.mq = o :: rest → mayReach s o.age 7392 = false → exec .replyLate s = .next s)
    ∧ (∀ o, s.fsk.sending = some o → mayReach s s.fsk.sendU (264 * (o.pre + o.bytes.length)) = true → ∃ t, exec .fskTxEnd s = .next t ∧ t.fsk = { s.fsk with sending := none, sendU := 0, blank := 48, quiet := 0 }
      ∧ t.flag F.FSK_STAT_TX_ACTIVE = false ∧ t = { s with regs := t.regs, fsk := t.fsk })
    ∧ (s.fsk.sending = none → exec .fskTxEnd s = .next s ∧ exec .fskTxStuck s = .next s)
    ∧ (s.fsk.sending ≠ none → mayReach s s.fsk.sendU 43200 = true → RecordsOnly 0x30 s →
      ∃ t, exec .fskTxStuck s = .next t ∧ t.fsk.stuck = true ∧ t.fsk.sending = none ∧ t.flag F.FSK_STAT_TX_ACTIVE = false ∧ FaultRecorded s t)
    ∧ (fskOn s = true → s.flag F.FSK_BURST_EN = true → mayReach s s.fsk.sinceDue (burstPeriod s) = true → s.fsk.burst ≠ none →
      ∃ t, exec .burstDue s = .next t ∧ t.fsk = { s.fsk with burst := some 0, burstTx := false, sinceDue := 0 } ∧ (t.rd 0x13 0x010).getLsbD E.FSK_BURST_DEFER.2 = true
        ∧ t = { s with regs := t.regs, fsk := t.fsk })
    ∧ (fskOn s = true → s.flag F.FSK_BURST_EN = true → mayReach s s.fsk.sinceDue (burstPeriod s) = true → s.fsk.burst = none →
      exec .burstDue s = .next { s with fsk := { s.fsk with burst := some 0, burstTx := false, sinceDue := 0 } })
    ∧ (s.flag F.FSK_BURST_EN = false → exec .burstDue s = .next s)
    ∧ (s.fsk.burst ≠ none → s.fsk.burstTx = true → s.flag F.FSK_BURST_EN = true → replyPending s = false → txMay s 8 = true →
      ∃ t o, exec .burstTxStart s = .next t ∧ t.fsk.sending = some o ∧ o.secondary = s.fsk.burstSec ∧ o.pre = s.get F.FSK_CFG_RESP_PRE
        ∧ t.fsk.burstSec = !s.fsk.burstSec ∧ t.fsk.burst = none ∧ t.flag F.FSK_STAT_TX_ACTIVE = true
        ∧ t = { s with regs := t.regs, fsk := { s.fsk with sending := some o, sendU := 0, burst := none, burstTx := false, burstSec := t.fsk.burstSec }, free := t.free })
    ∧ (∀ age, s.fsk.burst = some age → mayReach s age (burstPeriod s) = true →
      ∃ t, exec .burstDefer s = .next t ∧ t.fsk = { s.fsk with burst := none, burstTx := false } ∧ (t.rd 0x13 0x010).getLsbD E.FSK_BURST_DEFER.2 = true
        ∧ t = { s with regs := t.regs, fsk := t.fsk })
    ∧ (s.fsk.burst = none → exec .burstDefer s = .next s)

/-- The read commands of an FSK master are answered with code 0 and their data: The request in turn leaves the queue and one reply joins the replies that are
ready: tag, message, descriptor, date, assembly number and long tag as FSK_TEXT holds them, polling address and mode (R223), loop current and percent,
variables as of the last SNAP (R232), identity with RESP_PRE. Bytes that the spec does not state are free (PRESUMED, log entry 115). (R209, R214, R219, R223,
R227, R230, R232) -/
def Obligations.FskReadCommands : Prop :=
  ∀ (s : State) (r : FskReq), Ready s →
    (Requested r 0 s → ∃ t d e, exec .readUniqueIdentifier s = .next t ∧ d.length = 4 ∧ e.length = 9
      ∧ Answered r 0 ([254] ++ natBytes 2 s.otp.devType ++ [5, 7] ++ d ++ natBytes 3 s.otp.devId ++ [BitVec.ofNat 8 (s.get F.FSK_CFG_RESP_PRE)] ++ e) s t)
    ∧ (Requested r 11 s → 6 ≤ r.data.length → r.data.take 6 = fskText s 0x100 6 → ∃ t d, exec .readUniqueIdByTag s = .next t ∧ Answered r 0 d s t ∧ d.length = 22)
    ∧ (Requested r 11 s → 6 ≤ r.data.length → r.data.take 6 ≠ fskText s 0x100 6 → exec .readUniqueIdByTag s = .next { s with fsk.lp := [] })
    ∧ (Requested r 21 s → 32 ≤ r.data.length → r.data.take 32 = fskText s 0x134 32 →
      ∃ t d, exec .readUniqueIdByLongTag s = .next t ∧ Answered r 0 d s t ∧ d.length = 22)
    ∧ (∀ v, Requested r 1 s → Snapped 0 v s → ∃ t, exec .readPv s = .next t ∧ Answered r 0 (unitAndValue 0 v s) s t)
    ∧ (Requested r 2 s → ∃ t, exec .readLoopCurrentPercent s = .next t ∧ Answered r 0 (loopBytes s ++ percentBytes s) s t)
    ∧ (∀ v w, Requested r 3 s → Snapped 0 v s → Snapped 1 w s → s.flag (F.FSK_VAR_CFG_EN 2) = false → s.flag (F.FSK_VAR_CFG_EN 3) = false →
      ∃ t, exec .readDynamicVariables s = .next t ∧ Answered r 0 (loopBytes s ++ unitAndValue 0 v s ++ unitAndValue 1 w s) s t)
    ∧ (Requested r 7 s → ∃ t, exec .readLoopConfiguration s = .next t
      ∧ Answered r 0 [BitVec.ofNat 8 (s.get F.FSK_CFG_POLL_ADDR), if s.get F.LDAC_CFG_MODE = 1 then 0 else 1] s t)
    ∧ (Requested r 8 s → ∃ t d, exec .readVariableClassifications s = .next t ∧ Answered r 0 d s t ∧ d.length = 4)
    ∧ (∀ (c : Byte) n v, Requested r 9 s → r.data = [c] → varOfCode s c.toNat = some n → Snapped n v s → ∃ (t : State) (b k : Byte) (e : List Byte),
      exec .readDeviceVarsWithStatus s = .next t ∧ e.length = 4 ∧ Answered r 0 ([b, c, k] ++ unitAndValue n v s ++ [BitVec.ofNat 8 (64 * if inFault s ∨ v.2 = false then 0 else s.get (F.FSK_VAR_CFG_QUAL n))] ++ e) s t)
    ∧ (∀ (c : Byte) n v, Requested r 33 s → r.data = [c] → varOfCode s c.toNat = some n → Snapped n v s →
      ∃ t, exec .readDeviceVariables s = .next t ∧ Answered r 0 (c :: unitAndValue n v s) s t)
    ∧ (Requested r 33 s → r.data = [] → ∃ t, exec .readDeviceVariables s = .next t ∧ Answered r 5 [] s t)
    ∧ (Requested r 12 s → ∃ t, exec .readMessage s = .next t ∧ Answered r 0 (fskText s 0x11C 24) s t)
    ∧ (Requested r 13 s → ∃ t, exec .readTagDescriptorDate s = .next t
      ∧ Answered r 0 (fskText s 0x100 6 ++ fskText s 0x108 12 ++ (fskText s 0x114 4).drop 1) s t)
    ∧ (Requested r 15 s → ∃ t d, exec .readDeviceInformation s = .next t ∧ Answered r 0 d s t ∧ d.length = 18)
    ∧ (Requested r 16 s → ∃ t, exec .readFinalAssemblyNumber s = .next t ∧ Answered r 0 ((fskText s 0x118 4).drop 1) s t)
    ∧ (Requested r 20 s → ∃ t, exec .readLongTag s = .next t ∧ Answered r 0 (fskText s 0x134 32) s t)
    ∧ (Requested r 105 s → ∃ t d, exec .readBurstConfiguration s = .next t ∧ Answered r 0 d s t
      ∧ d.take 2 = [BitVec.ofNat 8 (s.get F.FSK_BURST_EN), BitVec.ofNat 8 (s.get F.FSK_BURST_CMD)])

/-- Command 48 is answered with FSK_XSTAT, FSK_XUSER and five bytes of 0: The nine data bytes, most significant byte first, in a reply with code 0; the master
has then read FSK_XSTAT, and nothing else changes. (R231) -/
def Obligations.AdditionalDeviceStatus : Prop :=
  ∀ (s : State) (r : FskReq), Ready s → Requested r 48 s →
    ∃ t, exec .readAdditionalDeviceStatus s = .next t
      ∧ t.fsk.lp = [] ∧ (t.fsk.seenS = if r.secondary then xstat s else s.fsk.seenS) ∧ (t.fsk.seenP = if r.secondary then s.fsk.seenP else xstat s)
      ∧ t.fsk.ready = s.fsk.ready ++ [replyFrame r 0
          [BitVec.ofNat 8 (xstat s / 256), BitVec.ofNat 8 (xstat s), BitVec.ofNat 8 (s.get F.FSK_XUSER_USER / 256), BitVec.ofNat 8 (s.get F.FSK_XUSER_USER),
            0, 0, 0, 0, 0] t]
      ∧ t = { s with fsk := { s.fsk with lp := [], ready := t.fsk.ready, seenP := t.fsk.seenP, seenS := t.fsk.seenS } }

/-- The write commands of an FSK master write shadow fields, request the commits and answer after the boundary: With UNIV_WR_EN = 0 each receives response
code 7 and changes nothing (R228). With 1 it writes the shadows that its table row names and requests the commits in the same tick; effective values wait for
them, and the reply for the boundary (R223, R228, R229, R295). The link processor must be allowed its accesses (R333; DEDUCED, log entry 123). Command 38
clears the requesting master's flag (R222). Values out of range receive codes 3, 4, 9 or 11 (R229). (R222, R223, R228, R229, R295) -/
def Obligations.FskWriteCommands : Prop :=
  ∀ (s : State) (r : FskReq), Ready s → linkMay s = true →
    (s.flag F.FSK_CFG_UNIV_WR_EN = false → ∀ x ∈ [(6, Instr.writePollingAddress), (17, .writeMessage), (18, .writeTagDescriptorDate), (19, .writeFinalAssemblyNumber),
        (22, .writeLongTag), (38, .resetConfigChangedFlag), (40, .enterExitFixedCurrent), (45, .trimLoopCurrentZero), (46, .trimLoopCurrentGain),
        (59, .writeNumResponsePreambles), (103, .writeBurstPeriod), (104, .writeBurstTrigger), (107, .writeBurstDeviceVariables), (108, .writeBurstCommand),
        (109, .burstControl)],
      Requested r x.1 s → ∃ t, exec x.2 s = .next t ∧ Answered r 7 [] s t)
    ∧ (s.flag F.FSK_CFG_UNIV_WR_EN = true →
      (Requested r 6 s → 2 ≤ r.data.length → (r.data.getD 0 0).toNat ≤ 63 → (r.data.getD 1 0).toNat ≤ 1 → OrdersPass r [0x13, 0x11] 2 s →
        ∃ t, exec .writePollingAddress s = .next t ∧ ReplyWaits r [0x13, 0x11] (r.data.take 2) s t ∧ t.getS F.FSK_CFG_POLL_ADDR = (r.data.getD 0 0).toNat
          ∧ t.getS F.LDAC_CFG_MODE = if (r.data.getD 1 0).toNat = 0 then 1 else if s.get F.LDAC_CFG_MODE = 1 then 0 else s.getS F.LDAC_CFG_MODE)
      ∧ (Requested r 17 s → r.data.length = 24 → OrdersPass r [0x13] 6 s →
        ∃ t, exec .writeMessage s = .next t ∧ ReplyWaits r [0x13] r.data s t ∧ shadowText t 0x11C 24 = r.data)
      ∧ (Requested r 18 s → r.data.length = 21 → OrdersPass r [0x13] 6 s → ∃ t, exec .writeTagDescriptorDate s = .next t ∧ ReplyWaits r [0x13] r.data s t
        ∧ shadowText t 0x100 6 ++ shadowText t 0x108 12 ++ (shadowText t 0x114 4).drop 1 = r.data)
      ∧ (Requested r 19 s → r.data.length = 3 → OrdersPass r [0x13] 1 s →
        ∃ t, exec .writeFinalAssemblyNumber s = .next t ∧ ReplyWaits r [0x13] r.data s t ∧ (shadowText t 0x118 4).drop 1 = r.data)
      ∧ (Requested r 22 s → r.data.length = 32 → OrdersPass r [0x13] 8 s →
        ∃ t, exec .writeLongTag s = .next t ∧ ReplyWaits r [0x13] r.data s t ∧ shadowText t 0x134 32 = r.data)
      ∧ (Requested r 38 s → ∃ t, exec .resetConfigChangedFlag s = .next t ∧ t.flag (changedF r.secondary) = false
        ∧ t = { s with regs := t.regs, fsk.lp := [], fsk.ready := s.fsk.ready ++ [replyFrame r 0 r.data t] } ∧ SameBut [regKey 0x13 0x07C] s { t with fsk := s.fsk })
      ∧ (Requested r 40 s → 4 ≤ r.data.length → s.get F.LDAC_CFG_MODE = 1 → ∃ t, exec .enterExitFixedCurrent s = .next t ∧ Answered r 11 [] s t)
      ∧ (∀ (n : Int) (den : Nat), Requested r 40 s → r.data.length = 4 → s.get F.LDAC_CFG_MODE ≠ 1 → dataSingle r.data = some (n, den) →
        16 * (den : Int) ≤ n * 5 → n ≤ 24 * (den : Int) → n ≠ 0 → OrdersPass r [0x11] 2 s → ∃ t, exec .enterExitFixedCurrent s = .next t
          ∧ ReplyWaits r [0x11] r.data s t ∧ t.getS F.LDAC_CFG_MODE = 2 ∧ (t.getS F.LDAC_TEST_TEST_UA : Int) = divRound (n * 1000) den)
      ∧ (∀ (den : Nat), Requested r 40 s → r.data.length = 4 → s.get F.LDAC_CFG_MODE ≠ 1 → dataSingle r.data = some (0, den) → OrdersPass r [0x11] 1 s →
        ∃ t, exec .enterExitFixedCurrent s = .next t ∧ ReplyWaits r [0x11] r.data s t ∧ t.getS F.LDAC_CFG_MODE = 0)
      ∧ (Requested r 45 s → 4 ≤ r.data.length → loopSource s ≠ 2 → ∃ t, exec .trimLoopCurrentZero s = .next t ∧ Answered r 9 [] s t)
      ∧ (∀ (n v : Int) (den : Nat), Requested r 45 s → r.data.length = 4 → loopSource s = 2 → s.get F.LDAC_TEST_TEST_UA = 4000 → dataSingle r.data = some (n, den) →
        v = signed 16 (s.getS F.LDAC_UTRIM_ZERO_DUA) + divRound ((4000 * (den : Int) - n * 1000) * 10) den → -1000 ≤ v → v ≤ 1000 → OrdersPass r [0x11] 1 s →
        ∃ t, exec .trimLoopCurrentZero s = .next t ∧ ReplyWaits r [0x11] r.data s t ∧ signed 16 (t.getS F.LDAC_UTRIM_ZERO_DUA) = v)
      ∧ (∀ (n v : Int) (den : Nat), Requested r 46 s → r.data.length = 4 → loopSource s = 2 → s.get F.LDAC_TEST_TEST_UA = 20000 → dataSingle r.data = some (n, den) →
        v = signed 16 (s.getS F.LDAC_UTRIM_GAIN_PPM) + divRound ((20000 * (den : Int) - n * 1000) * 50) den → -5000 ≤ v → v ≤ 5000 → OrdersPass r [0x11] 1 s →
        ∃ t, exec .trimLoopCurrentGain s = .next t ∧ ReplyWaits r [0x11] r.data s t ∧ signed 16 (t.getS F.LDAC_UTRIM_GAIN_PPM) = v)
      ∧ (∀ c : Byte, Requested r 59 s → r.data = [c] → 5 ≤ c.toNat → c.toNat ≤ 20 → OrdersPass r [0x13] 1 s →
        ∃ t, exec .writeNumResponsePreambles s = .next t ∧ ReplyWaits r [0x13] [c] s t ∧ t.getS F.FSK_CFG_RESP_PRE = c.toNat)
      ∧ (∀ ms : Nat, Requested r 103 s → r.data.length = 9 → r.data.getD 0 0 = 0 → ms = bytesNat ((r.data.drop 1).take 4) / 32 → 500 ≤ ms → ms ≤ 60000 →
        OrdersPass r [0x13] 1 s → ∃ t, exec .writeBurstPeriod s = .next t ∧ ReplyWaits r [0x13] r.data s t ∧ t.getS F.FSK_BURST_PERIOD_MS = ms)
      ∧ (Requested r 104 s → 2 ≤ r.data.length → r.data.getD 1 0 = 0 → OrdersPass r [0x13] 0 s →
        ∃ t, exec .writeBurstTrigger s = .next t ∧ ReplyWaits r [0x13] r.data s t ∧ SameBut [] s { t with page := s.page, acc := s.acc, fsk := s.fsk, plan := s.plan })
      ∧ (Requested r 107 s → r.data.length = 4 → OrdersPass r [0x13] 4 s →
        ∃ t, exec .writeBurstDeviceVariables s = .next t ∧ ReplyWaits r [0x13] r.data s t ∧ bytesOfWord (t.rd 0x13 0x054) = r.data)
      ∧ (∀ c : Byte, Requested r 108 s → r.data = [c] → c.toNat ∈ [1, 2, 3, 9, 33, 48] → OrdersPass r [0x13] 1 s →
        ∃ t, exec .writeBurstCommand s = .next t ∧ ReplyWaits r [0x13] [c] s t ∧ t.getS F.FSK_BURST_CMD = c.toNat)
      ∧ (∀ c : Byte, Requested r 109 s → r.data = [c] → c.toNat ≤ 1 → OrdersPass r [0x13] 1 s →
        ∃ t, exec .burstControl s = .next t ∧ ReplyWaits r [0x13] [c] s t ∧ t.getS F.FSK_BURST_EN = c.toNat))

/-- YRD, YWR, YCOMMIT and YSESS access registers over FSK in a session or without one: While the link processor may make its accesses (R333; DEDUCED, log
entry 123), YRD of one register in no session answers 1, OK and its word while ANON_READ is 1 and code 16 otherwise (R233 to R236). In a session whose CTR and
MAC hold, YWR writes its word and YCOMMIT requests its commit; CTR becomes the session's, and the reply waits for the boundary (R234, R235, R337). A YSESS
message that is none is answered with code 2 (R236). (R233, R234, R235, R236, R335, R337, R338) -/
def Obligations.FskVendorCommands : Prop :=
  ∀ (s : State) (r : FskReq), Ready s → linkMay s = true →
    (∀ p off ns, Requested r 200 s → r.data = 0 :: natBytes 4 (0x40000000 + p * 0x400 + off) ++ [1] → s.flag F.ACC_CFG_ANON_READ = true → PlainRead p off s →
      ∃ t, exec (.yrd ns) s = .next t ∧ Answered r 0 ([1, 0] ++ bytesOfWord (normalWord (linkUse 1 { s with fsk.lp := [] }) p off)) (linkUse 1 s) t)
    ∧ (∀ ns, Requested r 200 s → r.data.length = 6 → r.data.getD 0 0 = 0 → 1 ≤ (r.data.getD 5 0).toNat → (r.data.getD 5 0).toNat ≤ 16 →
      s.flag F.ACC_CFG_ANON_READ = false → ∃ t, exec (.yrd ns) s = .next t ∧ Answered r 16 [] s t)
    ∧ (∀ sid ctr slot x p off e w front mac, Requested r 201 s → 1 ≤ sid → sid < 255 →
      front = BitVec.ofNat 8 sid :: natBytes 4 ctr ++ natBytes 4 (0x40000000 + p * 0x400 + off) ++ [1] ++ bytesOfWord w → r.data = front ++ mac → mac.length = 16 →
      SessionAccepts (masterKind r) 0 [] sid ctr ([0x00, 201] ++ front) mac slot x s → PlainWrite (.fsk r.secondary sid) p off e w s →
      ∃ t, exec .ywr s = .next t ∧ t.rd p off = mergeMask (s.rd p off) w (e.rws ||| e.rw) &&& ~~~ (w &&& BitVec.ofNat 32 e.w1c) ∧ t.rdE p off = s.rdE p off
        ∧ (aget t.acc.sessions slot).map (·.lastCtr) = some ctr ∧ t.fsk = { s.fsk with lp := [] }
        ∧ t.acc.late = s.acc.late ++ [{ path := .fsk r.secondary sid, dest := .fsk r, op := 201, sid := sid, ctr := ctr, sk := x.sk,
                                        words := [wordOut (0x40000000 + p * 0x400 + off) 0] }]
        ∧ t = { s with regs := t.regs, eff := t.eff, page := t.page, acc := t.acc, fsk := t.fsk, gov.window := t.gov.window, plan := (linkUse 1 s).plan })
    ∧ (∀ sid ctr slot x page front mac, Requested r 202 s → 1 ≤ sid → sid < 255 → page < 0x80 → (pageEnt page).isSome = true → page ≠ 0x11 →
      front = BitVec.ofNat 8 sid :: natBytes 4 ctr ++ [1, BitVec.ofNat 8 page] → r.data = front ++ mac → mac.length = 16 →
      SessionAccepts (masterKind r) 0 [] sid ctr ([0x00, 202] ++ front) mac slot x s → MayWrite (.fsk r.secondary sid) page 0x020 1 s →
      ∃ t, exec .ycommit s = .next t ∧ page ∈ t.page.commitPend ∧ (aget t.acc.sessions slot).map (·.lastCtr) = some ctr ∧ t.fsk = { s.fsk with lp := [] }
        ∧ t.acc.late.length = s.acc.late.length + 1 ∧ t.plan = (linkUse 1 s).plan ∧ SameBut [] s { t with page := s.page, acc := s.acc, fsk := s.fsk, plan := s.plan })
    ∧ (∀ b u, Requested r 203 s → r.data ≠ [] → r.data.length ≤ 64 → sessionType r.data ≠ 0 → sessionMsg (masterKind r) 0 [] r.data { s with fsk.lp := [] } = (u, some b) →
      ∃ t, exec .ysess s = .next t ∧ t = { u with fsk.ready := u.fsk.ready ++ [replyFrame r 0 b u] })
    ∧ (Requested r 203 s → r.data ≠ [] → r.data.length ≤ 64 → sessionType r.data = 0 → ∃ t, exec .ysess s = .next t ∧ Answered r 2 [] s t)
    ∧ (Requested r 203 s → r.data = [] → ∃ t, exec .ysess s = .next t ∧ Answered r 5 [] s t)

/-- The link comes up and goes down, and its quality falls below SQI_MIN: With AN_EN, LINK_UP shows the resolved amplitude and role, SQI and MSE (R244 to
R247). LINK_DOWN clears LINK and SQI, empties the queues, retrains, counts and is recorded as a fault (R248, R264). SQI_LOW is raised once (R249). (R244,
R245, R247, R248, R249, R264, R280) -/
def Obligations.LinkEvents : Prop :=
  ∀ s : State, Ready s →
    (∀ hiAdv hiReq master sqi mse, gen s = 3 → pstate s ≠ 3 → s.flag F.TPHY_STAT_LINK = false → s.flag F.TPHY_CFG_AN_EN = true →
      ∃ t, exec (.linkUp hiAdv hiReq master sqi mse) s = .next t ∧ t.flag F.TPHY_STAT_LINK = true ∧ t.flag F.TPHY_STAT_TRAINING = false
        ∧ t.flag F.TPHY_STAT_AMP_HI = (s.flag F.TPHY_CFG_HI_AMP_ADV && hiAdv && (s.flag F.TPHY_CFG_HI_AMP_REQ || hiReq)) ∧ t.flag F.TPHY_STAT_ROLE = master
        ∧ t.get F.TPHY_STAT_SQI = sqi % 8 ∧ t.get F.TPHY_MSE_MSE = mse % 65536 ∧ (t.rd 0x14 0x010).getLsbD E.TPHY_LINK_UP.2 = true
        ∧ t.link.dadFailed = [] ∧ (∃ fs, t.link.tx = s.link.tx ++ fs) ∧ t = { s with regs := t.regs, link := t.link, pub := { s.pub with interval := t.pub.interval, since := t.pub.since, t := t.pub.t } })
    ∧ (∀ hiAdv hiReq master sqi mse, gen s ≠ 3 ∨ s.flag F.TPHY_STAT_LINK = true → exec (.linkUp hiAdv hiReq master sqi mse) s = .next s)
    ∧ (∀ ns, linkUp s = true → RecordsOnly 0x31 s → ∃ t, exec (.linkDown ns) s = .next t ∧ linkUp t = false ∧ t.flag F.TPHY_STAT_TRAINING = true
      ∧ t.get F.TPHY_STAT_SQI = 0 ∧ t.link.tx = [] ∧ t.link.genQ = [] ∧ t.link.ptpQ = [] ∧ t.link.unres = [] ∧ t.link.nbrs = [] ∧ t.pub.sv = [] ∧ t.flag F.PTP_STAT_MEAS_OK = false
      ∧ (t.rd 0x14 0x010).getLsbD E.TPHY_LINK_DOWN.2 = true ∧ FaultRecorded s t)
    ∧ (∀ ns, linkUp s = false → exec (.linkDown ns) s = .next s)
    ∧ (linkUp s = true → s.get F.TPHY_STAT_SQI < s.get F.TPHY_CFG_SQI_MIN → s.link.sqiLow = false →
      exec .sqiLow s = .next ({ s with link.sqiLow := true }.raise E.TPHY_SQI_LOW))
    ∧ (s.link.sqiLow = true ∨ s.get F.TPHY_CFG_SQI_MIN ≤ s.get F.TPHY_STAT_SQI → exec .sqiLow s = .next s)

/-- A received frame is dropped by the first check that it fails, or it joins its queue: In the order of R250: FCS, length, destination, VLAN, publisher
types, EtherType; each drop counts in its own counter and nothing else changes. A PTP message of the right domain joins the PTP queue, and an ARP request the
receive queue with a token of the global bucket (R250, R253, R254). (R250, R252, R253, R254) -/
def Obligations.ReceiveFilters : Prop :=
  ∀ (s : State) (f : MacFrame), Ready s → linkUp s = true → pstate s = 0 → s.armedAt 0x15 1 = false →
    (f.fcsOk = false → exec (.macFrameRx f) s = .next (s.bump F.MAC_CNT_ERR_FCS))
    ∧ (f.fcsOk = true → f.len < 64 ∨ 1522 < f.len → exec (.macFrameRx f) s = .next (s.bump F.MAC_CNT_ERR_LEN))
    ∧ (f.fcsOk = true → 64 ≤ f.len → f.len ≤ 1522 →
      (dstPasses s f.dst = false → exec (.macFrameRx f) s = .next (s.bump F.MAC_CNT_DST_DST))
      ∧ (dstPasses s f.dst = true → vlanPasses s f.vlan = false → exec (.macFrameRx f) s = .next (s.bump F.MAC_CNT_DST_VLAN))
      ∧ (dstPasses s f.dst = true → vlanPasses s f.vlan = true → f.etherType = 0x88BA ∨ f.etherType = 0x88B8 →
        exec (.macFrameRx f) s = .next (s.bump F.MAC_CNT_TYPE_PUBLISH))
      ∧ (dstPasses s f.dst = true → vlanPasses s f.vlan = true → f.etherType ≠ 0x88BA → f.etherType ≠ 0x88B8 → typePasses s f.etherType = false →
        exec (.macFrameRx f) s = .next (s.bump F.MAC_CNT_TYPE_TYPE))
      ∧ (∀ m, dstPasses s f.dst = true → vlanPasses s f.vlan = true → f.etherType = 0x88F7 → (sourceRate f.src s).2 = true → s.link.ptpQ.length < 4 →
        f.payload = .ptp (s.get F.PTP_CFG_DOMAIN) m → m ≠ .endToEnd → m ≠ .other → ptpAddr f.dst m = true →
        ∃ t, exec (.macFrameRx f) s = .next t ∧ t.link.ptpQ = s.link.ptpQ ++ [f] ∧ t.link.genQ = s.link.genQ
          ∧ t.get F.MAC_CNT_OK_RX = min 65535 (s.get F.MAC_CNT_OK_RX + 1) ∧ t = { s with regs := t.regs, link.ptpQ := t.link.ptpQ, link.buckets := t.link.buckets })
      ∧ (∀ d m, dstPasses s f.dst = true → vlanPasses s f.vlan = true → f.etherType = 0x88F7 → f.payload = .ptp d m →
        d ≠ s.get F.PTP_CFG_DOMAIN ∨ m = .endToEnd ∨ m = .other ∨ ptpAddr f.dst m = false →
        ∃ t, exec (.macFrameRx f) s = .next t ∧ t.link.ptpQ = s.link.ptpQ ∧ t = { s with regs := t.regs, link.buckets := t.link.buckets, link.sinceDrop := t.link.sinceDrop })
      ∧ ∀ v ip, dstPasses s f.dst = true → vlanPasses s f.vlan = true → f.etherType = 0x0806 → typePasses s 0x0806 = true → (sourceRate f.src s).2 = true →
        28800 ≤ s.link.gtok → s.link.genQ.length < 16 → f.payload = .arpRequest v ip →
        ∃ t, exec (.macFrameRx f) s = .next t ∧ t.link.genQ = s.link.genQ ++ [f] ∧ t.link.gtok + 28800 = s.link.gtok ∧ t.link.ptpQ = s.link.ptpQ
          ∧ t = { s with regs := t.regs, link.genQ := t.link.genQ, link.gtok := t.link.gtok, link.buckets := t.link.buckets })

/-- PTP messages leave the queue and have the effect of their kind: A Sync of the selected master waits for its Follow_Up or is measured: the offset is t2
less ingress delay, t1, peer delay and asymmetry (R260, R263), own timestamps being multiples of 8 ns (rounded down: DEDUCED, log entry 165); only on PTP it
moves the time of day (R265). Announces rank the masters (R261), a request goes out every second, its answers average, and the neighbour's requests are
answered in two steps (R259, R262). (R259, R260, R261, R262, R263) -/
def Obligations.PtpMessages : Prop :=
  ∀ s : State, Ready s →
    (∀ m q t1 t2 ph fr, ptpHead s = some (.sync m q true t1 t2 ph fr) → syncCounts m s = true →
      ∃ t, exec .ptpSync s = .next t ∧ t.link = { s.link with ptpQ := s.link.ptpQ.tail, wait := some (m, q, t2, ph, fr, 0) }
        ∧ t.get F.PTP_CNT_RX_SYNC = min 65535 (s.get F.PTP_CNT_RX_SYNC + 1) ∧ t = { s with regs := t.regs, link := t.link })
    ∧ (∀ m q t1 t2 ph fr off, ptpHead s = some (.sync m q false t1 t2 ph fr) → syncCounts m s = true → s.armedAt 0x16 1 = false → s.get F.TICK_STAT_STATE ≠ 2 →
      s.flag F.TICK_CFG_PTP_EN = false → off = t2 / 8 * 8 - s.otp.phyRx - t1 - (s.get F.PTP_PDELAY_NS : Int) - s.getI F.PTP_ASYM_NS → -1000000 ≤ off → off ≤ 1000000 →
      ∃ t, exec .ptpSync s = .next t ∧ t.getI F.PTP_OFFSET_NS = off ∧ t.flag F.PTP_STAT_MEAS_OK = true ∧ t.link.up = true ∧ t.link.sinceMeas = 0
        ∧ (s.get F.TICK_STAT_SRC = 2 → t.link.todErr = off * 288) ∧ (s.get F.TICK_STAT_SRC ≠ 2 → t.link.todErr = s.link.todErr) ∧ t.link.tod = s.link.tod ∧ t.link.ptpQ = s.link.ptpQ.tail ∧ t = { s with regs := t.regs, link := t.link })
    ∧ (∀ m q t1 t2 ph fr age off, ptpHead s = some (.followUp m q t1) → s.link.wait = some (m, q, t2, ph, fr, age) → age ≤ 28800 → syncCounts m s = true →
      s.armedAt 0x16 1 = false → s.get F.TICK_STAT_STATE ≠ 2 → s.flag F.TICK_CFG_PTP_EN = false →
      off = t2 / 8 * 8 - s.otp.phyRx - t1 - (s.get F.PTP_PDELAY_NS : Int) - s.getI F.PTP_ASYM_NS → -1000000 ≤ off → off ≤ 1000000 →
      ∃ t, exec .ptpFollowUp s = .next t ∧ t.getI F.PTP_OFFSET_NS = off ∧ t.flag F.PTP_STAT_MEAS_OK = true ∧ t.link.up = true ∧ t.link.wait = none
        ∧ t.link.ptpQ = s.link.ptpQ.tail ∧ t = { s with regs := t.regs, link := t.link })
    ∧ (∀ m q t1, ptpHead s = some (.followUp m q t1) → s.link.wait = none → exec .ptpFollowUp s = .next { s with link.ptpQ := s.link.ptpQ.tail })
    ∧ (∀ a, ptpHead s = some (.announce a) → (∀ f, f ∈ s.link.foreign → f.ann.sender ≠ a.sender) → s.link.foreign.length < 4 →
      ∃ t, exec .ptpAnnounce s = .next t ∧ t.link.foreign = s.link.foreign ++ [{ ann := a, ages := [0] }]
        ∧ t.link.sel = (bestMaster t.link.foreign).map (·.ann.sender) ∧ t.link.ptpQ = s.link.ptpQ.tail
        ∧ t.get F.PTP_CNT_RX_ANNOUNCE = min 65535 (s.get F.PTP_CNT_RX_ANNOUNCE + 1) ∧ t = { s with regs := t.regs, link := t.link })
    ∧ (∀ f d t2 rest, s.link.ptpQ = f :: rest → f.payload = .ptp d (.pdelayReq t2) → 92 ≤ s.get F.MAC_TX_GAP → ∃ t, exec .pdelayReqRx s = .next t
      ∧ t.link = { s.link with
          ptpQ := rest
          tx := s.link.tx ++ [ptpTx (.pdelayResp f.dst (t2 / 8 * 8 - s.otp.phyRx)), ptpTx (.pdelayRespFollowUp f.dst none)] }
      ∧ t.get F.PTP_CNT_PD_ANSWERED = min 65535 (s.get F.PTP_CNT_PD_ANSWERED + 1) ∧ t = { s with regs := t.regs, link := t.link })
    ∧ (linkUp s = true → s.link.pdOut = false → 92 ≤ s.get F.MAC_TX_GAP → 28800 < s.link.pdSince + tickUnits s →
      exec .pdelayReqTx s = .next { s with link := { s.link with pdOut := true, pdSince := 0, tx := s.link.tx ++ [ptpTx (.pdelayReq 0x0180C200000E)] } })
    ∧ (linkUp s = false ∨ s.link.pdSince + tickUnits s ≤ 28800 → exec .pdelayReqTx s = .next s)
    ∧ (∀ t1 t4 turn d : Int, ptpHead s = some (.pdelayResp t1 t4 turn) → s.link.pdOut = true → d = (t4 / 8 * 8 - s.otp.phyRx - (t1 / 8 * 8 + s.otp.phyTx) - turn) / 2 →
      0 ≤ d → d ≤ (s.get F.PTP_PDMAX_NS : Int) → s.get F.PTP_CFG_PD_AVG = 1 →
      ∃ t, exec .pdelayResp s = .next t ∧ (t.get F.PTP_PDELAY_NS : Int) = d ∧ t.flag F.PTP_STAT_PD_VALID = true ∧ t.link.pdOut = false
        ∧ t.link.ptpQ = s.link.ptpQ.tail ∧ t = { s with regs := t.regs, link := t.link })

/-- PTP is lost without Announces or measurements, and the time of day is set and read: SYNC_LOSS intervals without a measurement lose PTP, with its count and
event (R264); a silent master leaves the list, and the best of the others is selected. PTP_TODSET waits for the second while the tick does not run on PTP
(R266); a read of PTP_TOD_S latches the nanoseconds (R289). (R259, R264, R266, R289) -/
def Obligations.PtpTimeouts : Prop :=
  ∀ s : State, Ready s →
    (s.link.up = true → s.get F.PTP_CFG_SYNC_LOSS * 28800 ≤ s.link.sinceMeas → ∃ t, exec .syncLossTimeout s = .next t ∧ t.link.up = false
      ∧ t.flag F.PTP_STAT_MEAS_OK = false ∧ t.get F.PTP_CNT_ERR_LOSS = min 255 (s.get F.PTP_CNT_ERR_LOSS + 1) ∧ (t.rd 0x16 0x010).getLsbD E.PTP_PTP_LOST.2 = true
      ∧ t.tick.ptpRefs = 0 ∧ t = { s with regs := t.regs, eff := t.eff, link := t.link, tick := t.tick, alm := t.alm })
    ∧ (s.link.up = false ∨ s.link.sinceMeas < s.get F.PTP_CFG_SYNC_LOSS * 28800 → exec .syncLossTimeout s = .next s)
    ∧ (∀ m f, s.link.sel = some m → s.link.foreign.find? (fun x => x.ann.sender == m) = some f → 3 * 28800 ≤ f.ages.headD 0 →
      ∃ t, exec .announceTimeout s = .next t ∧ t.link.foreign = (s.link.foreign.filter fun x => x.ann.sender != m)
        ∧ t.link.sel = (bestMaster t.link.foreign).map (·.ann.sender) ∧ (t.link.sel = none → t.link.up = false)
        ∧ t = { s with regs := t.regs, eff := t.eff, link := t.link, tick := t.tick, alm := t.alm })
    ∧ (s.link.sel = none → exec .announceTimeout s = .next s)
    ∧ (∀ path w, MayWrite path 0x16 0x050 w s → s.get F.TICK_STAT_SRC ≠ 2 → ∃ t, exec (.ptpTodsetWrite path w) s = .next t
      ∧ t.link = { s.link with todPend := some w.toNat } ∧ t.get F.PTP_TODSET_S = w.toNat ∧ t.page = (noteOwner path 0x16 s).page ∧ SameBut [regKey 0x16 0x050] s { t with link := s.link, page := s.page })
    ∧ (∀ path w, MayWrite path 0x16 0x050 w s → s.get F.TICK_STAT_SRC = 2 → exec (.ptpTodsetWrite path w) s = .next (noteOwner path 0x16 s))
    ∧ (∀ path ns, MayRead path 0x16 s → ∃ t, exec (.todRead path ns) s = .next t
      ∧ t.get F.PTP_TOD_S_S = min 0xFFFFFFFF ((s.link.tod + ns * 288) / 288000000000) ∧ t.get F.PTP_TOD_NS_NS = (s.link.tod + ns * 288) % 288000000000 / 288
      ∧ SameBut [regKey 0x16 0x068, regKey 0x16 0x06C] s t)

/-- A waiting frame starts when it fits, GOOSE repeats, and neighbours are answered: The first frame of the lowest kind goes on the line when that is free and
it ends before an SV window (R256, R257). A GOOSE repetition increments sqNum and doubles the interval up to T0 (R283). Requests for an own address leave the
queue with an answer queued, others without one; a reply goes to its peer on the link or to the gateway (R325); DAD_FAIL takes an address out of use (R326).
(R256, R257, R283, R325, R326) -/
def Obligations.FramesAndNeighbours : Prop :=
  ∀ s : State, Ready s →
    (∀ ns f, s.pub.sv = [] → nextFrame s = some f → linkUp s = true → s.pub.busy ≤ ns → (∀ d, svDeadline s = some d → ns + 800 * f.wire < d) →
      ∃ t t3, exec (.frameTxStart ns) s = .next t ∧ t3 = ((todAt ns s).1 * 1000000000 + (todAt ns s).2 : Int) / 8 * 8 + s.otp.phyTx ∧ t.pub.busy = ns + 800 * f.wire
        ∧ t.link = { s.link with
            sent := some f
            tx := match f.what with
              | .pdelayResp _ _ => (s.link.tx.erase f).map (stampFollowUp t3)
              | _ => s.link.tx.erase f }
        ∧ t.get F.MAC_CNT_OK_TX = min 65535 (s.get F.MAC_CNT_OK_TX + 1) ∧ t = { s with regs := t.regs, link := t.link, pub.busy := t.pub.busy })
    ∧ (∀ ns f d, s.pub.sv = [] → nextFrame s = some f → svDeadline s = some d → d ≤ ns + 800 * f.wire →
      ∃ t, exec (.frameTxStart ns) s = .next t ∧ t = { s with regs := t.regs })
    ∧ (∀ ns f, s.pub.sv = [] → nextFrame s = some f → ns < s.pub.busy → ∃ t, exec (.frameTxStart ns) s = .next t ∧ t = { s with regs := t.regs })
    ∧ (∀ m, gooseRuns s = true → s.pub.members = some m → gooseWire s.get ≤ s.get F.MAC_TX_GAP → s.pub.interval * 288 < 10 * (s.pub.since + tickUnits s) →
      ∃ t, exec .gooseRetransmit s = .next t ∧ t.get F.PUB_GSQ_SQ = (if s.get F.PUB_GSQ_SQ = 0xFFFFFFFF then 1 else s.get F.PUB_GSQ_SQ + 1)
        ∧ t.pub.interval = (if 2 * s.pub.interval ≤ s.get F.PUB_GTIME_T0_MS then 2 * s.pub.interval else s.get F.PUB_GTIME_T0_MS)
        ∧ (∃ f, f.kind = 2 ∧ t.link.tx = s.link.tx ++ [f]) ∧ t.pub.t = s.pub.t.take 7 ++ [timeQuality s]
        ∧ t = { s with regs := t.regs, link.tx := t.link.tx, pub := { s.pub with interval := t.pub.interval, since := 0, t := t.pub.t } })
    ∧ (gooseRuns s = false ∨ 10 * (s.pub.since + tickUnits s) ≤ s.pub.interval * 288 → exec .gooseRetransmit s = .next s)
    ∧ (∀ v ip, genPayload s = some (.neighbourSol v ip) → (ip6Own s).contains ip = true → wireBytes 72 ≤ s.get F.MAC_TX_GAP →
      exec .neighbourSolicitation s = .next { s with link := { s.link with genQ := s.link.genQ.tail, tx := s.link.tx ++ [plainTx 72 (.neighbourAdv ip)] } })
    ∧ (∀ v ip, genPayload s = some (.neighbourSol v ip) → (ip6Own s).contains ip = false →
      exec .neighbourSolicitation s = .next { s with link.genQ := s.link.genQ.tail })
    ∧ (∀ v ip, genPayload s = some (.arpRequest v ip) → ownIp s false ip = true → wireBytes 28 ≤ s.get F.MAC_TX_GAP →
      exec .arpRequest s = .next { s with link := { s.link with genQ := s.link.genQ.tail, tx := s.link.tx ++ [plainTx 28 (.arpReply ip)] } })
    ∧ (∀ v ip, genPayload s = some (.arpRequest v ip) → ownIp s false ip = false → exec .arpRequest s = .next { s with link.genQ := s.link.genQ.tail })
    ∧ (∀ v6 src dst d f, genPayload s = some (.echo v6 src dst d) → ownIp s v6 dst = true → f.wire ≤ s.get F.MAC_TX_GAP →
      f = { plainTx ((if v6 then 48 else 28) + d.length) (.echoReply src d) with hop := some ⟨v6, if onLink s v6 src then src else gatewayOf s v6, 64⟩ } →
      (resolved s (hopTo s v6 src) = true → exec .echoRequest s = .next { s with link := { s.link with genQ := s.link.genQ.tail, tx := s.link.tx ++ [f] } })
      ∧ (resolved s (hopTo s v6 src) = false → ∃ t, exec .echoRequest s = .next t ∧ t.link.unres = s.link.unres ++ [f] ∧ t.link.genQ = s.link.genQ.tail
        ∧ t = { s with link := { s.link with genQ := t.link.genQ, tx := t.link.tx, unres := t.link.unres } }))
    ∧ (∀ v6 src dst d, genPayload s = some (.echo v6 src dst d) → ownIp s v6 dst = false → exec .echoRequest s = .next { s with link.genQ := s.link.genQ.tail })
    ∧ (∀ n, linkUp s = true → s.flag F.MAC_FILT_IPV6_EN = true → n < 2 → s.link.dadFailed.contains n = false →
      exec (.dadFail n) s = .next ({ s with link.dadFailed := n :: s.link.dadFailed }.raise E.ACC_DAD_FAIL))
    ∧ (∀ n, 2 ≤ n → exec (.dadFail n) s = .next s)

/-- YRAP requests read, write and commit, and NOTIFY is sent: While the link processor may make its accesses (R333; DEDUCED, log entry 123), a READ of one
register is answered at once with DONE 1, OK and its word, on the request's VLAN. In a session whose CTR and MAC hold, a WRITE stores its word and a COMMIT
requests its page, and the reply waits for the boundary (R328, R329, R337); a WRITE without a session is answered with STATUS 6 (R330). A NOTIFY shows
SPI_EVSUM0 to 3 and TRAP with its own CTR, for something new at most every NOTIFY_MS, for the same condition every second (R332). (R327, R328, R329, R330,
R331, R332, R337, R338) -/
def Obligations.YrapRequests : Prop :=
  ∀ (s : State) (m : YrapReq), Ready s → yrapHead s = some m → m.fits = true → m.status = 0 →
    (∀ ns, linkMay s = false → exec (.yrapRead ns) s = .next s ∧ exec .yrapWrite s = .next s ∧ exec .yrapCommit s = .next s)
    ∧ (∀ p off ns, linkMay s = true → resolved s (hopTo s m.v6 m.ip) = true → m.op = 1 → m.sid = 0 → m.ctr = 0 → m.len = 8 → m.body = natBytes 4 (0x40000000 + p * 0x400 + off) ++ [1, 0, 0, 0] →
      s.flag F.ACC_CFG_ANON_READ = true → sessionOf s 0 = none → PlainRead p off s → yrapWire m.vlan m.v6 8 false ≤ s.get F.MAC_TX_GAP →
      ∃ t, exec (.yrapRead ns) s = .next t ∧ t.link.genQ = s.link.genQ.tail
        ∧ t.link.tx = s.link.tx ++ [⟨3, yrapWire m.vlan m.v6 8 false, .yrap m.port m.ip ([0x59, 0x52, 0x01, 0x01, 0, 0, 0, 8] ++ natBytes 4 m.tag ++ [0, 0, 0, 0]
            ++ [1, 0, 0, 0] ++ bytesOfWord (normalWord (linkUse 1 (genPop s)) p off)), m.vlan, some (hopTo s m.v6 m.ip)⟩]
        ∧ t = { s with regs := t.regs, link.genQ := t.link.genQ, link.tx := t.link.tx, free := t.free, plan := (linkUse 1 s).plan })
    ∧ (∀ slot x p off e w, linkMay s = true → m.op = 2 → m.sid ≠ 0 → m.len = 12 → m.body = natBytes 4 (0x40000000 + p * 0x400 + off) ++ [1, 0, 0, 0] ++ bytesOfWord w →
      SessionAccepts 4 m.port (ipBytes m.v6 m.ip) m.sid m.ctr (0x00 :: m.front) m.mac slot x s → PlainWrite (.yrap m.sid) p off e w s →
      ∃ t, exec .yrapWrite s = .next t ∧ t.rd p off = mergeMask (s.rd p off) w (e.rws ||| e.rw) &&& ~~~ (w &&& BitVec.ofNat 32 e.w1c) ∧ t.rdE p off = s.rdE p off
        ∧ (aget t.acc.sessions slot).map (·.lastCtr) = some m.ctr ∧ t.link = { s.link with genQ := s.link.genQ.tail }
        ∧ t.acc.late = s.acc.late ++ [{ path := .yrap m.sid, dest := .yrap m.vlan m.v6 m.ip m.port m.tag, op := 2, sid := m.sid, ctr := m.ctr, sk := x.sk,
                                        words := [wordOut (0x40000000 + p * 0x400 + off) 0] }]
        ∧ t = { s with regs := t.regs, eff := t.eff, page := t.page, acc := t.acc, link := t.link, gov.window := t.gov.window, plan := (linkUse 1 s).plan })
    ∧ (linkMay s = true → resolved s (hopTo s m.v6 m.ip) = true → m.op = 2 → m.sid = 0 → m.ctr = 0 → m.len = 12 → (m.body.getD 4 0).toNat = 1 → ((m.body.drop 5).take 3).any (· != 0) = false →
      yrapWire m.vlan m.v6 0 false ≤ s.get F.MAC_TX_GAP → replyKey s 0 = none →
      ∃ t, exec .yrapWrite s = .next t ∧ t.link = { s.link with
          genQ := s.link.genQ.tail
          tx := s.link.tx ++ [⟨3, yrapWire m.vlan m.v6 0 false, .yrap m.port m.ip ([0x59, 0x52, 0x01, 0x02, 0, 6, 0, 0] ++ natBytes 4 m.tag ++ [0, 0, 0, 0]), m.vlan,
                                some (hopTo s m.v6 m.ip)⟩] }
        ∧ t = { s with regs := t.regs, link := t.link })
    ∧ (∀ slot x page, linkMay s = true → m.op = 3 → m.sid ≠ 0 → m.len = 2 → m.body = [1, BitVec.ofNat 8 page] → page < 0x80 → (pageEnt page).isSome = true → page ≠ 0x11 →
      SessionAccepts 4 m.port (ipBytes m.v6 m.ip) m.sid m.ctr (0x00 :: m.front) m.mac slot x s → MayWrite (.yrap m.sid) page 0x020 1 s →
      ∃ t, exec .yrapCommit s = .next t ∧ page ∈ t.page.commitPend ∧ (aget t.acc.sessions slot).map (·.lastCtr) = some m.ctr
        ∧ t.link = { s.link with genQ := s.link.genQ.tail } ∧ t.acc.late.length = s.acc.late.length + 1
        ∧ t.plan = (linkUse 1 s).plan ∧ SameBut [] s { t with page := s.page, acc := s.acc, link := s.link, plan := s.plan })
    ∧ (∀ u b, resolved u (hopTo u m.v6 m.ip) = true → m.op = 4 → m.sid = 0 → m.ctr = 0 → sessionMsg 4 m.port (ipBytes m.v6 m.ip) m.body (genPop s) = (u, some b) →
      yrapWire m.vlan m.v6 b.length false ≤ s.get F.MAC_TX_GAP →
      ∃ t, exec .yrapSession s = .next t
        ∧ t.link.tx = u.link.tx ++ [⟨3, yrapWire m.vlan m.v6 b.length false, .yrap m.port m.ip ([0x59, 0x52, 0x01, 0x04, 0, 0] ++ natBytes 2 b.length
            ++ natBytes 4 m.tag ++ [0, 0, 0, 0] ++ b), m.vlan, some (hopTo u m.v6 m.ip)⟩]
        ∧ t = { u with regs := t.regs, link.tx := t.link.tx })
    ∧ (∀ slot x ctr gap, notifySession s = some (slot, x) → linkUp s = true → ctr = satTo 0xFFFFFFFF (x.notifyCtr + 1) → gap = s.acc.notifyGap + tickUnits s →
      (anyEvent s = true ∨ anyTrap s = true) → s.get F.ACC_SESS_NOTIFY_MS * 288 ≤ 10 * gap →
      (28800 ≤ gap ∨ ∃ y, y ∈ (notifyWords s).zip (s.acc.notified ++ List.replicate 5 0) ∧ y.1 &&& ~~~ y.2 ≠ 0) →
      ∃ t, exec .yrapNotify s = .next t ∧ aget t.acc.sessions slot = some { x with notifyCtr := ctr } ∧ t.acc.notifyGap = 0 ∧ t.acc.notified = notifyWords s
        ∧ (resolved s (hopTo s (x.peer.length == 16) (bytesNat x.peer)) = true → yrapWire none (x.peer.length == 16) 20 true ≤ s.get F.MAC_TX_GAP →
          ∃ (tag : List Byte) (bs : List Byte), tag.length = 4
            ∧ bs = [0x59, 0x52, 0x01, 0x05, BitVec.ofNat 8 x.sid, 0, 0, 20] ++ tag ++ natBytes 4 ctr ++ wordsBytes (notifyWords s)
            ∧ t.link.tx = s.link.tx ++ [⟨3, yrapWire none (x.peer.length == 16) 20 true, .yrap x.port (bytesNat x.peer) (bs ++ hmac16 x.sk (0x02 :: bs)), none,
                some (hopTo s (x.peer.length == 16) (bytesNat x.peer))⟩])
        ∧ t = { s with
            link := { s.link with tx := t.link.tx, unres := t.link.unres }
            acc := { s.acc with sessions := t.acc.sessions, notifyGap := 0, notified := t.acc.notified }
            free := s.free + 1 })
    ∧ (10 * (s.acc.notifyGap + tickUnits s) < s.get F.ACC_SESS_NOTIFY_MS * 288 → exec .yrapNotify s = .next s)
    ∧ (notifySession s = none → exec .yrapNotify s = .next s)

/-- HELLO, PROVE and CLOSE open a handshake, a session, and end it, or are refused with their reason: HELLO takes a free slot with a key that is programmed
and not revoked; PROVE with the right MAC opens the session; CLOSE with the right MAC and CTR ends it (R334 to R337, R340). Refusals name no slot (1), the key
(2), a hold (3), a wrong MAC (4, counted as a failure, R341) or no such session (5). (R334, R335, R336, R337, R338, R341) -/
def Obligations.SessionMessages : Prop :=
  ∀ (s : State) (kind port : Nat) (peer : List Byte),
    (∀ key nh slot k, freeSlot s = some slot → s.otp.keys[key]? = some k → k.programmed = true → k.revoked = false → underHold s kind = false →
      ∃ x, (hello kind port peer key nh s).2 = [0x02, BitVec.ofNat 8 x.sid, BitVec.ofNat 8 k.role] ++ x.nonceD
        ∧ aget (hello kind port peer key nh s).1.acc.sessions slot = some x ∧ x.pending = true ∧ x.role = k.role ∧ x.key = key ∧ x.nonceH = nh
        ∧ x.nonceD.length = 16 ∧ x.sk = sessionKey s k.key nh x.nonceD x.sid ∧ boundTo x kind port peer = true ∧ x.idle = 10 * 28800
        ∧ ∃ a f, (hello kind port peer key nh s).1 = { s with acc := { s.acc with sessions := a, nextSid := (hello kind port peer key nh s).1.acc.nextSid }, free := f })
    ∧ (∀ key nh, freeSlot s = none → hello kind port peer key nh s = (s, [0x07, 0x01]))
    ∧ (∀ key nh slot k, freeSlot s = some slot → s.otp.keys[key]? = some k → k.programmed = false ∨ k.revoked = true →
      hello kind port peer key nh s = (s, [0x07, 0x02]))
    ∧ (∀ sid slot x, sessionOf s sid = some (slot, x) → underHold s kind = false → x.pending = true → boundTo x kind port peer = true →
      (∃ t, prove kind port peer sid (hmac16 x.sk ([0x03] ++ x.nonceD ++ idBytes s)) s
          = (t, [0x04, BitVec.ofNat 8 sid] ++ hmac16 x.sk ([0x04] ++ x.nonceH ++ idBytes s))
        ∧ aget t.acc.sessions slot = some { x with pending := false, idle := s.get F.ACC_SESS_SESS_IDLE_S * 28800 }
        ∧ t.get F.ACC_CNT_AUTH_OPENED = satTo (2 ^ (F.ACC_CNT_AUTH_OPENED.hi + 1 - F.ACC_CNT_AUTH_OPENED.lo) - 1) (s.get F.ACC_CNT_AUTH_OPENED + 1)
        ∧ t = { s with regs := t.regs, acc := { s.acc with sessions := t.acc.sessions, fails := adel s.acc.fails kind } })
      ∧ ∀ mac, mac ≠ hmac16 x.sk ([0x03] ++ x.nonceD ++ idBytes s) → ∃ t, prove kind port peer sid mac s = (t, [0x07, 0x04]) ∧ t.acc.sessions = s.acc.sessions
        ∧ aget t.acc.fails kind = some (satTo 255 ((aget s.acc.fails kind).getD 0 + 1))
        ∧ (max 1 (s.get F.ACC_CFG_AUTH_FAIL_MAX) ≤ (aget s.acc.fails kind).getD 0 + 1 → underHold t kind = true))
    ∧ (∀ sid ctr slot x, sessionOf s sid = some (slot, x) → underHold s kind = false → x.pending = false → boundTo x kind port peer = true →
      x.lastCtr < ctr → ∃ t, closeSession kind port peer sid ctr (hmac16 x.sk ([0x05, BitVec.ofNat 8 sid] ++ natBytes 4 ctr)) s = (t, [0x06, BitVec.ofNat 8 sid])
        ∧ t.acc.sessions = adel s.acc.sessions slot)
    ∧ ∀ sid mac ctr, sessionOf s sid = none → underHold s kind = false →
      prove kind port peer sid mac s = (s, [0x07, 0x05]) ∧ closeSession kind port peer sid ctr mac s = (s, [0x07, 0x05])

/-- Session messages are handled over FSK and YRAP; handshakes, sessions and holds end in their time: HELLO, PROVE and CLOSE in turn are answered with the
message of R335 over the path they came on. A handshake ends after its 10 s, a session after its idle time with SESSION_END (R335, R340); AUTH_FAIL_MAX
failures in succession put the path under hold for 60 s (R341). (R328, R335, R340, R341) -/
def Obligations.SessionRows : Prop :=
  ∀ s : State, Ready s →
    (∀ x ∈ [(1, Instr.hello), (3, Instr.prove), (5, Instr.close)],
      (∀ r b u, Requested r 203 s → sessionType r.data = x.1 → sessionMsg (masterKind r) 0 [] r.data { s with fsk.lp := [] } = (u, some b) →
        exec (x.2 true) s = .next { u with fsk.ready := u.fsk.ready ++ [replyFrame r 0 b u] })
      ∧ (∀ m b u, yrapHead s = some m → m.fits = true → m.status = 0 → m.op = 4 → m.sid = 0 → m.ctr = 0 → sessionType m.body = x.1 →
        sessionMsg 4 m.port (ipBytes m.v6 m.ip) m.body (genPop s) = (u, some b) →
        ∃ t, exec (x.2 false) s = .next t ∧ t = { u with regs := t.regs, link := { u.link with tx := t.link.tx, unres := t.link.unres } }
          ∧ t.get F.ACC_CNT_YRAP_REPLIES = satTo (2 ^ (F.ACC_CNT_YRAP_REPLIES.hi + 1 - F.ACC_CNT_YRAP_REPLIES.lo) - 1) (u.get F.ACC_CNT_YRAP_REPLIES + 1))
      ∧ (yrapHead s = none → exec (x.2 false) s = .next s) ∧ (s.fsk.lp = [] → exec (x.2 true) s = .next s))
    ∧ (∀ sid slot x, sessionOf s sid = some (slot, x) → aget s.acc.sessions slot = some x →
      (x.pending = true → x.idle = 0 → exec (.challengeTimeout sid) s = .next { s with acc.sessions := adel s.acc.sessions slot })
      ∧ (x.idle ≠ 0 → exec (.challengeTimeout sid) s = .next s ∧ exec (.sessionIdleTimeout sid) s = .next s)
      ∧ (x.pending = false → x.idle = 0 → ∃ t, exec (.sessionIdleTimeout sid) s = .next t ∧ t.acc = { s.acc with sessions := adel s.acc.sessions slot }
        ∧ (t.rd 0x18 0x010).getLsbD E.ACC_SESSION_END.2 = true ∧ t = { s with regs := t.regs, acc := t.acc, page.leases := t.page.leases }))
    ∧ (∀ kind, max 1 (s.get F.ACC_CFG_AUTH_FAIL_MAX) ≤ (aget s.acc.fails kind).getD 0 → aget s.acc.holds kind = none →
      ∃ t, exec (.authHold kind) s = .next t ∧ underHold t kind = true ∧ aget t.acc.holds kind = some (60 * 28800) ∧ (t.rd 0x18 0x010).getLsbD E.ACC_AUTH_HOLD.2 = true
        ∧ t = { s with regs := t.regs, acc := { s.acc with fails := adel s.acc.fails kind, holds := t.acc.holds } })
    ∧ (∀ kind, (aget s.acc.fails kind).getD 0 < max 1 (s.get F.ACC_CFG_AUTH_FAIL_MAX) → exec (.authHold kind) s = .next s)
    ∧ (∀ kind, aget s.acc.holds kind = some 0 → exec (.authHoldExpiry kind) s = .next { s with acc.holds := adel s.acc.holds kind })
    ∧ (∀ kind, aget s.acc.holds kind ≠ some 0 → exec (.authHoldExpiry kind) s = .next s)

/-- ACC_KEYDATA fills its buffer, and the key commands program, revoke and clear: A word joins the buffer of at most 16. PROG_K with eight words programs an
empty slot with its role, PROG_MK with sixteen; both empty the buffer. REVOKE sets the slot's bit for good, and REVOKE_K ends its sessions (R340, R342, R345).
(R340, R342, R345, R346) -/
def Obligations.KeyStorage : Prop :=
  ∀ (s : State) (path : Path), Ready s →
    (∀ w, MayWrite path 0x18 0x098 w s → s.acc.keyBuf.length < 16 → exec (.accKeydataWrite path w) s = .next { noteOwner path 0x18 s with acc.keyBuf := s.acc.keyBuf ++ [w] })
    ∧ (∀ w, MayWrite path 0x18 0x098 w s → 16 ≤ s.acc.keyBuf.length → exec (.accKeydataWrite path w) s = .next (noteOwner path 0x18 s))
    ∧ (∀ slot role k, slot < 8 → role < 4 → MayWrite path 0x18 0x09C (opWord 1 (role * 16 + slot)) s → s.otp.keys[slot]? = some k → k.programmed = false →
      s.acc.keyBuf.length = 8 → ∃ t, exec (.progK path slot role) s = .next t
        ∧ t.otp = { s.otp with keys := s.otp.keys.set slot { k with programmed := true, role := role, key := wordsBytes s.acc.keyBuf } }
        ∧ t.acc = { s.acc with keyBuf := [] } ∧ t.get F.ACC_KEYSTAT_LAST_ERR = 0 ∧ (t.rd 0x18 0x010).getLsbD E.ACC_KEY_CHANGE.2 = true
        ∧ t = { s with regs := t.regs, otp := t.otp, acc := t.acc, page := (noteOwner path 0x18 s).page })
    ∧ (∀ slot role k, slot < 8 → role < 4 → MayWrite path 0x18 0x09C (opWord 1 (role * 16 + slot)) s → s.otp.keys[slot]? = some k → k.programmed = true →
      ∃ t, exec (.progK path slot role) s = .next t ∧ t.get F.ACC_KEYSTAT_LAST_ERR = 1 ∧ t = { s with regs := t.regs, acc.keyBuf := [], page := (noteOwner path 0x18 s).page })
    ∧ (∀ slot k, slot < 2 → MayWrite path 0x18 0x09C (opWord 2 slot) s → s.otp.mkeys[slot]? = some k → k.programmed = false → s.acc.keyBuf.length = 16 →
      ∃ t, exec (.progMk path slot) s = .next t
        ∧ t.otp = { s.otp with mkeys := s.otp.mkeys.set slot { k with programmed := true, key := wordsBytes s.acc.keyBuf } }
        ∧ t.acc = { s.acc with keyBuf := [] } ∧ t.get F.ACC_KEYSTAT_LAST_ERR = 0 ∧ t = { s with regs := t.regs, otp := t.otp, acc := t.acc, page := (noteOwner path 0x18 s).page })
    ∧ (∀ slot k, slot < 8 → MayWrite path 0x18 0x09C (opWord 3 slot) s → s.otp.keys[slot]? = some k → k.programmed = true →
      (∀ e, e ∈ s.acc.sessions → e.2.key ≠ slot) →
      ∃ t, exec (.revokeK path slot) s = .next t ∧ t.otp = { s.otp with keys := s.otp.keys.set slot { k with revoked := true } }
        ∧ t.get F.ACC_KEYSTAT_LAST_ERR = 0 ∧ t = { s with regs := t.regs, otp := t.otp, page := (noteOwner path 0x18 s).page })
    ∧ (∀ slot x, slot < 8 → MayWrite path 0x18 0x09C (opWord 3 slot) s → (∃ k, s.otp.keys[slot]? = some k ∧ k.programmed = true) →
      s.acc.sessions = [(0, x)] → x.key = slot → ∃ t, exec (.revokeK path slot) s = .next t ∧ t.acc.sessions = [])
    ∧ (∀ slot k, slot < 2 → MayWrite path 0x18 0x09C (opWord 4 slot) s → s.otp.mkeys[slot]? = some k → k.programmed = true →
      ∃ t, exec (.revokeMk path slot) s = .next t ∧ t.otp = { s.otp with mkeys := s.otp.mkeys.set slot { k with revoked := true } }
        ∧ t.get F.ACC_KEYSTAT_LAST_ERR = 0 ∧ t = { s with regs := t.regs, otp := t.otp, page := (noteOwner path 0x18 s).page })
    ∧ (∀ slot k, slot < 2 → MayWrite path 0x18 0x09C (opWord 4 slot) s → s.otp.mkeys[slot]? = some k → k.programmed = false →
      ∃ t, exec (.revokeMk path slot) s = .next t ∧ t.get F.ACC_KEYSTAT_LAST_ERR = 3 ∧ t = { s with regs := t.regs, page := (noteOwner path 0x18 s).page })
    ∧ (MayWrite path 0x18 0x09C (opWord 5 0) s → ∃ t, exec (.clear path) s = .next t ∧ t.acc.keyBuf = [] ∧ t.get F.ACC_KEYSTAT_LAST_ERR = 0
      ∧ t = { s with regs := t.regs, acc.keyBuf := [], page := (noteOwner path 0x18 s).page })

/-- SPI frames read, write, ask for the status, or are rejected and counted: A frame of 80 cycles with its CRC right executes READ, WRITE or STATUS as CMD
says, and the next frame reports its outcome, address and data (R318 to R320); one with a wrong length, CRC or CMD, or that comes too early, executes nothing,
counts and raises its event (R319, R321, R322). (R317, R318, R319, R320, R321, R322, R323) -/
def Obligations.SpiFrames : Prop :=
  ∀ (s : State) (f : SpiFrame) (ns : Nat), Ready s → spiOn s = true → s.armedAt 0x19 1 = false →
    (∀ a p off, spiKind f = .read a → a = regAddr p off → PlainRead p off s → ∃ t, exec (.spiRead f ns) s = .next t ∧ t.spi.outcome = 0 ∧ t.spi.paddr = a
      ∧ t.spi.pdata = normalWord ({ s with spi.sdo := t.spi.sdo }.bump F.SPI_CNT_EXEC) p off
      ∧ SameBut [regKey 0x19 0x044, regKey 0x19 0x048] s { t with spi := s.spi } ∧ t.get F.SPI_STAT_OUTCOME = 0)
    ∧ (∀ a, spiKind f = .read a → a.toNat % 4 ≠ 0 → ∃ t, exec (.spiRead f ns) s = .next t ∧ t.spi.outcome = 1 ∧ t.spi.paddr = a ∧ t.spi.pdata = 0
      ∧ t = { s with regs := t.regs, spi := t.spi })
    ∧ (∀ a w p off e, spiKind f = .write a w → a = regAddr p off → PlainWrite .spi p off e w s → p ≠ 0x19 →
      ∃ t, exec (.spiWrite f ns) s = .next t ∧ t.rd p off = mergeMask (s.rd p off) w (e.rws ||| e.rw) &&& ~~~ (w &&& BitVec.ofNat 32 e.w1c)
        ∧ t.rdE p off = s.rdE p off ∧ t.spi.outcome = 0 ∧ t.spi.paddr = a ∧ t.spi.pdata = w
        ∧ t = { s with regs := t.regs, eff := t.eff, page := t.page, spi := t.spi, gov.window := t.gov.window })
    ∧ (∀ a w, spiKind f = .write a w → a.toNat % 4 ≠ 0 → ∃ t, exec (.spiWrite f ns) s = .next t ∧ t.spi.outcome = 1 ∧ t = { s with regs := t.regs, spi := t.spi })
    ∧ (∀ a, spiKind f = .status a → ∃ t, exec (.spiStatus f) s = .next t ∧ t.spi.outcome = 0 ∧ t.spi.paddr = a ∧ t.spi.pdata = 0
      ∧ t.spi.sdo = (let bs := BitVec.ofNat 8 (s.spi.outcome + 32 * b2n (anyEvent s) + 64 * b2n (anyTrap s)) :: (bytesOfWord s.spi.paddr ++ bytesOfWord s.spi.pdata);
          bs ++ [crc8 bs])
      ∧ t = { s with regs := t.regs, spi := t.spi })
    ∧ (f.early = false → f.cycles ≠ 80 → ∃ t, exec (.spiFrameReject f) s = .next t ∧ t.spi.outcome = 0x10 ∧ (t.rd 0x19 0x010).getLsbD E.SPI_FRAME_ERR.2 = true
      ∧ t = { s with regs := t.regs, spi := t.spi })
    ∧ (spiKind f = .crc → ∃ t, exec (.spiFrameReject f) s = .next t ∧ t.spi.outcome = 0x0E ∧ (t.rd 0x19 0x010).getLsbD E.SPI_CRC_ERR.2 = true
      ∧ t = { s with regs := t.regs, spi := t.spi })
    ∧ (spiKind f = .badCmd → ∃ t, exec (.spiFrameReject f) s = .next t ∧ t.spi.outcome = 0x0F ∧ (t.rd 0x19 0x010).getLsbD E.SPI_BAD_CMD.2 = true
      ∧ t = { s with regs := t.regs, spi := t.spi })

/-- Excitation pulses and conversions of a lane start and end, and urgent requests and calibrations are taken: A pulse starts at its lane's offset after its
boundary where no other lane holds what it needs and waits otherwise (R355, R357); an urgent conversion stays in its place. A conversion starts SETTLE_US
after that (R383) and ends when its samples are over (R382; within the tick: DESIGN CHOICE, log entry 5); its code is the rounded mean of the clamped samples
(R352, R353; their rounding is DESIGN CHOICE, log entry 171's), corrected by the lane's offset and gain (R386), kept for the boundary of R11 or, for an urgent
one, shown in LANES_URG_RES (R392). Calibration: R396. Compliance: R359. (R352, R353, R355, R357, R359, R382, R383, R386, R392, R393, R396, R398) -/
def Obligations.LaneConversions : Prop :=
  ∀ (s : State) (n : Nat), Ready s → n < 6 →
    (∀ c, convOf s n = some c → anaOn s = true → pulsed c = true → c.pulseOn = false → c.running = false → c.waits = false → s.armedAt 0x21 1 = false →
      10000 * c.age ≤ 288 * c.ofs → 288 * c.ofs < 10000 * (c.age + tickUnits s) →
      (blocker s n c = none → ∃ t, exec (.excitationPulseStart n) s = .next t ∧ convOf t n = some { c with pulseOn := true }
        ∧ (∀ m, m < 6 → m ≠ n → laneOf t m = laneOf s m) ∧ t = { s with regs := t.regs, ana := t.ana })
      ∧ ∀ m b, blocker s n c = some (m, b) → ∃ t, exec (.excitationPulseStart n) s = .next t
        ∧ convOf t n = (if c.kind = .urgent ∨ c.kind = .urgentLead then some { c with waits := true } else none)
        ∧ t.get F.EXC_CNT_WAIT = satTo (2 ^ (F.EXC_CNT_WAIT.hi + 1 - F.EXC_CNT_WAIT.lo) - 1) (s.get F.EXC_CNT_WAIT + 1) ∧ t = { s with regs := t.regs, ana := t.ana })
    ∧ (∀ c, convOf s n = some c → pulseDue s c = false → exec (.excitationPulseStart n) s = .next s)
    ∧ (∀ c, convOf s n = some c → startDue s c = false → exec (.conversionStart false n) s = .next s)
    ∧ (∀ c, convOf s n = some c → anaOn s = true → c.running = false → c.waits = false → (pulsed c = true → c.pulseOn = true) →
      10000 * c.age ≤ 288 * (c.ofs + c.v.settle) → 288 * (c.ofs + c.v.settle) < 10000 * (c.age + tickUnits s) →
      ∃ t d, exec (.conversionStart false n) s = .next t ∧ convOf t n = some d ∧ d.running = true ∧ d.kind = c.kind ∧ d.setup = c.setup ∧ d.v = c.v
        ∧ t.flag (F.LANE_STAT_CONVERTING n) = true ∧ (∀ e, c.kind = .main e → t.get (F.LANE_STAT_ENTRY n) = e % 16) ∧ t = { s with regs := t.regs, ana := t.ana })
    ∧ (convOf s n = none → exec (.excitationPulseStart n) s = .next s ∧ exec (.conversionStart false n) s = .next s
      ∧ ∀ xs ys ext, exec (.conversionEnd false n xs ⟨ys, ext⟩) s = .next s)
    ∧ (∀ c xs ys ext, convOf s n = some c → 10000 * (c.age + tickUnits s) ≤ 288 * (c.ofs + c.v.settle) + 3600 * 2 ^ c.avg →
      exec (.conversionEnd false n xs ⟨ys, ext⟩) s = .next s)
    ∧ (∀ g (vref : Nat) v, 0 < vref → filterSample g vref v = clampInt (-8388608) 8388607 (halfUp (v * 2 ^ g * 2 ^ 23) vref))
    ∧ (∀ c e xs ys ext, convOf s n = some c → c.running = true → c.kind = .main e → c.byLs = false → c.v.lead = 0 → xs.length = 2 ^ c.avg → lsFor s n = false →
      s.armedAt (0x22 + n) 1 = false → 288 * (c.ofs + c.v.settle) + 3600 * 2 ^ c.avg < 10000 * (c.age + tickUnits s) →
      ∃ t w, exec (.conversionEnd false n xs ⟨ys, ext⟩) s = .next t ∧ convOf t n = none ∧ t.flag (F.LANE_STAT_CONVERTING n) = false
        ∧ (laneOf t n).out = (laneOf s n).out ++ [(e, w, c.setup)]
        ∧ signed 24 (getBits w 31 8) = clampInt (-8388608) 8388607 (dCal (dRaw (xs.map (filterSample c.v.gain (if c.v.refsel then ext else 1250000000000))) c.avg) (laneOfs s n c.v.gain) (laneGain s n c.v.gain))
        ∧ t = { s with regs := t.regs, ana := t.ana })
    ∧ (∀ c xs ys ext, convOf s n = some c → c.running = true → c.kind = .urgent → c.byLs = false → c.v.lead = 0 → xs.length = 2 ^ c.avg →
      s.armedAt (0x22 + n) 1 = false → 288 * (c.ofs + c.v.settle) + 3600 * 2 ^ c.avg < 10000 * (c.age + tickUnits s) →
      ∃ t, exec (.conversionEnd false n xs ⟨ys, ext⟩) s = .next t ∧ convOf t n = none ∧ t.flag F.LANES_URG_STAT_DONE = true
        ∧ (t.rd 0x28 0x010).getLsbD E.LANES_URG_DONE.2 = true
        ∧ signed 24 (getBits (t.rd 0x28 0x050) 31 8) = clampInt (-8388608) 8388607 (dCal (dRaw (xs.map (filterSample c.v.gain (if c.v.refsel then ext else 1250000000000))) c.avg) (laneOfs s n c.v.gain) (laneGain s n c.v.gain))
        ∧ t = { s with regs := t.regs, ana := t.ana })
    ∧ (∀ r, calOf s n = some r → r.armed = 2 → anaOn s = true → ∃ t, exec (.conversionStart true n) s = .next t ∧ calOf t n = some { r with armed := 3 }
      ∧ t = { s with regs := t.regs, ana := t.ana })
    ∧ (∀ r g x rest xs ys ext, calOf s n = some r → r.armed = 3 → r.todo = (g, false) :: x :: rest → xs.length = 256 →
      288 * ofsUs s n + 3600 * 256 < 10000 * (r.age + tickUnits s) → ∃ t, exec (.conversionEnd true n xs ⟨ys, ext⟩) s = .next t ∧ calOf t n = some { r with ofs := aset r.ofs g (dRaw (xs.map (filterSample g 1250000000000)) 8), todo := x :: rest, armed := 0 }
        ∧ t = { s with regs := t.regs, ana := t.ana })
    ∧ (∀ c k, convOf s n = some c → c.pulseOn = true → srcUsed c = some k → k < 4 → c.compl = false → (∀ m d, m < n → convOf s m = some d → srcUsed d ≠ some k) →
      s.ana.complPrev.contains k = false → RecordsOnly 0x41 s → ∃ t, exec (.excCompliance k) s = .next t ∧ bitOf (t.get F.EXC_STAT_COMPL) k = true
        ∧ convOf t n = some { c with compl := true } ∧ FaultRecorded s t)
    ∧ (∀ path setup, setup < 48 → MayWrite path 0x28 0x04C (urgentWord n setup) s → s.ana.urg = none →
      ∃ t, exec (.urgentRequest path n setup) s = .next t ∧ t.ana.urg = some (n, setup) ∧ t.flag F.LANES_URG_STAT_DONE = false ∧ t.get F.LANES_URG_STAT_LANE = n
        ∧ t = { s with regs := t.regs, ana.urg := t.ana.urg, page := (noteOwner path 0x28 s).page })
    ∧ (∀ path setup u, setup < 48 → MayWrite path 0x28 0x04C (urgentWord n setup) s → s.ana.urg = some u →
      ∃ t, exec (.urgentRequest path n setup) s = .next t ∧ t.flag F.LANES_URG_STAT_DROPPED = true ∧ (t.rd 0x28 0x010).getLsbD E.LANES_URG_DROP.2 = true
        ∧ t = { s with regs := t.regs, page := (noteOwner path 0x28 s).page })
    ∧ (s.get F.LANES_LS_PHASE = 0 → anaOn s = true → cycleLane s = some n → ∃ t, exec .calDue s = .next t ∧ t.get F.LANES_LS_PHASE = 1 ∧ t.get F.LANES_LS_FOR = n
      ∧ t.ana.lsNext = (n + 1) % 6 ∧ t.ana.lsCal = some { todo := calTodo (laneGains s n) } ∧ t = { s with regs := t.regs, ana := t.ana })
    ∧ (s.get F.LANES_LS_PHASE ≠ 0 → exec .calDue s = .next s)

/-- Stormbox takes triggers and edges, and its archive is acknowledged, searched, scanned and supervised: REC_TRIG and enabled edges put a trigger of the tick
in progress among the triggers that wait (R424, R712); REC_ACK moves to the greater record number, at most the last (R444); REC_FIND looks one up (R443); the
scan of an empty archive ends with INDEX_READY (R440); an area held too long raises its fault once (R441). (R424, R440, R441, R443, R444, R712) -/
def Obligations.StormboxCommands : Prop :=
  ∀ s : State, Ready s →
    (∀ path, MayWrite path 0x2C 0x09C 1 s → s.en 0x2C = true → ∃ g, exec (.recTrig path) s = .next { noteOwner path 0x2C s with stor.trigs := s.stor.trigs ++ [g] }
      ∧ g.tick = s.tick.num ∧ g.kind = (if pathRank s (pageGroup 0x2C) path = 3 then 5 else 6) ∧ g.src = pathRank s (pageGroup 0x2C) path)
    ∧ (∀ path, MayWrite path 0x2C 0x09C 1 s → s.en 0x2C = false → exec (.recTrig path) s = .next (noteOwner path 0x2C s))
    ∧ (∀ n falling, n < 4 → ∃ t, exec (.gpioEdge n falling) s = .next t
      ∧ bitOf (t.get (if falling then F.GPIO_EDGE_FALL else F.GPIO_EDGE_RISE)) n = true
      ∧ (t.rd (if falling then F.GPIO_EDGE_FALL else F.GPIO_EDGE_RISE).page 0x010).getLsbD E.GPIO_EDGE.2 = true
      ∧ (bitOf (s.get F.REC_EDGE_EN) n = true → (bitOf (s.get F.REC_EDGE_POL) n == falling) = true → s.en 0x2C = true →
        t.stor.trigs = s.stor.trigs ++ [{ tick := s.tick.num, kind := 3, src := n }])
      ∧ (bitOf (s.get F.REC_EDGE_EN) n = false → t.stor = s.stor) ∧ t = { s with regs := t.regs, stor := t.stor })
    ∧ (∀ path w, MayWrite path 0x2C 0x0AC w s → areaFree s 0 = true → areaFree s 1 = true → ∃ t, exec (.recAckWrite path w) s = .next t
      ∧ t.get F.REC_ACK_RECNO = max (min w.toNat (s.get F.REC_LAST_RECNO)) (s.get F.REC_ACK_RECNO)
      ∧ t = { s with regs := t.regs, page := (noteOwner path 0x2C s).page })
    ∧ (∀ path w, MayWrite path 0x2C 0x0B0 w s → ∃ t, exec (.recFindWrite path w) s = .next t ∧ t.stor.find = some w.toNat ∧ t.get F.REC_FIND_RECNO = w.toNat
      ∧ t.flag F.REC_FOUND_STAT_DONE = false ∧ t.flag F.REC_FOUND_STAT_VALID = false ∧ t = { s with regs := t.regs, stor.find := t.stor.find, page := (noteOwner path 0x2C s).page })
    ∧ (∀ n off len, s.stor.find = some n → s.flag F.REC_STAT_INDEX_READY = true → s.stor.entries.find? (fun e => e.1 == n) = some (n, off, len) →
      ∃ t, exec .recFindDone s = .next t ∧ t.flag F.REC_FOUND_STAT_DONE = true ∧ t.flag F.REC_FOUND_STAT_VALID = true
        ∧ t.get F.REC_FOUND_ADDR_ADDR = (0x10290000 + off) % 2 ^ 32 ∧ t.stor.find = none ∧ t = { s with regs := t.regs, stor.find := none })
    ∧ (s.stor.find = none → exec .recFindDone s = .next s)
    ∧ (s.flag F.REC_STAT_INDEX_READY = false → s.flag F.SYS_BSTAT_ROM_OK = true → archStarts s = [] → recHigh s < 0xFFFFFFFF →
      ∃ t, exec .indexReady s = .next t ∧ t.flag F.REC_STAT_INDEX_READY = true ∧ t.stor.entries = [] ∧ t.stor.wpos = 0
        ∧ (t.rd 0x2C 0x010).getLsbD E.REC_INDEX_READY.2 = true ∧ t = { s with regs := t.regs, stor := t.stor })
    ∧ (s.flag F.REC_STAT_INDEX_READY = true → exec .indexReady s = .next s)
    ∧ (∀ h, (areaOf s 0).held = some h → areaFree s 1 = true → s.flag F.REC_ROW_ARCH_EN = true → s.flag F.REC_STAT_RETIRED = false → h.stalled = false →
      s.get F.REC_ARCH_WAIT_S * 28800 ≤ h.age → RecordsOnly 0x72 s →
      ∃ t, exec .recArchStall s = .next t ∧ (areaOf t 0).held = some { h with stalled := true } ∧ FaultRecorded s t)
    ∧ (s.flag F.REC_ROW_ARCH_EN = false → exec .recArchStall s = .next s)

/-- Runs are requested, partitions end, a cell that does not end is retired, and REQUALIFY tests one: ARR_GO requests a run in RUN_MODE 1 and is counted where
one is pending (R459). A partition whose tiles' predicted cycles have passed within its slot ends: it stores its outputs at the addresses of its layer's
tensor and nowhere else, and the run counts it (R462, R464). A cell clocked for 2 × its predicted cycles + 1024 is tripped by its watchdog and retired with
cause 3 (R473, R474). REQUALIFY takes a retired cell (R478). (R459, R462, R464, R473, R474, R478) -/
def Obligations.ArrayCommands : Prop :=
  ∀ s : State, Ready s →
    (∀ path, MayWrite path 0x30 0x054 1 s → s.get F.ARR_CFG_RUN_MODE = 1 → s.arr.run = none → s.flag F.ARR_STAT_GO_PEND = false →
      exec (.arrGo path) s = .next ((noteOwner path 0x30 s).putB F.ARR_STAT_GO_PEND true))
    ∧ (∀ path, MayWrite path 0x30 0x054 1 s → s.get F.ARR_CFG_RUN_MODE = 1 → s.flag F.ARR_STAT_GO_PEND = true → exec (.arrGo path) s = .next ((noteOwner path 0x30 s).bump F.ARR_CNT2_SKIP))
    ∧ (∀ path, MayWrite path 0x30 0x054 1 s → s.get F.ARR_CFG_RUN_MODE ≠ 1 → exec (.arrGo path) s = .next (noteOwner path 0x30 s))
    ∧ (∀ c ns p corr r u l g d xs zs ys yz rows, c < 17 → s.arr.run = some r → r.started = true → aget s.arr.work c = some p → arrSlot s = true → mayEnd c p ns r s = true →
      u = { s with arr.now := ns }.bump (F.CELL_CNT_CORR c) corr → s.armedAt (0x31 + c) 1 = false → s.armedAt 0x30 1 = false → l = runLayer u r → g = progOf s c →
      d = (if l.op ≤ 2 then g.tiles else 0) → r.ended + 1 < l.npart → crcsOk l (s.get F.ARR_ARENA_ADDR) u = (u, true) →
      readTiles (s.get F.ARR_ARENA_ADDR + l.inO) (tilesOf (l.len * l.nIn) - d) d u = (u, .ok xs zs) →
      readTiles (s.get F.ARR_ARENA_ADDR + l.in2) (tilesOf (l.len * in2Chans l)) 0 u = (u, .ok ys yz) → l.wsrc ≠ 1 →
      readWeights u l (imageBase s.arr.slot + l.woff) (imageBase s.arr.slot + imageLen u s.arr.slot - 68) (shareOf l p).1 (shareOf l p).2 = .ok rows →
      ∃ t, exec (.partitionEnd ⟨c, ns⟩ corr false) s = .next t ∧ t.arr.run.map (·.ended) = some (r.ended + 1)
        ∧ t.mem = (storeOutputs (s.get F.ARR_ARENA_ADDR + l.out) l (outputs l (g.vals ++ xs) ys rows (shareOf l p).1 (shareOf l p).2) s).mem
        ∧ (∀ a, (∀ o, o ∈ outputs l (g.vals ++ xs) ys rows (shareOf l p).1 (shareOf l p).2 → valueAddr (s.get F.ARR_ARENA_ADDR + l.out) (o.1 * l.nOut + o.2.1) ≠ a) →
          s.memWf = true → t.byteAt a = s.byteAt a)
        ∧ t = { s with regs := t.regs, mem := t.mem, ecc := t.ecc, arr := t.arr })
    ∧ (∀ c ns p corr r, s.arr.run = some r → aget s.arr.work c = some p → mayEnd c p ns r s = false → s.armedAt (0x31 + c) 1 = false → s.armedAt 0x30 1 = false →
      exec (.partitionEnd ⟨c, ns⟩ corr false) s = .next s)
    ∧ (∀ c ns corr b, s.arr.run = none → exec (.partitionEnd ⟨c, ns⟩ corr b) s = .next s)
    ∧ (∀ c ns p r g, c < 17 → s.arr.run = some r → r.started = true → aget s.arr.work c = some p → arrSlot s = true → s.arr.now ≤ ns → g = progOf s c →
      1000 * (2 * cyclesAll (runLayer s r) p g s + 1024) ≤ 1000 * g.used + (ns - g.since) * cellMhz s g → retired s c = false → RecordsOnly 0x51 s →
      ∃ t, exec (.cellWatchdog ⟨c, ns⟩) s = .next t ∧ retired t c = true ∧ t.get (F.CELL_RET_CAUSE c) = 3 ∧ t.get (F.CELL_CNT_WDOG c)
          = satTo (2 ^ ((F.CELL_CNT_WDOG c).hi + 1 - (F.CELL_CNT_WDOG c).lo) - 1) (s.get (F.CELL_CNT_WDOG c) + 1)
        ∧ t.get F.FLT_REC_CNT_TOTAL = satTo 65535 (s.get F.FLT_REC_CNT_TOTAL + 1))
    ∧ (∀ c ns p r g, s.arr.run = some r → aget s.arr.work c = some p → g = progOf s c →
      1000 * g.used + (ns - g.since) * cellMhz s g < 1000 * (2 * cyclesAll (runLayer s r) p g s + 1024) → exec (.cellWatchdog ⟨c, ns⟩) s = .next s)
    ∧ (∀ c ns, aget s.arr.work c = none → exec (.cellWatchdog ⟨c, ns⟩) s = .next s)
    ∧ (∀ path c, c < 17 → MayWrite path 0x30 0x074 (opWord 1 c) s → retired s c = true → s.bist.req = none → s.flag F.BIST_STAT_ROM_BAD = false →
      ∃ t, exec (.requalify path c) s = .next t ∧ t.bist = { s.bist with req := some (c, 0), reqEnd := none } ∧ t.flag F.BIST_STAT_REQ_RUN = true
        ∧ t.get F.ARR_CMDSTAT_OP = 1 ∧ t.get F.ARR_CMDSTAT_RESULT = 1 ∧ t.get F.ARR_CMDSTAT_CELL = c
        ∧ t = { s with regs := t.regs, bist := t.bist, page := (noteOwner path 0x30 s).page })
    ∧ (∀ path c, c < 17 → MayWrite path 0x30 0x074 (opWord 1 c) s → retired s c = false →
      ∃ t, exec (.requalify path c) s = .next t ∧ t.get F.ARR_CMDSTAT_RESULT = 3 ∧ t = { s with regs := t.regs, page := (noteOwner path 0x30 s).page })
    ∧ (∀ c k, c < 17 → s.bist.req = some (c, k) → s.bist.reqEnd = some false → ∃ t, exec .requalDone s = .next t ∧ t.bist.req = none ∧ t.bist.reqEnd = none
      ∧ t.get F.ARR_CMDSTAT_RESULT = 3 ∧ t.get F.ARR_RETIRED_BITS = s.get F.ARR_RETIRED_BITS ∧ (t.rd 0x30 0x010).getLsbD E.ARR_REQUAL_DONE.2 = true
      ∧ t = { s with regs := t.regs, bist := t.bist })
    ∧ (∀ c k, c < 17 → s.bist.req = some (c, k) → s.bist.reqEnd = some true → s.get F.ARR_STAT_BENCH ≠ 31 → ∃ t, exec .requalDone s = .next t ∧ t.bist.req = none
      ∧ retired t c = false ∧ t.get F.ARR_CMDSTAT_RESULT = 2 ∧ t.get (F.CELL_RET_CAUSE c) = 0 ∧ t = { s with regs := t.regs, bist := t.bist, nvm := t.nvm })
    ∧ (s.bist.req = none → exec .requalDone s = .next s)

/-- The learning commands wait for the boundary, and a sealed head comes into force: A write of PRUNE_CMD puts its command behind those that wait for the
boundary (R521); when a seal's write is complete, learning is off and SEALED is raised (R511, R513). (R511, R513, R521) -/
def Obligations.LearningCommands : Prop :=
  ∀ (s : State) (path : Path), Ready s →
    (∀ init, MayWrite path 0x43 0x068 (opWord 1 (b2n init)) s → exec (.start path init) s = .next { noteOwner path 0x43 s with learn.cmds := s.learn.cmds ++ [(1, b2n init)] })
    ∧ (MayWrite path 0x43 0x068 (opWord 2 0) s → exec (.stop path) s = .next { noteOwner path 0x43 s with learn.cmds := s.learn.cmds ++ [(2, 0)] })
    ∧ (MayWrite path 0x43 0x068 (opWord 3 0) s → exec (.sealHead path) s = .next { noteOwner path 0x43 s with learn.cmds := s.learn.cmds ++ [(3, 0)] })
    ∧ (MayWrite path 0x43 0x068 (opWord 4 0) s → exec (.discard path) s = .next { noteOwner path 0x43 s with learn.cmds := s.learn.cmds ++ [(4, 0)] })
    ∧ (s.learn.written = true → ∃ t, exec .headWriteComplete s = .next t ∧ t.learn.written = false ∧ learnState t = 0
      ∧ (t.rd 0x43 0x010).getLsbD E.PRUNE_SEALED.2 = true ∧ t.plan = s.plan ∧ t.mem = s.mem ∧ t.nvm.queue = s.nvm.queue)
    ∧ (s.learn.written = false → exec .headWriteComplete s = .next s)

/-- A sleep request is accepted when every check of R561 passes and rejected with the first that fails; cancels and retries: An accepted request waits for its
entry boundary with RETRY tries (R561, R563, R567). While a state other than RUN is in force the request ends REJECTED with BUSY, during the ceiling with
STARTUP, in the fault state with FAULT, and nothing else happens (R561). TARGET 0 cancels a pending retry (R562). A retry that comes due is counted and asked
again (R567). An injected wake (point 2) is ruled out. (R561, R562, R567) -/
def Obligations.SleepRequests : Prop :=
  ∀ s : State, Ready s → s.armedAt 0x02 2 = false →
    (∀ path target, 1 ≤ target → target ≤ 3 → MayWrite path 0x02 0x058 (BitVec.ofNat 32 (0x80000000 + target)) s →
      (s.slp.req = none → s.slp.down = none → pstate s = 0 → s.get F.PWR_STAT_ENTRY ≠ 5 → startCeil s = false → inFault s = false →
        getBits (s.rdE 0x02 0x044) 4 0 ≠ 0 → (∀ k, k < 6 → wakeEnabled s k = true → bitOf (s.get F.PWR_WAKE_SRC_LATCH) k = false) →
        (target = 3 → loopGen s = true → loopParked s = true) → (target = 3 → frostEst s ≤ 70) →
        ∃ t, exec (.sleepRequest path target) s = .next t ∧ t.slp.req = some target ∧ t.slp.wokeEntry = false ∧ t.get F.PWR_SLEEP_TARGET = target
          ∧ t.get F.PWR_STAT_RETRY_LEFT = s.get F.PWR_CFG_RETRY ∧ t.get F.PWR_STAT_STATE = 0
          ∧ t = { s with regs := t.regs, slp := t.slp, page := (noteOwner path 0x02 s).page })
      ∧ ∀ r, (pstate s ≠ 0 ∧ r = 1 ∨ s.slp.req = none ∧ s.slp.down = none ∧ pstate s = 0 ∧ s.get F.PWR_STAT_ENTRY ≠ 5
            ∧ (startCeil s = true ∧ r = 2 ∨ startCeil s = false ∧ inFault s = true ∧ r = 3)) →
        ∃ t, exec (.sleepRequest path target) s = .next t ∧ t.get F.PWR_RESULT_RESULT = 3 ∧ t.get F.PWR_RESULT_REASON = r ∧ t.get F.PWR_RESULT_TARGET = target
          ∧ t.get F.PWR_CNT2_REJECTED = satTo 65535 (s.get F.PWR_CNT2_REJECTED + 1) ∧ (t.rd 0x02 0x010).getLsbD E.PWR_REJECTED.2 = true
          ∧ t = { s with regs := t.regs, page := (noteOwner path 0x02 s).page }
          ∧ SameBut [regKey 0x02 0x058, regKey 0x02 0x060, regKey 0x02 0x074, regKey 0x02 0x010] s { t with page := s.page })
    ∧ (∀ path, MayWrite path 0x02 0x058 0x80000000 s → ∃ t, exec (.sleepCancel path) s = .next t ∧ t.get F.PWR_STAT_STATE = s.get F.PWR_STAT_STATE
      ∧ (s.get F.PWR_STAT_ENTRY = 5 → t.get F.PWR_STAT_ENTRY = 0 ∧ t.get F.PWR_STAT_RETRY_LEFT = 0 ∧ t = { s with regs := t.regs, slp.retryIn := 0, page := (noteOwner path 0x02 s).page })
      ∧ (s.get F.PWR_STAT_ENTRY ≠ 5 → t.page = (noteOwner path 0x02 s).page ∧ SameBut [regKey 0x02 0x058] s { t with page := s.page }))
    ∧ (s.get F.PWR_STAT_ENTRY = 5 → s.slp.retryIn = 0 → sleepReason s.slp.retryTarget true s = none →
      ∃ t, exec .sleepRetry s = .next t ∧ t.slp.req = some s.slp.retryTarget ∧ t.get F.PWR_STAT_ENTRY = 0
        ∧ t.get F.PWR_STAT_RETRY_LEFT = s.get F.PWR_STAT_RETRY_LEFT - 1 ∧ t.get F.PWR_CNT2_RETRIES = satTo 65535 (s.get F.PWR_CNT2_RETRIES + 1)
        ∧ t = { s with regs := t.regs, slp := t.slp })
    ∧ (s.get F.PWR_STAT_ENTRY ≠ 5 → exec .sleepRetry s = .next s)

/-- DOZE and LULL are reached, a wake source latches and starts the exit, the exit ends in RUN: The state takes its value when the power-down ends: DOZE keeps
everything, LULL the banks in retention, at P0 (R569). A source that fires sets its latch and, enabled, leaves the state that is in force (R575, R579); one
during entry starts the exit as soon as the state is reached (R580). The ALARM moves on by its period (R575). WAKE_EXIT_COMPLETE is RUN, after LULL at P1 with
the cells that P1 may run (R570, R571, R573). (R569, R570, R571, R573, R575, R579, R580) -/
def Obligations.SleepAndWake : Prop :=
  ∀ s : State, Ready s →
    (s.slp.down = some 1 → s.slp.wokeEntry = false → ∃ t, exec .sleepStateReached s = .next t ∧ t.get F.PWR_STAT_STATE = 1 ∧ t.get F.PWR_STAT_ENTRY = 0
      ∧ t.get F.PWR_RESULT_RESULT = 1 ∧ t.get F.PWR_CNT_SLEEPS = satTo 65535 (s.get F.PWR_CNT_SLEEPS + 1)
      ∧ t = { s with regs := t.regs, slp := { s.slp with down := none, asking := false }, gov.raiseTo := none })
    ∧ (s.slp.down = some 2 → s.slp.wokeEntry = false → s.memWf = true → ∃ t, exec .sleepStateReached s = .next t ∧ t.get F.PWR_STAT_STATE = 2 ∧ level t = 0
      ∧ t.get F.PWR_STAT_RETAINED = banksKept 2 s ∧ t.get F.MEM_STAT_RETAINED = banksKept 2 s
      ∧ (∀ n a, n < 16 → bitOf (s.get F.PWR_CFG_LULL_RET) n = true → 0x20000000 + n * 0x40000 ≤ a → a < 0x20000000 + (n + 1) * 0x40000 → t.byteAt a = s.byteAt a)
      ∧ (∀ a, a < 0x20000000 ∨ 0x20400000 ≤ a → t.byteAt a = s.byteAt a))
    ∧ (s.slp.down = some 1 → s.slp.wokeEntry = true → ∃ t, exec .sleepStateReached s = .next t ∧ t.get F.PWR_STAT_STATE = 1 ∧ t.slp.exiting = true
      ∧ t.get F.PWR_STAT_ENTRY = 4 ∧ t.flag F.PWR_RESULT_WAKE_IN_ENTRY = true ∧ (t.rd 0x02 0x010).getLsbD E.PWR_WAKE_IN_ENTRY.2 = true)
    ∧ (s.slp.down = none → exec .sleepStateReached s = .next s)
    ∧ (∀ src falling, src < 2 → (src = 0 → gen s = 2) → ∃ t, exec (.wake src falling) s = .next t ∧ bitOf (t.get F.PWR_WAKE_SRC_LATCH) src = true
      ∧ (∀ k, k < 6 → k ≠ src → bitOf (t.get F.PWR_WAKE_SRC_LATCH) k = bitOf (s.get F.PWR_WAKE_SRC_LATCH) k)
      ∧ t.get F.PWR_STAT_STATE = s.get F.PWR_STAT_STATE ∧ t = { s with regs := t.regs, slp := t.slp, keys.buf := t.keys.buf }
      ∧ (wakeEnabled s src = false → s.get F.PWR_STAT_ENTRY ≠ 5 → t.slp = s.slp ∧ t.keys = s.keys)
      ∧ (wakeEnabled s src = true → s.slp.firstSeen = false → t.get F.PWR_WAKE_SRC_FIRST = src + 1 ∧ t.get F.PWR_WTIME_TICK = s.tick.num % 2 ^ 32)
      ∧ (wakeEnabled s src = true → s.slp.req = none → s.slp.down = none → pstate s ≠ 0 → s.slp.exiting = false →
          t.slp.exiting = true ∧ t.get F.PWR_STAT_ENTRY = 4)
      ∧ (wakeEnabled s src = true → (s.slp.req ≠ none ∨ s.slp.down ≠ none) → t.slp.wokeEntry = true ∧ t.slp.exiting = s.slp.exiting))
    ∧ (∀ falling, gen s ≠ 2 → exec (.wake 0 falling) s = .next s)
    ∧ (s.tick.num = alarmTick s → ∃ t, exec .alarm s = .next t ∧ bitOf (t.get F.PWR_WAKE_SRC_LATCH) 3 = true
      ∧ alarmTick t = (if s.get F.PWR_ALARM_PER_PERIOD = 0 then alarmTick s else (alarmTick s + s.get F.PWR_ALARM_PER_PERIOD) % 2 ^ 48)
      ∧ t = { s with regs := t.regs, eff := t.eff, slp := t.slp, keys.buf := t.keys.buf })
    ∧ (s.tick.num ≠ alarmTick s → exec .alarm s = .next s)
    ∧ (∀ early, s.slp.exiting = true → pstate s = 1 → ∃ t, exec (.wakeExitComplete early) s = .next t ∧ t.get F.PWR_STAT_STATE = 0 ∧ t.get F.PWR_STAT_ENTRY = 0
      ∧ t.slp.exiting = false ∧ (t.rd 0x02 0x010).getLsbD E.PWR_WOKE.2 = true ∧ t = { s with regs := t.regs, slp := t.slp })
    ∧ (∀ early, s.slp.exiting = true → pstate s = 2 → s.arr.run = none → ∃ t, exec (.wakeExitComplete early) s = .next t ∧ t.get F.PWR_STAT_STATE = 0 ∧ level t = 1
      ∧ (∀ n, n < 16 → gated s n = false → bitOf (s.get F.PWR_CFG_LULL_RET) n = false → bitOf (t.get F.MEM_STAT_ZEROFILL) n = true)
      ∧ (s.gov.live.length ≤ 2 → t.gov.live = s.gov.live ∧ t.arr = s.arr) ∧ t = { s with regs := t.regs, slp := t.slp, gov := t.gov, arr := t.arr })
    ∧ ∀ early, s.slp.exiting = false → exec (.wakeExitComplete early) s = .next s

/-- The calm period ends the fault state; leaks, traps, the lockout and the escalation counters: A leak takes one from C of its source (R597). FAULT_EXIT,
once the calm timer has reached CALM x 100 ms, returns to no fault, counts the recovery and enters it in the log (R603, R604). CLEAR_LOCKOUT during LOCKOUT
puts a reset at the next boundary (R607). CLEAR_ESC clears every counter (R598). A matching FLT_TRAP_ACK takes the head of the FIFO, another one counts
ACK_MISS (R613). FLT_ESC selects the source shown (R616). DIE_HOT is raised once after 16 hot ticks (R590). (R590, R597, R598, R603, R604, R607, R613, R616)
-/
def Obligations.FaultHubCommands : Prop :=
  ∀ s : State, Ready s →
    (∀ id c, aget s.flt.esc id = some c → 1 < c → leakDue s id = true →
      exec (.escLeak id) s = .next { s with flt.esc := aset s.flt.esc id (c - 1), flt.leakU := aset s.flt.leakU id ((aget s.flt.leakU id).getD 0 - leakTime s id) })
    ∧ (∀ id, aget s.flt.esc id = some 1 → leakDue s id = true → exec (.escLeak id) s = .next { s with flt.esc := adel s.flt.esc id, flt.leakU := adel s.flt.leakU id })
    ∧ (∀ id, (aget s.flt.esc id).getD 0 = 0 ∨ leakDue s id = false → exec (.escLeak id) s = .next s)
    ∧ (s.get F.FLT_STAT_STATE = 1 → s.get F.FLT_CFG_CALM * 100 ≤ s.get F.FLT_CALM_CALM →
      ∃ t, exec .faultExit s = .next t ∧ t.get F.FLT_STAT_STATE = 0 ∧ inFault t = false ∧ t.get F.FLT_STAT_ENTRY_SRC = 0xFF
        ∧ t.get F.FLT_CNT_RECOVERY = satTo 65535 (s.get F.FLT_CNT_RECOVERY + 1) ∧ t.flt.recov = (s.flt.recov ++ [s.flt.aonS]).drop ((s.flt.recov ++ [s.flt.aonS]).length - 15)
        ∧ (t.rd 0x07 0x010).getLsbD E.FLT0_FAULT_EXIT.2 = true ∧ t = { s with regs := t.regs, alm.live := t.alm.live, flt := t.flt }
        ∧ t.flt.esc = s.flt.esc ∧ t.flt.traps = s.flt.traps ∧ t.flt.ring = s.flt.ring)
    ∧ (s.get F.FLT_CALM_CALM < s.get F.FLT_CFG_CALM * 100 ∨ s.get F.FLT_STAT_STATE ≠ 1 → exec .faultExit s = .next s)
    ∧ (∀ path, MayWrite path 0x07 0x054 (opWord 1 0xC10C) s → s.get F.FLT_STAT_STATE = 2 →
      exec (.clearLockout path) s = .next { noteOwner path 0x07 s with boot.resetAt := 8 :: s.boot.resetAt })
    ∧ (∀ path, MayWrite path 0x07 0x054 (opWord 1 0xC10C) s → s.get F.FLT_STAT_STATE ≠ 2 → exec (.clearLockout path) s = .next (noteOwner path 0x07 s))
    ∧ (∀ path, MayWrite path 0x07 0x054 (opWord 2 0) s → exec (.clearEsc path) s = .next { noteOwner path 0x07 s with flt.esc := [], flt.leakU := [] })
    ∧ (∀ path w id q rest, MayWrite path 0x07 0x050 w s → s.flt.traps = (id, q) :: rest →
      (getBits w 15 0 = q → exec (.fltTrapAck path w) s = .next { noteOwner path 0x07 s with flt.traps := rest })
      ∧ (getBits w 15 0 ≠ q → exec (.fltTrapAck path w) s = .next ((noteOwner path 0x07 s).bump F.FLT_CNT_ACK_MISS)))
    ∧ (∀ path w, MayWrite path 0x07 0x050 w s → s.flt.traps = [] → exec (.fltTrapAck path w) s = .next ((noteOwner path 0x07 s).bump F.FLT_CNT_ACK_MISS))
    ∧ (∀ path w, MayWrite path 0x07 0x07C w s → ∃ t, exec (.fltEscSelect path w) s = .next t ∧ t.get F.FLT_ESC_SEL = getBits w 23 16
      ∧ getBits (normalWord t 0x07 0x07C) 7 0 = (aget s.flt.esc (getBits w 23 16)).getD 0 % 256 ∧ SameBut [regKey 0x07 0x07C] s { t with page := s.page }
      ∧ t = { s with regs := t.regs, page := (noteOwner path 0x07 s).page })
    ∧ (s.flt.hotArmed = true → 16 ≤ s.flt.hotTicks → RecordsOnly 0x13 s →
      ∃ t, exec .dieHot s = .next t ∧ t.flt.hotArmed = false ∧ (aget t.alm.live (0x340 + 4 * 0x13)).getD 0 = satTo 0xFFFFFFFF ((aget s.alm.live (0x340 + 4 * 0x13)).getD 0 + 1)
        ∧ FaultRecorded s t)
    ∧ (s.flt.hotTicks < 16 → exec .dieHot s = .next s)

/-- A gap runs a promoted task, a neglected task is promoted and reported as starved, the CORE start-up test ends: A task whose age reaches STARVE_FRAMES is
promoted once, one at twice that is STARVED and raises BG_STARVED once (R643, R644). A gap shorter than GAP_MIN_US, a running slot or a state other than RUN
gives no work; a promoted scrub works by whole words (R641, R635). The test result shows in BIST_START, and a failure raises fault 0x71 with INFO 1 (R631,
R633). (R631, R633, R635, R641, R643, R644) -/
def Obligations.BackgroundTasks : Prop :=
  ∀ s : State, Ready s →
    (∀ n, n < 3 → s.flag F.BG_CFG_PROMOTE_EN = true → s.get F.BG_CFG_STARVE_FRAMES ≤ s.get (ageFld n) → ∃ t, exec .promoted s = .next t
      ∧ bitOf (t.get F.BG_STAT_PROMOTED) n = true ∧ t = { s with regs := t.regs }
      ∧ SameBut [regKey 0x0A 0x044, regKey 0x0A 0x060, regKey 0x0A 0x010] s t
      ∧ (bitOf (s.get F.BG_STAT_PROMOTED) n = false → (t.rd 0x0A 0x010).getLsbD E.BG_PROMOTED.2 = true))
    ∧ (s.flag F.BG_CFG_PROMOTE_EN = false → exec .promoted s = .next s)
    ∧ (2 * s.get F.BG_CFG_STARVE_FRAMES ≤ s.get (ageFld 1) → bitOf (s.get F.BG_STAT_STARVED) 1 = false →
      (∀ n, n = 0 ∨ n = 2 → bitOf (s.get F.BG_STAT_STARVED) n = true) → RecordsOnly 0x70 s →
      ∃ t, exec .bgStarved s = .next t ∧ bitOf (t.get F.BG_STAT_STARVED) 1 = true ∧ (t.rd 0x0A 0x010).getLsbD E.BG_STARVED.2 = true
        ∧ t.get F.BG_CNT2_STARVED = satTo 255 (s.get F.BG_CNT2_STARVED + 1) ∧ FaultRecorded s t)
    ∧ ((∀ n, n < 3 → s.get (ageFld n) < 2 * s.get F.BG_CFG_STARVE_FRAMES) → exec .bgStarved s = .next s)
    ∧ (s.boot.coreTest = 1 → 432 ≤ s.boot.coreU + tickUnits s → ∃ t, exec (.coreTestDone true) s = .next t ∧ t.boot.coreTest = 2 ∧ t.flag F.SYS_BSTAT_CORE_TEST = false ∧ t.flag F.BIST_START_CORE_RAN = true
      ∧ t.flag F.BIST_START_CORE_PASS = true ∧ t = { s with regs := t.regs, boot.coreTest := 2 })
    ∧ (s.boot.coreTest = 1 → 432 ≤ s.boot.coreU + tickUnits s → RecordsOnly 0x71 s → ∃ t, exec (.coreTestDone false) s = .next t ∧ t.boot.coreTest = 3 ∧ t.flag F.BIST_START_CORE_PASS = false
      ∧ t.get F.FLT_REC_CNT_TOTAL = satTo 65535 (s.get F.FLT_REC_CNT_TOTAL + 1) ∧ t.mem = s.mem ∧ t.page = s.page)
    ∧ (∀ pass, s.boot.coreTest ≠ 1 ∨ s.boot.coreU + tickUnits s < 432 → exec (.coreTestDone pass) s = .next s)
    ∧ (∀ at_ till, s.plan.freeAt ≤ at_ → s.armedAt 0x0A 2 = false → pstate s = 0 → s.slp.out = false → s.plan.run = none → s.plan.todo = [] → at_ + s.get F.BG_CFG_GAP_MIN_US ≤ (endLimits (s.get F.TICK_CFG_RATE)).2 →
      at_ < till → till + 2 ≤ (endLimits (s.get F.TICK_CFG_RATE)).2 → spares s = true → s.flag F.BG_CFG_SCRUB_EN = true → s.get F.BG_STAT_PROMOTED = 2 →
      s.flag F.GOV_STAT_BURST = false → fitsCap s s.gov.pred = true → s.bist.blocked = 0 → NoEccErrors s → bankOff s (s.get F.BG_SCRUB_BANK) = false →
      s.get F.BG_SCRUB_WORD + (till - at_) * levelMhz (level s) / 6 < 32768 → 0 < (till - at_) * levelMhz (level s) / 6 → s.armedAt 0x0A 1 = false →
      ∃ t, exec (.idleGapWork at_ till false false) s = .next t ∧ t.get F.BG_SCRUB_WORD = s.get F.BG_SCRUB_WORD + (till - at_) * levelMhz (level s) / 6
        ∧ t.get F.BG_SCRUB_BANK = s.get F.BG_SCRUB_BANK ∧ t.get F.BG_AGE0_SCRUB = 0 ∧ t.get F.BG_STAT_PROMOTED = 0 ∧ t.mem = s.mem
        ∧ t = { s with regs := t.regs, bist := t.bist, plan.freeAt := till })
    ∧ ∀ at_ till bad raced, spares s = true → (pstate s ≠ 0 ∨ s.plan.run ≠ none ∨ at_ < s.plan.freeAt) → exec (.idleGapWork at_ till bad raced) s = .next s

/-- CLEAR_WORD, model and patch writes and checks, saves and the ARCHIVE retirement end or run as R657 says: CLEAR_WORD writes zero into the ECC word of
MEM_CMDADDR (R649). While a command runs another ends with BUSY, a bad length with RANGE, MODEL_WRITE to the slot in force with SLOT_IN_FORCE; otherwise the
source's bytes are queued as one chunk (R654, R656, R657). A check runs until CMD_DONE; SAVE_CONFIG waits for the boundary (R660). RETIRE_ARCH retires ARCHIVE
once (R667). A patch whose CRC-32C and signature hold and whose version is not lower raises ACC_PATCHVER (R343); its version and length are the model's
operands (DESIGN CHOICE, log entry 85). (R343, R649, R654, R656, R657, R660, R667) -/
def Obligations.NvmCommands : Prop :=
  ∀ (s : State) (path : Path), Ready s →
    (∀ a : Nat, a = s.get F.MEM_CMDADDR_ADDR → 0x20000000 ≤ a → a < 0x20400000 → bankOff s (bankOf a) = false → s.memWf = true → MayWrite path 0x0D 0x054 (opWord 1 0) s →
      ∃ t, exec (.clearWord path) s = .next t ∧ (∀ x, a / 8 * 8 ≤ x → x < a / 8 * 8 + 8 → t.byteAt x = 0)
        ∧ (∀ x, x < a / 8 * 8 ∨ a / 8 * 8 + 8 ≤ x → t.byteAt x = s.byteAt x) ∧ t.ecc = adel s.ecc (eccKey a)
        ∧ t = { s with mem := t.mem, ecc := t.ecc, nvm.memLive := t.nvm.memLive, page := (noteOwner path 0x0D s).page })
    ∧ (∀ slot : Nat, slot < 2 → s.get F.NVM_LEN_LEN % 16 = 0 → 16 ≤ s.get F.NVM_LEN_LEN → s.get F.NVM_LEN_LEN ≤ 4096 → s.get F.NVM_OFS_OFS % 16 = 0 →
      NoEccErrors s → inPoweredSram s (s.get F.NVM_SRC_SRC) (s.get F.NVM_LEN_LEN) = true → nvmBusy s = false →
      (MayWrite path 0x0C 0x044 (opWord 1 slot) s → s.get F.NVM_OFS_OFS + s.get F.NVM_LEN_LEN ≤ 0x100000 → s.get F.NVM_OFS_OFS ≠ 0 →
        (s.get F.ARR_CFG_SLOT ≠ slot → ∃ t, exec (.modelWrite path slot) s = .next t
          ∧ t.nvm.queue = s.nvm.queue ++ [⟨6, 0x10050000 + slot * 0x100000 + s.get F.NVM_OFS_OFS, s.bytesAt (s.get F.NVM_SRC_SRC) (s.get F.NVM_LEN_LEN), .cmd 1⟩]
          ∧ t.flag F.NVM_CSTAT_BUSY = true ∧ t.get F.NVM_CSTAT_OP = 1 ∧ t = { s with regs := t.regs, nvm.queue := t.nvm.queue, page := (noteOwner path 0x0C s).page })
        ∧ (s.get F.ARR_CFG_SLOT = slot → exec (.modelWrite path slot) s = .next (nvmRefused 1 4 (noteOwner path 0x0C s))))
      ∧ (MayWrite path 0x0C 0x044 (opWord 3 0) s → s.get F.NVM_OFS_OFS + s.get F.NVM_LEN_LEN ≤ 0x40000 → ∃ t, exec (.patchWrite path) s = .next t
        ∧ t.nvm.queue = s.nvm.queue ++ [⟨6, 0x10000000 + s.get F.NVM_OFS_OFS, s.bytesAt (s.get F.NVM_SRC_SRC) (s.get F.NVM_LEN_LEN), .cmd 3⟩]
        ∧ t.flag F.NVM_CSTAT_BUSY = true ∧ t.get F.NVM_CSTAT_OP = 3 ∧ t = { s with regs := t.regs, nvm.queue := t.nvm.queue, page := (noteOwner path 0x0C s).page }))
    ∧ (∀ slot : Nat, slot < 2 → nvmBusy s = false → MayWrite path 0x0C 0x044 (opWord 1 slot) s → s.get F.NVM_LEN_LEN < 16 →
      exec (.modelWrite path slot) s = .next (nvmRefused 1 2 (noteOwner path 0x0C s)))
    ∧ (∀ slot : Nat, slot < 2 → nvmBusy s = true → (MayWrite path 0x0C 0x044 (opWord 1 slot) s → exec (.modelWrite path slot) s = .next (nvmRefused 1 1 (noteOwner path 0x0C s)))
      ∧ (MayWrite path 0x0C 0x044 (opWord 2 slot) s → exec (.modelCheck path slot) s = .next (nvmRefused 2 1 (noteOwner path 0x0C s))))
    ∧ (∀ slot : Nat, slot < 2 → nvmBusy s = false → MayWrite path 0x0C 0x044 (opWord 2 slot) s → ∃ t, exec (.modelCheck path slot) s = .next t
      ∧ t.nvm.checking = some (2, slot) ∧ t.flag F.NVM_CSTAT_BUSY = true ∧ t.get F.NVM_CSTAT_OP = 2 ∧ t = { s with regs := t.regs, nvm.checking := t.nvm.checking, page := (noteOwner path 0x0C s).page })
    ∧ (nvmBusy s = false → MayWrite path 0x0C 0x044 (opWord 4 0) s → ∃ t, exec (.patchCheck path) s = .next t ∧ t.nvm.checking = some (4, 0)
      ∧ t.flag F.NVM_CSTAT_BUSY = true ∧ t.get F.NVM_CSTAT_OP = 4 ∧ t = { s with regs := t.regs, nvm.checking := t.nvm.checking, page := (noteOwner path 0x0C s).page })
    ∧ (∀ k patch, s.nvm.checking = some (4, k) → NoEccErrors s → ∃ t, exec (.cmdDone patch) s = .next t ∧ t.flag F.NVM_CSTAT_BUSY = false ∧ t.get F.NVM_CSTAT_RESULT = 0
      ∧ t.nvm.checking = none ∧ (t.rd 0x0C 0x010).getLsbD E.NVM_CMD_DONE.2 = true
      ∧ (∀ v n, patch = some (v, n) → (patchSound n { s with nvm.checking := none }).2 = true → s.otp.patchVer ≤ v → v ≤ 64 → t.otp.patchVer = v ∧ t.boot.patchWait = true)
      ∧ (∀ v n, patch = some (v, n) → ((patchSound n { s with nvm.checking := none }).2 = false ∨ v < s.otp.patchVer ∨ 64 < v) → t.otp = s.otp ∧ t.boot = s.boot)
      ∧ (patch = none → t = { s with regs := t.regs, nvm.checking := none }))
    ∧ (∀ patch, s.nvm.checking = none → exec (.cmdDone patch) s = .next s)
    ∧ (MayWrite path 0x0C 0x044 (opWord 5 0) s → nvmBusy s = false → topSeq s ≠ 0xFFFFFFFF → ∃ t, exec (.saveConfig path) s = .next t ∧ t.nvm.savePend = true
      ∧ t.flag F.NVM_CSTAT_BUSY = true ∧ t.get F.NVM_CSTAT_OP = 5 ∧ t = { s with regs := t.regs, nvm.savePend := true, page := (noteOwner path 0x0C s).page })
    ∧ (MayWrite path 0x0C 0x044 (opWord 6 0) s → nvmBusy s = false → s.flag F.NVM_STAT_ARCH_RETIRED = false → archBusy s = false →
      ∃ t, exec (.retireArch path) s = .next t ∧ t.flag F.NVM_STAT_ARCH_RETIRED = true ∧ t.flag F.REC_STAT_RETIRED = true
        ∧ (t.rd 0x0C 0x010).getLsbD E.NVM_ARCH_RETIRED.2 = true ∧ t.get F.NVM_CSTAT_RESULT = 0 ∧ t.nvm.queue.length = s.nvm.queue.length + 3
        ∧ t = { s with regs := t.regs, nvm := t.nvm, page := (noteOwner path 0x0C s).page })
    ∧ (MayWrite path 0x0C 0x044 (opWord 6 0) s → nvmBusy s = false → s.flag F.NVM_STAT_ARCH_RETIRED = true → exec (.retireArch path) s = .next (nvmRefused 6 6 (noteOwner path 0x0C s)))

/-- Chunks are written in the order of R654 and stored whole; the configuration load requests a commit of every page: The first chunk of the lowest kind
starts (R654). A chunk that completes has stored its bytes and counts for its partition (R654, R677). CONFIG_LOAD with one valid copy puts it in force and
requests the commits of all powered pages, effective values unchanged (R662); without a valid copy the reset values stay and CONFIG_LOST is raised (R663).
(R654, R662, R663, R677) -/
def Obligations.NvmChunksAndLoad : Prop :=
  ∀ s : State, Ready s →
    (s.nvm.writing = none → s.nvm.queue ≠ [] → (∀ c, c ∈ s.nvm.queue → c.kind ≤ 6) →
      ∃ (t : State) (c : NvmChunk), exec .nvmChunkStart s = .next t ∧ t.nvm.writing = some c ∧ c ∈ s.nvm.queue ∧ (∀ d, d ∈ s.nvm.queue → c.kind ≤ d.kind)
        ∧ t.nvm.queue = s.nvm.queue.erase c ∧ t.get F.NVM_QUEUE_KIND = c.kind ∧ t = { s with regs := t.regs, nvm.writing := t.nvm.writing, nvm.queue := t.nvm.queue })
    ∧ ((s.nvm.writing ≠ none ∨ s.nvm.queue = []) → exec .nvmChunkStart s = .next s)
    ∧ (∀ c : NvmChunk, s.nvm.writing = some c → c.tag = .plain → tornBy c s = none → s.memWf = true →
      ∃ t, exec .nvmChunkComplete s = .next t ∧ t.nvm.writing = none ∧ t.bytesAt c.addr c.bytes.length = c.bytes
        ∧ (∀ a, a < c.addr ∨ c.addr + c.bytes.length ≤ a → t.byteAt a = s.byteAt a) ∧ t.get F.NVM_QUEUE_KIND = 0
        ∧ almGet t (0x540 + 4 * partOf c.addr) = satTo 0xFFFFFFFF (almGet s (0x540 + 4 * partOf c.addr) + 1)
        ∧ t = { s with regs := t.regs, mem := t.mem, ecc := t.ecc, nvm := t.nvm, alm.live := t.alm.live })
    ∧ (s.nvm.writing = none → exec .nvmChunkComplete s = .next s)
    ∧ (s.flag F.SYS_BSTAT_ROM_OK = true → s.boot.loadPend = false → s.boot.loadDone = false → s.get F.SYS_STRAP_BOOTSEL = 0 →
      (∀ r, readCfg 1 s = (s, some r) → readCfg 2 s = (s, none) → ∃ t, exec .configLoad s = .next t ∧ t.get F.NVM_CONF_COPY = 1 ∧ t.flag F.NVM_CONF_A_VALID = true
        ∧ t.flag F.NVM_CONF_B_VALID = false ∧ t.boot.loadPend = true ∧ (∀ p, p ∈ allPages → pageOn s p = true → p ∈ t.page.commitPend) ∧ t.eff = s.eff
        ∧ (r.plan ≠ none → t.getS F.PLAN_CTRL_BANK = 1) ∧ t.mem = s.mem)
      ∧ (readCfg 1 s = (s, none) → readCfg 2 s = (s, none) → s.boot.cfgLost = false → RecordsOnly 0x62 s → ∃ t, exec .configLoad s = .next t
        ∧ t.get F.NVM_CONF_COPY = 0 ∧ t.boot.loadPend = true ∧ t.page = s.page ∧ t.eff = s.eff
        ∧ t.get F.FLT_REC_CNT_TOTAL = satTo 65535 (s.get F.FLT_REC_CNT_TOTAL + 1) ∧ t.mem = s.mem))
    ∧ (s.boot.loadDone = true → exec .configLoad s = .next s)

/-- Seconds are counted, commits fall due, ALM_CMD waits for its boundary, and the window shows the snapshot: Each AON second adds one to OP_S and to the word
of the generation latched, and nothing else in the image changes (R676). A periodic commit is due once OP_S has reached the last commit plus COMMIT_MIN
minutes (R678). COMMIT, SNAP and RESET wait for the boundary with BUSY set (R688, R692). ALM_WIN_DATA is 0 before any SNAP, and a read advances INDEX where
AINC is set (R688). (R676, R678, R688, R692) -/
def Obligations.AlmanacCommands : Prop :=
  ∀ s : State, Ready s →
    (mayReach s s.flt.aonU 28800 = true → ∃ t, exec .aonSecond s = .next t ∧ opS t = satTo 0xFFFFFFFF (opS s + 1) ∧ t.flt.aonS = satTo 0xFFFFFFFF (s.flt.aonS + 1)
      ∧ (1 ≤ gen s → almGet t (0x2FC + 4 * gen s) = satTo 0xFFFFFFFF (almGet s (0x2FC + 4 * gen s) + 1))
      ∧ (∀ off, off ≠ 0x2C0 → (gen s = 0 ∨ off ≠ 0x2FC + 4 * gen s) → almGet t off = almGet s off)
      ∧ t = { s with alm.live := t.alm.live, flt.aonS := t.flt.aonS, flt.aonU := s.flt.aonU - 28800, acc.anonReplies := 0 })
    ∧ (mayReach s s.flt.aonU 28800 = false → exec .aonSecond s = .next s)
    ∧ (s.alm.loaded = true → s.alm.lastOpS + s.get F.ALM_CFG_COMMIT_MIN * 60 ≤ opS s → s.alm.due = none → exec .almCommitDue s = .next { s with alm.due := some 1 })
    ∧ (opS s < s.alm.lastOpS + s.get F.ALM_CFG_COMMIT_MIN * 60 → exec .almCommitDue s = .next s)
    ∧ (∀ path, MayWrite path 0x0B 0x054 (opWord 1 0) s → ∃ t, exec (.almCommit path) s = .next t ∧ t.alm.cmds = s.alm.cmds ++ [(1, 0)] ∧ t.flag F.ALM_CSTAT_BUSY = true
      ∧ t.page = (noteOwner path 0x0B s).page
      ∧ SameBut [regKey 0x0B 0x058] s { t with alm := s.alm, page := s.page } ∧ t.alm.live = s.alm.live)
    ∧ (∀ path, MayWrite path 0x0B 0x054 (opWord 2 0) s → ∃ t, exec (.almSnap path) s = .next t ∧ t.alm.cmds = s.alm.cmds ++ [(2, 0)] ∧ t.flag F.ALM_CSTAT_BUSY = true
      ∧ t.page = (noteOwner path 0x0B s).page
      ∧ SameBut [regKey 0x0B 0x058] s { t with alm := s.alm, page := s.page } ∧ t.alm.snap = s.alm.snap)
    ∧ (∀ path mask, mask < 16 → MayWrite path 0x0B 0x054 (opWord 3 mask) s → ∃ t, exec (.almReset path mask) s = .next t
      ∧ t.alm.cmds = s.alm.cmds ++ [(3, mask)] ∧ t.flag F.ALM_CSTAT_BUSY = true ∧ t.page = (noteOwner path 0x0B s).page
      ∧ SameBut [regKey 0x0B 0x058] s { t with alm := s.alm, page := s.page } ∧ t.alm.live = s.alm.live)
    ∧ ∀ path, MayRead path 0x0B s → ∃ t, exec (.almWinRead path) s = .next t
      ∧ (s.flag F.ALM_WIN_IDX_AINC = true → t.get F.ALM_WIN_IDX_INDEX = (s.get F.ALM_WIN_IDX_INDEX + 1) % 512) ∧ SameBut [regKey 0x0B 0x05C] s t
      ∧ (s.flag F.ALM_WIN_IDX_AINC = false → t = s) ∧ (s.alm.snap = [] → (readAccess (regAddr 0x0B 0x060) 0 s).2.2 = 0)

/-- Scans make baselines and presses; STUCK, REBASE_NEG, the lock timeout, UNLOCK and REBASE: The first eight scans of a key make its baseline, and no touch
is declared (R695). A delta of TOUCH_TH for DEB scans is a press and enters the buffer (R696, R701). A key touched for MAX_TOUCH_S is ignored and rebased
(R699), one below -NEG_TH for 2 s is rebased (R698). The lock ends at its timeout or by UNLOCK (R705); REBASE takes the present signals (R700). (R695, R696,
R698, R699, R700, R701, R705) -/
def Obligations.KeyScans : Prop :=
  ∀ s : State, Ready s →
    (∀ g0 g1 g2, s.boot.loadDone = false ∨ scanDue s = false → exec (.keyScan g0 g1 g2) s = .next s)
    ∧ (∀ g0 g1 g2, s.boot.loadDone = true → scanDue s = true → s.keys.injMs = 0 → s.get F.KEYS_STAT_BASE_OK = 0 → g0 < 65536 → g1 < 65536 → g2 < 65536 →
      ∃ t, exec (.keyScan g0 g1 g2) s = .next t ∧ t.get (F.KEYS_SIG_SIGNAL 0) = g0 ∧ t.get (F.KEYS_SIG_SIGNAL 1) = g1 ∧ t.get (F.KEYS_SIG_SIGNAL 2) = g2
        ∧ t.get F.KEYS_STAT_TOUCH = s.get F.KEYS_STAT_TOUCH ∧ t.get F.KEYS_CNT_PRESSES = s.get F.KEYS_CNT_PRESSES
        ∧ (7 ≤ s.keys.k1.scans → hasBit t F.KEYS_STAT_BASE_OK 1 = true ∧ t.get (F.KEYS_SIG_BASELINE 1) = (s.keys.k1.sum + g1) / 8 % 65536)
        ∧ (s.keys.k1.scans < 7 → hasBit t F.KEYS_STAT_BASE_OK 1 = false ∧ t.keys.k1.scans = s.keys.k1.scans + 1 ∧ t.keys.k1.sum = s.keys.k1.sum + g1)
        ∧ t = { s with regs := t.regs, keys := t.keys })
    ∧ (∀ g1, s.boot.loadDone = true → scanDue s = true → s.keys.injMs = 0 → s.get F.KEYS_STAT_BASE_OK = 7 → s.get F.KEYS_STAT_TOUCH = 0 → s.get F.KEYS_STAT_IGNORE = 0 → s.keys.saved = none →
      s.keys.buf = [] → 0 < s.get F.KEYS_TH_TOUCH_TH → g1 < 65536 → s.get (F.KEYS_SIG_BASELINE 1) + s.get F.KEYS_TH_TOUCH_TH ≤ g1 →
      (s.get F.KEYS_CFG_DEB ≤ s.keys.k1.on + 1 → bitOf (s.get F.PWR_WAKE_CFG_KEY_MASK) 1 = false →
        ∃ t, exec (.keyScan (s.get (F.KEYS_SIG_BASELINE 0)) g1 (s.get (F.KEYS_SIG_BASELINE 2))) s = .next t ∧ t.get F.KEYS_STAT_TOUCH = 2
          ∧ t.get F.KEYS_CNT_PRESSES = satTo 65535 (s.get F.KEYS_CNT_PRESSES + 1) ∧ (t.rd 0x48 0x010).getLsbD E.KEYS_PRESS.2 = true ∧ t.keys.buf = [(1, 0)]
          ∧ t = { s with regs := t.regs, keys := t.keys })
      ∧ (s.keys.k1.on + 1 < s.get F.KEYS_CFG_DEB → ∃ t, exec (.keyScan (s.get (F.KEYS_SIG_BASELINE 0)) g1 (s.get (F.KEYS_SIG_BASELINE 2))) s = .next t
        ∧ t.get F.KEYS_STAT_TOUCH = 0 ∧ t.keys.k1.on = s.keys.k1.on + 1 ∧ t.keys.buf = [] ∧ t = { s with regs := t.regs, keys := t.keys }))
    ∧ (∀ n, n < 3 → hasBit s F.KEYS_STAT_TOUCH n = true → s.get F.KEYS_TIME_MAX_TOUCH_S * 1000 ≤ (keyOf s n).touchMs → ∃ t, exec (.stuck n) s = .next t
      ∧ hasBit t F.KEYS_STAT_TOUCH n = false ∧ hasBit t F.KEYS_STAT_IGNORE n = true ∧ t.get (F.KEYS_SIG_BASELINE n) = s.get (F.KEYS_SIG_SIGNAL n)
      ∧ t.get F.KEYS_CNT2_STUCK = satTo 255 (s.get F.KEYS_CNT2_STUCK + 1) ∧ (t.rd 0x48 0x010).getLsbD E.KEYS_STUCK.2 = true ∧ t.keys.buf = []
      ∧ t = { s with regs := t.regs, keys := t.keys })
    ∧ (∀ n, hasBit s F.KEYS_STAT_TOUCH n = false → exec (.stuck n) s = .next s)
    ∧ (∀ n ms, n < 3 → (keyOf s n).negMs = some ms →
      (2000 ≤ ms → ∃ t, exec (.rebaseNeg n) s = .next t ∧ t.get (F.KEYS_SIG_BASELINE n) = s.get (F.KEYS_SIG_SIGNAL n)
        ∧ t.get F.KEYS_CNT2_REBASE_NEG = satTo 255 (s.get F.KEYS_CNT2_REBASE_NEG + 1) ∧ (keyOf t n).negMs = none
        ∧ (t.rd 0x48 0x010).getLsbD E.KEYS_REBASE_NEG.2 = true ∧ t = { s with regs := t.regs, keys := t.keys })
      ∧ (ms < 2000 → exec (.rebaseNeg n) s = .next s))
    ∧ (∀ n, (keyOf s n).negMs = none → exec (.rebaseNeg n) s = .next s)
    ∧ (s.keys.lockLeft = some 0 → ∃ t, exec .lockTimeout s = .next t ∧ t.flag F.KEYS_STAT_LOCK = false ∧ t.keys.lockLeft = none
      ∧ (s.flag F.KEYS_STAT_LOCK = true → (t.rd 0x48 0x010).getLsbD E.KEYS_LOCK_CHANGE.2 = true) ∧ t = { s with regs := t.regs, keys.lockLeft := none })
    ∧ (s.keys.lockLeft ≠ some 0 → exec .lockTimeout s = .next s)
    ∧ (∀ path, MayWrite path 0x48 0x078 (opWord 1 0) s → ∃ t, exec (.unlock path) s = .next t ∧ t.flag F.KEYS_STAT_LOCK = false ∧ t.keys.lockLeft = none
      ∧ (s.flag F.KEYS_STAT_LOCK = true → (t.rd 0x48 0x010).getLsbD E.KEYS_LOCK_CHANGE.2 = true) ∧ t = { s with regs := t.regs, keys.lockLeft := none, page := (noteOwner path 0x48 s).page })
    ∧ ∀ path, MayWrite path 0x48 0x078 (opWord 2 0) s → ∃ t, exec (.rebase path) s = .next t ∧ t.get F.KEYS_STAT_TOUCH = 0 ∧ t.get F.KEYS_STAT_IGNORE = 0
      ∧ (∀ n, n < 3 → t.get (F.KEYS_SIG_BASELINE n) = s.get (F.KEYS_SIG_SIGNAL n)) ∧ t = { s with regs := t.regs, keys := t.keys, page := (noteOwner path 0x48 s).page }

/-- An accepted sequence locks, tests the loop, enters a trim mode or stores the trim; a timeout takes all back: The lock waits for the boundary (R704, R705).
Code 3 swaps MODE between 2 and 0, codes 4 and 5 save four fields and set MODE 2 with 4000 or 20 000 µA, code 6 and the timeout restore them, the timeout the
trims as well; each writes LDAC shadows and requests a commit (R704, R706 to R709). Without its sequence a row changes nothing. (R704, R705, R706, R707, R708,
R709) -/
def Obligations.KeyActions : Prop :=
  ∀ s : State, Ready s →
    (s.keys.done = some 1 → exec .localLockOn s = .next { s with keys.done := none, keys.lockReq := some true })
    ∧ (s.keys.done = some 2 → exec .localLockOff s = .next { s with keys.done := none, keys.lockReq := some false })
    ∧ (s.keys.done = none → ∀ c, c ∈ [Instr.localLockOn, .localLockOff, .loopTestCurrent, .enterZeroTrim, .enterSpanTrim, .storeTrim] → exec c s = .next s)
    ∧ ((∀ off w, off ≠ 0x024 → MayWrite .keys 0x11 off w s) → s.armedAt 0x18 2 = false → s.page.journal.length + 4 ≤ 256 →
      (s.keys.done = some 3 → ∃ t, exec .loopTestCurrent s = .next t ∧ t.getS F.LDAC_CFG_MODE = (if s.get F.LDAC_CFG_MODE = 2 then 0 else 2) ∧ 0x11 ∈ t.page.commitPend
        ∧ t.keys = { s.keys with done := none } ∧ (∀ off, t.rdE 0x11 off = s.rdE 0x11 off)
        ∧ t = { s with regs := t.regs, eff := t.eff, page := t.page, gov.window := t.gov.window, keys := t.keys })
      ∧ (∀ k, (k = 1 ∧ s.keys.done = some 4 ∨ k = 2 ∧ s.keys.done = some 5) →
        ∃ t, exec (if k = 1 then .enterZeroTrim else .enterSpanTrim) s = .next t ∧ t.get F.KEYS_STAT_TRIM = k ∧ t.getS F.LDAC_CFG_MODE = 2
          ∧ t.getS F.LDAC_TEST_TEST_UA = (if k = 1 then 4000 else 20000) ∧ 0x11 ∈ t.page.commitPend
          ∧ t.keys.saved = some ⟨s.get F.LDAC_CFG_MODE, s.get F.LDAC_TEST_TEST_UA, s.get F.LDAC_UTRIM_ZERO_DUA, s.get F.LDAC_UTRIM_GAIN_PPM⟩
          ∧ (∀ off, t.rdE 0x11 off = s.rdE 0x11 off)
          ∧ t = { s with regs := t.regs, eff := t.eff, page := t.page, gov.window := t.gov.window, keys := t.keys })
      ∧ (∀ v : TrimSave, s.keys.saved = some v → s.keys.done = some 6 → s.flag F.KEYS_CFG_SAVE_EN = false → ∃ t, exec .storeTrim s = .next t ∧ t.get F.KEYS_STAT_TRIM = 0
        ∧ t.keys.saved = none ∧ t.getS F.LDAC_CFG_MODE = v.mode % 4 ∧ t.getS F.LDAC_TEST_TEST_UA = v.testUa % 65536 ∧ t.rd 0x11 0x060 = s.rd 0x11 0x060
        ∧ 0x11 ∈ t.page.commitPend ∧ t = { s with regs := t.regs, eff := t.eff, page := t.page, gov.window := t.gov.window, keys := t.keys })
      ∧ ∀ v : TrimSave, s.keys.saved = some v → s.get F.KEYS_TIME_TRIM_TMO_S * 1000 ≤ s.keys.trimMs → ∃ t, exec .trimCancel s = .next t ∧ t.get F.KEYS_STAT_TRIM = 0
        ∧ t.keys.saved = none ∧ t.getS F.LDAC_CFG_MODE = v.mode % 4 ∧ t.getS F.LDAC_TEST_TEST_UA = v.testUa % 65536
        ∧ t.getS F.LDAC_UTRIM_ZERO_DUA = v.zero % 65536 ∧ t.getS F.LDAC_UTRIM_GAIN_PPM = v.gain % 65536 ∧ 0x11 ∈ t.page.commitPend
        ∧ (t.rd 0x48 0x010).getLsbD E.KEYS_TRIM_CANCEL.2 = true ∧ t = { s with regs := t.regs, eff := t.eff, page := t.page, gov.window := t.gov.window, keys := t.keys })
    ∧ ((s.keys.saved = none ∨ s.keys.trimMs < s.get F.KEYS_TIME_TRIM_TMO_S * 1000) → exec .trimCancel s = .next s)

/-- Each reset cause asserts the reset, which returns every register to its reset value but those that its class keeps: POR and BOR_LP are COLD: every
register returns to its reset value (R715, R721). BOR_MAIN and RST_N keep the voltage trims besides, WDOG the fault record ring too (R608, R721). Non-volatile
memory keeps its contents where no chunk is being written, retention RAM unless the class is COLD (R650, R723). A pulse below 0.5 µs on RST_N does nothing
(R716). RST_CMD waits for the boundary (R718, R738). (R608, R650, R715, R716, R717, R718, R721, R723, R738) -/
def Obligations.ResetAssertion : Prop :=
  ∀ s : State, s.boot.held = false → s.nvm.writing = none → s.memWf = true →
    let asserted := fun (cause : Nat) (t : State) => t.boot.held = true ∧ t.boot.causes = [cause] ∧ t.eff = [] ∧ t.pending = s.pending ∧ t.otp = s.otp
      ∧ t.boot.hist = s.boot.hist ∧ t.page = {} ∧ t.locks = [] ∧ (∀ a, 0x10000000 ≤ a → a < 0x10400000 → t.byteAt a = s.byteAt a)
      ∧ ∀ p off, (p, off) ∉ [(0x04, 0x048), (0x04, 0x04C), (0x07, 0x05C), (0x48, 0x058)] → p < 0x80 → off < 0x400 → t.rd p off = resetWord p off ∧ t.rdE p off = resetWord p off
    (∀ lost, ∃ t, exec (.por lost) s = .next t ∧ asserted 1 t ∧ t.regs = [] ∧ t.alm.live = [] ∧ (lost = true → t.boot.histOk = false))
    ∧ (∀ rail, pstate s ≠ 3 → ∃ t, exec (.borMain rail) s = .next t ∧ asserted 2 t ∧ t.boot.info = rail ∧ t.alm.live = s.alm.live
      ∧ t.rd 0x04 0x048 = s.rd 0x04 0x048 ∧ t.rd 0x04 0x04C = s.rd 0x04 0x04C ∧ t.flt = {} ∧ t.tick.num = s.tick.num
      ∧ ∀ a, 0x38000000 ≤ a → a < 0x38004000 → t.byteAt a = s.byteAt a)
    ∧ (∀ rail, pstate s = 3 → exec (.borMain rail) s = .next s)
    ∧ (pstate s = 3 → ∃ t, exec .borLp s = .next t ∧ asserted 3 t ∧ t.regs = [] ∧ t.alm.live = [])
    ∧ (pstate s ≠ 3 → exec .borLp s = .next s)
    ∧ (∀ ns, 2000 ≤ ns → ∃ t, exec (.rstN ns) s = .next t ∧ asserted 4 t ∧ t.flt = {} ∧ t.tick.num = s.tick.num ∧ t.alm.live = s.alm.live)
    ∧ (∀ ns, ns < 500 → exec (.rstN ns) s = .next s)
    ∧ (pstate s ≠ 3 → s.flag F.SYS_BSTAT_ROM_OK = true → mayReach s s.boot.linkU 7200 = true → ∃ t, exec .wdog s = .next t ∧ asserted 5 t ∧ t.flt.ring = s.flt.ring ∧ t.flt.recov = s.flt.recov
      ∧ t.flt.aonS = s.flt.aonS ∧ t.rd 0x07 0x05C = s.rd 0x07 0x05C ∧ t.flt.traps = [] ∧ t.tick.num = s.tick.num ∧ t.alm.live = s.alm.live)
    ∧ (s.flag F.SYS_BSTAT_ROM_OK = false ∨ mayReach s s.boot.linkU 7200 = false → exec .wdog s = .next s)
    ∧ (∀ path, Settled s → MayWrite path 0x01 0x048 (opWord 1 0x5A17) s → exec (.rstCmdReset path) s = .next { noteOwner path 0x01 s with boot.resetAt := 7 :: s.boot.resetAt })

/-- The release reports the cause and samples the straps; ROM boot ends; a held chip takes no other command: POR_RELEASE ends the reset, reports cause and
class, adds the causes to RST_HIST and samples the straps; with TEST_EN high nothing starts (R720, R725 to R728, R749). ROM_BOOT_COMPLETE makes the link
processor run (R730). While the reset is asserted the crystal and the pin LOOPCLR_N keep what they are, every other row but those of chapter 21's causes, the
release and the boundary changes nothing, and at a boundary TICK_NUM goes on unless the class is COLD (R722). (R720, R722, R725, R726, R727, R728, R730, R749)
-/
def Obligations.ResetRelease : Prop :=
  (∀ s : State, s.boot.held = true → Settled s → s.boot.testMode = false →
      (∀ gens bootsel, s.ldac.pinLow = false → gens % 4 = 0 → ∃ t, exec (.porRelease gens bootsel false) s = .next t ∧ t.boot.held = false ∧ t.boot.histOk = true
        ∧ t.get F.RST_CAUSE_CAUSE = reportedCause s.boot.causes ∧ t.get F.RST_CAUSE_CLASS = causeClass (reportedCause s.boot.causes)
        ∧ t.get F.RST_CAUSE_INFO = s.boot.info % 65536 ∧ (∀ c, c ∈ s.boot.causes → bitOf t.boot.hist c = true) ∧ t.flag F.SYS_STRAP_BOOTSEL = bootsel
        ∧ t.get F.SYS_STRAP_GEN = 0 ∧ gen t = gen s ∧ t.mem = s.mem ∧ t.page = s.page ∧ t.eff = s.eff)
      ∧ (∀ gens bootsel, exec (.porRelease gens bootsel true) s = .next { s with boot.testMode := true }))
    ∧ (∀ (s : State) (gens : Nat) (bootsel testEn : Bool), Ready s → exec (.porRelease gens bootsel testEn) s = .next s)
    ∧ (∀ (s : State) (us : Nat), Ready s → s.flag F.SYS_BSTAT_ROM_OK = false → s.otp.badTrim = [] → s.boot.cfgLost = false → RecordsOnly 0x62 s →
      ∃ t, exec (.romBootComplete us true false) s = .next t ∧ t.flag F.SYS_BSTAT_ROM_OK = true ∧ t.get F.SYS_BOOT0_ROM_US = min 65535 us ∧ t.boot.held = false
        ∧ t.flag F.SYS_BSTAT_PATCHED = s.boot.patchWait ∧ t.alm.loaded = true)
    ∧ (∀ (s : State) (us : Nat) (linkPass romBad : Bool), Ready s → s.flag F.SYS_BSTAT_ROM_OK = true → exec (.romBootComplete us linkPass romBad) s = .next s)
    ∧ (∀ (s : State) (c : Instr), s.boot.held = true → (∀ x, c ≠ .por x) → (∀ x, c ≠ .borMain x) → c ≠ .borLp → (∀ x, c ≠ .rstN x) → c ≠ .wdog →
      (∀ x y z, c ≠ .porRelease x y z) → (∀ x, c ≠ .tickBoundary x) → c ≠ .xtalStop → c ≠ .xtalStable →
      (∀ x, c ≠ .loopclrAssert x) → (∀ x, c ≠ .loopclrDeassert x) → exec c s = .next s)
    ∧ (∀ (s : State) (b : Bool), s.boot.held = true →
      exec (if b then .xtalStable else .xtalStop) s = .next { s with tick := { s.tick with xtalRuns := b, xtalOk := b, xtalSeen := b } })
    ∧ (∀ (s : State) (ns : Nat), s.boot.held = true →
      exec (.loopclrAssert ns) s = .next (if 1000 ≤ ns then { s with ldac.pinLow := true, ldac.ripe := false } else s)
      ∧ exec (.loopclrDeassert ns) s = .next { s with ldac.pinLow := false, ldac.ripe := decide (1000 ≤ ns) })
    ∧ ∀ (s : State) (x : TickIn), s.boot.held = true → ∃ t, exec (.tickBoundary x) s = .next t
      ∧ t.tick.num = (if causeClass (reportedCause s.boot.causes) = 1 then s.tick.num else satTo (2 ^ 48 - 1) (s.tick.num + 1)) ∧ t.regs = s.regs ∧ t.mem = s.mem
      ∧ t = { s with tick.num := t.tick.num, keys.lockLeft := t.keys.lockLeft, flt.aonU := t.flt.aonU }
end

