-- ==== Sys2Proof/Laws/State.lean ====
section
/-! SUPPORT. The operations of registers and the parts of State that they leave alone: one lemma per operation and part, each by unfolding, so that no
later proof unfolds a record update. -/

namespace Sys2Proof.Machine.State

/-! ### wr -/

@[simp] theorem wr_pending (s : State) (p off : Nat) (w : Word) : (s.wr p off w).pending = s.pending := rfl
@[simp] theorem wr_eff (s : State) (p off : Nat) (w : Word) : (s.wr p off w).eff = s.eff := rfl
@[simp] theorem wr_locks (s : State) (p off : Nat) (w : Word) : (s.wr p off w).locks = s.locks := rfl
@[simp] theorem wr_mem (s : State) (p off : Nat) (w : Word) : (s.wr p off w).mem = s.mem := rfl
@[simp] theorem wr_cellMem (s : State) (p off : Nat) (w : Word) : (s.wr p off w).cellMem = s.cellMem := rfl
@[simp] theorem wr_ecc (s : State) (p off : Nat) (w : Word) : (s.wr p off w).ecc = s.ecc := rfl
@[simp] theorem wr_otp (s : State) (p off : Nat) (w : Word) : (s.wr p off w).otp = s.otp := rfl
@[simp] theorem wr_boot (s : State) (p off : Nat) (w : Word) : (s.wr p off w).boot = s.boot := rfl
@[simp] theorem wr_page (s : State) (p off : Nat) (w : Word) : (s.wr p off w).page = s.page := rfl
@[simp] theorem wr_flt (s : State) (p off : Nat) (w : Word) : (s.wr p off w).flt = s.flt := rfl
@[simp] theorem wr_acc (s : State) (p off : Nat) (w : Word) : (s.wr p off w).acc = s.acc := rfl
@[simp] theorem wr_spi (s : State) (p off : Nat) (w : Word) : (s.wr p off w).spi = s.spi := rfl
@[simp] theorem wr_slp (s : State) (p off : Nat) (w : Word) : (s.wr p off w).slp = s.slp := rfl
@[simp] theorem wr_nvm (s : State) (p off : Nat) (w : Word) : (s.wr p off w).nvm = s.nvm := rfl
@[simp] theorem wr_alm (s : State) (p off : Nat) (w : Word) : (s.wr p off w).alm = s.alm := rfl
@[simp] theorem wr_tick (s : State) (p off : Nat) (w : Word) : (s.wr p off w).tick = s.tick := rfl
@[simp] theorem wr_plan (s : State) (p off : Nat) (w : Word) : (s.wr p off w).plan = s.plan := rfl
@[simp] theorem wr_line (s : State) (p off : Nat) (w : Word) : (s.wr p off w).line = s.line := rfl
@[simp] theorem wr_ldac (s : State) (p off : Nat) (w : Word) : (s.wr p off w).ldac = s.ldac := rfl
@[simp] theorem wr_adac0 (s : State) (p off : Nat) (w : Word) : (s.wr p off w).adac0 = s.adac0 := rfl
@[simp] theorem wr_adac1 (s : State) (p off : Nat) (w : Word) : (s.wr p off w).adac1 = s.adac1 := rfl
@[simp] theorem wr_gov (s : State) (p off : Nat) (w : Word) : (s.wr p off w).gov = s.gov := rfl
@[simp] theorem wr_arr (s : State) (p off : Nat) (w : Word) : (s.wr p off w).arr = s.arr := rfl
@[simp] theorem wr_bist (s : State) (p off : Nat) (w : Word) : (s.wr p off w).bist = s.bist := rfl
@[simp] theorem wr_learn (s : State) (p off : Nat) (w : Word) : (s.wr p off w).learn = s.learn := rfl
@[simp] theorem wr_link (s : State) (p off : Nat) (w : Word) : (s.wr p off w).link = s.link := rfl
@[simp] theorem wr_ana (s : State) (p off : Nat) (w : Word) : (s.wr p off w).ana = s.ana := rfl
@[simp] theorem wr_fast0 (s : State) (p off : Nat) (w : Word) : (s.wr p off w).fast0 = s.fast0 := rfl
@[simp] theorem wr_fast1 (s : State) (p off : Nat) (w : Word) : (s.wr p off w).fast1 = s.fast1 := rfl
@[simp] theorem wr_stor (s : State) (p off : Nat) (w : Word) : (s.wr p off w).stor = s.stor := rfl
@[simp] theorem wr_keys (s : State) (p off : Nat) (w : Word) : (s.wr p off w).keys = s.keys := rfl
@[simp] theorem wr_pub (s : State) (p off : Nat) (w : Word) : (s.wr p off w).pub = s.pub := rfl
@[simp] theorem wr_dma (s : State) (p off : Nat) (w : Word) : (s.wr p off w).dma = s.dma := rfl
@[simp] theorem wr_fsk (s : State) (p off : Nat) (w : Word) : (s.wr p off w).fsk = s.fsk := rfl
@[simp] theorem wr_free (s : State) (p off : Nat) (w : Word) : (s.wr p off w).free = s.free := rfl

/-! ### wrE -/

@[simp] theorem wrE_pending (s : State) (p off : Nat) (w : Word) : (s.wrE p off w).pending = s.pending := rfl
@[simp] theorem wrE_regs (s : State) (p off : Nat) (w : Word) : (s.wrE p off w).regs = s.regs := rfl
@[simp] theorem wrE_locks (s : State) (p off : Nat) (w : Word) : (s.wrE p off w).locks = s.locks := rfl
@[simp] theorem wrE_mem (s : State) (p off : Nat) (w : Word) : (s.wrE p off w).mem = s.mem := rfl
@[simp] theorem wrE_cellMem (s : State) (p off : Nat) (w : Word) : (s.wrE p off w).cellMem = s.cellMem := rfl
@[simp] theorem wrE_ecc (s : State) (p off : Nat) (w : Word) : (s.wrE p off w).ecc = s.ecc := rfl
@[simp] theorem wrE_otp (s : State) (p off : Nat) (w : Word) : (s.wrE p off w).otp = s.otp := rfl
@[simp] theorem wrE_boot (s : State) (p off : Nat) (w : Word) : (s.wrE p off w).boot = s.boot := rfl
@[simp] theorem wrE_page (s : State) (p off : Nat) (w : Word) : (s.wrE p off w).page = s.page := rfl
@[simp] theorem wrE_flt (s : State) (p off : Nat) (w : Word) : (s.wrE p off w).flt = s.flt := rfl
@[simp] theorem wrE_acc (s : State) (p off : Nat) (w : Word) : (s.wrE p off w).acc = s.acc := rfl
@[simp] theorem wrE_spi (s : State) (p off : Nat) (w : Word) : (s.wrE p off w).spi = s.spi := rfl
@[simp] theorem wrE_slp (s : State) (p off : Nat) (w : Word) : (s.wrE p off w).slp = s.slp := rfl
@[simp] theorem wrE_nvm (s : State) (p off : Nat) (w : Word) : (s.wrE p off w).nvm = s.nvm := rfl
@[simp] theorem wrE_alm (s : State) (p off : Nat) (w : Word) : (s.wrE p off w).alm = s.alm := rfl
@[simp] theorem wrE_tick (s : State) (p off : Nat) (w : Word) : (s.wrE p off w).tick = s.tick := rfl
@[simp] theorem wrE_plan (s : State) (p off : Nat) (w : Word) : (s.wrE p off w).plan = s.plan := rfl
@[simp] theorem wrE_line (s : State) (p off : Nat) (w : Word) : (s.wrE p off w).line = s.line := rfl
@[simp] theorem wrE_ldac (s : State) (p off : Nat) (w : Word) : (s.wrE p off w).ldac = s.ldac := rfl
@[simp] theorem wrE_adac0 (s : State) (p off : Nat) (w : Word) : (s.wrE p off w).adac0 = s.adac0 := rfl
@[simp] theorem wrE_adac1 (s : State) (p off : Nat) (w : Word) : (s.wrE p off w).adac1 = s.adac1 := rfl
@[simp] theorem wrE_gov (s : State) (p off : Nat) (w : Word) : (s.wrE p off w).gov = s.gov := rfl
@[simp] theorem wrE_arr (s : State) (p off : Nat) (w : Word) : (s.wrE p off w).arr = s.arr := rfl
@[simp] theorem wrE_bist (s : State) (p off : Nat) (w : Word) : (s.wrE p off w).bist = s.bist := rfl
@[simp] theorem wrE_learn (s : State) (p off : Nat) (w : Word) : (s.wrE p off w).learn = s.learn := rfl
@[simp] theorem wrE_link (s : State) (p off : Nat) (w : Word) : (s.wrE p off w).link = s.link := rfl
@[simp] theorem wrE_ana (s : State) (p off : Nat) (w : Word) : (s.wrE p off w).ana = s.ana := rfl
@[simp] theorem wrE_fast0 (s : State) (p off : Nat) (w : Word) : (s.wrE p off w).fast0 = s.fast0 := rfl
@[simp] theorem wrE_fast1 (s : State) (p off : Nat) (w : Word) : (s.wrE p off w).fast1 = s.fast1 := rfl
@[simp] theorem wrE_stor (s : State) (p off : Nat) (w : Word) : (s.wrE p off w).stor = s.stor := rfl
@[simp] theorem wrE_keys (s : State) (p off : Nat) (w : Word) : (s.wrE p off w).keys = s.keys := rfl
@[simp] theorem wrE_pub (s : State) (p off : Nat) (w : Word) : (s.wrE p off w).pub = s.pub := rfl
@[simp] theorem wrE_dma (s : State) (p off : Nat) (w : Word) : (s.wrE p off w).dma = s.dma := rfl
@[simp] theorem wrE_fsk (s : State) (p off : Nat) (w : Word) : (s.wrE p off w).fsk = s.fsk := rfl
@[simp] theorem wrE_free (s : State) (p off : Nat) (w : Word) : (s.wrE p off w).free = s.free := rfl

/-! ### fresh -/

@[simp] theorem fresh_pending (s : State) (n : Nat) : (s.fresh n).pending = s.pending := rfl
@[simp] theorem fresh_regs (s : State) (n : Nat) : (s.fresh n).regs = s.regs := rfl
@[simp] theorem fresh_eff (s : State) (n : Nat) : (s.fresh n).eff = s.eff := rfl
@[simp] theorem fresh_locks (s : State) (n : Nat) : (s.fresh n).locks = s.locks := rfl
@[simp] theorem fresh_mem (s : State) (n : Nat) : (s.fresh n).mem = s.mem := rfl
@[simp] theorem fresh_cellMem (s : State) (n : Nat) : (s.fresh n).cellMem = s.cellMem := rfl
@[simp] theorem fresh_ecc (s : State) (n : Nat) : (s.fresh n).ecc = s.ecc := rfl
@[simp] theorem fresh_otp (s : State) (n : Nat) : (s.fresh n).otp = s.otp := rfl
@[simp] theorem fresh_boot (s : State) (n : Nat) : (s.fresh n).boot = s.boot := rfl
@[simp] theorem fresh_page (s : State) (n : Nat) : (s.fresh n).page = s.page := rfl
@[simp] theorem fresh_flt (s : State) (n : Nat) : (s.fresh n).flt = s.flt := rfl
@[simp] theorem fresh_acc (s : State) (n : Nat) : (s.fresh n).acc = s.acc := rfl
@[simp] theorem fresh_spi (s : State) (n : Nat) : (s.fresh n).spi = s.spi := rfl
@[simp] theorem fresh_slp (s : State) (n : Nat) : (s.fresh n).slp = s.slp := rfl
@[simp] theorem fresh_nvm (s : State) (n : Nat) : (s.fresh n).nvm = s.nvm := rfl
@[simp] theorem fresh_alm (s : State) (n : Nat) : (s.fresh n).alm = s.alm := rfl
@[simp] theorem fresh_tick (s : State) (n : Nat) : (s.fresh n).tick = s.tick := rfl
@[simp] theorem fresh_plan (s : State) (n : Nat) : (s.fresh n).plan = s.plan := rfl
@[simp] theorem fresh_line (s : State) (n : Nat) : (s.fresh n).line = s.line := rfl
@[simp] theorem fresh_ldac (s : State) (n : Nat) : (s.fresh n).ldac = s.ldac := rfl
@[simp] theorem fresh_adac0 (s : State) (n : Nat) : (s.fresh n).adac0 = s.adac0 := rfl
@[simp] theorem fresh_adac1 (s : State) (n : Nat) : (s.fresh n).adac1 = s.adac1 := rfl
@[simp] theorem fresh_gov (s : State) (n : Nat) : (s.fresh n).gov = s.gov := rfl
@[simp] theorem fresh_arr (s : State) (n : Nat) : (s.fresh n).arr = s.arr := rfl
@[simp] theorem fresh_bist (s : State) (n : Nat) : (s.fresh n).bist = s.bist := rfl
@[simp] theorem fresh_learn (s : State) (n : Nat) : (s.fresh n).learn = s.learn := rfl
@[simp] theorem fresh_link (s : State) (n : Nat) : (s.fresh n).link = s.link := rfl
@[simp] theorem fresh_ana (s : State) (n : Nat) : (s.fresh n).ana = s.ana := rfl
@[simp] theorem fresh_fast0 (s : State) (n : Nat) : (s.fresh n).fast0 = s.fast0 := rfl
@[simp] theorem fresh_fast1 (s : State) (n : Nat) : (s.fresh n).fast1 = s.fast1 := rfl
@[simp] theorem fresh_stor (s : State) (n : Nat) : (s.fresh n).stor = s.stor := rfl
@[simp] theorem fresh_keys (s : State) (n : Nat) : (s.fresh n).keys = s.keys := rfl
@[simp] theorem fresh_pub (s : State) (n : Nat) : (s.fresh n).pub = s.pub := rfl
@[simp] theorem fresh_dma (s : State) (n : Nat) : (s.fresh n).dma = s.dma := rfl
@[simp] theorem fresh_fsk (s : State) (n : Nat) : (s.fresh n).fsk = s.fsk := rfl

/-! ### disarm -/

@[simp] theorem disarm_pending (s : State) (p pt : Nat) : (s.disarm p pt).pending = s.pending := rfl
@[simp] theorem disarm_regs (s : State) (p pt : Nat) : (s.disarm p pt).regs = s.regs := rfl
@[simp] theorem disarm_eff (s : State) (p pt : Nat) : (s.disarm p pt).eff = s.eff := rfl
@[simp] theorem disarm_locks (s : State) (p pt : Nat) : (s.disarm p pt).locks = s.locks := rfl
@[simp] theorem disarm_mem (s : State) (p pt : Nat) : (s.disarm p pt).mem = s.mem := rfl
@[simp] theorem disarm_cellMem (s : State) (p pt : Nat) : (s.disarm p pt).cellMem = s.cellMem := rfl
@[simp] theorem disarm_ecc (s : State) (p pt : Nat) : (s.disarm p pt).ecc = s.ecc := rfl
@[simp] theorem disarm_otp (s : State) (p pt : Nat) : (s.disarm p pt).otp = s.otp := rfl
@[simp] theorem disarm_boot (s : State) (p pt : Nat) : (s.disarm p pt).boot = s.boot := rfl
@[simp] theorem disarm_flt (s : State) (p pt : Nat) : (s.disarm p pt).flt = s.flt := rfl
@[simp] theorem disarm_acc (s : State) (p pt : Nat) : (s.disarm p pt).acc = s.acc := rfl
@[simp] theorem disarm_spi (s : State) (p pt : Nat) : (s.disarm p pt).spi = s.spi := rfl
@[simp] theorem disarm_slp (s : State) (p pt : Nat) : (s.disarm p pt).slp = s.slp := rfl
@[simp] theorem disarm_nvm (s : State) (p pt : Nat) : (s.disarm p pt).nvm = s.nvm := rfl
@[simp] theorem disarm_alm (s : State) (p pt : Nat) : (s.disarm p pt).alm = s.alm := rfl
@[simp] theorem disarm_tick (s : State) (p pt : Nat) : (s.disarm p pt).tick = s.tick := rfl
@[simp] theorem disarm_plan (s : State) (p pt : Nat) : (s.disarm p pt).plan = s.plan := rfl
@[simp] theorem disarm_line (s : State) (p pt : Nat) : (s.disarm p pt).line = s.line := rfl
@[simp] theorem disarm_ldac (s : State) (p pt : Nat) : (s.disarm p pt).ldac = s.ldac := rfl
@[simp] theorem disarm_adac0 (s : State) (p pt : Nat) : (s.disarm p pt).adac0 = s.adac0 := rfl
@[simp] theorem disarm_adac1 (s : State) (p pt : Nat) : (s.disarm p pt).adac1 = s.adac1 := rfl
@[simp] theorem disarm_gov (s : State) (p pt : Nat) : (s.disarm p pt).gov = s.gov := rfl
@[simp] theorem disarm_arr (s : State) (p pt : Nat) : (s.disarm p pt).arr = s.arr := rfl
@[simp] theorem disarm_bist (s : State) (p pt : Nat) : (s.disarm p pt).bist = s.bist := rfl
@[simp] theorem disarm_learn (s : State) (p pt : Nat) : (s.disarm p pt).learn = s.learn := rfl
@[simp] theorem disarm_link (s : State) (p pt : Nat) : (s.disarm p pt).link = s.link := rfl
@[simp] theorem disarm_ana (s : State) (p pt : Nat) : (s.disarm p pt).ana = s.ana := rfl
@[simp] theorem disarm_fast0 (s : State) (p pt : Nat) : (s.disarm p pt).fast0 = s.fast0 := rfl
@[simp] theorem disarm_fast1 (s : State) (p pt : Nat) : (s.disarm p pt).fast1 = s.fast1 := rfl
@[simp] theorem disarm_stor (s : State) (p pt : Nat) : (s.disarm p pt).stor = s.stor := rfl
@[simp] theorem disarm_keys (s : State) (p pt : Nat) : (s.disarm p pt).keys = s.keys := rfl
@[simp] theorem disarm_pub (s : State) (p pt : Nat) : (s.disarm p pt).pub = s.pub := rfl
@[simp] theorem disarm_dma (s : State) (p pt : Nat) : (s.disarm p pt).dma = s.dma := rfl
@[simp] theorem disarm_fsk (s : State) (p pt : Nat) : (s.disarm p pt).fsk = s.fsk := rfl
@[simp] theorem disarm_free (s : State) (p pt : Nat) : (s.disarm p pt).free = s.free := rfl

/-! ### putS -/

@[simp] theorem putS_pending (s : State) (f : Fld) (v : Nat) : (s.putS f v).pending = s.pending := rfl
@[simp] theorem putS_eff (s : State) (f : Fld) (v : Nat) : (s.putS f v).eff = s.eff := rfl
@[simp] theorem putS_locks (s : State) (f : Fld) (v : Nat) : (s.putS f v).locks = s.locks := rfl
@[simp] theorem putS_mem (s : State) (f : Fld) (v : Nat) : (s.putS f v).mem = s.mem := rfl
@[simp] theorem putS_cellMem (s : State) (f : Fld) (v : Nat) : (s.putS f v).cellMem = s.cellMem := rfl
@[simp] theorem putS_ecc (s : State) (f : Fld) (v : Nat) : (s.putS f v).ecc = s.ecc := rfl
@[simp] theorem putS_otp (s : State) (f : Fld) (v : Nat) : (s.putS f v).otp = s.otp := rfl
@[simp] theorem putS_boot (s : State) (f : Fld) (v : Nat) : (s.putS f v).boot = s.boot := rfl
@[simp] theorem putS_page (s : State) (f : Fld) (v : Nat) : (s.putS f v).page = s.page := rfl
@[simp] theorem putS_flt (s : State) (f : Fld) (v : Nat) : (s.putS f v).flt = s.flt := rfl
@[simp] theorem putS_acc (s : State) (f : Fld) (v : Nat) : (s.putS f v).acc = s.acc := rfl
@[simp] theorem putS_spi (s : State) (f : Fld) (v : Nat) : (s.putS f v).spi = s.spi := rfl
@[simp] theorem putS_slp (s : State) (f : Fld) (v : Nat) : (s.putS f v).slp = s.slp := rfl
@[simp] theorem putS_nvm (s : State) (f : Fld) (v : Nat) : (s.putS f v).nvm = s.nvm := rfl
@[simp] theorem putS_alm (s : State) (f : Fld) (v : Nat) : (s.putS f v).alm = s.alm := rfl
@[simp] theorem putS_tick (s : State) (f : Fld) (v : Nat) : (s.putS f v).tick = s.tick := rfl
@[simp] theorem putS_plan (s : State) (f : Fld) (v : Nat) : (s.putS f v).plan = s.plan := rfl
@[simp] theorem putS_line (s : State) (f : Fld) (v : Nat) : (s.putS f v).line = s.line := rfl
@[simp] theorem putS_ldac (s : State) (f : Fld) (v : Nat) : (s.putS f v).ldac = s.ldac := rfl
@[simp] theorem putS_adac0 (s : State) (f : Fld) (v : Nat) : (s.putS f v).adac0 = s.adac0 := rfl
@[simp] theorem putS_adac1 (s : State) (f : Fld) (v : Nat) : (s.putS f v).adac1 = s.adac1 := rfl
@[simp] theorem putS_gov (s : State) (f : Fld) (v : Nat) : (s.putS f v).gov = s.gov := rfl
@[simp] theorem putS_arr (s : State) (f : Fld) (v : Nat) : (s.putS f v).arr = s.arr := rfl
@[simp] theorem putS_bist (s : State) (f : Fld) (v : Nat) : (s.putS f v).bist = s.bist := rfl
@[simp] theorem putS_learn (s : State) (f : Fld) (v : Nat) : (s.putS f v).learn = s.learn := rfl
@[simp] theorem putS_link (s : State) (f : Fld) (v : Nat) : (s.putS f v).link = s.link := rfl
@[simp] theorem putS_ana (s : State) (f : Fld) (v : Nat) : (s.putS f v).ana = s.ana := rfl
@[simp] theorem putS_fast0 (s : State) (f : Fld) (v : Nat) : (s.putS f v).fast0 = s.fast0 := rfl
@[simp] theorem putS_fast1 (s : State) (f : Fld) (v : Nat) : (s.putS f v).fast1 = s.fast1 := rfl
@[simp] theorem putS_stor (s : State) (f : Fld) (v : Nat) : (s.putS f v).stor = s.stor := rfl
@[simp] theorem putS_keys (s : State) (f : Fld) (v : Nat) : (s.putS f v).keys = s.keys := rfl
@[simp] theorem putS_pub (s : State) (f : Fld) (v : Nat) : (s.putS f v).pub = s.pub := rfl
@[simp] theorem putS_dma (s : State) (f : Fld) (v : Nat) : (s.putS f v).dma = s.dma := rfl
@[simp] theorem putS_fsk (s : State) (f : Fld) (v : Nat) : (s.putS f v).fsk = s.fsk := rfl
@[simp] theorem putS_free (s : State) (f : Fld) (v : Nat) : (s.putS f v).free = s.free := rfl

/-! ### raise -/

@[simp] theorem raise_pending (s : State) (e : Nat × Nat) : (s.raise e).pending = s.pending := rfl
@[simp] theorem raise_eff (s : State) (e : Nat × Nat) : (s.raise e).eff = s.eff := rfl
@[simp] theorem raise_locks (s : State) (e : Nat × Nat) : (s.raise e).locks = s.locks := rfl
@[simp] theorem raise_mem (s : State) (e : Nat × Nat) : (s.raise e).mem = s.mem := rfl
@[simp] theorem raise_cellMem (s : State) (e : Nat × Nat) : (s.raise e).cellMem = s.cellMem := rfl
@[simp] theorem raise_ecc (s : State) (e : Nat × Nat) : (s.raise e).ecc = s.ecc := rfl
@[simp] theorem raise_otp (s : State) (e : Nat × Nat) : (s.raise e).otp = s.otp := rfl
@[simp] theorem raise_boot (s : State) (e : Nat × Nat) : (s.raise e).boot = s.boot := rfl
@[simp] theorem raise_page (s : State) (e : Nat × Nat) : (s.raise e).page = s.page := rfl
@[simp] theorem raise_flt (s : State) (e : Nat × Nat) : (s.raise e).flt = s.flt := rfl
@[simp] theorem raise_acc (s : State) (e : Nat × Nat) : (s.raise e).acc = s.acc := rfl
@[simp] theorem raise_spi (s : State) (e : Nat × Nat) : (s.raise e).spi = s.spi := rfl
@[simp] theorem raise_slp (s : State) (e : Nat × Nat) : (s.raise e).slp = s.slp := rfl
@[simp] theorem raise_nvm (s : State) (e : Nat × Nat) : (s.raise e).nvm = s.nvm := rfl
@[simp] theorem raise_alm (s : State) (e : Nat × Nat) : (s.raise e).alm = s.alm := rfl
@[simp] theorem raise_tick (s : State) (e : Nat × Nat) : (s.raise e).tick = s.tick := rfl
@[simp] theorem raise_plan (s : State) (e : Nat × Nat) : (s.raise e).plan = s.plan := rfl
@[simp] theorem raise_line (s : State) (e : Nat × Nat) : (s.raise e).line = s.line := rfl
@[simp] theorem raise_ldac (s : State) (e : Nat × Nat) : (s.raise e).ldac = s.ldac := rfl
@[simp] theorem raise_adac0 (s : State) (e : Nat × Nat) : (s.raise e).adac0 = s.adac0 := rfl
@[simp] theorem raise_adac1 (s : State) (e : Nat × Nat) : (s.raise e).adac1 = s.adac1 := rfl
@[simp] theorem raise_gov (s : State) (e : Nat × Nat) : (s.raise e).gov = s.gov := rfl
@[simp] theorem raise_arr (s : State) (e : Nat × Nat) : (s.raise e).arr = s.arr := rfl
@[simp] theorem raise_bist (s : State) (e : Nat × Nat) : (s.raise e).bist = s.bist := rfl
@[simp] theorem raise_learn (s : State) (e : Nat × Nat) : (s.raise e).learn = s.learn := rfl
@[simp] theorem raise_link (s : State) (e : Nat × Nat) : (s.raise e).link = s.link := rfl
@[simp] theorem raise_ana (s : State) (e : Nat × Nat) : (s.raise e).ana = s.ana := rfl
@[simp] theorem raise_fast0 (s : State) (e : Nat × Nat) : (s.raise e).fast0 = s.fast0 := rfl
@[simp] theorem raise_fast1 (s : State) (e : Nat × Nat) : (s.raise e).fast1 = s.fast1 := rfl
@[simp] theorem raise_stor (s : State) (e : Nat × Nat) : (s.raise e).stor = s.stor := rfl
@[simp] theorem raise_keys (s : State) (e : Nat × Nat) : (s.raise e).keys = s.keys := rfl
@[simp] theorem raise_pub (s : State) (e : Nat × Nat) : (s.raise e).pub = s.pub := rfl
@[simp] theorem raise_dma (s : State) (e : Nat × Nat) : (s.raise e).dma = s.dma := rfl
@[simp] theorem raise_fsk (s : State) (e : Nat × Nat) : (s.raise e).fsk = s.fsk := rfl
@[simp] theorem raise_free (s : State) (e : Nat × Nat) : (s.raise e).free = s.free := rfl

/-! ### put -/

@[simp] theorem put_pending (s : State) (f : Fld) (v : Nat) : (s.put f v).pending = s.pending := by unfold put; split <;> rfl
@[simp] theorem put_locks (s : State) (f : Fld) (v : Nat) : (s.put f v).locks = s.locks := by unfold put; split <;> rfl
@[simp] theorem put_mem (s : State) (f : Fld) (v : Nat) : (s.put f v).mem = s.mem := by unfold put; split <;> rfl
@[simp] theorem put_cellMem (s : State) (f : Fld) (v : Nat) : (s.put f v).cellMem = s.cellMem := by unfold put; split <;> rfl
@[simp] theorem put_ecc (s : State) (f : Fld) (v : Nat) : (s.put f v).ecc = s.ecc := by unfold put; split <;> rfl
@[simp] theorem put_otp (s : State) (f : Fld) (v : Nat) : (s.put f v).otp = s.otp := by unfold put; split <;> rfl
@[simp] theorem put_boot (s : State) (f : Fld) (v : Nat) : (s.put f v).boot = s.boot := by unfold put; split <;> rfl
@[simp] theorem put_page (s : State) (f : Fld) (v : Nat) : (s.put f v).page = s.page := by unfold put; split <;> rfl
@[simp] theorem put_flt (s : State) (f : Fld) (v : Nat) : (s.put f v).flt = s.flt := by unfold put; split <;> rfl
@[simp] theorem put_acc (s : State) (f : Fld) (v : Nat) : (s.put f v).acc = s.acc := by unfold put; split <;> rfl
@[simp] theorem put_spi (s : State) (f : Fld) (v : Nat) : (s.put f v).spi = s.spi := by unfold put; split <;> rfl
@[simp] theorem put_slp (s : State) (f : Fld) (v : Nat) : (s.put f v).slp = s.slp := by unfold put; split <;> rfl
@[simp] theorem put_nvm (s : State) (f : Fld) (v : Nat) : (s.put f v).nvm = s.nvm := by unfold put; split <;> rfl
@[simp] theorem put_alm (s : State) (f : Fld) (v : Nat) : (s.put f v).alm = s.alm := by unfold put; split <;> rfl
@[simp] theorem put_tick (s : State) (f : Fld) (v : Nat) : (s.put f v).tick = s.tick := by unfold put; split <;> rfl
@[simp] theorem put_plan (s : State) (f : Fld) (v : Nat) : (s.put f v).plan = s.plan := by unfold put; split <;> rfl
@[simp] theorem put_line (s : State) (f : Fld) (v : Nat) : (s.put f v).line = s.line := by unfold put; split <;> rfl
@[simp] theorem put_ldac (s : State) (f : Fld) (v : Nat) : (s.put f v).ldac = s.ldac := by unfold put; split <;> rfl
@[simp] theorem put_adac0 (s : State) (f : Fld) (v : Nat) : (s.put f v).adac0 = s.adac0 := by unfold put; split <;> rfl
@[simp] theorem put_adac1 (s : State) (f : Fld) (v : Nat) : (s.put f v).adac1 = s.adac1 := by unfold put; split <;> rfl
@[simp] theorem put_gov (s : State) (f : Fld) (v : Nat) : (s.put f v).gov = s.gov := by unfold put; split <;> rfl
@[simp] theorem put_arr (s : State) (f : Fld) (v : Nat) : (s.put f v).arr = s.arr := by unfold put; split <;> rfl
@[simp] theorem put_bist (s : State) (f : Fld) (v : Nat) : (s.put f v).bist = s.bist := by unfold put; split <;> rfl
@[simp] theorem put_learn (s : State) (f : Fld) (v : Nat) : (s.put f v).learn = s.learn := by unfold put; split <;> rfl
@[simp] theorem put_link (s : State) (f : Fld) (v : Nat) : (s.put f v).link = s.link := by unfold put; split <;> rfl
@[simp] theorem put_ana (s : State) (f : Fld) (v : Nat) : (s.put f v).ana = s.ana := by unfold put; split <;> rfl
@[simp] theorem put_fast0 (s : State) (f : Fld) (v : Nat) : (s.put f v).fast0 = s.fast0 := by unfold put; split <;> rfl
@[simp] theorem put_fast1 (s : State) (f : Fld) (v : Nat) : (s.put f v).fast1 = s.fast1 := by unfold put; split <;> rfl
@[simp] theorem put_stor (s : State) (f : Fld) (v : Nat) : (s.put f v).stor = s.stor := by unfold put; split <;> rfl
@[simp] theorem put_keys (s : State) (f : Fld) (v : Nat) : (s.put f v).keys = s.keys := by unfold put; split <;> rfl
@[simp] theorem put_pub (s : State) (f : Fld) (v : Nat) : (s.put f v).pub = s.pub := by unfold put; split <;> rfl
@[simp] theorem put_dma (s : State) (f : Fld) (v : Nat) : (s.put f v).dma = s.dma := by unfold put; split <;> rfl
@[simp] theorem put_fsk (s : State) (f : Fld) (v : Nat) : (s.put f v).fsk = s.fsk := by unfold put; split <;> rfl
@[simp] theorem put_free (s : State) (f : Fld) (v : Nat) : (s.put f v).free = s.free := by unfold put; split <;> rfl

/-! ### putB -/

@[simp] theorem putB_pending (s : State) (f : Fld) (b : Bool) : (s.putB f b).pending = s.pending := put_pending s f _
@[simp] theorem putB_locks (s : State) (f : Fld) (b : Bool) : (s.putB f b).locks = s.locks := put_locks s f _
@[simp] theorem putB_mem (s : State) (f : Fld) (b : Bool) : (s.putB f b).mem = s.mem := put_mem s f _
@[simp] theorem putB_cellMem (s : State) (f : Fld) (b : Bool) : (s.putB f b).cellMem = s.cellMem := put_cellMem s f _
@[simp] theorem putB_ecc (s : State) (f : Fld) (b : Bool) : (s.putB f b).ecc = s.ecc := put_ecc s f _
@[simp] theorem putB_otp (s : State) (f : Fld) (b : Bool) : (s.putB f b).otp = s.otp := put_otp s f _
@[simp] theorem putB_boot (s : State) (f : Fld) (b : Bool) : (s.putB f b).boot = s.boot := put_boot s f _
@[simp] theorem putB_page (s : State) (f : Fld) (b : Bool) : (s.putB f b).page = s.page := put_page s f _
@[simp] theorem putB_flt (s : State) (f : Fld) (b : Bool) : (s.putB f b).flt = s.flt := put_flt s f _
@[simp] theorem putB_acc (s : State) (f : Fld) (b : Bool) : (s.putB f b).acc = s.acc := put_acc s f _
@[simp] theorem putB_spi (s : State) (f : Fld) (b : Bool) : (s.putB f b).spi = s.spi := put_spi s f _
@[simp] theorem putB_slp (s : State) (f : Fld) (b : Bool) : (s.putB f b).slp = s.slp := put_slp s f _
@[simp] theorem putB_nvm (s : State) (f : Fld) (b : Bool) : (s.putB f b).nvm = s.nvm := put_nvm s f _
@[simp] theorem putB_alm (s : State) (f : Fld) (b : Bool) : (s.putB f b).alm = s.alm := put_alm s f _
@[simp] theorem putB_tick (s : State) (f : Fld) (b : Bool) : (s.putB f b).tick = s.tick := put_tick s f _
@[simp] theorem putB_plan (s : State) (f : Fld) (b : Bool) : (s.putB f b).plan = s.plan := put_plan s f _
@[simp] theorem putB_line (s : State) (f : Fld) (b : Bool) : (s.putB f b).line = s.line := put_line s f _
@[simp] theorem putB_ldac (s : State) (f : Fld) (b : Bool) : (s.putB f b).ldac = s.ldac := put_ldac s f _
@[simp] theorem putB_adac0 (s : State) (f : Fld) (b : Bool) : (s.putB f b).adac0 = s.adac0 := put_adac0 s f _
@[simp] theorem putB_adac1 (s : State) (f : Fld) (b : Bool) : (s.putB f b).adac1 = s.adac1 := put_adac1 s f _
@[simp] theorem putB_gov (s : State) (f : Fld) (b : Bool) : (s.putB f b).gov = s.gov := put_gov s f _
@[simp] theorem putB_arr (s : State) (f : Fld) (b : Bool) : (s.putB f b).arr = s.arr := put_arr s f _
@[simp] theorem putB_bist (s : State) (f : Fld) (b : Bool) : (s.putB f b).bist = s.bist := put_bist s f _
@[simp] theorem putB_learn (s : State) (f : Fld) (b : Bool) : (s.putB f b).learn = s.learn := put_learn s f _
@[simp] theorem putB_link (s : State) (f : Fld) (b : Bool) : (s.putB f b).link = s.link := put_link s f _
@[simp] theorem putB_ana (s : State) (f : Fld) (b : Bool) : (s.putB f b).ana = s.ana := put_ana s f _
@[simp] theorem putB_fast0 (s : State) (f : Fld) (b : Bool) : (s.putB f b).fast0 = s.fast0 := put_fast0 s f _
@[simp] theorem putB_fast1 (s : State) (f : Fld) (b : Bool) : (s.putB f b).fast1 = s.fast1 := put_fast1 s f _
@[simp] theorem putB_stor (s : State) (f : Fld) (b : Bool) : (s.putB f b).stor = s.stor := put_stor s f _
@[simp] theorem putB_keys (s : State) (f : Fld) (b : Bool) : (s.putB f b).keys = s.keys := put_keys s f _
@[simp] theorem putB_pub (s : State) (f : Fld) (b : Bool) : (s.putB f b).pub = s.pub := put_pub s f _
@[simp] theorem putB_dma (s : State) (f : Fld) (b : Bool) : (s.putB f b).dma = s.dma := put_dma s f _
@[simp] theorem putB_fsk (s : State) (f : Fld) (b : Bool) : (s.putB f b).fsk = s.fsk := put_fsk s f _
@[simp] theorem putB_free (s : State) (f : Fld) (b : Bool) : (s.putB f b).free = s.free := put_free s f _

/-! ### putI -/

@[simp] theorem putI_pending (s : State) (f : Fld) (x : Int) : (s.putI f x).pending = s.pending := put_pending s f _
@[simp] theorem putI_locks (s : State) (f : Fld) (x : Int) : (s.putI f x).locks = s.locks := put_locks s f _
@[simp] theorem putI_mem (s : State) (f : Fld) (x : Int) : (s.putI f x).mem = s.mem := put_mem s f _
@[simp] theorem putI_cellMem (s : State) (f : Fld) (x : Int) : (s.putI f x).cellMem = s.cellMem := put_cellMem s f _
@[simp] theorem putI_ecc (s : State) (f : Fld) (x : Int) : (s.putI f x).ecc = s.ecc := put_ecc s f _
@[simp] theorem putI_otp (s : State) (f : Fld) (x : Int) : (s.putI f x).otp = s.otp := put_otp s f _
@[simp] theorem putI_boot (s : State) (f : Fld) (x : Int) : (s.putI f x).boot = s.boot := put_boot s f _
@[simp] theorem putI_page (s : State) (f : Fld) (x : Int) : (s.putI f x).page = s.page := put_page s f _
@[simp] theorem putI_flt (s : State) (f : Fld) (x : Int) : (s.putI f x).flt = s.flt := put_flt s f _
@[simp] theorem putI_acc (s : State) (f : Fld) (x : Int) : (s.putI f x).acc = s.acc := put_acc s f _
@[simp] theorem putI_spi (s : State) (f : Fld) (x : Int) : (s.putI f x).spi = s.spi := put_spi s f _
@[simp] theorem putI_slp (s : State) (f : Fld) (x : Int) : (s.putI f x).slp = s.slp := put_slp s f _
@[simp] theorem putI_nvm (s : State) (f : Fld) (x : Int) : (s.putI f x).nvm = s.nvm := put_nvm s f _
@[simp] theorem putI_alm (s : State) (f : Fld) (x : Int) : (s.putI f x).alm = s.alm := put_alm s f _
@[simp] theorem putI_tick (s : State) (f : Fld) (x : Int) : (s.putI f x).tick = s.tick := put_tick s f _
@[simp] theorem putI_plan (s : State) (f : Fld) (x : Int) : (s.putI f x).plan = s.plan := put_plan s f _
@[simp] theorem putI_line (s : State) (f : Fld) (x : Int) : (s.putI f x).line = s.line := put_line s f _
@[simp] theorem putI_ldac (s : State) (f : Fld) (x : Int) : (s.putI f x).ldac = s.ldac := put_ldac s f _
@[simp] theorem putI_adac0 (s : State) (f : Fld) (x : Int) : (s.putI f x).adac0 = s.adac0 := put_adac0 s f _
@[simp] theorem putI_adac1 (s : State) (f : Fld) (x : Int) : (s.putI f x).adac1 = s.adac1 := put_adac1 s f _
@[simp] theorem putI_gov (s : State) (f : Fld) (x : Int) : (s.putI f x).gov = s.gov := put_gov s f _
@[simp] theorem putI_arr (s : State) (f : Fld) (x : Int) : (s.putI f x).arr = s.arr := put_arr s f _
@[simp] theorem putI_bist (s : State) (f : Fld) (x : Int) : (s.putI f x).bist = s.bist := put_bist s f _
@[simp] theorem putI_learn (s : State) (f : Fld) (x : Int) : (s.putI f x).learn = s.learn := put_learn s f _
@[simp] theorem putI_link (s : State) (f : Fld) (x : Int) : (s.putI f x).link = s.link := put_link s f _
@[simp] theorem putI_ana (s : State) (f : Fld) (x : Int) : (s.putI f x).ana = s.ana := put_ana s f _
@[simp] theorem putI_fast0 (s : State) (f : Fld) (x : Int) : (s.putI f x).fast0 = s.fast0 := put_fast0 s f _
@[simp] theorem putI_fast1 (s : State) (f : Fld) (x : Int) : (s.putI f x).fast1 = s.fast1 := put_fast1 s f _
@[simp] theorem putI_stor (s : State) (f : Fld) (x : Int) : (s.putI f x).stor = s.stor := put_stor s f _
@[simp] theorem putI_keys (s : State) (f : Fld) (x : Int) : (s.putI f x).keys = s.keys := put_keys s f _
@[simp] theorem putI_pub (s : State) (f : Fld) (x : Int) : (s.putI f x).pub = s.pub := put_pub s f _
@[simp] theorem putI_dma (s : State) (f : Fld) (x : Int) : (s.putI f x).dma = s.dma := put_dma s f _
@[simp] theorem putI_fsk (s : State) (f : Fld) (x : Int) : (s.putI f x).fsk = s.fsk := put_fsk s f _
@[simp] theorem putI_free (s : State) (f : Fld) (x : Int) : (s.putI f x).free = s.free := put_free s f _

/-! ### bump -/

@[simp] theorem bump_pending (s : State) (f : Fld) (n : Nat) : (s.bump f n).pending = s.pending := put_pending s f _
@[simp] theorem bump_locks (s : State) (f : Fld) (n : Nat) : (s.bump f n).locks = s.locks := put_locks s f _
@[simp] theorem bump_mem (s : State) (f : Fld) (n : Nat) : (s.bump f n).mem = s.mem := put_mem s f _
@[simp] theorem bump_cellMem (s : State) (f : Fld) (n : Nat) : (s.bump f n).cellMem = s.cellMem := put_cellMem s f _
@[simp] theorem bump_ecc (s : State) (f : Fld) (n : Nat) : (s.bump f n).ecc = s.ecc := put_ecc s f _
@[simp] theorem bump_otp (s : State) (f : Fld) (n : Nat) : (s.bump f n).otp = s.otp := put_otp s f _
@[simp] theorem bump_boot (s : State) (f : Fld) (n : Nat) : (s.bump f n).boot = s.boot := put_boot s f _
@[simp] theorem bump_page (s : State) (f : Fld) (n : Nat) : (s.bump f n).page = s.page := put_page s f _
@[simp] theorem bump_flt (s : State) (f : Fld) (n : Nat) : (s.bump f n).flt = s.flt := put_flt s f _
@[simp] theorem bump_acc (s : State) (f : Fld) (n : Nat) : (s.bump f n).acc = s.acc := put_acc s f _
@[simp] theorem bump_spi (s : State) (f : Fld) (n : Nat) : (s.bump f n).spi = s.spi := put_spi s f _
@[simp] theorem bump_slp (s : State) (f : Fld) (n : Nat) : (s.bump f n).slp = s.slp := put_slp s f _
@[simp] theorem bump_nvm (s : State) (f : Fld) (n : Nat) : (s.bump f n).nvm = s.nvm := put_nvm s f _
@[simp] theorem bump_alm (s : State) (f : Fld) (n : Nat) : (s.bump f n).alm = s.alm := put_alm s f _
@[simp] theorem bump_tick (s : State) (f : Fld) (n : Nat) : (s.bump f n).tick = s.tick := put_tick s f _
@[simp] theorem bump_plan (s : State) (f : Fld) (n : Nat) : (s.bump f n).plan = s.plan := put_plan s f _
@[simp] theorem bump_line (s : State) (f : Fld) (n : Nat) : (s.bump f n).line = s.line := put_line s f _
@[simp] theorem bump_ldac (s : State) (f : Fld) (n : Nat) : (s.bump f n).ldac = s.ldac := put_ldac s f _
@[simp] theorem bump_adac0 (s : State) (f : Fld) (n : Nat) : (s.bump f n).adac0 = s.adac0 := put_adac0 s f _
@[simp] theorem bump_adac1 (s : State) (f : Fld) (n : Nat) : (s.bump f n).adac1 = s.adac1 := put_adac1 s f _
@[simp] theorem bump_gov (s : State) (f : Fld) (n : Nat) : (s.bump f n).gov = s.gov := put_gov s f _
@[simp] theorem bump_arr (s : State) (f : Fld) (n : Nat) : (s.bump f n).arr = s.arr := put_arr s f _
@[simp] theorem bump_bist (s : State) (f : Fld) (n : Nat) : (s.bump f n).bist = s.bist := put_bist s f _
@[simp] theorem bump_learn (s : State) (f : Fld) (n : Nat) : (s.bump f n).learn = s.learn := put_learn s f _
@[simp] theorem bump_link (s : State) (f : Fld) (n : Nat) : (s.bump f n).link = s.link := put_link s f _
@[simp] theorem bump_ana (s : State) (f : Fld) (n : Nat) : (s.bump f n).ana = s.ana := put_ana s f _
@[simp] theorem bump_fast0 (s : State) (f : Fld) (n : Nat) : (s.bump f n).fast0 = s.fast0 := put_fast0 s f _
@[simp] theorem bump_fast1 (s : State) (f : Fld) (n : Nat) : (s.bump f n).fast1 = s.fast1 := put_fast1 s f _
@[simp] theorem bump_stor (s : State) (f : Fld) (n : Nat) : (s.bump f n).stor = s.stor := put_stor s f _
@[simp] theorem bump_keys (s : State) (f : Fld) (n : Nat) : (s.bump f n).keys = s.keys := put_keys s f _
@[simp] theorem bump_pub (s : State) (f : Fld) (n : Nat) : (s.bump f n).pub = s.pub := put_pub s f _
@[simp] theorem bump_dma (s : State) (f : Fld) (n : Nat) : (s.bump f n).dma = s.dma := put_dma s f _
@[simp] theorem bump_fsk (s : State) (f : Fld) (n : Nat) : (s.bump f n).fsk = s.fsk := put_fsk s f _
@[simp] theorem bump_free (s : State) (f : Fld) (n : Nat) : (s.bump f n).free = s.free := put_free s f _

end Sys2Proof.Machine.State
end

