-- ==== Sys2Proof/Laws/Registers.lean ====
section
/-! SUPPORT. Register words and fields: what a write leaves readable, and what it leaves alone. -/

namespace Sys2Proof.Machine

/-! ### Tables by key -/

theorem aget_aset_same {α : Type} (m : Assoc α) (k : Nat) (x : α) : aget (aset m k x) k = some x := by
  induction m with
  | nil => simp [aset, aget]
  | cons h t ih =>
    obtain ⟨a, v⟩ := h
    unfold aset
    by_cases h1 : a = k
    · simp [h1, aget]
    · by_cases h2 : k < a
      · simp [h1, h2, aget]
      · simp [h1, h2, aget, ih]

theorem aget_aset_ne {α : Type} (m : Assoc α) {k j : Nat} (x : α) (h : k ≠ j) : aget (aset m k x) j = aget m j := by
  induction m with
  | nil => simp [aset, aget, h]
  | cons e t ih =>
    obtain ⟨a, v⟩ := e
    unfold aset
    by_cases h1 : a = k
    · subst h1; simp [aget, h]
    · by_cases h2 : k < a
      · simp [h1, h2, aget, h]
      · simp [h1, h2, aget, ih]

/-! ### Bit fields of a word -/

theorem getBits_lt (w : Word) (hi lo : Nat) : getBits w hi lo < 2 ^ (hi + 1 - lo) := Nat.mod_lt _ (Nat.two_pow_pos _)

/-- A field that was set reads back its value modulo its width. -/
theorem getBits_putBits (w : Word) {hi lo : Nat} (v : Nat) (h : lo ≤ hi) (h' : hi < 32) :
    getBits (putBits w hi lo v) hi lo = v % 2 ^ (hi + 1 - lo) := by
  unfold getBits putBits
  have e : 2 ^ (hi + 1) = 2 ^ lo * 2 ^ (hi + 1 - lo) := by rw [← Nat.pow_add]; congr 1; omega
  have hw : w.toNat < 2 ^ 32 := w.isLt
  have hr : w.toNat % 2 ^ lo < 2 ^ lo := Nat.mod_lt _ (Nat.two_pow_pos _)
  have hv : v % 2 ^ (hi + 1 - lo) < 2 ^ (hi + 1 - lo) := Nat.mod_lt _ (Nat.two_pow_pos _)
  have hsum : w.toNat / 2 ^ (hi + 1) * 2 ^ (hi + 1) + v % 2 ^ (hi + 1 - lo) * 2 ^ lo + w.toNat % 2 ^ lo < 2 ^ 32 := by
    have hq : w.toNat / 2 ^ (hi + 1) < 2 ^ (32 - (hi + 1)) := by
      rw [Nat.div_lt_iff_lt_mul (Nat.two_pow_pos _), ← Nat.pow_add]
      have : 32 - (hi + 1) + (hi + 1) = 32 := by omega
      rw [this]; exact hw
    have hlow : v % 2 ^ (hi + 1 - lo) * 2 ^ lo + w.toNat % 2 ^ lo < 2 ^ (hi + 1) := by
      rw [e]; nlinarith [Nat.two_pow_pos lo]
    have : 2 ^ 32 = 2 ^ (32 - (hi + 1)) * 2 ^ (hi + 1) := by rw [← Nat.pow_add]; congr 1; omega
    nlinarith [Nat.two_pow_pos (hi + 1)]
  rw [BitVec.toNat_ofNat, Nat.mod_eq_of_lt hsum]
  have h1 : (w.toNat / 2 ^ (hi + 1) * 2 ^ (hi + 1) + v % 2 ^ (hi + 1 - lo) * 2 ^ lo + w.toNat % 2 ^ lo) / 2 ^ lo
      = w.toNat / 2 ^ (hi + 1) * 2 ^ (hi + 1 - lo) + v % 2 ^ (hi + 1 - lo) := by
    have : w.toNat / 2 ^ (hi + 1) * 2 ^ (hi + 1) + v % 2 ^ (hi + 1 - lo) * 2 ^ lo + w.toNat % 2 ^ lo
        = w.toNat % 2 ^ lo + 2 ^ lo * (w.toNat / 2 ^ (hi + 1) * 2 ^ (hi + 1 - lo) + v % 2 ^ (hi + 1 - lo)) := by rw [e]; ring
    rw [this, Nat.add_mul_div_left _ _ (Nat.two_pow_pos _), Nat.div_eq_of_lt hr, Nat.zero_add]
  rw [h1, Nat.mul_add_mod_self_right, Nat.mod_mod]

/-- Every bit outside a field keeps its value when the field is set. -/
theorem putBits_other (w : Word) {hi lo : Nat} (v i : Nat) (h : lo ≤ hi) (hi' : i < lo ∨ hi < i) :
    (putBits w hi lo v).getLsbD i = w.getLsbD i := by
  by_cases h32 : i < 32
  swap
  · rw [BitVec.getLsbD_of_ge _ _ (by omega), BitVec.getLsbD_of_ge _ _ (by omega)]
  unfold putBits
  have e : 2 ^ (hi + 1) = 2 ^ lo * 2 ^ (hi + 1 - lo) := by rw [← Nat.pow_add]; congr 1; omega
  have hr : w.toNat % 2 ^ lo < 2 ^ lo := Nat.mod_lt _ (Nat.two_pow_pos _)
  have hv : v % 2 ^ (hi + 1 - lo) < 2 ^ (hi + 1 - lo) := Nat.mod_lt _ (Nat.two_pow_pos _)
  simp only [BitVec.getLsbD, BitVec.toNat_ofNat, Nat.testBit_mod_two_pow, h32, decide_true, Bool.true_and]
  rcases hi' with hl | hg
  · have h1 : w.toNat / 2 ^ (hi + 1) * 2 ^ (hi + 1) + v % 2 ^ (hi + 1 - lo) * 2 ^ lo + w.toNat % 2 ^ lo
        = 2 ^ lo * (w.toNat / 2 ^ (hi + 1) * 2 ^ (hi + 1 - lo) + v % 2 ^ (hi + 1 - lo)) + w.toNat % 2 ^ lo := by rw [e]; ring
    rw [h1, Nat.testBit_two_pow_mul_add _ hr]
    simp [hl, Nat.testBit_mod_two_pow]
  · have hlow : v % 2 ^ (hi + 1 - lo) * 2 ^ lo + w.toNat % 2 ^ lo < 2 ^ (hi + 1) := by
      rw [e]; nlinarith [Nat.two_pow_pos lo]
    have h1 : w.toNat / 2 ^ (hi + 1) * 2 ^ (hi + 1) + v % 2 ^ (hi + 1 - lo) * 2 ^ lo + w.toNat % 2 ^ lo
        = 2 ^ (hi + 1) * (w.toNat / 2 ^ (hi + 1)) + (v % 2 ^ (hi + 1 - lo) * 2 ^ lo + w.toNat % 2 ^ lo) := by ring
    rw [h1, Nat.testBit_two_pow_mul_add _ hlow]
    have : ¬ i < hi + 1 := by omega
    simp only [this, if_false]
    rw [Nat.testBit_div_two_pow]
    congr 1; omega

namespace State

/-! ### Register words -/

@[simp] theorem rd_wr_same (s : State) (p off : Nat) (w : Word) : (s.wr p off w).rd p off = w := by
  simp [rd, wr, aget_aset_same]

theorem rd_wr_ne (s : State) {p off p' off' : Nat} (w : Word) (h : regKey p off ≠ regKey p' off') : (s.wr p off w).rd p' off' = s.rd p' off' := by
  simp [rd, wr, aget_aset_ne _ _ h]

@[simp] theorem rdE_wrE_same (s : State) (p off : Nat) (w : Word) : (s.wrE p off w).rdE p off = w := by
  simp [rdE, wrE, aget_aset_same]

theorem rdE_wrE_ne (s : State) {p off p' off' : Nat} (w : Word) (h : regKey p off ≠ regKey p' off') : (s.wrE p off w).rdE p' off' = s.rdE p' off' := by
  simp [rdE, wrE, aget_aset_ne _ _ h]

@[simp] theorem rdE_wr (s : State) (p off p' off' : Nat) (w : Word) : (s.wr p off w).rdE p' off' = s.rdE p' off' := rfl

@[simp] theorem rd_wrE (s : State) (p off p' off' : Nat) (w : Word) : (s.wrE p off w).rd p' off' = s.rd p' off' := rfl

/-! ### Fields -/

/-- A field that the hardware sets reads back its value modulo its width. -/
theorem get_put_same (s : State) (f : Fld) (v : Nat) (h : f.lo ≤ f.hi) (h' : f.hi < 32) : (s.put f v).get f = v % 2 ^ (f.hi + 1 - f.lo) := by
  unfold get put
  cases hr : f.rws <;> simp [getBits_putBits _ v h h']

/-- A field of another register keeps its value. -/
theorem get_put_ne (s : State) (f g : Fld) (v : Nat) (h : regKey f.page f.off ≠ regKey g.page g.off) : (s.put f v).get g = s.get g := by
  unfold get put
  cases f.rws <;> cases g.rws <;> simp [rd_wr_ne _ _ h, rdE_wrE_ne _ _ h]

/-! ### Events -/

/-- The bit of an event that was raised is set. -/
theorem raise_bit_same (s : State) (p b : Nat) (h : b < 32) : ((s.raise (p, b)).rd p 0x010).getLsbD b = true := by
  simp only [raise, rd_wr_same, BitVec.getLsbD_or, BitVec.getLsbD_ofNat, Nat.testBit_two_pow, h, decide_true, Bool.and_self, Bool.or_true]

/-- The other bits of the page's events stay. -/
theorem raise_bit_ne (s : State) (p : Nat) {b i : Nat} (h : i ≠ b) : ((s.raise (p, b)).rd p 0x010).getLsbD i = (s.rd p 0x010).getLsbD i := by
  have : ¬ b = i := fun e => h e.symm
  simp only [raise, rd_wr_same, BitVec.getLsbD_or, BitVec.getLsbD_ofNat, Nat.testBit_two_pow, this, decide_false, Bool.and_false, Bool.or_false]

/-- The other registers stay. -/
theorem rd_raise_ne (s : State) {p b q off : Nat} (h : regKey p 0x010 ≠ regKey q off) : (s.raise (p, b)).rd q off = s.rd q off :=
  rd_wr_ne s _ h

@[simp] theorem rdE_raise (s : State) (e : Nat × Nat) (q off : Nat) : (s.raise e).rdE q off = s.rdE q off := rfl

end State

end Sys2Proof.Machine
end

