-- ==== Sys2Proof/Laws/Settle.lean ====
section
/-! SUPPORT. The end of a command: it changes nothing where nothing is left half done. -/

namespace Sys2Proof.Machine

theorem settleWork_of_task {s : State} (h : s.bist.task ≠ none → s.plan.run ≠ none) : settleWork s = s := by
  unfold settleWork
  cases ht : s.bist.task with
  | none => simp
  | some t =>
    have hr : s.plan.run.isNone = false := by
      cases hr : s.plan.run with
      | none => exact absurd hr (h (by simp [ht]))
      | some r => rfl
    simp [hr]

theorem closeOpen_of_settled {s : State} (ht : s.bist.task ≠ none → s.plan.run ≠ none) (hj : s.dma.jobs ≠ [] → dmaSlot s ≠ none) : closeOpen s = s := by
  unfold closeOpen
  simp only [settleWork_of_task ht]
  split
  · rename_i hn
    have : s.dma.jobs = [] := by
      by_contra hne
      exact hj hne (by simpa using hn)
    simp [dmaAbort, this]
  · rfl

/-- The end of a command is quiet where its effect leaves nothing half done and does not end an ARR_LAYER slot. -/
theorem settle_quiet {b s : State} (h : Settled s) (hr : arrSlot b = true → s.plan.run ≠ none) : settle b s = s := by
  obtain ⟨he, hc, ht, hj⟩ := h
  have hp : parkIdle b s = s := by
    unfold parkIdle
    cases ha : arrSlot b with
    | false => simp
    | true => cases hs : s.plan.run with
      | none => exact absurd hs (hr ha)
      | some r => simp
  simp [settle, closeOpen_of_settled ht hj, hp, faultEntry, he, chipReset, hc]

/-- An effect that leaves the slot, the background work, the transfers and the fault hub's reactions alone ends quietly. -/
theorem settle_same {s t : State} (h : Settled s) (hp : t.plan.run = s.plan.run) (hb : t.bist.task = s.bist.task) (hd : t.dma.jobs = s.dma.jobs)
    (he : t.flt.entered = s.flt.entered) (hc : t.flt.chipReset = s.flt.chipReset) : settle s t = t := by
  obtain ⟨h1, h2, h3, h4⟩ := h
  refine settle_quiet ⟨by rw [he, h1], by rw [hc, h2], by rw [hb, hp]; exact h3, ?_⟩ ?_
  · simpa [dmaSlot, hd, hp] using h4
  · intro ha
    rw [hp]
    intro hn
    simp [arrSlot, hn] at ha

/-- A command in a state that takes commands: its effect, ended quietly. -/
theorem act_same {f : State → State} {s : State} (h : Ready s) (hp : (f s).plan.run = s.plan.run) (hb : (f s).bist.task = s.bist.task)
    (hd : (f s).dma.jobs = s.dma.jobs) (he : (f s).flt.entered = s.flt.entered) (hc : (f s).flt.chipReset = s.flt.chipReset) :
    act f s = .next (f s) := by
  simp [act, h.1, settle_same h.2 hp hb hd he hc]

/-- While a reset is asserted a command has no effect. -/
theorem act_held {f : State → State} {s : State} (h : s.boot.held = true) : act f s = .next s := by simp [act, h]

end Sys2Proof.Machine
end

