-- ==== Sys2Proof/Laws/Access.lean ====
section
/-! SUPPORT. Accesses that pass their checks: a register write performs what its register gives it, a read what it gives a read. -/

namespace Sys2Proof.Machine

theorem regAddr_toNat {p off : Nat} (hp : p < 0x80) (ho : off < 0x400) : (regAddr p off).toNat = 0x40000000 + p * 0x400 + off := by
  unfold regAddr
  rw [BitVec.toNat_ofNat]
  omega

/-- The normal address of a register lies in the register window. -/
theorem regionOf_regAddr {p off : Nat} {e : RegEnt} {i : Nat} (hp : p < 0x80) (ho : off < 0x400) (hpe : (pageEnt p).isSome = true) (he : regEnt p off = some (e, i)) :
    regionOf (regAddr p off).toNat = .reg p off e := by
  rw [regAddr_toNat hp ho]
  unfold regionOf
  have h1 : ¬ (0x10000000 ≤ 0x40000000 + p * 0x400 + off ∧ 0x40000000 + p * 0x400 + off < 0x10400000) := by omega
  have h2 : ¬ (0x20000000 ≤ 0x40000000 + p * 0x400 + off ∧ 0x40000000 + p * 0x400 + off < 0x20400000) := by omega
  have h3 : ¬ (0x30000000 ≤ 0x40000000 + p * 0x400 + off ∧ 0x40000000 + p * 0x400 + off < 0x30008000) := by omega
  have h4 : ¬ (0x38000000 ≤ 0x40000000 + p * 0x400 + off ∧ 0x40000000 + p * 0x400 + off < 0x38004000) := by omega
  have h5 : 0x40000000 ≤ 0x40000000 + p * 0x400 + off ∧ 0x40000000 + p * 0x400 + off < 0x40020000 := by omega
  have hd : (0x40000000 + p * 0x400 + off - 0x40000000) / 0x400 = p := by omega
  have hm : (0x40000000 + p * 0x400 + off - 0x40000000) % 0x400 = off := by omega
  have hr : regAt (0x40000000 + p * 0x400 + off - 0x40000000) = some (p, off, e) := by
    unfold regAt
    rw [hd, hm]
    cases hq : pageEnt p with
    | none => simp [hq] at hpe
    | some q => simp [he]
  simp only [h1, h2, h3, h4, if_false, if_pos h5, hr]

/-- A register write that passes its checks is performed. -/
theorem writeReg_ok {path : Path} {p off : Nat} {w : Word} {s : State} {e : RegEnt} {i : Nat} (hp : p < 0x80) (ho : off < 0x400) (h4 : off % 4 = 0)
    (hpe : (pageEnt p).isSome = true) (he : regEnt p off = some (e, i)) (hw : writable e ≠ 0) (h : MayWrite path p off w s)
    (hj : e.rws ≠ 0 → JournalFree s) : writeReg path p off w s = performWrite path p off e w (noteWrite path p off e w s) := by
  obtain ⟨-, hd, hl, hr, hk, hlock, hown⟩ := h
  have ha : (regAddr p off).toNat % 4 = 0 := by rw [regAddr_toNat hp ho]; omega
  have hreg := regionOf_regAddr hp ho hpe he
  unfold writeReg writeAccess
  simp only [hp, if_true, hreg, ha]
  have hpow : powerCheck s (regAddr p off).toNat (.reg p off e) = 0 := by simp [powerCheck, hd]
  have hchk : ownChecks path p off w (e.rws != 0) s = (s, 0) := by
    unfold ownChecks
    simp only [hr, hk, hlock, hown]
    by_cases h0 : e.rws = 0
    · simp [h0]
    · have := hj h0
      simp [h0, this.1, this.2]
  simp [hpow, hw, hl, hchk]

/-- The same over a path that reaches the device. -/
theorem overPath_writeReg {path : Path} {p off : Nat} {w : Word} {s : State} {e : RegEnt} {i : Nat} (hp : p < 0x80) (ho : off < 0x400) (h4 : off % 4 = 0)
    (hpe : (pageEnt p).isSome = true) (he : regEnt p off = some (e, i)) (hw : writable e ≠ 0) (h : MayWrite path p off w s)
    (hj : e.rws ≠ 0 → JournalFree s) : overPath path (writeReg path p off w) s = performWrite path p off e w (noteWrite path p off e w s) := by
  rw [overPath, if_pos h.1, writeReg_ok hp ho h4 hpe he hw h hj]

/-- A register read returns what the register shows and performs what a read of it changes. -/
theorem readAny_reg {p off ns : Nat} {s : State} {e : RegEnt} {i : Nat} (hp : p < 0x80) (ho : off < 0x400) (h4 : off % 4 = 0)
    (hpe : (pageEnt p).isSome = true) (he : regEnt p off = some (e, i)) (hd : domServes s (pageDom p) = true) :
    readAny (regAddr p off) ns s = (regRead p off ns s).1 := by
  have ha : (regAddr p off).toNat % 4 = 0 := by rw [regAddr_toNat hp ho]; omega
  have hreg := regionOf_regAddr hp ho hpe he
  have hpow : powerCheck s (regAddr p off).toNat (.reg p off e) = 0 := by simp [powerCheck, hd]
  unfold readAny readAccess
  simp [hreg, ha, hpow]

end Sys2Proof.Machine
end

