-- ==== Sys2Proof/Laws/Stem.lean ====
section
/-! SUPPORT. What no operation of a block touches: TICK_NUM, whether a reset is held, and the queue of waiting commands. One lemma per operation; only the count
of a tick and the resets change these. -/

set_option linter.unusedTactic false
set_option linter.unreachableTactic false

namespace Sys2Proof.Machine

/-- TICK_NUM, whether a reset is held, and the commands that wait. -/
structure Stem where
  num : Nat
  held : Bool
  pending : List Instr

/-- The stem of a state. -/
def stem (s : State) : Stem := ⟨s.tick.num, s.boot.held, s.pending⟩

@[simp ↓] theorem stem_mk {x0} {x1} {x2} {x3} {x4} {x5} {x6} {x7} {x8} {x9} {x10} {x11} {x12} {x13} {x14} {x15} {x16} {x17} {x18} {x19} {x20} {x21} {x22} {x23} {x24} {x25} {x26} {x27} {x28} {x29} {x30} {x31} {x32} {x33} {x34} {x35} :
    stem (State.mk x0 x1 x2 x3 x4 x5 x6 x7 x8 x9 x10 x11 x12 x13 x14 x15 x16 x17 x18 x19 x20 x21 x22 x23 x24 x25 x26 x27 x28 x29 x30 x31 x32 x33 x34 x35) = ⟨x16.num, x8.held, x0⟩ := id rfl
@[simp] theorem stem_eta (s : State) : Stem.mk s.tick.num s.boot.held s.pending = stem s := id rfl
@[simp ↓] theorem stem_ite (c : Prop) [Decidable c] (a b : State) : stem (if c then a else b) = if c then stem a else stem b := by split <;> rfl
@[simp ↓] theorem stem_foldl {α : Type} (f : State → α → State) (l : List α) (s : State) (h : ∀ s x, stem (f s x) = stem s) :
    stem (l.foldl f s) = stem s := by
  induction l generalizing s with
  | nil => rfl
  | cons x t ih => rw [List.foldl_cons, ih, h]
theorem stem_foldl_pair {α β : Type} (f : State × β → α → State × β) (l : List α) (x : State × β) (h : ∀ x a, stem (f x a).1 = stem x.1) :
    stem (l.foldl f x).1 = stem x.1 := by
  induction l generalizing x with
  | nil => rfl
  | cons a t ih => rw [List.foldl_cons, ih, h]
theorem stem_fst {α : Type} {f : State × α} {s t : State} {x : α} (h : f = (t, x)) (hf : stem f.1 = stem s) : stem t = stem s := by
  rw [h] at hf; exact hf
theorem stem_flt (t : State) (v : Flt) : stem { t with flt := v } = stem t := rfl
theorem stem_nvm (t : State) (v : Nvm) : stem { t with nvm := v } = stem t := rfl
theorem stem_bist (t : State) (v : Bist) : stem { t with bist := v } = stem t := rfl
theorem stem_link (t : State) (v : Link) : stem { t with link := v } = stem t := rfl
theorem stem_learn (t : State) (v : Learn) : stem { t with learn := v } = stem t := rfl
theorem stem_arr (t : State) (v : Arr) : stem { t with arr := v } = stem t := rfl
theorem stem_ana (t : State) (v : Ana) : stem { t with ana := v } = stem t := rfl
theorem stem_alm (t : State) (v : Alm) : stem { t with alm := v } = stem t := rfl
theorem stem_fsk (t : State) (v : Fsk) : stem { t with fsk := v } = stem t := rfl
theorem stem_pub (t : State) (v : Pub) : stem { t with pub := v } = stem t := rfl
theorem stem_ldac (t : State) (v : Ldac) : stem { t with ldac := v } = stem t := rfl
theorem stem_stor (t : State) (v : Rec) : stem { t with stor := v } = stem t := rfl

@[simp ↓] theorem stem_State_setBytes (s : State) (a1_ : Nat) (bs : List Byte) : stem (State.setBytes s a1_ bs) = stem s := by unfold State.setBytes; simp
@[simp ↓] theorem stem_State_fresh (s : State) (n : Nat) : stem (State.fresh s n) = stem s := by unfold State.fresh; simp
@[simp ↓] theorem stem_tearChunk (c : NvmChunk) (s : State) : stem (tearChunk c s) = stem s := by unfold tearChunk; simp
@[simp ↓] theorem stem_clearCells (s : State) : stem (clearCells s) = stem s := by unfold clearCells; simp
@[simp ↓] theorem stem_clearSram (s : State) : stem (clearSram s) = stem s := by unfold clearSram; simp
@[simp ↓] theorem stem_State_setWord (s : State) (a1_ : Nat) (w : Word) : stem (State.setWord s a1_ w) = stem s := by unfold State.setWord; simp
@[simp ↓] theorem stem_initRetention (s : State) : stem (initRetention s) = stem s := by unfold initRetention; simp
@[simp ↓] theorem stem_State_wr (s : State) (p off : Nat) (w : Word) : stem (State.wr s p off w) = stem s := by unfold State.wr; simp
@[simp ↓] theorem stem_State_wrE (s : State) (p off : Nat) (w : Word) : stem (State.wrE s p off w) = stem s := by unfold State.wrE; simp
@[simp ↓] theorem stem_State_put (s : State) (f : Fld) (v : Nat) : stem (State.put s f v) = stem s := by unfold State.put; simp
@[simp ↓] theorem stem_State_putB (s : State) (f : Fld) (b : Bool) : stem (State.putB s f b) = stem s := by unfold State.putB; simp
@[simp ↓] theorem stem_showBist (s : State) : stem (showBist s) = stem s := by unfold showBist; simp
@[simp ↓] theorem stem_State_bump (s : State) (f : Fld) (n : Nat) : stem (State.bump s f n) = stem s := by unfold State.bump; simp
@[simp ↓] theorem stem_closeWork (completed : Bool) (s : State) : stem (closeWork completed s) = stem s := by unfold closeWork; split <;> simp
@[simp ↓] theorem stem_settleWork (s : State) : stem (settleWork s) = stem s := by unfold settleWork; simp
@[simp ↓] theorem stem_showDma (s : State) : stem (showDma s) = stem s := by unfold showDma; simp
@[simp ↓] theorem stem_runOver (s : State) : stem (runOver s) = stem s := by unfold runOver; simp
@[simp ↓] theorem stem_runCut (s : State) : stem (runCut s) = stem s := by unfold runCut; simp
@[simp ↓] theorem stem_dmaAbort (s : State) : stem (dmaAbort s) = stem s := by unfold dmaAbort; simp
@[simp ↓] theorem stem_closeOpen (s : State) : stem (closeOpen s) = stem s := by unfold closeOpen; simp
@[simp ↓] theorem stem_State_raise (s : State) (e : Nat × Nat) : stem (State.raise s e) = stem s := by unfold State.raise; simp
@[simp ↓] theorem stem_State_disarm (s : State) (p pt : Nat) : stem (State.disarm s p pt) = stem s := by unfold State.disarm; simp
@[simp ↓] theorem stem_ownChecks (path : Path) (p off : Nat) (w : Word) (rws : Bool) (s : State) : stem (ownChecks path p off w rws s).1 = stem s := by
  unfold ownChecks
  repeat' first | rfl | (simp; done) | simp | split
@[simp ↓] theorem stem_updateBudget (s : State) : stem (updateBudget s) = stem s := by unfold updateBudget; simp
@[simp ↓] theorem stem_noteLdac (p : Nat) (s : State) : stem (noteLdac p s) = stem s := by unfold noteLdac; simp
@[simp ↓] theorem stem_journalWrite (path : Path) (p off : Nat) (old new : Word) (s : State) : stem (journalWrite path p off old new s) = stem s := by unfold journalWrite; simp
@[simp ↓] theorem stem_lockPage (p : Nat) (s : State) : stem (lockPage p s) = stem s := by unfold lockPage; simp
@[simp ↓] theorem stem_requestSrst (p : Nat) (s : State) : stem (requestSrst p s) = stem s := by unfold requestSrst; simp
@[simp ↓] theorem stem_ctrlWrite (path : Path) (p : Nat) (e : RegEnt) (w : Word) (s : State) : stem (ctrlWrite path p e w s) = stem s := by unfold ctrlWrite; simp
@[simp ↓] theorem stem_fltIrq (s : State) : stem (fltIrq s) = stem s := by unfold fltIrq; simp
@[simp ↓] theorem stem_injWrite (p : Nat) (w : Word) (s : State) : stem (injWrite p w s) = stem s := by unfold injWrite; simp
@[simp ↓] theorem stem_sleepResult (result reason block why target : Nat) (s : State) : stem (sleepResult result reason block why target s) = stem s := by unfold sleepResult; simp
@[simp ↓] theorem stem_cancelRetry (s : State) : stem (cancelRetry s) = stem s := by unfold cancelRetry; simp
@[simp ↓] theorem stem_sleepRefused (target block why : Nat) (s : State) : stem (sleepRefused target block why s) = stem s := by unfold sleepRefused; simp
@[simp ↓] theorem stem_goWhileAsked (p : Nat) (s : State) : stem (goWhileAsked p s) = stem s := by unfold goWhileAsked; split <;> simp
@[simp ↓] theorem stem_requestCommit (p : Nat) (s : State) : stem (requestCommit p s) = stem s := by unfold requestCommit; simp
@[simp ↓] theorem stem_raiseGroup (g bit : Nat) (s : State) : stem (raiseGroup g bit s) = stem s := by unfold raiseGroup; simp
@[simp ↓] theorem stem_endLease (g : Nat) (s : State) : stem (endLease g s) = stem s := by unfold endLease; simp
@[simp ↓] theorem stem_noteOwner (path : Path) (p : Nat) (s : State) : stem (noteOwner path p s) = stem s := by unfold noteOwner; simp
@[simp ↓] theorem stem_leaseWrite (path : Path) (p : Nat) (w : Word) (s : State) : stem (leaseWrite path p w s) = stem s := by unfold leaseWrite; simp
@[simp ↓] theorem stem_rstCmd (w : Word) (s : State) : stem (rstCmd w s) = stem s := by unfold rstCmd; simp
@[simp ↓] theorem stem_sleepAsk_cancelIf (retry : Bool) (s : State) : stem (sleepAsk.cancelIf retry s) = stem s := by unfold sleepAsk.cancelIf; simp
@[simp ↓] theorem stem_beginExit (s : State) : stem (beginExit s) = stem s := by unfold beginExit; simp
@[simp ↓] theorem stem_wakeLatch (k : Nat) (s : State) : stem (wakeLatch k s) = stem s := by unfold wakeLatch; simp
@[simp ↓] theorem stem_sleepAsk (target : Nat) (retry : Bool) (s : State) : stem (sleepAsk target retry s) = stem s := by
  unfold sleepAsk
  repeat' first | rfl | (simp; done) | simp | split
@[simp ↓] theorem stem_sleepWrite (w : Word) (s : State) : stem (sleepWrite w s) = stem s := by unfold sleepWrite; simp
@[simp ↓] theorem stem_planWinAddr (w : Word) (s : State) : stem (planWinAddr w s) = stem s := by unfold planWinAddr; simp
@[simp ↓] theorem stem_planWinNext (s : State) : stem (planWinNext s) = stem s := by unfold planWinNext; simp
@[simp ↓] theorem stem_setBankWord (b i : Nat) (w : Word) (s : State) : stem (setBankWord b i w s) = stem s := by unfold setBankWord; simp
@[simp ↓] theorem stem_planWinWrite (w : Word) (s : State) : stem (planWinWrite w s) = stem s := by unfold planWinWrite; simp
@[simp ↓] theorem stem_trapAck (w : Word) (s : State) : stem (trapAck w s) = stem s := by unfold trapAck; split <;> simp
@[simp ↓] theorem stem_clearLockout (s : State) : stem (clearLockout s) = stem s := by unfold clearLockout; simp
@[simp ↓] theorem stem_clearEsc (s : State) : stem (clearEsc s) = stem s := by unfold clearEsc; simp
@[simp ↓] theorem stem_fltCmd (w : Word) (s : State) : stem (fltCmd w s) = stem s := by unfold fltCmd; split <;> simp
@[simp ↓] theorem stem_escSelect (w : Word) (s : State) : stem (escSelect w s) = stem s := by unfold escSelect; simp
@[simp ↓] theorem stem_almCmd (w : Word) (s : State) : stem (almCmd w s) = stem s := by unfold almCmd; simp
@[simp ↓] theorem stem_nvmRefused (op result : Nat) (s : State) : stem (nvmRefused op result s) = stem s := by unfold nvmRefused; simp
@[simp ↓] theorem stem_memCorrected (check : Bool) (a1_ : Nat) (s : State) : stem (memCorrected check a1_ s) = stem s := by unfold memCorrected; simp
@[simp ↓] theorem stem_almAdd (off n top : Nat) (s : State) : stem (almAdd off n top s) = stem s := by unfold almAdd; simp
@[simp ↓] theorem stem_addRecord (w0 w1 : Word) (s : State) : stem (addRecord w0 w1 s) = stem s := by unfold addRecord; simp
@[simp ↓] theorem stem_queueTrap (id : Nat) (s : State) : stem (queueTrap id s) = stem s := by unfold queueTrap; simp
@[simp ↓] theorem stem_addRecovery (s : State) : stem (addRecovery s) = stem s := by unfold addRecovery; simp
@[simp ↓] theorem stem_almCount (i : Nat) (s : State) : stem (almCount i s) = stem s := by unfold almCount; simp
@[simp ↓] theorem stem_enterLockout (id : Nat) (s : State) : stem (enterLockout id s) = stem s := by unfold enterLockout; simp
@[simp ↓] theorem stem_errPin (id : Nat) (s : State) : stem (errPin id s) = stem s := by
  unfold errPin
  split
  · split
    · simp
    · extract_lets s1
      have h1 : stem s1 = stem s := by unfold s1; simp
      exact (stem_flt _ _).trans h1
  · extract_lets src1 src s1
    have h1 : stem s1 = stem s := (stem_flt _ _).trans (by unfold src1; simp)
    clear_value s1
    split <;> simp [h1]
  · split <;> simp
@[simp ↓] theorem stem_faultEvent (id info : Nat) (s : State) (alt inj : Bool) : stem (faultEvent id info s alt inj) = stem s := by
  unfold faultEvent
  repeat' first | rfl | (simp; done) | simp | split
@[simp ↓] theorem stem_memUncorr (inj : Bool) (a1_ : Nat) (s : State) : stem (memUncorr inj a1_ s) = stem s := by
  unfold memUncorr
  extract_lets again s1 src s2
  have h1 : stem s1 = stem s := by unfold s1; simp
  have h : stem s2 = stem s1 := stem_nvm _ _
  clear_value s2 src s1
  split <;> simp [h, h1]
@[simp ↓] theorem stem_memRead (a0_ : Nat) (s : State) : stem (memRead a0_ s).1 = stem s := by
  unfold memRead
  repeat' first | rfl | (simp; done) | simp | split
@[simp ↓] theorem stem_memReads (a0_ a1_ : Nat) (a2_ : State) : stem (memReads a0_ a1_ a2_).1 = stem a2_ := by
  induction a0_ generalizing a1_ a2_ with
  | zero => rfl
  | succ n ih =>
    unfold memReads
    split
    · rename_i h; exact stem_fst h (stem_memRead _ _)
    · rename_i h
      have h1 := stem_fst h (stem_memRead _ _)
      split
      · rename_i h2; exact (stem_fst h2 (ih _ _)).trans h1
      · rename_i h2; exact (stem_fst h2 (ih _ _)).trans h1
@[simp ↓] theorem stem_sourceBytes (a0_ n : Nat) (s : State) : stem (sourceBytes a0_ n s).1 = stem s := by
  unfold sourceBytes
  repeat' first | rfl | (simp; done) | simp | split
  all_goals first | rfl | (simp_all; done) | (simp only [Prod.ext_iff] at *; (try cases_type* And); subst_vars; first | rfl | (simp; done) | (simp_all; done))
@[simp ↓] theorem stem_nvmRuns (op : Nat) (s : State) : stem (nvmRuns op s) = stem s := by unfold nvmRuns; simp
@[simp ↓] theorem stem_showQueue (s : State) : stem (showQueue s) = stem s := by unfold showQueue; simp
@[simp ↓] theorem stem_enqueue (cs : List NvmChunk) (s : State) : stem (enqueue cs s) = stem s := by unfold enqueue; simp
@[simp ↓] theorem stem_noHead (s : State) : stem (noHead s) = stem s := by unfold noHead; simp
@[simp ↓] theorem stem_determineHead (s : State) : stem (determineHead s) = stem s := by unfold determineHead; simp
@[simp ↓] theorem stem_showModel (s : State) : stem (showModel s) = stem s := by unfold showModel; simp
@[simp ↓] theorem stem_setLearn (k : Nat) (s : State) : stem (setLearn k s) = stem s := by unfold setLearn; simp
@[simp ↓] theorem stem_dropWork (s : State) : stem (dropWork s) = stem s := by unfold dropWork; simp
@[simp ↓] theorem stem_learnLost (s : State) : stem (learnLost s) = stem s := by unfold learnLost; simp
@[simp ↓] theorem stem_imageChanged (slot : Nat) (changed : Bool) (s : State) : stem (imageChanged slot changed s) = stem s := by unfold imageChanged; simp
@[simp ↓] theorem stem_clearSlot (slot : Nat) (s : State) : stem (clearSlot slot s) = stem s := by unfold clearSlot; simp
@[simp ↓] theorem stem_chunkCmd (op slot : Nat) (s : State) : stem (chunkCmd op slot s) = stem s := by
  unfold chunkCmd
  repeat' first | rfl | (simp; done) | simp | split
  all_goals first | rfl | (simp_all; done) | (simp only [Prod.ext_iff] at *; (try cases_type* And); subst_vars; first | rfl | (simp; done) | (simp_all; done))
@[simp ↓] theorem stem_checkCmd (op slot : Nat) (s : State) : stem (checkCmd op slot s) = stem s := by
  unfold checkCmd; split <;> simp
@[simp ↓] theorem stem_nvmCorrected (check : Bool) (s : State) : stem (nvmCorrected check s) = stem s := by unfold nvmCorrected; simp
@[simp ↓] theorem stem_ownMarks (base : Nat) (a1_ : List (Nat × EccErr)) (a2_ : State) (a3_ : List Byte) : stem (ownMarks base a1_ a2_ a3_).1 = stem a2_ := by
  induction a1_ generalizing a2_ a3_ with
  | nil => rfl
  | cons e t ih =>
    obtain ⟨a, e⟩ := e
    unfold ownMarks
    extract_lets r wrong s1 s2 bs'
    have h1 : stem s1 = stem a2_ := by unfold s1; split <;> simp
    have h2 : stem s2 = stem s1 := by unfold s2; clear_value r; split <;> simp
    clear_value s2 s1
    split
    rename_i h
    exact (stem_fst h (ih _ _)).trans (h2.trans h1)
@[simp ↓] theorem stem_ownRead (a0_ n : Nat) (s : State) : stem (ownRead a0_ n s).1 = stem s := by unfold ownRead; simp
@[simp ↓] theorem stem_readCfg (c : Nat) (s : State) : stem (readCfg c s).1 = stem s := by
  unfold readCfg
  repeat' first | rfl | (simp; done) | simp | split
@[simp ↓] theorem stem_saveConfig (s : State) : stem (saveConfig s) = stem s := by
  unfold saveConfig; split; simp; split <;> simp
@[simp ↓] theorem stem_queueSystem (s : State) : stem (queueSystem s) = stem s := by unfold queueSystem; simp
@[simp ↓] theorem stem_retireArchive (s : State) : stem (retireArchive s) = stem s := by unfold retireArchive; simp
@[simp ↓] theorem stem_nvmDone (op result : Nat) (s : State) : stem (nvmDone op result s) = stem s := by unfold nvmDone; simp
@[simp ↓] theorem stem_retireCmd (s : State) : stem (retireCmd s) = stem s := by unfold retireCmd; simp
@[simp ↓] theorem stem_nvmCmd (w : Word) (s : State) : stem (nvmCmd w s) = stem s := by unfold nvmCmd; split <;> simp
@[simp ↓] theorem stem_State_setCellWord (s : State) (c o : Nat) (w : Word) : stem (State.setCellWord s c o w) = stem s := by unfold State.setCellWord; simp
@[simp ↓] theorem stem_clearWord (s : State) : stem (clearWord s) = stem s := by
  unfold clearWord; simp
@[simp ↓] theorem stem_memCmd (w : Word) (s : State) : stem (memCmd w s) = stem s := by unfold memCmd; simp
@[simp ↓] theorem stem_todSetWrite (w : Word) (s : State) : stem (todSetWrite w s) = stem s := by unfold todSetWrite; simp
@[simp ↓] theorem stem_keyData (w : Word) (s : State) : stem (keyData w s) = stem s := by unfold keyData; simp
@[simp ↓] theorem stem_keyErr (n : Nat) (s : State) : stem (keyErr n s) = stem s := by unfold keyErr; simp
@[simp ↓] theorem stem_keyChanged (s : State) : stem (keyChanged s) = stem s := by unfold keyChanged; simp
@[simp ↓] theorem stem_progK (slot role : Nat) (s : State) : stem (progK slot role s) = stem s := by unfold progK; simp
@[simp ↓] theorem stem_progMk (slot : Nat) (s : State) : stem (progMk slot s) = stem s := by unfold progMk; simp
@[simp ↓] theorem stem_endLeases (p : Nat → Bool) (s : State) : stem (endLeases p s) = stem s := by unfold endLeases; simp
@[simp ↓] theorem stem_endSession (slot : Nat) (s : State) : stem (endSession slot s) = stem s := by unfold endSession; split <;> simp
@[simp ↓] theorem stem_endSessions (p : Session → Bool) (s : State) : stem (endSessions p s) = stem s := by unfold endSessions; simp
@[simp ↓] theorem stem_revokeK (slot : Nat) (s : State) : stem (revokeK slot s) = stem s := by unfold revokeK; simp
@[simp ↓] theorem stem_revokeMk (slot : Nat) (s : State) : stem (revokeMk slot s) = stem s := by unfold revokeMk; simp
@[simp ↓] theorem stem_keyClear (s : State) : stem (keyClear s) = stem s := by unfold keyClear; simp
@[simp ↓] theorem stem_keyCmd (w : Word) (s : State) : stem (keyCmd w s) = stem s := by unfold keyCmd; split <;> simp
@[simp ↓] theorem stem_spiCfg (w : Word) (s : State) : stem (spiCfg w s) = stem s := by unfold spiCfg; simp
@[simp ↓] theorem stem_urgentDrop (invalid : Bool) (s : State) : stem (urgentDrop invalid s) = stem s := by unfold urgentDrop; simp
@[simp ↓] theorem stem_urgentWrite (w : Word) (s : State) : stem (urgentWrite w s) = stem s := by unfold urgentWrite; simp
@[simp ↓] theorem stem_addTrig (kind src : Nat) (s : State) : stem (addTrig kind src s) = stem s := by unfold addTrig; simp
@[simp ↓] theorem stem_recGo (code : Nat) (s : State) : stem (recGo code s) = stem s := by unfold recGo; simp
@[simp ↓] theorem stem_showRec (s : State) : stem (showRec s) = stem s := by unfold showRec; simp
@[simp ↓] theorem stem_setArea (a0_ : Nat) (a1_ : RecArea) (s : State) : stem (setArea a0_ a1_ s) = stem s := by unfold setArea; simp
@[simp ↓] theorem stem_freeHeld (s : State) : stem (freeHeld s) = stem s := by
  unfold freeHeld
  repeat' first | rfl | (simp; done) | simp | split
@[simp ↓] theorem stem_recAck (w : Word) (s : State) : stem (recAck w s) = stem s := by unfold recAck; simp
@[simp ↓] theorem stem_recFind (w : Word) (s : State) : stem (recFind w s) = stem s := by unfold recFind; simp
@[simp ↓] theorem stem_requestRun (s : State) : stem (requestRun s) = stem s := by unfold requestRun; simp
@[simp ↓] theorem stem_arrGo (s : State) : stem (arrGo s) = stem s := by unfold arrGo; simp
@[simp ↓] theorem stem_cmdStat (op result cell : Nat) (s : State) : stem (cmdStat op result cell s) = stem s := by unfold cmdStat; simp
@[simp ↓] theorem stem_showArr (s : State) : stem (showArr s) = stem s := by unfold showArr; simp
@[simp ↓] theorem stem_showRole (s : State) (c : Nat) : stem (showRole s c) = stem s := by unfold showRole; simp
@[simp ↓] theorem stem_showRoles (s : State) : stem (showRoles s) = stem s := by unfold showRoles; simp
@[simp ↓] theorem stem_cellCmd (w : Word) (s : State) : stem (cellCmd w s) = stem s := by unfold cellCmd; simp
@[simp ↓] theorem stem_pruneWrite (w : Word) (s : State) : stem (pruneWrite w s) = stem s := by unfold pruneWrite; simp
@[simp ↓] theorem stem_setLock (on : Bool) (s : State) : stem (setLock on s) = stem s := by unfold setLock; simp
@[simp ↓] theorem stem_setKey (n : Nat) (k : KeyOne) (s : State) : stem (setKey n k s) = stem s := by unfold setKey; split <;> simp
@[simp ↓] theorem stem_rebaseKey (n : Nat) (s : State) : stem (rebaseKey n s) = stem s := by unfold rebaseKey; simp
@[simp ↓] theorem stem_rebaseKeys (s : State) : stem (rebaseKeys s) = stem s := by
  unfold rebaseKeys
  rw [stem_State_put, stem_State_put, stem_foldl]
  intro s n
  rw [stem_rebaseKey, stem_setKey]
@[simp ↓] theorem stem_keysCmd (w : Word) (s : State) : stem (keysCmd w s) = stem s := by
  unfold keysCmd
  split
  · exact stem_setLock _ _
  · exact stem_rebaseKeys _
  · rfl
theorem stem_commandWrite {path : Path} {p off : Nat} {w : Word} {s t : State} (h : commandWrite path p off w s = some t) : stem t = stem s := by
  unfold commandWrite at h
  repeat' split at h
  all_goals first | (cases h; done) | (cases h; first | rfl | simp)
@[simp ↓] theorem stem_fieldWrite (path : Path) (p off : Nat) (e : RegEnt) (w : Word) (s : State) : stem (fieldWrite path p off e w s) = stem s := by unfold fieldWrite; simp
@[simp ↓] theorem stem_performWrite (path : Path) (p off : Nat) (e : RegEnt) (w : Word) (s : State) : stem (performWrite path p off e w s) = stem s := by
  unfold performWrite
  split
  · simp
  · simp
  · simp
  · simp
  · simp
  · cases h : commandWrite path p off w s with
    | none => simp
    | some t => exact stem_commandWrite h
@[simp ↓] theorem stem_noteWrite (path : Path) (p off : Nat) (e : RegEnt) (w : Word) (s : State) : stem (noteWrite path p off e w s) = stem s := by unfold noteWrite; simp
@[simp ↓] theorem stem_weightsHit (a0_ : Nat) (s : State) : stem (weightsHit a0_ s) = stem s := by unfold weightsHit; split <;> simp
@[simp ↓] theorem stem_pathRead (a0_ : Nat) (s : State) : stem (pathRead a0_ s).1 = stem s := by
  unfold pathRead
  split
  · rename_i h
    have h1 := stem_fst h (stem_memRead _ _)
    dsimp only
    split
    · exact (stem_weightsHit _ _).trans h1
    · exact h1
  · exact stem_memRead _ _
@[simp ↓] theorem stem_memStore (a0_ : Nat) (w : Word) (s : State) : stem (memStore a0_ w s) = stem s := by unfold memStore; simp
@[simp ↓] theorem stem_dropPartitions (s : State) : stem (dropPartitions s) = stem s := by unfold dropPartitions; simp
@[simp ↓] theorem stem_showHeld (s : State) : stem (showHeld s) = stem s := by unfold showHeld; simp
@[simp ↓] theorem stem_holdSample (ok : Bool) (s : State) : stem (holdSample ok s) = stem s := by unfold holdSample; split <;> simp
@[simp ↓] theorem stem_finishRun (v : Verdict) (s : State) : stem (finishRun v s) = stem s := by unfold finishRun; simp
@[simp ↓] theorem stem_abortRun (cause tile cell : Nat) (s : State) : stem (abortRun cause tile cell s) = stem s := by unfold abortRun; split <;> simp
@[simp ↓] theorem stem_giveWork (c p : Nat) (s : State) : stem (giveWork c p s) = stem s := by unfold giveWork; simp
@[simp ↓] theorem stem_dispatch (a0_ : Nat) (a1_ : State) : stem (dispatch a0_ a1_) = stem a1_ := by
  fun_induction dispatch <;> simp_all +zetaDelta
@[simp ↓] theorem stem_dispatchAll (s : State) : stem (dispatchAll s) = stem s := by unfold dispatchAll; simp
@[simp ↓] theorem stem_afterFailure (s : State) : stem (afterFailure s) = stem s := by unfold afterFailure; simp
@[simp ↓] theorem stem_showLive (s : State) : stem (showLive s) = stem s := by unfold showLive; simp
@[simp ↓] theorem stem_leaveBench (s : State) : stem (leaveBench s) = stem s := by unfold leaveBench; simp
@[simp ↓] theorem stem_retireCell (c cause : Nat) (inj : Bool) (s : State) : stem (retireCell c cause inj s) = stem s := by unfold retireCell; simp
@[simp ↓] theorem stem_takeWork (c : Nat) (s : State) : stem (takeWork c s) = stem s := by unfold takeWork; simp
@[simp ↓] theorem stem_unparkCell (c : Nat) (s : State) : stem (unparkCell c s) = stem s := by unfold unparkCell; simp
@[simp ↓] theorem stem_failCell (c cause : Nat) (inj : Bool) (s : State) : stem (failCell c cause inj s) = stem s := by
  unfold failCell
  repeat' first | rfl | (simp; done) | split
@[simp ↓] theorem stem_cellFails (c cause : Nat) (inj : Bool) (s : State) : stem (cellFails c cause inj s) = stem s := by unfold cellFails; simp
@[simp ↓] theorem stem_cellWinRead (a0_ : Nat) (s : State) : stem (cellWinRead a0_ s).1 = stem s := by
  unfold cellWinRead
  repeat' first | rfl | (simp; done) | simp | split
@[simp ↓] theorem stem_writeAccess (path : Path) (addr w : Word) (s : State) : stem (writeAccess path addr w s).1 = stem s := by
  unfold writeAccess
  repeat' first | rfl | (simp; done) | simp | split
  all_goals first | rfl | (simp_all; done) | (simp only [Prod.ext_iff] at *; (try cases_type* And); subst_vars; first | rfl | (simp; done) | (simp_all; done))
@[simp ↓] theorem stem_writeReg (path : Path) (p off : Nat) (w : Word) (s : State) : stem (writeReg path p off w s) = stem s := by unfold writeReg; simp
@[simp ↓] theorem stem_keysPut (f : Fld) (v : Nat) (s : State) : stem (keysPut f v s) = stem s := by unfold keysPut; simp
@[simp ↓] theorem stem_keysTest (ua : Nat) (s : State) : stem (keysTest ua s) = stem s := by unfold keysTest; simp
@[simp ↓] theorem stem_keysMode (mode : Nat) (s : State) : stem (keysMode mode s) = stem s := by unfold keysMode; simp
@[simp ↓] theorem stem_keysCommit (s : State) : stem (keysCommit s) = stem s := by unfold keysCommit; simp
@[simp ↓] theorem stem_leaveTrim (restoreAll : Bool) (s : State) : stem (leaveTrim restoreAll s) = stem s := by unfold leaveTrim; split <;> simp
@[simp ↓] theorem stem_cancelTrim (s : State) : stem (cancelTrim s) = stem s := by unfold cancelTrim; simp
@[simp ↓] theorem stem_endBurst (s : State) : stem (endBurst s) = stem s := by unfold endBurst; simp
@[simp ↓] theorem stem_endRun (s : State) : stem (endRun s) = stem s := by unfold endRun; simp
@[simp ↓] theorem stem_preemptB (s : State) : stem (preemptB s) = stem s := by unfold preemptB; split <;> simp
@[simp ↓] theorem stem_satFlags (src : Nat) (s : State) : stem (satFlags src s) = stem s := by unfold satFlags; simp
@[simp ↓] theorem stem_retarget (s : State) : stem (retarget s) = stem s := by unfold retarget; simp
@[simp ↓] theorem stem_faultClamp (s : State) : stem (faultClamp s) = stem s := by unfold faultClamp; simp
@[simp ↓] theorem stem_faultEntry (s : State) : stem (faultEntry s) = stem s := by unfold faultEntry; simp
@[simp ↓] theorem stem_requeue (c : Nat) (s : State) : stem (requeue c s) = stem s := by unfold requeue; split <;> simp
@[simp ↓] theorem stem_parkCell (c : Nat) (s : State) : stem (parkCell c s) = stem s := by
  unfold parkCell
  repeat' first | rfl | (simp; done) | simp | split
@[simp ↓] theorem stem_parkExcess (a0_ : Nat) (a1_ : List Nat) (a2_ : State) : stem (parkExcess a0_ a1_ a2_) = stem a2_ := by
  fun_induction parkExcess <;> simp_all
@[simp ↓] theorem stem_parkIdle (b s : State) : stem (parkIdle b s) = stem s := by unfold parkIdle; simp
@[simp ↓] theorem stem_overPath (p : Path) (f : State → State) (s : State) (hf : ∀ t, stem (f t) = stem t) : stem (overPath p f s) = stem s := by
  unfold overPath
  repeat' first | rfl | (simp; done) | simp | split
  all_goals first | rfl | (simp_all; done)
@[simp ↓] theorem stem_writeAny (p : Path) (addr w : Word) (s : State) : stem (writeAny p addr w s) = stem s := by unfold writeAny; simp
@[simp ↓] theorem stem_nvmRead (a0_ : Nat) (s : State) : stem (nvmRead a0_ s).1 = stem s := by
  unfold nvmRead
  repeat' first | rfl | (simp; done) | simp | split
@[simp ↓] theorem stem_todRead (ns : Nat) (s : State) : stem (todRead ns s).1 = stem s := by unfold todRead; simp
@[simp ↓] theorem stem_almWinNext (s : State) : stem (almWinNext s) = stem s := by unfold almWinNext; simp
@[simp ↓] theorem stem_readEffect (p off ns : Nat) (s : State) : stem (readEffect p off ns s) = stem s := by unfold readEffect; split <;> simp
@[simp ↓] theorem stem_regRead (p off ns : Nat) (s : State) : stem (regRead p off ns s).1 = stem s := by unfold regRead; simp
@[simp ↓] theorem stem_readAccess (addr : Word) (ns : Nat) (s : State) : stem (readAccess addr ns s).1 = stem s := by
  unfold readAccess
  repeat' first | rfl | (simp; done) | simp | split
  all_goals first | rfl | (simp_all; done) | (simp only [Prod.ext_iff] at *; (try cases_type* And); subst_vars; first | rfl | (simp; done) | (simp_all; done))
@[simp ↓] theorem stem_readAny (addr : Word) (ns : Nat) (s : State) : stem (readAny addr ns s) = stem s := by unfold readAny; simp
@[simp ↓] theorem stem_writeMemory (p : Path) (addr w : Word) (s : State) : stem (writeMemory p addr w s) = stem s := by unfold writeMemory; split <;> simp
@[simp ↓] theorem stem_takeLease (p : Path) (page secs : Nat) (s : State) : stem (takeLease p page secs s) = stem s := by unfold takeLease; simp
@[simp ↓] theorem stem_leaseExpiry (g : Nat) (s : State) : stem (leaseExpiry g s) = stem s := by unfold leaseExpiry; split <;> simp
@[simp ↓] theorem stem_lockTime (u : Nat) (s : State) : stem (lockTime u s) = stem s := by unfold lockTime; simp
@[simp ↓] theorem stem_tickAon (u : Nat) (s : State) : stem (tickAon u s) = stem s := by unfold tickAon; simp
@[simp ↓] theorem stem_tickSample (len : Nat) (s : State) : stem (tickSample len s) = stem s := by unfold tickSample; simp
@[simp ↓] theorem stem_tickBoot (s : State) : stem (tickBoot s) = stem s := by unfold tickBoot; simp
@[simp ↓] theorem stem_tickWindow (s : State) : stem (tickWindow s) = stem s := by unfold tickWindow; simp
@[simp ↓] theorem stem_todRun (s : State) : stem (todRun s) = stem s := by unfold todRun; simp
@[simp ↓] theorem stem_svUntil (ns : Nat) (s : State) : stem (svUntil ns s) = stem s := by unfold svUntil; simp
@[simp ↓] theorem stem_lineTick (s : State) : stem (lineTick s) = stem s := by unfold lineTick; simp
@[simp ↓] theorem stem_setLane (n : Nat) (l : Lane) (s : State) : stem (setLane n l s) = stem s := by unfold setLane; split <;> simp
@[simp ↓] theorem stem_countPulse (c : Conv) (t : Nat) (s : State) : stem (countPulse c t s) = stem s := by unfold countPulse; simp
@[simp ↓] theorem stem_pulseOff (c : Conv) (t : Nat) (s : State) : stem (pulseOff c t s) = stem s := by
  unfold pulseOff
  repeat' first | rfl | (simp; done) | split
@[simp ↓] theorem stem_showPins (s : State) : stem (showPins s) = stem s := by unfold showPins; simp
@[simp ↓] theorem stem_setConv (n : Nat) (c : Option Conv) (s : State) : stem (setConv n c s) = stem s := by unfold setConv; simp
@[simp ↓] theorem stem_missStart (n : Nat) (c : Conv) (s : State) : stem (missStart n c s) = stem s := by unfold missStart; simp
@[simp ↓] theorem stem_ageLane (s : State) (n : Nat) : stem (ageLane s n) = stem s := by
  unfold ageLane
  repeat' first | rfl | (simp; done) | simp | split
@[simp ↓] theorem stem_ageLanes (s : State) : stem (ageLanes s) = stem s := by unfold ageLanes; simp
@[simp ↓] theorem stem_takeSlack (d : Slot) (at_ : Nat) (s : State) : stem (takeSlack d at_ s) = stem s := by unfold takeSlack; simp
@[simp ↓] theorem stem_deadline (idx cause : Nat) (aborted : Bool) (s : State) : stem (deadline idx cause aborted s) = stem s := by unfold deadline; simp
@[simp ↓] theorem stem_abortAtBoundary (len : Nat) (r : Running) (s : State) : stem (abortAtBoundary len r s) = stem s := by unfold abortAtBoundary; simp
@[simp ↓] theorem stem_countMissed (d : Slot) (s : State) : stem (countMissed d s) = stem s := by unfold countMissed; simp
@[simp ↓] theorem stem_missAtBoundary (len : Nat) (s : State) (d : Slot) : stem (missAtBoundary len s d) = stem s := by unfold missAtBoundary; simp
@[simp ↓] theorem stem_reportSlack (s : State) : stem (reportSlack s) = stem s := by unfold reportSlack; simp
@[simp ↓] theorem stem_planTickEnd (s : State) : stem (planTickEnd s) = stem s := by
  unfold planTickEnd
  repeat' first | rfl | (simp; done) | split
@[simp ↓] theorem stem_runBegin (j : Nat) (s : State) : stem (runBegin j s) = stem s := by unfold runBegin; simp
@[simp ↓] theorem stem_dmaWord (a0_ ns : Nat) (s : State) : stem (dmaWord a0_ ns s).1 = stem s := by
  unfold dmaWord
  repeat' first | rfl | (simp; done) | simp | split
  all_goals first | rfl | (simp_all; done) | (simp only [Prod.ext_iff] at *; (try cases_type* And); subst_vars; first | rfl | (simp; done) | (simp_all; done))
@[simp ↓] theorem stem_dmaWords (a0_ a1_ : Nat) (a2_ : State) : stem (dmaWords a0_ a1_ a2_).1 = stem a2_ := by
  induction a0_ generalizing a1_ a2_ with
  | zero => rfl
  | succ n ih =>
    unfold dmaWords
    split
    · rename_i h; exact stem_fst h (stem_dmaWord _ _ _)
    · rename_i h
      have h1 := stem_fst h (stem_dmaWord _ _ _)
      split
      · rename_i h2; exact (stem_fst h2 (ih _ _)).trans h1
      · rename_i h2; exact (stem_fst h2 (ih _ _)).trans h1
@[simp ↓] theorem stem_dmaBytes (a0_ : Nat) (s : State) : stem (dmaBytes a0_ s).1 = stem s := by
  unfold dmaBytes
  repeat' first | rfl | (simp; done) | simp | split
  all_goals first | rfl | (simp_all; done) | (simp only [Prod.ext_iff] at *; (try cases_type* And); subst_vars; first | rfl | (simp; done) | (simp_all; done))
@[simp ↓] theorem stem_storedTile (form : Nat) (vs : List Int) (s : State) : stem (storedTile form vs s).1 = stem s := by
  unfold storedTile
  repeat' first | rfl | (simp; done) | simp | split
@[simp ↓] theorem stem_readTile (a0_ : Nat) (s : State) : stem (readTile a0_ s).1 = stem s := by
  unfold readTile
  repeat' first | rfl | (simp; done) | simp | split
  all_goals first | rfl | (simp_all; done) | (simp only [Prod.ext_iff] at *; (try cases_type* And); subst_vars; first | rfl | (simp; done) | (simp_all; done))
@[simp ↓] theorem stem_dmaTile (a0_ : Nat) (s : State) : stem (dmaTile a0_ s).1 = stem s := by unfold dmaTile; split <;> simp
@[simp ↓] theorem stem_ownForm (a0_ nnz : Nat) (s : State) : stem (ownForm a0_ nnz s).1 = stem s := by
  unfold ownForm
  repeat' first | rfl | (simp; done) | simp | split
@[simp ↓] theorem stem_unitRead (j k ns : Nat) (s : State) : stem (unitRead j k ns s).1 = stem s := by
  unfold unitRead
  repeat' first | rfl | (simp; done) | simp | split
  all_goals first | rfl | (simp_all; done) | (simp only [Prod.ext_iff] at *; (try cases_type* And); subst_vars; first | rfl | (simp; done) | (simp_all; done))
@[simp ↓] theorem stem_runErr (j : Nat) (s : State) : stem (runErr j s) = stem s := by unfold runErr; simp
@[simp ↓] theorem stem_runMeta (j k code : Nat) (s : State) : stem (runMeta j k code s) = stem s := by unfold runMeta; simp
@[simp ↓] theorem stem_sramBytes (a0_ : Nat) (bs : List Byte) (s : State) : stem (sramBytes a0_ bs s) = stem s := by unfold sramBytes; simp
@[simp ↓] theorem stem_memWrite (a0_ : Nat) (w : Word) (s : State) : stem (memWrite a0_ w s).1 = stem s := by
  unfold memWrite
  repeat' first | rfl | (simp; done) | simp | split
  all_goals first | rfl | (simp_all; done) | (simp only [Prod.ext_iff] at *; (try cases_type* And); subst_vars; first | rfl | (simp; done) | (simp_all; done))
@[simp ↓] theorem stem_dmaStore (kind a1_ : Nat) (bs : List Byte) (s : State) : stem (dmaStore kind a1_ bs s) = stem s := by unfold dmaStore; split <;> simp
@[simp ↓] theorem stem_unitWrite (j : Nat) (bs : List Byte) (s : State) : stem (unitWrite j bs s) = stem s := by unfold unitWrite; simp
@[simp ↓] theorem stem_runUnit (j ns : Nat) (s : State) : stem (runUnit j ns s) = stem s := by
  unfold runUnit
  repeat' first | rfl | (simp; done) | simp | split
  all_goals first | rfl | (simp_all; done) | (simp only [Prod.ext_iff] at *; (try cases_type* And); subst_vars; first | rfl | (simp; done) | (simp_all; done))
@[simp ↓] theorem stem_dmaSteps (mhz began : Nat) (now lim : Option Nat) (a4_ : Nat) (a5_ : State) : stem (dmaSteps mhz began now lim a4_ a5_) = stem a5_ := by
  fun_induction dmaSteps <;> simp_all +zetaDelta
@[simp ↓] theorem stem_dmaUntil (at_ : Option Nat) (s : State) : stem (dmaUntil at_ s) = stem s := by unfold dmaUntil; split <;> simp
@[simp ↓] theorem stem_epochEnd (s : State) : stem (epochEnd s) = stem s := by unfold epochEnd; simp
@[simp ↓] theorem stem_epochBegin (s : State) : stem (epochBegin s) = stem s := by unfold epochBegin; simp
@[simp ↓] theorem stem_streamRead (a0_ a1_ : Nat) (a2_ : State) : stem (streamRead a0_ a1_ a2_).1 = stem a2_ := by
  induction a0_ generalizing a1_ a2_ with
  | zero => rfl
  | succ n ih =>
    unfold streamRead
    split
    · rename_i h
      have h1 := stem_fst h (stem_readTile _ _)
      extract_lets fmt len
      split
      · rename_i h2; exact (stem_fst h2 (ih _ _)).trans h1
      · exact (ih _ _).trans h1
    · rename_i h; exact stem_fst h (stem_readTile _ _)
@[simp ↓] theorem stem_loadSample (l : LayerD) (a1_ : Sample) (s : State) : stem (loadSample l a1_ s) = stem s := by
  unfold loadSample
  repeat' first | rfl | (simp; done) | simp | split
  all_goals first | rfl | (simp_all; done) | (simp only [Prod.ext_iff] at *; (try cases_type* And); subst_vars; first | rfl | (simp; done) | (simp_all; done))
@[simp ↓] theorem stem_weightRow (l : LayerD) (o : Nat) (s : State) : stem (weightRow l o s).1 = stem s := by
  unfold weightRow
  repeat' first | rfl | (simp; done) | simp | split
  all_goals first | rfl | (simp_all; done) | (simp only [Prod.ext_iff] at *; (try cases_type* And); subst_vars; first | rfl | (simp; done) | (simp_all; done))
@[simp ↓] theorem stem_forwardRow (l : LayerD) (o : Nat) (s : State) : stem (forwardRow l o s) = stem s := by
  unfold forwardRow
  repeat' first | rfl | (simp; done) | simp | split
  all_goals first | rfl | (simp_all; done) | (simp only [Prod.ext_iff] at *; (try cases_type* And); subst_vars; first | rfl | (simp; done) | (simp_all; done))
@[simp ↓] theorem stem_putRow (l : LayerD) (o : Nat) (vs : List Int) (s : State) : stem (putRow l o vs s) = stem s := by unfold putRow; simp
@[simp ↓] theorem stem_updateRow (l : LayerD) (o : Nat) (s : State) : stem (updateRow l o s) = stem s := by
  unfold updateRow
  repeat' first | rfl | (simp; done) | simp | split
  all_goals first | rfl | (simp_all; done) | (simp only [Prod.ext_iff] at *; (try cases_type* And); subst_vars; first | rfl | (simp; done) | (simp_all; done))
@[simp ↓] theorem stem_sealHead (l : LayerD) (s : State) : stem (sealHead l s) = stem s := by unfold sealHead; simp
@[simp ↓] theorem stem_sealRow (l : LayerD) (s : State) : stem (sealRow l s) = stem s := by
  unfold sealRow
  repeat' first | rfl | (simp; done) | simp | split
  all_goals first | rfl | (simp_all; done) | (simp only [Prod.ext_iff] at *; (try cases_type* And); subst_vars; first | rfl | (simp; done) | (simp_all; done))
theorem stem_nextStep {l : LayerD} {s : State} {x : Nat × (State → State)} (h : nextStep l s = some x) (t : State) : stem (x.2 t) = stem t := by
  unfold nextStep at h
  simp only [] at h
  repeat' split at h
  all_goals first | (cases h; done) | (cases h; first | rfl | simp)
@[simp ↓] theorem stem_learnSteps (l : LayerD) (avail a2_ : Nat) (a3_ : State) : stem (learnSteps l avail a2_ a3_) = stem a3_ := by
  induction a2_ generalizing a3_ with
  | zero => rfl
  | succ n ih =>
    unfold learnSteps
    extract_lets s1
    have h1 : stem s1 = stem a3_ := by unfold s1; simp
    clear_value s1
    split
    · rename_i h
      split
      · exact (ih _).trans ((stem_nextStep h _).trans ((stem_learn _ _).trans h1))
      · exact h1
    · exact h1
@[simp ↓] theorem stem_learnUntil (us : Nat) (s : State) : stem (learnUntil us s) = stem s := by unfold learnUntil; split <;> simp
@[simp ↓] theorem stem_learnWork (at_ : Nat) (s : State) : stem (learnWork at_ s) = stem s := by unfold learnWork; split <;> simp
@[simp ↓] theorem stem_progress (t : Nat) (s : State) : stem (progress t s) = stem s := by unfold progress; simp
@[simp ↓] theorem stem_testEnds (c result seg : Nat) (s : State) : stem (testEnds c result seg s) = stem s := by unfold testEnds; simp
@[simp ↓] theorem stem_testFail (c seg : Nat) (inj : Bool) (s : State) : stem (testFail c seg inj s) = stem s := by
  unfold testFail
  extract_lets s1 src s2
  have h1 : stem s1 = stem s := by unfold s1; simp
  have h2 : stem s2 = stem s1 := stem_bist _ _
  clear_value s2 src s1
  split
  · exact (stem_bist _ _).trans h1
  · simp [h1, h2]
@[simp ↓] theorem stem_markPass (c : Nat) (s : State) : stem (markPass c s) = stem s := by unfold markPass; simp
@[simp ↓] theorem stem_testPass (c : Nat) (s : State) : stem (testPass c s) = stem s := by
  unfold testPass
  extract_lets s1 src s2
  have h1 : stem s1 = stem s := by unfold s1; simp
  have h2 : stem s2 = stem s1 := by unfold s2; simp
  clear_value s2 src s1
  split
  · exact (stem_markPass _ _).trans ((stem_bist _ _).trans h1)
  · split
    · simp [h1]
    · exact (stem_bist _ _).trans (h2.trans h1)
@[simp ↓] theorem stem_pattern (s : State) : stem (pattern s) = stem s := by unfold pattern; split <;> simp
@[simp ↓] theorem stem_patterns (a0_ : Nat) (a1_ : State) : stem (patterns a0_ a1_) = stem a1_ := by
  fun_induction patterns <;> simp_all +zetaDelta
@[simp ↓] theorem stem_scrubPass (s : State) : stem (scrubPass s) = stem s := by unfold scrubPass; simp
@[simp ↓] theorem stem_scrubNext (s : State) : stem (scrubNext s) = stem s := by unfold scrubNext; simp
@[simp ↓] theorem stem_scrubBack (k : Nat) (s : State) : stem (scrubBack k s) = stem s := by unfold scrubBack; simp
@[simp ↓] theorem stem_scrubAt (a0_ : Nat) (s : State) : stem (scrubAt a0_ s) = stem s := by
  unfold scrubAt
  repeat' first | rfl | (simp; done) | simp | split
@[simp ↓] theorem stem_scrubStep (s : State) : stem (scrubStep s).1 = stem s := by unfold scrubStep; split <;> simp
@[simp ↓] theorem stem_scrubSteps (a0_ : Nat) (a1_ : State) : stem (scrubSteps a0_ a1_).1 = stem a1_ := by
  induction a0_ generalizing a1_ with
  | zero => rfl
  | succ n ih =>
    unfold scrubSteps
    split
    · rename_i h; exact (ih _).trans (stem_fst h (stem_scrubStep _))
    · rename_i h; exact stem_fst h (stem_scrubStep _)
@[simp ↓] theorem stem_setCal (c : Nat) (r : Option CalRun) (s : State) : stem (setCal c r s) = stem s := by unfold setCal; simp
@[simp ↓] theorem stem_calStep (arg : Nat) (s : State) : stem (calStep arg s).1 = stem s := by unfold calStep; split <;> simp
@[simp ↓] theorem stem_doUnits (t arg n : Nat) (s : State) : stem (doUnits t arg n s) = stem s := by
  unfold doUnits
  repeat' first | rfl | (simp; done) | simp | split
  all_goals first | rfl | (simp_all; done) | (simp only [Prod.ext_iff] at *; (try cases_type* And); subst_vars; first | rfl | (simp; done) | (simp_all; done))
@[simp ↓] theorem stem_workUntil (at_ : Nat) (s : State) : stem (workUntil at_ s) = stem s := by unfold workUntil; split <;> simp
@[simp ↓] theorem stem_crcsOk (l : LayerD) (arena : Nat) (s : State) : stem (crcsOk l arena s).1 = stem s := by
  unfold crcsOk
  repeat' first | rfl | (simp; done) | simp | split
@[simp ↓] theorem stem_readTiles (base a1_ a2_ : Nat) (a3_ : State) : stem (readTiles base a1_ a2_ a3_).1 = stem a3_ := by
  induction a1_ generalizing a2_ a3_ with
  | zero => rfl
  | succ n ih =>
    unfold readTiles
    split
    · rename_i h; exact stem_fst h (stem_readTile _ _)
    · rename_i h; exact stem_fst h (stem_readTile _ _)
    · rename_i h
      have h1 := stem_fst h (stem_readTile _ _)
      split
      · rename_i h2; exact (stem_fst h2 (ih _ _)).trans h1
      · exact (ih _ _).trans h1
@[simp ↓] theorem stem_recheckHead (s : State) : stem (recheckHead s) = stem s := by unfold recheckHead; simp
@[simp ↓] theorem stem_metaAbort (code checker item cell : Nat) (learned : Bool) (s : State) : stem (metaAbort code checker item cell learned s) = stem s := by unfold metaAbort; simp
@[simp ↓] theorem stem_readAhead (c k : Nat) (l : LayerD) (s : State) : stem (readAhead c k l s) = stem s := by
  unfold readAhead
  extract_lets arena
  split
  · rename_i h; exact (stem_abortRun _ _ _ _).trans (stem_fst h (stem_crcsOk _ _ _))
  · rename_i h
    have h1 := stem_fst h (stem_crcsOk _ _ _)
    extract_lets g
    split
    · rename_i h2; exact (stem_metaAbort _ _ _ _ _ _).trans ((stem_fst h2 (stem_readTiles _ _ _ _)).trans h1)
    · rename_i h2; exact (stem_abortRun _ _ _ _).trans ((stem_fst h2 (stem_readTiles _ _ _ _)).trans h1)
    · rename_i h2; exact (stem_arr _ _).trans ((stem_fst h2 (stem_readTiles _ _ _ _)).trans h1)
@[simp ↓] theorem stem_cellUntil (ns : Nat) (s : State) (c : Nat) : stem (cellUntil ns s c) = stem s := by unfold cellUntil; split <;> simp
@[simp ↓] theorem stem_arrUntil (at_ : Nat) (s : State) : stem (arrUntil at_ s) = stem s := by unfold arrUntil; simp
@[simp ↓] theorem stem_slotWork (whole : Bool) (at_ : Nat) (s : State) : stem (slotWork whole at_ s) = stem s := by unfold slotWork; simp
@[simp ↓] theorem stem_changeSource (src : Nat) (s : State) : stem (changeSource src s) = stem s := by unfold changeSource; simp
@[simp ↓] theorem stem_boundarySource (s : State) : stem (boundarySource s) = stem s := by unfold boundarySource; simp
@[simp ↓] theorem stem_State_putI (s : State) (f : Fld) (a2_ : Int) : stem (State.putI s f a2_) = stem s := by unfold State.putI; simp
@[simp ↓] theorem stem_showPhase (s : State) : stem (showPhase s) = stem s := by unfold showPhase; simp
@[simp ↓] theorem stem_tickPhase (s : State) : stem (tickPhase s) = stem s := by unfold tickPhase; simp
@[simp ↓] theorem stem_almBin48 (off n : Nat) (s : State) : stem (almBin48 off n s) = stem s := by unfold almBin48; simp
@[simp ↓] theorem stem_almResidency (s : State) : stem (almResidency s) = stem s := by unfold almResidency; simp
@[simp ↓] theorem stem_almSlack (s : State) : stem (almSlack s) = stem s := by unfold almSlack; simp
@[simp ↓] theorem stem_loseTimeSource (s : State) : stem (loseTimeSource s) = stem s := by unfold loseTimeSource; simp
@[simp ↓] theorem stem_ppsLost (s : State) : stem (ppsLost s) = stem s := by unfold ppsLost; simp
@[simp ↓] theorem stem_ptpLoss (s : State) : stem (ptpLoss s) = stem s := by unfold ptpLoss; simp
@[simp ↓] theorem stem_xtalLost (inj : Bool) (s : State) : stem (xtalLost inj s) = stem s := by unfold xtalLost; simp
@[simp ↓] theorem stem_injLoseSource (s : State) : stem (injLoseSource s) = stem s := by unfold injLoseSource; split <;> simp
@[simp ↓] theorem stem_injXtalFail (s : State) : stem (injXtalFail s) = stem s := by unfold injXtalFail; simp
@[simp ↓] theorem stem_setAdac (n : Nat) (a1_ : Adac) (s : State) : stem (setAdac n a1_ s) = stem s := by unfold setAdac; simp
@[simp ↓] theorem stem_adacDisturb (n : Nat) (s : State) : stem (adacDisturb n s) = stem s := by unfold adacDisturb; simp
@[simp ↓] theorem stem_adacFollow (n : Nat) (s : State) : stem (adacFollow n s) = stem s := by unfold adacFollow; simp
@[simp ↓] theorem stem_assertClamp (fresh : Bool) (s : State) : stem (assertClamp fresh s) = stem s := by unfold assertClamp; simp
@[simp ↓] theorem stem_adacOverload (n : Nat) (s : State) : stem (adacOverload n s) = stem s := by unfold adacOverload; simp
@[simp ↓] theorem stem_showGate (s : State) : stem (showGate s) = stem s := by unfold showGate; simp
@[simp ↓] theorem stem_txOff (s : State) : stem (txOff s) = stem s := by unfold txOff; simp
@[simp ↓] theorem stem_jabber (inj : Bool) (s : State) : stem (jabber inj s) = stem s := by unfold jabber; simp
@[simp ↓] theorem stem_ptpLost (s : State) : stem (ptpLost s) = stem s := by unfold ptpLost; simp
@[simp ↓] theorem stem_dropLink (s : State) : stem (dropLink s) = stem s := by unfold dropLink; simp
@[simp ↓] theorem stem_linkDown (inj : Bool) (s : State) : stem (linkDown inj s) = stem s := by unfold linkDown; simp
@[simp ↓] theorem stem_svLost (s : State) : stem (svLost s) = stem s := by unfold svLost; simp
@[simp ↓] theorem stem_svCut (ns : Nat) (s : State) : stem (svCut ns s) = stem s := by unfold svCut; simp
@[simp ↓] theorem stem_injOpen (s : State) : stem (injOpen s) = stem s := by unfold injOpen; simp
@[simp ↓] theorem stem_setFast (k : Nat) (f : Fast) (s : State) : stem (setFast k f s) = stem s := by unfold setFast; simp
@[simp ↓] theorem stem_resetEstimator (k : Nat) (s : State) : stem (resetEstimator k s) = stem s := by unfold resetEstimator; simp
@[simp ↓] theorem stem_inject (p pt : Nat) (s : State) : stem (inject p pt s) = stem s := by unfold inject; split <;> simp
@[simp ↓] theorem stem_tickInject (s : State) : stem (tickInject s) = stem s := by unfold tickInject; simp
@[simp ↓] theorem stem_testRestart (s : State) : stem (testRestart s) = stem s := by unfold testRestart; simp
@[simp ↓] theorem stem_strapFsk (s : State) : stem (strapFsk s) = stem s := by unfold strapFsk; simp
@[simp ↓] theorem stem_fskRestart (s : State) : stem (fskRestart s) = stem s := by unfold fskRestart; simp
@[simp ↓] theorem stem_pubRestart (s : State) : stem (pubRestart s) = stem s := by unfold pubRestart; simp
@[simp ↓] theorem stem_cycleIdle (s : State) : stem (cycleIdle s) = stem s := by unfold cycleIdle; simp
@[simp ↓] theorem stem_restartAna (p : Nat) (s : State) : stem (restartAna p s) = stem s := by unfold restartAna; split <;> simp
@[simp ↓] theorem stem_restartCell (c : Nat) (s : State) : stem (restartCell c s) = stem s := by
  unfold restartCell
  repeat' first | rfl | (simp; done) | split
@[simp ↓] theorem stem_restartBlock (p : Nat) (b s : State) : stem (restartBlock p b s) = stem s := by unfold restartBlock; split <;> simp
@[simp ↓] theorem stem_resetPage (p : Nat) (s : State) : stem (resetPage p s) = stem s := by unfold resetPage; simp
@[simp ↓] theorem stem_softReset (p : Nat) (s : State) : stem (softReset p s) = stem s := by unfold softReset; simp
@[simp ↓] theorem stem_softResets (s : State) : stem (softResets s) = stem s := by unfold softResets; simp
@[simp ↓] theorem stem_resolveReg (win : Nat) (js : List JEntry) (s : State) (a3_ : Nat × Nat) : stem (resolveReg win js s a3_) = stem s := by
  unfold resolveReg
  repeat' first | rfl | (simp; done) | simp | split
@[simp ↓] theorem stem_addClog (page winSid loseSid winner loser kind off : Nat) (s : State) : stem (addClog page winSid loseSid winner loser kind off s) = stem s := by unfold addClog; simp
@[simp ↓] theorem stem_undoLate (g : Nat) (losers : List Nat) (s : State) : stem (undoLate g losers s) = stem s := by unfold undoLate; simp
@[simp ↓] theorem stem_resolveGroup (s : State) (g : Nat) : stem (resolveGroup s g) = stem s := by
  unfold resolveGroup
  extract_lets js ranks win s1 winner sid losers s2
  have h1 : stem s1 = stem s := by unfold s1; rw [stem_foldl]; intro s x; simp
  have h2 : stem s2 = stem s1 := by unfold s2; rw [stem_foldl]; intro s x; split <;> simp
  clear_value s2 s1
  split
  · rfl
  · simp [h1, h2]
@[simp ↓] theorem stem_contention (s : State) : stem (contention s) = stem s := by
  unfold contention; simp
@[simp ↓] theorem stem_tickTest (s : State) : stem (tickTest s) = stem s := by unfold tickTest; simp
@[simp ↓] theorem stem_tickPassage (s : State) : stem (tickPassage s) = stem s := by unfold tickPassage; simp
@[simp ↓] theorem stem_tickTrim (shunt cmd : Nat) (s : State) : stem (tickTrim shunt cmd s) = stem s := by unfold tickTrim; simp
@[simp ↓] theorem stem_tickLine (shunt : Nat) (cut part full : Bool) (vpre : Nat) (s : State) : stem (tickLine shunt cut part full vpre s) = stem s := by unfold tickLine; simp
@[simp ↓] theorem stem_tickAdac (ov0 ov1 : Bool) (s : State) : stem (tickAdac ov0 ov1 s) = stem s := by unfold tickAdac; simp
@[simp ↓] theorem stem_setVcore (k : Nat) (s : State) : stem (setVcore k s) = stem s := by unfold setVcore; simp
@[simp ↓] theorem stem_avsReport (m : Option Nat) (s : State) : stem (avsReport m s) = stem s := by
  unfold avsReport
  repeat' first | rfl | (simp; done) | simp | split
@[simp ↓] theorem stem_tickPhy (sqi mse errs : Nat) (s : State) : stem (tickPhy sqi mse errs s) = stem s := by unfold tickPhy; simp
@[simp ↓] theorem stem_tickDie (t : Int) (s : State) : stem (tickDie t s) = stem s := by unfold tickDie; simp
@[simp ↓] theorem stem_measure (t : TickIn) (s : State) : stem (measure t s) = stem s := by unfold measure; simp
@[simp ↓] theorem stem_actOn (c : Nat) (f : State → State) (s : State) (hf : ∀ t, stem (f t) = stem t) : stem (actOn c f s) = stem s := by
  unfold actOn
  repeat' first | rfl | (simp; done) | simp | split
  all_goals first | rfl | (simp_all; done)
@[simp ↓] theorem stem_loopTest (s : State) : stem (loopTest s) = stem s := by unfold loopTest; simp
@[simp ↓] theorem stem_enterTrim (k : Nat) (s : State) : stem (enterTrim k s) = stem s := by unfold enterTrim; simp
@[simp ↓] theorem stem_storeTrim (s : State) : stem (storeTrim s) = stem s := by unfold storeTrim; simp
@[simp ↓] theorem stem_keyAction (c : Nat) (s : State) : stem (keyAction c s) = stem s := by unfold keyAction; split <;> simp
@[simp ↓] theorem stem_overdueAction (s : State) : stem (overdueAction s) = stem s := by unfold overdueAction; split <;> simp
@[simp ↓] theorem stem_freezeTicks (s : State) : stem (freezeTicks s) = stem s := by unfold freezeTicks; simp
@[simp ↓] theorem stem_keepCommand (s : State) : stem (keepCommand s) = stem s := by unfold keepCommand; simp
@[simp ↓] theorem stem_spanDone (s : State) : stem (spanDone s) = stem s := by unfold spanDone; simp
@[simp ↓] theorem stem_passDone (n : Nat) (s : State) : stem (passDone n s) = stem s := by unfold passDone; simp
@[simp ↓] theorem stem_withShadow (p : Nat) (offs : List Nat) (s : State) : stem (withShadow p offs s) = stem s := by unfold withShadow; simp
@[simp ↓] theorem stem_refuseCommit (load : Bool) (p : Nat) (r : Nat × Word) (s : State) : stem (refuseCommit load p r s) = stem s := by unfold refuseCommit; simp
@[simp ↓] theorem stem_takeShadows (p : Nat) (s : State) : stem (takeShadows p s) = stem s := by unfold takeShadows; simp
@[simp ↓] theorem stem_clipPeriods (s : State) : stem (clipPeriods s) = stem s := by unfold clipPeriods; simp
@[simp ↓] theorem stem_clipOffsets (s : State) : stem (clipOffsets s) = stem s := by unfold clipOffsets; simp
@[simp ↓] theorem stem_ppsLoss (s : State) : stem (ppsLoss s) = stem s := by unfold ppsLoss; simp
@[simp ↓] theorem stem_clearSynced (s : State) : stem (clearSynced s) = stem s := by unfold clearSynced; simp
@[simp ↓] theorem stem_enterFree (s : State) : stem (enterFree s) = stem s := by unfold enterFree; simp
@[simp ↓] theorem stem_afterTickCommit (before s : State) : stem (afterTickCommit before s) = stem s := by unfold afterTickCommit; simp
@[simp ↓] theorem stem_showPubSizes (s : State) : stem (showPubSizes s) = stem s := by unfold showPubSizes; simp
@[simp ↓] theorem stem_revalidatePub (s : State) : stem (revalidatePub s) = stem s := by
  unfold revalidatePub
  repeat' first | rfl | (simp; done) | simp | split
@[simp ↓] theorem stem_afterFltCommit (p : Nat) (before s : State) : stem (afterFltCommit p before s) = stem s := by unfold afterFltCommit; simp
@[simp ↓] theorem stem_setGen (g : Nat) (s : State) : stem (setGen g s) = stem s := by unfold setGen; simp
@[simp ↓] theorem stem_changeGen (g : Nat) (s : State) : stem (changeGen g s) = stem s := by unfold changeGen; simp
@[simp ↓] theorem stem_afterLineCommit (before s : State) : stem (afterLineCommit before s) = stem s := by unfold afterLineCommit; simp
@[simp ↓] theorem stem_fskLeaves (s : State) : stem (fskLeaves s) = stem s := by unfold fskLeaves; simp
@[simp ↓] theorem stem_afterLdacCommit (load : Bool) (before s : State) : stem (afterLdacCommit load before s) = stem s := by unfold afterLdacCommit; simp
@[simp ↓] theorem stem_afterAdacCommit1 (n : Nat) (before s : State) : stem (afterAdacCommit1 n before s) = stem s := by unfold afterAdacCommit1; simp
@[simp ↓] theorem stem_afterAdacCommit (before s : State) : stem (afterAdacCommit before s) = stem s := by unfold afterAdacCommit; simp
@[simp ↓] theorem stem_showTh (s : State) : stem (showTh s) = stem s := by unfold showTh; simp
@[simp ↓] theorem stem_afterFskCommit (before s : State) : stem (afterFskCommit before s) = stem s := by unfold afterFskCommit; simp
@[simp ↓] theorem stem_afterPubCommit (s : State) : stem (afterPubCommit s) = stem s := by unfold afterPubCommit; simp
@[simp ↓] theorem stem_retime (s : State) : stem (retime s) = stem s := by
  unfold retime; rw [stem_foldl]; intro s n; split; split <;> simp; rfl
@[simp ↓] theorem stem_afterXptCommit (before s : State) : stem (afterXptCommit before s) = stem s := by
  unfold afterXptCommit; simp
@[simp ↓] theorem stem_afterExcCommit (s : State) : stem (afterExcCommit s) = stem s := by unfold afterExcCommit; simp
@[simp ↓] theorem stem_afterFastCommit (k : Nat) (before s : State) : stem (afterFastCommit k before s) = stem s := by unfold afterFastCommit; simp
@[simp ↓] theorem stem_clearHistory (s : State) : stem (clearHistory s) = stem s := by unfold clearHistory; simp
@[simp ↓] theorem stem_afterRecCommit (before s : State) : stem (afterRecCommit before s) = stem s := by unfold afterRecCommit; simp
@[simp ↓] theorem stem_abandonDirect (n : Nat) (s : State) : stem (abandonDirect n s) = stem s := by unfold abandonDirect; simp
@[simp ↓] theorem stem_afterLaneCommit (n : Nat) (s : State) : stem (afterLaneCommit n s) = stem s := by unfold afterLaneCommit; simp
@[simp ↓] theorem stem_afterCommit (load : Bool) (p : Nat) (b s : State) : stem (afterCommit load p b s) = stem s := by unfold afterCommit; split <;> simp
@[simp ↓] theorem stem_applyCommit (load : Bool) (p : Nat) (s : State) : stem (applyCommit load p s) = stem s := by unfold applyCommit; simp
@[simp ↓] theorem stem_maskedEntry (s : State) : stem (maskedEntry s) = stem s := by
  unfold maskedEntry
  repeat' first | rfl | (simp; done) | simp | split
@[simp ↓] theorem stem_commitPage (e : CommitEnv) (p : Nat) (s : State) : stem (commitPage e p s) = stem s := by
  unfold commitPage
  repeat' first | rfl | (simp; done) | simp | split
@[simp ↓] theorem stem_commits (s : State) : stem (commits s).1 = stem s := by unfold commits; simp
@[simp ↓] theorem stem_tickTod (s : State) : stem (tickTod s) = stem s := by
  unfold tickTod
  split
  · split
    · rfl
    · split <;> exact stem_link _ _
  · rfl
@[simp ↓] theorem stem_makeDue (cause : Nat) (s : State) : stem (makeDue cause s) = stem s := by unfold makeDue; simp
@[simp ↓] theorem stem_almSnap (s : State) : stem (almSnap s) = stem s := by unfold almSnap; simp
@[simp ↓] theorem stem_almSet (off v : Nat) (s : State) : stem (almSet off v s) = stem s := by unfold almSet; simp
@[simp ↓] theorem stem_almReset (mask : Nat) (s : State) : stem (almReset mask s) = stem s := by unfold almReset; simp
@[simp ↓] theorem stem_almEffect (s : State) (c : Nat × Nat) : stem (almEffect s c) = stem s := by
  unfold almEffect
  repeat' first | rfl | (simp; done) | simp | split
@[simp ↓] theorem stem_almCommands (s : State) : stem (almCommands s) = stem s := by unfold almCommands; simp
@[simp ↓] theorem stem_learnStart (init : Bool) (l : LayerD) (s : State) : stem (learnStart init l s) = stem s := by unfold learnStart; simp
@[simp ↓] theorem stem_discardHeads (s : State) : stem (discardHeads s) = stem s := by unfold discardHeads; simp
@[simp ↓] theorem stem_pruneCommand (c : Nat × Nat) (s : State) : stem (pruneCommand c s) = stem s := by
  unfold pruneCommand
  repeat' first | rfl | (simp; done) | simp | split
@[simp ↓] theorem stem_pruneCommands (s : State) : stem (pruneCommands s) = stem s := by unfold pruneCommands; simp
@[simp ↓] theorem stem_trimBoundary (s : State) : stem (trimBoundary s) = stem s := by unfold trimBoundary; simp
@[simp ↓] theorem stem_lockBoundary (s : State) : stem (lockBoundary s) = stem s := by unfold lockBoundary; split <;> simp
@[simp ↓] theorem stem_saveBoundary (s : State) : stem (saveBoundary s) = stem s := by unfold saveBoundary; simp
@[simp ↓] theorem stem_rampStep (s : State) : stem (rampStep s) = stem s := by unfold rampStep; simp
@[simp ↓] theorem stem_releaseFaultClamp (s : State) : stem (releaseFaultClamp s) = stem s := by unfold releaseFaultClamp; simp
@[simp ↓] theorem stem_releaseClamp (s : State) : stem (releaseClamp s) = stem s := by unfold releaseClamp; simp
@[simp ↓] theorem stem_ppsOutPulse (s : State) : stem (ppsOutPulse s) = stem s := by unfold ppsOutPulse; simp
@[simp ↓] theorem stem_effects (s : State) : stem (effects s) = stem s := by unfold effects; simp
@[simp ↓] theorem stem_fskReply (r : FskReq) (code : Nat) (data : List Byte) (s : State) : stem (fskReply r code data s) = stem s := by unfold fskReply; simp
@[simp ↓] theorem stem_fskUnknown (a0_ : Nat) (a1_ : State) : stem (fskUnknown a0_ a1_) = stem a1_ := by
  induction a0_ generalizing a1_ with
  | zero => rfl
  | succ n ih =>
    unfold fskUnknown
    split
    · split
      · rfl
      · exact (ih _).trans (by simp)
    · rfl
@[simp ↓] theorem stem_setChanged (s : State) : stem (setChanged s) = stem s := by unfold setChanged; simp
@[simp ↓] theorem stem_fskLate (l : LateReply) (s : State) : stem (fskLate l s) = stem s := by unfold fskLate; split <;> simp
@[simp ↓] theorem stem_queueTx (f : TxFrame) (s : State) : stem (queueTx f s) = stem s := by unfold queueTx; simp
@[simp ↓] theorem stem_queueIp (f : TxFrame) (s : State) : stem (queueIp f s) = stem s := by unfold queueIp; split <;> simp
@[simp ↓] theorem stem_yrapSend (vlan : Option Nat) (v6 : Bool) (ip port op sid status tag ctr : Nat) (body : List Byte) (dir : Byte) (sk : Option (List Byte)) (s : State) : stem (yrapSend vlan v6 ip port op sid status tag ctr body dir sk s) = stem s := by unfold yrapSend; simp
@[simp ↓] theorem stem_yrapLate (l : LateReply) (s : State) : stem (yrapLate l s) = stem s := by unfold yrapLate; split <;> simp
@[simp ↓] theorem stem_lateReplies (s : State) : stem (lateReplies s) = stem s := by unfold lateReplies; simp
@[simp ↓] theorem stem_bootBoundary (s : State) : stem (bootBoundary s) = stem s := by unfold bootBoundary; simp
@[simp ↓] theorem stem_endCeiling (ms : Nat) (s : State) : stem (endCeiling ms s) = stem s := by unfold endCeiling; simp
@[simp ↓] theorem stem_loadSettled (applied : Bool) (us : Nat) (s : State) : stem (loadSettled applied us s) = stem s := by unfold loadSettled; simp
@[simp ↓] theorem stem_beginCoreTest (s : State) : stem (beginCoreTest s) = stem s := by unfold beginCoreTest; simp
@[simp ↓] theorem stem_startUp (load : Bool) (us : Nat) (s : State) : stem (startUp load us s) = stem s := by unfold startUp; simp
@[simp ↓] theorem stem_tickAlive (s : State) : stem (tickAlive s) = stem s := by unfold tickAlive; simp
@[simp ↓] theorem stem_tickCalm (s : State) : stem (tickCalm s) = stem s := by unfold tickCalm; simp
@[simp ↓] theorem stem_tickLeaks (s : State) : stem (tickLeaks s) = stem s := by unfold tickLeaks; simp
@[simp ↓] theorem stem_tickFsk (s : State) : stem (tickFsk s) = stem s := by unfold tickFsk; simp
@[simp ↓] theorem stem_tickYrap (s : State) : stem (tickYrap s) = stem s := by unfold tickYrap; simp
@[simp ↓] theorem stem_tickSessions (s : State) : stem (tickSessions s) = stem s := by unfold tickSessions; simp
@[simp ↓] theorem stem_tickGpio (levels : Nat) (s : State) : stem (tickGpio levels s) = stem s := by unfold tickGpio; simp
@[simp ↓] theorem stem_tickLed (s : State) : stem (tickLed s) = stem s := by unfold tickLed; simp
@[simp ↓] theorem stem_tickScan (s : State) : stem (tickScan s) = stem s := by unfold tickScan; simp
@[simp ↓] theorem stem_tickLock (s : State) : stem (tickLock s) = stem s := by unfold tickLock; simp
@[simp ↓] theorem stem_warnForecast (s : State) (p : Nat) : stem (warnForecast s p) = stem s := by unfold warnForecast; simp
@[simp ↓] theorem stem_almWarnings (s : State) : stem (almWarnings s) = stem s := by unfold almWarnings; simp
@[simp ↓] theorem stem_closeWindow (s : State) (p : Nat) : stem (closeWindow s p) = stem s := by unfold closeWindow; simp
@[simp ↓] theorem stem_unwarn (s : State) (p : Nat) : stem (unwarn s p) = stem s := by unfold unwarn; simp
@[simp ↓] theorem stem_almSnapshot (s : State) : stem (almSnapshot s) = stem s := by
  unfold almSnapshot
  repeat' first | rfl | (simp; done) | simp | split
@[simp ↓] theorem stem_almBin32 (off : Nat) (s : State) : stem (almBin32 off s) = stem s := by unfold almBin32; simp
@[simp ↓] theorem stem_almSample (die : Int) (s : State) : stem (almSample die s) = stem s := by unfold almSample; simp
@[simp ↓] theorem stem_tickPtp (s : State) : stem (tickPtp s) = stem s := by unfold tickPtp; simp
@[simp ↓] theorem stem_tickMac (s : State) : stem (tickMac s) = stem s := by unfold tickMac; simp
@[simp ↓] theorem stem_timers (t : TickIn) (s : State) : stem (timers t s) = stem s := by unfold timers; simp
@[simp ↓] theorem stem_splitPulse (s : State) (n : Nat) : stem (splitPulse s n) = stem s := by unfold splitPulse; split <;> simp
@[simp ↓] theorem stem_excAverages (s : State) : stem (excAverages s) = stem s := by unfold excAverages; simp
@[simp ↓] theorem stem_deliver (k : Nat) (w : Word) (s : State) : stem (deliver k w s) = stem s := by unfold deliver; simp
@[simp ↓] theorem stem_converge (k : Nat) (s : State) : stem (converge k s) = stem s := by unfold converge; simp
@[simp ↓] theorem stem_estimate (k : Nat) (f c : Int) (s : State) : stem (estimate k f c s) = stem s := by unfold estimate; simp
@[simp ↓] theorem stem_fastSample (k : Nat) (f c : Int) (s : State) : stem (fastSample k f c s).1 = stem s := by unfold fastSample; simp
@[simp ↓] theorem stem_fastBoundary (k : Nat) (f c : Int) (s : State) : stem (fastBoundary k f c s) = stem s := by
  unfold fastBoundary
  repeat' first | rfl | (simp; done) | simp | split
@[simp ↓] theorem stem_laneResults (s : State) (n : Nat) : stem (laneResults s n) = stem s := by unfold laneResults; simp
@[simp ↓] theorem stem_applyCal (n : Nat) (r : CalRun) (s : State) : stem (applyCal n r s) = stem s := by unfold applyCal; simp
@[simp ↓] theorem stem_directApply (s : State) (n : Nat) : stem (directApply s n) = stem s := by unfold directApply; split <;> simp
@[simp ↓] theorem stem_calReject (s : State) : stem (calReject s) = stem s := by unfold calReject; simp
@[simp ↓] theorem stem_swapped (n ph : Nat) (s : State) : stem (swapped n ph s) = stem s := by unfold swapped; simp
@[simp ↓] theorem stem_matchInEnd (n : Nat) (s : State) : stem (matchInEnd n s) = stem s := by unfold matchInEnd; simp
@[simp ↓] theorem stem_matchOutEnd (n : Nat) (s : State) : stem (matchOutEnd n s) = stem s := by unfold matchOutEnd; simp
@[simp ↓] theorem stem_shadowBoundary (s : State) : stem (shadowBoundary s) = stem s := by
  unfold shadowBoundary
  repeat' first | rfl | (simp; done) | split
@[simp ↓] theorem stem_urgentBoundary (s : State) : stem (urgentBoundary s) = stem s := by unfold urgentBoundary; split <;> simp
@[simp ↓] theorem stem_passEnds (n : Nat) (s : State) : stem (passEnds n s) = stem s := by unfold passEnds; simp
@[simp ↓] theorem stem_takeWalk (n : Nat) (a1_ : Next) (s : State) : stem (takeWalk n a1_ s) = stem s := by unfold takeWalk; simp
@[simp ↓] theorem stem_armLane (s : State) (n : Nat) : stem (armLane s n) = stem s := by
  unfold armLane
  repeat' first | rfl | (simp; done) | simp | split
@[simp ↓] theorem stem_lanesBoundary (s : State) : stem (lanesBoundary s) = stem s := by unfold lanesBoundary; simp
@[simp ↓] theorem stem_ageHeld (s : State) : stem (ageHeld s) = stem s := by
  unfold ageHeld
  repeat' first | rfl | (simp; done) | simp | split
@[simp ↓] theorem stem_armArea (a0_ : Nat) (s : State) : stem (armArea a0_ s) = stem s := by unfold armArea; simp
@[simp ↓] theorem stem_stormArm (s : State) : stem (stormArm s) = stem s := by unfold stormArm; simp
@[simp ↓] theorem stem_pushStamp (s : State) : stem (pushStamp s) = stem s := by unfold pushStamp; simp
@[simp ↓] theorem stem_showVnow (s : State) : stem (showVnow s) = stem s := by unfold showVnow; split <;> simp
@[simp ↓] theorem stem_recVerdict (code flags : Nat) (s : State) : stem (recVerdict code flags s) = stem s := by unfold recVerdict; simp
@[simp ↓] theorem stem_verdictBoundary (s : State) : stem (verdictBoundary s) = stem s := by unfold verdictBoundary; split <;> simp
@[simp ↓] theorem stem_samples_extraWords (a0_ a1_ : Nat) (a2_ : State) : stem (samples.extraWords a0_ a1_ a2_).1 = stem a2_ := by
  induction a0_ generalizing a1_ a2_ with
  | zero => rfl
  | succ n ih =>
    unfold samples.extraWords
    split
    rename_i h
    split
    rename_i h2
    exact (stem_fst h2 (ih _ _)).trans (stem_fst h (stem_readAccess _ _ _))
@[simp ↓] theorem stem_svDue (wire : Nat) (bytes : List Byte) (s : State) : stem (svDue wire bytes s) = stem s := by unfold svDue; simp
@[simp ↓] theorem stem_sampleAvailable (t : PubTick) (s : State) : stem (sampleAvailable t s) = stem s := by unfold sampleAvailable; simp
@[simp ↓] theorem stem_queueGoose (front : Bool) (s : State) : stem (queueGoose front s) = stem s := by unfold queueGoose; simp
@[simp ↓] theorem stem_gooseNew (m : List Nat) (s : State) : stem (gooseNew m s) = stem s := by unfold gooseNew; simp
@[simp ↓] theorem stem_gooseBoundary (s : State) : stem (gooseBoundary s) = stem s := by unfold gooseBoundary; simp
@[simp ↓] theorem stem_pubBoundary (s : State) : stem (pubBoundary s) = stem s := by
  unfold pubBoundary
  repeat' first | rfl | (simp; done) | simp | split
@[simp ↓] theorem stem_memPut (a0_ : Nat) (ws : List Word) (s : State) : stem (memPut a0_ ws s) = stem s := by unfold memPut; simp
@[simp ↓] theorem stem_sealRecord (c : RecCap) (s : State) : stem (sealRecord c s) = stem s := by unfold sealRecord; simp
@[simp ↓] theorem stem_rowMissed (t : Nat) (s : State) : stem (rowMissed t s) = stem s := by
  unfold rowMissed
  repeat' first | rfl | (simp; done) | simp | split
@[simp ↓] theorem stem_missTrig (cause : Nat) (s : State) (g : RecTrig) : stem (missTrig cause s g) = stem s := by unfold missTrig; simp
@[simp ↓] theorem stem_stepUnits (t : Nat) (xs : List (Option Word)) (s : State) : stem (stepUnits t xs s).1 = stem s := by unfold stepUnits; simp
@[simp ↓] theorem stem_beginRecord (g : RecTrig) (more : Nat) (s : State) : stem (beginRecord g more s) = stem s := by unfold beginRecord; simp
@[simp ↓] theorem stem_chainRecord (g : RecTrig) (more : Nat) (c : RecCap) (s : State) : stem (chainRecord g more c s) = stem s := by unfold chainRecord; simp
@[simp ↓] theorem stem_takeTrigs (gs : List RecTrig) (s : State) : stem (takeTrigs gs s) = stem s := by
  unfold takeTrigs
  repeat' first | rfl | (simp; done) | split
@[simp ↓] theorem stem_storeRow (a0_ : Nat) (ws : List Word) (s : State) : stem (storeRow a0_ ws s) = stem s := by unfold storeRow; simp
@[simp ↓] theorem stem_rowBoundary (t : Nat) (xs : List (Option Word)) (s : State) : stem (rowBoundary t xs s) = stem s := by
  unfold rowBoundary
  repeat' first | rfl | (simp; done) | simp | split
@[simp ↓] theorem stem_stormRow (xs : List (Option Word)) (s : State) : stem (stormRow xs s) = stem s := by unfold stormRow; simp
@[simp ↓] theorem stem_samples (t : TickIn) (s : State) : stem (samples t s) = stem s := by
  unfold samples
  repeat' first | rfl | (simp; done) | simp | split
@[simp ↓] theorem stem_toBench (c : Nat) (s : State) : stem (toBench c s) = stem s := by unfold toBench; simp
@[simp ↓] theorem stem_rotate (s : State) : stem (rotate s) = stem s := by
  unfold rotate
  repeat' first | rfl | (simp; done) | simp | split
@[simp ↓] theorem stem_firstBench (s : State) : stem (firstBench s) = stem s := by
  unfold firstBench
  repeat' first | rfl | (simp; done) | simp | split
@[simp ↓] theorem stem_tickTemps (ts : List Int) (s : State) : stem (tickTemps ts s) = stem s := by unfold tickTemps; simp
@[simp ↓] theorem stem_tickBelow (s : State) : stem (tickBelow s) = stem s := by unfold tickBelow; simp
@[simp ↓] theorem stem_parkBeyond (k : Nat) (s : State) : stem (parkBeyond k s) = stem s := by unfold parkBeyond; simp
@[simp ↓] theorem stem_setLevel (k : Nat) (s : State) : stem (setLevel k s) = stem s := by unfold setLevel; simp
@[simp ↓] theorem stem_lowerTo (k : Nat) (s : State) : stem (lowerTo k s) = stem s := by unfold lowerTo; simp
@[simp ↓] theorem stem_decideRaise (k : Nat) (s : State) : stem (decideRaise k s) = stem s := by unfold decideRaise; simp
@[simp ↓] theorem stem_levelPolicy (s : State) : stem (levelPolicy s) = stem s := by
  unfold levelPolicy
  repeat' first | rfl | (simp; done) | simp | split
@[simp ↓] theorem stem_applyRaise (s : State) : stem (applyRaise s) = stem s := by unfold applyRaise; split <;> simp
@[simp ↓] theorem stem_repowerBanks (a0_ : List Nat) (a1_ : State) : stem (repowerBanks a0_ a1_) = stem a1_ := by
  fun_induction repowerBanks <;> simp_all +zetaDelta
@[simp ↓] theorem stem_unparkGuaranteed (order : List Nat) (s : State) : stem (unparkGuaranteed order s) = stem s := by unfold unparkGuaranteed; simp
@[simp ↓] theorem stem_tickGovernor (order : List Nat) (s : State) : stem (tickGovernor order s) = stem s := by unfold tickGovernor; simp
@[simp ↓] theorem stem_calQuiesce (s : State) : stem (calQuiesce s) = stem s := by unfold calQuiesce; simp
@[simp ↓] theorem stem_sleepEntry (s : State) : stem (sleepEntry s) = stem s := by
  unfold sleepEntry
  repeat' first | rfl | (simp; done) | simp | split
@[simp ↓] theorem stem_sleepBoundary (s : State) : stem (sleepBoundary s) = stem s := by unfold sleepBoundary; simp
@[simp ↓] theorem stem_retryFrame (s : State) : stem (retryFrame s) = stem s := by unfold retryFrame; simp
@[simp ↓] theorem stem_noteEnv (s : State) : stem (noteEnv s) = stem s := by unfold noteEnv; simp
@[simp ↓] theorem stem_planTickBegin (applied : Bool) (s : State) : stem (planTickBegin applied s) = stem s := by unfold planTickBegin; simp
@[simp ↓] theorem stem_showDue (s : State) : stem (showDue s) = stem s := by unfold showDue; simp
@[simp ↓] theorem stem_gapTest (s : State) : stem (gapTest s) = stem s := by unfold gapTest; simp
@[simp ↓] theorem stem_backBoundary (s : State) : stem (backBoundary s) = stem s := by unfold backBoundary; simp
@[simp ↓] theorem stem_slotBoundary (s : State) : stem (slotBoundary s) = stem s := by unfold slotBoundary; simp
@[simp ↓] theorem stem_ageFrame (s : State) : stem (ageFrame s) = stem s := by unfold ageFrame; simp
@[simp ↓] theorem stem_arrFrame (s : State) : stem (arrFrame s) = stem s := by unfold arrFrame; simp
@[simp ↓] theorem stem_beginTick (plan : Bool) (t : TickIn) (s : State) : stem (beginTick plan t s) = stem s := by unfold beginTick; simp
@[simp ↓] theorem stem_setSynced (s : State) : stem (setSynced s) = stem s := by unfold setSynced; simp
@[simp ↓] theorem stem_measureRef (ns mppm : Int) (s : State) : stem (measureRef ns mppm s) = stem s := by unfold measureRef; simp
@[simp ↓] theorem stem_takeUp (src : Nat) (ns mppm : Int) (s : State) : stem (takeUp src ns mppm s) = stem s := by unfold takeUp; simp
@[simp ↓] theorem stem_holdoverRef (src n : Nat) (ns mppm : Int) (s : State) : stem (holdoverRef src n ns mppm s) = stem s := by unfold holdoverRef; simp
@[simp ↓] theorem stem_timeRef (src n : Nat) (ns mppm : Int) (s : State) : stem (timeRef src n ns mppm s) = stem s := by unfold timeRef; simp
@[simp ↓] theorem stem_ppsEdge (falling : Bool) (since : Nat) (ns mppm : Int) (s : State) : stem (ppsEdge falling since ns mppm s) = stem s := by unfold ppsEdge; simp
@[simp ↓] theorem stem_xtalStopHeld (s : State) : stem (xtalStopHeld s) = stem s := by unfold xtalStopHeld; simp
@[simp ↓] theorem stem_xtalStop (s : State) : stem (xtalStop s) = stem s := by unfold xtalStop; simp
@[simp ↓] theorem stem_xtalTimeout (s : State) : stem (xtalTimeout s) = stem s := by unfold xtalTimeout; simp
@[simp ↓] theorem stem_xtalStableHeld (s : State) : stem (xtalStableHeld s) = stem s := by unfold xtalStableHeld; simp
@[simp ↓] theorem stem_xtalStable (s : State) : stem (xtalStable s) = stem s := by unfold xtalStable; simp
@[simp ↓] theorem stem_holdoverExpiry (s : State) : stem (holdoverExpiry s) = stem s := by unfold holdoverExpiry; simp
@[simp ↓] theorem stem_ppsOutEnd (s : State) : stem (ppsOutEnd s) = stem s := by unfold ppsOutEnd; simp
@[simp ↓] theorem stem_winDataAccess (p : Path) (w : Option Word) (s : State) : stem (winDataAccess p w s) = stem s := by unfold winDataAccess; split <;> simp
@[simp ↓] theorem stem_mDeadline (s : State) : stem (mDeadline s) = stem s := by unfold mDeadline; split <;> simp
@[simp ↓] theorem stem_usedTo (at_ : Nat) (s : State) : stem (usedTo at_ s) = stem s := by unfold usedTo; simp
@[simp ↓] theorem stem_oExpiry (s : State) : stem (oExpiry s) = stem s := by unfold oExpiry; split <;> simp
@[simp ↓] theorem stem_budgetExpiry (s : State) : stem (budgetExpiry s) = stem s := by unfold budgetExpiry; split <;> simp
@[simp ↓] theorem stem_bEnd (s : State) : stem (bEnd s) = stem s := by unfold bEnd; split <;> simp
@[simp ↓] theorem stem_backgroundEnd (s : State) : stem (backgroundEnd s) = stem s := by unfold backgroundEnd; split <;> simp
@[simp ↓] theorem stem_dropPassed (at_ : Nat) (s : State) : stem (dropPassed at_ s) = stem s := by unfold dropPassed; simp
@[simp ↓] theorem stem_slotEnd (at_ : Nat) (s : State) : stem (slotEnd at_ s) = stem s := by unfold slotEnd; split <;> simp
@[simp ↓] theorem stem_slotComplete (at_ : Nat) (s : State) : stem (slotComplete at_ s) = stem s := by unfold slotComplete; split <;> simp
@[simp ↓] theorem stem_beginBurst (s : State) : stem (beginBurst s) = stem s := by unfold beginBurst; simp
@[simp ↓] theorem stem_admits (ob : Bool) (p : Int) (s : State) : stem (admits ob p s).1 = stem s := by
  unfold admits
  repeat' first | rfl | (simp; done) | split
@[simp ↓] theorem stem_slotBegin (act idx at_ : Nat) (extra : Int) (ask : Bool) (s : State) : stem (slotBegin act idx at_ extra ask s).1 = stem s := by
  unfold slotBegin
  repeat' first | rfl | (simp; done) | simp | split
@[simp ↓] theorem stem_slotDo (act idx at_ : Nat) (f : State → State) (s : State) (hf : ∀ t, stem (f t) = stem t) : stem (slotDo act idx at_ f s) = stem s := by
  unfold slotDo
  repeat' first | rfl | (simp; done) | simp | split
  all_goals first | rfl | (simp_all; done) | (simp only [Prod.ext_iff] at *; (try cases_type* And); subst_vars; first | rfl | (simp; done) | (simp_all; done))
@[simp ↓] theorem stem_firstValue (ms : Nat) (s : State) : stem (firstValue ms s) = stem s := by unfold firstValue; simp
@[simp ↓] theorem stem_sramStore (a0_ : Nat) (ws : List Word) (s : State) : stem (sramStore a0_ ws s) = stem s := by unfold sramStore; simp
@[simp ↓] theorem stem_laneCollect (arg ms : Nat) (s : State) : stem (laneCollect arg ms s) = stem s := by unfold laneCollect; simp
@[simp ↓] theorem stem_ringWrite (k : Nat) (a1_ : List Word) (a2_ : State) : stem (ringWrite k a1_ a2_) = stem a2_ := by
  induction a1_ generalizing a2_ with
  | nil => rfl
  | cons w t ih =>
    unfold ringWrite
    extract_lets p n p2 a s1
    have h1 : stem s1 = stem a2_ := by unfold s1; split <;> simp
    clear_value s1
    exact (ih _).trans (by simp [h1])
@[simp ↓] theorem stem_fastCollect1 (k : Nat) (s : State) : stem (fastCollect1 k s) = stem s := by unfold fastCollect1; simp
@[simp ↓] theorem stem_fastCollect (arg : Nat) (s : State) : stem (fastCollect arg s) = stem s := by unfold fastCollect; simp
@[simp ↓] theorem stem_loopUpdate (s : State) : stem (loopUpdate s) = stem s := by unfold loopUpdate; simp
@[simp ↓] theorem stem_snapVar (n : Nat) (s : State) : stem (snapVar n s).1 = stem s := by
  unfold snapVar
  repeat' first | rfl | (simp; done) | simp | split
  all_goals first | rfl | (simp_all; done) | (simp only [Prod.ext_iff] at *; (try cases_type* And); subst_vars; first | rfl | (simp; done) | (simp_all; done))
@[simp ↓] theorem stem_fskSnap (s : State) : stem (fskSnap s) = stem s := by unfold fskSnap; simp
@[simp ↓] theorem stem_fskService (idx at_ : Nat) (s : State) : stem (fskService idx at_ s) = stem s := by
  unfold fskService
  repeat' first | rfl | (simp; done) | simp | split
  all_goals first | rfl | (simp_all; done) | (simp only [Prod.ext_iff] at *; (try cases_type* And); subst_vars; first | rfl | (simp; done) | (simp_all; done))
@[simp ↓] theorem stem_pubService (s : State) : stem (pubService s) = stem s := by
  unfold pubService
  split
  · rfl
  · extract_lets chans read s1
    have h1 : stem s1 = stem s := by
      unfold s1; rw [stem_foldl]
      intro s x
      unfold read
      extract_lets a
      split
      · rfl
      · split
        · rename_i h; exact (stem_pub _ _).trans (stem_fst h (stem_memReads _ _ _))
        · rename_i h; exact stem_fst h (stem_memReads _ _ _)
    exact h1
@[simp ↓] theorem stem_takeSpace (off len : Nat) (s : State) : stem (takeSpace off len s) = stem s := by unfold takeSpace; simp
@[simp ↓] theorem stem_entryWords (n i : Nat) (j : ArchJob) (s : State) (ws : List Word) : stem (entryWords n i j s ws).2.1 = stem s := by
  induction n generalizing i j s ws with
  | zero => rfl
  | succ n ih =>
    unfold entryWords
    split
    · exact ih _ _ _ _
    · rename_i a _
      split
      rename_i h
      refine (ih _ _ _ _).trans (stem_fst h ?_)
      split
      · simp
      · rfl
@[simp ↓] theorem stem_archChunk (s : State) : stem (archChunk s) = stem s := by
  unfold archChunk
  split
  · rfl
  · rename_i j _
    extract_lets n
    split
    rename_i h
    extract_lets tag
    rw [stem_enqueue]
    refine (stem_stor _ _).trans ?_
    have h2 := stem_entryWords (n / 4) (j.pos / 4) j s []
    rw [h] at h2
    exact h2
@[simp ↓] theorem stem_checkWorn (p : Nat) (s : State) : stem (checkWorn p s) = stem s := by unfold checkWorn; simp
@[simp ↓] theorem stem_addPass (p : Nat) (s : State) : stem (addPass p s) = stem s := by unfold addPass; simp
@[simp ↓] theorem stem_archStart (a0_ : Nat) (h : RecHeld) (s : State) : stem (archStart a0_ h s) = stem s := by unfold archStart; simp
@[simp ↓] theorem stem_recService (s : State) : stem (recService s) = stem s := by
  unfold recService
  repeat' first | rfl | (simp; done) | split
@[simp ↓] theorem stem_endAtOnce (at_ : Nat) (s : State) : stem (endAtOnce at_ s) = stem s := by unfold endAtOnce; split <;> simp
@[simp ↓] theorem stem_resumeCells (ns : Nat) (s : State) : stem (resumeCells ns s) = stem s := by unfold resumeCells; simp
@[simp ↓] theorem stem_copyTiles (a b n : Nat) (s : State) : stem (copyTiles a b n s).1 = stem s := by
  induction n generalizing a b s with
  | zero => rfl
  | succ n ih =>
    unfold copyTiles
    split
    · rfl
    · split
      · rename_i h
        have h1 := stem_fst h (stem_memReads _ _ _)
        extract_lets fmt nnz w
        split
        · exact h1
        · split
          · rename_i h2; exact (ih _ _ _).trans ((stem_sramBytes _ _ _).trans ((stem_fst h2 (stem_memReads _ _ _)).trans h1))
          · rename_i h2; exact (stem_fst h2 (stem_memReads _ _ _)).trans h1
      · rename_i h; exact stem_fst h (stem_memReads _ _ _)
@[simp ↓] theorem stem_startRun (s : State) : stem (startRun s) = stem s := by
  unfold startRun
  repeat' first | rfl | (simp; done) | simp | split
  all_goals first | rfl | (simp_all; done) | (simp only [Prod.ext_iff] at *; (try cases_type* And); subst_vars; first | rfl | (simp; done) | (simp_all; done))
@[simp ↓] theorem stem_unparkFor (a0_ : List Nat) (a1_ : State) : stem (unparkFor a0_ a1_) = stem a1_ := by
  induction a0_ generalizing a1_ with
  | nil => rfl
  | cons c t ih =>
    unfold unparkFor
    split
    · exact ih _
    · split
      · rfl
      · split
        · rename_i h; exact (ih _).trans ((stem_unparkCell _ _).trans (stem_fst h (stem_admits _ _ _)))
        · rename_i h; exact stem_fst h (stem_admits _ _ _)
@[simp ↓] theorem stem_streamTiles (a0_ : List (List Int)) (a1_ : State) : stem (streamTiles a0_ a1_).1 = stem a1_ := by
  induction a0_ generalizing a1_ with
  | nil => rfl
  | cons g t ih =>
    unfold streamTiles
    split
    rename_i h
    split
    rename_i h2
    exact (stem_fst h2 (ih _)).trans (stem_fst h (stem_storedTile _ _ _))
@[simp ↓] theorem stem_overwrite (lo hi : Nat) (s : State) : stem (overwrite lo hi s) = stem s := by unfold overwrite; simp
@[simp ↓] theorem stem_capture (l : LayerD) (arena snap : Nat) (s : State) : stem (capture l arena snap s) = stem s := by
  unfold capture
  repeat' first | rfl | (simp; done) | simp | split
  all_goals first | rfl | (simp_all; done) | (simp only [Prod.ext_iff] at *; (try cases_type* And); subst_vars; first | rfl | (simp; done) | (simp_all; done))
@[simp ↓] theorem stem_writeZeros (a0_ n : Nat) (s : State) : stem (writeZeros a0_ n s) = stem s := by unfold writeZeros; simp
@[simp ↓] theorem stem_completeRun (l : LayerD) (r : Run) (s : State) : stem (completeRun l r s) = stem s := by
  unfold completeRun
  repeat' first | rfl | (simp; done) | simp | split
  all_goals first | rfl | (simp_all; done) | (simp only [Prod.ext_iff] at *; (try cases_type* And); subst_vars; first | rfl | (simp; done) | (simp_all; done))
@[simp ↓] theorem stem_startLayers (a0_ : Nat) (a1_ : State) : stem (startLayers a0_ a1_) = stem a1_ := by
  induction a0_ generalizing a1_ with
  | zero => rfl
  | succ n ih =>
    unfold startLayers
    split
    · rfl
    · split
      · rfl
      · extract_lets l arena s1 r s2 n out s3 r2 list crcs r3 a
        have h1 : stem s1 = stem a1_ := by unfold s1; simp
        have h2 : stem s2 = stem s1 := by unfold s2; split <;> simp
        have h3 : stem s3 = stem s2 := by unfold s3; simp
        clear_value s3 s2 s1
        split
        · split
          · exact (ih _).trans ((stem_arr _ _).trans (h3.trans (h2.trans h1)))
          · exact (stem_completeRun _ _ _).trans ((stem_arr _ _).trans (h3.trans (h2.trans h1)))
        · exact (stem_dispatchAll _).trans ((stem_arr _ _).trans (h2.trans h1))
@[simp ↓] theorem stem_arrLayer (idx at_ : Nat) (s : State) : stem (arrLayer idx at_ s) = stem s := by
  unfold arrLayer
  repeat' first | rfl | (simp; done) | simp | split
  all_goals first | rfl | (simp_all; done) | (simp only [Prod.ext_iff] at *; (try cases_type* And); subst_vars; first | rfl | (simp; done) | (simp_all; done))
@[simp ↓] theorem stem_learnStep (s : State) : stem (learnStep s) = stem s := by unfold learnStep; simp
@[simp ↓] theorem stem_dmaJob (idx at_ : Nat) (s : State) : stem (dmaJob idx at_ s) = stem s := by
  unfold dmaJob
  repeat' first | rfl | (simp; done) | simp | split
  all_goals first | rfl | (simp_all; done) | (simp only [Prod.ext_iff] at *; (try cases_type* And); subst_vars; first | rfl | (simp; done) | (simp_all; done))
@[simp ↓] theorem stem_backSlot (act own idx at_ : Nat) (bad raced : Bool) (s : State) : stem (backSlot act own idx at_ bad raced s) = stem s := by
  unfold backSlot
  repeat' first | rfl | (simp; done) | simp | split
  all_goals first | rfl | (simp_all; done) | (simp only [Prod.ext_iff] at *; (try cases_type* And); subst_vars; first | rfl | (simp; done) | (simp_all; done))
@[simp ↓] theorem stem_hostSignal (arg : Nat) (s : State) : stem (hostSignal arg s) = stem s := by unfold hostSignal; simp
@[simp ↓] theorem stem_chargeWindow (chg vres : Nat) (s : State) : stem (chargeWindow chg vres s) = stem s := by unfold chargeWindow; simp
@[simp ↓] theorem stem_stopByGovernor (s : State) : stem (stopByGovernor s) = stem s := by unfold stopByGovernor; split <;> simp
@[simp ↓] theorem stem_exhaustBurst (s : State) : stem (exhaustBurst s) = stem s := by unfold exhaustBurst; simp
@[simp ↓] theorem stem_setCharger (s : State) : stem (setCharger s) = stem s := by unfold setCharger; simp
@[simp ↓] theorem stem_shedIf (b : Bool) (s : State) : stem (shedIf b s) = stem s := by unfold shedIf; simp
@[simp ↓] theorem stem_parkWhile (keep : Nat) (a1_ : List Nat) (a2_ : State) : stem (parkWhile keep a1_ a2_) = stem a2_ := by
  fun_induction parkWhile <;> simp_all
@[simp ↓] theorem stem_clearBank (n : Nat) (s : State) : stem (clearBank n s) = stem s := by unfold clearBank; simp
@[simp ↓] theorem stem_gateBank (n : Nat) (s : State) : stem (gateBank n s) = stem s := by unfold gateBank; simp
@[simp ↓] theorem stem_gateWhile (a0_ : List Nat) (a1_ : State) : stem (gateWhile a0_ a1_) = stem a1_ := by
  fun_induction gateWhile <;> simp_all
@[simp ↓] theorem stem_parkAll (s : State) : stem (parkAll s) = stem s := by unfold parkAll; simp
@[simp ↓] theorem stem_emergencyTo (k : Nat) (s : State) : stem (emergencyTo k s) = stem s := by unfold emergencyTo; simp
@[simp ↓] theorem stem_emergencyDrop (c : Int) (s : State) : stem (emergencyDrop c s) = stem s := by unfold emergencyDrop; simp
@[simp ↓] theorem stem_shed (s : State) : stem (shed s) = stem s := by unfold shed; simp
@[simp ↓] theorem stem_governorSample (load chg vres vpre : Nat) (s : State) : stem (governorSample load chg vres vpre s) = stem s := by unfold governorSample; simp
@[simp ↓] theorem stem_pinBanks (s : State) : stem (pinBanks s) = stem s := by unfold pinBanks; simp
@[simp ↓] theorem stem_sampleAt (at_ load chg vres vpre : Nat) (s : State) : stem (sampleAt at_ load chg vres vpre s) = stem s := by unfold sampleAt; simp
@[simp ↓] theorem stem_zeroFillDone (n : Nat) (s : State) : stem (zeroFillDone n s) = stem s := by unfold zeroFillDone; simp
@[simp ↓] theorem stem_riseExpiry (s : State) : stem (riseExpiry s) = stem s := by unfold riseExpiry; split <;> simp
@[simp ↓] theorem stem_avsLimit (s : State) : stem (avsLimit s) = stem s := by unfold avsLimit; simp
@[simp ↓] theorem stem_belowFloor (s : State) : stem (belowFloor s) = stem s := by unfold belowFloor; simp
@[simp ↓] theorem stem_resFault (s : State) : stem (resFault s) = stem s := by unfold resFault; simp
@[simp ↓] theorem stem_latchGen (g how ms : Nat) (s : State) : stem (latchGen g how ms s) = stem s := by unfold latchGen; simp
@[simp ↓] theorem stem_windowEnd (qual cross ms : Nat) (s : State) : stem (windowEnd qual cross ms s) = stem s := by unfold windowEnd; simp
@[simp ↓] theorem stem_loopEngage (ms : Nat) (s : State) : stem (loopEngage ms s) = stem s := by unfold loopEngage; simp
@[simp ↓] theorem stem_setLift (drv vpre : Bool) (s : State) : stem (setLift drv vpre s) = stem s := by unfold setLift; simp
@[simp ↓] theorem stem_liftoffDetect (s : State) : stem (liftoffDetect s) = stem s := by unfold liftoffDetect; simp
@[simp ↓] theorem stem_liftoffClear (s : State) : stem (liftoffClear s) = stem s := by unfold liftoffClear; simp
@[simp ↓] theorem stem_loopOverdraw (s : State) : stem (loopOverdraw s) = stem s := by unfold loopOverdraw; simp
@[simp ↓] theorem stem_genChangeDeferred (s : State) : stem (genChangeDeferred s) = stem s := by unfold genChangeDeferred; simp
@[simp ↓] theorem stem_deferredChange (s : State) : stem (deferredChange s) = stem s := by unfold deferredChange; simp
@[simp ↓] theorem stem_loopclrLowHeld (lowNs : Nat) (s : State) : stem (loopclrLowHeld lowNs s) = stem s := by unfold loopclrLowHeld; simp
@[simp ↓] theorem stem_loopclrLow (lowNs : Nat) (s : State) : stem (loopclrLow lowNs s) = stem s := by unfold loopclrLow; simp
@[simp ↓] theorem stem_loopclrHigh (highNs : Nat) (s : State) : stem (loopclrHigh highNs s) = stem s := by unfold loopclrHigh; simp
@[simp ↓] theorem stem_testEnd (s : State) : stem (testEnd s) = stem s := by unfold testEnd; simp
@[simp ↓] theorem stem_trimLimit (s : State) : stem (trimLimit s) = stem s := by unfold trimLimit; simp
@[simp ↓] theorem stem_readbackSet (s : State) : stem (readbackSet s) = stem s := by unfold readbackSet; simp
@[simp ↓] theorem stem_readbackClear (s : State) : stem (readbackClear s) = stem s := by unfold readbackClear; simp
@[simp ↓] theorem stem_carrierDetect (quiet : List Nat) (a1_ b : Nat) (mine : Bool) (s : State) : stem (carrierDetect quiet a1_ b mine s) = stem s := by unfold carrierDetect; simp
@[simp ↓] theorem stem_carrierEnd (a0_ b : Nat) (s : State) : stem (carrierEnd a0_ b s) = stem s := by unfold carrierEnd; simp
@[simp ↓] theorem stem_fskDrop (f : Fld) (s : State) : stem (fskDrop f s) = stem s := by unfold fskDrop; simp
@[simp ↓] theorem stem_frameRx (f : FskFrame) (s : State) : stem (frameRx f s) = stem s := by unfold frameRx; simp
@[simp ↓] theorem stem_frameGap (s : State) : stem (frameGap s) = stem s := by unfold frameGap; simp
@[simp ↓] theorem stem_noiseTimeout (s : State) : stem (noiseTimeout s) = stem s := by unfold noiseTimeout; simp
theorem stem_fskDo (cmds : List Nat) (f : FskReq → State → State) (s : State) (hf : ∀ r t, stem (f r t) = stem t) : stem (fskDo cmds f s) = stem s := by
  unfold fskDo
  split
  · exact (stem_fskUnknown _ _).trans (hf _ _)
  · rfl
theorem stem_readCmd (cmds : List Nat) (f : State → State × List Byte) (s : State) (hf : ∀ t, stem (f t).1 = stem t) : stem (readCmd cmds f s) = stem s :=
  stem_fskDo _ _ _ fun r t => by simp [hf]
theorem stem_concatData (l : List (State → State × List Byte)) (s : State) (hf : ∀ f, f ∈ l → ∀ t, stem (f t).1 = stem t) : stem (concatData l s).1 = stem s := by
  induction l generalizing s with
  | nil => rfl
  | cons f t ih =>
    unfold concatData
    exact (ih _ fun g hg => hf g (List.mem_cons_of_mem _ hg)).trans (hf f List.mem_cons_self s)
@[simp ↓] theorem stem_pureData (f : State → List Byte) (s : State) : stem (pureData f s).1 = stem s := by unfold pureData; simp
@[simp ↓] theorem stem_freeBytes (n : Nat) (s : State) : stem (freeBytes n s).1 = stem s := by unfold freeBytes; simp
@[simp ↓] theorem stem_identData (a0_ : State) : stem (identData a0_).1 = stem a0_ := by
  unfold identData
  repeat' first | rfl | (simp; done) | split
@[simp ↓] theorem stem_tagCmd (cmd off n : Nat) (s : State) : stem (tagCmd cmd off n s) = stem s :=
  stem_fskDo _ _ _ fun r t => by
    split
    · simp
    · split <;> simp
@[simp ↓] theorem stem_varSnap (n : Nat) (s : State) : stem (varSnap n s).1 = stem s := by
  unfold varSnap
  repeat' first | rfl | (simp; done) | split
@[simp ↓] theorem stem_varBytes (n : Nat) (s : State) : stem (varBytes n s).1 = stem s := by unfold varBytes; simp
@[simp ↓] theorem stem_dynamicData (s : State) : stem (dynamicData s).1 = stem s := by
  refine stem_concatData _ _ fun f hf t => ?_
  simp only [List.mem_cons, List.mem_map] at hf
  obtain rfl | rfl | ⟨n, -, rfl⟩ := hf <;> simp
theorem stem_accessDo (cmds : List Nat) (f : FskReq → State → State) (s : State) (hf : ∀ r t, stem (f r t) = stem t) : stem (accessDo cmds f s) = stem s := by
  unfold accessDo
  split
  · exact stem_fskDo _ _ _ hf
  · rfl
@[simp ↓] theorem stem_fskPuts (path : Path) (a1_ : List (Fld × Nat)) (a2_ : State) : stem (fskPuts path a1_ a2_).1 = stem a2_ := by
  induction a1_ generalizing a2_ with
  | nil => rfl
  | cons x t ih =>
    obtain ⟨f, v⟩ := x
    unfold fskPuts
    extract_lets a
    split
    · rename_i h; exact (ih _).trans (stem_fst h (stem_writeAccess _ _ _ _))
    · rename_i h; exact stem_fst h (stem_writeAccess _ _ _ _)
@[simp ↓] theorem stem_commitPages (path : Path) (a1_ : List Nat) (a2_ : State) : stem (commitPages path a1_ a2_).1 = stem a2_ := by
  induction a1_ generalizing a2_ with
  | nil => rfl
  | cons x t ih =>
    unfold commitPages
    split
    rename_i h
    exact (ih _).trans (stem_fst h (stem_writeAccess _ _ _ _))
@[simp ↓] theorem stem_fskWrite (r : FskReq) (ws : List (Fld × Nat)) (pages : List Nat) (out : List Byte) (s : State) : stem (fskWrite r ws pages out s) = stem s := by unfold fskWrite; simp
@[simp ↓] theorem stem_linkUse (n : Nat) (s : State) : stem (linkUse n s) = stem s := by unfold linkUse; simp
@[simp ↓] theorem stem_writeCmd (cmd n : Nat) (f : WriteCmd) (s : State) : stem (writeCmd cmd n f s) = stem s :=
  stem_accessDo _ _ _ fun r t => by
    split
    · simp
    · split
      · simp
      · split <;> simp
theorem stem_codesCmd (cmd : Nat) (f : List Byte → State → State × List Byte) (s : State) (hf : ∀ d t, stem (f d t).1 = stem t) : stem (codesCmd cmd f s) = stem s :=
  stem_fskDo _ _ _ fun r t => by split <;> simp [hf]
@[simp ↓] theorem stem_statusBytes (c : Byte) (s : State) : stem (statusBytes c s).1 = stem s := by
  unfold statusBytes
  repeat' first | rfl | (simp; done) | simp | split
@[simp ↓] theorem stem_statusData (cs : List Byte) (s : State) : stem (statusData cs s).1 = stem s := by
  refine stem_concatData _ _ fun f hf t => ?_
  simp only [List.mem_append, List.mem_singleton, List.mem_map] at hf
  obtain (rfl | ⟨n, -, rfl⟩) | rfl := hf <;> simp
@[simp ↓] theorem stem_codeBytes (c : Byte) (s : State) : stem (codeBytes c s).1 = stem s := by unfold codeBytes; split <;> simp
@[simp ↓] theorem stem_variableData (cs : List Byte) (s : State) : stem (variableData cs s).1 = stem s := by
  refine stem_concatData _ _ fun f hf t => ?_
  simp only [List.mem_map] at hf
  obtain ⟨n, -, rfl⟩ := hf
  simp
@[simp ↓] theorem stem_clearChangedCmd (s : State) : stem (clearChangedCmd s) = stem s :=
  stem_fskDo _ _ _ fun r t => by split <;> simp
@[simp ↓] theorem stem_statusCmd (s : State) : stem (statusCmd s) = stem s :=
  stem_fskDo _ _ _ fun r t => by
    refine (stem_fskReply _ _ _ _).trans ?_
    split <;> exact stem_fsk _ _
@[simp ↓] theorem stem_burstData (a0_ : State) : stem (burstData a0_).1 = stem a0_ := by
  unfold burstData
  repeat' first | rfl | (simp; done) | split
@[simp ↓] theorem stem_authFailed (kind : Nat) (s : State) : stem (authFailed kind s) = stem s := by unfold authFailed; simp
@[simp ↓] theorem stem_authPassed (kind : Nat) (s : State) : stem (authPassed kind s) = stem s := by unfold authPassed; simp
@[simp ↓] theorem stem_checkAuthentic (kind port : Nat) (peer : List Byte) (sid ctr : Nat) (input mac : List Byte) (s : State) : stem (checkAuthentic kind port peer sid ctr input mac s).1 = stem s := by
  unfold checkAuthentic
  repeat' first | rfl | (simp; done) | simp | split
@[simp ↓] theorem stem_acceptRequest (sid ctr : Nat) (s : State) : stem (acceptRequest sid ctr s) = stem s := by unfold acceptRequest; split <;> simp
@[simp ↓] theorem stem_vendorAuth (r : FskReq) (v : VendorReq) (s : State) : stem (vendorAuth r v s).1 = stem s := by
  unfold vendorAuth
  repeat' first | rfl | (simp; done) | simp | split
  all_goals first | rfl | (simp_all; done) | (simp only [Prod.ext_iff] at *; (try cases_type* And); subst_vars; first | rfl | (simp; done) | (simp_all; done))
@[simp ↓] theorem stem_endExhausted (sid ctr : Nat) (s : State) : stem (endExhausted sid ctr s) = stem s := by unfold endExhausted; split <;> simp
theorem stem_vendorCmd (cmd at_ unit top : Nat) (f : FskReq → VendorReq → Option (List Byte) → State → State) (s : State) (hf : ∀ r v k t, stem (f r v k t) = stem t) : stem (vendorCmd cmd at_ unit top f s) = stem s := by
  refine stem_accessDo _ _ _ fun r t => ?_
  extract_lets code v
  split
  · simp
  · split
    · rename_i h; exact (stem_fskReply _ _ _ _).trans (stem_fst h (stem_vendorAuth _ _ _))
    · rename_i h; exact (stem_endExhausted _ _ _).trans ((hf _ _ _ _).trans (stem_fst h (stem_vendorAuth _ _ _)))
@[simp ↓] theorem stem_readWords (ns a1_ a2_ : Nat) (a3_ : State) : stem (readWords ns a1_ a2_ a3_).1 = stem a3_ := by
  induction a1_ generalizing a2_ a3_ with
  | zero => rfl
  | succ n ih =>
    unfold readWords
    split
    · rename_i h; exact (ih _ _).trans (stem_fst h (stem_readAccess _ _ _))
    · rename_i h; exact stem_fst h (stem_readAccess _ _ _)
@[simp ↓] theorem stem_yrd (ns : Nat) (s : State) : stem (yrd ns s) = stem s :=
  stem_vendorCmd _ _ _ _ _ _ fun r v k t => by simp
@[simp ↓] theorem stem_writeWords (path : Path) (a1_ : List Word) (a2_ : Nat) (a3_ : State) : stem (writeWords path a1_ a2_ a3_).1 = stem a3_ := by
  induction a1_ generalizing a2_ a3_ with
  | nil => rfl
  | cons w t ih =>
    unfold writeWords
    split
    · rename_i h; exact (ih _ _).trans (stem_fst h (stem_writeAccess _ _ _ _))
    · rename_i h; exact stem_fst h (stem_writeAccess _ _ _ _)
@[simp ↓] theorem stem_vendorLate (r : FskReq) (v : VendorReq) (sk : Option (List Byte)) (ws : List WordOut) (pages : List Nat) (s : State) : stem (vendorLate r v sk ws pages s) = stem s := by unfold vendorLate; simp
@[simp ↓] theorem stem_ywr (s : State) : stem (ywr s) = stem s :=
  stem_vendorCmd _ _ _ _ _ _ fun r v k t => by simp
@[simp ↓] theorem stem_ycommit (s : State) : stem (ycommit s) = stem s :=
  stem_vendorCmd _ _ _ _ _ _ fun r v k t => by simp
@[simp ↓] theorem stem_hello (kind port : Nat) (peer : List Byte) (key : Nat) (nh : List Byte) (s : State) : stem (hello kind port peer key nh s).1 = stem s := by
  unfold hello
  repeat' first | rfl | (simp; done) | simp | split
@[simp ↓] theorem stem_prove (kind port : Nat) (peer : List Byte) (sid : Nat) (mac : List Byte) (s : State) : stem (prove kind port peer sid mac s).1 = stem s := by
  unfold prove
  repeat' first | rfl | (simp; done) | split
@[simp ↓] theorem stem_closeSession (kind port : Nat) (peer : List Byte) (sid ctr : Nat) (mac : List Byte) (s : State) : stem (closeSession kind port peer sid ctr mac s).1 = stem s := by
  unfold closeSession
  repeat' first | rfl | (simp; done) | split
@[simp ↓] theorem stem_sessionMsg (kind port : Nat) (peer body : List Byte) (s : State) : stem (sessionMsg kind port peer body s).1 = stem s := by unfold sessionMsg; split <;> simp
@[simp ↓] theorem stem_ysessDo (r : FskReq) (s : State) : stem (ysessDo r s) = stem s := by
  unfold ysessDo
  repeat' first | rfl | (simp; done) | simp | split
  all_goals first | rfl | (simp_all; done) | (simp only [Prod.ext_iff] at *; (try cases_type* And); subst_vars; first | rfl | (simp; done) | (simp_all; done))
@[simp ↓] theorem stem_ysess (s : State) : stem (ysess s) = stem s := stem_fskDo _ _ _ fun r t => by simp
@[simp ↓] theorem stem_txBegin (o : FskOut) (s : State) : stem (txBegin o s) = stem s := by unfold txBegin; simp
@[simp ↓] theorem stem_fskTxStart (s : State) : stem (fskTxStart s) = stem s := by unfold fskTxStart; split <;> simp
theorem stem_dropReply {s t : State} (h : dropReply s = some t) : stem t = stem s := by
  unfold dropReply at h
  split at h
  · split at h
    · cases h; rfl
    · cases h
  · split at h
    · cases h; rfl
    · cases h
  · extract_lets late kill lateTo any at h
    split at h
    · cases h; rfl
    · cases h
@[simp ↓] theorem stem_replyLate (s : State) : stem (replyLate s) = stem s := by
  unfold replyLate
  split
  · rfl
  · split
    · rename_i h; simp [stem_dropReply h]
    · rfl
@[simp ↓] theorem stem_fskTxEnd (s : State) : stem (fskTxEnd s) = stem s := by unfold fskTxEnd; split <;> simp
@[simp ↓] theorem stem_fskTxStuck (s : State) : stem (fskTxStuck s) = stem s := by unfold fskTxStuck; simp
@[simp ↓] theorem stem_burstAbandon (s : State) : stem (burstAbandon s) = stem s := by unfold burstAbandon; simp
@[simp ↓] theorem stem_burstDue (s : State) : stem (burstDue s) = stem s := by unfold burstDue; simp
@[simp ↓] theorem stem_burstCmdData (cmd : Nat) (s : State) : stem (burstCmdData cmd s).1 = stem s := by unfold burstCmdData; split <;> simp
@[simp ↓] theorem stem_burstTxStart (s : State) : stem (burstTxStart s) = stem s := by unfold burstTxStart; simp
@[simp ↓] theorem stem_burstDefer (s : State) : stem (burstDefer s) = stem s := by unfold burstDefer; split <;> simp
@[simp ↓] theorem stem_gooseAgain (interval : Nat) (s : State) : stem (gooseAgain interval s) = stem s := by unfold gooseAgain; simp
@[simp ↓] theorem stem_gooseLinkUp (s : State) : stem (gooseLinkUp s) = stem s := by unfold gooseLinkUp; simp
@[simp ↓] theorem stem_linkUpEvent (hiAdv hiReq master : Bool) (sqi mse : Nat) (s : State) : stem (linkUpEvent hiAdv hiReq master sqi mse s) = stem s := by unfold linkUpEvent; simp
@[simp ↓] theorem stem_linkUpRow (hiAdv hiReq master : Bool) (sqi mse : Nat) (s : State) : stem (linkUpRow hiAdv hiReq master sqi mse s) = stem s := by unfold linkUpRow; simp
@[simp ↓] theorem stem_linkDownRow (ns : Nat) (s : State) : stem (linkDownRow ns s) = stem s := by unfold linkDownRow; simp
@[simp ↓] theorem stem_sqiLow (s : State) : stem (sqiLow s) = stem s := by unfold sqiLow; simp
@[simp ↓] theorem stem_sourceRate (src : Nat) (s : State) : stem (sourceRate src s).1 = stem s := by
  unfold sourceRate
  repeat' first | rfl | (simp; done) | split
@[simp ↓] theorem stem_sourceDrop (src : Nat) (s : State) : stem (sourceDrop src s) = stem s := by unfold sourceDrop; simp
@[simp ↓] theorem stem_rateAndQueue (f : MacFrame) (s : State) : stem (rateAndQueue f s).1 = stem s := by
  unfold rateAndQueue
  split
  · split <;> simp
  · split
    · simp
    · extract_lets src s1
      have h1 : stem s1 = stem s := stem_link _ _
      split
      · exact (stem_State_raise _ _).trans ((stem_State_bump _ _ _).trans h1)
      · exact (stem_State_bump _ _ _).trans ((stem_link _ _).trans h1)
@[simp ↓] theorem stem_macChecks (f : MacFrame) (s : State) : stem (macChecks f s).1 = stem s := by
  unfold macChecks
  repeat' first | rfl | (simp; done) | simp | split
  all_goals first | rfl | (simp_all; done) | (simp only [Prod.ext_iff] at *; (try cases_type* And); subst_vars; first | rfl | (simp; done) | (simp_all; done))
@[simp ↓] theorem stem_learnNbr (v6 : Bool) (ip mac : Nat) (s : State) : stem (learnNbr v6 ip mac s) = stem s := by unfold learnNbr; simp
@[simp ↓] theorem stem_learnFrom (f : MacFrame) (s : State) : stem (learnFrom f s) = stem s := by unfold learnFrom; split <;> simp
@[simp ↓] theorem stem_yrapReply (m : YrapReq) (status : Nat) (body : List Byte) (sk : Option (List Byte)) (s : State) : stem (yrapReply m status body sk s) = stem s := by unfold yrapReply; simp
@[simp ↓] theorem stem_yrapSession (m : YrapReq) (s : State) : stem (yrapSession m s) = stem s := by
  unfold yrapSession
  repeat' first | rfl | (simp; done) | simp | split
  all_goals first | rfl | (simp_all; done) | (simp only [Prod.ext_iff] at *; (try cases_type* And); subst_vars; first | rfl | (simp; done) | (simp_all; done))
@[simp ↓] theorem stem_yrapDo (ns : Nat) (m : YrapReq) (sk : Option (List Byte)) (s : State) : stem (yrapDo ns m sk s) = stem s := by unfold yrapDo; split <;> simp
@[simp ↓] theorem stem_yrapRequest (ns : Nat) (m : YrapReq) (s : State) : stem (yrapRequest ns m s) = stem s := by
  unfold yrapRequest
  repeat' first | rfl | (simp; done) | simp | split
@[simp ↓] theorem stem_yrapHandle (ns : Nat) (m : YrapReq) (s : State) : stem (yrapHandle ns m s) = stem s := by unfold yrapHandle; simp
@[simp ↓] theorem stem_afterQueued (f : MacFrame) (s : State) : stem (afterQueued f s) = stem s := by
  unfold afterQueued
  repeat' first | rfl | (simp; done) | split
@[simp ↓] theorem stem_macFrameRx (f : MacFrame) (s : State) : stem (macFrameRx f s) = stem s := by
  unfold macFrameRx
  repeat' first | rfl | (simp; done) | simp | split
  all_goals first | rfl | (simp_all; done) | (simp only [Prod.ext_iff] at *; (try cases_type* And); subst_vars; first | rfl | (simp; done) | (simp_all; done))
@[simp ↓] theorem stem_frameTxStart (ns : Nat) (s : State) : stem (frameTxStart ns s) = stem s := by
  unfold frameTxStart
  repeat' first | rfl | (simp; done) | simp | split
@[simp ↓] theorem stem_gooseRetransmit (s : State) : stem (gooseRetransmit s) = stem s := by unfold gooseRetransmit; simp
@[simp ↓] theorem stem_ptpPop (s : State) : stem (ptpPop s) = stem s := by unfold ptpPop; simp
@[simp ↓] theorem stem_todServo (off : Int) (s : State) : stem (todServo off s) = stem s := by unfold todServo; simp
@[simp ↓] theorem stem_ptpRef (ns mppm : Int) (s : State) : stem (ptpRef ns mppm s) = stem s := by unfold ptpRef; simp
@[simp ↓] theorem stem_ptpMeasure (t1 t2 phase freq : Int) (s : State) : stem (ptpMeasure t1 t2 phase freq s) = stem s := by unfold ptpMeasure; simp
@[simp ↓] theorem stem_ptpSync (s : State) : stem (ptpSync s) = stem s := by unfold ptpSync; split <;> simp
@[simp ↓] theorem stem_ptpFollowUp (s : State) : stem (ptpFollowUp s) = stem s := by
  unfold ptpFollowUp
  repeat' first | rfl | (simp; done) | simp | split
@[simp ↓] theorem stem_showMaster (s : State) : stem (showMaster s) = stem s := by
  unfold showMaster
  repeat' first | rfl | (simp; done) | simp | split
@[simp ↓] theorem stem_selectMaster (s : State) : stem (selectMaster s) = stem s := by unfold selectMaster; simp
@[simp ↓] theorem stem_ptpAnnounce (s : State) : stem (ptpAnnounce s) = stem s := by unfold ptpAnnounce; split <;> simp
@[simp ↓] theorem stem_pdelayReqRx (s : State) : stem (pdelayReqRx s) = stem s := by
  unfold pdelayReqRx
  repeat' first | rfl | (simp; done) | split
@[simp ↓] theorem stem_showPd (s : State) : stem (showPd s) = stem s := by unfold showPd; simp
@[simp ↓] theorem stem_pdelayReqTx (s : State) : stem (pdelayReqTx s) = stem s := by unfold pdelayReqTx; simp
@[simp ↓] theorem stem_pdelayResp (s : State) : stem (pdelayResp s) = stem s := by unfold pdelayResp; split <;> simp
@[simp ↓] theorem stem_announceTimeout (s : State) : stem (announceTimeout s) = stem s := by unfold announceTimeout; split <;> simp
@[simp ↓] theorem stem_syncLoss (s : State) : stem (syncLoss s) = stem s := by unfold syncLoss; simp
@[simp ↓] theorem stem_genPop (s : State) : stem (genPop s) = stem s := by unfold genPop; simp
@[simp ↓] theorem stem_yrapOp (op ns : Nat) (s : State) : stem (yrapOp op ns s) = stem s := by unfold yrapOp; split <;> simp
@[simp ↓] theorem stem_yrapNotify (s : State) : stem (yrapNotify s) = stem s := by unfold yrapNotify; split <;> simp
@[simp ↓] theorem stem_dadFail (which : Nat) (s : State) : stem (dadFail which s) = stem s := by unfold dadFail; simp
@[simp ↓] theorem stem_neighbourSolRx (s : State) : stem (neighbourSolRx s) = stem s := by unfold neighbourSolRx; split <;> simp
@[simp ↓] theorem stem_arpRequestRx (s : State) : stem (arpRequestRx s) = stem s := by unfold arpRequestRx; split <;> simp
@[simp ↓] theorem stem_echoRequestRx (s : State) : stem (echoRequestRx s) = stem s := by unfold echoRequestRx; split <;> simp
@[simp ↓] theorem stem_ysessOp (kind : Nat) (s : State) : stem (ysessOp kind s) = stem s := by unfold ysessOp; split <;> simp
@[simp ↓] theorem stem_yrapSessionOp (kind : Nat) (s : State) : stem (yrapSessionOp kind s) = stem s := by unfold yrapSessionOp; split <;> simp
@[simp ↓] theorem stem_sessionRow (fsk : Bool) (kind : Nat) (s : State) : stem (sessionRow fsk kind s) = stem s := by unfold sessionRow; simp
@[simp ↓] theorem stem_challengeTimeout (sid : Nat) (s : State) : stem (challengeTimeout sid s) = stem s := by unfold challengeTimeout; split <;> simp
@[simp ↓] theorem stem_idleTimeout (sid : Nat) (s : State) : stem (idleTimeout sid s) = stem s := by unfold idleTimeout; split <;> simp
@[simp ↓] theorem stem_authHold (kind : Nat) (s : State) : stem (authHold kind s) = stem s := by unfold authHold; simp
@[simp ↓] theorem stem_authHoldExpiry (kind : Nat) (s : State) : stem (authHoldExpiry kind s) = stem s := by unfold authHoldExpiry; simp
@[simp ↓] theorem stem_sdoFrame (early : Bool) (s : State) : stem (sdoFrame early s).1 = stem s := by unfold sdoFrame; split <;> simp
@[simp ↓] theorem stem_spiNext (outcome : Nat) (addr data : Word) (s : State) : stem (spiNext outcome addr data s) = stem s := by unfold spiNext; simp
@[simp ↓] theorem stem_spiReject (k : SpiKind) (s : State) : stem (spiReject k s) = stem s := by unfold spiReject; split <;> simp
@[simp ↓] theorem stem_spiFrame (f : SpiFrame) (ns : Nat) (s : State) : stem (spiFrame f ns s) = stem s := by
  unfold spiFrame
  repeat' first | rfl | (simp; done) | simp | split
  all_goals first | rfl | (simp_all; done) | (simp only [Prod.ext_iff] at *; (try cases_type* And); subst_vars; first | rfl | (simp; done) | (simp_all; done))
@[simp ↓] theorem stem_spiAs (row : Nat) (f : SpiFrame) (ns : Nat) (s : State) : stem (spiAs row f ns s) = stem s := by unfold spiAs; simp
@[simp ↓] theorem stem_pulseWaits (n m : Nat) (contest : Bool) (s : State) : stem (pulseWaits n m contest s) = stem s := by unfold pulseWaits; simp
@[simp ↓] theorem stem_complianceOn (n k : Nat) (inj : Bool) (s : State) : stem (complianceOn n k inj s) = stem s := by unfold complianceOn; split <;> simp
@[simp ↓] theorem stem_pulseStart (n : Nat) (c : Conv) (s : State) : stem (pulseStart n c s) = stem s := by
  unfold pulseStart
  repeat' first | rfl | (simp; done) | split
@[simp ↓] theorem stem_excitationStart (n : Nat) (s : State) : stem (excitationStart n s) = stem s := by unfold excitationStart; split <;> simp
@[simp ↓] theorem stem_calStart (c : Nat) (s : State) : stem (calStart c s) = stem s := by unfold calStart; split <;> simp
@[simp ↓] theorem stem_laneStart (n : Nat) (s : State) : stem (laneStart n s) = stem s := by
  unfold laneStart
  repeat' first | rfl | (simp; done) | simp | split
@[simp ↓] theorem stem_conversionBegin (cal : Bool) (n : Nat) (s : State) : stem (conversionBegin cal n s) = stem s := by unfold conversionBegin; simp
@[simp ↓] theorem stem_beginMatch (n ph : Nat) (s : State) : stem (beginMatch n ph s) = stem s := by unfold beginMatch; simp
@[simp ↓] theorem stem_calOver (c : Nat) (r : CalRun) (s : State) : stem (calOver c r s) = stem s := by unfold calOver; simp
@[simp ↓] theorem stem_calEnd (c : Nat) (volts : List Int) (s : State) : stem (calEnd c volts s) = stem s := by
  unfold calEnd
  repeat' first | rfl | (simp; done) | split
@[simp ↓] theorem stem_pulseEnd (c : Conv) (s : State) : stem (pulseEnd c s) = stem s := by
  unfold pulseEnd
  repeat' first | rfl | (simp; done) | split
@[simp ↓] theorem stem_resultOf (n : Nat) (c : Conv) (samples : List Int) (dc : Int) (s : State) : stem (resultOf n c samples dc s).1 = stem s := by unfold resultOf; simp
@[simp ↓] theorem stem_keepPair (n e : Nat) (c : Conv) (d : Int) (par : List Int) (s : State) : stem (keepPair n e c d par s) = stem s := by
  unfold keepPair
  repeat' first | rfl | (simp; done) | split
@[simp ↓] theorem stem_mainEnd (n e : Nat) (c : Conv) (samples par : List Int) (s : State) : stem (mainEnd n e c samples par s) = stem s := by unfold mainEnd; simp
@[simp ↓] theorem stem_leadMeasured (n : Nat) (v : Setup) (d : Int) (s : State) : stem (leadMeasured n v d s) = stem s := by unfold leadMeasured; simp
@[simp ↓] theorem stem_leadEnd (n : Nat) (first : Bool) (c : Conv) (samples : List Int) (s : State) : stem (leadEnd n first c samples s) = stem s := by unfold leadEnd; simp
@[simp ↓] theorem stem_checkDone (n : Nat) (v : Setup) (d : Int) (s : State) : stem (checkDone n v d s) = stem s := by unfold checkDone; simp
@[simp ↓] theorem stem_urgentEnd (n : Nat) (c : Conv) (samples : List Int) (s : State) : stem (urgentEnd n c samples s) = stem s := by unfold urgentEnd; simp
@[simp ↓] theorem stem_urgentLeadEnd (n : Nat) (c : Conv) (samples : List Int) (s : State) : stem (urgentLeadEnd n c samples s) = stem s := by unfold urgentLeadEnd; simp
@[simp ↓] theorem stem_laneEnd (n : Nat) (volts parVolts : List Int) (ext : Int) (s : State) : stem (laneEnd n volts parVolts ext s) = stem s := by
  unfold laneEnd
  repeat' first | rfl | (simp; done) | split
@[simp ↓] theorem stem_conversionOver (cal : Bool) (n : Nat) (volts parVolts : List Int) (ext : Int) (s : State) : stem (conversionOver cal n volts parVolts ext s) = stem s := by unfold conversionOver; simp
@[simp ↓] theorem stem_excCompliance (k : Nat) (s : State) : stem (excCompliance k s) = stem s := by unfold excCompliance; split <;> simp
@[simp ↓] theorem stem_calDue (s : State) : stem (calDue s) = stem s := by
  unfold calDue
  repeat' first | rfl | (simp; done) | split
@[simp ↓] theorem stem_recEdge (src : Nat) (falling : Bool) (s : State) : stem (recEdge src falling s) = stem s := by unfold recEdge; simp
@[simp ↓] theorem stem_gpioEdge (n : Nat) (falling : Bool) (s : State) : stem (gpioEdge n falling s) = stem s := by unfold gpioEdge; simp
@[simp ↓] theorem stem_archStall (s : State) : stem (archStall s) = stem s := by
  unfold archStall
  repeat' first | rfl | (simp; done) | simp | split
@[simp ↓] theorem stem_recFindDone (s : State) : stem (recFindDone s) = stem s := by
  unfold recFindDone
  repeat' first | rfl | (simp; done) | simp | split
@[simp ↓] theorem stem_validEntry (off : Nat) (s : State) : stem (validEntry off s).1 = stem s := by
  unfold validEntry
  repeat' first | rfl | (simp; done) | simp | split
@[simp ↓] theorem stem_indexReady (s : State) : stem (indexReady s) = stem s := by
  unfold indexReady
  split
  · rfl
  · split
    rename_i h
    have h1 := stem_fst h (stem_foldl_pair _ _ _ (by intro x a; simp))
    extract_lets high older newer src s1 s2
    have h2 : stem s1 = stem s := (stem_stor _ _).trans h1
    have h3 : stem s2 = stem s1 := by unfold s2; simp
    clear_value s2 s1
    split <;> simp [h2, h3]
@[simp ↓] theorem stem_watchdogTrip (c : Nat) (inj : Bool) (s : State) : stem (watchdogTrip c inj s) = stem s := by unfold watchdogTrip; simp
@[simp ↓] theorem stem_storeOutputs (a0_ : Nat) (l : LayerD) (os : List (Nat × Nat × Int × Bool)) (s : State) : stem (storeOutputs a0_ l os s) = stem s := by unfold storeOutputs; simp
@[simp ↓] theorem stem_writeHeaders (a0_ n : Nat) (sat : List Nat) (s : State) : stem (writeHeaders a0_ n sat s) = stem s := by unfold writeHeaders; simp
@[simp ↓] theorem stem_endLayer (s : State) : stem (endLayer s) = stem s := by unfold endLayer; split <;> simp
@[simp ↓] theorem stem_storePartition (c p : Nat) (l : LayerD) (xs ys : List Int) (nnzs nny : List Nat) (rows : List (List (Nat × Int))) (s : State) : stem (storePartition c p l xs ys nnzs nny rows s) = stem s := by
  unfold storePartition
  repeat' first | rfl | (simp; done) | simp | split
@[simp ↓] theorem stem_computePartition (c p : Nat) (r : Run) (s : State) : stem (computePartition c p r s) = stem s := by
  unfold computePartition
  repeat' first | rfl | (simp; done) | simp | split
  all_goals first | rfl | (simp_all; done) | (simp only [Prod.ext_iff] at *; (try cases_type* And); subst_vars; first | rfl | (simp; done) | (simp_all; done))
@[simp ↓] theorem stem_partitionEnd (c ns corr : Nat) (uncorr : Bool) (s : State) : stem (partitionEnd c ns corr uncorr s) = stem s := by unfold partitionEnd; split <;> simp
@[simp ↓] theorem stem_cellWatchdog (c ns : Nat) (s : State) : stem (cellWatchdog c ns s) = stem s := by unfold cellWatchdog; simp
@[simp ↓] theorem stem_requalDone (s : State) : stem (requalDone s) = stem s := by unfold requalDone; split <;> simp
@[simp ↓] theorem stem_headWriteComplete (s : State) : stem (headWriteComplete s) = stem s := by unfold headWriteComplete; simp
@[simp ↓] theorem stem_askSleep (p : Path) (target : Nat) (s : State) : stem (askSleep p target s) = stem s := by unfold askSleep; simp
@[simp ↓] theorem stem_anaDown (s : State) : stem (anaDown s) = stem s := by
  unfold anaDown
  rw [stem_showPins, stem_foldl]
  intro s n
  simp
@[simp ↓] theorem stem_frostLink (s : State) : stem (frostLink s) = stem s := by unfold frostLink; simp
@[simp ↓] theorem stem_segmentStart (s : State) : stem (segmentStart s) = stem s := by unfold segmentStart; simp
@[simp ↓] theorem stem_stateReached (s : State) : stem (stateReached s) = stem s := by unfold stateReached; split <;> simp
@[simp ↓] theorem stem_sleepRetry (s : State) : stem (sleepRetry s) = stem s := by unfold sleepRetry; simp
@[simp ↓] theorem stem_wakeFires (src : Nat) (falling : Bool) (s : State) : stem (wakeFires src falling s) = stem s := by unfold wakeFires; split <;> simp
@[simp ↓] theorem stem_alarmFires (s : State) : stem (alarmFires s) = stem s := by unfold alarmFires; simp
@[simp ↓] theorem stem_arrWake (lost : List Nat) (s : State) : stem (arrWake lost s) = stem s := by unfold arrWake; simp
@[simp ↓] theorem stem_fastUp (k : Nat) (s : State) : stem (fastUp k s) = stem s := by unfold fastUp; simp
@[simp ↓] theorem stem_anaUp (s : State) : stem (anaUp s) = stem s := by
  unfold anaUp
  extract_lets s1 src s2
  have h1 : stem s1 = stem s := by unfold s1; rw [stem_foldl]; intro s n; simp
  have h2 : stem s2 = stem s1 := stem_ana _ _
  clear_value s2 src s1
  simp [h1, h2]
@[simp ↓] theorem stem_fskUp (s : State) : stem (fskUp s) = stem s := by unfold fskUp; simp
@[simp ↓] theorem stem_exitComplete (early : Bool) (s : State) : stem (exitComplete early s) = stem s := by unfold exitComplete; simp
@[simp ↓] theorem stem_escLeak (id : Nat) (s : State) : stem (escLeak id s) = stem s := by unfold escLeak; simp
@[simp ↓] theorem stem_faultExit (s : State) : stem (faultExit s) = stem s := by unfold faultExit; simp
@[simp ↓] theorem stem_dieHot (s : State) : stem (dieHot s) = stem s := by unfold dieHot; simp
@[simp ↓] theorem stem_gapWork (at_ till : Nat) (bad raced : Bool) (s : State) : stem (gapWork at_ till bad raced s) = stem s := by
  unfold gapWork
  repeat' first | rfl | (simp; done) | simp | split
  all_goals first | rfl | (simp_all; done) | (simp only [Prod.ext_iff] at *; (try cases_type* And); subst_vars; first | rfl | (simp; done) | (simp_all; done))
@[simp ↓] theorem stem_promoteTasks (s : State) : stem (promoteTasks s) = stem s := by unfold promoteTasks; simp
@[simp ↓] theorem stem_starvedTasks (s : State) : stem (starvedTasks s) = stem s := by unfold starvedTasks; simp
@[simp ↓] theorem stem_coreTestDone (pass : Bool) (s : State) : stem (coreTestDone pass s) = stem s := by unfold coreTestDone; simp
@[simp ↓] theorem stem_chunkStart (s : State) : stem (chunkStart s) = stem s := by
  unfold chunkStart
  repeat' first | rfl | (simp; done) | split
@[simp ↓] theorem stem_cfgWritten (c : Nat) (s : State) : stem (cfgWritten c s) = stem s := by
  unfold cfgWritten
  repeat' first | rfl | (simp; done) | simp | split
@[simp ↓] theorem stem_readSlot (i : Nat) (s : State) : stem (readSlot i s).1 = stem s := by
  unfold readSlot
  repeat' first | rfl | (simp; done) | simp | split
@[simp ↓] theorem stem_almWritten (i : Nat) (s : State) : stem (almWritten i s) = stem s := by
  unfold almWritten
  repeat' first | rfl | (simp; done) | simp | split
  all_goals first | rfl | (simp_all; done) | (simp only [Prod.ext_iff] at *; (try cases_type* And); subst_vars; first | rfl | (simp; done) | (simp_all; done))
@[simp ↓] theorem stem_archSettle (s : State) : stem (archSettle s) = stem s := by unfold archSettle; simp
@[simp ↓] theorem stem_archNext (s : State) : stem (archNext s) = stem s := by
  unfold archNext
  repeat' first | rfl | (simp; done) | simp | split
@[simp ↓] theorem stem_archTorn (s : State) : stem (archTorn s) = stem s := by unfold archTorn; split <;> simp
@[simp ↓] theorem stem_archDone (last : Bool) (s : State) : stem (archDone last s) = stem s := by unfold archDone; split <;> simp
@[simp ↓] theorem stem_chunkEffect (c : NvmChunk) (torn : Bool) (s : State) : stem (chunkEffect c torn s) = stem s := by unfold chunkEffect; split <;> simp
@[simp ↓] theorem stem_storeChunk (c : NvmChunk) (s : State) : stem (storeChunk c s) = stem s := by unfold storeChunk; simp
@[simp ↓] theorem stem_chunkComplete (s : State) : stem (chunkComplete s) = stem s := by
  unfold chunkComplete
  repeat' first | rfl | (simp; done) | simp | split
@[simp ↓] theorem stem_loadPair (s : State) (a1_ : Nat × Word) : stem (loadPair s a1_) = stem s := by unfold loadPair; simp
@[simp ↓] theorem stem_State_putS (s : State) (f : Fld) (v : Nat) : stem (State.putS s f v) = stem s := by unfold State.putS; simp
@[simp ↓] theorem stem_configLost (s : State) : stem (configLost s) = stem s := by unfold configLost; simp
@[simp ↓] theorem stem_configLoad (s : State) : stem (configLoad s) = stem s := by
  unfold configLoad
  repeat' first | rfl | (simp; done) | simp | split
@[simp ↓] theorem stem_aonSecond (s : State) : stem (aonSecond s) = stem s := by
  unfold aonSecond
  repeat' first | rfl | (simp; done) | simp | split
@[simp ↓] theorem stem_commitDue (s : State) : stem (commitDue s) = stem s := by unfold commitDue; simp
@[simp ↓] theorem stem_keyBit (f : Fld) (n : Nat) (b : Bool) (s : State) : stem (keyBit f n b s) = stem s := by unfold keyBit; simp
@[simp ↓] theorem stem_baseScan (n sig : Nat) (s : State) : stem (baseScan n sig s) = stem s := by unfold baseScan; simp
@[simp ↓] theorem stem_setTouch (n : Nat) (on : Bool) (s : State) : stem (setTouch n on s) = stem s := by unfold setTouch; simp
@[simp ↓] theorem stem_driftScan (n : Nat) (s : State) : stem (driftScan n s) = stem s := by unfold driftScan; simp
@[simp ↓] theorem stem_touchScan (n : Nat) (s : State) : stem (touchScan n s).1 = stem s := by
  unfold touchScan
  repeat' first | rfl | (simp; done) | simp | split
@[simp ↓] theorem stem_negScan (n : Nat) (s : State) : stem (negScan n s) = stem s := by unfold negScan; simp
@[simp ↓] theorem stem_scanKey (n sig : Nat) (s : State) : stem (scanKey n sig s).1 = stem s := by
  unfold scanKey
  repeat' first | rfl | (simp; done) | simp | split
@[simp ↓] theorem stem_flash (k : Nat) (s : State) : stem (flash k s) = stem s := by unfold flash; simp
@[simp ↓] theorem stem_trimStep (up : Bool) (s : State) : stem (trimStep up s) = stem s := by unfold trimStep; simp
@[simp ↓] theorem stem_clearSeq (s : State) : stem (clearSeq s) = stem s := by unfold clearSeq; simp
@[simp ↓] theorem stem_seqComplete (c : Nat) (s : State) : stem (seqComplete c s) = stem s := by unfold seqComplete; simp
@[simp ↓] theorem stem_onePress (n : Nat) (s : State) : stem (onePress n s) = stem s := by
  unfold onePress
  repeat' first | rfl | (simp; done) | simp | split
@[simp ↓] theorem stem_keyScan (g0 g1 g2 : Nat) (s : State) : stem (keyScan g0 g1 g2 s) = stem s := by
  unfold keyScan
  repeat' first | rfl | (simp; done) | simp | split
@[simp ↓] theorem stem_stuck (n : Nat) (s : State) : stem (stuck n s) = stem s := by unfold stuck; simp
@[simp ↓] theorem stem_rebaseNeg (n : Nat) (s : State) : stem (rebaseNeg n s) = stem s := by unfold rebaseNeg; split <;> simp
@[simp ↓] theorem stem_trimTimeout (s : State) : stem (trimTimeout s) = stem s := by unfold trimTimeout; simp
@[simp ↓] theorem stem_lockTimeout (s : State) : stem (lockTimeout s) = stem s := by unfold lockTimeout; simp
@[simp ↓] theorem stem_strapGen (straps : Nat) (s : State) : stem (strapGen straps s) = stem s := by unfold strapGen; split <;> simp
@[simp ↓] theorem stem_linkTest (pass : Bool) (s : State) : stem (linkTest pass s) = stem s := by unfold linkTest; simp
@[simp ↓] theorem stem_readOtp (s : State) : stem (readOtp s) = stem s := by unfold readOtp; simp
@[simp ↓] theorem stem_readSys (c : Nat) (s : State) : stem (readSys c s).1 = stem s := by unfold readSys; simp
@[simp ↓] theorem stem_loadSystem (s : State) : stem (loadSystem s) = stem s := by
  unfold loadSystem
  repeat' first | rfl | (simp; done) | simp | split
theorem stem_scanSlot (x : State × SlotScan) (i : Nat) : stem (scanSlot x i).1 = stem x.1 := by
  unfold scanSlot
  split <;> (rename_i h; exact stem_fst h (stem_readSlot _ _))
@[simp ↓] theorem stem_almLoad (kept : Bool) (cause : Nat) (s : State) : stem (almLoad kept cause s) = stem s := by
  unfold almLoad
  split
  rename_i h
  have h1 : stem _ = stem s := stem_fst h (stem_foldl_pair _ _ _ stem_scanSlot)
  repeat' (first | exact h1 | (simp [h1]; done) | simp | split)
@[simp ↓] theorem stem_imageValid (slot : Nat) (s : State) : stem (imageValid slot s).1 = stem s := by
  unfold imageValid
  repeat' first | rfl | (simp; done) | simp | split
@[simp ↓] theorem stem_checkImage (slot : Nat) (s : State) : stem (checkImage slot s) = stem s := by unfold checkImage; simp
@[simp ↓] theorem stem_romBoot (us : Nat) (linkPass romBad : Bool) (s : State) : stem (romBoot us linkPass romBad s) = stem s := by unfold romBoot; simp
@[simp ↓] theorem stem_levelDone (s : State) : stem (levelDone s) = stem s := by unfold levelDone; simp
@[simp ↓] theorem stem_patchSound (n : Nat) (s : State) : stem (patchSound n s).1 = stem s := by unfold patchSound; split <;> simp
@[simp ↓] theorem stem_takePatch (ver n : Nat) (s : State) : stem (takePatch ver n s) = stem s := by
  unfold takePatch
  split
  · rename_i h
    have h1 := stem_fst h (stem_patchSound _ _)
    split
    · exact h1
    · exact h1
  · rename_i h; exact stem_fst h (stem_patchSound _ _)
@[simp ↓] theorem stem_checkEnd (patch : Option (Nat × Nat)) (s : State) : stem (checkEnd patch s) = stem s := by
  unfold checkEnd
  repeat' first | rfl | (simp; done) | split

end Sys2Proof.Machine
end

