-- ==== Sys2Proof/Laws/Resets.lean ====
section
/-! SUPPORT. What the end of a tick leaves alone: the resets that have been accepted and wait for the boundary. -/

set_option linter.unusedTactic false
set_option linter.unreachableTactic false

namespace Sys2Proof.Machine

/-- The accepted resets. -/
structure Resets where
  at_ : List Nat

/-- The accepted resets of a state. -/
def resets (s : State) : Resets := ⟨s.boot.resetAt⟩

@[simp ↓] theorem resets_mk {x0} {x1} {x2} {x3} {x4} {x5} {x6} {x7} {x8} {x9} {x10} {x11} {x12} {x13} {x14} {x15} {x16} {x17} {x18} {x19} {x20} {x21} {x22} {x23} {x24} {x25} {x26} {x27} {x28} {x29} {x30} {x31} {x32} {x33} {x34} {x35} :
    resets (State.mk x0 x1 x2 x3 x4 x5 x6 x7 x8 x9 x10 x11 x12 x13 x14 x15 x16 x17 x18 x19 x20 x21 x22 x23 x24 x25 x26 x27 x28 x29 x30 x31 x32 x33 x34 x35) = ⟨x8.resetAt⟩ := id rfl
@[simp] theorem resets_eta (s : State) : Resets.mk s.boot.resetAt = resets s := id rfl
@[simp ↓] theorem resets_ite (c : Prop) [Decidable c] (a b : State) : resets (if c then a else b) = if c then resets a else resets b := by split <;> rfl
@[simp ↓] theorem resets_foldl {α : Type} (f : State → α → State) (l : List α) (s : State) (h : ∀ s x, resets (f s x) = resets s) :
    resets (l.foldl f s) = resets s := by
  induction l generalizing s with
  | nil => rfl
  | cons x t ih => rw [List.foldl_cons, ih, h]
theorem resets_foldl_pair {α β : Type} (f : State × β → α → State × β) (l : List α) (x : State × β) (h : ∀ x a, resets (f x a).1 = resets x.1) :
    resets (l.foldl f x).1 = resets x.1 := by
  induction l generalizing x with
  | nil => rfl
  | cons a t ih => rw [List.foldl_cons, ih, h]
theorem resets_fst {α : Type} {f : State × α} {s t : State} {x : α} (h : f = (t, x)) (hf : resets f.1 = resets s) : resets t = resets s := by
  rw [h] at hf; exact hf
theorem resets_flt (t : State) (v : Flt) : resets { t with flt := v } = resets t := rfl
theorem resets_nvm (t : State) (v : Nvm) : resets { t with nvm := v } = resets t := rfl
theorem resets_bist (t : State) (v : Bist) : resets { t with bist := v } = resets t := rfl
theorem resets_link (t : State) (v : Link) : resets { t with link := v } = resets t := rfl
theorem resets_learn (t : State) (v : Learn) : resets { t with learn := v } = resets t := rfl
theorem resets_arr (t : State) (v : Arr) : resets { t with arr := v } = resets t := rfl
theorem resets_ana (t : State) (v : Ana) : resets { t with ana := v } = resets t := rfl
theorem resets_alm (t : State) (v : Alm) : resets { t with alm := v } = resets t := rfl
theorem resets_fsk (t : State) (v : Fsk) : resets { t with fsk := v } = resets t := rfl
theorem resets_pub (t : State) (v : Pub) : resets { t with pub := v } = resets t := rfl
theorem resets_ldac (t : State) (v : Ldac) : resets { t with ldac := v } = resets t := rfl
theorem resets_stor (t : State) (v : Rec) : resets { t with stor := v } = resets t := rfl
@[simp ↓] theorem resets_State_setBytes (s : State) (a1_ : Nat) (bs : List Byte) : resets (State.setBytes s a1_ bs) = resets s := by unfold State.setBytes; simp
@[simp ↓] theorem resets_State_fresh (s : State) (n : Nat) : resets (State.fresh s n) = resets s := by unfold State.fresh; simp
@[simp ↓] theorem resets_State_setWord (s : State) (a1_ : Nat) (w : Word) : resets (State.setWord s a1_ w) = resets s := by unfold State.setWord; simp
@[simp ↓] theorem resets_State_wr (s : State) (p off : Nat) (w : Word) : resets (State.wr s p off w) = resets s := by unfold State.wr; simp
@[simp ↓] theorem resets_State_wrE (s : State) (p off : Nat) (w : Word) : resets (State.wrE s p off w) = resets s := by unfold State.wrE; simp
@[simp ↓] theorem resets_State_put (s : State) (f : Fld) (v : Nat) : resets (State.put s f v) = resets s := by unfold State.put; simp
@[simp ↓] theorem resets_State_putB (s : State) (f : Fld) (b : Bool) : resets (State.putB s f b) = resets s := by unfold State.putB; simp
@[simp ↓] theorem resets_showBist (s : State) : resets (showBist s) = resets s := by unfold showBist; simp
@[simp ↓] theorem resets_State_bump (s : State) (f : Fld) (n : Nat) : resets (State.bump s f n) = resets s := by unfold State.bump; simp
@[simp ↓] theorem resets_closeWork (completed : Bool) (s : State) : resets (closeWork completed s) = resets s := by unfold closeWork; split <;> simp
@[simp ↓] theorem resets_settleWork (s : State) : resets (settleWork s) = resets s := by unfold settleWork; simp
@[simp ↓] theorem resets_showDma (s : State) : resets (showDma s) = resets s := by unfold showDma; simp
@[simp ↓] theorem resets_runOver (s : State) : resets (runOver s) = resets s := by unfold runOver; simp
@[simp ↓] theorem resets_runCut (s : State) : resets (runCut s) = resets s := by unfold runCut; simp
@[simp ↓] theorem resets_dmaAbort (s : State) : resets (dmaAbort s) = resets s := by unfold dmaAbort; simp
@[simp ↓] theorem resets_State_raise (s : State) (e : Nat × Nat) : resets (State.raise s e) = resets s := by unfold State.raise; simp
@[simp ↓] theorem resets_State_disarm (s : State) (p pt : Nat) : resets (State.disarm s p pt) = resets s := by unfold State.disarm; simp
@[simp ↓] theorem resets_fltIrq (s : State) : resets (fltIrq s) = resets s := by unfold fltIrq; simp
@[simp ↓] theorem resets_planWinNext (s : State) : resets (planWinNext s) = resets s := by unfold planWinNext; simp
@[simp ↓] theorem resets_memCorrected (check : Bool) (a1_ : Nat) (s : State) : resets (memCorrected check a1_ s) = resets s := by unfold memCorrected; simp
@[simp ↓] theorem resets_almAdd (off n top : Nat) (s : State) : resets (almAdd off n top s) = resets s := by unfold almAdd; simp
@[simp ↓] theorem resets_addRecord (w0 w1 : Word) (s : State) : resets (addRecord w0 w1 s) = resets s := by unfold addRecord; simp
@[simp ↓] theorem resets_queueTrap (id : Nat) (s : State) : resets (queueTrap id s) = resets s := by unfold queueTrap; simp
@[simp ↓] theorem resets_addRecovery (s : State) : resets (addRecovery s) = resets s := by unfold addRecovery; simp
@[simp ↓] theorem resets_almCount (i : Nat) (s : State) : resets (almCount i s) = resets s := by unfold almCount; simp
@[simp ↓] theorem resets_enterLockout (id : Nat) (s : State) : resets (enterLockout id s) = resets s := by unfold enterLockout; simp
@[simp ↓] theorem resets_errPin (id : Nat) (s : State) : resets (errPin id s) = resets s := by
  unfold errPin
  split
  · split
    · simp
    · extract_lets s1
      have h1 : resets s1 = resets s := by unfold s1; simp
      exact (resets_flt _ _).trans h1
  · extract_lets src1 src s1
    have h1 : resets s1 = resets s := (resets_flt _ _).trans (by unfold src1; simp)
    clear_value s1
    split <;> simp [h1]
  · split <;> simp
@[simp ↓] theorem resets_faultEvent (id info : Nat) (s : State) (alt inj : Bool) : resets (faultEvent id info s alt inj) = resets s := by
  unfold faultEvent
  repeat' first | rfl | (simp; done) | simp | split
@[simp ↓] theorem resets_memUncorr (inj : Bool) (a1_ : Nat) (s : State) : resets (memUncorr inj a1_ s) = resets s := by
  unfold memUncorr
  extract_lets again s1 src s2
  have h1 : resets s1 = resets s := by unfold s1; simp
  have h : resets s2 = resets s1 := resets_nvm _ _
  clear_value s2 src s1
  split <;> simp [h, h1]
@[simp ↓] theorem resets_memRead (a0_ : Nat) (s : State) : resets (memRead a0_ s).1 = resets s := by
  unfold memRead
  repeat' first | rfl | (simp; done) | simp | split
@[simp ↓] theorem resets_memReads (a0_ a1_ : Nat) (a2_ : State) : resets (memReads a0_ a1_ a2_).1 = resets a2_ := by
  induction a0_ generalizing a1_ a2_ with
  | zero => rfl
  | succ n ih =>
    unfold memReads
    split
    · rename_i h; exact resets_fst h (resets_memRead _ _)
    · rename_i h
      have h1 := resets_fst h (resets_memRead _ _)
      split
      · rename_i h2; exact (resets_fst h2 (ih _ _)).trans h1
      · rename_i h2; exact (resets_fst h2 (ih _ _)).trans h1
@[simp ↓] theorem resets_showQueue (s : State) : resets (showQueue s) = resets s := by unfold showQueue; simp
@[simp ↓] theorem resets_enqueue (cs : List NvmChunk) (s : State) : resets (enqueue cs s) = resets s := by unfold enqueue; simp
@[simp ↓] theorem resets_setLearn (k : Nat) (s : State) : resets (setLearn k s) = resets s := by unfold setLearn; simp
@[simp ↓] theorem resets_dropWork (s : State) : resets (dropWork s) = resets s := by unfold dropWork; simp
@[simp ↓] theorem resets_learnLost (s : State) : resets (learnLost s) = resets s := by unfold learnLost; simp
@[simp ↓] theorem resets_nvmCorrected (check : Bool) (s : State) : resets (nvmCorrected check s) = resets s := by unfold nvmCorrected; simp
@[simp ↓] theorem resets_queueSystem (s : State) : resets (queueSystem s) = resets s := by unfold queueSystem; simp
@[simp ↓] theorem resets_showArr (s : State) : resets (showArr s) = resets s := by unfold showArr; simp
@[simp ↓] theorem resets_showRole (s : State) (c : Nat) : resets (showRole s c) = resets s := by unfold showRole; simp
@[simp ↓] theorem resets_showRoles (s : State) : resets (showRoles s) = resets s := by unfold showRoles; simp
@[simp ↓] theorem resets_weightsHit (a0_ : Nat) (s : State) : resets (weightsHit a0_ s) = resets s := by unfold weightsHit; split <;> simp
@[simp ↓] theorem resets_pathRead (a0_ : Nat) (s : State) : resets (pathRead a0_ s).1 = resets s := by
  unfold pathRead
  split
  · rename_i h
    have h1 := resets_fst h (resets_memRead _ _)
    dsimp only
    split
    · exact (resets_weightsHit _ _).trans h1
    · exact h1
  · exact resets_memRead _ _
@[simp ↓] theorem resets_dropPartitions (s : State) : resets (dropPartitions s) = resets s := by unfold dropPartitions; simp
@[simp ↓] theorem resets_showHeld (s : State) : resets (showHeld s) = resets s := by unfold showHeld; simp
@[simp ↓] theorem resets_holdSample (ok : Bool) (s : State) : resets (holdSample ok s) = resets s := by unfold holdSample; split <;> simp
@[simp ↓] theorem resets_finishRun (v : Verdict) (s : State) : resets (finishRun v s) = resets s := by unfold finishRun; simp
@[simp ↓] theorem resets_abortRun (cause tile cell : Nat) (s : State) : resets (abortRun cause tile cell s) = resets s := by unfold abortRun; split <;> simp
@[simp ↓] theorem resets_giveWork (c p : Nat) (s : State) : resets (giveWork c p s) = resets s := by unfold giveWork; simp
@[simp ↓] theorem resets_dispatch (a0_ : Nat) (a1_ : State) : resets (dispatch a0_ a1_) = resets a1_ := by
  fun_induction dispatch <;> simp_all +zetaDelta
@[simp ↓] theorem resets_dispatchAll (s : State) : resets (dispatchAll s) = resets s := by unfold dispatchAll; simp
@[simp ↓] theorem resets_afterFailure (s : State) : resets (afterFailure s) = resets s := by unfold afterFailure; simp
@[simp ↓] theorem resets_showLive (s : State) : resets (showLive s) = resets s := by unfold showLive; simp
@[simp ↓] theorem resets_leaveBench (s : State) : resets (leaveBench s) = resets s := by unfold leaveBench; simp
@[simp ↓] theorem resets_retireCell (c cause : Nat) (inj : Bool) (s : State) : resets (retireCell c cause inj s) = resets s := by unfold retireCell; simp
@[simp ↓] theorem resets_takeWork (c : Nat) (s : State) : resets (takeWork c s) = resets s := by unfold takeWork; simp
@[simp ↓] theorem resets_unparkCell (c : Nat) (s : State) : resets (unparkCell c s) = resets s := by unfold unparkCell; simp
@[simp ↓] theorem resets_failCell (c cause : Nat) (inj : Bool) (s : State) : resets (failCell c cause inj s) = resets s := by
  unfold failCell
  repeat' first | rfl | (simp; done) | split
@[simp ↓] theorem resets_cellFails (c cause : Nat) (inj : Bool) (s : State) : resets (cellFails c cause inj s) = resets s := by unfold cellFails; simp
@[simp ↓] theorem resets_cellWinRead (a0_ : Nat) (s : State) : resets (cellWinRead a0_ s).1 = resets s := by
  unfold cellWinRead
  repeat' first | rfl | (simp; done) | simp | split
@[simp ↓] theorem resets_endBurst (s : State) : resets (endBurst s) = resets s := by unfold endBurst; simp
@[simp ↓] theorem resets_endRun (s : State) : resets (endRun s) = resets s := by unfold endRun; simp
@[simp ↓] theorem resets_requeue (c : Nat) (s : State) : resets (requeue c s) = resets s := by unfold requeue; split <;> simp
@[simp ↓] theorem resets_parkCell (c : Nat) (s : State) : resets (parkCell c s) = resets s := by
  unfold parkCell
  repeat' first | rfl | (simp; done) | simp | split
@[simp ↓] theorem resets_parkExcess (a0_ : Nat) (a1_ : List Nat) (a2_ : State) : resets (parkExcess a0_ a1_ a2_) = resets a2_ := by
  fun_induction parkExcess <;> simp_all
@[simp ↓] theorem resets_parkIdle (b s : State) : resets (parkIdle b s) = resets s := by unfold parkIdle; simp
@[simp ↓] theorem resets_nvmRead (a0_ : Nat) (s : State) : resets (nvmRead a0_ s).1 = resets s := by
  unfold nvmRead
  repeat' first | rfl | (simp; done) | simp | split
@[simp ↓] theorem resets_todRead (ns : Nat) (s : State) : resets (todRead ns s).1 = resets s := by unfold todRead; simp
@[simp ↓] theorem resets_almWinNext (s : State) : resets (almWinNext s) = resets s := by unfold almWinNext; simp
@[simp ↓] theorem resets_readEffect (p off ns : Nat) (s : State) : resets (readEffect p off ns s) = resets s := by unfold readEffect; split <;> simp
@[simp ↓] theorem resets_regRead (p off ns : Nat) (s : State) : resets (regRead p off ns s).1 = resets s := by unfold regRead; simp
@[simp ↓] theorem resets_readAccess (addr : Word) (ns : Nat) (s : State) : resets (readAccess addr ns s).1 = resets s := by
  unfold readAccess
  repeat' first | rfl | (simp; done) | simp | split
  all_goals first | rfl | (simp_all; done) | (simp only [Prod.ext_iff] at *; (try cases_type* And); subst_vars; first | rfl | (simp; done) | (simp_all; done))
@[simp ↓] theorem resets_tickAon (u : Nat) (s : State) : resets (tickAon u s) = resets s := by unfold tickAon; simp
@[simp ↓] theorem resets_tickSample (len : Nat) (s : State) : resets (tickSample len s) = resets s := by unfold tickSample; simp
@[simp ↓] theorem resets_tickBoot (s : State) : resets (tickBoot s) = resets s := by unfold tickBoot; simp
@[simp ↓] theorem resets_tickWindow (s : State) : resets (tickWindow s) = resets s := by unfold tickWindow; simp
@[simp ↓] theorem resets_todRun (s : State) : resets (todRun s) = resets s := by unfold todRun; simp
@[simp ↓] theorem resets_svUntil (ns : Nat) (s : State) : resets (svUntil ns s) = resets s := by unfold svUntil; simp
@[simp ↓] theorem resets_lineTick (s : State) : resets (lineTick s) = resets s := by unfold lineTick; simp
@[simp ↓] theorem resets_setLane (n : Nat) (l : Lane) (s : State) : resets (setLane n l s) = resets s := by unfold setLane; split <;> simp
@[simp ↓] theorem resets_countPulse (c : Conv) (t : Nat) (s : State) : resets (countPulse c t s) = resets s := by unfold countPulse; simp
@[simp ↓] theorem resets_pulseOff (c : Conv) (t : Nat) (s : State) : resets (pulseOff c t s) = resets s := by
  unfold pulseOff
  repeat' first | rfl | (simp; done) | split
@[simp ↓] theorem resets_showPins (s : State) : resets (showPins s) = resets s := by unfold showPins; simp
@[simp ↓] theorem resets_setConv (n : Nat) (c : Option Conv) (s : State) : resets (setConv n c s) = resets s := by unfold setConv; simp
@[simp ↓] theorem resets_missStart (n : Nat) (c : Conv) (s : State) : resets (missStart n c s) = resets s := by unfold missStart; simp
@[simp ↓] theorem resets_ageLane (s : State) (n : Nat) : resets (ageLane s n) = resets s := by
  unfold ageLane
  repeat' first | rfl | (simp; done) | simp | split
@[simp ↓] theorem resets_ageLanes (s : State) : resets (ageLanes s) = resets s := by unfold ageLanes; simp
@[simp ↓] theorem resets_takeSlack (d : Slot) (at_ : Nat) (s : State) : resets (takeSlack d at_ s) = resets s := by unfold takeSlack; simp
@[simp ↓] theorem resets_deadline (idx cause : Nat) (aborted : Bool) (s : State) : resets (deadline idx cause aborted s) = resets s := by unfold deadline; simp
@[simp ↓] theorem resets_abortAtBoundary (len : Nat) (r : Running) (s : State) : resets (abortAtBoundary len r s) = resets s := by unfold abortAtBoundary; simp
@[simp ↓] theorem resets_countMissed (d : Slot) (s : State) : resets (countMissed d s) = resets s := by unfold countMissed; simp
@[simp ↓] theorem resets_missAtBoundary (len : Nat) (s : State) (d : Slot) : resets (missAtBoundary len s d) = resets s := by unfold missAtBoundary; simp
@[simp ↓] theorem resets_reportSlack (s : State) : resets (reportSlack s) = resets s := by unfold reportSlack; simp
@[simp ↓] theorem resets_planTickEnd (s : State) : resets (planTickEnd s) = resets s := by
  unfold planTickEnd
  repeat' first | rfl | (simp; done) | split
@[simp ↓] theorem resets_runBegin (j : Nat) (s : State) : resets (runBegin j s) = resets s := by unfold runBegin; simp
@[simp ↓] theorem resets_dmaWord (a0_ ns : Nat) (s : State) : resets (dmaWord a0_ ns s).1 = resets s := by
  unfold dmaWord
  repeat' first | rfl | (simp; done) | simp | split
  all_goals first | rfl | (simp_all; done) | (simp only [Prod.ext_iff] at *; (try cases_type* And); subst_vars; first | rfl | (simp; done) | (simp_all; done))
@[simp ↓] theorem resets_dmaWords (a0_ a1_ : Nat) (a2_ : State) : resets (dmaWords a0_ a1_ a2_).1 = resets a2_ := by
  induction a0_ generalizing a1_ a2_ with
  | zero => rfl
  | succ n ih =>
    unfold dmaWords
    split
    · rename_i h; exact resets_fst h (resets_dmaWord _ _ _)
    · rename_i h
      have h1 := resets_fst h (resets_dmaWord _ _ _)
      split
      · rename_i h2; exact (resets_fst h2 (ih _ _)).trans h1
      · rename_i h2; exact (resets_fst h2 (ih _ _)).trans h1
@[simp ↓] theorem resets_dmaBytes (a0_ : Nat) (s : State) : resets (dmaBytes a0_ s).1 = resets s := by
  unfold dmaBytes
  repeat' first | rfl | (simp; done) | simp | split
  all_goals first | rfl | (simp_all; done) | (simp only [Prod.ext_iff] at *; (try cases_type* And); subst_vars; first | rfl | (simp; done) | (simp_all; done))
@[simp ↓] theorem resets_storedTile (form : Nat) (vs : List Int) (s : State) : resets (storedTile form vs s).1 = resets s := by
  unfold storedTile
  repeat' first | rfl | (simp; done) | simp | split
@[simp ↓] theorem resets_readTile (a0_ : Nat) (s : State) : resets (readTile a0_ s).1 = resets s := by
  unfold readTile
  repeat' first | rfl | (simp; done) | simp | split
  all_goals first | rfl | (simp_all; done) | (simp only [Prod.ext_iff] at *; (try cases_type* And); subst_vars; first | rfl | (simp; done) | (simp_all; done))
@[simp ↓] theorem resets_dmaTile (a0_ : Nat) (s : State) : resets (dmaTile a0_ s).1 = resets s := by unfold dmaTile; split <;> simp
@[simp ↓] theorem resets_ownForm (a0_ nnz : Nat) (s : State) : resets (ownForm a0_ nnz s).1 = resets s := by
  unfold ownForm
  repeat' first | rfl | (simp; done) | simp | split
@[simp ↓] theorem resets_unitRead (j k ns : Nat) (s : State) : resets (unitRead j k ns s).1 = resets s := by
  unfold unitRead
  repeat' first | rfl | (simp; done) | simp | split
  all_goals first | rfl | (simp_all; done) | (simp only [Prod.ext_iff] at *; (try cases_type* And); subst_vars; first | rfl | (simp; done) | (simp_all; done))
@[simp ↓] theorem resets_runErr (j : Nat) (s : State) : resets (runErr j s) = resets s := by unfold runErr; simp
@[simp ↓] theorem resets_runMeta (j k code : Nat) (s : State) : resets (runMeta j k code s) = resets s := by unfold runMeta; simp
@[simp ↓] theorem resets_sramBytes (a0_ : Nat) (bs : List Byte) (s : State) : resets (sramBytes a0_ bs s) = resets s := by unfold sramBytes; simp
@[simp ↓] theorem resets_memWrite (a0_ : Nat) (w : Word) (s : State) : resets (memWrite a0_ w s).1 = resets s := by
  unfold memWrite
  repeat' first | rfl | (simp; done) | simp | split
  all_goals first | rfl | (simp_all; done) | (simp only [Prod.ext_iff] at *; (try cases_type* And); subst_vars; first | rfl | (simp; done) | (simp_all; done))
@[simp ↓] theorem resets_dmaStore (kind a1_ : Nat) (bs : List Byte) (s : State) : resets (dmaStore kind a1_ bs s) = resets s := by unfold dmaStore; split <;> simp
@[simp ↓] theorem resets_unitWrite (j : Nat) (bs : List Byte) (s : State) : resets (unitWrite j bs s) = resets s := by unfold unitWrite; simp
@[simp ↓] theorem resets_runUnit (j ns : Nat) (s : State) : resets (runUnit j ns s) = resets s := by
  unfold runUnit
  repeat' first | rfl | (simp; done) | simp | split
  all_goals first | rfl | (simp_all; done) | (simp only [Prod.ext_iff] at *; (try cases_type* And); subst_vars; first | rfl | (simp; done) | (simp_all; done))
@[simp ↓] theorem resets_dmaSteps (mhz began : Nat) (now lim : Option Nat) (a4_ : Nat) (a5_ : State) : resets (dmaSteps mhz began now lim a4_ a5_) = resets a5_ := by
  fun_induction dmaSteps <;> simp_all +zetaDelta
@[simp ↓] theorem resets_dmaUntil (at_ : Option Nat) (s : State) : resets (dmaUntil at_ s) = resets s := by unfold dmaUntil; split <;> simp
@[simp ↓] theorem resets_epochEnd (s : State) : resets (epochEnd s) = resets s := by unfold epochEnd; simp
@[simp ↓] theorem resets_epochBegin (s : State) : resets (epochBegin s) = resets s := by unfold epochBegin; simp
@[simp ↓] theorem resets_streamRead (a0_ a1_ : Nat) (a2_ : State) : resets (streamRead a0_ a1_ a2_).1 = resets a2_ := by
  induction a0_ generalizing a1_ a2_ with
  | zero => rfl
  | succ n ih =>
    unfold streamRead
    split
    · rename_i h
      have h1 := resets_fst h (resets_readTile _ _)
      extract_lets fmt len
      split
      · rename_i h2; exact (resets_fst h2 (ih _ _)).trans h1
      · exact (ih _ _).trans h1
    · rename_i h; exact resets_fst h (resets_readTile _ _)
@[simp ↓] theorem resets_loadSample (l : LayerD) (a1_ : Sample) (s : State) : resets (loadSample l a1_ s) = resets s := by
  unfold loadSample
  repeat' first | rfl | (simp; done) | simp | split
  all_goals first | rfl | (simp_all; done) | (simp only [Prod.ext_iff] at *; (try cases_type* And); subst_vars; first | rfl | (simp; done) | (simp_all; done))
@[simp ↓] theorem resets_weightRow (l : LayerD) (o : Nat) (s : State) : resets (weightRow l o s).1 = resets s := by
  unfold weightRow
  repeat' first | rfl | (simp; done) | simp | split
  all_goals first | rfl | (simp_all; done) | (simp only [Prod.ext_iff] at *; (try cases_type* And); subst_vars; first | rfl | (simp; done) | (simp_all; done))
@[simp ↓] theorem resets_forwardRow (l : LayerD) (o : Nat) (s : State) : resets (forwardRow l o s) = resets s := by
  unfold forwardRow
  repeat' first | rfl | (simp; done) | simp | split
  all_goals first | rfl | (simp_all; done) | (simp only [Prod.ext_iff] at *; (try cases_type* And); subst_vars; first | rfl | (simp; done) | (simp_all; done))
@[simp ↓] theorem resets_putRow (l : LayerD) (o : Nat) (vs : List Int) (s : State) : resets (putRow l o vs s) = resets s := by unfold putRow; simp
@[simp ↓] theorem resets_updateRow (l : LayerD) (o : Nat) (s : State) : resets (updateRow l o s) = resets s := by
  unfold updateRow
  repeat' first | rfl | (simp; done) | simp | split
  all_goals first | rfl | (simp_all; done) | (simp only [Prod.ext_iff] at *; (try cases_type* And); subst_vars; first | rfl | (simp; done) | (simp_all; done))
@[simp ↓] theorem resets_sealHead (l : LayerD) (s : State) : resets (sealHead l s) = resets s := by unfold sealHead; simp
@[simp ↓] theorem resets_sealRow (l : LayerD) (s : State) : resets (sealRow l s) = resets s := by
  unfold sealRow
  repeat' first | rfl | (simp; done) | simp | split
  all_goals first | rfl | (simp_all; done) | (simp only [Prod.ext_iff] at *; (try cases_type* And); subst_vars; first | rfl | (simp; done) | (simp_all; done))
theorem resets_nextStep {l : LayerD} {s : State} {x : Nat × (State → State)} (h : nextStep l s = some x) (t : State) : resets (x.2 t) = resets t := by
  unfold nextStep at h
  simp only [] at h
  repeat' split at h
  all_goals first | (cases h; done) | (cases h; first | rfl | simp)
@[simp ↓] theorem resets_learnSteps (l : LayerD) (avail a2_ : Nat) (a3_ : State) : resets (learnSteps l avail a2_ a3_) = resets a3_ := by
  induction a2_ generalizing a3_ with
  | zero => rfl
  | succ n ih =>
    unfold learnSteps
    extract_lets s1
    have h1 : resets s1 = resets a3_ := by unfold s1; simp
    clear_value s1
    split
    · rename_i h
      split
      · exact (ih _).trans ((resets_nextStep h _).trans ((resets_learn _ _).trans h1))
      · exact h1
    · exact h1
@[simp ↓] theorem resets_learnUntil (us : Nat) (s : State) : resets (learnUntil us s) = resets s := by unfold learnUntil; split <;> simp
@[simp ↓] theorem resets_learnWork (at_ : Nat) (s : State) : resets (learnWork at_ s) = resets s := by unfold learnWork; split <;> simp
@[simp ↓] theorem resets_progress (t : Nat) (s : State) : resets (progress t s) = resets s := by unfold progress; simp
@[simp ↓] theorem resets_testEnds (c result seg : Nat) (s : State) : resets (testEnds c result seg s) = resets s := by unfold testEnds; simp
@[simp ↓] theorem resets_testFail (c seg : Nat) (inj : Bool) (s : State) : resets (testFail c seg inj s) = resets s := by
  unfold testFail
  extract_lets s1 src s2
  have h1 : resets s1 = resets s := by unfold s1; simp
  have h2 : resets s2 = resets s1 := resets_bist _ _
  clear_value s2 src s1
  split
  · exact (resets_bist _ _).trans h1
  · simp [h1, h2]
@[simp ↓] theorem resets_markPass (c : Nat) (s : State) : resets (markPass c s) = resets s := by unfold markPass; simp
@[simp ↓] theorem resets_testPass (c : Nat) (s : State) : resets (testPass c s) = resets s := by
  unfold testPass
  extract_lets s1 src s2
  have h1 : resets s1 = resets s := by unfold s1; simp
  have h2 : resets s2 = resets s1 := by unfold s2; simp
  clear_value s2 src s1
  split
  · exact (resets_markPass _ _).trans ((resets_bist _ _).trans h1)
  · split
    · simp [h1]
    · exact (resets_bist _ _).trans (h2.trans h1)
@[simp ↓] theorem resets_pattern (s : State) : resets (pattern s) = resets s := by unfold pattern; split <;> simp
@[simp ↓] theorem resets_patterns (a0_ : Nat) (a1_ : State) : resets (patterns a0_ a1_) = resets a1_ := by
  fun_induction patterns <;> simp_all +zetaDelta
@[simp ↓] theorem resets_scrubPass (s : State) : resets (scrubPass s) = resets s := by unfold scrubPass; simp
@[simp ↓] theorem resets_scrubNext (s : State) : resets (scrubNext s) = resets s := by unfold scrubNext; simp
@[simp ↓] theorem resets_scrubBack (k : Nat) (s : State) : resets (scrubBack k s) = resets s := by unfold scrubBack; simp
@[simp ↓] theorem resets_scrubAt (a0_ : Nat) (s : State) : resets (scrubAt a0_ s) = resets s := by
  unfold scrubAt
  repeat' first | rfl | (simp; done) | simp | split
@[simp ↓] theorem resets_scrubStep (s : State) : resets (scrubStep s).1 = resets s := by unfold scrubStep; split <;> simp
@[simp ↓] theorem resets_scrubSteps (a0_ : Nat) (a1_ : State) : resets (scrubSteps a0_ a1_).1 = resets a1_ := by
  induction a0_ generalizing a1_ with
  | zero => rfl
  | succ n ih =>
    unfold scrubSteps
    split
    · rename_i h; exact (ih _).trans (resets_fst h (resets_scrubStep _))
    · rename_i h; exact resets_fst h (resets_scrubStep _)
@[simp ↓] theorem resets_setCal (c : Nat) (r : Option CalRun) (s : State) : resets (setCal c r s) = resets s := by unfold setCal; simp
@[simp ↓] theorem resets_calStep (arg : Nat) (s : State) : resets (calStep arg s).1 = resets s := by unfold calStep; split <;> simp
@[simp ↓] theorem resets_doUnits (t arg n : Nat) (s : State) : resets (doUnits t arg n s) = resets s := by
  unfold doUnits
  repeat' first | rfl | (simp; done) | simp | split
  all_goals first | rfl | (simp_all; done) | (simp only [Prod.ext_iff] at *; (try cases_type* And); subst_vars; first | rfl | (simp; done) | (simp_all; done))
@[simp ↓] theorem resets_workUntil (at_ : Nat) (s : State) : resets (workUntil at_ s) = resets s := by unfold workUntil; split <;> simp
@[simp ↓] theorem resets_crcsOk (l : LayerD) (arena : Nat) (s : State) : resets (crcsOk l arena s).1 = resets s := by
  unfold crcsOk
  repeat' first | rfl | (simp; done) | simp | split
@[simp ↓] theorem resets_readTiles (base a1_ a2_ : Nat) (a3_ : State) : resets (readTiles base a1_ a2_ a3_).1 = resets a3_ := by
  induction a1_ generalizing a2_ a3_ with
  | zero => rfl
  | succ n ih =>
    unfold readTiles
    split
    · rename_i h; exact resets_fst h (resets_readTile _ _)
    · rename_i h; exact resets_fst h (resets_readTile _ _)
    · rename_i h
      have h1 := resets_fst h (resets_readTile _ _)
      split
      · rename_i h2; exact (resets_fst h2 (ih _ _)).trans h1
      · exact (ih _ _).trans h1
@[simp ↓] theorem resets_recheckHead (s : State) : resets (recheckHead s) = resets s := by unfold recheckHead; simp
@[simp ↓] theorem resets_metaAbort (code checker item cell : Nat) (learned : Bool) (s : State) : resets (metaAbort code checker item cell learned s) = resets s := by unfold metaAbort; simp
@[simp ↓] theorem resets_readAhead (c k : Nat) (l : LayerD) (s : State) : resets (readAhead c k l s) = resets s := by
  unfold readAhead
  extract_lets arena
  split
  · rename_i h; exact (resets_abortRun _ _ _ _).trans (resets_fst h (resets_crcsOk _ _ _))
  · rename_i h
    have h1 := resets_fst h (resets_crcsOk _ _ _)
    extract_lets g
    split
    · rename_i h2; exact (resets_metaAbort _ _ _ _ _ _).trans ((resets_fst h2 (resets_readTiles _ _ _ _)).trans h1)
    · rename_i h2; exact (resets_abortRun _ _ _ _).trans ((resets_fst h2 (resets_readTiles _ _ _ _)).trans h1)
    · rename_i h2; exact (resets_arr _ _).trans ((resets_fst h2 (resets_readTiles _ _ _ _)).trans h1)
@[simp ↓] theorem resets_cellUntil (ns : Nat) (s : State) (c : Nat) : resets (cellUntil ns s c) = resets s := by unfold cellUntil; split <;> simp
@[simp ↓] theorem resets_arrUntil (at_ : Nat) (s : State) : resets (arrUntil at_ s) = resets s := by unfold arrUntil; simp
@[simp ↓] theorem resets_slotWork (whole : Bool) (at_ : Nat) (s : State) : resets (slotWork whole at_ s) = resets s := by unfold slotWork; simp
@[simp ↓] theorem resets_changeSource (src : Nat) (s : State) : resets (changeSource src s) = resets s := by unfold changeSource; simp
@[simp ↓] theorem resets_boundarySource (s : State) : resets (boundarySource s) = resets s := by unfold boundarySource; simp
@[simp ↓] theorem resets_State_putI (s : State) (f : Fld) (a2_ : Int) : resets (State.putI s f a2_) = resets s := by unfold State.putI; simp
@[simp ↓] theorem resets_showPhase (s : State) : resets (showPhase s) = resets s := by unfold showPhase; simp
@[simp ↓] theorem resets_tickPhase (s : State) : resets (tickPhase s) = resets s := by unfold tickPhase; simp
@[simp ↓] theorem resets_almBin48 (off n : Nat) (s : State) : resets (almBin48 off n s) = resets s := by unfold almBin48; simp
@[simp ↓] theorem resets_almResidency (s : State) : resets (almResidency s) = resets s := by unfold almResidency; simp
@[simp ↓] theorem resets_almSlack (s : State) : resets (almSlack s) = resets s := by unfold almSlack; simp
@[simp ↓] theorem resets_tickCount (g : Bool) (s : State) : resets (tickCount g s) = resets s := by unfold tickCount; simp
@[simp ↓] theorem resets_endTick (t : TickIn) (s : State) : resets (endTick t s) = resets s := by unfold endTick; simp

end Sys2Proof.Machine
end

