-- ==== Sys2Proof/Laws/Boundary.lean ====
section
/-! SUPPORT. What a reset, the end of a command, the boundary and the release of a reset do to TICK_NUM, the held reset and the queue. -/

namespace Sys2Proof.Machine

theorem clearedState_num (cls : Nat) (b : Boot) (s : State) : (clearedState cls b s).tick.num = if cls = 1 then 0 else s.tick.num := by
  unfold clearedState
  dsimp only
  split <;> rfl

theorem tearChunk_num (c : NvmChunk) (s : State) : (tearChunk c s).tick.num = s.tick.num := congrArg Stem.num (stem_tearChunk c s)
theorem tearChunk_pending (c : NvmChunk) (s : State) : (tearChunk c s).pending = s.pending := congrArg Stem.pending (stem_tearChunk c s)

theorem assertReset_held (cause info : Nat) (s : State) : (assertReset cause info s).boot.held = true := rfl

theorem assertReset_pending (cause info : Nat) (s : State) : (assertReset cause info s).pending = s.pending := by
  unfold assertReset clearedState
  dsimp only
  split
  · exact tearChunk_pending _ _
  · rfl

theorem tornOrNot_num (w : Option NvmChunk) (s : State) : (match w with | some c => tearChunk c s | none => s).tick.num = s.tick.num := by
  split
  · exact tearChunk_num _ _
  · rfl

theorem assertReset_num (cause info : Nat) (s : State) : (assertReset cause info s).tick.num =
    if causeClass (reportedCause (assertReset cause info s).boot.causes) = 1 then 0 else s.tick.num :=
  (clearedState_num _ _ _).trans (congrArg (ite _ 0) (tornOrNot_num _ s))

theorem assertReset_causes {s : State} (h : s.boot.held = false) (cause info : Nat) : (assertReset cause info s).boot.causes = [cause] := by
  unfold assertReset clearedState
  simp [h]

/-- The pieces of `settle` before the chip reset keep the stem. -/
theorem chipReset_held {s : State} (h : s.boot.held = true) : (chipReset s).boot.held = true := by
  unfold chipReset; split
  · rfl
  · exact h
theorem chipReset_pending (s : State) : (chipReset s).pending = s.pending := by
  unfold chipReset; split
  · exact assertReset_pending _ _ _
  · rfl
theorem chipReset_num {s : State} (h : s.boot.held = false) : (chipReset s).tick.num = s.tick.num := by
  unfold chipReset; split
  · rw [assertReset_num, assertReset_causes h]; rfl
  · rfl
theorem chipReset_num_or (s : State) : (chipReset s).tick.num = s.tick.num ∨ ((chipReset s).tick.num = 0 ∧ (chipReset s).boot.held = true) := by
  unfold chipReset; split
  · rw [assertReset_num]; split
    · exact .inr ⟨rfl, rfl⟩
    · exact .inl rfl
  · exact .inl rfl

theorem stem_beforeReset (b s : State) : stem (closeOpen (faultEntry (parkIdle b (closeOpen s)))) = stem s := by simp

theorem settle_held (b : State) {s : State} (h : s.boot.held = true) : (settle b s).boot.held = true :=
  chipReset_held ((congrArg Stem.held (stem_beforeReset b s)).trans h)
theorem settle_pending (b s : State) : (settle b s).pending = s.pending :=
  (chipReset_pending _).trans (congrArg Stem.pending (stem_beforeReset b s))
theorem settle_num (b : State) {s : State} (h : s.boot.held = false) : (settle b s).tick.num = s.tick.num :=
  (chipReset_num ((congrArg Stem.held (stem_beforeReset b s)).trans h)).trans (congrArg Stem.num (stem_beforeReset b s))
theorem settle_num_or (b s : State) : (settle b s).tick.num = s.tick.num ∨ ((settle b s).tick.num = 0 ∧ (settle b s).boot.held = true) := by
  have h := chipReset_num_or (closeOpen (faultEntry (parkIdle b (closeOpen s))))
  rw [show (closeOpen (faultEntry (parkIdle b (closeOpen s)))).tick.num = s.tick.num from congrArg Stem.num (stem_beforeReset b s)] at h
  exact h

theorem acceptedResets_held {s : State} (h : s.boot.resetAt ≠ []) : (acceptedResets s).boot.held = true := by
  unfold acceptedResets
  obtain ⟨c, t, e⟩ := List.exists_cons_of_ne_nil h
  rw [e, List.foldl_cons]
  have : ∀ (l : List Nat) (s : State), s.boot.held = true → (l.foldl (fun s c => assertReset c 0 s) s).boot.held = true := by
    intro l; induction l with
    | nil => exact fun _ h => h
    | cons c t ih => exact fun s _ => ih _ rfl
  exact this _ _ rfl
theorem acceptedResets_pending (s : State) : (acceptedResets s).pending = s.pending := by
  unfold acceptedResets
  generalize s.boot.resetAt = l
  induction l generalizing s with
  | nil => rfl
  | cons c t ih => exact (ih _).trans (assertReset_pending _ _ _)
theorem acceptedResets_num_or (s : State) : (acceptedResets s).tick.num = s.tick.num ∨ (acceptedResets s).tick.num = 0 := by
  unfold acceptedResets
  generalize s.boot.resetAt = l
  induction l generalizing s with
  | nil => exact .inl rfl
  | cons c t ih =>
    rw [List.foldl_cons]
    rcases ih (assertReset c 0 s) with h | h
    · rw [h, assertReset_num]; split
      · exact .inr rfl
      · exact .inl rfl
    · exact .inr h

/-- The count of a tick adds one to TICK_NUM and leaves the rest of the stem. -/
theorem tickCount_stem (g : Bool) (s : State) : stem (tickCount g s) = ⟨satTo (2 ^ 48 - 1) (s.tick.num + 1), s.boot.held, s.pending⟩ := by
  unfold tickCount
  extract_lets src s1 s2 h src2 s3
  have h1 : stem s1 = ⟨satTo (2 ^ 48 - 1) (s.tick.num + 1), s.boot.held, s.pending⟩ := rfl
  have h2 : stem s2 = stem s1 := by unfold s2; simp
  have h3 : stem s3 = stem s2 := by
    unfold s3; split
    · simp; rfl
    · rfl
  clear_value s3 src2 h s2 s1 src
  split <;> simp [h1, h2, h3]
theorem endTick_stem (t : TickIn) (s : State) : stem (endTick t s) = ⟨satTo (2 ^ 48 - 1) (s.tick.num + 1), s.boot.held, s.pending⟩ := by
  unfold endTick
  extract_lets len s1 s2 s3
  have h1 : stem s1 = stem s := by unfold s1; simp
  have h2 : stem s2 = stem s1 := by unfold s2; simp
  have h3 : stem s3 = stem s2 := by unfold s3; simp
  clear_value s3 s2 s1
  have h4 : stem (almResidency (almSlack s3)) = stem s := by simp [h1, h2, h3]
  have h5 := tickCount_stem t.guarded (almResidency (almSlack s3))
  simp only [stem, Stem.mk.injEq] at h4
  rw [h4.1, h4.2.1, h4.2.2] at h5
  rw [stem_boundarySource, stem_tickPhase]
  exact h5
theorem boundary_stem {t : TickIn} {s : State} (h : s.boot.resetAt = []) : stem (boundary t s) = stem (endTick t s) := by
  have hr : (endTick t s).boot.resetAt = [] := (congrArg Resets.at_ (resets_endTick t s)).trans h
  unfold boundary
  generalize endTick t s = u at hr ⊢
  simp only [hr, List.isEmpty_nil, Bool.not_true, Bool.false_eq_true, if_false]
  simp
theorem boundary_reset {t : TickIn} {s : State} (h : s.boot.resetAt ≠ []) : boundary t s = acceptedResets (endTick t s) := by
  have hr : (endTick t s).boot.resetAt ≠ [] := fun e => h ((congrArg Resets.at_ (resets_endTick t s)).symm.trans e)
  unfold boundary
  extract_lets s1 s2
  have h' : (!s1.boot.resetAt.isEmpty) = true := by
    unfold s1
    cases hh : (endTick t s).boot.resetAt
    · exact absurd hh hr
    · rfl
  rw [h']; rfl

theorem porRelease_pending_num (g : Nat) (b e : Bool) (s : State) : (Machine.porRelease g b e s).pending = s.pending ∧ (Machine.porRelease g b e s).tick.num = s.tick.num := by
  unfold Machine.porRelease
  split
  · exact ⟨rfl, rfl⟩
  · split
    · exact ⟨rfl, rfl⟩
    · extract_lets cause cls hist src s1 s2 s3 straps s4 s5 s6 s7 src2 s8 s9
      have h1 : stem s1 = ⟨s.tick.num, false, s.pending⟩ := rfl
      have h2 : stem s2 = stem s1 := by unfold s2; simp
      have h3 : stem s3 = stem s2 := by unfold s3; simp
      have h4 : stem s4 = stem s3 := by unfold s4; simp
      have h5 : stem s5 = stem s4 := by unfold s5; simp
      have h6 : stem s6 = stem s5 := by unfold s6; simp
      have h7 : stem s7 = stem s6 := by unfold s7; simp
      have h8 : stem s8 = stem s7 := stem_ldac _ _
      have h9 : stem s9 = stem s8 := by unfold s9; simp
      have h : stem s9 = ⟨s.tick.num, false, s.pending⟩ := by rw [h9, h8, h7, h6, h5, h4, h3, h2, h1]
      clear_value s9
      split
      · exact ⟨congrArg Stem.pending ((stem_assertClamp _ s9).trans h), congrArg Stem.num ((stem_assertClamp _ s9).trans h)⟩
      · exact ⟨congrArg Stem.pending h, congrArg Stem.num h⟩

end Sys2Proof.Machine
end

