-- ==== Sys2Proof/Laws/Memory.lean ====
section
/-! SUPPORT. The memories: every operation keeps the canonical form, a byte reads as what was last written to it, and a write leaves every other byte alone. -/

namespace Sys2Proof.Machine

variable {d : Nat → Byte}

theorem cellsFrom_mono {m : List Host.Cell} {lo lo' : Nat} (h : cellsFrom d lo' m = true) (hle : lo ≤ lo') : cellsFrom d lo m = true := by
  cases m with
  | nil => rfl
  | cons e t =>
    obtain ⟨a, v⟩ := e
    simp only [cellsFrom, Bool.and_eq_true, decide_eq_true_eq] at h ⊢
    exact ⟨⟨by omega, h.1.2⟩, h.2⟩

/-- An address below every listed one reads as its default. -/
theorem cellRead_below {m : List Host.Cell} {lo a : Nat} (h : cellsFrom d lo m = true) (ha : a < lo) : cellRead d m a = d a := by
  induction m generalizing lo with
  | nil => rfl
  | cons e t ih =>
    obtain ⟨b, v⟩ := e
    simp only [cellsFrom, Bool.and_eq_true, decide_eq_true_eq] at h
    have hne : a ≠ b := by omega
    simp only [cellRead, hne, if_false]
    exact ih h.2 (by omega)

theorem cellWrite_wf {m : List Host.Cell} {lo a : Nat} (v : Byte) (h : cellsFrom d lo m = true) (ha : lo ≤ a) : cellsFrom d lo (cellWrite d m a v) = true := by
  induction m generalizing lo with
  | nil =>
    unfold cellWrite
    split
    · rfl
    · rename_i hv; simp [cellsFrom, ha, hv]
  | cons e t ih =>
    obtain ⟨b, w⟩ := e
    have h' := h
    simp only [cellsFrom, Bool.and_eq_true, decide_eq_true_eq] at h'
    unfold cellWrite
    split
    · rename_i hab; subst hab
      split
      · exact cellsFrom_mono h'.2 (by omega)
      · rename_i hv; simp [cellsFrom, ha, hv, h'.2]
    · split
      · split
        · exact h
        · rename_i hv
          have : cellsFrom d (a + 1) ((b, w) :: t) = true := by
            simp only [cellsFrom, Bool.and_eq_true, decide_eq_true_eq]
            exact ⟨⟨by omega, h'.1.2⟩, h'.2⟩
          simp only [cellsFrom, Bool.and_eq_true, decide_eq_true_eq] at this ⊢
          exact ⟨⟨ha, hv⟩, this⟩
      · simp only [cellsFrom, Bool.and_eq_true, decide_eq_true_eq]
        exact ⟨h'.1, ih h'.2 (by omega)⟩

/-- A byte that was written reads back. -/
theorem cellRead_cellWrite_same {m : List Host.Cell} {lo : Nat} (a : Nat) (v : Byte) (h : cellsFrom d lo m = true) : cellRead d (cellWrite d m a v) a = v := by
  induction m generalizing lo with
  | nil =>
    unfold cellWrite
    split
    · rename_i hv; simp [cellRead, hv]
    · simp [cellRead]
  | cons e t ih =>
    obtain ⟨b, w⟩ := e
    simp only [cellsFrom, Bool.and_eq_true, decide_eq_true_eq] at h
    unfold cellWrite
    split
    · rename_i hab; subst hab
      split
      · rename_i hv; rw [cellRead_below h.2 (by omega), hv]
      · simp [cellRead]
    · rename_i hab
      split
      · split
        · rename_i hlt hv
          have hlow : cellsFrom d b ((b, w) :: t) = true := by simp [cellsFrom, h.1.2, h.2]
          rw [cellRead_below hlow hlt, hv]
        · simp [cellRead]
      · simp [cellRead, hab, ih h.2]

/-- A write leaves every other byte alone. -/
theorem cellRead_cellWrite_ne {m : List Host.Cell} {lo a b : Nat} (v : Byte) (h : cellsFrom d lo m = true) (hne : b ≠ a) :
    cellRead d (cellWrite d m a v) b = cellRead d m b := by
  induction m generalizing lo with
  | nil =>
    unfold cellWrite
    split
    · rfl
    · simp [cellRead, hne]
  | cons e t ih =>
    obtain ⟨c, w⟩ := e
    simp only [cellsFrom, Bool.and_eq_true, decide_eq_true_eq] at h
    unfold cellWrite
    split
    · rename_i hac; subst hac
      split <;> simp [cellRead, hne]
    · split
      · split <;> simp [cellRead, hne]
      · simp only [cellRead]
        split
        · rfl
        · exact ih h.2

theorem cellWrites_wf {m : List Host.Cell} {a : Nat} (bs : List Byte) (h : cellsFrom d 0 m = true) : cellsFrom d 0 (cellWrites d m a bs) = true := by
  induction bs generalizing m a with
  | nil => exact h
  | cons b t ih => exact ih (cellWrite_wf b h (Nat.zero_le _))

/-- Bytes outside those that are written keep their value. -/
theorem cellRead_cellWrites_out {m : List Host.Cell} {a : Nat} (bs : List Byte) {x : Nat} (h : cellsFrom d 0 m = true) (hx : x < a ∨ a + bs.length ≤ x) :
    cellRead d (cellWrites d m a bs) x = cellRead d m x := by
  induction bs generalizing m a with
  | nil => rfl
  | cons b t ih =>
    simp only [List.length_cons] at hx
    rw [cellWrites, ih (cellWrite_wf b h (Nat.zero_le _)) (by omega), cellRead_cellWrite_ne b h (by omega)]

/-- Bytes that are written read back. -/
theorem cellRead_cellWrites_in {m : List Host.Cell} {a : Nat} (bs : List Byte) {i : Nat} (h : cellsFrom d 0 m = true) (hi : i < bs.length) :
    cellRead d (cellWrites d m a bs) (a + i) = bs[i] := by
  induction bs generalizing m a i with
  | nil => simp at hi
  | cons b t ih =>
    have hw := cellWrite_wf b h (Nat.zero_le a)
    cases i with
    | zero =>
      show cellRead d (cellWrites d (cellWrite d m a b) (a + 1) t) a = b
      rw [cellRead_cellWrites_out t hw (by omega), cellRead_cellWrite_same a b h]
    | succ i =>
      have := ih (a := a + 1) hw (i := i) (by simpa using hi)
      rw [cellWrites, show a + (i + 1) = a + 1 + i by omega, this]
      rfl

theorem cellDrop_wf {m : List Host.Cell} {lo a b : Nat} (h : cellsFrom d lo m = true) : cellsFrom d lo (cellDrop a b m) = true := by
  induction m generalizing lo with
  | nil => rfl
  | cons e t ih =>
    obtain ⟨c, w⟩ := e
    simp only [cellsFrom, Bool.and_eq_true, decide_eq_true_eq] at h
    unfold cellDrop
    split
    · exact cellsFrom_mono (ih h.2) (by omega)
    · simp [cellsFrom, h.1, ih h.2]

/-- Dropped bytes read as the default, all others as before. -/
theorem cellRead_cellDrop {m : List Host.Cell} {lo : Nat} (a b x : Nat) (h : cellsFrom d lo m = true) :
    cellRead d (cellDrop a b m) x = if a ≤ x ∧ x < b then d x else cellRead d m x := by
  induction m generalizing lo with
  | nil => simp [cellDrop, cellRead]
  | cons e t ih =>
    obtain ⟨c, w⟩ := e
    simp only [cellsFrom, Bool.and_eq_true, decide_eq_true_eq] at h
    unfold cellDrop
    split
    · rename_i hin
      rw [ih h.2]
      by_cases hxc : x = c
      · subst hxc; simp [hin]
      · simp [cellRead, hxc]
    · rename_i hout
      simp only [cellRead]
      by_cases hxc : x = c
      · subst hxc; simp [hout]
      · simp only [hxc, if_false]; exact ih h.2

/-! ### The operations of State -/

theorem memWf_iff {s : State} : s.memWf = true ↔ Memory.wf s.mem = true ∧ CellMemory.wf s.cellMem = true := by simp [State.memWf]

theorem setBytes_wf {s : State} (a : Nat) (bs : List Byte) (h : s.memWf = true) : (s.setBytes a bs).memWf = true := by
  rw [memWf_iff] at h ⊢
  exact ⟨cellWrites_wf bs h.1, h.2⟩

theorem setWord_wf {s : State} (a : Nat) (w : Word) (h : s.memWf = true) : (s.setWord a w).memWf = true := setBytes_wf a _ h

theorem setCellWord_wf {s : State} (c o : Nat) (w : Word) (h : s.memWf = true) : (s.setCellWord c o w).memWf = true := by
  rw [memWf_iff] at h ⊢
  exact ⟨h.1, cellWrites_wf _ h.2⟩

theorem clearBank_wf {s : State} (n : Nat) (h : s.memWf = true) : (clearBank n s).memWf = true := by
  rw [memWf_iff] at h ⊢
  exact ⟨cellDrop_wf h.1, h.2⟩

theorem clearSram_wf {s : State} (h : s.memWf = true) : (clearSram s).memWf = true := by
  rw [memWf_iff] at h ⊢
  exact ⟨cellDrop_wf h.1, h.2⟩

theorem clearCells_wf {s : State} (h : s.memWf = true) : (clearCells s).memWf = true := by
  rw [memWf_iff] at h ⊢
  exact ⟨h.1, rfl⟩

theorem initRetention_wf {s : State} (h : s.memWf = true) : (initRetention s).memWf = true := by
  unfold initRetention
  apply setWord_wf
  rw [memWf_iff] at h ⊢
  exact ⟨cellDrop_wf h.1, h.2⟩

/-- The memories at reset are in canonical form. -/
theorem reset_memWf : State.reset.memWf = true := by decide

end Sys2Proof.Machine
end

