-- ==== Sys2Proof/Laws/Rows.lean ====
section
/-! SUPPORT. Every command but the tick boundary, the release of a reset and the causes of resets is the effect of an operation that leaves TICK_NUM, the held reset
and the queue alone. -/

set_option linter.unusedTactic false
set_option linter.unreachableTactic false

namespace Sys2Proof.Machine

/-- A meaning that runs an operation that keeps the stem, and under a held reset one that keeps it too. -/
def Framed (o : State → Host.Outcome State Fault Refusal) : Prop :=
  ∃ f g : State → State, (∀ u, stem (f u) = stem u) ∧ (∀ u, stem (g u) = stem u) ∧ ∀ s, o s = .next (if s.boot.held then g s else settle s (f s))

theorem execExcitationPulseStart_framed (n : Nat) : Framed (execExcitationPulseStart n) := ⟨_, id, fun u => by simp, fun _ => rfl, fun _ => rfl⟩
theorem execConversionStart_framed (cal : Bool) (n : Nat) : Framed (execConversionStart cal n) := ⟨_, id, fun u => by simp, fun _ => rfl, fun _ => rfl⟩
theorem execConversionEnd_framed (cal : Bool) (n : Nat) (volts : List Int) (side : ConvSide) : Framed (execConversionEnd cal n volts side) := ⟨_, id, fun u => by simp, fun _ => rfl, fun _ => rfl⟩
theorem execExcCompliance_framed (k : Nat) : Framed (execExcCompliance k) := ⟨_, id, fun u => by simp, fun _ => rfl, fun _ => rfl⟩
theorem execUrgentRequest_framed (p : Path) (lane setup : Nat) : Framed (execUrgentRequest p lane setup) := ⟨_, id, fun u => by simp, fun _ => rfl, fun _ => rfl⟩
theorem execCalDue_framed : Framed (execCalDue) := ⟨_, id, fun u => by simp, fun _ => rfl, fun _ => rfl⟩
theorem execArrGo_framed (p : Path) : Framed (execArrGo p) := ⟨_, id, fun u => by simp, fun _ => rfl, fun _ => rfl⟩
theorem execPartitionEnd_framed (x : CellInstant) (corr : Nat) (uncorr : Bool) : Framed (execPartitionEnd x corr uncorr) := ⟨_, id, fun u => by simp, fun _ => rfl, fun _ => rfl⟩
theorem execCellWatchdog_framed (x : CellInstant) : Framed (execCellWatchdog x) := ⟨_, id, fun u => by simp, fun _ => rfl, fun _ => rfl⟩
theorem execRequalify_framed (p : Path) (c : Nat) : Framed (execRequalify p c) := ⟨_, id, fun u => by simp, fun _ => rfl, fun _ => rfl⟩
theorem execRequalDone_framed : Framed (execRequalDone) := ⟨_, id, fun u => by simp, fun _ => rfl, fun _ => rfl⟩
theorem execStart_framed (p : Path) (init : Bool) : Framed (execStart p init) := ⟨_, id, fun u => by simp, fun _ => rfl, fun _ => rfl⟩
theorem execStop_framed (p : Path) : Framed (execStop p) := ⟨_, id, fun u => by simp, fun _ => rfl, fun _ => rfl⟩
theorem execSealHead_framed (p : Path) : Framed (execSealHead p) := ⟨_, id, fun u => by simp, fun _ => rfl, fun _ => rfl⟩
theorem execDiscard_framed (p : Path) : Framed (execDiscard p) := ⟨_, id, fun u => by simp, fun _ => rfl, fun _ => rfl⟩
theorem execHeadWriteComplete_framed : Framed (execHeadWriteComplete) := ⟨_, id, fun u => by simp, fun _ => rfl, fun _ => rfl⟩
theorem execEscLeak_framed (id : Nat) : Framed (execEscLeak id) := ⟨_, fun s => s, fun u => by simp, fun _ => rfl, fun _ => rfl⟩
theorem execFaultExit_framed : Framed (execFaultExit) := ⟨_, id, fun u => by simp, fun _ => rfl, fun _ => rfl⟩
theorem execClearLockout_framed (p : Path) : Framed (execClearLockout p) := ⟨_, id, fun u => by simp, fun _ => rfl, fun _ => rfl⟩
theorem execClearEsc_framed (p : Path) : Framed (execClearEsc p) := ⟨_, id, fun u => by simp, fun _ => rfl, fun _ => rfl⟩
theorem execFltTrapAck_framed (p : Path) (w : Word) : Framed (execFltTrapAck p w) := ⟨_, id, fun u => by simp, fun _ => rfl, fun _ => rfl⟩
theorem execFltEscSelect_framed (p : Path) (w : Word) : Framed (execFltEscSelect p w) := ⟨_, id, fun u => by simp, fun _ => rfl, fun _ => rfl⟩
theorem execDieHot_framed : Framed (execDieHot) := ⟨_, id, fun u => by simp, fun _ => rfl, fun _ => rfl⟩
theorem execIdleGapWork_framed (at_ till : Nat) (bad raced : Bool) : Framed (execIdleGapWork at_ till bad raced) := ⟨_, id, fun u => by simp, fun _ => rfl, fun _ => rfl⟩
theorem execPromoted_framed : Framed (execPromoted) := ⟨_, id, fun u => by simp, fun _ => rfl, fun _ => rfl⟩
theorem execBgStarved_framed : Framed (execBgStarved) := ⟨_, id, fun u => by simp, fun _ => rfl, fun _ => rfl⟩
theorem execCoreTestDone_framed (pass : Bool) : Framed (execCoreTestDone pass) := ⟨_, id, fun u => by simp, fun _ => rfl, fun _ => rfl⟩
theorem execCarrierDetect_framed (c : Carrier) (a b : Nat) : Framed (execCarrierDetect c a b) := ⟨_, id, fun u => by simp, fun _ => rfl, fun _ => rfl⟩
theorem execCarrierEnd_framed (a b : Nat) : Framed (execCarrierEnd a b) := ⟨_, id, fun u => by simp, fun _ => rfl, fun _ => rfl⟩
theorem execFskFrameRx_framed (f : FskFrame) : Framed (execFskFrameRx f) := ⟨_, id, fun u => by simp, fun _ => rfl, fun _ => rfl⟩
theorem execFrameGapTimeout_framed : Framed (execFrameGapTimeout) := ⟨_, id, fun u => by simp, fun _ => rfl, fun _ => rfl⟩
theorem execNoiseTimeout_framed : Framed (execNoiseTimeout) := ⟨_, id, fun u => by simp, fun _ => rfl, fun _ => rfl⟩
theorem execFskTxStart_framed : Framed (execFskTxStart) := ⟨_, id, fun u => by simp, fun _ => rfl, fun _ => rfl⟩
theorem execReplyLate_framed : Framed (execReplyLate) := ⟨_, id, fun u => by simp, fun _ => rfl, fun _ => rfl⟩
theorem execFskTxEnd_framed : Framed (execFskTxEnd) := ⟨_, id, fun u => by simp, fun _ => rfl, fun _ => rfl⟩
theorem execFskTxStuck_framed : Framed (execFskTxStuck) := ⟨_, id, fun u => by simp, fun _ => rfl, fun _ => rfl⟩
theorem execBurstDue_framed : Framed (execBurstDue) := ⟨_, id, fun u => by simp, fun _ => rfl, fun _ => rfl⟩
theorem execBurstTxStart_framed : Framed (execBurstTxStart) := ⟨_, id, fun u => by simp, fun _ => rfl, fun _ => rfl⟩
theorem execBurstDefer_framed : Framed (execBurstDefer) := ⟨_, id, fun u => by simp, fun _ => rfl, fun _ => rfl⟩
theorem execReadUniqueIdentifier_framed : Framed (execReadUniqueIdentifier) := ⟨_, id, fun u => stem_readCmd _ _ u fun t => by first | (simp; done) | rfl, fun _ => rfl, fun _ => rfl⟩
theorem execReadUniqueIdByTag_framed : Framed (execReadUniqueIdByTag) := ⟨_, id, fun u => by simp, fun _ => rfl, fun _ => rfl⟩
theorem execReadUniqueIdByLongTag_framed : Framed (execReadUniqueIdByLongTag) := ⟨_, id, fun u => by simp, fun _ => rfl, fun _ => rfl⟩
theorem execReadPv_framed : Framed (execReadPv) := ⟨_, id, fun u => stem_readCmd _ _ u fun t => by first | (simp; done) | rfl, fun _ => rfl, fun _ => rfl⟩
theorem execReadLoopCurrentPercent_framed : Framed (execReadLoopCurrentPercent) := ⟨_, id, fun u => stem_readCmd _ _ u fun t => by first | (simp; done) | rfl, fun _ => rfl, fun _ => rfl⟩
theorem execReadDynamicVariables_framed : Framed (execReadDynamicVariables) := ⟨_, id, fun u => stem_readCmd _ _ u fun t => by first | (simp; done) | rfl, fun _ => rfl, fun _ => rfl⟩
theorem execWritePollingAddress_framed : Framed (execWritePollingAddress) := ⟨_, id, fun u => by simp, fun _ => rfl, fun _ => rfl⟩
theorem execReadLoopConfiguration_framed : Framed (execReadLoopConfiguration) := ⟨_, id, fun u => stem_readCmd _ _ u fun t => by first | (simp; done) | rfl, fun _ => rfl, fun _ => rfl⟩
theorem execReadVariableClassifications_framed : Framed (execReadVariableClassifications) := ⟨_, id, fun u => stem_readCmd _ _ u fun t => by first | (simp; done) | rfl, fun _ => rfl, fun _ => rfl⟩
theorem execReadDeviceVarsWithStatus_framed : Framed (execReadDeviceVarsWithStatus) := ⟨_, id, fun u => stem_codesCmd _ _ u fun d t => by simp, fun _ => rfl, fun _ => rfl⟩
theorem execReadDeviceVariables_framed : Framed (execReadDeviceVariables) := ⟨_, id, fun u => stem_codesCmd _ _ u fun d t => by simp, fun _ => rfl, fun _ => rfl⟩
theorem execReadMessage_framed : Framed (execReadMessage) := ⟨_, id, fun u => stem_readCmd _ _ u fun t => by first | (simp; done) | rfl, fun _ => rfl, fun _ => rfl⟩
theorem execReadTagDescriptorDate_framed : Framed (execReadTagDescriptorDate) := ⟨_, id, fun u => stem_readCmd _ _ u fun t => by first | (simp; done) | rfl, fun _ => rfl, fun _ => rfl⟩
theorem execReadDeviceInformation_framed : Framed (execReadDeviceInformation) := ⟨_, id, fun u => stem_readCmd _ _ u fun t => by first | (simp; done) | rfl, fun _ => rfl, fun _ => rfl⟩
theorem execReadFinalAssemblyNumber_framed : Framed (execReadFinalAssemblyNumber) := ⟨_, id, fun u => stem_readCmd _ _ u fun t => by first | (simp; done) | rfl, fun _ => rfl, fun _ => rfl⟩
theorem execReadLongTag_framed : Framed (execReadLongTag) := ⟨_, id, fun u => stem_readCmd _ _ u fun t => by first | (simp; done) | rfl, fun _ => rfl, fun _ => rfl⟩
theorem execWriteMessage_framed : Framed (execWriteMessage) := ⟨_, id, fun u => by simp, fun _ => rfl, fun _ => rfl⟩
theorem execWriteTagDescriptorDate_framed : Framed (execWriteTagDescriptorDate) := ⟨_, id, fun u => by simp, fun _ => rfl, fun _ => rfl⟩
theorem execWriteFinalAssemblyNumber_framed : Framed (execWriteFinalAssemblyNumber) := ⟨_, id, fun u => by simp, fun _ => rfl, fun _ => rfl⟩
theorem execWriteLongTag_framed : Framed (execWriteLongTag) := ⟨_, id, fun u => by simp, fun _ => rfl, fun _ => rfl⟩
theorem execResetConfigChangedFlag_framed : Framed (execResetConfigChangedFlag) := ⟨_, id, fun u => by simp, fun _ => rfl, fun _ => rfl⟩
theorem execEnterExitFixedCurrent_framed : Framed (execEnterExitFixedCurrent) := ⟨_, id, fun u => by simp, fun _ => rfl, fun _ => rfl⟩
theorem execTrimLoopCurrentZero_framed : Framed (execTrimLoopCurrentZero) := ⟨_, id, fun u => by simp, fun _ => rfl, fun _ => rfl⟩
theorem execTrimLoopCurrentGain_framed : Framed (execTrimLoopCurrentGain) := ⟨_, id, fun u => by simp, fun _ => rfl, fun _ => rfl⟩
theorem execReadAdditionalDeviceStatus_framed : Framed (execReadAdditionalDeviceStatus) := ⟨_, id, fun u => by simp, fun _ => rfl, fun _ => rfl⟩
theorem execWriteNumResponsePreambles_framed : Framed (execWriteNumResponsePreambles) := ⟨_, id, fun u => by simp, fun _ => rfl, fun _ => rfl⟩
theorem execWriteBurstPeriod_framed : Framed (execWriteBurstPeriod) := ⟨_, id, fun u => by simp, fun _ => rfl, fun _ => rfl⟩
theorem execWriteBurstTrigger_framed : Framed (execWriteBurstTrigger) := ⟨_, id, fun u => by simp, fun _ => rfl, fun _ => rfl⟩
theorem execReadBurstConfiguration_framed : Framed (execReadBurstConfiguration) := ⟨_, id, fun u => stem_readCmd _ _ u fun t => by first | (simp; done) | rfl, fun _ => rfl, fun _ => rfl⟩
theorem execWriteBurstDeviceVariables_framed : Framed (execWriteBurstDeviceVariables) := ⟨_, id, fun u => by simp, fun _ => rfl, fun _ => rfl⟩
theorem execWriteBurstCommand_framed : Framed (execWriteBurstCommand) := ⟨_, id, fun u => by simp, fun _ => rfl, fun _ => rfl⟩
theorem execBurstControl_framed : Framed (execBurstControl) := ⟨_, id, fun u => by simp, fun _ => rfl, fun _ => rfl⟩
theorem execYrd_framed (ns : Nat) : Framed (execYrd ns) := ⟨_, id, fun u => by simp, fun _ => rfl, fun _ => rfl⟩
theorem execYwr_framed : Framed (execYwr) := ⟨_, id, fun u => by simp, fun _ => rfl, fun _ => rfl⟩
theorem execYcommit_framed : Framed (execYcommit) := ⟨_, id, fun u => by simp, fun _ => rfl, fun _ => rfl⟩
theorem execYsess_framed : Framed (execYsess) := ⟨_, id, fun u => by simp, fun _ => rfl, fun _ => rfl⟩
theorem execKeyScan_framed (g0 g1 g2 : Nat) : Framed (execKeyScan g0 g1 g2) := ⟨_, id, fun u => by simp, fun _ => rfl, fun _ => rfl⟩
theorem execStuck_framed (n : Nat) : Framed (execStuck n) := ⟨_, id, fun u => by simp, fun _ => rfl, fun _ => rfl⟩
theorem execRebaseNeg_framed (n : Nat) : Framed (execRebaseNeg n) := ⟨_, id, fun u => by simp, fun _ => rfl, fun _ => rfl⟩
theorem execLocalLockOn_framed : Framed (execLocalLockOn) := ⟨_, id, fun u => by simp, fun _ => rfl, fun _ => rfl⟩
theorem execLocalLockOff_framed : Framed (execLocalLockOff) := ⟨_, id, fun u => by simp, fun _ => rfl, fun _ => rfl⟩
theorem execLoopTestCurrent_framed : Framed (execLoopTestCurrent) := ⟨_, id, fun u => by simp, fun _ => rfl, fun _ => rfl⟩
theorem execEnterZeroTrim_framed : Framed (execEnterZeroTrim) := ⟨_, id, fun u => by simp, fun _ => rfl, fun _ => rfl⟩
theorem execEnterSpanTrim_framed : Framed (execEnterSpanTrim) := ⟨_, id, fun u => by simp, fun _ => rfl, fun _ => rfl⟩
theorem execStoreTrim_framed : Framed (execStoreTrim) := ⟨_, id, fun u => by simp, fun _ => rfl, fun _ => rfl⟩
theorem execTrimCancel_framed : Framed (execTrimCancel) := ⟨_, id, fun u => by simp, fun _ => rfl, fun _ => rfl⟩
theorem execLockTimeout_framed : Framed (execLockTimeout) := ⟨_, id, fun u => by simp, fun _ => rfl, fun _ => rfl⟩
theorem execUnlock_framed (p : Path) : Framed (execUnlock p) := ⟨_, id, fun u => by simp, fun _ => rfl, fun _ => rfl⟩
theorem execRebase_framed (p : Path) : Framed (execRebase p) := ⟨_, id, fun u => by simp, fun _ => rfl, fun _ => rfl⟩
theorem execLinkUp_framed (hiAdv hiReq master : Bool) (sqi mse : Nat) : Framed (execLinkUp hiAdv hiReq master sqi mse) := ⟨_, id, fun u => by simp, fun _ => rfl, fun _ => rfl⟩
theorem execLinkDown_framed (ns : Nat) : Framed (execLinkDown ns) := ⟨_, id, fun u => by simp, fun _ => rfl, fun _ => rfl⟩
theorem execSqiLow_framed : Framed (execSqiLow) := ⟨_, id, fun u => by simp, fun _ => rfl, fun _ => rfl⟩
theorem execMacFrameRx_framed (f : MacFrame) : Framed (execMacFrameRx f) := ⟨_, id, fun u => by simp, fun _ => rfl, fun _ => rfl⟩
theorem execFrameTxStart_framed (ns : Nat) : Framed (execFrameTxStart ns) := ⟨_, id, fun u => by simp, fun _ => rfl, fun _ => rfl⟩
theorem execGooseRetransmit_framed : Framed (execGooseRetransmit) := ⟨_, id, fun u => by simp, fun _ => rfl, fun _ => rfl⟩
theorem execPtpSync_framed : Framed (execPtpSync) := ⟨_, id, fun u => by simp, fun _ => rfl, fun _ => rfl⟩
theorem execPtpFollowUp_framed : Framed (execPtpFollowUp) := ⟨_, id, fun u => by simp, fun _ => rfl, fun _ => rfl⟩
theorem execPtpAnnounce_framed : Framed (execPtpAnnounce) := ⟨_, id, fun u => by simp, fun _ => rfl, fun _ => rfl⟩
theorem execPdelayReqRx_framed : Framed (execPdelayReqRx) := ⟨_, id, fun u => by simp, fun _ => rfl, fun _ => rfl⟩
theorem execPdelayReqTx_framed : Framed (execPdelayReqTx) := ⟨_, id, fun u => by simp, fun _ => rfl, fun _ => rfl⟩
theorem execPdelayResp_framed : Framed (execPdelayResp) := ⟨_, id, fun u => by simp, fun _ => rfl, fun _ => rfl⟩
theorem execAnnounceTimeout_framed : Framed (execAnnounceTimeout) := ⟨_, id, fun u => by simp, fun _ => rfl, fun _ => rfl⟩
theorem execSyncLossTimeout_framed : Framed (execSyncLossTimeout) := ⟨_, id, fun u => by simp, fun _ => rfl, fun _ => rfl⟩
theorem execPtpTodsetWrite_framed (p : Path) (w : Word) : Framed (execPtpTodsetWrite p w) := ⟨_, id, fun u => by simp, fun _ => rfl, fun _ => rfl⟩
theorem execTodRead_framed (p : Path) (ns : Nat) : Framed (execTodRead p ns) := ⟨_, id, fun u => by simp, fun _ => rfl, fun _ => rfl⟩
theorem execDetectionWindowEnd_framed (qual cross ms : Nat) : Framed (execDetectionWindowEnd qual cross ms) := ⟨_, id, fun u => by simp, fun _ => rfl, fun _ => rfl⟩
theorem execLoopEngage_framed (ms : Nat) : Framed (execLoopEngage ms) := ⟨_, id, fun u => by simp, fun _ => rfl, fun _ => rfl⟩
theorem execLiftoffDetect_framed : Framed (execLiftoffDetect) := ⟨_, id, fun u => by simp, fun _ => rfl, fun _ => rfl⟩
theorem execLiftoffClear_framed : Framed (execLiftoffClear) := ⟨_, id, fun u => by simp, fun _ => rfl, fun _ => rfl⟩
theorem execLoopOverdraw_framed : Framed (execLoopOverdraw) := ⟨_, id, fun u => by simp, fun _ => rfl, fun _ => rfl⟩
theorem execGenChangeDeferred_framed : Framed (execGenChangeDeferred) := ⟨_, id, fun u => by simp, fun _ => rfl, fun _ => rfl⟩
theorem execLoopclrAssert_framed (lowNs : Nat) : Framed (execLoopclrAssert lowNs) := ⟨_, _, fun u => by simp, fun u => by simp, fun _ => rfl⟩
theorem execLoopclrDeassert_framed (highNs : Nat) : Framed (execLoopclrDeassert highNs) := ⟨_, _, fun u => by simp, fun u => by simp, fun _ => rfl⟩
theorem execSpanDone_framed : Framed (execSpanDone) := ⟨_, id, fun u => by simp, fun _ => rfl, fun _ => rfl⟩
theorem execTestEnd_framed : Framed (execTestEnd) := ⟨_, id, fun u => by simp, fun _ => rfl, fun _ => rfl⟩
theorem execTrimLimit_framed : Framed (execTrimLimit) := ⟨_, id, fun u => by simp, fun _ => rfl, fun _ => rfl⟩
theorem execReadbackSet_framed : Framed (execReadbackSet) := ⟨_, id, fun u => by simp, fun _ => rfl, fun _ => rfl⟩
theorem execReadbackClear_framed : Framed (execReadbackClear) := ⟨_, id, fun u => by simp, fun _ => rfl, fun _ => rfl⟩
theorem execPassDone_framed (n : Nat) : Framed (execPassDone n) := ⟨_, id, fun u => by simp, fun _ => rfl, fun _ => rfl⟩
theorem execAdacOverload_framed (n : Nat) : Framed (execAdacOverload n) := ⟨_, id, fun u => by simp, fun _ => rfl, fun _ => rfl⟩
theorem execClearWord_framed (p : Path) : Framed (execClearWord p) := ⟨_, id, fun u => by simp, fun _ => rfl, fun _ => rfl⟩
theorem execModelWrite_framed (p : Path) (slot : Nat) : Framed (execModelWrite p slot) := ⟨_, id, fun u => by simp, fun _ => rfl, fun _ => rfl⟩
theorem execModelCheck_framed (p : Path) (slot : Nat) : Framed (execModelCheck p slot) := ⟨_, id, fun u => by simp, fun _ => rfl, fun _ => rfl⟩
theorem execPatchWrite_framed (p : Path) : Framed (execPatchWrite p) := ⟨_, id, fun u => by simp, fun _ => rfl, fun _ => rfl⟩
theorem execPatchCheck_framed (p : Path) : Framed (execPatchCheck p) := ⟨_, id, fun u => by simp, fun _ => rfl, fun _ => rfl⟩
theorem execSaveConfig_framed (p : Path) : Framed (execSaveConfig p) := ⟨_, id, fun u => by simp, fun _ => rfl, fun _ => rfl⟩
theorem execRetireArch_framed (p : Path) : Framed (execRetireArch p) := ⟨_, id, fun u => by simp, fun _ => rfl, fun _ => rfl⟩
theorem execNvmChunkStart_framed : Framed (execNvmChunkStart) := ⟨_, id, fun u => by simp, fun _ => rfl, fun _ => rfl⟩
theorem execNvmChunkComplete_framed : Framed (execNvmChunkComplete) := ⟨_, id, fun u => by simp, fun _ => rfl, fun _ => rfl⟩
theorem execConfigLoad_framed : Framed (execConfigLoad) := ⟨_, id, fun u => by simp, fun _ => rfl, fun _ => rfl⟩
theorem execAonSecond_framed : Framed (execAonSecond) := ⟨_, id, fun u => by simp, fun _ => rfl, fun _ => rfl⟩
theorem execAlmCommitDue_framed : Framed (execAlmCommitDue) := ⟨_, id, fun u => by simp, fun _ => rfl, fun _ => rfl⟩
theorem execAlmCommit_framed (p : Path) : Framed (execAlmCommit p) := ⟨_, id, fun u => by simp, fun _ => rfl, fun _ => rfl⟩
theorem execAlmSnap_framed (p : Path) : Framed (execAlmSnap p) := ⟨_, id, fun u => by simp, fun _ => rfl, fun _ => rfl⟩
theorem execAlmReset_framed (p : Path) (mask : Nat) : Framed (execAlmReset p mask) := ⟨_, id, fun u => by simp, fun _ => rfl, fun _ => rfl⟩
theorem execAlmWinRead_framed (p : Path) : Framed (execAlmWinRead p) := ⟨_, id, fun u => by simp, fun _ => rfl, fun _ => rfl⟩
theorem execCmdDone_framed (patch : Option (Nat × Nat)) : Framed (execCmdDone patch) := ⟨_, id, fun u => by simp, fun _ => rfl, fun _ => rfl⟩
theorem execGovernorSample_framed (at_ load chg vres vpre : Nat) : Framed (execGovernorSample at_ load chg vres vpre) := ⟨_, id, fun u => by simp, fun _ => rfl, fun _ => rfl⟩
theorem execBankZeroFillDone_framed (n : Nat) : Framed (execBankZeroFillDone n) := ⟨_, id, fun u => by simp, fun _ => rfl, fun _ => rfl⟩
theorem execBudgetRiseHoldExpiry_framed : Framed (execBudgetRiseHoldExpiry) := ⟨_, id, fun u => by simp, fun _ => rfl, fun _ => rfl⟩
theorem execAvsLimit_framed : Framed (execAvsLimit) := ⟨_, id, fun u => by simp, fun _ => rfl, fun _ => rfl⟩
theorem execGovBelowFloor_framed : Framed (execGovBelowFloor) := ⟨_, id, fun u => by simp, fun _ => rfl, fun _ => rfl⟩
theorem execResFault_framed : Framed (execResFault) := ⟨_, id, fun u => by simp, fun _ => rfl, fun _ => rfl⟩
theorem execLevelDone_framed : Framed (execLevelDone) := ⟨_, id, fun u => by simp, fun _ => rfl, fun _ => rfl⟩
theorem execRegisterWrite_framed (p : Path) (addr data : Word) : Framed (execRegisterWrite p addr data) := ⟨_, id, fun u => by simp, fun _ => rfl, fun _ => rfl⟩
theorem execRcRead_framed (p : Path) (addr : Word) (ns : Nat) : Framed (execRcRead p addr ns) := ⟨_, id, fun u => by simp, fun _ => rfl, fun _ => rfl⟩
theorem execMemoryWrite_framed (p : Path) (addr data : Word) : Framed (execMemoryWrite p addr data) := ⟨_, id, fun u => by simp, fun _ => rfl, fun _ => rfl⟩
theorem execCommitRequest_framed (p : Path) (page : Nat) : Framed (execCommitRequest p page) := ⟨_, id, fun u => by simp, fun _ => rfl, fun _ => rfl⟩
theorem execSoftResetRequest_framed (p : Path) (page : Nat) (en : Bool) : Framed (execSoftResetRequest p page en) := ⟨_, id, fun u => by simp, fun _ => rfl, fun _ => rfl⟩
theorem execWriteLock_framed (p : Path) (page : Nat) (en : Bool) : Framed (execWriteLock p page en) := ⟨_, id, fun u => by simp, fun _ => rfl, fun _ => rfl⟩
theorem execEventClear_framed (p : Path) (page : Nat) (w : EventBits) : Framed (execEventClear p page w) := ⟨_, id, fun u => by simp, fun _ => rfl, fun _ => rfl⟩
theorem execFaultInjectionStart_framed (p : Path) (page point count : Nat) : Framed (execFaultInjectionStart p page point count) := ⟨_, id, fun u => by simp, fun _ => rfl, fun _ => rfl⟩
theorem execLeaseTake_framed (p : Path) (page secs : Nat) : Framed (execLeaseTake p page secs) := ⟨_, id, fun u => by simp, fun _ => rfl, fun _ => rfl⟩
theorem execLeaseRelease_framed (p : Path) (page : Nat) : Framed (execLeaseRelease p page) := ⟨_, id, fun u => by simp, fun _ => rfl, fun _ => rfl⟩
theorem execLeaseExpiry_framed (group : Nat) : Framed (execLeaseExpiry group) := ⟨_, id, fun u => by simp, fun _ => rfl, fun _ => rfl⟩
theorem execRstCmdReset_framed (p : Path) : Framed (execRstCmdReset p) := ⟨_, id, fun u => by simp, fun _ => rfl, fun _ => rfl⟩
theorem execRomBootComplete_framed (us : Nat) (linkPass romBad : Bool) : Framed (execRomBootComplete us linkPass romBad) := ⟨_, id, fun u => by simp, fun _ => rfl, fun _ => rfl⟩
theorem execSleepRequest_framed (p : Path) (target : Nat) : Framed (execSleepRequest p target) := ⟨_, id, fun u => by simp, fun _ => rfl, fun _ => rfl⟩
theorem execSleepCancel_framed (p : Path) : Framed (execSleepCancel p) := ⟨_, id, fun u => by simp, fun _ => rfl, fun _ => rfl⟩
theorem execSleepStateReached_framed : Framed (execSleepStateReached) := ⟨_, id, fun u => by simp, fun _ => rfl, fun _ => rfl⟩
theorem execSleepRetry_framed : Framed (execSleepRetry) := ⟨_, id, fun u => by simp, fun _ => rfl, fun _ => rfl⟩
theorem execWake_framed (src : Nat) (falling : Bool) : Framed (execWake src falling) := ⟨_, id, fun u => by simp, fun _ => rfl, fun _ => rfl⟩
theorem execAlarm_framed : Framed (execAlarm) := ⟨_, id, fun u => by simp, fun _ => rfl, fun _ => rfl⟩
theorem execWakeExitComplete_framed (early : Bool) : Framed (execWakeExitComplete early) := ⟨_, id, fun u => by simp, fun _ => rfl, fun _ => rfl⟩
theorem execNop_framed (idx at_ : Nat) : Framed (execNop idx at_) := ⟨_, id, fun u => by simp, fun _ => rfl, fun _ => rfl⟩
theorem execLaneCollect_framed (idx at_ ms : Nat) : Framed (execLaneCollect idx at_ ms) := ⟨_, id, fun u => by simp, fun _ => rfl, fun _ => rfl⟩
theorem execFastCollect_framed (idx at_ : Nat) : Framed (execFastCollect idx at_) := ⟨_, id, fun u => by simp, fun _ => rfl, fun _ => rfl⟩
theorem execLoopUpdate_framed (idx at_ : Nat) : Framed (execLoopUpdate idx at_) := ⟨_, id, fun u => by simp, fun _ => rfl, fun _ => rfl⟩
theorem execFskService_framed (idx at_ : Nat) : Framed (execFskService idx at_) := ⟨_, id, fun u => by simp, fun _ => rfl, fun _ => rfl⟩
theorem execPubService_framed (idx at_ : Nat) : Framed (execPubService idx at_) := ⟨_, id, fun u => by simp, fun _ => rfl, fun _ => rfl⟩
theorem execRecService_framed (idx at_ : Nat) : Framed (execRecService idx at_) := ⟨_, id, fun u => by simp, fun _ => rfl, fun _ => rfl⟩
theorem execArrLayer_framed (idx at_ : Nat) : Framed (execArrLayer idx at_) := ⟨_, id, fun u => by simp, fun _ => rfl, fun _ => rfl⟩
theorem execLearnStep_framed (idx at_ : Nat) : Framed (execLearnStep idx at_) := ⟨_, id, fun u => by simp, fun _ => rfl, fun _ => rfl⟩
theorem execDmaJob_framed (idx at_ : Nat) : Framed (execDmaJob idx at_) := ⟨_, id, fun u => by simp, fun _ => rfl, fun _ => rfl⟩
theorem execLinkJob_framed (idx at_ : Nat) : Framed (execLinkJob idx at_) := ⟨_, id, fun u => by simp, fun _ => rfl, fun _ => rfl⟩
theorem execBistSlice_framed (idx at_ : Nat) (bad raced : Bool) : Framed (execBistSlice idx at_ bad raced) := ⟨_, id, fun u => by simp, fun _ => rfl, fun _ => rfl⟩
theorem execScrubStep_framed (idx at_ : Nat) (bad raced : Bool) : Framed (execScrubStep idx at_ bad raced) := ⟨_, id, fun u => by simp, fun _ => rfl, fun _ => rfl⟩
theorem execCalStep_framed (idx at_ : Nat) (bad raced : Bool) : Framed (execCalStep idx at_ bad raced) := ⟨_, id, fun u => by simp, fun _ => rfl, fun _ => rfl⟩
theorem execHostSignal_framed (idx at_ : Nat) : Framed (execHostSignal idx at_) := ⟨_, id, fun u => by simp, fun _ => rfl, fun _ => rfl⟩
theorem execSpiRead_framed (f : SpiFrame) (ns : Nat) : Framed (execSpiRead f ns) := ⟨_, id, fun u => by simp, fun _ => rfl, fun _ => rfl⟩
theorem execSpiWrite_framed (f : SpiFrame) (ns : Nat) : Framed (execSpiWrite f ns) := ⟨_, id, fun u => by simp, fun _ => rfl, fun _ => rfl⟩
theorem execSpiStatus_framed (f : SpiFrame) : Framed (execSpiStatus f) := ⟨_, id, fun u => by simp, fun _ => rfl, fun _ => rfl⟩
theorem execSpiFrameReject_framed (f : SpiFrame) : Framed (execSpiFrameReject f) := ⟨_, id, fun u => by simp, fun _ => rfl, fun _ => rfl⟩
theorem execAccKeydataWrite_framed (p : Path) (w : Word) : Framed (execAccKeydataWrite p w) := ⟨_, id, fun u => by simp, fun _ => rfl, fun _ => rfl⟩
theorem execProgK_framed (p : Path) (slot role : Nat) : Framed (execProgK p slot role) := ⟨_, id, fun u => by simp, fun _ => rfl, fun _ => rfl⟩
theorem execProgMk_framed (p : Path) (slot : Nat) : Framed (execProgMk p slot) := ⟨_, id, fun u => by simp, fun _ => rfl, fun _ => rfl⟩
theorem execRevokeK_framed (p : Path) (slot : Nat) : Framed (execRevokeK p slot) := ⟨_, id, fun u => by simp, fun _ => rfl, fun _ => rfl⟩
theorem execRevokeMk_framed (p : Path) (slot : Nat) : Framed (execRevokeMk p slot) := ⟨_, id, fun u => by simp, fun _ => rfl, fun _ => rfl⟩
theorem execClear_framed (p : Path) : Framed (execClear p) := ⟨_, id, fun u => by simp, fun _ => rfl, fun _ => rfl⟩
theorem execRecTrig_framed (p : Path) : Framed (execRecTrig p) := ⟨_, id, fun u => by simp, fun _ => rfl, fun _ => rfl⟩
theorem execGpioEdge_framed (n : Nat) (falling : Bool) : Framed (execGpioEdge n falling) := ⟨_, id, fun u => by simp, fun _ => rfl, fun _ => rfl⟩
theorem execRecArchStall_framed : Framed (execRecArchStall) := ⟨_, id, fun u => by simp, fun _ => rfl, fun _ => rfl⟩
theorem execRecAckWrite_framed (p : Path) (w : Word) : Framed (execRecAckWrite p w) := ⟨_, id, fun u => by simp, fun _ => rfl, fun _ => rfl⟩
theorem execRecFindWrite_framed (p : Path) (w : Word) : Framed (execRecFindWrite p w) := ⟨_, id, fun u => by simp, fun _ => rfl, fun _ => rfl⟩
theorem execRecFindDone_framed : Framed (execRecFindDone) := ⟨_, id, fun u => by simp, fun _ => rfl, fun _ => rfl⟩
theorem execIndexReady_framed : Framed (execIndexReady) := ⟨_, id, fun u => by simp, fun _ => rfl, fun _ => rfl⟩
theorem execPpsInEdge_framed (e : PpsEdge) (ns mppm : Int) : Framed (execPpsInEdge e ns mppm) := ⟨_, id, fun u => by simp, fun _ => rfl, fun _ => rfl⟩
theorem execPpsInLoss_framed : Framed (execPpsInLoss) := ⟨_, id, fun u => by simp, fun _ => rfl, fun _ => rfl⟩
theorem execXtalStop_framed : Framed (execXtalStop) := ⟨_, _, fun u => by simp, fun u => by simp, fun _ => rfl⟩
theorem execXtalStartupTimeout_framed : Framed (execXtalStartupTimeout) := ⟨_, id, fun u => by simp, fun _ => rfl, fun _ => rfl⟩
theorem execXtalStable_framed : Framed (execXtalStable) := ⟨_, _, fun u => by simp, fun u => by simp, fun _ => rfl⟩
theorem execHoldoverLimitExpiry_framed : Framed (execHoldoverLimitExpiry) := ⟨_, id, fun u => by simp, fun _ => rfl, fun _ => rfl⟩
theorem execPpsOutEnd_framed : Framed (execPpsOutEnd) := ⟨_, id, fun u => by simp, fun _ => rfl, fun _ => rfl⟩
theorem execTickNumRead_framed (p : Path) : Framed (execTickNumRead p) := ⟨_, id, fun u => by simp, fun _ => rfl, fun _ => rfl⟩
theorem execPlanWinAddrWrite_framed (p : Path) (w : Word) : Framed (execPlanWinAddrWrite p w) := ⟨_, id, fun u => by simp, fun _ => rfl, fun _ => rfl⟩
theorem execPlanWinDataAccess_framed (p : Path) (w : Option Word) : Framed (execPlanWinDataAccess p w) := ⟨_, id, fun u => by simp, fun _ => rfl, fun _ => rfl⟩
theorem execMSlotDeadline_framed : Framed (execMSlotDeadline) := ⟨_, id, fun u => by simp, fun _ => rfl, fun _ => rfl⟩
theorem execOSlotBudgetExpiry_framed : Framed (execOSlotBudgetExpiry) := ⟨_, id, fun u => by simp, fun _ => rfl, fun _ => rfl⟩
theorem execBSlotBudgetEnd_framed : Framed (execBSlotBudgetEnd) := ⟨_, id, fun u => by simp, fun _ => rfl, fun _ => rfl⟩
theorem execSlotComplete_framed (at_ : Nat) : Framed (execSlotComplete at_) := ⟨_, id, fun u => by simp, fun _ => rfl, fun _ => rfl⟩
theorem execYrapRead_framed (ns : Nat) : Framed (execYrapRead ns) := ⟨_, id, fun u => by simp, fun _ => rfl, fun _ => rfl⟩
theorem execYrapWrite_framed : Framed (execYrapWrite) := ⟨_, id, fun u => by simp, fun _ => rfl, fun _ => rfl⟩
theorem execYrapCommit_framed : Framed (execYrapCommit) := ⟨_, id, fun u => by simp, fun _ => rfl, fun _ => rfl⟩
theorem execYrapSession_framed : Framed (execYrapSession) := ⟨_, id, fun u => by simp, fun _ => rfl, fun _ => rfl⟩
theorem execYrapNotify_framed : Framed (execYrapNotify) := ⟨_, id, fun u => by simp, fun _ => rfl, fun _ => rfl⟩
theorem execDadFail_framed (which : Nat) : Framed (execDadFail which) := ⟨_, id, fun u => by simp, fun _ => rfl, fun _ => rfl⟩
theorem execNeighbourSolicitation_framed : Framed (execNeighbourSolicitation) := ⟨_, id, fun u => by simp, fun _ => rfl, fun _ => rfl⟩
theorem execArpRequest_framed : Framed (execArpRequest) := ⟨_, id, fun u => by simp, fun _ => rfl, fun _ => rfl⟩
theorem execEchoRequest_framed : Framed (execEchoRequest) := ⟨_, id, fun u => by simp, fun _ => rfl, fun _ => rfl⟩
theorem execHello_framed (fsk : Bool) : Framed (execHello fsk) := ⟨_, id, fun u => by simp, fun _ => rfl, fun _ => rfl⟩
theorem execProve_framed (fsk : Bool) : Framed (execProve fsk) := ⟨_, id, fun u => by simp, fun _ => rfl, fun _ => rfl⟩
theorem execClose_framed (fsk : Bool) : Framed (execClose fsk) := ⟨_, id, fun u => by simp, fun _ => rfl, fun _ => rfl⟩
theorem execChallengeTimeout_framed (sid : Nat) : Framed (execChallengeTimeout sid) := ⟨_, id, fun u => by simp, fun _ => rfl, fun _ => rfl⟩
theorem execSessionIdleTimeout_framed (sid : Nat) : Framed (execSessionIdleTimeout sid) := ⟨_, id, fun u => by simp, fun _ => rfl, fun _ => rfl⟩
theorem execAuthHold_framed (kind : Nat) : Framed (execAuthHold kind) := ⟨_, id, fun u => by simp, fun _ => rfl, fun _ => rfl⟩
theorem execAuthHoldExpiry_framed (kind : Nat) : Framed (execAuthHoldExpiry kind) := ⟨_, id, fun u => by simp, fun _ => rfl, fun _ => rfl⟩

end Sys2Proof.Machine
end

