-- ==== Sys2Proof/Laws/Settled.lean ====
section
/-! SUPPORT. What the end of a command leaves, and a reset: nothing half done. -/

namespace Sys2Proof.Machine

/-! ### What the closing operations change -/

@[simp] theorem showBist_flt (s : State) : (showBist s).flt = s.flt := by simp [showBist]
@[simp] theorem showBist_plan (s : State) : (showBist s).plan = s.plan := by simp [showBist]
@[simp] theorem showBist_dma (s : State) : (showBist s).dma = s.dma := by simp [showBist]
@[simp] theorem showBist_bist (s : State) : (showBist s).bist = s.bist := by simp [showBist]

@[simp] theorem closeWork_flt (c : Bool) (s : State) : (closeWork c s).flt = s.flt := by unfold closeWork; split <;> simp
@[simp] theorem closeWork_plan (c : Bool) (s : State) : (closeWork c s).plan = s.plan := by unfold closeWork; split <;> simp
@[simp] theorem closeWork_dma (c : Bool) (s : State) : (closeWork c s).dma = s.dma := by unfold closeWork; split <;> simp

/-- Work that is closed is over. -/
@[simp] theorem closeWork_task (c : Bool) (s : State) : (closeWork c s).bist.task = none := by
  unfold closeWork
  split
  · simp
  · rfl
  · assumption

@[simp] theorem settleWork_flt (s : State) : (settleWork s).flt = s.flt := by unfold settleWork; split <;> simp
@[simp] theorem settleWork_plan (s : State) : (settleWork s).plan = s.plan := by unfold settleWork; split <;> simp
@[simp] theorem settleWork_dma (s : State) : (settleWork s).dma = s.dma := by unfold settleWork; split <;> simp

/-- Background work that is left has its slot. -/
theorem settleWork_task (s : State) (h : (settleWork s).bist.task ≠ none) : s.plan.run ≠ none := by
  unfold settleWork at h
  split at h
  · simp at h
  · rename_i hc
    intro hn
    cases ht : s.bist.task <;> simp_all

@[simp] theorem showDma_flt (s : State) : (showDma s).flt = s.flt := by simp [showDma]
@[simp] theorem showDma_plan (s : State) : (showDma s).plan = s.plan := by simp [showDma]
@[simp] theorem showDma_bist (s : State) : (showDma s).bist = s.bist := by simp [showDma]
@[simp] theorem showDma_dma (s : State) : (showDma s).dma = s.dma := by simp [showDma]

@[simp] theorem runCut_flt (s : State) : (runCut s).flt = s.flt := by unfold runCut; split <;> simp [runOver]
@[simp] theorem runCut_plan (s : State) : (runCut s).plan = s.plan := by unfold runCut; split <;> simp [runOver]
@[simp] theorem runCut_bist (s : State) : (runCut s).bist = s.bist := by unfold runCut; split <;> simp [runOver]

@[simp] theorem dmaAbort_flt (s : State) : (dmaAbort s).flt = s.flt := by unfold dmaAbort; split <;> simp
@[simp] theorem dmaAbort_plan (s : State) : (dmaAbort s).plan = s.plan := by unfold dmaAbort; split <;> simp
@[simp] theorem dmaAbort_bist (s : State) : (dmaAbort s).bist = s.bist := by unfold dmaAbort; split <;> simp

/-- Transfers that are given up are over. -/
@[simp] theorem dmaAbort_jobs (s : State) : (dmaAbort s).dma.jobs = [] := by
  unfold dmaAbort
  split
  · simpa using ‹s.dma.jobs.isEmpty = true›
  · simp

/-! ### Nothing half done -/

theorem dmaSlot_of_plan {s t : State} (h : t.plan = s.plan) : dmaSlot t = dmaSlot s := by simp [dmaSlot, h]

/-- What is closed has its slot or is over; the fault hub's reactions stand as they were. -/
theorem closeOpen_settled {s : State} (he : s.flt.entered = false) (hc : s.flt.chipReset = none) : Settled (closeOpen s) := by
  unfold closeOpen
  dsimp only
  split
  · refine ⟨by simp [he], by simp [hc], ?_, by simp⟩
    intro h
    simpa using settleWork_task s (by simpa using h)
  · rename_i hn
    refine ⟨by simp [he], by simp [hc], ?_, ?_⟩
    · intro h
      simpa using settleWork_task s h
    · intro _ h
      exact hn (by simp [h])

@[simp] theorem closeOpen_flt (s : State) : (closeOpen s).flt = s.flt := by unfold closeOpen; dsimp only; split <;> simp

/-- The entry to the fault state does not leave another one waiting. -/
theorem faultEntry_entered (s : State) : (faultEntry s).flt.entered = false := by
  unfold faultEntry
  split
  · simpa using ‹(!s.flt.entered) = true›
  · rfl

/-- A reset leaves nothing half done. -/
theorem assertReset_settled (cause info : Nat) (s : State) : Settled (assertReset cause info s) := by
  unfold assertReset clearedState
  refine ⟨?_, ?_, fun h => absurd rfl h, fun h => absurd rfl h⟩ <;> (simp only [apply_ite Flt.entered, apply_ite Flt.chipReset, ite_self])

/-- The end of a command leaves nothing half done. -/
theorem settle_settled (b s : State) : Settled (settle b s) := by
  unfold settle chipReset
  split
  · exact assertReset_settled _ _ _
  · rename_i h
    exact closeOpen_settled (faultEntry_entered _) (by simpa using h)

/-- The effect of a command leaves nothing half done. -/
theorem act_settled {f : State → State} {s t : State} (hs : Settled s) (h : act f s = .next t) : Settled t := by
  unfold act at h
  injection h with h
  subst h
  split
  · exact hs
  · exact settle_settled _ _

end Sys2Proof.Machine
end

