-- ==== Sys2Proof/WellFormed.lean ====
section
/-! DEFINITION. Well-formed commands: an operand that names one of a fixed number of things names one that exists, and an operand that the outside gives fits its
field. The meanings are total and do not ask for it. -/

namespace Sys2Proof

/-- A SID of a session, or 0 for none (R334). -/
def sidOk (n : Nat) : Bool := decide (n < 255)

/-- A path names a SID that can exist. -/
def Path.wf (p : Path) : Bool := match p with
  | .yrap sid => sidOk sid
  | .fsk _ sid => sidOk sid
  | _ => true

/-- A register page (R740). -/
def pageOk (p : Nat) : Bool := (Machine.pageEnt p).isSome

/-- A time in a tick: the longest is 1/2400 s (R69), and the guard may add to it (R70). -/
def atOk (us : Nat) : Bool := decide (us < 500)
def nsOk (ns : Nat) : Bool := decide (ns < 500000)

/-- A slot of a template (R88) and its start. -/
def slotOk (idx at_ : Nat) : Bool := decide (idx < 32) && atOk at_

/-- An array cell (R450). -/
def cellOk (c : Nat) : Bool := decide (c < 17)

/-- A path that authenticates: YRAP, the FSK primary, the FSK secondary master. -/
def authKindOk (k : Nat) : Bool := decide (4 ≤ k) && decide (k ≤ 6)

/-- A frame of the FSK line: its kind, and an address, a command and data that fit (R208–R210). -/
def FskFrame.wf (f : FskFrame) : Bool :=
  decide (f.kind ≤ 2) && decide (f.addr < if f.long then 2 ^ 38 else 64) && decide (f.cmd < 256) && decide (f.data.length < 256)

/-- An SPI frame's bytes are those of its SCK cycles. -/
def SpiFrame.wf (f : SpiFrame) : Bool := f.sdi.length == f.cycles / 8

/-- A received Ethernet frame: 48-bit addresses, a VLAN identifier of 12 bits, an EtherType of 16. -/
def MacFrame.wf (f : MacFrame) : Bool :=
  decide (f.dst < 2 ^ 48) && decide (f.src < 2 ^ 48) && f.vlan.all (fun v => decide (v < 4096)) && decide (f.etherType < 2 ^ 16)

/-- What a boundary takes from outside. -/
def TickIn.wf (t : TickIn) : Bool :=
  t.margin.all (fun m => decide (m < 3)) && decide (t.temps.length ≤ 17) && decide (t.sqi < 8) && decide (t.gpio < 16)

/-- A well-formed command. -/
def Instr.wf (i : Instr) : Bool := match i with
  | .registerWrite p _ _ => p.wf
  | .rcRead p _ ns => p.wf && nsOk ns
  | .memoryWrite p _ _ => p.wf
  | .commitRequest p page => p.wf && pageOk page
  | .softResetRequest p page _ => p.wf && pageOk page
  | .writeLock p page _ => p.wf && pageOk page
  | .eventClear p page _ => p.wf && pageOk page
  | .faultInjectionStart p page point count => p.wf && pageOk page && decide (1 ≤ point) && decide (point < 256) && decide (1 ≤ count) && decide (count < 256)
  | .leaseTake p page secs => p.wf && pageOk page && decide (1 ≤ secs) && decide (secs ≤ 3600)
  | .leaseRelease p page => p.wf && pageOk page
  | .leaseExpiry group => decide (group < 8)
  | .tickBoundary t => t.wf
  | .ppsInEdge _ _ _ => true
  | .ppsInLoss => true
  | .xtalStop => true
  | .xtalStartupTimeout => true
  | .xtalStable => true
  | .holdoverLimitExpiry => true
  | .ppsOutEnd => true
  | .tickNumRead p => p.wf
  | .planWinAddrWrite p _ => p.wf
  | .planWinDataAccess p _ => p.wf
  | .mSlotDeadline => true
  | .oSlotBudgetExpiry => true
  | .bSlotBudgetEnd => true
  | .slotComplete at_ => atOk at_
  | .nop idx at_ => slotOk idx at_
  | .laneCollect idx at_ _ => slotOk idx at_
  | .fastCollect idx at_ => slotOk idx at_
  | .loopUpdate idx at_ => slotOk idx at_
  | .fskService idx at_ => slotOk idx at_
  | .pubService idx at_ => slotOk idx at_
  | .recService idx at_ => slotOk idx at_
  | .arrLayer idx at_ => slotOk idx at_
  | .learnStep idx at_ => slotOk idx at_
  | .dmaJob idx at_ => slotOk idx at_
  | .linkJob idx at_ => slotOk idx at_
  | .bistSlice idx at_ _ _ => slotOk idx at_
  | .scrubStep idx at_ _ _ => slotOk idx at_
  | .calStep idx at_ _ _ => slotOk idx at_
  | .hostSignal idx at_ => slotOk idx at_
  | .governorSample at_ _ _ _ _ => atOk at_
  | .bankZeroFillDone n => decide (n < 16)
  | .budgetRiseHoldExpiry => true
  | .avsLimit => true
  | .govBelowFloor => true
  | .resFault => true
  | .detectionWindowEnd qual cross _ => decide (qual ≤ cross)
  | .loopEngage _ => true
  | .liftoffDetect => true
  | .liftoffClear => true
  | .loopOverdraw => true
  | .genChangeDeferred => true
  | .loopclrAssert _ => true
  | .loopclrDeassert _ => true
  | .spanDone => true
  | .testEnd => true
  | .trimLimit => true
  | .readbackSet => true
  | .readbackClear => true
  | .passDone n => decide (n < 2)
  | .adacOverload n => decide (n < 2)
  | .carrierDetect _ _ _ => true
  | .carrierEnd _ _ => true
  | .fskFrameRx f => f.wf
  | .frameGapTimeout => true
  | .noiseTimeout => true
  | .readUniqueIdentifier => true
  | .readUniqueIdByTag => true
  | .readUniqueIdByLongTag => true
  | .readPv => true
  | .readLoopCurrentPercent => true
  | .readDynamicVariables => true
  | .writePollingAddress => true
  | .readLoopConfiguration => true
  | .readVariableClassifications => true
  | .readDeviceVarsWithStatus => true
  | .readDeviceVariables => true
  | .readMessage => true
  | .readTagDescriptorDate => true
  | .readDeviceInformation => true
  | .readFinalAssemblyNumber => true
  | .readLongTag => true
  | .writeMessage => true
  | .writeTagDescriptorDate => true
  | .writeFinalAssemblyNumber => true
  | .writeLongTag => true
  | .resetConfigChangedFlag => true
  | .enterExitFixedCurrent => true
  | .trimLoopCurrentZero => true
  | .trimLoopCurrentGain => true
  | .readAdditionalDeviceStatus => true
  | .writeNumResponsePreambles => true
  | .writeBurstPeriod => true
  | .writeBurstTrigger => true
  | .readBurstConfiguration => true
  | .writeBurstDeviceVariables => true
  | .writeBurstCommand => true
  | .burstControl => true
  | .yrd ns => nsOk ns
  | .ywr => true
  | .ycommit => true
  | .ysess => true
  | .fskTxStart => true
  | .replyLate => true
  | .fskTxEnd => true
  | .fskTxStuck => true
  | .burstDue => true
  | .burstTxStart => true
  | .burstDefer => true
  | .linkUp _ _ _ sqi _ => decide (sqi < 8)
  | .linkDown ns => nsOk ns
  | .sqiLow => true
  | .macFrameRx f => f.wf
  | .frameTxStart ns => nsOk ns
  | .gooseRetransmit => true
  | .ptpSync => true
  | .ptpFollowUp => true
  | .ptpAnnounce => true
  | .pdelayReqRx => true
  | .pdelayReqTx => true
  | .pdelayResp => true
  | .announceTimeout => true
  | .syncLossTimeout => true
  | .ptpTodsetWrite p _ => p.wf
  | .todRead p ns => p.wf && nsOk ns
  | .yrapRead ns => nsOk ns
  | .yrapWrite => true
  | .yrapCommit => true
  | .yrapSession => true
  | .yrapNotify => true
  | .dadFail which => decide (which < 2)
  | .neighbourSolicitation => true
  | .arpRequest => true
  | .echoRequest => true
  | .hello _ => true
  | .prove _ => true
  | .close _ => true
  | .challengeTimeout sid => sidOk sid
  | .sessionIdleTimeout sid => sidOk sid
  | .authHold kind => authKindOk kind
  | .authHoldExpiry kind => authKindOk kind
  | .spiRead f ns => f.wf && nsOk ns
  | .spiWrite f ns => f.wf && nsOk ns
  | .spiStatus f => f.wf
  | .spiFrameReject f => f.wf
  | .accKeydataWrite p _ => p.wf
  | .progK p slot role => p.wf && decide (slot < 8) && decide (1 ≤ role) && decide (role ≤ 3)
  | .progMk p slot => p.wf && decide (slot < 8)
  | .revokeK p slot => p.wf && decide (slot < 8)
  | .revokeMk p slot => p.wf && decide (slot < 8)
  | .clear p => p.wf
  | .excitationPulseStart n => decide (n < 6)
  | .conversionStart cal n => decide (n < if cal then 7 else 6)
  | .conversionEnd cal n _ _ => decide (n < if cal then 7 else 6)
  | .excCompliance k => decide (k < 4)
  | .urgentRequest p lane setup => p.wf && decide (lane < 6) && decide (setup < 48)
  | .calDue => true
  | .recTrig p => p.wf
  | .gpioEdge n _ => decide (n < 4)
  | .recArchStall => true
  | .recAckWrite p _ => p.wf
  | .recFindWrite p _ => p.wf
  | .recFindDone => true
  | .indexReady => true
  | .arrGo p => p.wf
  | .partitionEnd x _ _ => cellOk x.c
  | .cellWatchdog x => cellOk x.c
  | .requalify p c => p.wf && cellOk c
  | .requalDone => true
  | .start p _ => p.wf
  | .stop p => p.wf
  | .sealHead p => p.wf
  | .discard p => p.wf
  | .headWriteComplete => true
  | .sleepRequest p target => p.wf && decide (1 ≤ target) && decide (target ≤ 3)
  | .sleepCancel p => p.wf
  | .sleepStateReached => true
  | .sleepRetry => true
  | .wake src _ => decide (src < 3)
  | .alarm => true
  | .wakeExitComplete _ => true
  | .escLeak id => Machine.faultIds.contains id
  | .faultExit => true
  | .clearLockout p => p.wf
  | .clearEsc p => p.wf
  | .fltTrapAck p _ => p.wf
  | .fltEscSelect p _ => p.wf
  | .dieHot => true
  | .idleGapWork at_ till _ _ => atOk at_ && atOk till && decide (at_ ≤ till)
  | .promoted => true
  | .bgStarved => true
  | .coreTestDone _ => true
  | .clearWord p => p.wf
  | .modelWrite p slot => p.wf && decide (slot < 2)
  | .modelCheck p slot => p.wf && decide (slot < 2)
  | .patchWrite p => p.wf
  | .patchCheck p => p.wf
  | .saveConfig p => p.wf
  | .retireArch p => p.wf
  | .nvmChunkStart => true
  | .nvmChunkComplete => true
  | .configLoad => true
  | .aonSecond => true
  | .almCommitDue => true
  | .almCommit p => p.wf
  | .almSnap p => p.wf
  | .almReset p mask => p.wf && decide (mask < 16)
  | .almWinRead p => p.wf
  | .keyScan _ _ _ => true
  | .stuck n => decide (n < 3)
  | .rebaseNeg n => decide (n < 3)
  | .localLockOn => true
  | .localLockOff => true
  | .loopTestCurrent => true
  | .enterZeroTrim => true
  | .enterSpanTrim => true
  | .storeTrim => true
  | .trimCancel => true
  | .lockTimeout => true
  | .unlock p => p.wf
  | .rebase p => p.wf
  | .por _ => true
  | .borMain rail => rail == 1 || rail == 2
  | .borLp => true
  | .rstN _ => true
  | .wdog => true
  | .rstCmdReset p => p.wf
  | .porRelease gens _ _ => decide (gens < 4)
  | .romBootComplete _ _ _ => true
  | .levelDone => true
  | .cmdDone _ => true

end Sys2Proof
end

