-- ==== Sys2Proof/Tests/Slice0.lean ====
section
/-! SUPPORT. Tests: small values that the spec states, ill-formed commands that the checks refuse, and for every statement with hypotheses states and operands
that meet them, clause by clause. -/

set_option maxRecDepth 100000

open Sys2Proof Sys2Proof.Machine

namespace Sys2Proof.Tests

/-- A chip in RUN whose boot is over, no generation latched; the SPI path holds MAINTAIN. -/
def up : State :=
  (({ State.reset with boot.held := false, boot.causes := [], boot.loadDone := true }.putB F.SYS_BSTAT_ROM_OK true).putB F.SYS_BSTAT_CEIL false).put F.SPI_CFG_SPI_ROLE 3

/-- The state `s` with the reactions of source `id` at IRQ. -/
def logOnly (id : Nat) (s : State) : State := s.wrE (7 + id / 64) (0x100 + 4 * (id % 64)) 0x03E8FF11

/-- Slot 0 of a tick, of kind `k` with action `a`, from 0 to 100 µs. -/
def slot (k a : Nat) : Slot := { idx := 0, kind := k, start := 0, budget := 100, action := a, arg := 0, work := 0 }

/-- A request of the primary master. -/
def req (c : Nat) (data : List Byte) : FskReq := { secondary := false, long := false, addr := 0, cmd := c, data := data }

/-- A running slot of kind `k` with action `a`. -/
def running (k a : Nat) : Running := { slot := slot k a, began := 0, late := false }

/-- `up` in G2 where the universal write commands of FSK are allowed. -/
def writer : State := (up.put F.SYS_GEN_GEN 2).putB F.FSK_CFG_UNIV_WR_EN true

/-- A received frame with EtherType `t` and payload `p`, to all stations. -/
def frame (t : Nat) (p : Payload) : MacFrame := { fcsOk := true, len := 64, dst := 0xFFFFFFFFFFFF, src := 1, vlan := none, etherType := t, payload := p }

/-- An open MAINTAIN session with SID 1 over path `kind`, with the key [1]. -/
def sess (kind port : Nat) (peer : List Byte) : Session :=
  { sid := 1, kind, pending := false, role := 3, key := 0, idle := 100, nonceH := [], nonceD := [], sk := [1], lastCtr := 0, peer, port }

/-- An YRAP request, without and with its MAC. -/
def dgram (op sid ctr : Nat) (body : List Byte) : List Byte :=
  [0x59, 0x52, 0x01, BitVec.ofNat 8 op, BitVec.ofNat 8 sid, 0] ++ natBytes 2 body.length ++ [0, 0, 0, 0] ++ natBytes 4 ctr ++ body
def signed1 (op ctr : Nat) (body : List Byte) : List Byte := dgram op 1 ctr body ++ hmac16 [1] (0x00 :: dgram op 1 ctr body)

/-- The datagram `d` waits at the head of the receive queue; the link is up in G3. -/
def asked (d : List Byte) : State := { ((up.put F.SYS_GEN_GEN 3).putB F.TPHY_STAT_LINK true) with link.genQ := [frame 0x0800 (.udp false 7 0 9 48110 d)] }

/-- A parsed datagram. -/
def parsed (d : List Byte) : YrapReq :=
  (yrapParse none false 7 9 d).getD { vlan := none, v6 := false, ip := 0, port := 0, op := 0, sid := 0, status := 0, len := 0, tag := 0, ctr := 0, front := [], body := [], mac := [], fits := false }

/-- An SPI frame with its CRC. -/
def spiF (cmd : Byte) (a w : Word) : SpiFrame :=
  { early := false, cycles := 80, sdi := cmd :: bytesOfWord a ++ bytesOfWord w ++ [crc8 (cmd :: bytesOfWord a ++ bytesOfWord w)] }

/-- Where no page is locked or leased, the orders of an FSK master pass. -/
theorem orders_pass {r : FskReq} {ps : List Nat} {n : Nat} {s : State}
    (h : pathOn (.fskU r.secondary) s = true ∧ s.locks = [] ∧ s.page.leases = [] ∧ s.flag F.KEYS_STAT_LOCK = false ∧ s.armedAt 0x18 2 = false
      ∧ s.page.journal.length + n ≤ 256)
    (hp : ∀ p, p ∈ ps → domServes s (pageDom p) = true ∧ p ≠ 0x18 ∧ p ≠ 0x48) : OrdersPass r ps n s := by
  obtain ⟨h1, h2, h3, h4, h5, h6⟩ := h
  refine ⟨fun p hm off w ho => ⟨h1, (hp p hm).1, ?_, rfl, ?_, ?_, ?_⟩, h5, h6⟩
  · simp [lockCovers, h2]
  · simp [kindOk, ho, (hp p hm).2.1, (hp p hm).2.2]
  · simp [h4]
  · simp [ownedBy, leaseOf, h3, aget]

/-- Where no page is locked, leased or held by the window keys, the orders of the window keys on LDAC pass. -/
theorem keys_pass {s : State} (h : pathOn .keys s = true ∧ domServes s (pageDom 0x11) = true ∧ s.locks = [] ∧ s.page.leases = []) :
    ∀ off w, off ≠ 0x024 → MayWrite .keys 0x11 off w s := by
  obtain ⟨h1, h2, h3, h4⟩ := h
  intro off w ho
  refine ⟨h1, h2, ?_, rfl, ?_, ?_, ?_⟩
  · simp [lockCovers, h3]
  · simp [kindOk, ho]
  · simp [remote]
  · simp [ownedBy, leaseOf, h4, aget]

/-- A model image in slot 0 with one DENSE layer of two partitions: one input, two outputs, and a dense input tile of zeros in the arena. -/
def model : State :=
  (((up.setBytes 0x10050040 (wordsBytes [0x10020000, 0, 0, 0x400, 0x00010002, 0x00000001, 0x60, 0, 0])).setWord 0x20000000 0x01000000).setWord 0x20000004 0x01000000
    ).put F.ARR_ARENA_ADDR 0x20000000

/-- A run of that image whose first partition cell 16 has computed, in an A slot. -/
def modelRun : State := { model with arr.run := some { snap := 0, started := true }, arr.work := [(16, 0)], plan.run := some (running 1 7) }

/-- A configuration record with one section of no pairs, in copy A. -/
def record : State :=
  let ws : List Word := [0x43460101, 7, 48, 0, 0x01000001, 0, 0x40000C40, 0, 0, 0, 0]
  up.setBytes 0x10040000 (wordsBytes ws ++ bytesOfWord (crc32c (wordsBytes ws)))

/-- `modelRun` near the end of its tick, the instant at which its first partition ends; the layer it runs, and what it reads. -/
def modelLate : State := { modelRun with arr.now := 499999 }.bump (F.CELL_CNT_CORR 16) 0
def modelLayer : LayerD := runLayer modelLate { snap := 0, started := true }
theorem modelRun_mayEnd : mayEnd 16 0 499999 { snap := 0, started := true } modelRun = true := by decide
theorem modelLate_crcs : crcsOk modelLayer (modelRun.get F.ARR_ARENA_ADDR) modelLate = (modelLate, true) := by decide
theorem modelLate_in : readTiles (modelRun.get F.ARR_ARENA_ADDR + modelLayer.inO) (tilesOf (modelLayer.len * modelLayer.nIn) - 0) 0 modelLate
    = (modelLate, .ok (List.replicate 256 0) [0]) := by decide
theorem modelLate_in2 : readTiles (modelRun.get F.ARR_ARENA_ADDR + modelLayer.in2) (tilesOf (modelLayer.len * in2Chans modelLayer)) 0 modelLate = (modelLate, .ok [] []) := by decide
theorem modelLate_weights : readWeights modelLate modelLayer (imageBase modelRun.arr.slot + modelLayer.woff)
    (imageBase modelRun.arr.slot + imageLen modelLate modelRun.arr.slot - 68) (shareOf modelLayer 0).1 (shareOf modelLayer 0).2 = .ok [[(0, 0)]] := by decide

/-! ### Ill-formed commands are refused: one term for each check -/

/-- A SID beyond 254 in a path, and a page that is not there. -/
theorem test_wf_path : (Instr.registerWrite (.yrap 255) 0 0).wf = false ∧ (Instr.registerWrite (.fsk true 255) 0 0).wf = false := by decide
theorem test_wf_page : (Instr.commitRequest .spi 0x2B).wf = false ∧ (Instr.eventClear .spi 128 ⟨0, 0⟩).wf = false := by decide

/-- An access or a slot that begins after every tick has ended, and a slot that no template has. -/
theorem test_wf_time : (Instr.rcRead .spi 0 500000).wf = false ∧ (Instr.slotComplete 500).wf = false ∧ (Instr.nop 32 0).wf = false
    ∧ (Instr.idleGapWork 50 40 false false).wf = false := by decide

/-- An injection without a count or a point, and a lease without or beyond its time (R62, R303). -/
theorem test_wf_inject : (Instr.faultInjectionStart .spi 1 0 1).wf = false ∧ (Instr.faultInjectionStart .spi 1 1 0).wf = false
    ∧ (Instr.leaseTake .spi 1 0).wf = false ∧ (Instr.leaseTake .spi 1 3601).wf = false ∧ (Instr.leaseExpiry 8).wf = false := by decide

/-- A boundary with a margin, an SQI or pins that no width holds. -/
theorem test_wf_tick : (Instr.tickBoundary { margin := some 3 }).wf = false ∧ (Instr.tickBoundary { sqi := 8 }).wf = false
    ∧ (Instr.tickBoundary { gpio := 16 }).wf = false := by decide

/-- A bank, a DAC, a lane, a source, a pin, a cell or a key that is not there. -/
theorem test_wf_number : (Instr.bankZeroFillDone 16).wf = false ∧ (Instr.passDone 2).wf = false ∧ (Instr.adacOverload 2).wf = false
    ∧ (Instr.excitationPulseStart 6).wf = false ∧ (Instr.conversionStart true 7).wf = false ∧ (Instr.excCompliance 4).wf = false
    ∧ (Instr.gpioEdge 4 false).wf = false ∧ (Instr.partitionEnd ⟨17, 0⟩ 0 false).wf = false ∧ (Instr.stuck 3).wf = false := by decide

/-- An address beyond its frame's form, a wrong frame length, an address of more than 48 bits. -/
theorem test_wf_frames : (Instr.fskFrameRx { pre := 5, charsOk := true, kind := 0, long := false, secondary := false, burst := false, addr := 64, cmd := 0, data := [], check := 0, gap := 0, learned := [], tracked := [] }).wf = false
    ∧ (Instr.spiStatus { early := false, cycles := 80, sdi := [] }).wf = false ∧ (Instr.macFrameRx { frame 0x88F7 .other with dst := 2 ^ 48 }).wf = false := by decide

/-- A SID, a path code, a key slot, a sleep state, a wake source, a fault source, a model slot, a mask, a rail or straps that do not exist. -/
theorem test_wf_codes : (Instr.challengeTimeout 255).wf = false ∧ (Instr.authHold 3).wf = false ∧ (Instr.progK .spi 8 1).wf = false ∧ (Instr.progK .spi 0 0).wf = false
    ∧ (Instr.sleepRequest .spi 4).wf = false ∧ (Instr.wake 3 false).wf = false ∧ (Instr.escLeak 0x0F).wf = false ∧ (Instr.modelWrite .spi 2).wf = false
    ∧ (Instr.almReset .spi 16).wf = false ∧ (Instr.borMain 0).wf = false ∧ (Instr.porRelease 4 false false).wf = false ∧ (Instr.dadFail 2).wf = false
    ∧ (Instr.urgentRequest .spi 0 48).wf = false ∧ (Instr.linkUp false false false 8 0).wf = false ∧ (Instr.detectionWindowEnd 33 32 0).wf = false := by decide

/-! ### Values that the spec states -/

/-- The state after command `c` has the property `p`. -/
def after (c : Instr) (s : State) (p : State → Bool) : Bool := match exec c s with
  | .next t => p t
  | _ => false

/-- R320: the CRC-8 of "123456789" is 0xDF, and the STATUS frame of eight zero bytes has CRC 0x4B. -/
theorem test_crc8 : crc8 [0x31, 0x32, 0x33, 0x34, 0x35, 0x36, 0x37, 0x38, 0x39] = 0xDF ∧ crc8 [0x96, 0, 0, 0, 0, 0, 0, 0, 0] = 0x4B := by decide

/-- Chapter 02, worked case: LANE1 is at 0x40008C00; a write of its PG_CTRL sets the shadow, not the effective word. -/
theorem test_register_write : after (.registerWrite .spi 0x40008C08 1) up (fun t => t.rd 0x23 0x008 == 1 && t.rdE 0x23 0x008 == 0) = true := by decide

/-- The same, step 5: a write to 0x40008C0A is misaligned, and 0x4000AC00 is unmapped. -/
theorem test_register_refused : after (.registerWrite .spi 0x40008C0A 1) up (fun t => t == up) = true ∧ after (.registerWrite .spi 0x4000AC00 1) up (fun t => t == up) = true := by decide

/-- The same, step 3: the commit of page 0x23 is pending. -/
theorem test_commit_request : after (.commitRequest .spi 0x23) up (fun t => t.page.commitPend == [0x23]) = true := by decide

/-- Chapter 05 and 06, worked cases: code 0x8000 in STD is 12 000.1 µA, 0x6C4E in EXT 11 999.9 µA, 0x4000 in STD 8000.1 µA. -/
theorem test_loop_codes : toNative (codeCur 0 0x8000) = 120001 ∧ toNative (codeCur 1 0x6C4E) = 119999 ∧ toNative (codeCur 0 0x4000) = 80001 := by decide

/-- Chapter 09, worked case: the words of setup 0. -/
theorem test_setup_words : let s := ((up.wrE 0x20 0x100 0x348A2232).wrE 0x20 0x104 0x8480F050).wrE 0x20 0x108 0x1F4
    setupOf s 0 = { ainp := 3, ainn := 4, gain := 4, lead := 2, bo := 2, excPin := 2, excSrc := 0, excEn := true, settle := 50, en := true, biasPin := 4, biasKind := 2,
                    openTh := 0xF0, excN := 5, tol := 500 } := by decide

/-- Chapter 11, worked case: 8188 rows in a ring of 128 KiB with four words to a row, and an entry of 91 280 bytes. -/
theorem test_ring_rows : ringRows (((((up.put F.REC_ROW_F0_EN 1).put F.REC_ROW_F1_EN 1).put F.REC_ROW_NX 2).put F.REC_AREA_KIB 128).get) = 8188 ∧ entryLen 5700 4 = 91280 := by decide

/-- Chapter 13, worked case: the increment (288 × 37 + 2048) >> 12 is 3, and 1503 and −2210 quantise to 6 and −9. -/
theorem test_learning_values : roundShift (288 * 37) 12 = 3 ∧ quant 8 1503 = 6 ∧ quant 8 (-2210) = -9 := by decide

/-- Chapter 13, worked case: row 2, columns 16–23, keeps columns 16 and 17. -/
theorem test_pruning : (keepOf 2 [(16, 1503), (17, -2210), (18, 640), (19, 1503), (20, -90), (21, 0), (22, 1200), (23, -15)]).map (·.1) = [16, 17] := by decide

/-- Chapter 10, worked case: F = 95 mV after 40 mV takes COARSE, with the word 0x05113403. -/
theorem test_fast_slope : (fastSample 0 332028 332084 ((({ up with fast0.fPrev := some 139810 }.putB (F.FAST_CFG_SLOPE_EN 0) true).put (F.FAST_STAT_CONV 0) 1).put (F.FAST_GAIN_G 0) 0x40000000)).2 = 0x05113403 := by decide

/-- Chapter 16, worked case: the eighth DEADLINE at N = 8 is escalated to ERRPIN; STATE becomes FAULT, ENTRY_SRC 0x00, a trap with TSEQ 1, C = 0. -/
theorem test_escalation : after .mSlotDeadline { up.wrE 7 0x100 0x03E80851 with flt.esc := [(0, 7)], plan.run := some (running 1 1) }
    (fun t => t.get F.FLT_STAT_STATE == 1 && t.get F.FLT_STAT_ENTRY_SRC == 0 && t.flt.traps == [(0, 1)] && (aget t.flt.esc 0).getD 0 == 0) = true := by decide

/-- Chapter 15, worked case, step 1: the request for FROST passes every check and waits for the boundary. -/
theorem test_sleep_request : after (.registerWrite .spi 0x40000858 0x80000003) (up.wrE 0x02 0x044 0x0D) (fun t => t.slp.req == some 3) = true := by decide

/-- Chapter 18, worked case, step 1: 0x05000000 to NVM_CMD is SAVE_CONFIG. -/
theorem test_save_config : after (.registerWrite .spi 0x40003044 0x05000000) up (fun t => t.nvm.savePend) = true := by decide

/-- Chapter 19, worked case: 61.3 °C falls in bin 22. -/
theorem test_temperature_bin : stepBin 613 (-450) 50 40 = 22 := by decide

/-- Chapter 20, worked case: K0 is pressed on the second scan at 200 counts or more. -/
theorem test_key_press : after (.keyScan 4350 4000 4000)
    { ((((up.put F.KEYS_STAT_BASE_OK 7).put F.KEYS_CFG_DEB 2).put (F.KEYS_SIG_BASELINE 0) 4000).put (F.KEYS_SIG_BASELINE 1) 4000 |>.put (F.KEYS_SIG_BASELINE 2) 4000).put F.KEYS_TH_TOUCH_TH 200 with keys.k0.on := 1 }
    (fun t => t.get F.KEYS_STAT_TOUCH == 1 && t.get F.KEYS_CNT_PRESSES == 1 && t.keys.buf == [(0, 0)]) = true := by decide

/-- Chapter 12, worked case: layer 3's tile of 77 non-zero values takes the sparse path at SPARSE_TH = 179, the tile of 200 does not. -/
theorem test_sparse_path : sparseCount { runLayer model { snap := 0 } with path := 0 } [77, 140, 200, 51] (up.put F.ARR_CFG_SPARSE_TH 179) = 3 := by decide

/-- Chapter 21, worked case, step 1: after a POR with straps 00, RST_CAUSE reads 0x01010000 and RST_HIST 0x00000002, and TICK_NUM is 0. -/
theorem test_por_release : after (.porRelease 0 false false) State.reset (fun t => t.rd 0x01 0x040 == 0x01010000 && t.tick.num == 0) = true := by decide

/-- R3: the front command of the queue is the one that runs. -/
theorem test_step : (match step { up with pending := [.registerWrite .spi 0x40008C08 1, .promoted] } with
    | .next t => t.rd 0x23 0x008 == 1 && t.pending == [.promoted]
    | _ => false) = true := by decide

/-- Chapter 08, worked case, step 4: B's write of a page that A has leased is OWNED and changes nothing but the count of refusals. -/
theorem test_owned : after (.registerWrite (.yrap 0x22) 0x40008C08 1)
    { up with page.leases := [(5, ⟨0x21, 600⟩)], acc.sessions := [(0, { sess 4 0 [] with sid := 0x22 })] } (fun t => t.rd 0x23 0x008 == 0) = true := by decide

/-! ### The hypotheses of the statements can be met -/

/-- The hypotheses of `Obligations.StepRunsFrontCommand` can be met. -/
theorem witness_step_runs_front_command :
    (∃ s : State, ∃ c : Instr, ∃ rest : List Instr, s.pending = c :: rest)
    ∧ (∃ s : State, s.pending = []) := by
  refine ⟨⟨{ up with pending := [.nop 0 0] }, .nop 0 0, [], by decide⟩,
    ⟨up, by decide⟩⟩

/-- The hypotheses of `Obligations.EveryStepSettles` can be met. -/
theorem witness_every_step_settles :
    (∃ s : State, ∃ t : State, Settled s ∧ step s = .next t) := by
  exact ⟨up, up, by decide, rfl⟩

/-- The hypotheses of `Obligations.TickNumAndResetMoveByTheirRules` can be met. -/
theorem witness_tick_num_and_reset_move_by_their_rules :
    (∃ s : State, ∃ t : State, ∃ c : Instr, ∃ rest : List Instr, s.pending = c :: rest ∧ step s = .next t ∧ s.boot.held = true ∧ t.boot.held = false)
    ∧ (∃ s : State, ∃ t : State, ∃ c : Instr, ∃ rest : List Instr, s.pending = c :: rest ∧ step s = .next t) := by
  refine ⟨⟨{ State.reset with pending := [.porRelease 0 false false] }, _, _, _, rfl, rfl, by decide, by decide⟩,
    ⟨{ up with pending := [.promoted] }, _, _, _, rfl, rfl⟩⟩

/-- The hypotheses of `Obligations.FieldWriteReadsBack` can be met. -/
theorem witness_field_write_reads_back :
    (∃ f : Fld, ∃ i, f.lo ≤ f.hi ∧ f.hi < 32 ∧ (i < f.lo ∨ f.hi < i))
    ∧ (∃ f : Fld, ∃ p, ∃ off, f.lo ≤ f.hi ∧ f.hi < 32 ∧ regKey p off ≠ regKey f.page f.off)
    ∧ (∃ f : Fld, f.lo ≤ f.hi ∧ f.hi < 32)
    ∧ (∃ b : Nat, ∃ i, b < 32 ∧ i ≠ b)
    ∧ (∃ p : Nat, ∃ b : Nat, ∃ q, ∃ off, b < 32 ∧ regKey q off ≠ regKey p 0x010)
    ∧ (∃ b : Nat, b < 32) := by
  refine ⟨⟨F.FLT_STAT_STATE, 29, by decide⟩,
    ⟨F.FLT_STAT_STATE, 7, 0x48, by decide⟩,
    ⟨F.FLT_STAT_STATE, by decide⟩,
    ⟨31, 30, by decide⟩,
    ⟨1, 31, 0, 0x010, by decide⟩,
    ⟨31, by decide⟩⟩

/-- The hypotheses of `Obligations.RegisterWrites` can be met. -/
theorem witness_register_writes :
    (∃ s : State, ∃ path : Path, ∃ p : Nat, ∃ off : Nat, ∃ i : Nat, ∃ e : RegEnt, ∃ w : Word, Ready s ∧ p < 0x80 ∧ 0x40 ≤ off ∧ off < 0x400 ∧ off % 4 = 0 ∧ (pageEnt p).isSome = true ∧ regEnt p off = some (e, i) ∧ writable e ≠ 0 ∧ commandWrite path p off w s = none ∧ MayWrite path p off w s ∧ e.rws = 0 ∧ (¬((p = 0x07 ∨ p = 0x08) ∧ (off = 0x074 ∨ off = 0x078))))
    ∧ (∃ s : State, ∃ path : Path, ∃ p : Nat, ∃ off : Nat, ∃ i : Nat, ∃ e : RegEnt, ∃ w : Word, Ready s ∧ p < 0x80 ∧ 0x40 ≤ off ∧ off < 0x400 ∧ off % 4 = 0 ∧ (pageEnt p).isSome = true ∧ regEnt p off = some (e, i) ∧ writable e ≠ 0 ∧ commandWrite path p off w s = none ∧ MayWrite path p off w s ∧ e.rws ≠ 0 ∧ JournalFree s) := by
  refine ⟨⟨up, .spi, 0x07, 0x060, 0, ((regEnt 0x07 0x060).get (by decide)).1, 5, by decide⟩,
    ⟨up, .spi, 0x07, 0x040, 0, ((regEnt 0x07 0x040).get (by decide)).1, 5, by decide⟩⟩

/-- The hypotheses of `Obligations.RefusedWritesChangeNothing` can be met. -/
theorem witness_refused_writes_change_nothing :
    (∃ s : State, ∃ addr : Word, Ready s ∧ addr.toNat % 4 ≠ 0)
    ∧ (∃ s : State, ∃ addr : Word, Ready s ∧ regionOf addr.toNat = .unmapped)
    ∧ (∃ s : State, ∃ addr : Word, Ready s ∧ powerCheck s addr.toNat (regionOf addr.toNat) ≠ 0)
    ∧ (∃ s : State, ∃ addr : Word, ∃ p, ∃ off, Ready s ∧ regionOf addr.toNat = .alias_ p off)
    ∧ (∃ s : State, ∃ path : Path, ∃ addr : Word, ∃ w : Word, ∃ p, ∃ off, ∃ e, Ready s ∧ regionOf addr.toNat = .reg p off e ∧ (writable e = 0 ∨ lockCovers s p off = true ∨ roleOk s path (if needsMaintain p off w then 3 else groupRole (pageGroup p)) = false ∨ kindOk s path p off w = false ∨ (s.flag F.KEYS_STAT_LOCK && remote path) = true))
    ∧ (∃ s : State, ∃ path : Path, ∃ addr : Word, ∃ w : Word, ∃ p, ∃ off, ∃ e, Ready s ∧ regionOf addr.toNat = .reg p off e ∧ addr.toNat % 4 = 0 ∧ powerCheck s addr.toNat (.reg p off e) = 0 ∧ pathOn path s = true ∧ writable e ≠ 0 ∧ lockCovers s p off = false ∧ roleOk s path (if needsMaintain p off w then 3 else groupRole (pageGroup p)) = true ∧ kindOk s path p off w = true ∧ (s.flag F.KEYS_STAT_LOCK && remote path) = false ∧ ownedBy s path p off w = true) := by
  refine ⟨⟨up, 1, by decide⟩,
    ⟨up, 0, by decide⟩,
    ⟨up.put F.PWR_STAT_STATE 3, regAddr 0x22 0x040, by decide⟩,
    ⟨up, 0x40101C44, 0x07, 0x044, by decide⟩,
    ⟨up, .spi, regAddr 0x07 0x044, 0, 0x07, 0x044, ((regEnt 0x07 0x044).get (by decide)).1, by decide⟩,
    ⟨{ up with page.leases := [(pageGroup 0x07, ⟨1, 5⟩)] }, .spi, regAddr 0x07 0x024, 1, 0x07, 0x024, ((regEnt 0x07 0x024).get (by decide)).1, by decide⟩⟩

/-- The hypotheses of `Obligations.RegisterReads` can be met. -/
theorem witness_register_reads :
    (∃ s : State, ∃ path : Path, ∃ p : Nat, ∃ off : Nat, ∃ i : Nat, ∃ e : RegEnt, Ready s ∧ p < 0x80 ∧ off < 0x400 ∧ off % 4 = 0 ∧ (pageEnt p).isSome = true ∧ regEnt p off = some (e, i) ∧ MayRead path p s ∧ (¬((p = 0x05 ∧ off = 0x054) ∨ (p = 0x06 ∧ off = 0x048) ∨ (p = 0x0B ∧ off = 0x060) ∨ (p = 0x16 ∧ off = 0x068))))
    ∧ (∃ s : State, ∃ addr : Word, ∃ p : Nat, ∃ off : Nat, Ready s ∧ regionOf addr.toNat = .alias_ p off) := by
  refine ⟨⟨up, .spi, 0x07, 0x044, 0, ((regEnt 0x07 0x044).get (by decide)).1, by decide⟩,
    ⟨up, 0x40101C44, 0x07, 0x044, by decide⟩⟩

/-- The hypotheses of `Obligations.MemoryWrites` can be met. -/
theorem witness_memory_writes :
    (∃ s : State, ∃ path : Path, ∃ addr : Word, Ready s ∧ s.memWf = true ∧ addr.toNat % 4 = 0 ∧ pathOn path s = true ∧ (regionOf addr.toNat = .sram ∧ bankOff s (bankOf addr.toNat) = false ∧ sramFlip s = (none, 0) ∨ regionOf addr.toNat = .ret) ∧ aget s.ecc (eccKey addr.toNat) = none ∧ memChecks path addr.toNat s = 0) := by
  exact ⟨up, .spi, 0x203FFFFC, by decide⟩

/-- The hypotheses of `Obligations.CellWindowWrites` can be met. -/
theorem witness_cell_window_writes :
    (∃ s : State, ∃ path : Path, ∃ addr : Word, Ready s ∧ s.memWf = true ∧ addr.toNat % 4 = 0 ∧ pathOn path s = true ∧ regionOf addr.toNat = .cell ∧ powerCheck s addr.toNat .cell = 0 ∧ aget s.ecc (cellEccKey (s.get F.MEM_WIN_CELL) (addr.toNat - 0x30000000)) = none ∧ memChecks path addr.toNat s = 0) := by
  exact ⟨{ up with gov.live := [0] }, .spi, 0x30007FFC, by decide⟩

/-- The hypotheses of `Obligations.PageCommands` can be met. -/
theorem witness_page_commands :
    (∃ s : State, ∃ path : Path, ∃ page : Nat, Ready s ∧ page < 0x80 ∧ (pageEnt page).isSome = true ∧ MayWrite path page 0x020 1 s)
    ∧ (∃ s : State, ∃ path : Path, ∃ page : Nat, ∃ en, Ready s ∧ page < 0x80 ∧ (pageEnt page).isSome = true ∧ MayWrite path page 0x008 (ctrlWord en 2) s ∧ JournalFree s)
    ∧ (∃ s : State, ∃ path : Path, ∃ page : Nat, ∃ en, Ready s ∧ page < 0x80 ∧ (pageEnt page).isSome = true ∧ MayWrite path page 0x008 (ctrlWord en 4) s ∧ JournalFree s)
    ∧ (∃ s : State, ∃ path : Path, ∃ page : Nat, ∃ bits : Word, ∃ same : Word, Ready s ∧ page < 0x80 ∧ (pageEnt page).isSome = true ∧ MayWrite path page 0x018 (bits &&& ~~~same) s)
    ∧ (∃ s : State, ∃ path : Path, ∃ page : Nat, ∃ point, ∃ count, Ready s ∧ page < 0x80 ∧ (pageEnt page).isSome = true ∧ MayWrite path page 0x01C (injWord point count) s ∧ aget s.page.inj page = none ∧ 1 ≤ point ∧ point ≤ injPoints page ∧ point < 256 ∧ count < 256) := by
  refine ⟨⟨up, .spi, 0, by decide⟩,
    ⟨up, .spi, 0, true, by decide⟩,
    ⟨up, .spi, 0, true, by decide⟩,
    ⟨up, .spi, 0, 1, 0, by decide⟩,
    ⟨up, .spi, 0x02, 2, 255, by decide⟩⟩

/-- The hypotheses of `Obligations.Leases` can be met. -/
theorem witness_leases :
    (∃ s : State, ∃ path : Path, ∃ page : Nat, ∃ secs : Nat, Ready s ∧ page < 0x80 ∧ (pageEnt page).isSome = true ∧ 1 ≤ secs ∧ secs ≤ 3600 ∧ MayWrite path page 0x024 (BitVec.ofNat 32 secs) s)
    ∧ (∃ s : State, ∃ path : Path, ∃ page : Nat, ∃ l : Lease, Ready s ∧ page < 0x80 ∧ (pageEnt page).isSome = true ∧ MayWrite path page 0x024 0 s ∧ aget s.page.leases (pageGroup page) = some l)
    ∧ (∃ s : State, ∃ g : Nat, ∃ holder : Nat, Ready s ∧ aget s.page.leases g = some ⟨holder, 0⟩)
    ∧ (∃ s : State, ∃ g : Nat, ∃ holder : Nat, ∃ left : Nat, Ready s ∧ aget s.page.leases g = some ⟨holder, left⟩ ∧ left ≠ 0) := by
  refine ⟨⟨up, .spi, 0x48, 3600, by decide⟩,
    ⟨{ up with page.leases := [(pageGroup 0x48, ⟨0xFF, 5⟩)] }, .spi, 0x48, ⟨0xFF, 5⟩, by decide⟩,
    ⟨{ up with page.leases := [(0, ⟨1, 0⟩)] }, 0, 1, by decide⟩,
    ⟨{ up with page.leases := [(0, ⟨1, 1⟩)] }, 0, 1, 1, by decide⟩⟩

/-- The hypotheses of `Obligations.BoundaryAdvancesTickNum` can be met. -/
theorem witness_boundary_advances_tick_num :
    (∃ s : State, Ready s ∧ s.boot.resetAt = [])
    ∧ (∃ s : State, Ready s ∧ s.boot.resetAt ≠ []) := by
  refine ⟨⟨up, by decide⟩,
    ⟨{ up with boot.resetAt := [7] }, by decide⟩⟩

/-- The hypotheses of `Obligations.PpsReferences` can be met. -/
theorem witness_pps_references :
    (∃ s : State, ∃ falling : Bool, Ready s ∧ (s.flag F.TICK_CFG_PPS_EN = false ∨ s.flag F.TICK_CFG_PPS_EDGE ≠ falling))
    ∧ (∃ s : State, ∃ falling : Bool, Ready s ∧ s.flag F.TICK_CFG_PPS_EN = true ∧ s.flag F.TICK_CFG_PPS_EDGE = falling ∧ s.tick.ppsFirst = false)
    ∧ (∃ s : State, ∃ falling : Bool, ∃ since : Nat, Ready s ∧ s.flag F.TICK_CFG_PPS_EN = true ∧ s.flag F.TICK_CFG_PPS_EDGE = falling ∧ s.tick.ppsFirst = true ∧ 999900000 ≤ since ∧ since ≤ 1000100000 ∧ s.get F.TICK_STAT_SRC = 1)
    ∧ (∃ s : State, Ready s ∧ s.tick.ppsFirst = true ∧ mayReach s s.tick.ppsAge 43200 = true ∧ s.get F.TICK_STAT_SRC = 1 ∧ s.get F.TICK_STAT_STATE = 2)
    ∧ (∃ s : State, Ready s ∧ s.tick.ppsFirst = true ∧ mayReach s s.tick.ppsAge 43200 = true ∧ s.get F.TICK_STAT_SRC ≠ 1)
    ∧ (∃ s : State, Ready s ∧ (s.tick.ppsFirst = false ∨ mayReach s s.tick.ppsAge 43200 = false)) := by
  refine ⟨⟨up, false, by decide⟩,
    ⟨up.putB F.TICK_CFG_PPS_EN true, false, by decide⟩,
    ⟨{ (up.putB F.TICK_CFG_PPS_EN true).put F.TICK_STAT_SRC 1 with tick.ppsFirst := true }, false, 999900000, by decide⟩,
    ⟨{ (up.put F.TICK_STAT_SRC 1).put F.TICK_STAT_STATE 2 with tick.ppsFirst := true, tick.ppsAge := 43200 }, by decide⟩,
    ⟨{ up with tick.ppsFirst := true, tick.ppsAge := 43200 }, by decide⟩,
    ⟨up, by decide⟩⟩

/-- The hypotheses of `Obligations.CrystalAndHoldover` can be met. -/
theorem witness_crystal_and_holdover :
    (∃ s : State, Ready s ∧ s.tick.xtalOk = true ∧ (loopGen s && s.flag F.TICK_CFG_RC_ALLOW && !s.flag F.TICK_CFG_TIME_REQ) = true)
    ∧ (∃ s : State, Ready s ∧ s.tick.xtalOk = true ∧ (loopGen s && s.flag F.TICK_CFG_RC_ALLOW && !s.flag F.TICK_CFG_TIME_REQ) = false ∧ RecordsOnly 0x01 s)
    ∧ (∃ s : State, Ready s ∧ s.tick.xtalOk = false)
    ∧ (∃ s : State, Ready s ∧ s.tick.xtalTimed = false ∧ mayReach s s.boot.relU 86 = true ∧ s.tick.xtalSeen = false ∧ s.tick.xtalOk = false ∧ (loopGen s && s.flag F.TICK_CFG_RC_ALLOW && !s.flag F.TICK_CFG_TIME_REQ) = true)
    ∧ (∃ s : State, Ready s ∧ s.tick.xtalTimed = false ∧ mayReach s s.boot.relU 86 = true ∧ s.tick.xtalSeen = false ∧ s.tick.xtalOk = false ∧ (loopGen s && s.flag F.TICK_CFG_RC_ALLOW && !s.flag F.TICK_CFG_TIME_REQ) = false ∧ RecordsOnly 0x01 s)
    ∧ (∃ s : State, Ready s ∧ s.tick.xtalTimed = false ∧ mayReach s s.boot.relU 86 = true ∧ (s.tick.xtalSeen || s.tick.xtalOk) = true)
    ∧ (∃ s : State, Ready s ∧ (s.tick.xtalTimed = true ∨ mayReach s s.boot.relU 86 = false))
    ∧ (∃ s : State, Ready s ∧ s.tick.holdRun = true ∧ s.get F.TICK_HOLD_HOLDOVER_LIMIT * 28800 ≤ s.tick.hold ∧ s.flag F.TICK_CFG_TIME_REQ = false)
    ∧ (∃ s : State, Ready s ∧ s.tick.holdRun = true ∧ s.get F.TICK_HOLD_HOLDOVER_LIMIT * 28800 ≤ s.tick.hold ∧ s.flag F.TICK_CFG_TIME_REQ = true ∧ s.flag F.TICK_STAT_SYNCED = true ∧ RecordsOnly 0x03 s)
    ∧ (∃ s : State, Ready s ∧ (s.tick.holdRun = false ∨ s.tick.hold < s.get F.TICK_HOLD_HOLDOVER_LIMIT * 28800))
    ∧ (∃ s : State, Ready s ∧ mayReach s s.tick.sincePps 288 = true)
    ∧ (∃ s : State, Ready s ∧ mayReach s s.tick.sincePps 288 = false)
    ∧ (∃ s : State, Ready s) := by
  refine ⟨⟨{ (up.put F.SYS_GEN_GEN 1).putB F.TICK_CFG_RC_ALLOW true with tick.xtalOk := true }, by decide⟩,
    ⟨{ logOnly 0x01 up with tick.xtalOk := true }, by decide⟩,
    ⟨up, by decide⟩,
    ⟨{ (up.put F.SYS_GEN_GEN 1).putB F.TICK_CFG_RC_ALLOW true with boot.relU := 20000 }, by decide⟩,
    ⟨{ logOnly 0x01 up with boot.relU := 20000 }, by decide⟩,
    ⟨{ up with tick.xtalSeen := true, boot.relU := 20000 }, by decide⟩,
    ⟨up, by decide⟩,
    ⟨{ up with tick.holdRun := true, tick.hold := 100000000000 }, by decide⟩,
    ⟨{ (logOnly 0x03 (up.putB F.TICK_STAT_SYNCED true)).putB F.TICK_CFG_TIME_REQ true with tick.holdRun := true, tick.hold := 100000000000 }, by decide⟩,
    ⟨up, by decide⟩,
    ⟨{ up with tick.sincePps := 28800 }, by decide⟩,
    ⟨{ up with tick.sincePps := 0 }, by decide⟩,
    ⟨up, by decide⟩⟩

/-- The hypotheses of `Obligations.TickNumAndPlanWindow` can be met. -/
theorem witness_tick_num_and_plan_window :
    (∃ s : State, ∃ path : Path, Ready s ∧ MayRead path 0x05 s)
    ∧ (∃ s : State, ∃ path : Path, ∃ w, Ready s ∧ MayWrite path 0x06 0x044 w s)
    ∧ (∃ s : State, ∃ path : Path, ∃ w, Ready s ∧ MayWrite path 0x06 0x048 w s ∧ s.get F.PLAN_WIN_ADDR_WBANK = s.get F.PLAN_CTRL_BANK)
    ∧ (∃ s : State, ∃ path : Path, ∃ w, Ready s ∧ MayWrite path 0x06 0x048 w s ∧ s.get F.PLAN_WIN_ADDR_WBANK ≠ s.get F.PLAN_CTRL_BANK ∧ s.get F.PLAN_WIN_ADDR_INDEX < 0x600 ∧ s.flag F.PLAN_WIN_ADDR_AINC = true ∧ w ≠ 0)
    ∧ (∃ s : State, ∃ path : Path, ∃ w, Ready s ∧ MayWrite path 0x06 0x048 w s ∧ s.get F.PLAN_WIN_ADDR_WBANK ≠ s.get F.PLAN_CTRL_BANK ∧ 0x600 ≤ s.get F.PLAN_WIN_ADDR_INDEX ∧ s.flag F.PLAN_WIN_ADDR_AINC = false)
    ∧ (∃ s : State, ∃ path : Path, Ready s ∧ MayRead path 0x06 s ∧ s.flag F.PLAN_WIN_ADDR_AINC = true)
    ∧ (∃ s : State, ∃ path : Path, Ready s ∧ MayRead path 0x06 s ∧ s.flag F.PLAN_WIN_ADDR_AINC = false) := by
  refine ⟨⟨up, .spi, by decide⟩,
    ⟨up, .spi, 0, by decide⟩,
    ⟨up, .spi, 0, by decide⟩,
    ⟨((up.putB F.PLAN_WIN_ADDR_AINC true).put F.PLAN_WIN_ADDR_WBANK 1).put F.PLAN_WIN_ADDR_INDEX 0x5FF, .spi, 1, by decide⟩,
    ⟨(up.put F.PLAN_WIN_ADDR_WBANK 1).put F.PLAN_WIN_ADDR_INDEX 0x600, .spi, 0, by decide⟩,
    ⟨up.putB F.PLAN_WIN_ADDR_AINC true, .spi, by decide⟩,
    ⟨up, .spi, by decide⟩⟩

/-- The hypotheses of `Obligations.SlotsEnd` can be met. -/
theorem witness_slots_end :
    (∃ s : State, ∃ r : Running, Ready s ∧ s.plan.run = some r ∧ r.slot.kind = 1 ∧ r.dl = false ∧ RecordsOnly 0x00 s)
    ∧ (∃ s : State, ∃ r : Running, Ready s ∧ s.plan.run = some r ∧ (r.slot.kind ≠ 1 ∨ r.dl = true))
    ∧ (∃ s : State, ∃ r : Running, Ready s ∧ s.plan.run = some r ∧ r.slot.kind = 2 ∧ r.slot.action ≠ 7 ∧ r.slot.action ≠ 8 ∧ r.slot.action ≠ 9 ∧ s.bist.task = none)
    ∧ (∃ s : State, ∃ r : Running, Ready s ∧ s.plan.run = some r ∧ r.slot.kind = 3 ∧ r.slot.action ≠ 7 ∧ r.slot.action ≠ 8 ∧ r.slot.action ≠ 9 ∧ s.bist.task = none)
    ∧ (∃ s : State, ∃ r : Running, ∃ at_, Ready s ∧ s.plan.run = some r ∧ r.slot.kind = 1 ∧ r.inj = false ∧ r.began ≤ at_ ∧ (r.dl = true ∨ at_ ≤ r.began + r.slot.budget) ∧ r.slot.action ≠ 7 ∧ r.slot.action ≠ 8 ∧ r.slot.action ≠ 9 ∧ s.bist.task = none ∧ (∀ d, d ∈ s.plan.todo → d.kind = 1)) := by
  refine ⟨⟨{ logOnly 0x00 up with plan.run := some (running 1 0) }, running 1 0, by decide⟩,
    ⟨{ up with plan.run := some (running 2 0) }, running 2 0, by decide⟩,
    ⟨{ up with plan.run := some (running 2 0) }, running 2 0, by decide⟩,
    ⟨{ up with plan.run := some (running 3 0) }, running 3 0, by decide⟩,
    ⟨{ up with plan.run := some (running 1 0) }, running 1 0, 0, by decide⟩⟩

/-- The hypotheses of `Obligations.SlotsOfTheTickBegin` can be met. -/
theorem witness_slots_of_the_tick_begin :
    (∃ s : State, ∃ idx : Nat, ∃ at_ : Nat, ∃ d : Slot, Ready s ∧ SlotStarts 0 idx at_ d s)
    ∧ (∃ s : State, ∃ idx : Nat, ∃ at_ : Nat, ∃ d : Slot, Ready s ∧ SlotStarts 10 idx at_ d s)
    ∧ (∃ s : State, ∃ idx : Nat, ∃ at_ : Nat, ∃ d : Slot, Ready s ∧ SlotStarts 14 idx at_ d s)
    ∧ (∃ s : State, ∃ idx : Nat, ∃ at_ : Nat, ∃ d : Slot, Ready s ∧ SlotStarts 8 idx at_ d s)
    ∧ (∃ s : State, ∃ idx : Nat, ∃ at_ : Nat, ∃ d : Slot, Ready s ∧ SlotStarts 3 idx at_ d s ∧ gen s ≠ 0)
    ∧ (∃ s : State, ∃ idx : Nat, Ready s ∧ (∀ x, x ∈ s.plan.todo → x.idx ≠ idx)) := by
  refine ⟨⟨{ up with plan.todo := [slot 1 0] }, 0, 0, (slot 1 0), by decide⟩,
    ⟨{ up with plan.todo := [slot 1 10] }, 0, 0, (slot 1 10), by decide⟩,
    ⟨{ up with plan.todo := [slot 1 14] }, 0, 0, (slot 1 14), by decide⟩,
    ⟨{ up with plan.todo := [slot 1 8] }, 0, 0, (slot 1 8), by decide⟩,
    ⟨{ up.put F.SYS_GEN_GEN 2 with plan.todo := [slot 1 3] }, 0, 0, (slot 1 3), by decide⟩,
    ⟨up, 0, by decide⟩⟩

/-- The hypotheses of `Obligations.CollectSlots` can be met. -/
theorem witness_collect_slots :
    (∃ s : State, ∃ idx : Nat, ∃ at_ : Nat, ∃ d : Slot, ∃ n, Ready s ∧ s.memWf = true ∧ SlotStarts 1 idx at_ d s ∧ n < 6 ∧ d.arg = 2 ^ n ∧ s.boot.firstSeen = true ∧ inPoweredSram s (s.get F.LANES_COLL_ADDR + 64 * n) 64 = true)
    ∧ (∃ s : State, ∃ idx : Nat, ∃ at_ : Nat, ∃ d : Slot, ∃ w, Ready s ∧ s.memWf = true ∧ SlotStarts 2 idx at_ d s ∧ d.arg = 1 ∧ NoEccErrors s ∧ s.fast0.fifo = [w] ∧ s.get (F.FAST_RPOS_POS 0) < s.get (F.FAST_RLEN_LEN 0) ∧ inPoweredSram s (s.get (F.FAST_RING_ADDR 0) + 4 * s.get (F.FAST_RPOS_POS 0)) 4 = true) := by
  refine ⟨⟨{ up.put F.LANES_COLL_ADDR 0x20000000 with boot.firstSeen := true, plan.todo := [{ slot 1 1 with arg := 32 }] }, 0, 0, { slot 1 1 with arg := 32 }, 5, by decide⟩,
    ⟨{ (up.put (F.FAST_RING_ADDR 0) 0x20000000).put (F.FAST_RLEN_LEN 0) 1 with fast0.fifo := [0], plan.todo := [{ slot 1 2 with arg := 1 }] }, 0, 0, { slot 1 2 with arg := 1 }, 0, by decide⟩⟩

/-- The hypotheses of `Obligations.ServiceSlots` can be met. -/
theorem witness_service_slots :
    (∃ s : State, ∃ idx : Nat, ∃ at_ : Nat, ∃ d : Slot, Ready s ∧ SlotStarts 4 idx at_ d s ∧ fskOn s = true ∧ d.arg = 1 ∧ s.fsk.rx ≠ [] ∧ (∀ r, (s.fsk.lp ++ s.fsk.rx).head? = some r → fskKnown r.cmd = true))
    ∧ (∃ s : State, ∃ idx : Nat, ∃ at_ : Nat, ∃ d : Slot, Ready s ∧ SlotStarts 4 idx at_ d s ∧ fskOn s = true ∧ d.arg = 2)
    ∧ (∃ s : State, ∃ idx : Nat, ∃ at_ : Nat, ∃ d : Slot, Ready s ∧ SlotStarts 4 idx at_ d s ∧ fskOn s = false)
    ∧ (∃ s : State, ∃ idx : Nat, ∃ at_ : Nat, ∃ d : Slot, ∃ k : PubTick, ∃ ks : List PubTick, Ready s ∧ SlotStarts 5 idx at_ d s ∧ s.pub.ticks = k :: ks ∧ streamsOn (cfgOf k.cfg) = [])
    ∧ (∃ s : State, ∃ idx : Nat, ∃ at_ : Nat, ∃ d : Slot, Ready s ∧ SlotStarts 5 idx at_ d s ∧ s.pub.ticks = [])
    ∧ (∃ s : State, ∃ idx : Nat, ∃ at_ : Nat, ∃ d : Slot, ∃ a : Nat, ∃ h : RecHeld, Ready s ∧ SlotStarts 6 idx at_ d s ∧ NoEccErrors s ∧ s.flag F.REC_ROW_ARCH_EN = true ∧ s.flag F.REC_STAT_RETIRED = false ∧ s.stor.job = none ∧ s.flag F.REC_STAT_INDEX_READY = true ∧ handOver s = some (a, h) ∧ s.stor.wpos + entryLen h.rows h.rw ≤ archSize)
    ∧ (∃ s : State, ∃ idx : Nat, ∃ at_ : Nat, ∃ d : Slot, ∃ a, ∃ h : RecHeld, Ready s ∧ SlotStarts 6 idx at_ d s ∧ s.flag F.REC_ROW_ARCH_EN = true ∧ s.flag F.REC_STAT_RETIRED = false ∧ s.stor.job ≠ none ∧ s.flag F.REC_STAT_INDEX_READY = true ∧ handOver s = some (a, h)) := by
  refine ⟨⟨{ up.put F.SYS_GEN_GEN 2 with plan.todo := [{ slot 1 4 with arg := 1 }], fsk.rx := [req 0 []] }, 0, 0, { slot 1 4 with arg := 1 }, by decide⟩,
    ⟨{ up.put F.SYS_GEN_GEN 2 with plan.todo := [{ slot 1 4 with arg := 2 }] }, 0, 0, { slot 1 4 with arg := 2 }, by decide⟩,
    ⟨{ up with plan.todo := [slot 1 4] }, 0, 0, (slot 1 4), by decide⟩,
    ⟨{ up with plan.todo := [slot 1 5], pub.ticks := [⟨0, some 0, []⟩] }, 0, 0, (slot 1 5), ⟨0, some 0, []⟩, [], by decide⟩,
    ⟨{ up with plan.todo := [slot 1 5] }, 0, 0, (slot 1 5), by decide⟩,
    ⟨{ (up.putB F.REC_ROW_ARCH_EN true).putB F.REC_STAT_INDEX_READY true with plan.todo := [slot 1 6], stor.area0.held := some { recno := 1, rows := 1, rw := 1, first := 0, ring := 1, base := 0x20000000 } }, 0, 0, (slot 1 6), 0, { recno := 1, rows := 1, rw := 1, first := 0, ring := 1, base := 0x20000000 }, by decide⟩,
    ⟨{ (up.putB F.REC_ROW_ARCH_EN true).putB F.REC_STAT_INDEX_READY true with plan.todo := [slot 1 6], stor.area0.held := some { recno := 1, rows := 1, rw := 1, first := 0, ring := 1, base := 0x20000000 }, stor.job := some { area := 1, held := { recno := 1, rows := 1, rw := 1, first := 0, ring := 1, base := 0x20000000 }, off := 0, len := 4096 } }, 0, 0, (slot 1 6), 0, { recno := 1, rows := 1, rw := 1, first := 0, ring := 1, base := 0x20000000 }, by decide⟩⟩

/-- The hypotheses of `Obligations.ArrayAndDmaSlots` can be met. -/
theorem witness_array_and_dma_slots :
    (∃ s : State, ∃ idx : Nat, ∃ at_ : Nat, ∃ d : Slot, ∃ r : Run, ∃ p : Nat, ∃ c : Nat, Ready s ∧ SlotStarts 7 idx at_ d s ∧ s.arr.run = some r ∧ r.started = true ∧ serving s ≠ [] ∧ (∀ x, x ∈ placement s → x ∈ s.gov.live) ∧ s.gov.live ≠ [] ∧ s.arr.queue = [p] ∧ (r.list.find? fun c => s.gov.live.contains c && (aget s.arr.work c).isNone) = some c ∧ c < 17)
    ∧ (∃ s : State, ∃ idx : Nat, ∃ at_ : Nat, ∃ d : Slot, Ready s ∧ SlotStarts 7 idx at_ d s ∧ d.kind = 1 ∧ hasRun s = false ∧ (∀ x, x ∈ s.plan.todo → x.kind = 1))
    ∧ (∃ s : State, ∃ idx : Nat, ∃ at_ : Nat, ∃ d : Slot, Ready s ∧ SlotStarts 9 idx at_ d s)
    ∧ (∃ s : State, ∃ idx : Nat, ∃ at_ : Nat, ∃ d : Slot, Ready s ∧ SlotStarts 11 idx at_ d s ∧ d.kind = 3 ∧ spares s = true ∧ taskReady s 0 = true ∧ fitsCap s (s.gov.pred + cellCost s (level s)) = true ∧ s.armedAt 0x09 2 = false)
    ∧ (∃ s : State, ∃ idx : Nat, ∃ at_ : Nat, ∃ d : Slot, Ready s ∧ SlotStarts 12 idx at_ d s ∧ d.kind = 3 ∧ spares s = true ∧ taskReady s 1 = true)
    ∧ (∃ s : State, ∃ idx : Nat, ∃ at_ : Nat, ∃ d : Slot, Ready s ∧ SlotStarts 13 idx at_ d s ∧ d.kind = 3 ∧ spares s = true ∧ taskReady s 2 = true) := by
  refine ⟨⟨{ up with plan.todo := [slot 1 7], arr.run := some { snap := 0, started := true, list := [0] }, arr.queue := [0], bist.benchUp := true, gov.live := List.range 17 }, 0, 0, (slot 1 7), { snap := 0, started := true, list := [0] }, 0, 0, by decide⟩,
    ⟨{ up with plan.todo := [slot 1 7] }, 0, 0, (slot 1 7), by decide⟩,
    ⟨{ up with plan.todo := [slot 1 9] }, 0, 0, (slot 1 9), by decide⟩,
    ⟨{ up.putB F.BIST_CFG_ROT_EN true with plan.todo := [slot 3 11], bist.cell := some 0, bist.benchUp := true }, 0, 0, (slot 3 11), by decide⟩,
    ⟨{ up.putB F.BG_CFG_SCRUB_EN true with plan.todo := [slot 3 12] }, 0, 0, (slot 3 12), by decide⟩,
    ⟨{ (up.putB F.LANES_CAL_CAL_EN true).put F.LANES_LS_PHASE 1 with plan.todo := [slot 3 13] }, 0, 0, (slot 3 13), by decide⟩⟩

/-- The hypotheses of `Obligations.GovernorCommands` can be met. -/
theorem witness_governor_commands :
    (∃ s : State, ∃ at_ : Nat, ∃ load : Nat, Ready s ∧ s.gov.sampled + 19 ≤ at_ ∧ s.plan.run = none ∧ pstate s ≠ 3 ∧ s.armedAt 3 1 = false ∧ s.armedAt 3 2 = false ∧ s.flag F.GOV_STAT_BURST = false ∧ 10 * (load : Int) ≤ cap s)
    ∧ (∃ s : State, ∃ at_ : Nat, Ready s ∧ (at_ : Int) < s.gov.sampled + 19)
    ∧ (∃ s : State, ∃ n, Ready s ∧ s.memWf = true ∧ n < 16 ∧ bitOf (s.get F.MEM_STAT_ZEROFILL) n = true)
    ∧ (∃ s : State, ∃ a : Nat, ∃ age : Nat, ∃ b : Nat, ∃ k : Nat, ∃ rest : List (Nat × Nat), Ready s ∧ s.gov.window = (a, age) :: (b, k) :: rest ∧ mayReach s age 28 = true)
    ∧ (∃ s : State, ∃ a : Nat, ∃ age : Nat, ∃ rest : List (Nat × Nat), Ready s ∧ s.gov.window = (a, age) :: rest ∧ (rest = [] ∨ mayReach s age 28 = false))
    ∧ (∃ s : State, Ready s ∧ s.flag F.CLK_STAT_CHANGING = true ∧ s.gov.raiseTo = none)
    ∧ (∃ s : State, Ready s ∧ s.flag F.CLK_STAT_CHANGING = false) := by
  refine ⟨⟨up, 0, 0, by decide⟩,
    ⟨{ up with gov.sampled := 5 }, 23, by decide⟩,
    ⟨up.put F.MEM_STAT_ZEROFILL 0x8000, 15, by decide⟩,
    ⟨{ up with gov.window := [(1, 28), (2, 0)] }, 1, 28, 2, 0, [], by decide⟩,
    ⟨{ up with gov.window := [(1, 0), (2, 0)] }, 1, 0, [(2, 0)], by decide⟩,
    ⟨up.putB F.CLK_STAT_CHANGING true, by decide⟩,
    ⟨up, by decide⟩⟩

/-- The hypotheses of `Obligations.GovernorFaults` can be met. -/
theorem witness_governor_faults :
    (∃ s : State, Ready s ∧ 8 ≤ s.gov.lowRun ∧ s.getI (trimFld (level s)) = 30 ∧ bitOf (s.get F.CLK_STAT_BLOCKED) (level s) = false ∧ level s < 6 ∧ RecordsOnly 0x11 s)
    ∧ (∃ s : State, Ready s ∧ bitOf (s.get F.CLK_STAT_BLOCKED) (level s) = true)
    ∧ (∃ s : State, Ready s ∧ s.get F.GOV_LOW_BELOW_MAX ≤ s.gov.belowRun ∧ 0 < s.gov.belowRun ∧ s.gov.belowRaised = false ∧ RecordsOnly 0x10 s)
    ∧ (∃ s : State, Ready s ∧ s.gov.belowRaised = true)
    ∧ (∃ s : State, Ready s ∧ s.get F.GOV_RES_RES_CRES_UF ≠ 0 ∧ s.gov.resOff = false ∧ s.gov.resDue = true ∧ RecordsOnly 0x12 s)
    ∧ (∃ s : State, Ready s ∧ (s.gov.resOff = true ∨ s.gov.resDue = false)) := by
  refine ⟨⟨{ ((logOnly 0x11 up).put F.CLK_STAT_LEVEL 0).put F.CLK_TRIM0_P0 30 with gov.lowRun := 8 }, by decide⟩,
    ⟨(up.put F.CLK_STAT_LEVEL 0).put F.CLK_STAT_BLOCKED 1, by decide⟩,
    ⟨{ logOnly 0x10 up with gov.belowRun := 65535 }, by decide⟩,
    ⟨{ up with gov.belowRaised := true }, by decide⟩,
    ⟨{ (logOnly 0x12 up).put F.GOV_RES_RES_CRES_UF 1 with gov.resDue := true }, by decide⟩,
    ⟨up, by decide⟩⟩

/-- The hypotheses of `Obligations.LoopStartUp` can be met. -/
theorem witness_loop_start_up :
    (∃ s : State, ∃ qual, Ready s ∧ s.line.sensed = false ∧ mayReach s s.boot.relU (864 + 576 * s.line.windows) = true ∧ gen s = 0 ∧ s.get F.SYS_STRAP_GEN = 0 ∧ 32 ≤ qual ∧ 2 ≤ s.line.hitRun)
    ∧ (∃ s : State, ∃ qual, Ready s ∧ s.line.sensed = false ∧ mayReach s s.boot.relU (864 + 576 * s.line.windows) = true ∧ gen s = 0 ∧ s.get F.SYS_STRAP_GEN = 0 ∧ qual < 32 ∧ 8 ≤ s.line.windows)
    ∧ (∃ s : State, ∃ qual, Ready s ∧ s.line.sensed = false ∧ mayReach s s.boot.relU (864 + 576 * s.line.windows) = true ∧ gen s = 0 ∧ s.get F.SYS_STRAP_GEN = 0 ∧ qual < 32 ∧ s.line.windows < 8)
    ∧ (∃ s : State, Ready s ∧ (gen s ≠ 0 ∨ mayReach s s.boot.relU (864 + 576 * s.line.windows) = false))
    ∧ (∃ s : State, Ready s ∧ s.flag F.LINE_STAT_LOOP_ENG = false ∧ s.get F.SYS_STRAP_GEN ≠ 3 ∧ gen s ≠ 3 ∧ s.flag F.LDAC_STAT_CLR = false ∧ s.flag F.LDAC_STAT_FAULT_CLAMP = false ∧ s.flag F.LDAC_STAT_SPAN_PASS = false)
    ∧ (∃ s : State, Ready s ∧ s.flag F.LINE_STAT_LOOP_ENG = true)
    ∧ (∃ s : State, Ready s ∧ gen s = 2 ∧ s.flag F.LINE_STAT_GEN_PEND = true ∧ fskBusy s = false)
    ∧ (∃ s : State, Ready s ∧ s.flag F.LINE_STAT_GEN_PEND = false) := by
  refine ⟨⟨{ up with line.hitRun := 2, boot.relU := 20000 }, 32, by decide⟩,
    ⟨{ up with line.windows := 8, boot.relU := 20000 }, 31, by decide⟩,
    ⟨{ up with boot.relU := 20000 }, 0, by decide⟩,
    ⟨up.put F.SYS_GEN_GEN 1, by decide⟩,
    ⟨up, by decide⟩,
    ⟨up.putB F.LINE_STAT_LOOP_ENG true, by decide⟩,
    ⟨(up.put F.SYS_GEN_GEN 2).putB F.LINE_STAT_GEN_PEND true, by decide⟩,
    ⟨up, by decide⟩⟩

/-- The hypotheses of `Obligations.LoopClamp` can be met. -/
theorem witness_loop_clamp :
    (∃ s : State, ∃ lowNs, Ready s ∧ 1000 ≤ lowNs ∧ gen s ≠ 3 ∧ s.flag F.LINE_STAT_LOOP_ENG = true ∧ clampHeld s = false)
    ∧ (∃ s : State, ∃ lowNs, Ready s ∧ lowNs < 500)
    ∧ (∃ s : State, Ready s) := by
  refine ⟨⟨up.putB F.LINE_STAT_LOOP_ENG true, 1000, by decide⟩,
    ⟨up, 499, by decide⟩,
    ⟨up, by decide⟩⟩

/-- The hypotheses of `Obligations.LoopSupervision` can be met. -/
theorem witness_loop_supervision :
    (∃ s : State, Ready s ∧ gen s ≠ 3 ∧ s.get F.LINE_CFG_LIFT_HOLD ≤ s.line.drvOn ∧ s.flag F.LINE_STAT_LIFTOFF = false ∧ RecordsOnly 0x20 s)
    ∧ (∃ s : State, Ready s ∧ gen s = 3)
    ∧ (∃ s : State, Ready s ∧ gen s ≠ 3 ∧ 16 ≤ s.line.drvOff ∧ s.flag F.LINE_STAT_LIFT_VPRE = false ∧ s.flag F.LINE_STAT_LIFTOFF = true)
    ∧ (∃ s : State, Ready s ∧ gen s ≠ 3 ∧ 2 ≤ s.line.overTicks ∧ s.line.overRaised = false ∧ RecordsOnly 0x21 s)
    ∧ (∃ s : State, Ready s ∧ s.line.overTicks < 2)
    ∧ (∃ s : State, Ready s ∧ 8 ≤ s.ldac.failTicks ∧ s.flag F.LDAC_STAT_READBACK = false ∧ RecordsOnly 0x22 s)
    ∧ (∃ s : State, Ready s ∧ s.ldac.failTicks < 8)
    ∧ (∃ s : State, Ready s ∧ 16 ≤ s.ldac.passTicks)
    ∧ (∃ s : State, Ready s ∧ s.ldac.passTicks < 16)
    ∧ (∃ s : State, Ready s ∧ 8 ≤ s.ldac.limTicks ∧ s.flag F.LDAC_STAT_TRIM_LIMIT = false)
    ∧ (∃ s : State, Ready s ∧ s.ldac.limTicks < 8) := by
  refine ⟨⟨{ logOnly 0x20 up with line.drvOn := 65535 }, by decide⟩,
    ⟨up.put F.SYS_GEN_GEN 3, by decide⟩,
    ⟨{ up.putB F.LINE_STAT_LIFTOFF true with line.drvOff := 16 }, by decide⟩,
    ⟨{ logOnly 0x21 up with line.overTicks := 2 }, by decide⟩,
    ⟨up, by decide⟩,
    ⟨{ logOnly 0x22 up with ldac.failTicks := 8 }, by decide⟩,
    ⟨up, by decide⟩,
    ⟨{ up with ldac.passTicks := 16 }, by decide⟩,
    ⟨up, by decide⟩,
    ⟨{ up with ldac.limTicks := 8 }, by decide⟩,
    ⟨up, by decide⟩⟩

/-- The hypotheses of `Obligations.PassagesAndTest` can be met. -/
theorem witness_passages_and_test :
    (∃ s : State, Ready s ∧ s.flag F.LDAC_STAT_SPAN_PASS = true ∧ s.ldac.passLeft = 0)
    ∧ (∃ s : State, Ready s ∧ s.ldac.passLeft ≠ 0)
    ∧ (∃ s : State, Ready s ∧ s.ldac.testOver = true ∧ s.get F.LDAC_CFG_MODE = 2)
    ∧ (∃ s : State, Ready s ∧ s.ldac.testOver = false)
    ∧ (∃ s : State, ∃ n, Ready s ∧ n < 2 ∧ s.flag (adacPassF n) = true ∧ (adacOf s n).pass = 0)
    ∧ (∃ s : State, ∃ n, Ready s ∧ s.flag (adacPassF n) = false)
    ∧ (∃ s : State, ∃ n, Ready s ∧ n < 2 ∧ s.flag (adacOvldF n) = false)
    ∧ (∃ s : State, ∃ n, Ready s ∧ s.flag (adacOvldF n) = true) := by
  refine ⟨⟨up.putB F.LDAC_STAT_SPAN_PASS true, by decide⟩,
    ⟨{ up with ldac.passLeft := 1 }, by decide⟩,
    ⟨{ up.put F.LDAC_CFG_MODE 2 with ldac.testOver := true }, by decide⟩,
    ⟨up, by decide⟩,
    ⟨up.putB (adacPassF 1) true, 1, by decide⟩,
    ⟨up, 0, by decide⟩,
    ⟨up, 0, by decide⟩,
    ⟨up.putB (adacOvldF 1) true, 1, by decide⟩⟩

/-- The hypotheses of `Obligations.FskReceiver` can be met. -/
theorem witness_fsk_receiver :
    (∃ s : State, ∃ quiet : List Nat, ∃ nf : Nat, ∃ th : Nat, Ready s ∧ hears s = true ∧ s.flag F.FSK_STAT_CARRIER = false ∧ nf = quiet.foldl (fun x y => (63 * x + 65536 * y) / 64) s.fsk.nf ∧ th = min 110 (max 80 (min 255 (nf / 65536) + s.get F.FSK_CFG_CD_MARGIN_MV)))
    ∧ (∃ s : State, ∃ a, ∃ b, Ready s ∧ hears s = true ∧ s.flag F.FSK_STAT_CARRIER = true ∧ a < s.get F.FSK_AD_CD_TH - 10 ∧ b < s.get F.FSK_AD_CD_TH - 10)
    ∧ (∃ s : State, ∃ a, ∃ b, Ready s ∧ hears s = true ∧ (s.get F.FSK_AD_CD_TH - 10 ≤ a ∨ s.get F.FSK_AD_CD_TH - 10 ≤ b))
    ∧ (∃ s : State, Ready s ∧ fskOn s = true ∧ s.flag F.FSK_STAT_CARRIER = true ∧ s.flag F.FSK_STAT_RX_FRAME = true ∧ mayReach s s.fsk.carU 6600 = true)
    ∧ (∃ s : State, Ready s ∧ fskOn s = true ∧ s.flag F.FSK_STAT_RX_FRAME = true)
    ∧ (∃ s : State, Ready s ∧ fskOn s = false)
    ∧ (∃ s : State, Ready s ∧ fskOn s = false)
    ∧ (∃ s : State, Ready s ∧ fskOn s = false) := by
  refine ⟨⟨up.put F.SYS_GEN_GEN 2, [2], 2048, 80, by decide⟩,
    ⟨((up.put F.SYS_GEN_GEN 2).putB F.FSK_STAT_CARRIER true).put F.FSK_AD_CD_TH 80, 69, 69, by decide⟩,
    ⟨(up.put F.SYS_GEN_GEN 2).put F.FSK_AD_CD_TH 80, 70, 69, by decide⟩,
    ⟨{ (((up.put F.SYS_GEN_GEN 2).putB F.FSK_STAT_CARRIER true).putB F.FSK_STAT_RX_FRAME true).put F.FSK_AD_CD_TH 80 with fsk.carU := 6600 }, by decide⟩,
    ⟨(up.put F.SYS_GEN_GEN 2).putB F.FSK_STAT_RX_FRAME true, by decide⟩,
    ⟨up, by decide⟩,
    ⟨up, by decide⟩,
    ⟨up, by decide⟩⟩

/-- The hypotheses of `Obligations.BrokenFramesAreDropped` can be met. -/
theorem witness_broken_frames_are_dropped :
    (∃ s : State, ∃ f : FskFrame, Ready s ∧ hears s = true ∧ 5 ≤ f.pre ∧ f.pre ≤ 20 ∧ mayReach s s.fsk.upU (264 * (2 + frameChars f) + f.gap) = true ∧ (f.charsOk = false ∨ checkOk f = false)) := by
  exact ⟨up.put F.SYS_GEN_GEN 2, { pre := 5, charsOk := false, kind := 0, long := false, secondary := false, burst := false, addr := 0, cmd := 0, data := [], check := 0x82, gap := 0, learned := [], tracked := [] }, by decide⟩

/-- The hypotheses of `Obligations.FskFrameReception` can be met. -/
theorem witness_fsk_frame_reception :
    (∃ s : State, ∃ f : FskFrame, Ready s ∧ hears s = true ∧ 5 ≤ f.pre ∧ f.pre ≤ 20 ∧ mayReach s s.fsk.upU (264 * (2 + frameChars f) + f.gap) = true ∧ f.charsOk = true ∧ checkOk f = true ∧ s.armedAt 0x13 1 = false) := by
  exact ⟨up.put F.SYS_GEN_GEN 2, { pre := 5, charsOk := true, kind := 0, long := false, secondary := false, burst := false, addr := 0, cmd := 0, data := [], check := 0x82, gap := 0, learned := [], tracked := [] }, by decide⟩

/-- The hypotheses of `Obligations.FskTransmission` can be met. -/
theorem witness_fsk_transmission :
    (∃ s : State, ∃ o : FskOut, ∃ rest : List FskOut, Ready s ∧ s.fsk.mq = o :: rest ∧ s.armedAt 0x13 2 = false ∧ mayReach s o.age 264 = true ∧ mayStay s o.age 7392 = true ∧ fskOn s = true ∧ s.fsk.sending = none ∧ s.fsk.stuck = false ∧ s.flag F.LINE_STAT_LOOP_ENG = true ∧ startCeil s = false ∧ s.flag F.FSK_STAT_CARRIER = false ∧ mayReach s s.fsk.quiet 264 = true ∧ 10 * s.get F.GOV_DRAW_DRAW + 5000 ≤ budget s)
    ∧ (∃ s : State, Ready s ∧ (s.flag F.LINE_STAT_LOOP_ENG = false ∨ startCeil s = true))
    ∧ (∃ s : State, ∃ o : FskOut, ∃ rest : List FskOut, Ready s ∧ s.fsk.mq = o :: rest ∧ fskOn s = true ∧ mayReach s o.age 7392 = true)
    ∧ (∃ s : State, ∃ o : FskOut, ∃ rest : List FskOut, Ready s ∧ s.fsk.mq = [] ∧ s.fsk.ready = o :: rest ∧ fskOn s = true ∧ mayReach s o.age 7392 = true)
    ∧ (∃ s : State, ∃ o : FskOut, ∃ rest : List FskOut, Ready s ∧ s.fsk.mq = o :: rest ∧ mayReach s o.age 7392 = false)
    ∧ (∃ s : State, ∃ o : FskOut, Ready s ∧ s.fsk.sending = some o ∧ mayReach s s.fsk.sendU (264 * (o.pre + o.bytes.length)) = true)
    ∧ (∃ s : State, Ready s ∧ s.fsk.sending = none)
    ∧ (∃ s : State, Ready s ∧ s.fsk.sending ≠ none ∧ mayReach s s.fsk.sendU 43200 = true ∧ RecordsOnly 0x30 s)
    ∧ (∃ s : State, Ready s ∧ fskOn s = true ∧ s.flag F.FSK_BURST_EN = true ∧ mayReach s s.fsk.sinceDue (burstPeriod s) = true ∧ s.fsk.burst ≠ none)
    ∧ (∃ s : State, Ready s ∧ fskOn s = true ∧ s.flag F.FSK_BURST_EN = true ∧ mayReach s s.fsk.sinceDue (burstPeriod s) = true ∧ s.fsk.burst = none)
    ∧ (∃ s : State, Ready s ∧ s.flag F.FSK_BURST_EN = false)
    ∧ (∃ s : State, Ready s ∧ s.fsk.burst ≠ none ∧ s.fsk.burstTx = true ∧ s.flag F.FSK_BURST_EN = true ∧ replyPending s = false ∧ txMay s 8 = true)
    ∧ (∃ s : State, ∃ age, Ready s ∧ s.fsk.burst = some age ∧ mayReach s age (burstPeriod s) = true)
    ∧ (∃ s : State, Ready s ∧ s.fsk.burst = none) := by
  refine ⟨⟨{ (up.put F.SYS_GEN_GEN 2).putB F.LINE_STAT_LOOP_ENG true with fsk.mq := [{ bytes := [], pre := 5, secondary := false, age := 264 }] }, { bytes := [], pre := 5, secondary := false, age := 264 }, [], by decide⟩,
    ⟨up, by decide⟩,
    ⟨{ up.put F.SYS_GEN_GEN 2 with fsk.mq := [{ bytes := [], pre := 5, secondary := false, age := 7392 }] }, { bytes := [], pre := 5, secondary := false, age := 7392 }, [], by decide⟩,
    ⟨{ up.put F.SYS_GEN_GEN 2 with fsk.ready := [{ bytes := [], pre := 5, secondary := false, age := 7392 }] }, { bytes := [], pre := 5, secondary := false, age := 7392 }, [], by decide⟩,
    ⟨{ up with fsk.mq := [{ bytes := [], pre := 5, secondary := false, age := 0 }] }, { bytes := [], pre := 5, secondary := false, age := 0 }, [], by decide⟩,
    ⟨{ up with fsk.sending := some { bytes := [], pre := 5, secondary := false, age := 0 }, fsk.sendU := 43200 }, { bytes := [], pre := 5, secondary := false, age := 0 }, by decide⟩,
    ⟨up, by decide⟩,
    ⟨{ (logOnly 0x30 up).put F.SYS_GEN_GEN 2 with fsk.sending := some { bytes := [], pre := 5, secondary := false, age := 0 }, fsk.sendU := 43200 }, by decide⟩,
    ⟨{ ((up.putB F.FSK_BURST_EN true).put F.SYS_GEN_GEN 2).putB F.LINE_STAT_LOOP_ENG true with fsk.burst := some 0, fsk.sinceDue := 100000000 }, by decide⟩,
    ⟨(up.put F.SYS_GEN_GEN 2).putB F.FSK_BURST_EN true, by decide⟩,
    ⟨up, by decide⟩,
    ⟨{ ((up.putB F.FSK_BURST_EN true).put F.SYS_GEN_GEN 2).putB F.LINE_STAT_LOOP_ENG true with fsk.burst := some 0, fsk.burstTx := true }, by decide⟩,
    ⟨{ up with fsk.burst := some 100000000 }, 100000000, by decide⟩,
    ⟨up, by decide⟩⟩

/-- The hypotheses of `Obligations.FskReadCommands` can be met. -/
theorem witness_fsk_read_commands :
    (∃ s : State, ∃ r : FskReq, Ready s ∧ Requested r 0 s)
    ∧ (∃ s : State, ∃ r : FskReq, Ready s ∧ Requested r 11 s ∧ 6 ≤ r.data.length ∧ r.data.take 6 = fskText s 0x100 6)
    ∧ (∃ s : State, ∃ r : FskReq, Ready s ∧ Requested r 11 s ∧ 6 ≤ r.data.length ∧ r.data.take 6 ≠ fskText s 0x100 6)
    ∧ (∃ s : State, ∃ r : FskReq, Ready s ∧ Requested r 21 s ∧ 32 ≤ r.data.length ∧ r.data.take 32 = fskText s 0x134 32)
    ∧ (∃ s : State, ∃ r : FskReq, ∃ v : Word × Bool, Ready s ∧ Requested r 1 s ∧ Snapped 0 v s)
    ∧ (∃ s : State, ∃ r : FskReq, Ready s ∧ Requested r 2 s)
    ∧ (∃ s : State, ∃ r : FskReq, ∃ v : Word × Bool, ∃ w : Word × Bool, Ready s ∧ Requested r 3 s ∧ Snapped 0 v s ∧ Snapped 1 w s ∧ s.flag (F.FSK_VAR_CFG_EN 2) = false ∧ s.flag (F.FSK_VAR_CFG_EN 3) = false)
    ∧ (∃ s : State, ∃ r : FskReq, Ready s ∧ Requested r 7 s)
    ∧ (∃ s : State, ∃ r : FskReq, Ready s ∧ Requested r 8 s)
    ∧ (∃ s : State, ∃ r : FskReq, ∃ c : Byte, ∃ n, ∃ v : Word × Bool, Ready s ∧ Requested r 9 s ∧ r.data = [c] ∧ varOfCode s c.toNat = some n ∧ Snapped n v s)
    ∧ (∃ s : State, ∃ r : FskReq, ∃ c : Byte, ∃ n, ∃ v : Word × Bool, Ready s ∧ Requested r 33 s ∧ r.data = [c] ∧ varOfCode s c.toNat = some n ∧ Snapped n v s)
    ∧ (∃ s : State, ∃ r : FskReq, Ready s ∧ Requested r 33 s ∧ r.data = [])
    ∧ (∃ s : State, ∃ r : FskReq, Ready s ∧ Requested r 12 s)
    ∧ (∃ s : State, ∃ r : FskReq, Ready s ∧ Requested r 13 s)
    ∧ (∃ s : State, ∃ r : FskReq, Ready s ∧ Requested r 15 s)
    ∧ (∃ s : State, ∃ r : FskReq, Ready s ∧ Requested r 16 s)
    ∧ (∃ s : State, ∃ r : FskReq, Ready s ∧ Requested r 20 s)
    ∧ (∃ s : State, ∃ r : FskReq, Ready s ∧ Requested r 105 s) := by
  refine ⟨⟨{ up with fsk.lp := [req 0 []] }, (req 0 []), by decide⟩,
    ⟨{ up with fsk.lp := [req 11 (fskText up 0x100 6)] }, (req 11 (fskText up 0x100 6)), by decide⟩,
    ⟨{ up with fsk.lp := [req 11 (List.replicate 6 1)] }, (req 11 (List.replicate 6 1)), by decide⟩,
    ⟨{ up with fsk.lp := [req 21 (fskText up 0x134 32)] }, (req 21 (fskText up 0x134 32)), by decide⟩,
    ⟨{ up.putB (F.FSK_VAR_CFG_EN 0) true with fsk.lp := [req 1 []], fsk.snap := [some (5, true), some (6, true), none, none] }, (req 1 []), (5, true), by decide⟩,
    ⟨{ up with fsk.lp := [req 2 []] }, (req 2 []), by decide⟩,
    ⟨{ (up.putB (F.FSK_VAR_CFG_EN 0) true).putB (F.FSK_VAR_CFG_EN 1) true with fsk.lp := [req 3 []], fsk.snap := [some (5, true), some (6, true), none, none] }, (req 3 []), (5, true), (6, true), by decide⟩,
    ⟨{ up with fsk.lp := [req 7 []] }, (req 7 []), by decide⟩,
    ⟨{ up with fsk.lp := [req 8 []] }, (req 8 []), by decide⟩,
    ⟨{ (up.putB (F.FSK_VAR_CFG_EN 1) true).put (F.FSK_VAR_CFG_DVCODE 1) 7 with fsk.lp := [req 9 [7]], fsk.snap := [some (5, true), some (6, true), none, none] }, (req 9 [7]), 7, 1, (6, true), by decide⟩,
    ⟨{ (up.putB (F.FSK_VAR_CFG_EN 1) true).put (F.FSK_VAR_CFG_DVCODE 1) 7 with fsk.lp := [req 33 [7]], fsk.snap := [some (5, true), some (6, true), none, none] }, (req 33 [7]), 7, 1, (6, true), by decide⟩,
    ⟨{ up with fsk.lp := [req 33 []] }, (req 33 []), by decide⟩,
    ⟨{ up with fsk.lp := [req 12 []] }, (req 12 []), by decide⟩,
    ⟨{ up with fsk.lp := [req 13 []] }, (req 13 []), by decide⟩,
    ⟨{ up with fsk.lp := [req 15 []] }, (req 15 []), by decide⟩,
    ⟨{ up with fsk.lp := [req 16 []] }, (req 16 []), by decide⟩,
    ⟨{ up with fsk.lp := [req 20 []] }, (req 20 []), by decide⟩,
    ⟨{ up with fsk.lp := [req 105 []] }, (req 105 []), by decide⟩⟩

/-- The hypotheses of `Obligations.AdditionalDeviceStatus` can be met. -/
theorem witness_additional_device_status :
    (∃ s : State, ∃ r : FskReq, Ready s ∧ Requested r 48 s) := by
  exact ⟨{ up with fsk.lp := [req 48 []] }, (req 48 []), by decide⟩

/-- The hypotheses of `Obligations.FskWriteCommands` can be met. -/
theorem witness_fsk_write_commands :
    (∃ s : State, ∃ r : FskReq, ∃ x : Nat × Instr, Ready s ∧ linkMay s = true ∧ s.flag F.FSK_CFG_UNIV_WR_EN = false ∧ x ∈ [(6, Instr.writePollingAddress), (17, .writeMessage), (18, .writeTagDescriptorDate), (19, .writeFinalAssemblyNumber), (22, .writeLongTag), (38, .resetConfigChangedFlag), (40, .enterExitFixedCurrent), (45, .trimLoopCurrentZero), (46, .trimLoopCurrentGain), (59, .writeNumResponsePreambles), (103, .writeBurstPeriod), (104, .writeBurstTrigger), (107, .writeBurstDeviceVariables), (108, .writeBurstCommand), (109, .burstControl)] ∧ Requested r x.1 s)
    ∧ (∃ s : State, ∃ r : FskReq, Ready s ∧ linkMay s = true ∧ s.flag F.FSK_CFG_UNIV_WR_EN = true ∧ Requested r 6 s ∧ 2 ≤ r.data.length ∧ (r.data.getD 0 0).toNat ≤ 63 ∧ (r.data.getD 1 0).toNat ≤ 1 ∧ OrdersPass r [0x13, 0x11] 2 s)
    ∧ (∃ s : State, ∃ r : FskReq, Ready s ∧ linkMay s = true ∧ s.flag F.FSK_CFG_UNIV_WR_EN = true ∧ Requested r 17 s ∧ r.data.length = 24 ∧ OrdersPass r [0x13] 6 s)
    ∧ (∃ s : State, ∃ r : FskReq, Ready s ∧ linkMay s = true ∧ s.flag F.FSK_CFG_UNIV_WR_EN = true ∧ Requested r 18 s ∧ r.data.length = 21 ∧ OrdersPass r [0x13] 6 s)
    ∧ (∃ s : State, ∃ r : FskReq, Ready s ∧ linkMay s = true ∧ s.flag F.FSK_CFG_UNIV_WR_EN = true ∧ Requested r 19 s ∧ r.data.length = 3 ∧ OrdersPass r [0x13] 1 s)
    ∧ (∃ s : State, ∃ r : FskReq, Ready s ∧ linkMay s = true ∧ s.flag F.FSK_CFG_UNIV_WR_EN = true ∧ Requested r 22 s ∧ r.data.length = 32 ∧ OrdersPass r [0x13] 8 s)
    ∧ (∃ s : State, ∃ r : FskReq, Ready s ∧ linkMay s = true ∧ s.flag F.FSK_CFG_UNIV_WR_EN = true ∧ Requested r 38 s)
    ∧ (∃ s : State, ∃ r : FskReq, Ready s ∧ linkMay s = true ∧ s.flag F.FSK_CFG_UNIV_WR_EN = true ∧ Requested r 40 s ∧ 4 ≤ r.data.length ∧ s.get F.LDAC_CFG_MODE = 1)
    ∧ (∃ s : State, ∃ r : FskReq, ∃ n : Int, ∃ den : Nat, Ready s ∧ linkMay s = true ∧ s.flag F.FSK_CFG_UNIV_WR_EN = true ∧ Requested r 40 s ∧ r.data.length = 4 ∧ s.get F.LDAC_CFG_MODE ≠ 1 ∧ dataSingle r.data = some (n, den) ∧ 16 * (den : Int) ≤ n * 5 ∧ n ≤ 24 * (den : Int) ∧ n ≠ 0 ∧ OrdersPass r [0x11] 2 s)
    ∧ (∃ s : State, ∃ r : FskReq, ∃ den : Nat, Ready s ∧ linkMay s = true ∧ s.flag F.FSK_CFG_UNIV_WR_EN = true ∧ Requested r 40 s ∧ r.data.length = 4 ∧ s.get F.LDAC_CFG_MODE ≠ 1 ∧ dataSingle r.data = some (0, den) ∧ OrdersPass r [0x11] 1 s)
    ∧ (∃ s : State, ∃ r : FskReq, Ready s ∧ linkMay s = true ∧ s.flag F.FSK_CFG_UNIV_WR_EN = true ∧ Requested r 45 s ∧ 4 ≤ r.data.length ∧ loopSource s ≠ 2)
    ∧ (∃ s : State, ∃ r : FskReq, ∃ n : Int, ∃ v : Int, ∃ den : Nat, Ready s ∧ linkMay s = true ∧ s.flag F.FSK_CFG_UNIV_WR_EN = true ∧ Requested r 45 s ∧ r.data.length = 4 ∧ loopSource s = 2 ∧ s.get F.LDAC_TEST_TEST_UA = 4000 ∧ dataSingle r.data = some (n, den) ∧ v = signed 16 (s.getS F.LDAC_UTRIM_ZERO_DUA) + divRound ((4000 * (den : Int) - n * 1000) * 10) den ∧ -1000 ≤ v ∧ v ≤ 1000 ∧ OrdersPass r [0x11] 1 s)
    ∧ (∃ s : State, ∃ r : FskReq, ∃ n : Int, ∃ v : Int, ∃ den : Nat, Ready s ∧ linkMay s = true ∧ s.flag F.FSK_CFG_UNIV_WR_EN = true ∧ Requested r 46 s ∧ r.data.length = 4 ∧ loopSource s = 2 ∧ s.get F.LDAC_TEST_TEST_UA = 20000 ∧ dataSingle r.data = some (n, den) ∧ v = signed 16 (s.getS F.LDAC_UTRIM_GAIN_PPM) + divRound ((20000 * (den : Int) - n * 1000) * 50) den ∧ -5000 ≤ v ∧ v ≤ 5000 ∧ OrdersPass r [0x11] 1 s)
    ∧ (∃ s : State, ∃ r : FskReq, ∃ c : Byte, Ready s ∧ linkMay s = true ∧ s.flag F.FSK_CFG_UNIV_WR_EN = true ∧ Requested r 59 s ∧ r.data = [c] ∧ 5 ≤ c.toNat ∧ c.toNat ≤ 20 ∧ OrdersPass r [0x13] 1 s)
    ∧ (∃ s : State, ∃ r : FskReq, ∃ ms : Nat, Ready s ∧ linkMay s = true ∧ s.flag F.FSK_CFG_UNIV_WR_EN = true ∧ Requested r 103 s ∧ r.data.length = 9 ∧ r.data.getD 0 0 = 0 ∧ ms = bytesNat ((r.data.drop 1).take 4) / 32 ∧ 500 ≤ ms ∧ ms ≤ 60000 ∧ OrdersPass r [0x13] 1 s)
    ∧ (∃ s : State, ∃ r : FskReq, Ready s ∧ linkMay s = true ∧ s.flag F.FSK_CFG_UNIV_WR_EN = true ∧ Requested r 104 s ∧ 2 ≤ r.data.length ∧ r.data.getD 1 0 = 0 ∧ OrdersPass r [0x13] 0 s)
    ∧ (∃ s : State, ∃ r : FskReq, Ready s ∧ linkMay s = true ∧ s.flag F.FSK_CFG_UNIV_WR_EN = true ∧ Requested r 107 s ∧ r.data.length = 4 ∧ OrdersPass r [0x13] 4 s)
    ∧ (∃ s : State, ∃ r : FskReq, ∃ c : Byte, Ready s ∧ linkMay s = true ∧ s.flag F.FSK_CFG_UNIV_WR_EN = true ∧ Requested r 108 s ∧ r.data = [c] ∧ c.toNat ∈ [1, 2, 3, 9, 33, 48] ∧ OrdersPass r [0x13] 1 s)
    ∧ (∃ s : State, ∃ r : FskReq, ∃ c : Byte, Ready s ∧ linkMay s = true ∧ s.flag F.FSK_CFG_UNIV_WR_EN = true ∧ Requested r 109 s ∧ r.data = [c] ∧ c.toNat ≤ 1 ∧ OrdersPass r [0x13] 1 s) := by
  refine ⟨⟨{ up.putB F.FSK_CFG_UNIV_WR_EN false with fsk.lp := [req 109 []] }, req 109 [], (109, .burstControl), by decide, by decide, by decide, by simp, by decide⟩,
    ⟨{ writer with fsk.lp := [req 6 [63, 1]] }, req 6 [63, 1], by decide, by decide, by decide, by decide, by decide, by decide, by decide, orders_pass (by decide) (by decide)⟩,
    ⟨{ writer with fsk.lp := [req 17 (List.replicate 24 0)] }, req 17 (List.replicate 24 0), by decide, by decide, by decide, by decide, by decide, orders_pass (by decide) (by decide)⟩,
    ⟨{ writer with fsk.lp := [req 18 (List.replicate 21 0)] }, req 18 (List.replicate 21 0), by decide, by decide, by decide, by decide, by decide, orders_pass (by decide) (by decide)⟩,
    ⟨{ writer with fsk.lp := [req 19 [0, 0, 0]] }, req 19 [0, 0, 0], by decide, by decide, by decide, by decide, by decide, orders_pass (by decide) (by decide)⟩,
    ⟨{ writer with fsk.lp := [req 22 (List.replicate 32 0)] }, req 22 (List.replicate 32 0), by decide, by decide, by decide, by decide, by decide, orders_pass (by decide) (by decide)⟩,
    ⟨{ up.putB F.FSK_CFG_UNIV_WR_EN true with fsk.lp := [req 38 []] }, (req 38 []), by decide⟩,
    ⟨{ (up.putB F.FSK_CFG_UNIV_WR_EN true).put F.LDAC_CFG_MODE 1 with fsk.lp := [req 40 (List.replicate 4 0)] }, (req 40 (List.replicate 4 0)), by decide⟩,
    ⟨{ writer with fsk.lp := [req 40 [0x41, 0xC0, 0, 0]] }, req 40 [0x41, 0xC0, 0, 0], 24 * 2 ^ 19, 2 ^ 19, by decide, by decide, by decide, by decide, by decide, by decide, by decide, by decide, by decide, by decide, orders_pass (by decide) (by decide)⟩,
    ⟨{ writer with fsk.lp := [req 40 [0, 0, 0, 0]] }, req 40 [0, 0, 0, 0], 2 ^ 149, by decide, by decide, by decide, by decide, by decide, by decide, by decide, orders_pass (by decide) (by decide)⟩,
    ⟨{ up.putB F.FSK_CFG_UNIV_WR_EN true with fsk.lp := [req 45 (List.replicate 4 0)] }, (req 45 (List.replicate 4 0)), by decide⟩,
    ⟨{ writer.put F.LDAC_CFG_MODE 2 |>.put F.LDAC_TEST_TEST_UA 4000 with fsk.lp := [req 45 [0x40, 0x80, 0, 0]] }, req 45 [0x40, 0x80, 0, 0], 4 * 2 ^ 21, 0, 2 ^ 21, by decide, by decide, by decide, by decide, by decide, by decide, by decide, by decide, by decide, by decide, by decide, orders_pass (by decide) (by decide)⟩,
    ⟨{ writer.put F.LDAC_CFG_MODE 2 |>.put F.LDAC_TEST_TEST_UA 20000 with fsk.lp := [req 46 [0x41, 0xA0, 0, 0]] }, req 46 [0x41, 0xA0, 0, 0], 20 * 2 ^ 19, 0, 2 ^ 19, by decide, by decide, by decide, by decide, by decide, by decide, by decide, by decide, by decide, by decide, by decide, orders_pass (by decide) (by decide)⟩,
    ⟨{ writer with fsk.lp := [req 59 [20]] }, req 59 [20], 20, by decide, by decide, by decide, by decide, by decide, by decide, by decide, orders_pass (by decide) (by decide)⟩,
    ⟨{ writer with fsk.lp := [req 103 (0 :: natBytes 4 (500 * 32) ++ [0, 0, 0, 0])] }, req 103 (0 :: natBytes 4 (500 * 32) ++ [0, 0, 0, 0]), 500, by decide, by decide, by decide, by decide, by decide, by decide, by decide, by decide, by decide, orders_pass (by decide) (by decide)⟩,
    ⟨{ writer with fsk.lp := [req 104 [0, 0]] }, req 104 [0, 0], by decide, by decide, by decide, by decide, by decide, by decide, orders_pass (by decide) (by decide)⟩,
    ⟨{ writer with fsk.lp := [req 107 [0, 0, 0, 0]] }, req 107 [0, 0, 0, 0], by decide, by decide, by decide, by decide, by decide, orders_pass (by decide) (by decide)⟩,
    ⟨{ writer with fsk.lp := [req 108 [48]] }, req 108 [48], 48, by decide, by decide, by decide, by decide, by decide, by decide, orders_pass (by decide) (by decide)⟩,
    ⟨{ writer with fsk.lp := [req 109 [1]] }, req 109 [1], 1, by decide, by decide, by decide, by decide, by decide, by decide, orders_pass (by decide) (by decide)⟩⟩

/-- The hypotheses of `Obligations.FskVendorCommands` can be met. -/
theorem witness_fsk_vendor_commands :
    (∃ s : State, ∃ r : FskReq, ∃ p, ∃ off, Ready s ∧ linkMay s = true ∧ Requested r 200 s ∧ r.data = 0 :: natBytes 4 (0x40000000 + p * 0x400 + off) ++ [1] ∧ s.flag F.ACC_CFG_ANON_READ = true ∧ PlainRead p off s)
    ∧ (∃ s : State, ∃ r : FskReq, Ready s ∧ linkMay s = true ∧ Requested r 200 s ∧ r.data.length = 6 ∧ r.data.getD 0 0 = 0 ∧ 1 ≤ (r.data.getD 5 0).toNat ∧ (r.data.getD 5 0).toNat ≤ 16 ∧ s.flag F.ACC_CFG_ANON_READ = false)
    ∧ (∃ s : State, ∃ r : FskReq, ∃ sid, ∃ ctr, ∃ slot, ∃ x, ∃ p, ∃ off, ∃ e, ∃ w, ∃ front, ∃ mac, Ready s ∧ linkMay s = true ∧ Requested r 201 s ∧ 1 ≤ sid ∧ sid < 255 ∧ front = BitVec.ofNat 8 sid :: natBytes 4 ctr ++ natBytes 4 (0x40000000 + p * 0x400 + off) ++ [1] ++ bytesOfWord w ∧ r.data = front ++ mac ∧ mac.length = 16 ∧ SessionAccepts (masterKind r) 0 [] sid ctr ([0x00, 201] ++ front) mac slot x s ∧ PlainWrite (.fsk r.secondary sid) p off e w s)
    ∧ (∃ s : State, ∃ r : FskReq, ∃ sid, ∃ ctr, ∃ slot, ∃ x, ∃ page, ∃ front, ∃ mac, Ready s ∧ linkMay s = true ∧ Requested r 202 s ∧ 1 ≤ sid ∧ sid < 255 ∧ page < 0x80 ∧ (pageEnt page).isSome = true ∧ page ≠ 0x11 ∧ front = BitVec.ofNat 8 sid :: natBytes 4 ctr ++ [1, BitVec.ofNat 8 page] ∧ r.data = front ++ mac ∧ mac.length = 16 ∧ SessionAccepts (masterKind r) 0 [] sid ctr ([0x00, 202] ++ front) mac slot x s ∧ MayWrite (.fsk r.secondary sid) page 0x020 1 s)
    ∧ (∃ s : State, ∃ r : FskReq, ∃ b, ∃ u, Ready s ∧ linkMay s = true ∧ Requested r 203 s ∧ r.data ≠ [] ∧ r.data.length ≤ 64 ∧ sessionType r.data ≠ 0 ∧ sessionMsg (masterKind r) 0 [] r.data { s with fsk.lp := [] } = (u, some b))
    ∧ (∃ s : State, ∃ r : FskReq, Ready s ∧ linkMay s = true ∧ Requested r 203 s ∧ r.data ≠ [] ∧ r.data.length ≤ 64 ∧ sessionType r.data = 0)
    ∧ (∃ s : State, ∃ r : FskReq, Ready s ∧ linkMay s = true ∧ Requested r 203 s ∧ r.data = []) := by
  refine ⟨⟨{ up.putB F.ACC_CFG_ANON_READ true with fsk.lp := [req 200 (0 :: natBytes 4 (0x40000000 + 7 * 0x400 + 0x044) ++ [1])] }, (req 200 (0 :: natBytes 4 (0x40000000 + 7 * 0x400 + 0x044) ++ [1])), 7, 0x44, by decide⟩,
    ⟨{ up.putB F.ACC_CFG_ANON_READ false with fsk.lp := [req 200 [0, 0, 0, 0, 0, 16]] }, (req 200 [0, 0, 0, 0, 0, 16]), by decide⟩,
    ⟨{ up.put F.SYS_GEN_GEN 2 with fsk.lp := [req 201 ((1 :: natBytes 4 1 ++ natBytes 4 (0x40000000 + 7 * 0x400 + 0x040) ++ [1] ++ bytesOfWord 5) ++ hmac16 [1] ([0x00, 201] ++ (1 :: natBytes 4 1 ++ natBytes 4 (0x40000000 + 7 * 0x400 + 0x040) ++ [1] ++ bytesOfWord 5)))], acc.sessions := [(0, sess 5 0 [])] }, (req 201 ((1 :: natBytes 4 1 ++ natBytes 4 (0x40000000 + 7 * 0x400 + 0x040) ++ [1] ++ bytesOfWord 5) ++ hmac16 [1] ([0x00, 201] ++ (1 :: natBytes 4 1 ++ natBytes 4 (0x40000000 + 7 * 0x400 + 0x040) ++ [1] ++ bytesOfWord 5)))), 1, 1, 0, sess 5 0 [], 7, 0x40, ((regEnt 0x07 0x040).get (by decide)).1, 5, (1 :: natBytes 4 1 ++ natBytes 4 (0x40000000 + 7 * 0x400 + 0x040) ++ [1] ++ bytesOfWord 5), hmac16 [1] ([0x00, 201] ++ (1 :: natBytes 4 1 ++ natBytes 4 (0x40000000 + 7 * 0x400 + 0x040) ++ [1] ++ bytesOfWord 5)), by decide, by decide, by decide, by decide, by decide, by decide, by decide, by decide, by decide, ⟨by decide, by decide, by decide, by decide, by decide, ⟨0, by decide⟩, by decide, by decide, by decide, by decide, by decide⟩⟩,
    ⟨{ up.put F.SYS_GEN_GEN 2 with fsk.lp := [req 202 ((1 :: natBytes 4 1 ++ [1, 7]) ++ hmac16 [1] ([0x00, 202] ++ (1 :: natBytes 4 1 ++ [1, 7])))], acc.sessions := [(0, sess 5 0 [])] }, (req 202 ((1 :: natBytes 4 1 ++ [1, 7]) ++ hmac16 [1] ([0x00, 202] ++ (1 :: natBytes 4 1 ++ [1, 7])))), 1, 1, 0, sess 5 0 [], 7, (1 :: natBytes 4 1 ++ [1, 7]), hmac16 [1] ([0x00, 202] ++ (1 :: natBytes 4 1 ++ [1, 7])), by decide⟩,
    ⟨{ up with fsk.lp := [req 203 [1, 0, 0, 0, 0, 0, 0, 0, 0, 0, 0, 0, 0, 0, 0, 0, 0, 0]] }, (req 203 [1, 0, 0, 0, 0, 0, 0, 0, 0, 0, 0, 0, 0, 0, 0, 0, 0, 0]), (sessionMsg 5 0 [] [1, 0, 0, 0, 0, 0, 0, 0, 0, 0, 0, 0, 0, 0, 0, 0, 0, 0] { { up with fsk.lp := [req 203 [1, 0, 0, 0, 0, 0, 0, 0, 0, 0, 0, 0, 0, 0, 0, 0, 0, 0]] } with fsk.lp := [] }).2.getD [], (sessionMsg 5 0 [] [1, 0, 0, 0, 0, 0, 0, 0, 0, 0, 0, 0, 0, 0, 0, 0, 0, 0] { { up with fsk.lp := [req 203 [1, 0, 0, 0, 0, 0, 0, 0, 0, 0, 0, 0, 0, 0, 0, 0, 0, 0]] } with fsk.lp := [] }).1, by decide⟩,
    ⟨{ up with fsk.lp := [req 203 [9]] }, (req 203 [9]), by decide⟩,
    ⟨{ up with fsk.lp := [req 203 []] }, (req 203 []), by decide⟩⟩

/-- The hypotheses of `Obligations.LinkEvents` can be met. -/
theorem witness_link_events :
    (∃ s : State, Ready s ∧ gen s = 3 ∧ pstate s ≠ 3 ∧ s.flag F.TPHY_STAT_LINK = false ∧ s.flag F.TPHY_CFG_AN_EN = true)
    ∧ (∃ s : State, Ready s ∧ (gen s ≠ 3 ∨ s.flag F.TPHY_STAT_LINK = true))
    ∧ (∃ s : State, Ready s ∧ linkUp s = true ∧ RecordsOnly 0x31 s)
    ∧ (∃ s : State, Ready s ∧ linkUp s = false)
    ∧ (∃ s : State, Ready s ∧ linkUp s = true ∧ s.get F.TPHY_STAT_SQI < s.get F.TPHY_CFG_SQI_MIN ∧ s.link.sqiLow = false)
    ∧ (∃ s : State, Ready s ∧ (s.link.sqiLow = true ∨ s.get F.TPHY_CFG_SQI_MIN ≤ s.get F.TPHY_STAT_SQI)) := by
  refine ⟨⟨(up.put F.SYS_GEN_GEN 3).putB F.TPHY_CFG_AN_EN true, by decide⟩,
    ⟨up, by decide⟩,
    ⟨logOnly 0x31 ((up.put F.SYS_GEN_GEN 3).putB F.TPHY_STAT_LINK true), by decide⟩,
    ⟨up, by decide⟩,
    ⟨(((up.put F.SYS_GEN_GEN 3).putB F.TPHY_STAT_LINK true).put F.TPHY_CFG_SQI_MIN 2).put F.TPHY_STAT_SQI 1, by decide⟩,
    ⟨{ up with link.sqiLow := true }, by decide⟩⟩

/-- The hypotheses of `Obligations.ReceiveFilters` can be met. -/
theorem witness_receive_filters :
    (∃ s : State, ∃ f : MacFrame, Ready s ∧ linkUp s = true ∧ pstate s = 0 ∧ s.armedAt 0x15 1 = false ∧ f.fcsOk = false)
    ∧ (∃ s : State, ∃ f : MacFrame, Ready s ∧ linkUp s = true ∧ pstate s = 0 ∧ s.armedAt 0x15 1 = false ∧ f.fcsOk = true ∧ (f.len < 64 ∨ 1522 < f.len))
    ∧ (∃ s : State, ∃ f : MacFrame, Ready s ∧ linkUp s = true ∧ pstate s = 0 ∧ s.armedAt 0x15 1 = false ∧ f.fcsOk = true ∧ 64 ≤ f.len ∧ f.len ≤ 1522 ∧ dstPasses s f.dst = false)
    ∧ (∃ s : State, ∃ f : MacFrame, Ready s ∧ linkUp s = true ∧ pstate s = 0 ∧ s.armedAt 0x15 1 = false ∧ f.fcsOk = true ∧ 64 ≤ f.len ∧ f.len ≤ 1522 ∧ dstPasses s f.dst = true ∧ vlanPasses s f.vlan = false)
    ∧ (∃ s : State, ∃ f : MacFrame, Ready s ∧ linkUp s = true ∧ pstate s = 0 ∧ s.armedAt 0x15 1 = false ∧ f.fcsOk = true ∧ 64 ≤ f.len ∧ f.len ≤ 1522 ∧ dstPasses s f.dst = true ∧ vlanPasses s f.vlan = true ∧ (f.etherType = 0x88BA ∨ f.etherType = 0x88B8))
    ∧ (∃ s : State, ∃ f : MacFrame, Ready s ∧ linkUp s = true ∧ pstate s = 0 ∧ s.armedAt 0x15 1 = false ∧ f.fcsOk = true ∧ 64 ≤ f.len ∧ f.len ≤ 1522 ∧ dstPasses s f.dst = true ∧ vlanPasses s f.vlan = true ∧ f.etherType ≠ 0x88BA ∧ f.etherType ≠ 0x88B8 ∧ typePasses s f.etherType = false)
    ∧ (∃ s : State, ∃ f : MacFrame, ∃ m : PtpMsg, Ready s ∧ linkUp s = true ∧ pstate s = 0 ∧ s.armedAt 0x15 1 = false ∧ f.fcsOk = true ∧ 64 ≤ f.len ∧ f.len ≤ 1522 ∧ dstPasses s f.dst = true ∧ vlanPasses s f.vlan = true ∧ f.etherType = 0x88F7 ∧ (sourceRate f.src s).2 = true ∧ s.link.ptpQ.length < 4 ∧ f.payload = .ptp (s.get F.PTP_CFG_DOMAIN) m ∧ m ≠ .endToEnd ∧ m ≠ .other ∧ ptpAddr f.dst m = true)
    ∧ (∃ s : State, ∃ f : MacFrame, ∃ d : Nat, ∃ m : PtpMsg, Ready s ∧ linkUp s = true ∧ pstate s = 0 ∧ s.armedAt 0x15 1 = false ∧ f.fcsOk = true ∧ 64 ≤ f.len ∧ f.len ≤ 1522 ∧ dstPasses s f.dst = true ∧ vlanPasses s f.vlan = true ∧ f.etherType = 0x88F7 ∧ f.payload = .ptp d m ∧ (d ≠ s.get F.PTP_CFG_DOMAIN ∨ m = .endToEnd ∨ m = .other ∨ ptpAddr f.dst m = false))
    ∧ (∃ s : State, ∃ f : MacFrame, ∃ v, ∃ ip, Ready s ∧ linkUp s = true ∧ pstate s = 0 ∧ s.armedAt 0x15 1 = false ∧ f.fcsOk = true ∧ 64 ≤ f.len ∧ f.len ≤ 1522 ∧ dstPasses s f.dst = true ∧ vlanPasses s f.vlan = true ∧ f.etherType = 0x0806 ∧ typePasses s 0x0806 = true ∧ (sourceRate f.src s).2 = true ∧ 28800 ≤ s.link.gtok ∧ s.link.genQ.length < 16 ∧ f.payload = .arpRequest v ip) := by
  refine ⟨⟨(up.put F.SYS_GEN_GEN 3).putB F.TPHY_STAT_LINK true, { frame 0x0806 .other with fcsOk := false }, by decide⟩,
    ⟨(up.put F.SYS_GEN_GEN 3).putB F.TPHY_STAT_LINK true, { frame 0x0806 .other with len := 63 }, by decide⟩,
    ⟨(up.put F.SYS_GEN_GEN 3).putB F.TPHY_STAT_LINK true, { frame 0x0806 .other with dst := 5 }, by decide⟩,
    ⟨(up.put F.SYS_GEN_GEN 3).putB F.TPHY_STAT_LINK true, { frame 0x0806 .other with vlan := some 7 }, by decide⟩,
    ⟨(up.put F.SYS_GEN_GEN 3).putB F.TPHY_STAT_LINK true, frame 0x88BA .other, by decide⟩,
    ⟨(up.put F.SYS_GEN_GEN 3).putB F.TPHY_STAT_LINK true, frame 0x9999 .other, by decide⟩,
    ⟨(up.put F.SYS_GEN_GEN 3).putB F.TPHY_STAT_LINK true, { frame 0x88F7 (.ptp (up.get F.PTP_CFG_DOMAIN) (.pdelayReq 0)) with dst := 0x0180C200000E }, .pdelayReq 0, by decide⟩,
    ⟨(up.put F.SYS_GEN_GEN 3).putB F.TPHY_STAT_LINK true, { frame 0x88F7 (.ptp (up.get F.PTP_CFG_DOMAIN) (.followUp 1 1 0)) with dst := 0x0180C200000E }, up.get F.PTP_CFG_DOMAIN, .followUp 1 1 0, by decide⟩,
    ⟨{ ((up.put F.SYS_GEN_GEN 3).putB F.TPHY_STAT_LINK true).putB F.MAC_FILT_IPV4_EN true with link.gtok := 28800 }, { frame 0x0806 (.arpRequest 1 2) with len := 1522 }, 1, 2, by decide⟩⟩

/-- The hypotheses of `Obligations.PtpMessages` can be met. -/
theorem witness_ptp_messages :
    (∃ s : State, ∃ m, ∃ q, ∃ t1, ∃ t2, ∃ ph, ∃ fr, Ready s ∧ ptpHead s = some (.sync m q true t1 t2 ph fr) ∧ syncCounts m s = true)
    ∧ (∃ s : State, ∃ m, ∃ q, ∃ t1, ∃ t2, ∃ ph, ∃ fr, ∃ off, Ready s ∧ ptpHead s = some (.sync m q false t1 t2 ph fr) ∧ syncCounts m s = true ∧ s.armedAt 0x16 1 = false ∧ s.get F.TICK_STAT_STATE ≠ 2 ∧ s.flag F.TICK_CFG_PTP_EN = false ∧ off = t2 / 8 * 8 - s.otp.phyRx - t1 - (s.get F.PTP_PDELAY_NS : Int) - s.getI F.PTP_ASYM_NS ∧ -1000000 ≤ off ∧ off ≤ 1000000)
    ∧ (∃ s : State, ∃ m, ∃ q, ∃ t1, ∃ t2, ∃ ph, ∃ fr, ∃ age, ∃ off, Ready s ∧ ptpHead s = some (.followUp m q t1) ∧ s.link.wait = some (m, q, t2, ph, fr, age) ∧ age ≤ 28800 ∧ syncCounts m s = true ∧ s.armedAt 0x16 1 = false ∧ s.get F.TICK_STAT_STATE ≠ 2 ∧ s.flag F.TICK_CFG_PTP_EN = false ∧ off = t2 / 8 * 8 - s.otp.phyRx - t1 - (s.get F.PTP_PDELAY_NS : Int) - s.getI F.PTP_ASYM_NS ∧ -1000000 ≤ off ∧ off ≤ 1000000)
    ∧ (∃ s : State, ∃ m, ∃ q, ∃ t1, Ready s ∧ ptpHead s = some (.followUp m q t1) ∧ s.link.wait = none)
    ∧ (∃ s : State, ∃ a : Announce, Ready s ∧ ptpHead s = some (.announce a) ∧ (∀ f, f ∈ s.link.foreign → f.ann.sender ≠ a.sender) ∧ s.link.foreign.length < 4)
    ∧ (∃ s : State, ∃ f : MacFrame, ∃ d : Nat, ∃ t2 : Int, ∃ rest : List MacFrame, Ready s ∧ s.link.ptpQ = f :: rest ∧ f.payload = .ptp d (.pdelayReq t2) ∧ 92 ≤ s.get F.MAC_TX_GAP)
    ∧ (∃ s : State, Ready s ∧ linkUp s = true ∧ s.link.pdOut = false ∧ 92 ≤ s.get F.MAC_TX_GAP ∧ 28800 < s.link.pdSince + tickUnits s)
    ∧ (∃ s : State, Ready s ∧ (linkUp s = false ∨ s.link.pdSince + tickUnits s ≤ 28800))
    ∧ (∃ s : State, ∃ t1 : Int, ∃ t4 : Int, ∃ turn : Int, ∃ d : Int, Ready s ∧ ptpHead s = some (.pdelayResp t1 t4 turn) ∧ s.link.pdOut = true ∧ d = (t4 / 8 * 8 - s.otp.phyRx - (t1 / 8 * 8 + s.otp.phyTx) - turn) / 2 ∧ 0 ≤ d ∧ d ≤ (s.get F.PTP_PDMAX_NS : Int) ∧ s.get F.PTP_CFG_PD_AVG = 1) := by
  refine ⟨⟨{ up.putB F.PTP_STAT_PD_VALID true with link.ptpQ := [frame 0x88F7 (.ptp 0 (.sync 1 1 true 0 0 0 0))], link.sel := some 1 }, 1, 1, 0, 0, 0, 0, by decide⟩,
    ⟨{ (up.putB F.PTP_STAT_PD_VALID true).putB F.TICK_CFG_PTP_EN false with link.ptpQ := [frame 0x88F7 (.ptp 0 (.sync 1 1 false 0 1000000 0 0))], link.sel := some 1 }, 1, 1, 0, 1000000, 0, 0, 1000000, by decide⟩,
    ⟨{ (up.putB F.PTP_STAT_PD_VALID true).putB F.TICK_CFG_PTP_EN false with link.ptpQ := [frame 0x88F7 (.ptp 0 (.followUp 1 1 0))], link.sel := some 1, link.wait := some (1, 1, -1000000, 0, 0, 28800) }, 1, 1, 0, -1000000, 0, 0, 28800, -1000000, by decide⟩,
    ⟨{ up with link.ptpQ := [frame 0x88F7 (.ptp 0 (.followUp 1 1 0))] }, 1, 1, 0, by decide⟩,
    ⟨{ up with link.ptpQ := [frame 0x88F7 (.ptp 0 (.announce { sender := 1, gmId := 1, p1 := 128, gmClass := 6, accuracy := 33, variance := 0, p2 := 128, steps := 0, utcOffset := 37 }))] }, { sender := 1, gmId := 1, p1 := 128, gmClass := 6, accuracy := 33, variance := 0, p2 := 128, steps := 0, utcOffset := 37 }, by decide⟩,
    ⟨{ up.put F.MAC_TX_GAP 92 with link.ptpQ := [frame 0x88F7 (.ptp 0 (.pdelayReq 8))] }, frame 0x88F7 (.ptp 0 (.pdelayReq 8)), 0, 8, [], by decide⟩,
    ⟨((up.put F.SYS_GEN_GEN 3).putB F.TPHY_STAT_LINK true).put F.MAC_TX_GAP 92, by decide⟩,
    ⟨up, by decide⟩,
    ⟨{ up.put F.PTP_CFG_PD_AVG 1 with link.ptpQ := [frame 0x88F7 (.ptp 0 (.pdelayResp 0 (2 * (up.otp.phyTx + up.otp.phyRx) + 8) 0))], link.pdOut := true }, 0, 2 * (up.otp.phyTx + up.otp.phyRx) + 8, 0, ((2 * (up.otp.phyTx + up.otp.phyRx) + 8) / 8 * 8 - up.otp.phyRx - up.otp.phyTx) / 2, by decide⟩⟩

/-- The hypotheses of `Obligations.PtpTimeouts` can be met. -/
theorem witness_ptp_timeouts :
    (∃ s : State, Ready s ∧ s.link.up = true ∧ s.get F.PTP_CFG_SYNC_LOSS * 28800 ≤ s.link.sinceMeas)
    ∧ (∃ s : State, Ready s ∧ (s.link.up = false ∨ s.link.sinceMeas < s.get F.PTP_CFG_SYNC_LOSS * 28800))
    ∧ (∃ s : State, ∃ m, ∃ f : Foreign, Ready s ∧ s.link.sel = some m ∧ s.link.foreign.find? (fun x => x.ann.sender == m) = some f ∧ 3 * 28800 ≤ f.ages.headD 0)
    ∧ (∃ s : State, Ready s ∧ s.link.sel = none)
    ∧ (∃ s : State, ∃ path, ∃ w, Ready s ∧ MayWrite path 0x16 0x050 w s ∧ s.get F.TICK_STAT_SRC ≠ 2)
    ∧ (∃ s : State, ∃ path, ∃ w, Ready s ∧ MayWrite path 0x16 0x050 w s ∧ s.get F.TICK_STAT_SRC = 2)
    ∧ (∃ s : State, ∃ path, Ready s ∧ MayRead path 0x16 s) := by
  refine ⟨⟨{ up with link.up := true, link.sinceMeas := 28800 * 63 }, by decide⟩,
    ⟨up, by decide⟩,
    ⟨{ up with link.sel := some 1, link.foreign := [⟨{ sender := 1, gmId := 1, p1 := 128, gmClass := 6, accuracy := 33, variance := 0, p2 := 128, steps := 0, utcOffset := 37 }, [86400]⟩] }, 1, ⟨{ sender := 1, gmId := 1, p1 := 128, gmClass := 6, accuracy := 33, variance := 0, p2 := 128, steps := 0, utcOffset := 37 }, [86400]⟩, by decide⟩,
    ⟨up, by decide⟩,
    ⟨up.put F.SYS_GEN_GEN 3, .spi, 0, by decide⟩,
    ⟨(up.put F.SYS_GEN_GEN 3).put F.TICK_STAT_SRC 2, .spi, 0, by decide⟩,
    ⟨up.put F.SYS_GEN_GEN 3, .spi, by decide⟩⟩

/-- The hypotheses of `Obligations.FramesAndNeighbours` can be met. -/
theorem witness_frames_and_neighbours :
    (∃ s : State, ∃ ns, ∃ f, Ready s ∧ s.pub.sv = [] ∧ nextFrame s = some f ∧ linkUp s = true ∧ s.pub.busy ≤ ns ∧ (∀ d, svDeadline s = some d → ns + 800 * f.wire < d))
    ∧ (∃ s : State, ∃ ns, ∃ f : TxFrame, ∃ d : Nat, Ready s ∧ s.pub.sv = [] ∧ nextFrame s = some f ∧ svDeadline s = some d ∧ d ≤ ns + 800 * f.wire)
    ∧ (∃ s : State, ∃ ns, ∃ f, Ready s ∧ s.pub.sv = [] ∧ nextFrame s = some f ∧ ns < s.pub.busy)
    ∧ (∃ s : State, ∃ m : List Nat, Ready s ∧ gooseRuns s = true ∧ s.pub.members = some m ∧ gooseWire s.get ≤ s.get F.MAC_TX_GAP ∧ s.pub.interval * 288 < 10 * (s.pub.since + tickUnits s))
    ∧ (∃ s : State, Ready s ∧ (gooseRuns s = false ∨ 10 * (s.pub.since + tickUnits s) ≤ s.pub.interval * 288))
    ∧ (∃ s : State, ∃ v, ∃ ip, Ready s ∧ genPayload s = some (.neighbourSol v ip) ∧ (ip6Own s).contains ip = true ∧ wireBytes 72 ≤ s.get F.MAC_TX_GAP)
    ∧ (∃ s : State, ∃ v, ∃ ip, Ready s ∧ genPayload s = some (.neighbourSol v ip) ∧ (ip6Own s).contains ip = false)
    ∧ (∃ s : State, ∃ v, ∃ ip, Ready s ∧ genPayload s = some (.arpRequest v ip) ∧ ownIp s false ip = true ∧ wireBytes 28 ≤ s.get F.MAC_TX_GAP)
    ∧ (∃ s : State, ∃ v, ∃ ip, Ready s ∧ genPayload s = some (.arpRequest v ip) ∧ ownIp s false ip = false)
    ∧ (∃ s : State, ∃ v6, ∃ src, ∃ dst, ∃ d, ∃ f : TxFrame, Ready s ∧ genPayload s = some (.echo v6 src dst d) ∧ ownIp s v6 dst = true ∧ f.wire ≤ s.get F.MAC_TX_GAP ∧ f = { plainTx ((if v6 then 48 else 28) + d.length) (.echoReply src d) with hop := some ⟨v6, if onLink s v6 src then src else gatewayOf s v6, 64⟩ } ∧ resolved s (hopTo s v6 src) = true)
    ∧ (∃ s : State, ∃ v6 : Bool, ∃ src, ∃ dst, ∃ d : List Byte, ∃ f : TxFrame, Ready s ∧ genPayload s = some (.echo v6 src dst d) ∧ ownIp s v6 dst = true ∧ f.wire ≤ s.get F.MAC_TX_GAP ∧ f = { plainTx ((if v6 then 48 else 28) + d.length) (.echoReply src d) with hop := some ⟨v6, if onLink s v6 src then src else gatewayOf s v6, 64⟩ } ∧ resolved s (hopTo s v6 src) = false)
    ∧ (∃ s : State, ∃ v6, ∃ src, ∃ dst, ∃ d, Ready s ∧ genPayload s = some (.echo v6 src dst d) ∧ ownIp s v6 dst = false)
    ∧ (∃ s : State, ∃ n, Ready s ∧ linkUp s = true ∧ s.flag F.MAC_FILT_IPV6_EN = true ∧ n < 2 ∧ s.link.dadFailed.contains n = false)
    ∧ (∃ s : State, ∃ n, Ready s ∧ 2 ≤ n) := by
  refine ⟨⟨{ (up.put F.SYS_GEN_GEN 3).putB F.TPHY_STAT_LINK true with link.tx := [ptpTx (.pdelayReq 0x0180C200000E)] }, 0, ptpTx (.pdelayReq 0x0180C200000E), by decide, by decide, by decide, by decide, by decide, by intro d h; exact absurd h (by rw [show svDeadline _ = none from by decide]; simp)⟩,
    ⟨{ up with link.tx := [ptpTx (.pdelayReq 0x0180C200000E)], pub.ticks := [⟨0, some 0, [(regKey F.PUB_CFG_STREAM_EN.page F.PUB_CFG_STREAM_EN.off, BitVec.ofNat 32 (2 ^ F.PUB_CFG_STREAM_EN.lo))]⟩] }, 800000, ptpTx (.pdelayReq 0x0180C200000E), 833332, by decide⟩,
    ⟨{ up with link.tx := [ptpTx (.pdelayReq 0x0180C200000E)], pub.busy := 1 }, 0, ptpTx (.pdelayReq 0x0180C200000E), by decide⟩,
    ⟨{ ((up.put F.SYS_GEN_GEN 3).putB F.TPHY_STAT_LINK true).putB F.PUB_CFG_GOOSE_EN true with pub.members := some [] }, [], by decide⟩,
    ⟨up, by decide⟩,
    ⟨{ up.putB F.MAC_FILT_IPV6_EN true with link.genQ := [frame 0x0806 (.neighbourSol 1 (linkLocal 0))] }, 1, linkLocal 0, by decide⟩,
    ⟨{ up with link.genQ := [frame 0x0806 (.neighbourSol 1 5)] }, 1, 5, by decide⟩,
    ⟨{ up.putB F.MAC_FILT_IPV4_EN true with link.genQ := [frame 0x0806 (.arpRequest 1 0)] }, 1, 0, by decide⟩,
    ⟨{ up with link.genQ := [frame 0x0806 (.arpRequest 1 5)] }, 1, 5, by decide⟩,
    ⟨{ up.putB F.MAC_FILT_IPV4_EN true with link.genQ := [frame 0x0806 (.echo false 1 0 [1])], link.nbrs := [(false, 1, 2)] }, false, 1, 0, [1], { plainTx 29 (.echoReply 1 [1]) with hop := some ⟨false, 1, 64⟩ }, by decide⟩,
    ⟨{ up.putB F.MAC_FILT_IPV4_EN true with link.genQ := [frame 0x0806 (.echo false 1 0 [1])] }, false, 1, 0, [1], { plainTx 29 (.echoReply 1 [1]) with hop := some ⟨false, 1, 64⟩ }, by decide⟩,
    ⟨{ up with link.genQ := [frame 0x0806 (.echo false 1 5 [1])] }, false, 1, 5, [1], by decide⟩,
    ⟨((up.put F.SYS_GEN_GEN 3).putB F.TPHY_STAT_LINK true).putB F.MAC_FILT_IPV6_EN true, 1, by decide⟩,
    ⟨up, 2, by decide⟩⟩

/-- The hypotheses of `Obligations.YrapRequests` can be met. -/
theorem witness_yrap_requests :
    (∃ s : State, ∃ m : YrapReq, Ready s ∧ yrapHead s = some m ∧ m.fits = true ∧ m.status = 0 ∧ linkMay s = false)
    ∧ (∃ s : State, ∃ m : YrapReq, ∃ p, ∃ off, Ready s ∧ yrapHead s = some m ∧ m.fits = true ∧ m.status = 0 ∧ linkMay s = true ∧ resolved s (hopTo s m.v6 m.ip) = true ∧ m.op = 1 ∧ m.sid = 0 ∧ m.ctr = 0 ∧ m.len = 8 ∧ m.body = natBytes 4 (0x40000000 + p * 0x400 + off) ++ [1, 0, 0, 0] ∧ s.flag F.ACC_CFG_ANON_READ = true ∧ sessionOf s 0 = none ∧ PlainRead p off s ∧ yrapWire m.vlan m.v6 8 false ≤ s.get F.MAC_TX_GAP)
    ∧ (∃ s : State, ∃ m : YrapReq, ∃ slot, ∃ x, ∃ p, ∃ off, ∃ e, ∃ w, Ready s ∧ yrapHead s = some m ∧ m.fits = true ∧ m.status = 0 ∧ linkMay s = true ∧ m.op = 2 ∧ m.sid ≠ 0 ∧ m.len = 12 ∧ m.body = natBytes 4 (0x40000000 + p * 0x400 + off) ++ [1, 0, 0, 0] ++ bytesOfWord w ∧ SessionAccepts 4 m.port (ipBytes m.v6 m.ip) m.sid m.ctr (0x00 :: m.front) m.mac slot x s ∧ PlainWrite (.yrap m.sid) p off e w s)
    ∧ (∃ s : State, ∃ m : YrapReq, Ready s ∧ yrapHead s = some m ∧ m.fits = true ∧ m.status = 0 ∧ linkMay s = true ∧ resolved s (hopTo s m.v6 m.ip) = true ∧ m.op = 2 ∧ m.sid = 0 ∧ m.ctr = 0 ∧ m.len = 12 ∧ (m.body.getD 4 0).toNat = 1 ∧ ((m.body.drop 5).take 3).any (· != 0) = false ∧ yrapWire m.vlan m.v6 0 false ≤ s.get F.MAC_TX_GAP ∧ replyKey s 0 = none)
    ∧ (∃ s : State, ∃ m : YrapReq, ∃ slot, ∃ x, ∃ page, Ready s ∧ yrapHead s = some m ∧ m.fits = true ∧ m.status = 0 ∧ linkMay s = true ∧ m.op = 3 ∧ m.sid ≠ 0 ∧ m.len = 2 ∧ m.body = [1, BitVec.ofNat 8 page] ∧ page < 0x80 ∧ (pageEnt page).isSome = true ∧ page ≠ 0x11 ∧ SessionAccepts 4 m.port (ipBytes m.v6 m.ip) m.sid m.ctr (0x00 :: m.front) m.mac slot x s ∧ MayWrite (.yrap m.sid) page 0x020 1 s)
    ∧ (∃ s : State, ∃ m : YrapReq, ∃ u, ∃ b, Ready s ∧ yrapHead s = some m ∧ m.fits = true ∧ m.status = 0 ∧ resolved u (hopTo u m.v6 m.ip) = true ∧ m.op = 4 ∧ m.sid = 0 ∧ m.ctr = 0 ∧ sessionMsg 4 m.port (ipBytes m.v6 m.ip) m.body (genPop s) = (u, some b) ∧ yrapWire m.vlan m.v6 b.length false ≤ s.get F.MAC_TX_GAP)
    ∧ (∃ s : State, ∃ m : YrapReq, ∃ slot, ∃ x, ∃ ctr : Nat, ∃ gap : Nat, Ready s ∧ yrapHead s = some m ∧ m.fits = true ∧ m.status = 0 ∧ notifySession s = some (slot, x) ∧ linkUp s = true ∧ ctr = satTo 0xFFFFFFFF (x.notifyCtr + 1) ∧ gap = s.acc.notifyGap + tickUnits s ∧ (anyEvent s = true ∨ anyTrap s = true) ∧ s.get F.ACC_SESS_NOTIFY_MS * 288 ≤ 10 * gap ∧ (28800 ≤ gap ∨ ∃ y, y ∈ (notifyWords s).zip (s.acc.notified ++ List.replicate 5 0) ∧ y.1 &&& ~~~ y.2 ≠ 0))
    ∧ (∃ s : State, ∃ m : YrapReq, Ready s ∧ yrapHead s = some m ∧ m.fits = true ∧ m.status = 0 ∧ 10 * (s.acc.notifyGap + tickUnits s) < s.get F.ACC_SESS_NOTIFY_MS * 288)
    ∧ (∃ s : State, ∃ m : YrapReq, Ready s ∧ yrapHead s = some m ∧ m.fits = true ∧ m.status = 0 ∧ notifySession s = none) := by
  refine ⟨⟨{ asked (dgram 1 0 0 (natBytes 4 (0x40000000 + 7 * 0x400 + 0x044) ++ [1, 0, 0, 0])) with plan.run := some (running 1 1) }, parsed (dgram 1 0 0 (natBytes 4 (0x40000000 + 7 * 0x400 + 0x044) ++ [1, 0, 0, 0])), by decide⟩,
    ⟨{ asked (dgram 1 0 0 (natBytes 4 (0x40000000 + 7 * 0x400 + 0x044) ++ [1, 0, 0, 0])) with link.nbrs := [(false, 7, 2)] }, parsed (dgram 1 0 0 (natBytes 4 (0x40000000 + 7 * 0x400 + 0x044) ++ [1, 0, 0, 0])), 7, 0x44, by decide⟩,
    ⟨{ asked (signed1 2 1 (natBytes 4 (0x40000000 + 7 * 0x400 + 0x040) ++ [1, 0, 0, 0] ++ bytesOfWord 5)) with acc.sessions := [(0, sess 4 9 [0, 0, 0, 7])] }, parsed (signed1 2 1 (natBytes 4 (0x40000000 + 7 * 0x400 + 0x040) ++ [1, 0, 0, 0] ++ bytesOfWord 5)), 0, sess 4 9 [0, 0, 0, 7], 7, 0x40, ((regEnt 0x07 0x040).get (by decide)).1, 5, by decide, by decide, by decide, by decide, by decide, by decide, by decide, by decide, by decide, by decide, ⟨by decide, by decide, by decide, by decide, by decide, ⟨0, by decide⟩, by decide, by decide, by decide, by decide, by decide⟩⟩,
    ⟨{ asked (dgram 2 0 0 (natBytes 4 (0x40000000 + 7 * 0x400 + 0x040) ++ [1, 0, 0, 0] ++ bytesOfWord 5)) with link.nbrs := [(false, 7, 2)] }, parsed (dgram 2 0 0 (natBytes 4 (0x40000000 + 7 * 0x400 + 0x040) ++ [1, 0, 0, 0] ++ bytesOfWord 5)), by decide⟩,
    ⟨{ asked (signed1 3 1 [1, 7]) with acc.sessions := [(0, sess 4 9 [0, 0, 0, 7])] }, parsed (signed1 3 1 [1, 7]), 0, sess 4 9 [0, 0, 0, 7], 7, by decide⟩,
    ⟨{ asked (dgram 4 0 0 [1, 0, 0, 0, 0, 0, 0, 0, 0, 0, 0, 0, 0, 0, 0, 0, 0, 0]) with link.nbrs := [(false, 7, 2)] }, parsed (dgram 4 0 0 [1, 0, 0, 0, 0, 0, 0, 0, 0, 0, 0, 0, 0, 0, 0, 0, 0, 0]), (sessionMsg 4 9 [0, 0, 0, 7] (parsed (dgram 4 0 0 [1, 0, 0, 0, 0, 0, 0, 0, 0, 0, 0, 0, 0, 0, 0, 0, 0, 0])).body (genPop ({ asked (dgram 4 0 0 [1, 0, 0, 0, 0, 0, 0, 0, 0, 0, 0, 0, 0, 0, 0, 0, 0, 0]) with link.nbrs := [(false, 7, 2)] }))).1, (sessionMsg 4 9 [0, 0, 0, 7] (parsed (dgram 4 0 0 [1, 0, 0, 0, 0, 0, 0, 0, 0, 0, 0, 0, 0, 0, 0, 0, 0, 0])).body (genPop ({ asked (dgram 4 0 0 [1, 0, 0, 0, 0, 0, 0, 0, 0, 0, 0, 0, 0, 0, 0, 0, 0, 0]) with link.nbrs := [(false, 7, 2)] }))).2.getD [], by decide⟩,
    ⟨{ (((asked (dgram 5 0 0 [])).put F.ACC_NOTIFY_SID 1).raise E.TICK_SRC_CHANGE).wr 0x05 0x014 0xFFFFFFFF with acc.sessions := [(0, sess 4 9 [0, 0, 0, 7])], acc.notifyGap := 100000 }, parsed (dgram 5 0 0 []), 0, sess 4 9 [0, 0, 0, 7], 1, 100000 + tickUnits up, by decide⟩,
    ⟨{ (asked (dgram 5 0 0 [])).put F.ACC_SESS_NOTIFY_MS 65535 with acc.notifyGap := 0 }, parsed (dgram 5 0 0 []), by decide⟩,
    ⟨asked (dgram 5 0 0 []), parsed (dgram 5 0 0 []), by decide⟩⟩

/-- The hypotheses of `Obligations.SessionMessages` can be met. -/
theorem witness_session_messages :
    (∃ s : State, ∃ kind : Nat, ∃ key : Nat, ∃ slot : Nat, ∃ k : KeySlot, freeSlot s = some slot ∧ s.otp.keys[key]? = some k ∧ k.programmed = true ∧ k.revoked = false ∧ underHold s kind = false)
    ∧ (∃ s : State, freeSlot s = none)
    ∧ (∃ s : State, ∃ key : Nat, ∃ slot : Nat, ∃ k : KeySlot, freeSlot s = some slot ∧ s.otp.keys[key]? = some k ∧ (k.programmed = false ∨ k.revoked = true))
    ∧ (∃ s : State, ∃ kind : Nat, ∃ port : Nat, ∃ peer : List Byte, ∃ sid, ∃ slot, ∃ x, ∃ mac, sessionOf s sid = some (slot, x) ∧ underHold s kind = false ∧ x.pending = true ∧ boundTo x kind port peer = true ∧ mac ≠ hmac16 x.sk ([0x03] ++ x.nonceD ++ idBytes s))
    ∧ (∃ s : State, ∃ kind : Nat, ∃ port : Nat, ∃ peer : List Byte, ∃ sid, ∃ slot, ∃ x, sessionOf s sid = some (slot, x) ∧ underHold s kind = false ∧ x.pending = true ∧ boundTo x kind port peer = true)
    ∧ (∃ s : State, ∃ kind : Nat, ∃ port : Nat, ∃ peer : List Byte, ∃ sid, ∃ ctr, ∃ slot, ∃ x, sessionOf s sid = some (slot, x) ∧ underHold s kind = false ∧ x.pending = false ∧ boundTo x kind port peer = true ∧ x.lastCtr < ctr)
    ∧ (∃ s : State, ∃ kind : Nat, ∃ sid, sessionOf s sid = none ∧ underHold s kind = false) := by
  refine ⟨⟨{ up with otp.keys := [{ programmed := true, revoked := false }] }, 4, 0, 0, { programmed := true, revoked := false }, by decide⟩,
    ⟨{ up with acc.sessions := [(0, sess 4 0 []), (1, sess 4 0 []), (2, sess 4 0 []), (3, sess 4 0 [])] }, by decide⟩,
    ⟨{ up with otp.keys := [{ programmed := true, revoked := true }] }, 0, 0, { programmed := true, revoked := true }, by decide⟩,
    ⟨{ up with acc.sessions := [(0, { sess 4 0 [] with pending := true })] }, 4, 0, [], 1, 0, { sess 4 0 [] with pending := true }, [], by decide⟩,
    ⟨{ up with acc.sessions := [(0, { sess 4 0 [] with pending := true })] }, 4, 0, [], 1, 0, { sess 4 0 [] with pending := true }, by decide⟩,
    ⟨{ up with acc.sessions := [(0, sess 4 0 [])] }, 4, 0, [], 1, 1, 0, sess 4 0 [], by decide⟩,
    ⟨up, 0, 0, by decide⟩⟩

/-- The hypotheses of `Obligations.SessionRows` can be met. -/
theorem witness_session_rows :
    (∃ s : State, ∃ x : Nat × (Bool → Instr), ∃ r, ∃ b, ∃ u, Ready s ∧ x ∈ [(1, Instr.hello), (3, Instr.prove), (5, Instr.close)] ∧ Requested r 203 s ∧ sessionType r.data = x.1 ∧ sessionMsg (masterKind r) 0 [] r.data { s with fsk.lp := [] } = (u, some b))
    ∧ (∃ s : State, ∃ x : Nat × (Bool → Instr), ∃ m, ∃ b, ∃ u, Ready s ∧ x ∈ [(1, Instr.hello), (3, Instr.prove), (5, Instr.close)] ∧ yrapHead s = some m ∧ m.fits = true ∧ m.status = 0 ∧ m.op = 4 ∧ m.sid = 0 ∧ m.ctr = 0 ∧ sessionType m.body = x.1 ∧ sessionMsg 4 m.port (ipBytes m.v6 m.ip) m.body (genPop s) = (u, some b))
    ∧ (∃ s : State, ∃ x : Nat × (Bool → Instr), Ready s ∧ x ∈ [(1, Instr.hello), (3, Instr.prove), (5, Instr.close)] ∧ yrapHead s = none)
    ∧ (∃ s : State, ∃ x : Nat × (Bool → Instr), Ready s ∧ x ∈ [(1, Instr.hello), (3, Instr.prove), (5, Instr.close)] ∧ s.fsk.lp = [])
    ∧ (∃ s : State, ∃ sid, ∃ slot, ∃ x, Ready s ∧ sessionOf s sid = some (slot, x) ∧ aget s.acc.sessions slot = some x ∧ x.pending = true ∧ x.idle = 0)
    ∧ (∃ s : State, ∃ sid, ∃ slot, ∃ x, Ready s ∧ sessionOf s sid = some (slot, x) ∧ aget s.acc.sessions slot = some x ∧ x.idle ≠ 0)
    ∧ (∃ s : State, ∃ sid, ∃ slot, ∃ x, Ready s ∧ sessionOf s sid = some (slot, x) ∧ aget s.acc.sessions slot = some x ∧ x.pending = false ∧ x.idle = 0)
    ∧ (∃ s : State, ∃ kind, Ready s ∧ max 1 (s.get F.ACC_CFG_AUTH_FAIL_MAX) ≤ (aget s.acc.fails kind).getD 0 ∧ aget s.acc.holds kind = none)
    ∧ (∃ s : State, ∃ kind, Ready s ∧ (aget s.acc.fails kind).getD 0 < max 1 (s.get F.ACC_CFG_AUTH_FAIL_MAX))
    ∧ (∃ s : State, ∃ kind, Ready s ∧ aget s.acc.holds kind = some 0)
    ∧ (∃ s : State, ∃ kind, Ready s ∧ aget s.acc.holds kind ≠ some 0) := by
  refine ⟨⟨{ up with fsk.lp := [req 203 [1, 0, 0, 0, 0, 0, 0, 0, 0, 0, 0, 0, 0, 0, 0, 0, 0, 0]] }, (1, .hello), req 203 [1, 0, 0, 0, 0, 0, 0, 0, 0, 0, 0, 0, 0, 0, 0, 0, 0, 0], (sessionMsg 5 0 [] [1, 0, 0, 0, 0, 0, 0, 0, 0, 0, 0, 0, 0, 0, 0, 0, 0, 0] { { up with fsk.lp := [req 203 [1, 0, 0, 0, 0, 0, 0, 0, 0, 0, 0, 0, 0, 0, 0, 0, 0, 0]] } with fsk.lp := [] }).2.getD [], (sessionMsg 5 0 [] [1, 0, 0, 0, 0, 0, 0, 0, 0, 0, 0, 0, 0, 0, 0, 0, 0, 0] { { up with fsk.lp := [req 203 [1, 0, 0, 0, 0, 0, 0, 0, 0, 0, 0, 0, 0, 0, 0, 0, 0, 0]] } with fsk.lp := [] }).1, by decide, by simp, by decide, by decide, by decide⟩,
    ⟨asked (dgram 4 0 0 [1, 0, 0, 0, 0, 0, 0, 0, 0, 0, 0, 0, 0, 0, 0, 0, 0, 0]), (1, .hello), parsed (dgram 4 0 0 [1, 0, 0, 0, 0, 0, 0, 0, 0, 0, 0, 0, 0, 0, 0, 0, 0, 0]), (sessionMsg 4 9 [0, 0, 0, 7] (parsed (dgram 4 0 0 [1, 0, 0, 0, 0, 0, 0, 0, 0, 0, 0, 0, 0, 0, 0, 0, 0, 0])).body (genPop (asked (dgram 4 0 0 [1, 0, 0, 0, 0, 0, 0, 0, 0, 0, 0, 0, 0, 0, 0, 0, 0, 0])))).2.getD [], (sessionMsg 4 9 [0, 0, 0, 7] (parsed (dgram 4 0 0 [1, 0, 0, 0, 0, 0, 0, 0, 0, 0, 0, 0, 0, 0, 0, 0, 0, 0])).body (genPop (asked (dgram 4 0 0 [1, 0, 0, 0, 0, 0, 0, 0, 0, 0, 0, 0, 0, 0, 0, 0, 0, 0])))).1, by decide, by simp, by decide, by decide, by decide, by decide, by decide, by decide, by decide, by decide⟩,
    ⟨up, (3, .prove), by decide, by simp, by decide⟩,
    ⟨up, (5, .close), by decide, by simp, by decide⟩,
    ⟨{ up with acc.sessions := [(0, { sess 4 0 [] with pending := true, idle := 0 })] }, 1, 0, { sess 4 0 [] with pending := true, idle := 0 }, by decide⟩,
    ⟨{ up with acc.sessions := [(0, sess 4 0 [])] }, 1, 0, sess 4 0 [], by decide⟩,
    ⟨{ up with acc.sessions := [(0, { sess 4 0 [] with idle := 0 })] }, 1, 0, { sess 4 0 [] with idle := 0 }, by decide⟩,
    ⟨{ up with acc.fails := [(4, 15)] }, 4, by decide⟩,
    ⟨up, 0, by decide⟩,
    ⟨{ up with acc.holds := [(4, 0)] }, 4, by decide⟩,
    ⟨up, 0, by decide⟩⟩

/-- The hypotheses of `Obligations.KeyStorage` can be met. -/
theorem witness_key_storage :
    (∃ s : State, ∃ path : Path, ∃ w, Ready s ∧ MayWrite path 0x18 0x098 w s ∧ s.acc.keyBuf.length < 16)
    ∧ (∃ s : State, ∃ path : Path, ∃ w, Ready s ∧ MayWrite path 0x18 0x098 w s ∧ 16 ≤ s.acc.keyBuf.length)
    ∧ (∃ s : State, ∃ path : Path, ∃ slot, ∃ role, ∃ k : KeySlot, Ready s ∧ slot < 8 ∧ role < 4 ∧ MayWrite path 0x18 0x09C (opWord 1 (role * 16 + slot)) s ∧ s.otp.keys[slot]? = some k ∧ k.programmed = false ∧ s.acc.keyBuf.length = 8)
    ∧ (∃ s : State, ∃ path : Path, ∃ slot, ∃ role, ∃ k : KeySlot, Ready s ∧ slot < 8 ∧ role < 4 ∧ MayWrite path 0x18 0x09C (opWord 1 (role * 16 + slot)) s ∧ s.otp.keys[slot]? = some k ∧ k.programmed = true)
    ∧ (∃ s : State, ∃ path : Path, ∃ slot, ∃ k : KeySlot, Ready s ∧ slot < 2 ∧ MayWrite path 0x18 0x09C (opWord 2 slot) s ∧ s.otp.mkeys[slot]? = some k ∧ k.programmed = false ∧ s.acc.keyBuf.length = 16)
    ∧ (∃ s : State, ∃ path : Path, ∃ slot, ∃ k : KeySlot, Ready s ∧ slot < 8 ∧ MayWrite path 0x18 0x09C (opWord 3 slot) s ∧ s.otp.keys[slot]? = some k ∧ k.programmed = true ∧ (∀ e, e ∈ s.acc.sessions → e.2.key ≠ slot))
    ∧ (∃ s : State, ∃ path : Path, ∃ slot, ∃ x, Ready s ∧ slot < 8 ∧ MayWrite path 0x18 0x09C (opWord 3 slot) s ∧ (∃ k, s.otp.keys[slot]? = some k ∧ k.programmed = true) ∧ s.acc.sessions = [(0, x)] ∧ x.key = slot)
    ∧ (∃ s : State, ∃ path : Path, ∃ slot, ∃ k : KeySlot, Ready s ∧ slot < 2 ∧ MayWrite path 0x18 0x09C (opWord 4 slot) s ∧ s.otp.mkeys[slot]? = some k ∧ k.programmed = true)
    ∧ (∃ s : State, ∃ path : Path, ∃ slot, ∃ k : KeySlot, Ready s ∧ slot < 2 ∧ MayWrite path 0x18 0x09C (opWord 4 slot) s ∧ s.otp.mkeys[slot]? = some k ∧ k.programmed = false)
    ∧ (∃ s : State, ∃ path : Path, Ready s ∧ MayWrite path 0x18 0x09C (opWord 5 0) s) := by
  refine ⟨⟨up, .spi, 0, by decide⟩,
    ⟨{ up.putB F.SYS_STRAP_BOOTSEL true with acc.keyBuf := List.replicate 16 0, otp.keys := [{}, {}], otp.mkeys := [{}, {}] }, .spi, 0, by decide⟩,
    ⟨{ up.putB F.SYS_STRAP_BOOTSEL true with acc.keyBuf := List.replicate 8 0, otp.keys := [{}, {}], otp.mkeys := [{}, {}] }, .spi, 0, 3, {}, by decide⟩,
    ⟨{ up.putB F.SYS_STRAP_BOOTSEL true with acc.keyBuf := List.replicate 8 0, otp.keys := [{ programmed := true, revoked := false }, { programmed := true, revoked := false }], otp.mkeys := [{}, {}] }, .spi, 0, 3, { programmed := true, revoked := false }, by decide⟩,
    ⟨{ up.putB F.SYS_STRAP_BOOTSEL true with acc.keyBuf := List.replicate 16 0, otp.keys := [{}, {}], otp.mkeys := [{}, {}] }, .spi, 1, {}, by decide⟩,
    ⟨{ up.putB F.SYS_STRAP_BOOTSEL true with acc.keyBuf := List.replicate 0 0, otp.keys := [{ programmed := true, revoked := false }, { programmed := true, revoked := false }], otp.mkeys := [{}, {}] }, .spi, 1, { programmed := true, revoked := false }, by decide⟩,
    ⟨{ { up.putB F.SYS_STRAP_BOOTSEL true with acc.keyBuf := List.replicate 0 0, otp.keys := [{ programmed := true, revoked := false }, { programmed := true, revoked := false }], otp.mkeys := [{}, {}] } with acc.sessions := [(0, sess 4 0 [])] }, .spi, 0, sess 4 0 [], by decide, by decide, by decide, ⟨{ programmed := true, revoked := false }, by decide⟩, by decide, by decide⟩,
    ⟨{ up.putB F.SYS_STRAP_BOOTSEL true with acc.keyBuf := List.replicate 0 0, otp.keys := [{ programmed := true, revoked := false }, { programmed := true, revoked := false }], otp.mkeys := [{ programmed := true, revoked := false }, { programmed := true, revoked := false }] }, .spi, 1, { programmed := true, revoked := false }, by decide⟩,
    ⟨{ up.putB F.SYS_STRAP_BOOTSEL true with acc.keyBuf := List.replicate 0 0, otp.keys := [{ programmed := true, revoked := false }, { programmed := true, revoked := false }], otp.mkeys := [{}, {}] }, .spi, 1, {}, by decide⟩,
    ⟨up, .spi, by decide⟩⟩

/-- The hypotheses of `Obligations.SpiFrames` can be met. -/
theorem witness_spi_frames :
    (∃ s : State, ∃ f : SpiFrame, ∃ a, ∃ p, ∃ off, Ready s ∧ spiOn s = true ∧ s.armedAt 0x19 1 = false ∧ spiKind f = .read a ∧ a = regAddr p off ∧ PlainRead p off s)
    ∧ (∃ s : State, ∃ f : SpiFrame, ∃ a, Ready s ∧ spiOn s = true ∧ s.armedAt 0x19 1 = false ∧ spiKind f = .read a ∧ a.toNat % 4 ≠ 0)
    ∧ (∃ s : State, ∃ f : SpiFrame, ∃ a, ∃ w, ∃ p, ∃ off, ∃ e, Ready s ∧ spiOn s = true ∧ s.armedAt 0x19 1 = false ∧ spiKind f = .write a w ∧ a = regAddr p off ∧ PlainWrite .spi p off e w s ∧ p ≠ 0x19)
    ∧ (∃ s : State, ∃ f : SpiFrame, ∃ a, ∃ w, Ready s ∧ spiOn s = true ∧ s.armedAt 0x19 1 = false ∧ spiKind f = .write a w ∧ a.toNat % 4 ≠ 0)
    ∧ (∃ s : State, ∃ f : SpiFrame, ∃ a, Ready s ∧ spiOn s = true ∧ s.armedAt 0x19 1 = false ∧ spiKind f = .status a)
    ∧ (∃ s : State, ∃ f : SpiFrame, Ready s ∧ spiOn s = true ∧ s.armedAt 0x19 1 = false ∧ f.early = false ∧ f.cycles ≠ 80)
    ∧ (∃ s : State, ∃ f : SpiFrame, Ready s ∧ spiOn s = true ∧ s.armedAt 0x19 1 = false ∧ spiKind f = .crc)
    ∧ (∃ s : State, ∃ f : SpiFrame, Ready s ∧ spiOn s = true ∧ s.armedAt 0x19 1 = false ∧ spiKind f = .badCmd) := by
  refine ⟨⟨up, spiF 0x3C (regAddr 0x07 0x044) 0, regAddr 0x07 0x044, 7, 0x44, by decide⟩,
    ⟨up, spiF 0x3C (1) 0, 1, by decide⟩,
    ⟨up, spiF 0xC3 (regAddr 0x07 0x040) 5, regAddr 0x07 0x040, 5, 7, 0x40, ((regEnt 0x07 0x040).get (by decide)).1, by decide, by decide, by decide, by decide, by decide, ⟨by decide, by decide, by decide, by decide, by decide, ⟨0, by decide⟩, by decide, by decide, by decide, by decide, by decide⟩, by decide⟩,
    ⟨up, spiF 0xC3 2 5, 2, 5, by decide⟩,
    ⟨up, spiF 0x96 0 0, 0, by decide⟩,
    ⟨up, { spiF 0x96 0 0 with cycles := 79 }, by decide⟩,
    ⟨up, { spiF 0x96 0 0 with sdi := List.replicate 9 0 ++ [1] }, by decide⟩,
    ⟨up, spiF 0x00 0 0, by decide⟩⟩

/-- The hypotheses of `Obligations.LaneConversions` can be met. -/
theorem witness_lane_conversions :
    (∃ s : State, ∃ n : Nat, ∃ c : Conv, Ready s ∧ n < 6 ∧ convOf s n = some c ∧ anaOn s = true ∧ pulsed c = true ∧ c.pulseOn = false ∧ c.running = false ∧ c.waits = false ∧ s.armedAt 0x21 1 = false ∧ 10000 * c.age ≤ 288 * c.ofs ∧ 288 * c.ofs < 10000 * (c.age + tickUnits s) ∧ blocker s n c = none)
    ∧ (∃ s : State, ∃ n : Nat, ∃ c : Conv, ∃ m, ∃ b, Ready s ∧ n < 6 ∧ convOf s n = some c ∧ anaOn s = true ∧ pulsed c = true ∧ c.pulseOn = false ∧ c.running = false ∧ c.waits = false ∧ s.armedAt 0x21 1 = false ∧ 10000 * c.age ≤ 288 * c.ofs ∧ 288 * c.ofs < 10000 * (c.age + tickUnits s) ∧ blocker s n c = some (m, b))
    ∧ (∃ s : State, ∃ n : Nat, ∃ c : Conv, Ready s ∧ n < 6 ∧ convOf s n = some c ∧ pulseDue s c = false)
    ∧ (∃ s : State, ∃ n : Nat, ∃ c : Conv, Ready s ∧ n < 6 ∧ convOf s n = some c ∧ startDue s c = false)
    ∧ (∃ s : State, ∃ n : Nat, ∃ c : Conv, Ready s ∧ n < 6 ∧ convOf s n = some c ∧ anaOn s = true ∧ c.running = false ∧ c.waits = false ∧ (pulsed c = true → c.pulseOn = true) ∧ 10000 * c.age ≤ 288 * (c.ofs + c.v.settle) ∧ 288 * (c.ofs + c.v.settle) < 10000 * (c.age + tickUnits s))
    ∧ (∃ s : State, ∃ n : Nat, Ready s ∧ n < 6 ∧ convOf s n = none)
    ∧ (∃ s : State, ∃ n : Nat, Ready s ∧ n < 6 ∧ convOf s n = none)
    ∧ (∃ s : State, ∃ n : Nat, ∃ c : Conv, Ready s ∧ n < 6 ∧ convOf s n = some c ∧ 10000 * (c.age + tickUnits s) ≤ 288 * (c.ofs + c.v.settle) + 3600 * 2 ^ c.avg)
    ∧ (∃ s : State, ∃ n : Nat, ∃ vref : Nat, Ready s ∧ n < 6 ∧ 0 < vref)
    ∧ (∃ s : State, ∃ n : Nat, ∃ c : Conv, ∃ e, ∃ xs : List Int, Ready s ∧ n < 6 ∧ convOf s n = some c ∧ c.running = true ∧ c.kind = .main e ∧ c.byLs = false ∧ c.v.lead = 0 ∧ xs.length = 2 ^ c.avg ∧ lsFor s n = false ∧ s.armedAt (0x22 + n) 1 = false ∧ 288 * (c.ofs + c.v.settle) + 3600 * 2 ^ c.avg < 10000 * (c.age + tickUnits s))
    ∧ (∃ s : State, ∃ n : Nat, ∃ c : Conv, ∃ xs : List Int, Ready s ∧ n < 6 ∧ convOf s n = some c ∧ c.running = true ∧ c.kind = .urgent ∧ c.byLs = false ∧ c.v.lead = 0 ∧ xs.length = 2 ^ c.avg ∧ s.armedAt (0x22 + n) 1 = false ∧ 288 * (c.ofs + c.v.settle) + 3600 * 2 ^ c.avg < 10000 * (c.age + tickUnits s))
    ∧ (∃ s : State, ∃ n : Nat, ∃ r : CalRun, Ready s ∧ n < 6 ∧ calOf s n = some r ∧ r.armed = 2 ∧ anaOn s = true)
    ∧ (∃ s : State, ∃ n : Nat, ∃ r : CalRun, ∃ g, ∃ x : Nat × Bool, ∃ rest : List (Nat × Bool), ∃ xs : List Int, Ready s ∧ n < 6 ∧ calOf s n = some r ∧ r.armed = 3 ∧ r.todo = (g, false) :: x :: rest ∧ xs.length = 256 ∧ 288 * ofsUs s n + 3600 * 256 < 10000 * (r.age + tickUnits s))
    ∧ (∃ s : State, ∃ n : Nat, ∃ c : Conv, ∃ k, Ready s ∧ n < 6 ∧ convOf s n = some c ∧ c.pulseOn = true ∧ srcUsed c = some k ∧ k < 4 ∧ c.compl = false ∧ (∀ m d, m < n → convOf s m = some d → srcUsed d ≠ some k) ∧ s.ana.complPrev.contains k = false ∧ RecordsOnly 0x41 s)
    ∧ (∃ s : State, ∃ n : Nat, ∃ path, ∃ setup, Ready s ∧ n < 6 ∧ setup < 48 ∧ MayWrite path 0x28 0x04C (urgentWord n setup) s ∧ s.ana.urg = none)
    ∧ (∃ s : State, ∃ n : Nat, ∃ path, ∃ setup, ∃ u : Nat × Nat, Ready s ∧ n < 6 ∧ setup < 48 ∧ MayWrite path 0x28 0x04C (urgentWord n setup) s ∧ s.ana.urg = some u)
    ∧ (∃ s : State, ∃ n : Nat, Ready s ∧ n < 6 ∧ s.get F.LANES_LS_PHASE = 0 ∧ anaOn s = true ∧ cycleLane s = some n)
    ∧ (∃ s : State, ∃ n : Nat, Ready s ∧ n < 6 ∧ s.get F.LANES_LS_PHASE ≠ 0) := by
  refine ⟨⟨{ up with ana.lane5.conv := some { kind := .main 0, setup := 0, v := { excEn := true } } }, 5, { kind := .main 0, setup := 0, v := { excEn := true } }, by decide⟩,
    ⟨{ up with ana.lane5.conv := some { kind := .main 0, setup := 0, v := { excEn := true } }, ana.lane0.conv := some { kind := .main 0, setup := 0, v := { excEn := true }, pulseOn := true } }, 5, { kind := .main 0, setup := 0, v := { excEn := true } }, 0, true, by decide⟩,
    ⟨{ up with ana.lane5.conv := some { kind := .main 0, setup := 0 } }, 5, { kind := .main 0, setup := 0 }, by decide⟩,
    ⟨{ up with ana.lane5.conv := some { kind := .main 0, setup := 0, v := { excEn := true } } }, 5, { kind := .main 0, setup := 0, v := { excEn := true } }, by decide⟩,
    ⟨{ up with ana.lane5.conv := some { kind := .main 0, setup := 0 } }, 5, { kind := .main 0, setup := 0 }, by decide⟩,
    ⟨up, 5, by decide⟩,
    ⟨up, 5, by decide⟩,
    ⟨{ up with ana.lane5.conv := some { kind := .main 0, setup := 0, running := true, avg := 8 } }, 5, { kind := .main 0, setup := 0, running := true, avg := 8 }, by decide⟩,
    ⟨up, 0, 1, by decide⟩,
    ⟨{ up with ana.lane5.conv := some { kind := .main 0, setup := 0, running := true } }, 5, { kind := .main 0, setup := 0, running := true }, 0, [0], by decide⟩,
    ⟨{ up with ana.lane5.conv := some { kind := .urgent, setup := 0, running := true } }, 5, { kind := .urgent, setup := 0, running := true }, [0], by decide⟩,
    ⟨{ up with ana.lane5.cal := some { todo := [], armed := 2 } }, 5, { todo := [], armed := 2 }, by decide⟩,
    ⟨{ up with ana.lane5.cal := some { todo := [(0, false), (0, true)], armed := 3, age := 100000 } }, 5, { todo := [(0, false), (0, true)], armed := 3, age := 100000 }, 0, (0, true), [], List.replicate 256 0, by decide⟩,
    ⟨{ logOnly 0x41 up with ana.lane0.conv := some { kind := .main 0, setup := 0, v := { excEn := true, excSrc := 3 }, pulseOn := true } }, 0, { kind := .main 0, setup := 0, v := { excEn := true, excSrc := 3 }, pulseOn := true }, 3, by decide, by decide, by decide, by decide, by decide, by decide, by decide, by intro m d h; omega, by decide, by decide⟩,
    ⟨up, 5, .spi, 47, by decide⟩,
    ⟨{ up with ana.urg := some (0, 0) }, 5, .spi, 47, (0, 0), by decide⟩,
    ⟨{ ((up.put (F.LANE_CFG_SEQ_LEN 5) 1).putB (F.XPT_SETUP_B_EN 0) true).wrE 0x27 0x008 1 with ana.lane5.calAge := 10000000000 }, 5, by decide⟩,
    ⟨up.put F.LANES_LS_PHASE 1, 5, by decide⟩⟩

/-- The hypotheses of `Obligations.StormboxCommands` can be met. -/
theorem witness_stormbox_commands :
    (∃ s : State, ∃ path, Ready s ∧ MayWrite path 0x2C 0x09C 1 s ∧ s.en 0x2C = true)
    ∧ (∃ s : State, ∃ path, Ready s ∧ MayWrite path 0x2C 0x09C 1 s ∧ s.en 0x2C = false)
    ∧ (∃ s : State, ∃ n, Ready s ∧ n < 4)
    ∧ (∃ s : State, ∃ path, ∃ w, Ready s ∧ MayWrite path 0x2C 0x0AC w s ∧ areaFree s 0 = true ∧ areaFree s 1 = true)
    ∧ (∃ s : State, ∃ path, ∃ w, Ready s ∧ MayWrite path 0x2C 0x0B0 w s)
    ∧ (∃ s : State, ∃ n, ∃ off, ∃ len, Ready s ∧ s.stor.find = some n ∧ s.flag F.REC_STAT_INDEX_READY = true ∧ s.stor.entries.find? (fun e => e.1 == n) = some (n, off, len))
    ∧ (∃ s : State, Ready s ∧ s.stor.find = none)
    ∧ (∃ s : State, Ready s ∧ s.flag F.REC_STAT_INDEX_READY = false ∧ s.flag F.SYS_BSTAT_ROM_OK = true ∧ archStarts s = [] ∧ recHigh s < 0xFFFFFFFF)
    ∧ (∃ s : State, Ready s ∧ s.flag F.REC_STAT_INDEX_READY = true)
    ∧ (∃ s : State, ∃ h : RecHeld, Ready s ∧ (areaOf s 0).held = some h ∧ areaFree s 1 = true ∧ s.flag F.REC_ROW_ARCH_EN = true ∧ s.flag F.REC_STAT_RETIRED = false ∧ h.stalled = false ∧ s.get F.REC_ARCH_WAIT_S * 28800 ≤ h.age ∧ RecordsOnly 0x72 s)
    ∧ (∃ s : State, Ready s ∧ s.flag F.REC_ROW_ARCH_EN = false) := by
  refine ⟨⟨up.wrE 0x2C 0x008 1, .spi, by decide⟩,
    ⟨up, .spi, by decide⟩,
    ⟨up, 0, by decide⟩,
    ⟨up, .spi, 0, by decide⟩,
    ⟨up, .spi, 0, by decide⟩,
    ⟨{ up.putB F.REC_STAT_INDEX_READY true with stor.find := some 0, stor.entries := [(0, 0, 0)] }, 0, 0, 0, by decide⟩,
    ⟨up, by decide⟩,
    ⟨up.putB F.SYS_BSTAT_ROM_OK true, by decide⟩,
    ⟨up.putB F.REC_STAT_INDEX_READY true, by decide⟩,
    ⟨{ logOnly 0x72 (up.putB F.REC_ROW_ARCH_EN true) with stor.area0.held := some { recno := 1, rows := 1, rw := 1, first := 0, ring := 1, base := 0x20000000, age := 100000000000 } }, { recno := 1, rows := 1, rw := 1, first := 0, ring := 1, base := 0x20000000, age := 100000000000 }, by decide⟩,
    ⟨up.putB F.REC_ROW_ARCH_EN false, by decide⟩⟩

/-- The hypotheses of `Obligations.ArrayCommands` can be met. -/
theorem witness_array_commands :
    (∃ s : State, ∃ path, Ready s ∧ MayWrite path 0x30 0x054 1 s ∧ s.get F.ARR_CFG_RUN_MODE = 1 ∧ s.arr.run = none ∧ s.flag F.ARR_STAT_GO_PEND = false)
    ∧ (∃ s : State, ∃ path, Ready s ∧ MayWrite path 0x30 0x054 1 s ∧ s.get F.ARR_CFG_RUN_MODE = 1 ∧ s.flag F.ARR_STAT_GO_PEND = true)
    ∧ (∃ s : State, ∃ path, Ready s ∧ MayWrite path 0x30 0x054 1 s ∧ s.get F.ARR_CFG_RUN_MODE ≠ 1)
    ∧ (∃ s : State, ∃ c : Nat, ∃ ns : Nat, ∃ p : Nat, ∃ r : Run, Ready s ∧ s.arr.run = some r ∧ aget s.arr.work c = some p ∧ mayEnd c p ns r s = false ∧ s.armedAt (0x31 + c) 1 = false ∧ s.armedAt 0x30 1 = false)
    ∧ (∃ s : State, Ready s ∧ s.arr.run = none)
    ∧ (∃ s : State, ∃ c : Nat, ∃ ns : Nat, ∃ p : Nat, ∃ r : Run, ∃ g : Prog, Ready s ∧ c < 17 ∧ s.arr.run = some r ∧ r.started = true ∧ aget s.arr.work c = some p ∧ arrSlot s = true ∧ s.arr.now ≤ ns ∧ g = progOf s c ∧ 1000 * (2 * cyclesAll (runLayer s r) p g s + 1024) ≤ 1000 * g.used + (ns - g.since) * cellMhz s g ∧ retired s c = false ∧ RecordsOnly 0x51 s)
    ∧ (∃ s : State, ∃ c : Nat, ∃ ns : Nat, ∃ p : Nat, ∃ r : Run, ∃ g : Prog, Ready s ∧ s.arr.run = some r ∧ aget s.arr.work c = some p ∧ g = progOf s c ∧ 1000 * g.used + (ns - g.since) * cellMhz s g < 1000 * (2 * cyclesAll (runLayer s r) p g s + 1024))
    ∧ (∃ s : State, ∃ c, Ready s ∧ aget s.arr.work c = none)
    ∧ (∃ s : State, ∃ path, ∃ c, Ready s ∧ c < 17 ∧ MayWrite path 0x30 0x074 (opWord 1 c) s ∧ retired s c = true ∧ s.bist.req = none ∧ s.flag F.BIST_STAT_ROM_BAD = false)
    ∧ (∃ s : State, ∃ path, ∃ c, Ready s ∧ c < 17 ∧ MayWrite path 0x30 0x074 (opWord 1 c) s ∧ retired s c = false)
    ∧ (∃ s : State, ∃ c, ∃ k : Nat, Ready s ∧ c < 17 ∧ s.bist.req = some (c, k) ∧ s.bist.reqEnd = some false)
    ∧ (∃ s : State, ∃ c, ∃ k : Nat, Ready s ∧ c < 17 ∧ s.bist.req = some (c, k) ∧ s.bist.reqEnd = some true ∧ s.get F.ARR_STAT_BENCH ≠ 31)
    ∧ (∃ s : State, Ready s ∧ s.bist.req = none) := by
  refine ⟨⟨up.put F.ARR_CFG_RUN_MODE 1, .spi, by decide⟩,
    ⟨(up.put F.ARR_CFG_RUN_MODE 1).putB F.ARR_STAT_GO_PEND true, .spi, by decide⟩,
    ⟨up, .spi, by decide⟩,
    ⟨modelRun, 16, 0, 0, { snap := 0, started := true }, by decide⟩,
    ⟨up, by decide⟩,
    ⟨logOnly 0x51 modelRun, 16, 499999, 0, { snap := 0, started := true }, {}, by decide⟩,
    ⟨modelRun, 16, 0, 0, { snap := 0, started := true }, {}, by decide⟩,
    ⟨up, 0, by decide⟩,
    ⟨up.put F.ARR_RETIRED_BITS 0x10000, .spi, 16, by decide⟩,
    ⟨up, .spi, 16, by decide⟩,
    ⟨{ up.put F.ARR_STAT_BENCH 30 with bist.req := some (16, 3), bist.reqEnd := some false }, 16, 3, by decide⟩,
    ⟨{ up.put F.ARR_STAT_BENCH 30 with bist.req := some (16, 3), bist.reqEnd := some true }, 16, 3, by decide⟩,
    ⟨up, by decide⟩⟩

/-- The hypotheses of `Obligations.ArrayCommands` can be met. -/
theorem witness_array_commands_clause_4 :
    (∃ s : State, ∃ c, ∃ ns : Nat, ∃ p, ∃ corr, ∃ r : Run, ∃ u, ∃ l, ∃ g : Prog, ∃ d : Nat, ∃ xs : List Int, ∃ zs : List Nat, ∃ ys : List Int, ∃ yz : List Nat, ∃ rows : List (List (Nat × Int)), Ready s ∧ c < 17 ∧ s.arr.run = some r ∧ r.started = true ∧ aget s.arr.work c = some p ∧ arrSlot s = true ∧ mayEnd c p ns r s = true ∧ u = { s with arr.now := ns }.bump (F.CELL_CNT_CORR c) corr ∧ s.armedAt (0x31 + c) 1 = false ∧ s.armedAt 0x30 1 = false ∧ l = runLayer u r ∧ g = progOf s c ∧ d = (if l.op ≤ 2 then g.tiles else 0) ∧ r.ended + 1 < l.npart ∧ crcsOk l (s.get F.ARR_ARENA_ADDR) u = (u, true) ∧ readTiles (s.get F.ARR_ARENA_ADDR + l.inO) (tilesOf (l.len * l.nIn) - d) d u = (u, .ok xs zs) ∧ readTiles (s.get F.ARR_ARENA_ADDR + l.in2) (tilesOf (l.len * in2Chans l)) 0 u = (u, .ok ys yz) ∧ l.wsrc ≠ 1 ∧ readWeights u l (imageBase s.arr.slot + l.woff) (imageBase s.arr.slot + imageLen u s.arr.slot - 68) (shareOf l p).1 (shareOf l p).2 = .ok rows) := by
  exact ⟨modelRun, 16, 499999, 0, 0, { snap := 0, started := true }, modelLate, modelLayer, {}, 0, List.replicate 256 0, [0], [], [], [[(0, 0)]], by decide, by decide, by decide, by decide, by decide, by decide, modelRun_mayEnd, rfl, by decide, by decide, rfl, by decide, by decide, by decide, modelLate_crcs, modelLate_in, modelLate_in2, by decide, modelLate_weights⟩

/-- The hypotheses of `Obligations.LearningCommands` can be met. -/
theorem witness_learning_commands :
    (∃ s : State, ∃ path : Path, ∃ init, Ready s ∧ MayWrite path 0x43 0x068 (opWord 1 (b2n init)) s)
    ∧ (∃ s : State, ∃ path : Path, Ready s ∧ MayWrite path 0x43 0x068 (opWord 2 0) s)
    ∧ (∃ s : State, ∃ path : Path, Ready s ∧ MayWrite path 0x43 0x068 (opWord 3 0) s)
    ∧ (∃ s : State, ∃ path : Path, Ready s ∧ MayWrite path 0x43 0x068 (opWord 4 0) s)
    ∧ (∃ s : State, Ready s ∧ s.learn.written = true)
    ∧ (∃ s : State, Ready s ∧ s.learn.written = false) := by
  refine ⟨⟨up, .spi, false, by decide⟩,
    ⟨up, .spi, by decide⟩,
    ⟨up, .spi, by decide⟩,
    ⟨up, .spi, by decide⟩,
    ⟨{ up with learn.written := true }, by decide⟩,
    ⟨up, by decide⟩⟩

/-- The hypotheses of `Obligations.SleepRequests` can be met. -/
theorem witness_sleep_requests :
    (∃ s : State, ∃ path, ∃ target, Ready s ∧ s.armedAt 0x02 2 = false ∧ 1 ≤ target ∧ target ≤ 3 ∧ MayWrite path 0x02 0x058 (BitVec.ofNat 32 (0x80000000 + target)) s ∧ s.slp.req = none ∧ s.slp.down = none ∧ pstate s = 0 ∧ s.get F.PWR_STAT_ENTRY ≠ 5 ∧ startCeil s = false ∧ inFault s = false ∧ getBits (s.rdE 0x02 0x044) 4 0 ≠ 0 ∧ (∀ k, k < 6 → wakeEnabled s k = true → bitOf (s.get F.PWR_WAKE_SRC_LATCH) k = false) ∧ (target = 3 → loopGen s = true → loopParked s = true) ∧ (target = 3 → frostEst s ≤ 70))
    ∧ (∃ s : State, ∃ path, ∃ target, ∃ r, Ready s ∧ s.armedAt 0x02 2 = false ∧ 1 ≤ target ∧ target ≤ 3 ∧ MayWrite path 0x02 0x058 (BitVec.ofNat 32 (0x80000000 + target)) s ∧ (pstate s ≠ 0 ∧ r = 1 ∨ s.slp.req = none ∧ s.slp.down = none ∧ pstate s = 0 ∧ s.get F.PWR_STAT_ENTRY ≠ 5 ∧ (startCeil s = true ∧ r = 2 ∨ startCeil s = false ∧ inFault s = true ∧ r = 3)))
    ∧ (∃ s : State, ∃ path, Ready s ∧ s.armedAt 0x02 2 = false ∧ MayWrite path 0x02 0x058 0x80000000 s)
    ∧ (∃ s : State, Ready s ∧ s.armedAt 0x02 2 = false ∧ s.get F.PWR_STAT_ENTRY = 5 ∧ s.slp.retryIn = 0 ∧ sleepReason s.slp.retryTarget true s = none)
    ∧ (∃ s : State, Ready s ∧ s.armedAt 0x02 2 = false ∧ s.get F.PWR_STAT_ENTRY ≠ 5) := by
  refine ⟨⟨up.wrE 0x02 0x044 1, .spi, 3, by decide, by decide, by decide, by decide, by decide, by decide, by decide, by decide, by decide, by decide, by decide⟩,
    ⟨up.putB F.SYS_BSTAT_CEIL true, .spi, 3, 2, by decide⟩,
    ⟨up, .spi, by decide⟩,
    ⟨{ (up.wrE 0x02 0x044 1).put F.PWR_STAT_ENTRY 5 with slp.retryTarget := 1 }, by decide⟩,
    ⟨up, by decide⟩⟩

/-- The hypotheses of `Obligations.SleepAndWake` can be met. -/
theorem witness_sleep_and_wake :
    (∃ s : State, Ready s ∧ s.slp.down = some 1 ∧ s.slp.wokeEntry = false)
    ∧ (∃ s : State, Ready s ∧ s.slp.down = some 2 ∧ s.slp.wokeEntry = false ∧ s.memWf = true)
    ∧ (∃ s : State, Ready s ∧ s.slp.down = some 1 ∧ s.slp.wokeEntry = true)
    ∧ (∃ s : State, Ready s ∧ s.slp.down = none)
    ∧ (∃ s : State, ∃ src, Ready s ∧ src < 2 ∧ (src = 0 → gen s = 2))
    ∧ (∃ s : State, Ready s ∧ gen s ≠ 2)
    ∧ (∃ s : State, Ready s ∧ s.tick.num = alarmTick s)
    ∧ (∃ s : State, Ready s ∧ s.tick.num ≠ alarmTick s)
    ∧ (∃ s : State, Ready s ∧ s.slp.exiting = true ∧ pstate s = 1)
    ∧ (∃ s : State, Ready s ∧ s.slp.exiting = true ∧ pstate s = 2 ∧ s.arr.run = none)
    ∧ (∃ s : State, Ready s ∧ s.slp.exiting = false) := by
  refine ⟨⟨{ up with slp.down := some 1 }, by decide⟩,
    ⟨{ up with slp.down := some 2 }, by decide⟩,
    ⟨{ up with slp.down := some 1, slp.wokeEntry := true }, by decide⟩,
    ⟨up, by decide⟩,
    ⟨up.put F.SYS_GEN_GEN 2, 0, by decide⟩,
    ⟨up, by decide⟩,
    ⟨{ up with tick.num := alarmTick up }, by decide⟩,
    ⟨{ up with tick.num := 1 }, by decide⟩,
    ⟨{ up.put F.PWR_STAT_STATE 1 with slp.exiting := true }, by decide⟩,
    ⟨{ up.put F.PWR_STAT_STATE 2 with slp.exiting := true }, by decide⟩,
    ⟨up, by decide⟩⟩

/-- The hypotheses of `Obligations.FaultHubCommands` can be met. -/
theorem witness_fault_hub_commands :
    (∃ s : State, ∃ id, ∃ c, Ready s ∧ aget s.flt.esc id = some c ∧ 1 < c ∧ leakDue s id = true)
    ∧ (∃ s : State, ∃ id, Ready s ∧ aget s.flt.esc id = some 1 ∧ leakDue s id = true)
    ∧ (∃ s : State, ∃ id, Ready s ∧ (aget s.flt.esc id).getD 0 = 0 ∨ leakDue s id = false)
    ∧ (∃ s : State, Ready s ∧ s.get F.FLT_STAT_STATE = 1 ∧ s.get F.FLT_CFG_CALM * 100 ≤ s.get F.FLT_CALM_CALM)
    ∧ (∃ s : State, Ready s ∧ (s.get F.FLT_CALM_CALM < s.get F.FLT_CFG_CALM * 100 ∨ s.get F.FLT_STAT_STATE ≠ 1))
    ∧ (∃ s : State, ∃ path, Ready s ∧ MayWrite path 0x07 0x054 (opWord 1 0xC10C) s ∧ s.get F.FLT_STAT_STATE = 2)
    ∧ (∃ s : State, ∃ path, Ready s ∧ MayWrite path 0x07 0x054 (opWord 1 0xC10C) s ∧ s.get F.FLT_STAT_STATE ≠ 2)
    ∧ (∃ s : State, ∃ path, Ready s ∧ MayWrite path 0x07 0x054 (opWord 2 0) s)
    ∧ (∃ s : State, ∃ path, ∃ w, ∃ id, ∃ q, ∃ rest : List (Nat × Nat), Ready s ∧ MayWrite path 0x07 0x050 w s ∧ s.flt.traps = (id, q) :: rest ∧ getBits w 15 0 = q)
    ∧ (∃ s : State, ∃ path, ∃ w, ∃ id, ∃ q, ∃ rest : List (Nat × Nat), Ready s ∧ MayWrite path 0x07 0x050 w s ∧ s.flt.traps = (id, q) :: rest ∧ getBits w 15 0 ≠ q)
    ∧ (∃ s : State, ∃ path, ∃ w, Ready s ∧ MayWrite path 0x07 0x050 w s ∧ s.flt.traps = [])
    ∧ (∃ s : State, ∃ path, ∃ w, Ready s ∧ MayWrite path 0x07 0x07C w s)
    ∧ (∃ s : State, Ready s ∧ s.flt.hotArmed = true ∧ 16 ≤ s.flt.hotTicks ∧ RecordsOnly 0x13 s)
    ∧ (∃ s : State, Ready s ∧ s.flt.hotTicks < 16) := by
  refine ⟨⟨{ up with flt.esc := [(0x10, 2)], flt.leakU := [(0x10, 1000000000000)] }, 0x10, 2, by decide⟩,
    ⟨{ up with flt.esc := [(0x10, 1)], flt.leakU := [(0x10, 1000000000000)] }, 0x10, by decide⟩,
    ⟨up, 0, by decide⟩,
    ⟨(up.put F.FLT_STAT_STATE 1).put F.FLT_CALM_CALM 65535, by decide⟩,
    ⟨up, by decide⟩,
    ⟨up.put F.FLT_STAT_STATE 2, .spi, by decide⟩,
    ⟨up, .spi, by decide⟩,
    ⟨up, .spi, by decide⟩,
    ⟨{ up with flt.traps := [(0x10, 65535)] }, .spi, 65535, 0x10, 65535, [], by decide⟩,
    ⟨{ up with flt.traps := [(0x10, 1)] }, .spi, 0, 0x10, 1, [], by decide⟩,
    ⟨up, .spi, 0, by decide⟩,
    ⟨up, .spi, 0, by decide⟩,
    ⟨{ logOnly 0x13 up with flt.hotArmed := true, flt.hotTicks := 16 }, by decide⟩,
    ⟨up, by decide⟩⟩

/-- The hypotheses of `Obligations.BackgroundTasks` can be met. -/
theorem witness_background_tasks :
    (∃ s : State, ∃ n, Ready s ∧ n < 3 ∧ s.flag F.BG_CFG_PROMOTE_EN = true ∧ s.get F.BG_CFG_STARVE_FRAMES ≤ s.get (ageFld n))
    ∧ (∃ s : State, Ready s ∧ s.flag F.BG_CFG_PROMOTE_EN = false)
    ∧ (∃ s : State, Ready s ∧ 2 * s.get F.BG_CFG_STARVE_FRAMES ≤ s.get (ageFld 1) ∧ bitOf (s.get F.BG_STAT_STARVED) 1 = false ∧ (∀ n, n = 0 ∨ n = 2 → bitOf (s.get F.BG_STAT_STARVED) n = true) ∧ RecordsOnly 0x70 s)
    ∧ (∃ s : State, Ready s ∧ (∀ n, n < 3 → s.get (ageFld n) < 2 * s.get F.BG_CFG_STARVE_FRAMES))
    ∧ (∃ s : State, Ready s ∧ s.boot.coreTest = 1 ∧ 432 ≤ s.boot.coreU + tickUnits s)
    ∧ (∃ s : State, Ready s ∧ s.boot.coreTest = 1 ∧ 432 ≤ s.boot.coreU + tickUnits s ∧ RecordsOnly 0x71 s)
    ∧ (∃ s : State, Ready s ∧ (s.boot.coreTest ≠ 1 ∨ s.boot.coreU + tickUnits s < 432))
    ∧ (∃ s : State, ∃ at_, ∃ till, Ready s ∧ s.plan.freeAt ≤ at_ ∧ s.armedAt 0x0A 2 = false ∧ pstate s = 0 ∧ s.slp.out = false ∧ s.plan.run = none ∧ s.plan.todo = [] ∧ at_ + s.get F.BG_CFG_GAP_MIN_US ≤ (endLimits (s.get F.TICK_CFG_RATE)).2 ∧ at_ < till ∧ till + 2 ≤ (endLimits (s.get F.TICK_CFG_RATE)).2 ∧ spares s = true ∧ s.flag F.BG_CFG_SCRUB_EN = true ∧ s.get F.BG_STAT_PROMOTED = 2 ∧ s.flag F.GOV_STAT_BURST = false ∧ fitsCap s s.gov.pred = true ∧ s.bist.blocked = 0 ∧ NoEccErrors s ∧ bankOff s (s.get F.BG_SCRUB_BANK) = false ∧ s.get F.BG_SCRUB_WORD + (till - at_) * levelMhz (level s) / 6 < 32768 ∧ 0 < (till - at_) * levelMhz (level s) / 6 ∧ s.armedAt 0x0A 1 = false)
    ∧ (∃ s : State, ∃ at_, Ready s ∧ spares s = true ∧ (pstate s ≠ 0 ∨ s.plan.run ≠ none ∨ at_ < s.plan.freeAt)) := by
  refine ⟨⟨((up.put F.BG_AGE1_CAL 255).putB F.BG_CFG_PROMOTE_EN true).put F.BG_CFG_STARVE_FRAMES 255, 2, by decide⟩,
    ⟨up.putB F.BG_CFG_PROMOTE_EN false, by decide⟩,
    ⟨(((logOnly 0x70 up).put F.BG_CFG_STARVE_FRAMES 1).put F.BG_AGE0_SCRUB 2).put F.BG_STAT_STARVED 5, by decide, by decide, by decide, (by rintro n (rfl | rfl) <;> decide), by decide⟩,
    ⟨up, by decide⟩,
    ⟨{ up with boot.coreTest := 1, boot.coreU := 432 }, by decide⟩,
    ⟨{ logOnly 0x71 up with boot.coreTest := 1, boot.coreU := 432 }, by decide⟩,
    ⟨up, by decide⟩,
    ⟨(up.putB F.BG_CFG_SCRUB_EN true).put F.BG_STAT_PROMOTED 2, 0, 10, by decide⟩,
    ⟨up.put F.PWR_STAT_STATE 1, 0, by decide⟩⟩

/-- The hypotheses of `Obligations.NvmCommands` can be met. -/
theorem witness_nvm_commands :
    (∃ s : State, ∃ path : Path, ∃ a : Nat, Ready s ∧ a = s.get F.MEM_CMDADDR_ADDR ∧ 0x20000000 ≤ a ∧ a < 0x20400000 ∧ bankOff s (bankOf a) = false ∧ s.memWf = true ∧ MayWrite path 0x0D 0x054 (opWord 1 0) s)
    ∧ (∃ s : State, ∃ path : Path, ∃ slot : Nat, Ready s ∧ slot < 2 ∧ s.get F.NVM_LEN_LEN % 16 = 0 ∧ 16 ≤ s.get F.NVM_LEN_LEN ∧ s.get F.NVM_LEN_LEN ≤ 4096 ∧ s.get F.NVM_OFS_OFS % 16 = 0 ∧ NoEccErrors s ∧ inPoweredSram s (s.get F.NVM_SRC_SRC) (s.get F.NVM_LEN_LEN) = true ∧ nvmBusy s = false ∧ MayWrite path 0x0C 0x044 (opWord 1 slot) s ∧ s.get F.NVM_OFS_OFS + s.get F.NVM_LEN_LEN ≤ 0x100000 ∧ s.get F.NVM_OFS_OFS ≠ 0 ∧ s.get F.ARR_CFG_SLOT ≠ slot)
    ∧ (∃ s : State, ∃ path : Path, ∃ slot : Nat, Ready s ∧ slot < 2 ∧ s.get F.NVM_LEN_LEN % 16 = 0 ∧ 16 ≤ s.get F.NVM_LEN_LEN ∧ s.get F.NVM_LEN_LEN ≤ 4096 ∧ s.get F.NVM_OFS_OFS % 16 = 0 ∧ NoEccErrors s ∧ inPoweredSram s (s.get F.NVM_SRC_SRC) (s.get F.NVM_LEN_LEN) = true ∧ nvmBusy s = false ∧ MayWrite path 0x0C 0x044 (opWord 1 slot) s ∧ s.get F.NVM_OFS_OFS + s.get F.NVM_LEN_LEN ≤ 0x100000 ∧ s.get F.NVM_OFS_OFS ≠ 0 ∧ s.get F.ARR_CFG_SLOT = slot)
    ∧ (∃ s : State, ∃ path : Path, ∃ slot : Nat, Ready s ∧ slot < 2 ∧ s.get F.NVM_LEN_LEN % 16 = 0 ∧ 16 ≤ s.get F.NVM_LEN_LEN ∧ s.get F.NVM_LEN_LEN ≤ 4096 ∧ s.get F.NVM_OFS_OFS % 16 = 0 ∧ NoEccErrors s ∧ inPoweredSram s (s.get F.NVM_SRC_SRC) (s.get F.NVM_LEN_LEN) = true ∧ nvmBusy s = false ∧ MayWrite path 0x0C 0x044 (opWord 3 0) s ∧ s.get F.NVM_OFS_OFS + s.get F.NVM_LEN_LEN ≤ 0x40000)
    ∧ (∃ s : State, ∃ path : Path, ∃ slot : Nat, Ready s ∧ slot < 2 ∧ nvmBusy s = false ∧ MayWrite path 0x0C 0x044 (opWord 1 slot) s ∧ s.get F.NVM_LEN_LEN < 16)
    ∧ (∃ s : State, ∃ path : Path, ∃ slot : Nat, Ready s ∧ slot < 2 ∧ nvmBusy s = true ∧ MayWrite path 0x0C 0x044 (opWord 1 slot) s)
    ∧ (∃ s : State, ∃ path : Path, ∃ slot : Nat, Ready s ∧ slot < 2 ∧ nvmBusy s = true ∧ MayWrite path 0x0C 0x044 (opWord 2 slot) s)
    ∧ (∃ s : State, ∃ path : Path, ∃ slot : Nat, Ready s ∧ slot < 2 ∧ nvmBusy s = false ∧ MayWrite path 0x0C 0x044 (opWord 2 slot) s)
    ∧ (∃ s : State, ∃ path : Path, Ready s ∧ nvmBusy s = false ∧ MayWrite path 0x0C 0x044 (opWord 4 0) s)
    ∧ (∃ s : State, ∃ k, Ready s ∧ s.nvm.checking = some (4, k) ∧ NoEccErrors s)
    ∧ (∃ s : State, Ready s ∧ s.nvm.checking = none)
    ∧ (∃ s : State, ∃ path : Path, Ready s ∧ MayWrite path 0x0C 0x044 (opWord 5 0) s ∧ nvmBusy s = false ∧ topSeq s ≠ 0xFFFFFFFF)
    ∧ (∃ s : State, ∃ path : Path, Ready s ∧ MayWrite path 0x0C 0x044 (opWord 6 0) s ∧ nvmBusy s = false ∧ s.flag F.NVM_STAT_ARCH_RETIRED = false ∧ archBusy s = false)
    ∧ (∃ s : State, ∃ path : Path, Ready s ∧ MayWrite path 0x0C 0x044 (opWord 6 0) s ∧ nvmBusy s = false ∧ s.flag F.NVM_STAT_ARCH_RETIRED = true) := by
  refine ⟨⟨up.put F.MEM_CMDADDR_ADDR 0x203FFFFC, .spi, 0x203FFFFC, by decide⟩,
    ⟨((up.put F.NVM_LEN_LEN 4096).put F.NVM_SRC_SRC 0x203FF000).put F.NVM_OFS_OFS 0xFF000, .spi, 1, by decide⟩,
    ⟨(((up.put F.NVM_LEN_LEN 4096).put F.NVM_SRC_SRC 0x203FF000).put F.NVM_OFS_OFS 0xFF000).put F.ARR_CFG_SLOT 1, .spi, 1, by decide⟩,
    ⟨((up.put F.NVM_LEN_LEN 4096).put F.NVM_SRC_SRC 0x203FF000).put F.NVM_OFS_OFS 0x3F000, .spi, 1, by decide⟩,
    ⟨up.put F.NVM_LEN_LEN 0, .spi, 1, by decide⟩,
    ⟨up.putB F.NVM_CSTAT_BUSY true, .spi, 0, by decide⟩,
    ⟨up.putB F.NVM_CSTAT_BUSY true, .spi, 0, by decide⟩,
    ⟨up, .spi, 0, by decide⟩,
    ⟨up, .spi, by decide⟩,
    ⟨{ up with nvm.checking := some (4, 1) }, 1, by decide⟩,
    ⟨up, by decide⟩,
    ⟨up, .spi, by decide⟩,
    ⟨up, .spi, by decide⟩,
    ⟨up.putB F.NVM_STAT_ARCH_RETIRED true, .spi, by decide⟩⟩

/-- The hypotheses of `Obligations.NvmChunksAndLoad` can be met. -/
theorem witness_nvm_chunks_and_load :
    (∃ s : State, Ready s ∧ s.nvm.writing = none ∧ s.nvm.queue ≠ [] ∧ (∀ c, c ∈ s.nvm.queue → c.kind ≤ 6))
    ∧ (∃ s : State, Ready s ∧ (s.nvm.writing ≠ none ∨ s.nvm.queue = []))
    ∧ (∃ s : State, ∃ c : NvmChunk, Ready s ∧ s.nvm.writing = some c ∧ c.tag = .plain ∧ tornBy c s = none ∧ s.memWf = true)
    ∧ (∃ s : State, Ready s ∧ s.nvm.writing = none)
    ∧ (∃ s : State, ∃ r : CfgRec, Ready s ∧ s.flag F.SYS_BSTAT_ROM_OK = true ∧ s.boot.loadPend = false ∧ s.boot.loadDone = false ∧ s.get F.SYS_STRAP_BOOTSEL = 0 ∧ readCfg 1 s = (s, some r) ∧ readCfg 2 s = (s, none))
    ∧ (∃ s : State, Ready s ∧ s.flag F.SYS_BSTAT_ROM_OK = true ∧ s.boot.loadPend = false ∧ s.boot.loadDone = false ∧ s.get F.SYS_STRAP_BOOTSEL = 0 ∧ readCfg 1 s = (s, none) ∧ readCfg 2 s = (s, none) ∧ s.boot.cfgLost = false ∧ RecordsOnly 0x62 s)
    ∧ (∃ s : State, Ready s ∧ s.boot.loadDone = true) := by
  refine ⟨⟨{ up with nvm.queue := [{ kind := 6, addr := 0x10040000, bytes := [1], tag := .plain }] }, by decide⟩,
    ⟨up, by decide⟩,
    ⟨{ up with nvm.writing := some { kind := 6, addr := 0x10040000, bytes := [1], tag := .plain } }, { kind := 6, addr := 0x10040000, bytes := [1], tag := .plain }, by decide⟩,
    ⟨up, by decide⟩,
    ⟨{ record with boot.loadDone := false }, ⟨7, [(0x40000C40, 0)], none⟩, by decide⟩,
    ⟨{ logOnly 0x62 (up.putB F.SYS_BSTAT_ROM_OK true) with boot.loadDone := false }, by decide⟩,
    ⟨{ up with boot.loadDone := true }, by decide⟩⟩

/-- The hypotheses of `Obligations.AlmanacCommands` can be met. -/
theorem witness_almanac_commands :
    (∃ s : State, Ready s ∧ mayReach s s.flt.aonU 28800 = true)
    ∧ (∃ s : State, Ready s ∧ mayReach s s.flt.aonU 28800 = false)
    ∧ (∃ s : State, Ready s ∧ s.alm.loaded = true ∧ s.alm.lastOpS + s.get F.ALM_CFG_COMMIT_MIN * 60 ≤ opS s ∧ s.alm.due = none)
    ∧ (∃ s : State, Ready s ∧ opS s < s.alm.lastOpS + s.get F.ALM_CFG_COMMIT_MIN * 60)
    ∧ (∃ s : State, ∃ path, Ready s ∧ MayWrite path 0x0B 0x054 (opWord 1 0) s)
    ∧ (∃ s : State, ∃ path, Ready s ∧ MayWrite path 0x0B 0x054 (opWord 2 0) s)
    ∧ (∃ s : State, ∃ path, ∃ mask, Ready s ∧ mask < 16 ∧ MayWrite path 0x0B 0x054 (opWord 3 mask) s)
    ∧ (∃ s : State, ∃ path, Ready s ∧ MayRead path 0x0B s) := by
  refine ⟨⟨{ up with flt.aonU := 28800, alm.live := [(0x2C0, 5)] }, by decide⟩,
    ⟨up, by decide⟩,
    ⟨{ up with alm.loaded := true, alm.live := [(0x2C0, 100000)] }, by decide⟩,
    ⟨up, by decide⟩,
    ⟨up, .spi, by decide⟩,
    ⟨up, .spi, by decide⟩,
    ⟨up, .spi, 0, by decide⟩,
    ⟨up, .spi, by decide⟩⟩

/-- The hypotheses of `Obligations.KeyScans` can be met. -/
theorem witness_key_scans :
    (∃ s : State, Ready s ∧ (s.boot.loadDone = false ∨ scanDue s = false))
    ∧ (∃ s : State, ∃ g0, ∃ g1, ∃ g2, Ready s ∧ s.boot.loadDone = true ∧ scanDue s = true ∧ s.keys.injMs = 0 ∧ s.get F.KEYS_STAT_BASE_OK = 0 ∧ g0 < 65536 ∧ g1 < 65536 ∧ g2 < 65536)
    ∧ (∃ s : State, ∃ g1, Ready s ∧ s.boot.loadDone = true ∧ scanDue s = true ∧ s.keys.injMs = 0 ∧ s.get F.KEYS_STAT_BASE_OK = 7 ∧ s.get F.KEYS_STAT_TOUCH = 0 ∧ s.get F.KEYS_STAT_IGNORE = 0 ∧ s.keys.saved = none ∧ s.keys.buf = [] ∧ 0 < s.get F.KEYS_TH_TOUCH_TH ∧ g1 < 65536 ∧ s.get (F.KEYS_SIG_BASELINE 1) + s.get F.KEYS_TH_TOUCH_TH ≤ g1 ∧ s.get F.KEYS_CFG_DEB ≤ s.keys.k1.on + 1 ∧ bitOf (s.get F.PWR_WAKE_CFG_KEY_MASK) 1 = false)
    ∧ (∃ s : State, ∃ g1, Ready s ∧ s.boot.loadDone = true ∧ scanDue s = true ∧ s.keys.injMs = 0 ∧ s.get F.KEYS_STAT_BASE_OK = 7 ∧ s.get F.KEYS_STAT_TOUCH = 0 ∧ s.get F.KEYS_STAT_IGNORE = 0 ∧ s.keys.saved = none ∧ s.keys.buf = [] ∧ 0 < s.get F.KEYS_TH_TOUCH_TH ∧ g1 < 65536 ∧ s.get (F.KEYS_SIG_BASELINE 1) + s.get F.KEYS_TH_TOUCH_TH ≤ g1 ∧ s.keys.k1.on + 1 < s.get F.KEYS_CFG_DEB)
    ∧ (∃ s : State, ∃ n, Ready s ∧ n < 3 ∧ hasBit s F.KEYS_STAT_TOUCH n = true ∧ s.get F.KEYS_TIME_MAX_TOUCH_S * 1000 ≤ (keyOf s n).touchMs)
    ∧ (∃ s : State, ∃ n, Ready s ∧ hasBit s F.KEYS_STAT_TOUCH n = false)
    ∧ (∃ s : State, ∃ n, ∃ ms, Ready s ∧ n < 3 ∧ (keyOf s n).negMs = some ms ∧ 2000 ≤ ms)
    ∧ (∃ s : State, ∃ n, ∃ ms, Ready s ∧ n < 3 ∧ (keyOf s n).negMs = some ms ∧ ms < 2000)
    ∧ (∃ s : State, ∃ n, Ready s ∧ (keyOf s n).negMs = none)
    ∧ (∃ s : State, Ready s ∧ s.keys.lockLeft = some 0)
    ∧ (∃ s : State, Ready s ∧ s.keys.lockLeft ≠ some 0)
    ∧ (∃ s : State, ∃ path, Ready s ∧ MayWrite path 0x48 0x078 (opWord 1 0) s)
    ∧ (∃ s : State, ∃ path, Ready s ∧ MayWrite path 0x48 0x078 (opWord 2 0) s) := by
  refine ⟨⟨{ up with boot.loadDone := false }, by decide⟩,
    ⟨up, 65535, 65535, 65535, by decide⟩,
    ⟨{ up.put F.KEYS_STAT_BASE_OK 7 with boot.loadDone := true, keys.k1.on := 255 }, 65535, by decide⟩,
    ⟨{ (up.put F.KEYS_STAT_BASE_OK 7).put F.KEYS_CFG_DEB 2 with boot.loadDone := true }, 65535, by decide⟩,
    ⟨{ up.put F.KEYS_STAT_TOUCH 4 with keys.k2.touchMs := 1000000 }, 2, by decide⟩,
    ⟨up, 0, by decide⟩,
    ⟨{ up with keys.k2.negMs := some 2000 }, 2, 2000, by decide⟩,
    ⟨{ up with keys.k2.negMs := some 1999 }, 2, 1999, by decide⟩,
    ⟨up, 0, by decide⟩,
    ⟨{ up with keys.lockLeft := some 0 }, by decide⟩,
    ⟨up, by decide⟩,
    ⟨up, .spi, by decide⟩,
    ⟨up, .spi, by decide⟩⟩

/-- The hypotheses of `Obligations.KeyActions` can be met. -/
theorem witness_key_actions :
    (∃ s : State, Ready s ∧ s.keys.done = some 1)
    ∧ (∃ s : State, Ready s ∧ s.keys.done = some 2)
    ∧ (∃ s : State, ∃ c : Instr, Ready s ∧ s.keys.done = none ∧ c ∈ [Instr.localLockOn, .localLockOff, .loopTestCurrent, .enterZeroTrim, .enterSpanTrim, .storeTrim])
    ∧ (∃ s : State, Ready s ∧ (∀ off w, off ≠ 0x024 → MayWrite .keys 0x11 off w s) ∧ s.armedAt 0x18 2 = false ∧ s.page.journal.length + 4 ≤ 256 ∧ s.keys.done = some 3)
    ∧ (∃ s : State, ∃ k, Ready s ∧ (∀ off w, off ≠ 0x024 → MayWrite .keys 0x11 off w s) ∧ s.armedAt 0x18 2 = false ∧ s.page.journal.length + 4 ≤ 256 ∧ (k = 1 ∧ s.keys.done = some 4 ∨ k = 2 ∧ s.keys.done = some 5))
    ∧ (∃ s : State, ∃ v : TrimSave, Ready s ∧ (∀ off w, off ≠ 0x024 → MayWrite .keys 0x11 off w s) ∧ s.armedAt 0x18 2 = false ∧ s.page.journal.length + 4 ≤ 256 ∧ s.keys.saved = some v ∧ s.keys.done = some 6 ∧ s.flag F.KEYS_CFG_SAVE_EN = false)
    ∧ (∃ s : State, ∃ v : TrimSave, Ready s ∧ (∀ off w, off ≠ 0x024 → MayWrite .keys 0x11 off w s) ∧ s.armedAt 0x18 2 = false ∧ s.page.journal.length + 4 ≤ 256 ∧ s.keys.saved = some v ∧ s.get F.KEYS_TIME_TRIM_TMO_S * 1000 ≤ s.keys.trimMs)
    ∧ (∃ s : State, Ready s ∧ (s.keys.saved = none ∨ s.keys.trimMs < s.get F.KEYS_TIME_TRIM_TMO_S * 1000)) := by
  refine ⟨⟨{ up with keys.done := some 1 }, by decide⟩,
    ⟨{ up with keys.done := some 2 }, by decide⟩,
    ⟨up, .storeTrim, by decide, rfl, by simp⟩,
    ⟨{ up with keys.done := some 3 }, by decide, keys_pass (by decide), by decide, by decide, by decide⟩,
    ⟨{ up with keys.done := some 4 }, 1, by decide, keys_pass (by decide), by decide, by decide, by decide⟩,
    ⟨{ up.putB F.KEYS_CFG_SAVE_EN false with keys.done := some 6, keys.saved := some ⟨0, 0, 0, 0⟩ }, ⟨0, 0, 0, 0⟩, by decide, keys_pass (by decide), by decide, by decide, by decide, by decide, by decide⟩,
    ⟨{ up with keys.saved := some ⟨0, 0, 0, 0⟩, keys.trimMs := 10000000 }, ⟨0, 0, 0, 0⟩, by decide, keys_pass (by decide), by decide, by decide, by decide, by decide⟩,
    ⟨up, by decide⟩⟩

/-- The hypotheses of `Obligations.ResetAssertion` can be met. -/
theorem witness_reset_assertion :
    (∃ s : State, s.boot.held = false ∧ s.nvm.writing = none ∧ s.memWf = true) := by
  exact ⟨up, by decide⟩

/-- The hypotheses of `Obligations.ResetRelease` can be met. -/
theorem witness_reset_release :
    (∃ s : State, ∃ gens, s.boot.held = true ∧ Settled s ∧ s.boot.testMode = false ∧ s.ldac.pinLow = false ∧ gens % 4 = 0)
    ∧ (∃ s : State, s.boot.held = true ∧ Settled s ∧ s.boot.testMode = false)
    ∧ (∃ s : State, Ready s)
    ∧ (∃ s : State, Ready s ∧ s.flag F.SYS_BSTAT_ROM_OK = false ∧ s.otp.badTrim = [] ∧ s.boot.cfgLost = false ∧ RecordsOnly 0x62 s)
    ∧ (∃ s : State, Ready s ∧ s.flag F.SYS_BSTAT_ROM_OK = true)
    ∧ (∃ s : State, ∃ c : Instr, s.boot.held = true ∧ (∀ x, c ≠ .por x) ∧ (∀ x, c ≠ .borMain x) ∧ c ≠ .borLp ∧ (∀ x, c ≠ .rstN x) ∧ c ≠ .wdog ∧ (∀ x y z, c ≠ .porRelease x y z) ∧ (∀ x, c ≠ .tickBoundary x) ∧ c ≠ .xtalStop ∧ c ≠ .xtalStable ∧ (∀ x, c ≠ .loopclrAssert x) ∧ (∀ x, c ≠ .loopclrDeassert x))
    ∧ (∃ s : State, s.boot.held = true)
    ∧ (∃ s : State, s.boot.held = true)
    ∧ (∃ s : State, s.boot.held = true) := by
  refine ⟨⟨{ up with boot.held := true }, 0, by decide⟩,
    ⟨{ up with boot.held := true }, by decide⟩,
    ⟨up, by decide⟩,
    ⟨(logOnly 0x62 up).putB F.SYS_BSTAT_ROM_OK false, by decide⟩,
    ⟨up.putB F.SYS_BSTAT_ROM_OK true, by decide⟩,
    ⟨State.reset, .aonSecond, by decide, by simp, by simp, by simp, by simp, by simp, by simp, by simp⟩,
    ⟨{ up with boot.held := true }, by decide⟩,
    ⟨{ up with boot.held := true }, by decide⟩,
    ⟨{ up with boot.held := true }, by decide⟩⟩

end Sys2Proof.Tests
end

section
/-! The stem of a state (its TICK_NUM, whether a reset is held, its queue) along a step: what a reset, the end of a command and every command of the
table can do to it. -/

namespace Sys2Proof.Machine

/-! ### A stem that is kept, or reset -/

/-- From `s` to `t` the queue stays, TICK_NUM stays or a reset has cleared it and is held, and a reset that is held is held still (R6, R71, R720). -/
structure StemKept (s t : State) : Prop where
  pending : t.pending = s.pending
  num : t.tick.num = s.tick.num ∨ (t.tick.num = 0 ∧ t.boot.held = true)
  held : s.boot.held = true → t.boot.held = true

theorem StemKept.of_stem {s t : State} (h : stem t = stem s) : StemKept s t where
  pending := congrArg Stem.pending h
  num := .inl (congrArg Stem.num h)
  held := (congrArg Stem.held h).trans

theorem StemKept.refl (s : State) : StemKept s s := .of_stem rfl

theorem StemKept.trans {s t u : State} (h : StemKept s t) (k : StemKept t u) : StemKept s u where
  pending := k.pending.trans h.pending
  num := by
    rcases k.num with hu | hu
    · rw [hu]
      exact h.num.imp_right (.imp_right k.held)
    · exact .inr hu
  held := k.held ∘ h.held

/-- A reset that is asserted is held, and clears TICK_NUM or lets it stand, by its class (R721). -/
theorem assertReset_stemKept (cause info : Nat) (s : State) : StemKept s (assertReset cause info s) where
  pending := assertReset_pending cause info s
  num := by
    rw [assertReset_num]
    split
    · exact .inr ⟨rfl, assertReset_held cause info s⟩
    · exact .inl rfl
  held := fun _ => assertReset_held cause info s

theorem settle_stemKept (b s : State) : StemKept s (settle b s) where
  pending := settle_pending b s
  num := settle_num_or b s
  held := settle_held b

/-- The resets accepted in a tick are asserted one after another at the boundary that ends it. -/
theorem acceptedResets_stemKept (s : State) : StemKept s (acceptedResets s) := by
  unfold acceptedResets
  generalize s.boot.resetAt = causes
  induction causes generalizing s with
  | nil => exact .refl s
  | cons c _ ih => exact (assertReset_stemKept c 0 s).trans (ih _)

/-! ### The commands that keep the stem -/

/-- Every outcome of the meaning `o` keeps the stem, or is a reset. -/
def KeepsStem (o : State → Host.Outcome State Fault Refusal) : Prop := ∀ s t : State, o s = .next t → StemKept s t

theorem keepsStem_next {f : State → State} (h : ∀ s, StemKept s (f s)) : KeepsStem fun s => .next (f s) := by
  intro s t ht
  cases ht
  exact h s

/-- An operation that keeps the stem, ended as a command ends: only a reset that the fault hub orders at that end moves it. -/
theorem Framed.keepsStem {o : State → Host.Outcome State Fault Refusal} (h : Framed o) : KeepsStem o := by
  obtain ⟨f, g, hf, hg, ho⟩ := h
  rw [funext ho]
  refine keepsStem_next fun s => ?_
  split
  · exact .of_stem (hg s)
  · exact (StemKept.of_stem (hf s)).trans (settle_stemKept s (f s))

/-! The causes of resets (R715–R717, R583) assert a reset or leave the state as it is. -/

theorem execPor_keepsStem (lost : Bool) : KeepsStem (execPor lost) := keepsStem_next fun s => by
  unfold porAssert
  split
  · exact (assertReset_stemKept 1 0 s).trans (.of_stem rfl)
  · exact assertReset_stemKept 1 0 s

theorem execBorMain_keepsStem (rail : Nat) : KeepsStem (execBorMain rail) := keepsStem_next fun s => by
  unfold borMain
  split
  · exact .refl s
  · exact assertReset_stemKept 2 rail s

theorem execBorLp_keepsStem : KeepsStem execBorLp := keepsStem_next fun s => by
  unfold borLp
  split
  · exact assertReset_stemKept 3 0 s
  · exact .refl s

theorem execRstN_keepsStem (lowNs : Nat) : KeepsStem (execRstN lowNs) := keepsStem_next fun s => by
  have hfresh : StemKept s s.fresh := .of_stem (stem_State_fresh s _)
  unfold rstN
  split
  · exact .refl s
  · split
    · exact assertReset_stemKept 4 0 s
    · split
      · exact hfresh.trans (assertReset_stemKept 4 0 s.fresh)
      · exact hfresh

theorem execWdog_keepsStem : KeepsStem execWdog := keepsStem_next fun s => by
  unfold wdog
  split
  · exact .refl s
  · exact assertReset_stemKept 5 0 s

/-- Every command but the tick boundary and the release of a reset keeps the stem, or is a reset. -/
theorem exec_keepsStem : ∀ c : Instr, (∀ x, c ≠ .tickBoundary x) → (∀ gens bootsel testEn, c ≠ .porRelease gens bootsel testEn) → KeepsStem (exec c)
  | .registerWrite p addr data, _, _ => (execRegisterWrite_framed p addr data).keepsStem
  | .rcRead p addr ns, _, _ => (execRcRead_framed p addr ns).keepsStem
  | .memoryWrite p addr data, _, _ => (execMemoryWrite_framed p addr data).keepsStem
  | .commitRequest p page, _, _ => (execCommitRequest_framed p page).keepsStem
  | .softResetRequest p page en, _, _ => (execSoftResetRequest_framed p page en).keepsStem
  | .writeLock p page en, _, _ => (execWriteLock_framed p page en).keepsStem
  | .eventClear p page w, _, _ => (execEventClear_framed p page w).keepsStem
  | .faultInjectionStart p page point count, _, _ => (execFaultInjectionStart_framed p page point count).keepsStem
  | .leaseTake p page secs, _, _ => (execLeaseTake_framed p page secs).keepsStem
  | .leaseRelease p page, _, _ => (execLeaseRelease_framed p page).keepsStem
  | .leaseExpiry group, _, _ => (execLeaseExpiry_framed group).keepsStem
  | .tickBoundary t, h, _ => absurd rfl (h t)
  | .ppsInEdge e ns mppm, _, _ => (execPpsInEdge_framed e ns mppm).keepsStem
  | .ppsInLoss, _, _ => execPpsInLoss_framed.keepsStem
  | .xtalStop, _, _ => execXtalStop_framed.keepsStem
  | .xtalStartupTimeout, _, _ => execXtalStartupTimeout_framed.keepsStem
  | .xtalStable, _, _ => execXtalStable_framed.keepsStem
  | .holdoverLimitExpiry, _, _ => execHoldoverLimitExpiry_framed.keepsStem
  | .ppsOutEnd, _, _ => execPpsOutEnd_framed.keepsStem
  | .tickNumRead p, _, _ => (execTickNumRead_framed p).keepsStem
  | .planWinAddrWrite p w, _, _ => (execPlanWinAddrWrite_framed p w).keepsStem
  | .planWinDataAccess p w, _, _ => (execPlanWinDataAccess_framed p w).keepsStem
  | .mSlotDeadline, _, _ => execMSlotDeadline_framed.keepsStem
  | .oSlotBudgetExpiry, _, _ => execOSlotBudgetExpiry_framed.keepsStem
  | .bSlotBudgetEnd, _, _ => execBSlotBudgetEnd_framed.keepsStem
  | .slotComplete at_, _, _ => (execSlotComplete_framed at_).keepsStem
  | .nop idx at_, _, _ => (execNop_framed idx at_).keepsStem
  | .laneCollect idx at_ ms, _, _ => (execLaneCollect_framed idx at_ ms).keepsStem
  | .fastCollect idx at_, _, _ => (execFastCollect_framed idx at_).keepsStem
  | .loopUpdate idx at_, _, _ => (execLoopUpdate_framed idx at_).keepsStem
  | .fskService idx at_, _, _ => (execFskService_framed idx at_).keepsStem
  | .pubService idx at_, _, _ => (execPubService_framed idx at_).keepsStem
  | .recService idx at_, _, _ => (execRecService_framed idx at_).keepsStem
  | .arrLayer idx at_, _, _ => (execArrLayer_framed idx at_).keepsStem
  | .learnStep idx at_, _, _ => (execLearnStep_framed idx at_).keepsStem
  | .dmaJob idx at_, _, _ => (execDmaJob_framed idx at_).keepsStem
  | .linkJob idx at_, _, _ => (execLinkJob_framed idx at_).keepsStem
  | .bistSlice idx at_ bad raced, _, _ => (execBistSlice_framed idx at_ bad raced).keepsStem
  | .scrubStep idx at_ bad raced, _, _ => (execScrubStep_framed idx at_ bad raced).keepsStem
  | .calStep idx at_ bad raced, _, _ => (execCalStep_framed idx at_ bad raced).keepsStem
  | .hostSignal idx at_, _, _ => (execHostSignal_framed idx at_).keepsStem
  | .governorSample at_ load chg vres vpre, _, _ => (execGovernorSample_framed at_ load chg vres vpre).keepsStem
  | .bankZeroFillDone n, _, _ => (execBankZeroFillDone_framed n).keepsStem
  | .budgetRiseHoldExpiry, _, _ => execBudgetRiseHoldExpiry_framed.keepsStem
  | .avsLimit, _, _ => execAvsLimit_framed.keepsStem
  | .govBelowFloor, _, _ => execGovBelowFloor_framed.keepsStem
  | .resFault, _, _ => execResFault_framed.keepsStem
  | .detectionWindowEnd qual cross ms, _, _ => (execDetectionWindowEnd_framed qual cross ms).keepsStem
  | .loopEngage ms, _, _ => (execLoopEngage_framed ms).keepsStem
  | .liftoffDetect, _, _ => execLiftoffDetect_framed.keepsStem
  | .liftoffClear, _, _ => execLiftoffClear_framed.keepsStem
  | .loopOverdraw, _, _ => execLoopOverdraw_framed.keepsStem
  | .genChangeDeferred, _, _ => execGenChangeDeferred_framed.keepsStem
  | .loopclrAssert lowNs, _, _ => (execLoopclrAssert_framed lowNs).keepsStem
  | .loopclrDeassert highNs, _, _ => (execLoopclrDeassert_framed highNs).keepsStem
  | .spanDone, _, _ => execSpanDone_framed.keepsStem
  | .testEnd, _, _ => execTestEnd_framed.keepsStem
  | .trimLimit, _, _ => execTrimLimit_framed.keepsStem
  | .readbackSet, _, _ => execReadbackSet_framed.keepsStem
  | .readbackClear, _, _ => execReadbackClear_framed.keepsStem
  | .passDone n, _, _ => (execPassDone_framed n).keepsStem
  | .adacOverload n, _, _ => (execAdacOverload_framed n).keepsStem
  | .carrierDetect c a b, _, _ => (execCarrierDetect_framed c a b).keepsStem
  | .carrierEnd a b, _, _ => (execCarrierEnd_framed a b).keepsStem
  | .fskFrameRx f, _, _ => (execFskFrameRx_framed f).keepsStem
  | .frameGapTimeout, _, _ => execFrameGapTimeout_framed.keepsStem
  | .noiseTimeout, _, _ => execNoiseTimeout_framed.keepsStem
  | .readUniqueIdentifier, _, _ => execReadUniqueIdentifier_framed.keepsStem
  | .readUniqueIdByTag, _, _ => execReadUniqueIdByTag_framed.keepsStem
  | .readUniqueIdByLongTag, _, _ => execReadUniqueIdByLongTag_framed.keepsStem
  | .readPv, _, _ => execReadPv_framed.keepsStem
  | .readLoopCurrentPercent, _, _ => execReadLoopCurrentPercent_framed.keepsStem
  | .readDynamicVariables, _, _ => execReadDynamicVariables_framed.keepsStem
  | .writePollingAddress, _, _ => execWritePollingAddress_framed.keepsStem
  | .readLoopConfiguration, _, _ => execReadLoopConfiguration_framed.keepsStem
  | .readVariableClassifications, _, _ => execReadVariableClassifications_framed.keepsStem
  | .readDeviceVarsWithStatus, _, _ => execReadDeviceVarsWithStatus_framed.keepsStem
  | .readDeviceVariables, _, _ => execReadDeviceVariables_framed.keepsStem
  | .readMessage, _, _ => execReadMessage_framed.keepsStem
  | .readTagDescriptorDate, _, _ => execReadTagDescriptorDate_framed.keepsStem
  | .readDeviceInformation, _, _ => execReadDeviceInformation_framed.keepsStem
  | .readFinalAssemblyNumber, _, _ => execReadFinalAssemblyNumber_framed.keepsStem
  | .readLongTag, _, _ => execReadLongTag_framed.keepsStem
  | .writeMessage, _, _ => execWriteMessage_framed.keepsStem
  | .writeTagDescriptorDate, _, _ => execWriteTagDescriptorDate_framed.keepsStem
  | .writeFinalAssemblyNumber, _, _ => execWriteFinalAssemblyNumber_framed.keepsStem
  | .writeLongTag, _, _ => execWriteLongTag_framed.keepsStem
  | .resetConfigChangedFlag, _, _ => execResetConfigChangedFlag_framed.keepsStem
  | .enterExitFixedCurrent, _, _ => execEnterExitFixedCurrent_framed.keepsStem
  | .trimLoopCurrentZero, _, _ => execTrimLoopCurrentZero_framed.keepsStem
  | .trimLoopCurrentGain, _, _ => execTrimLoopCurrentGain_framed.keepsStem
  | .readAdditionalDeviceStatus, _, _ => execReadAdditionalDeviceStatus_framed.keepsStem
  | .writeNumResponsePreambles, _, _ => execWriteNumResponsePreambles_framed.keepsStem
  | .writeBurstPeriod, _, _ => execWriteBurstPeriod_framed.keepsStem
  | .writeBurstTrigger, _, _ => execWriteBurstTrigger_framed.keepsStem
  | .readBurstConfiguration, _, _ => execReadBurstConfiguration_framed.keepsStem
  | .writeBurstDeviceVariables, _, _ => execWriteBurstDeviceVariables_framed.keepsStem
  | .writeBurstCommand, _, _ => execWriteBurstCommand_framed.keepsStem
  | .burstControl, _, _ => execBurstControl_framed.keepsStem
  | .yrd ns, _, _ => (execYrd_framed ns).keepsStem
  | .ywr, _, _ => execYwr_framed.keepsStem
  | .ycommit, _, _ => execYcommit_framed.keepsStem
  | .ysess, _, _ => execYsess_framed.keepsStem
  | .fskTxStart, _, _ => execFskTxStart_framed.keepsStem
  | .replyLate, _, _ => execReplyLate_framed.keepsStem
  | .fskTxEnd, _, _ => execFskTxEnd_framed.keepsStem
  | .fskTxStuck, _, _ => execFskTxStuck_framed.keepsStem
  | .burstDue, _, _ => execBurstDue_framed.keepsStem
  | .burstTxStart, _, _ => execBurstTxStart_framed.keepsStem
  | .burstDefer, _, _ => execBurstDefer_framed.keepsStem
  | .linkUp hiAdv hiReq master sqi mse, _, _ => (execLinkUp_framed hiAdv hiReq master sqi mse).keepsStem
  | .linkDown ns, _, _ => (execLinkDown_framed ns).keepsStem
  | .sqiLow, _, _ => execSqiLow_framed.keepsStem
  | .macFrameRx f, _, _ => (execMacFrameRx_framed f).keepsStem
  | .frameTxStart ns, _, _ => (execFrameTxStart_framed ns).keepsStem
  | .gooseRetransmit, _, _ => execGooseRetransmit_framed.keepsStem
  | .ptpSync, _, _ => execPtpSync_framed.keepsStem
  | .ptpFollowUp, _, _ => execPtpFollowUp_framed.keepsStem
  | .ptpAnnounce, _, _ => execPtpAnnounce_framed.keepsStem
  | .pdelayReqRx, _, _ => execPdelayReqRx_framed.keepsStem
  | .pdelayReqTx, _, _ => execPdelayReqTx_framed.keepsStem
  | .pdelayResp, _, _ => execPdelayResp_framed.keepsStem
  | .announceTimeout, _, _ => execAnnounceTimeout_framed.keepsStem
  | .syncLossTimeout, _, _ => execSyncLossTimeout_framed.keepsStem
  | .ptpTodsetWrite p w, _, _ => (execPtpTodsetWrite_framed p w).keepsStem
  | .todRead p ns, _, _ => (execTodRead_framed p ns).keepsStem
  | .yrapRead ns, _, _ => (execYrapRead_framed ns).keepsStem
  | .yrapWrite, _, _ => execYrapWrite_framed.keepsStem
  | .yrapCommit, _, _ => execYrapCommit_framed.keepsStem
  | .yrapSession, _, _ => execYrapSession_framed.keepsStem
  | .yrapNotify, _, _ => execYrapNotify_framed.keepsStem
  | .dadFail which, _, _ => (execDadFail_framed which).keepsStem
  | .neighbourSolicitation, _, _ => execNeighbourSolicitation_framed.keepsStem
  | .arpRequest, _, _ => execArpRequest_framed.keepsStem
  | .echoRequest, _, _ => execEchoRequest_framed.keepsStem
  | .hello fsk, _, _ => (execHello_framed fsk).keepsStem
  | .prove fsk, _, _ => (execProve_framed fsk).keepsStem
  | .close fsk, _, _ => (execClose_framed fsk).keepsStem
  | .challengeTimeout sid, _, _ => (execChallengeTimeout_framed sid).keepsStem
  | .sessionIdleTimeout sid, _, _ => (execSessionIdleTimeout_framed sid).keepsStem
  | .authHold kind, _, _ => (execAuthHold_framed kind).keepsStem
  | .authHoldExpiry kind, _, _ => (execAuthHoldExpiry_framed kind).keepsStem
  | .spiRead f ns, _, _ => (execSpiRead_framed f ns).keepsStem
  | .spiWrite f ns, _, _ => (execSpiWrite_framed f ns).keepsStem
  | .spiStatus f, _, _ => (execSpiStatus_framed f).keepsStem
  | .spiFrameReject f, _, _ => (execSpiFrameReject_framed f).keepsStem
  | .accKeydataWrite p w, _, _ => (execAccKeydataWrite_framed p w).keepsStem
  | .progK p slot role, _, _ => (execProgK_framed p slot role).keepsStem
  | .progMk p slot, _, _ => (execProgMk_framed p slot).keepsStem
  | .revokeK p slot, _, _ => (execRevokeK_framed p slot).keepsStem
  | .revokeMk p slot, _, _ => (execRevokeMk_framed p slot).keepsStem
  | .clear p, _, _ => (execClear_framed p).keepsStem
  | .excitationPulseStart n, _, _ => (execExcitationPulseStart_framed n).keepsStem
  | .conversionStart cal n, _, _ => (execConversionStart_framed cal n).keepsStem
  | .conversionEnd cal n volts side, _, _ => (execConversionEnd_framed cal n volts side).keepsStem
  | .excCompliance k, _, _ => (execExcCompliance_framed k).keepsStem
  | .urgentRequest p lane setup, _, _ => (execUrgentRequest_framed p lane setup).keepsStem
  | .calDue, _, _ => execCalDue_framed.keepsStem
  | .recTrig p, _, _ => (execRecTrig_framed p).keepsStem
  | .gpioEdge n falling, _, _ => (execGpioEdge_framed n falling).keepsStem
  | .recArchStall, _, _ => execRecArchStall_framed.keepsStem
  | .recAckWrite p w, _, _ => (execRecAckWrite_framed p w).keepsStem
  | .recFindWrite p w, _, _ => (execRecFindWrite_framed p w).keepsStem
  | .recFindDone, _, _ => execRecFindDone_framed.keepsStem
  | .indexReady, _, _ => execIndexReady_framed.keepsStem
  | .arrGo p, _, _ => (execArrGo_framed p).keepsStem
  | .partitionEnd x corr uncorr, _, _ => (execPartitionEnd_framed x corr uncorr).keepsStem
  | .cellWatchdog x, _, _ => (execCellWatchdog_framed x).keepsStem
  | .requalify p c, _, _ => (execRequalify_framed p c).keepsStem
  | .requalDone, _, _ => execRequalDone_framed.keepsStem
  | .start p init, _, _ => (execStart_framed p init).keepsStem
  | .stop p, _, _ => (execStop_framed p).keepsStem
  | .sealHead p, _, _ => (execSealHead_framed p).keepsStem
  | .discard p, _, _ => (execDiscard_framed p).keepsStem
  | .headWriteComplete, _, _ => execHeadWriteComplete_framed.keepsStem
  | .sleepRequest p target, _, _ => (execSleepRequest_framed p target).keepsStem
  | .sleepCancel p, _, _ => (execSleepCancel_framed p).keepsStem
  | .sleepStateReached, _, _ => execSleepStateReached_framed.keepsStem
  | .sleepRetry, _, _ => execSleepRetry_framed.keepsStem
  | .wake src falling, _, _ => (execWake_framed src falling).keepsStem
  | .alarm, _, _ => execAlarm_framed.keepsStem
  | .wakeExitComplete early, _, _ => (execWakeExitComplete_framed early).keepsStem
  | .escLeak id, _, _ => (execEscLeak_framed id).keepsStem
  | .faultExit, _, _ => execFaultExit_framed.keepsStem
  | .clearLockout p, _, _ => (execClearLockout_framed p).keepsStem
  | .clearEsc p, _, _ => (execClearEsc_framed p).keepsStem
  | .fltTrapAck p w, _, _ => (execFltTrapAck_framed p w).keepsStem
  | .fltEscSelect p w, _, _ => (execFltEscSelect_framed p w).keepsStem
  | .dieHot, _, _ => execDieHot_framed.keepsStem
  | .idleGapWork at_ till bad raced, _, _ => (execIdleGapWork_framed at_ till bad raced).keepsStem
  | .promoted, _, _ => execPromoted_framed.keepsStem
  | .bgStarved, _, _ => execBgStarved_framed.keepsStem
  | .coreTestDone pass, _, _ => (execCoreTestDone_framed pass).keepsStem
  | .clearWord p, _, _ => (execClearWord_framed p).keepsStem
  | .modelWrite p slot, _, _ => (execModelWrite_framed p slot).keepsStem
  | .modelCheck p slot, _, _ => (execModelCheck_framed p slot).keepsStem
  | .patchWrite p, _, _ => (execPatchWrite_framed p).keepsStem
  | .patchCheck p, _, _ => (execPatchCheck_framed p).keepsStem
  | .saveConfig p, _, _ => (execSaveConfig_framed p).keepsStem
  | .retireArch p, _, _ => (execRetireArch_framed p).keepsStem
  | .nvmChunkStart, _, _ => execNvmChunkStart_framed.keepsStem
  | .nvmChunkComplete, _, _ => execNvmChunkComplete_framed.keepsStem
  | .configLoad, _, _ => execConfigLoad_framed.keepsStem
  | .aonSecond, _, _ => execAonSecond_framed.keepsStem
  | .almCommitDue, _, _ => execAlmCommitDue_framed.keepsStem
  | .almCommit p, _, _ => (execAlmCommit_framed p).keepsStem
  | .almSnap p, _, _ => (execAlmSnap_framed p).keepsStem
  | .almReset p mask, _, _ => (execAlmReset_framed p mask).keepsStem
  | .almWinRead p, _, _ => (execAlmWinRead_framed p).keepsStem
  | .keyScan g0 g1 g2, _, _ => (execKeyScan_framed g0 g1 g2).keepsStem
  | .stuck n, _, _ => (execStuck_framed n).keepsStem
  | .rebaseNeg n, _, _ => (execRebaseNeg_framed n).keepsStem
  | .localLockOn, _, _ => execLocalLockOn_framed.keepsStem
  | .localLockOff, _, _ => execLocalLockOff_framed.keepsStem
  | .loopTestCurrent, _, _ => execLoopTestCurrent_framed.keepsStem
  | .enterZeroTrim, _, _ => execEnterZeroTrim_framed.keepsStem
  | .enterSpanTrim, _, _ => execEnterSpanTrim_framed.keepsStem
  | .storeTrim, _, _ => execStoreTrim_framed.keepsStem
  | .trimCancel, _, _ => execTrimCancel_framed.keepsStem
  | .lockTimeout, _, _ => execLockTimeout_framed.keepsStem
  | .unlock p, _, _ => (execUnlock_framed p).keepsStem
  | .rebase p, _, _ => (execRebase_framed p).keepsStem
  | .por lost, _, _ => execPor_keepsStem lost
  | .borMain rail, _, _ => execBorMain_keepsStem rail
  | .borLp, _, _ => execBorLp_keepsStem
  | .rstN lowNs, _, _ => execRstN_keepsStem lowNs
  | .wdog, _, _ => execWdog_keepsStem
  | .rstCmdReset p, _, _ => (execRstCmdReset_framed p).keepsStem
  | .porRelease gens bootsel testEn, _, h => absurd rfl (h gens bootsel testEn)
  | .romBootComplete us linkPass romBad, _, _ => (execRomBootComplete_framed us linkPass romBad).keepsStem
  | .levelDone, _, _ => execLevelDone_framed.keepsStem
  | .cmdDone patch, _, _ => (execCmdDone_framed patch).keepsStem

/-! ### The two commands that move the stem by their own rules -/

/-- A boundary counts one tick; a reset accepted in the tick that ends may then clear the count (R71, R721). -/
theorem boundary_stemKept (x : TickIn) (s : State) : StemKept (endTick x s) (boundary x s) := by
  by_cases hr : s.boot.resetAt = []
  · exact .of_stem (boundary_stem hr)
  · rw [boundary_reset hr]
    exact acceptedResets_stemKept _

/-- While a reset is held a boundary counts on, or nothing where the reset has taken the count. -/
theorem heldBoundary_stem (s : State) :
    stem (heldBoundary s) = stem s ∨ stem (heldBoundary s) = ⟨satTo (2 ^ 48 - 1) (s.tick.num + 1), s.boot.held, s.pending⟩ := by
  unfold heldBoundary
  split
  · exact .inl rfl
  · exact .inr (by rw [stem_lockTime, stem_tickAon]; rfl)

theorem execTickBoundary_stem {x : TickIn} {s t : State} (h : execTickBoundary x s = .next t) :
    t.pending = s.pending
      ∧ (t.tick.num = s.tick.num ∨ (t.tick.num = 0 ∧ t.boot.held = true) ∨ t.tick.num = satTo (2 ^ 48 - 1) (s.tick.num + 1))
      ∧ (s.boot.held = true → t.boot.held = true) := by
  cases h
  split
  · rcases heldBoundary_stem s with hs | hs
    · obtain ⟨hpend, hnum, hheld⟩ := StemKept.of_stem hs
      exact ⟨hpend, hnum.imp_right .inl, hheld⟩
    · exact ⟨congrArg Stem.pending hs, .inr (.inr (congrArg Stem.num hs)), (congrArg Stem.held hs).trans⟩
  · have hend := endTick_stem x s
    obtain ⟨hpend, hnum, hheld⟩ := (boundary_stemKept x s).trans (settle_stemKept s _)
    refine ⟨hpend.trans (congrArg Stem.pending hend), ?_, fun hs => hheld ((congrArg Stem.held hend).trans hs)⟩
    rcases hnum with hnum | hzero
    · exact .inr (.inr (hnum.trans (congrArg Stem.num hend)))
    · exact .inr (.inl hzero)

theorem execPorRelease_stem {gens : Nat} {bootsel testEn : Bool} {s t : State} (h : execPorRelease gens bootsel testEn s = .next t) :
    t.pending = s.pending ∧ (t.tick.num = s.tick.num ∨ (t.tick.num = 0 ∧ t.boot.held = true)) := by
  cases h
  obtain ⟨hpend, hnum⟩ := porRelease_pending_num gens bootsel testEn s
  have hend := settle_stemKept s (porRelease gens bootsel testEn s)
  exact ⟨hend.pending.trans hpend, hnum ▸ hend.num⟩

/-- Settles O4: each command keeps the stem up to a reset (`exec_keepsStem`), but TICK_BOUNDARY, which counts, and POR_RELEASE, which ends the reset. -/
theorem tickNumAndResetMoveByTheirRules : Obligations.TickNumAndResetMoveByTheirRules := by
  intro s t c rest hq hstep
  have hexec : exec c { s with pending := rest } = .next t := by simpa [step, hq] using hstep
  by_cases hb : ∃ x, c = .tickBoundary x
  · obtain ⟨x, rfl⟩ := hb
    obtain ⟨hpend, hnum, hheld⟩ := execTickBoundary_stem hexec
    exact ⟨hpend, hnum.imp_right (.imp_right (⟨⟨x, rfl⟩, ·⟩)), fun hs ht => absurd (hheld hs) (by simp [ht])⟩
  by_cases hp : ∃ gens bootsel testEn, c = .porRelease gens bootsel testEn
  · obtain ⟨gens, bootsel, testEn, rfl⟩ := hp
    obtain ⟨hpend, hnum⟩ := execPorRelease_stem hexec
    exact ⟨hpend, hnum.imp_right .inl, fun _ _ => ⟨gens, bootsel, testEn, rfl⟩⟩
  · obtain ⟨hpend, hnum, hheld⟩ := exec_keepsStem c (by simpa using hb) (by simpa using hp) _ t hexec
    exact ⟨hpend, hnum.imp_right .inl, fun hs ht => absurd (hheld hs) (by simp [ht])⟩

end Sys2Proof.Machine
end

section
/-! Single-word accesses to registers and memory (chapter 02): what a refused write leaves, what a read of a register changes, and which bytes a write of memory
stores. Settles O5, O7, O8 and O9. -/

namespace Sys2Proof.Machine

/-! ### Fields and events -/

namespace State

theorem rd_put_self (s : State) (f : Fld) (v : Nat) : (s.put f v).rd f.page f.off = putBits (s.rd f.page f.off) f.hi f.lo v := by
  unfold put
  split <;> simp

theorem rd_put_ne (s : State) (f : Fld) (v : Nat) {p off : Nat} (h : regKey f.page f.off ≠ regKey p off) : (s.put f v).rd p off = s.rd p off := by
  unfold put
  split <;> simp [rd_wr_ne _ _ h]

theorem rdE_put_ne (s : State) (f : Fld) (v : Nat) {p off : Nat} (h : regKey f.page f.off ≠ regKey p off) : (s.put f v).rdE p off = s.rdE p off := by
  unfold put
  split <;> simp [rdE_wrE_ne _ _ h]

end State

/-- Settles O5: a field's update is `putBits` on its own register, an event's a set bit of PG_EVT_RAW; both write under one key. -/
theorem fieldWriteReadsBack : Obligations.FieldWriteReadsBack := by
  constructor
  · intro s f v hlo hhi
    refine ⟨s.get_put_same f v hlo hhi, fun i hi => ?_, fun p off hne => ⟨s.rd_put_ne f v hne.symm, s.rdE_put_ne f v hne.symm⟩⟩
    rw [s.rd_put_self f v, putBits_other _ v i hlo hi]
  · intro s p b hb
    exact ⟨s.raise_bit_same p b hb, fun _ hi => s.raise_bit_ne p hi, fun _ _ hne => s.rd_raise_ne hne.symm⟩

/-! ### Accesses as commands -/

/-- A command in a state that takes commands whose effect leaves the slot, the background work, the transfers and the fault hub alone. -/
theorem act_next {f : State → State} {s t : State} (h : Ready s) (hf : f s = t) (hp : t.plan = s.plan) (hb : t.bist = s.bist) (hd : t.dma = s.dma)
    (hflt : t.flt = s.flt) : act f s = .next t := by
  subst hf
  exact act_same h (by rw [hp]) (by rw [hb]) (by rw [hd]) (by rw [hflt]) (by rw [hflt])

theorem overPath_same {path : Path} {f : State → State} {s : State} (hf : f s = s) : overPath path f s = s := by
  unfold overPath
  split
  · exact hf
  · rfl

/-- An access that leaves the state as it is leaves it so as a command. -/
theorem act_overPath_same {path : Path} {f : State → State} {s : State} (h : Ready s) (hf : f s = s) : act (overPath path f) s = .next s :=
  act_next h (overPath_same hf) rfl rfl rfl rfl

/-- A register write whose access leaves the state as it is changes nothing. -/
theorem exec_registerWrite_same {path : Path} {addr w : Word} {s : State} (h : Ready s) (hw : (writeAccess path addr w s).1 = s) :
    exec (.registerWrite path addr w) s = .next s :=
  act_overPath_same h hw

/-! ### Writes that are refused (R35, R293) -/

theorem writeAccess_misaligned {path : Path} {addr w : Word} {s : State} (h : addr.toNat % 4 ≠ 0) : writeAccess path addr w s = (s, 0x01) := by
  simp [writeAccess, h]

theorem writeAccess_unmapped {path : Path} {addr w : Word} {s : State} (h : regionOf addr.toNat = .unmapped) : (writeAccess path addr w s).1 = s := by
  by_cases ha : addr.toNat % 4 = 0
  · simp [writeAccess, ha, h]
  · rw [writeAccess_misaligned ha]

theorem writeAccess_unpowered {path : Path} {addr w : Word} {s : State} (h : powerCheck s addr.toNat (regionOf addr.toNat) ≠ 0) :
    (writeAccess path addr w s).1 = s := by
  by_cases ha : addr.toNat % 4 = 0
  · by_cases hu : regionOf addr.toNat = .unmapped
    · exact writeAccess_unmapped hu
    · simp [writeAccess, ha, hu, h]
  · rw [writeAccess_misaligned ha]

theorem writeAccess_alias {path : Path} {addr w : Word} {s : State} {p off : Nat} (h : regionOf addr.toNat = .alias_ p off) :
    (writeAccess path addr w s).1 = s := by
  by_cases ha : addr.toNat % 4 = 0
  · by_cases hp : powerCheck s addr.toNat (regionOf addr.toNat) = 0
    · simp [writeAccess, ha, h, h ▸ hp]
    · exact writeAccess_unpowered hp
  · rw [writeAccess_misaligned ha]

/-- An access to a powered register at an aligned address: the checks from read-only on, in their order. -/
theorem writeAccess_reg {path : Path} {addr w : Word} {s : State} {p off : Nat} {e : RegEnt} (ha : addr.toNat % 4 = 0) (hr : regionOf addr.toNat = .reg p off e)
    (hp : powerCheck s addr.toNat (.reg p off e) = 0) :
    writeAccess path addr w s =
      if writable e = 0 then (s, 0x06)
      else if lockCovers s p off then (s, 0x07)
      else if (ownChecks path p off w (e.rws != 0) s).2 ≠ 0 then ownChecks path p off w (e.rws != 0) s
      else (performWrite path p off e w (noteWrite path p off e w (ownChecks path p off w (e.rws != 0) s).1), 0) := by
  simp [writeAccess, ha, hr, hp]

/-- The role that a write of `w` to the register at `off` of page `p` asks for (R298, R299), as `ownChecks` computes it. -/
abbrev neededRole (p off : Nat) (w : Word) : Nat := if needsMaintain p off w then 3 else groupRole (pageGroup p)

theorem ownChecks_role {path : Path} {p off : Nat} {w : Word} {rws : Bool} {s : State}
    (h : roleOk s path (neededRole p off w) = false ∨ kindOk s path p off w = false) :
    ownChecks path p off w rws s = (s, 0x09) := by
  unfold ownChecks
  rcases h with h | h <;> simp [h]

/-- The local lock refuses a remote path, where the path's role or the kind of write does not refuse it first. -/
theorem ownChecks_locked {path : Path} {p off : Nat} {w : Word} {rws : Bool} {s : State} (h : (s.flag F.KEYS_STAT_LOCK && remote path) = true) :
    ∃ n, n ≠ 0 ∧ ownChecks path p off w rws s = (s, n) := by
  by_cases hrk : roleOk s path (neededRole p off w) = true ∧ kindOk s path p off w = true
  · obtain ⟨hr, hk⟩ := hrk
    exact ⟨0x0A, by decide, by simp [ownChecks, hr, hk, h]⟩
  · rw [not_and_or, Bool.not_eq_true, Bool.not_eq_true] at hrk
    exact ⟨0x09, by decide, ownChecks_role hrk⟩

theorem ownChecks_owned {path : Path} {p off : Nat} {w : Word} {rws : Bool} {s : State}
    (hr : roleOk s path (neededRole p off w) = true) (hk : kindOk s path p off w = true)
    (hl : (s.flag F.KEYS_STAT_LOCK && remote path) = false) (ho : ownedBy s path p off w = true) :
    ownChecks path p off w rws s = ((s.bump F.ACC_CNT_ACC_OWNED).raise E.ACC_OWNED_REFUSED, 0x0B) := by
  simp [ownChecks, hr, hk, hl, ho]

/-- A register write refused by the read-only check, the page's write lock, the role, the kind of write or the local lock leaves the state as it is. -/
theorem writeAccess_reg_refused {path : Path} {addr w : Word} {s : State} {p off : Nat} {e : RegEnt} (hr : regionOf addr.toNat = .reg p off e)
    (h : writable e = 0 ∨ lockCovers s p off = true
      ∨ roleOk s path (neededRole p off w) = false ∨ kindOk s path p off w = false
      ∨ (s.flag F.KEYS_STAT_LOCK && remote path) = true) :
    (writeAccess path addr w s).1 = s := by
  by_cases ha : addr.toNat % 4 = 0
  swap
  · rw [writeAccess_misaligned ha]
  by_cases hp : powerCheck s addr.toNat (regionOf addr.toNat) = 0
  swap
  · exact writeAccess_unpowered hp
  rw [writeAccess_reg ha hr (hr ▸ hp)]
  split
  · rfl
  split
  · rfl
  rename_i hwo hlk
  obtain ⟨n, hn, hchk⟩ : ∃ n, n ≠ 0 ∧ ownChecks path p off w (e.rws != 0) s = (s, n) := by
    rcases h with h | h | h | h | h
    · exact absurd h hwo
    · exact absurd h hlk
    · exact ⟨0x09, by decide, ownChecks_role (.inl h)⟩
    · exact ⟨0x09, by decide, ownChecks_role (.inr h)⟩
    · exact ownChecks_locked h
  rw [hchk, if_pos hn]

/-- Settles O7: each check of R35 and R293 answers with the state it was given, but OWNED, which counts and raises its event. -/
theorem refusedWritesChangeNothing : Obligations.RefusedWritesChangeNothing := by
  intro s path addr w h
  refine ⟨fun ha => exec_registerWrite_same h (by rw [writeAccess_misaligned ha]), fun hu => exec_registerWrite_same h (writeAccess_unmapped hu),
    fun hp => exec_registerWrite_same h (writeAccess_unpowered hp), fun p off hal => exec_registerWrite_same h (writeAccess_alias hal),
    fun p off e hr => ⟨fun href => exec_registerWrite_same h (writeAccess_reg_refused hr href), ?_⟩⟩
  intro ha hp hon hwr hlk hro hki hll how
  have heff : overPath path (writeAny path addr w) s = (s.bump F.ACC_CNT_ACC_OWNED).raise E.ACC_OWNED_REFUSED := by
    rw [overPath, if_pos hon, writeAny, writeAccess_reg ha hr hp, ownChecks_owned hro hki hll how]
    simp [hwr, hlk]
  exact act_next h heff (by simp) (by simp) (by simp) (by simp)

/-! ### Reads of registers (R37) -/

theorem mergeMask_zero (w v : Word) : mergeMask w v 0 = w := by
  show w &&& BitVec.allOnes 32 ||| v &&& 0#32 = w
  rw [BitVec.and_allOnes, BitVec.and_zero, BitVec.or_zero]

theorem sameBut_refl (ks : List Nat) (s : State) : SameBut ks s s := ⟨rfl, fun _ _ => ⟨rfl, rfl⟩⟩

theorem sameBut_wr (s : State) (p off : Nat) (w : Word) : SameBut [regKey p off] s (s.wr p off w) :=
  ⟨rfl, fun _ hk => ⟨aget_aset_ne _ _ fun he => hk (by simp [he]), rfl⟩⟩

/-- The registers whose own rules give a read an effect: a latch of TICK_NUM, the windows of the plan and the Almanac, a latch of the time of day (R114, R89,
R688, R289). -/
abbrev HasReadEffect (p off : Nat) : Prop :=
  (p = 0x05 ∧ off = 0x054) ∨ (p = 0x06 ∧ off = 0x048) ∨ (p = 0x0B ∧ off = 0x060) ∨ (p = 0x16 ∧ off = 0x068)

theorem readEffect_plain {p off ns : Nat} {s : State} (h : ¬ HasReadEffect p off) : readEffect p off ns s = s := by
  unfold readEffect
  split
  case h_5 => rfl
  all_goals simp at h

theorem rcMask_of_regEnt {p off i : Nat} {e : RegEnt} (h : regEnt p off = some (e, i)) : rcMask p off = e.rc := by simp [rcMask, h]

/-- A register without a read effect of its own is changed by a read in its RC bits only. -/
theorem regRead_plain {p off ns i : Nat} {s : State} {e : RegEnt} (he : regEnt p off = some (e, i)) (h : ¬ HasReadEffect p off) :
    (regRead p off ns s).1 = if e.rc = 0 then s else s.wr p off (mergeMask (s.rd p off) (resetWord p off) e.rc) := by
  simp only [regRead, readEffect_plain h, rcMask_of_regEnt he]

/-- A read at the effective-value alias leaves the state as it is. -/
theorem readAny_alias {addr : Word} {p off ns : Nat} {s : State} (h : regionOf addr.toNat = .alias_ p off) : readAny addr ns s = s := by
  by_cases ha : addr.toNat % 4 = 0
  · by_cases hp : powerCheck s addr.toNat (.alias_ p off) = 0 <;> simp [readAny, readAccess, ha, h, hp]
  · simp [readAny, readAccess, ha]

/-- Settles O8: a read of a register is its read effect, none here, and the return of its RC bits to their reset value. -/
theorem registerReads : Obligations.RegisterReads := by
  refine ⟨?_, fun s path addr p off ns h hal => act_overPath_same h (readAny_alias hal)⟩
  intro s path p off i ns e h hp ho h4 hpe he ⟨hon, hd⟩ hplain
  have heff : overPath path (readAny (regAddr p off) ns) s
      = if e.rc = 0 then s else s.wr p off (mergeMask (s.rd p off) (resetWord p off) e.rc) := by
    rw [overPath, if_pos hon, readAny_reg hp ho h4 hpe he hd, regRead_plain he hplain]
  by_cases hrc : e.rc = 0
  · rw [if_pos hrc] at heff
    exact ⟨s, act_next h heff rfl rfl rfl rfl, by rw [hrc, mergeMask_zero], sameBut_refl _ s, rfl⟩
  · rw [if_neg hrc] at heff
    exact ⟨_, act_next h heff rfl rfl rfl rfl, s.rd_wr_same p off _, sameBut_wr s p off _, rfl⟩

/-! ### Writes of memory (R33, R647) -/

/-- Bytes that are stored read back. -/
theorem bytesAt_setBytes {s : State} (a : Nat) (bs : List Byte) (h : s.memWf = true) : (s.setBytes a bs).bytesAt a bs.length = bs := by
  refine List.ext_getElem (by simp [State.bytesAt, tabulate]) fun i _ hi => ?_
  simpa [State.bytesAt, State.byteAt, State.setBytes, tabulate] using cellRead_cellWrites_in bs (memWf_iff.mp h).1 hi

/-- Bytes outside those that are stored keep their value. -/
theorem byteAt_setBytes_out {s : State} {a x : Nat} (bs : List Byte) (h : s.memWf = true) (hx : x < a ∨ a + bs.length ≤ x) :
    (s.setBytes a bs).byteAt x = s.byteAt x :=
  cellRead_cellWrites_out bs (memWf_iff.mp h).1 hx

/-- A read of a word without an error, standing or injected, changes nothing. -/
theorem memRead_clean {a : Nat} {s : State} (he : aget s.ecc (eccKey a) = none) (hf : a < 0x30000000 → sramFlip s = (none, 0)) :
    memRead a s = (s, some (s.wordAt a)) := by
  unfold memRead
  by_cases ha : a < 0x30000000
  · simp [ha, he, hf ha, eccJoin, eccDecode]
  · simp [ha, he, eccJoin, eccDecode]

theorem regionOf_ret_ge {a : Nat} (h : regionOf a = .ret) : 0x38000000 ≤ a := by
  by_contra hlt
  unfold regionOf at h
  have hret : ¬ (0x38000000 ≤ a ∧ a < 0x38004000) := fun hr => hlt hr.1
  have hreg : ¬ (0x40000000 ≤ a ∧ a < 0x40020000) := by omega
  have hali : ¬ (0x40100000 ≤ a ∧ a < 0x40120000) := by omega
  simp only [hret, hreg, hali, if_false] at h
  split_ifs at h

/-- A write to SRAM or retention RAM that its bank serves, without an ECC error and with its role, stores its word. -/
theorem writeMemory_ok {path : Path} {addr w : Word} {s : State} (ha : addr.toNat % 4 = 0)
    (hr : regionOf addr.toNat = .sram ∧ bankOff s (bankOf addr.toNat) = false ∧ sramFlip s = (none, 0) ∨ regionOf addr.toNat = .ret)
    (he : aget s.ecc (eccKey addr.toNat) = none) (hc : memChecks path addr.toNat s = 0) :
    writeMemory path addr w s = memStore addr.toNat w s := by
  rcases hr with ⟨hr, hb, hf⟩ | hr
  · have hread := memRead_clean he fun _ => hf
    simp [writeMemory, writeAny, writeAccess, pathRead, powerCheck, ha, hr, hb, hread, hc]
  · have hread := memRead_clean he fun hlt => absurd (regionOf_ret_ge hr) (by omega)
    simp [writeMemory, writeAny, writeAccess, powerCheck, ha, hr, hread, hc]

/-- Settles O9: the access stores the word's bytes at the address (`memStore`) and drops the mark of their ECC word. -/
theorem memoryWrites : Obligations.MemoryWrites := by
  intro s path addr w h hwf ha hon hr he hc
  have heff : overPath path (writeMemory path addr w) s = memStore addr.toNat w s := by
    rw [overPath, if_pos hon, writeMemory_ok ha hr he hc]
  exact ⟨memStore addr.toNat w s, act_next h heff rfl rfl rfl rfl, bytesAt_setBytes addr.toNat (bytesOfWord w) hwf,
    fun _ hout => byteAt_setBytes_out (bytesOfWord w) hwf hout, setWord_wf addr.toNat w hwf, rfl⟩

end Sys2Proof.Machine
end

section
/-! What an operation may change, as relations that compose along its steps, and fault events whose source only records: the rules that the commands of the tick engine and of the
slots share. -/

namespace Sys2Proof.Machine

/-! ### Fields that share a register -/

theorem getBits_putBits_other (w : Word) {hi lo hi' lo' : Nat} (v : Nat) (h : lo ≤ hi) (hd : hi' < lo ∨ hi < lo') :
    getBits (putBits w hi lo v) hi' lo' = getBits w hi' lo' := by
  refine Nat.eq_of_testBit_eq fun i => ?_
  simp only [getBits, Nat.testBit_mod_two_pow, Nat.testBit_div_two_pow]
  by_cases hi : i < hi' + 1 - lo'
  · have hbit := putBits_other w v (i + lo') h (by omega)
    simp only [BitVec.getLsbD] at hbit
    simp [hi, hbit]
  · simp [hi]

namespace State

/-- Fields `f` and `g` lie in one register and have no bit in common. -/
abbrev Apart (f g : Fld) : Prop := f.page = g.page ∧ f.off = g.off ∧ f.lo ≤ f.hi ∧ (g.hi < f.lo ∨ f.hi < g.lo)

/-- A field keeps its value when another field of its register is set. -/
theorem get_put_other (s : State) (f g : Fld) (v : Nat) (h : Apart f g) : (s.put f v).get g = s.get g := by
  obtain ⟨hp, ho, hlo, hd⟩ := h
  unfold get put
  cases f.rws <;> cases g.rws <;> simp [← hp, ← ho, getBits_putBits_other _ v hlo hd]

theorem get_raise (s : State) {e : Nat × Nat} {g : Fld} (h : regKey e.1 0x010 ≠ regKey g.page g.off) : (s.raise e).get g = s.get g := by
  unfold get
  rw [s.rd_raise_ne h, rdE_raise]

end State

theorem satTo_eq_min (top n : Nat) : satTo top n = min top n := by
  unfold satTo; split <;> omega

/-! ### What an operation may change -/

/-- From `s` to `t` only register words change. -/
def RegsOnly (s t : State) : Prop := ∃ r e, t = { s with regs := r, eff := e }

/-- From `s` to `t` only register words and the tick engine change. -/
def TickOnly (s t : State) : Prop := ∃ r e k, t = { s with regs := r, eff := e, tick := k }

theorem RegsOnly.refl (s : State) : RegsOnly s s := ⟨_, _, rfl⟩
theorem RegsOnly.trans {s t u : State} : RegsOnly s t → RegsOnly t u → RegsOnly s u := by
  rintro ⟨_, _, rfl⟩ ⟨_, _, rfl⟩
  exact ⟨_, _, rfl⟩
theorem RegsOnly.wr {s t : State} (h : RegsOnly s t) (p off : Nat) (w : Word) : RegsOnly s (t.wr p off w) := h.trans ⟨_, _, rfl⟩
theorem RegsOnly.raise {s t : State} (h : RegsOnly s t) (e : Nat × Nat) : RegsOnly s (t.raise e) := h.wr ..
theorem RegsOnly.put {s t : State} (h : RegsOnly s t) (f : Fld) (v : Nat) : RegsOnly s (t.put f v) := by
  refine h.trans ?_
  unfold State.put
  split <;> exact ⟨_, _, rfl⟩
theorem RegsOnly.putB {s t : State} (h : RegsOnly s t) (f : Fld) (b : Bool) : RegsOnly s (t.putB f b) := h.put ..
theorem RegsOnly.putI {s t : State} (h : RegsOnly s t) (f : Fld) (x : Int) : RegsOnly s (t.putI f x) := h.put ..
theorem RegsOnly.bump {s t : State} (h : RegsOnly s t) (f : Fld) (n : Nat) : RegsOnly s (t.bump f n) := h.put ..

theorem TickOnly.trans {s t u : State} : TickOnly s t → TickOnly t u → TickOnly s u := by
  rintro ⟨_, _, _, rfl⟩ ⟨_, _, _, rfl⟩
  exact ⟨_, _, _, rfl⟩
theorem RegsOnly.tickOnly {s t : State} : RegsOnly s t → TickOnly s t := by
  rintro ⟨_, _, rfl⟩
  exact ⟨_, _, _, rfl⟩
theorem TickOnly.regs {s t u : State} (h : TickOnly s t) (k : RegsOnly t u) : TickOnly s u := h.trans k.tickOnly
theorem tickOnly_tick (s : State) (k : Tick) : TickOnly s { s with tick := k } := ⟨_, _, _, rfl⟩

theorem RegsOnly.tick_eq {s t : State} : RegsOnly s t → t.tick = s.tick := by rintro ⟨_, _, rfl⟩; rfl

theorem RegsOnly.frame {s t : State} : RegsOnly s t → t = { s with regs := t.regs, eff := t.eff } := by
  rintro ⟨_, _, rfl⟩
  rfl

theorem TickOnly.frame {s t : State} : TickOnly s t → t = { s with regs := t.regs, eff := t.eff, tick := t.tick } := by
  rintro ⟨_, _, _, rfl⟩
  rfl

/-! ### Faults whose source only records -/

/-- From `s` to `t` the fault hub notes events, in its own state, in registers of no page before its own and in the Almanac's live image; no reaction is left waiting that did not
wait before. -/
structure FaultNoted (s t : State) : Prop where
  only : ∃ r e f a, t = { s with regs := r, eff := e, flt := f, alm.live := a }
  entered : t.flt.entered = s.flt.entered
  chipReset : t.flt.chipReset = s.flt.chipReset
  rd : ∀ {q off}, q < 7 → off < 0x400 → t.rd q off = s.rd q off

theorem FaultNoted.refl (s : State) : FaultNoted s s := ⟨⟨_, _, _, _, rfl⟩, rfl, rfl, fun _ _ => rfl⟩

theorem FaultNoted.trans {s t u : State} (h : FaultNoted s t) (k : FaultNoted t u) : FaultNoted s u where
  only := by
    obtain ⟨_, _, _, _, rfl⟩ := h.only
    obtain ⟨_, _, _, _, rfl⟩ := k.only
    exact ⟨_, _, _, _, rfl⟩
  entered := k.entered.trans h.entered
  chipReset := k.chipReset.trans h.chipReset
  rd hq ho := (k.rd hq ho).trans (h.rd hq ho)

/-- Register words of the fault hub's own pages. -/
theorem RegsOnly.faultNoted {s t : State} (h : RegsOnly s t) (hrd : ∀ {q off}, q < 7 → off < 0x400 → t.rd q off = s.rd q off) : FaultNoted s t := by
  obtain ⟨_, _, rfl⟩ := h
  exact ⟨⟨_, _, _, _, rfl⟩, rfl, rfl, hrd⟩

/-- The hub's own state, but for the reactions that wait. -/
theorem faultNoted_flt (s : State) {f : Flt} (he : f.entered = s.flt.entered) (hc : f.chipReset = s.flt.chipReset) : FaultNoted s { s with flt := f } :=
  ⟨⟨_, _, _, _, rfl⟩, he, hc, fun _ _ => rfl⟩

theorem almAdd_faultNoted (off n top : Nat) (s : State) : FaultNoted s (almAdd off n top s) := ⟨⟨_, _, _, _, rfl⟩, rfl, rfl, fun _ _ => rfl⟩

theorem regKey_ne_of_page {p off q off' : Nat} (hp : 7 ≤ p) (hq : q < 7) (ho : off' < 0x400) : regKey p off ≠ regKey q off' := by
  unfold regKey
  omega

theorem put_faultNoted (s : State) (f : Fld) (v : Nat) (hf : 7 ≤ f.page) : FaultNoted s (s.put f v) :=
  ((RegsOnly.refl s).put f v).faultNoted fun hq ho => s.rd_put_ne f v (regKey_ne_of_page hf hq ho)

theorem wr_faultNoted (s : State) {p : Nat} (off : Nat) (w : Word) (hp : 7 ≤ p) : FaultNoted s (s.wr p off w) :=
  ((RegsOnly.refl s).wr p off w).faultNoted fun hq ho => s.rd_wr_ne w (regKey_ne_of_page hp hq ho)

theorem fltIrq_faultNoted (s : State) : FaultNoted s (fltIrq s) := by
  unfold fltIrq
  extract_lets hot s1
  have hs1 : FaultNoted s s1 := by
    unfold s1
    split
    · exact wr_faultNoted s _ _ (by decide)
    · exact .refl s
  split
  · exact hs1.trans (wr_faultNoted s1 _ _ (by decide))
  · exact hs1

theorem fltIrq_total (s : State) : (fltIrq s).get F.FLT_REC_CNT_TOTAL = s.get F.FLT_REC_CNT_TOTAL := by
  unfold fltIrq
  extract_lets hot s1
  have hs1 : s1.get F.FLT_REC_CNT_TOTAL = s.get F.FLT_REC_CNT_TOTAL := by
    unfold s1
    split
    · exact s.get_raise (by decide)
    · rfl
  split
  · exact (s1.get_raise (by decide)).trans hs1
  · exact hs1

theorem addRecord_faultNoted (w0 w1 : Word) (s : State) : FaultNoted s (addRecord w0 w1 s) := by
  unfold addRecord State.bump
  extract_lets n f t
  have ht : FaultNoted s t := faultNoted_flt s rfl rfl
  exact (ht.trans (put_faultNoted t F.FLT_REC_CNT_NEXT _ (by decide))).trans (put_faultNoted _ F.FLT_REC_CNT_TOTAL _ (by decide))

theorem addRecord_total (w0 w1 : Word) (s : State) : (addRecord w0 w1 s).get F.FLT_REC_CNT_TOTAL = satTo 65535 (s.get F.FLT_REC_CNT_TOTAL + 1) := by
  unfold addRecord State.bump
  extract_lets n f t
  have ht : t.get F.FLT_REC_CNT_TOTAL = s.get F.FLT_REC_CNT_TOTAL := rfl
  simp (disch := decide) [State.get_put_same, State.get_put_other, ht, satTo_eq_min]

/-- The pending bit of a source, with the interrupt that it may raise (R594). -/
theorem fltIrq_wr_noted (s : State) {p off : Nat} (w : Word) (hp : 7 ≤ p) (hne : regKey p off ≠ regKey F.FLT_REC_CNT_TOTAL.page F.FLT_REC_CNT_TOTAL.off) :
    FaultNoted s (fltIrq (s.wr p off w)) ∧ (fltIrq (s.wr p off w)).get F.FLT_REC_CNT_TOTAL = s.get F.FLT_REC_CNT_TOTAL :=
  ⟨(wr_faultNoted s off w hp).trans (fltIrq_faultNoted _), (fltIrq_total _).trans (congrArg (getBits · 15 0) (s.rd_wr_ne w hne))⟩

/-- A fault event of a source that only records is counted and recorded, and no reaction follows (R592, R593). -/
theorem faultEvent_records {id : Nat} (info : Nat) {s : State} (alt inj : Bool) (h : RecordsOnly id s) :
    FaultNoted s (faultEvent id info s alt inj) ∧ (faultEvent id info s alt inj).get F.FLT_REC_CNT_TOTAL = satTo 65535 (s.get F.FLT_REC_CNT_TOTAL + 1) := by
  obtain ⟨hesc, hbase⟩ := h
  unfold faultEvent
  extract_lets w c esc react inF conv k s1 p cnt s2 rec1 s3 off s4 s5 s6 s7
  have hreact : react ≤ 1 := by
    unfold react
    split
    · exact hesc
    · exact hbase
  have hs1 : FaultNoted s s1 := faultNoted_flt s rfl rfl
  have hs1t : s1.get F.FLT_REC_CNT_TOTAL = s.get F.FLT_REC_CNT_TOTAL := rfl
  clear_value react conv esc s1
  have hcnt : cnt.page = p ∧ 0x200 ≤ cnt.off ∧ cnt.off < 0x400 := by
    have : id % 64 / 2 < 32 := by omega
    unfold cnt
    split <;> exact ⟨rfl, by dsimp only; omega, by dsimp only; omega⟩
  obtain ⟨hpage, hlo, hhi⟩ := hcnt
  clear_value cnt
  have hs2 : FaultNoted s s2 := (hs1.trans (put_faultNoted s1 cnt _ (by omega))).trans (almAdd_faultNoted _ _ _ _)
  have hne : regKey cnt.page cnt.off ≠ regKey F.FLT_REC_CNT_TOTAL.page F.FLT_REC_CNT_TOTAL.off := by
    change cnt.page * 0x400 + cnt.off ≠ 0x07 * 0x400 + 0x05C
    omega
  have hs2t : s2.get F.FLT_REC_CNT_TOTAL = s.get F.FLT_REC_CNT_TOTAL := (State.get_put_ne s1 cnt F.FLT_REC_CNT_TOTAL _ hne).trans hs1t
  clear_value s2 rec1
  have hs3 : FaultNoted s s3 := hs2.trans (addRecord_faultNoted _ _ s2)
  have hs3t : s3.get F.FLT_REC_CNT_TOTAL = satTo 65535 (s.get F.FLT_REC_CNT_TOTAL + 1) := hs2t ▸ addRecord_total _ _ s2
  clear_value s3
  have hs4 : FaultNoted s s4 ∧ s4.get F.FLT_REC_CNT_TOTAL = satTo 65535 (s.get F.FLT_REC_CNT_TOTAL + 1) := by
    unfold s4
    split
    · exact ⟨hs3, hs3t⟩
    · have hne : regKey p off ≠ regKey F.FLT_REC_CNT_TOTAL.page F.FLT_REC_CNT_TOTAL.off := by
        change p * 0x400 + off ≠ 0x07 * 0x400 + 0x05C
        omega
      obtain ⟨hnoted, htotal⟩ := fltIrq_wr_noted s3 (s3.rd p off ||| BitVec.ofNat 32 (2 ^ (id % 32))) (by omega) hne
      exact ⟨hs3.trans hnoted, htotal.trans hs3t⟩
  clear_value s4
  have hs5 : s5 = s4 := if_neg (by omega)
  rw [hs5]
  obtain rfl | rfl : react = 0 ∨ react = 1 := by omega
  · exact hs4
  · exact hs4

theorem FaultNoted.get {s t : State} (h : FaultNoted s t) (f : Fld) (hrws : f.rws = false) (hp : f.page < 7) (ho : f.off < 0x400) : t.get f = s.get f := by
  unfold State.get
  rw [hrws]
  exact congrArg (getBits · f.hi f.lo) (h.rd hp ho)

theorem FaultNoted.tick {s t : State} (h : FaultNoted s t) : t.tick = s.tick := by
  obtain ⟨_, _, _, _, rfl⟩ := h.only
  rfl

theorem almAdd_eff (off n top : Nat) (s : State) : (almAdd off n top s).eff = s.eff := rfl

/-- The reactions of a source are those of its FLT_SRC word. -/
theorem recordsOnly_of_eff {id : Nat} {s t : State} (h : t.eff = s.eff) (hr : RecordsOnly id s) : RecordsOnly id t := by
  have hcfg : srcCfg t id = srcCfg s id := by simp only [srcCfg, State.rdE, h]
  rwa [RecordsOnly, hcfg]

/-! ### Ends of commands -/

/-- A command whose effect leaves the slot that runs, the background work, the transfers and the fault hub alone. -/
theorem act_keeps {f : State → State} {s t : State} (h : Ready s) (hf : f s = t) (hrun : t.plan.run = s.plan.run) (hb : t.bist = s.bist) (hd : t.dma = s.dma)
    (hflt : t.flt = s.flt) : act f s = .next t := by
  subst hf
  exact act_same h hrun (by rw [hb]) (by rw [hd]) (by rw [hflt]) (by rw [hflt])

/-- A command whose effect leaves nothing half done and ends no ARR_LAYER slot. -/
theorem act_quiet {f : State → State} {s t : State} (h : Ready s) (hf : f s = t) (ht : Settled t) (hr : arrSlot s = true → t.plan.run ≠ none) : act f s = .next t := by
  subst hf
  simp [act, h.1, settle_quiet ht hr]

/-- The settled state `s`, with other words and another tick engine, after a fault event whose source only records. -/
theorem faultEvent_recorded {id info : Nat} {s u : State} (alt inj : Bool) (h : Ready s) (hu : TickOnly s u) (htot : u.get F.FLT_REC_CNT_TOTAL = s.get F.FLT_REC_CNT_TOTAL)
    (hr : RecordsOnly id u) : FaultRecorded s (faultEvent id info u alt inj) := by
  obtain ⟨hnoted, htotal⟩ := faultEvent_records info alt inj hr
  obtain ⟨-, hent, hreset, -⟩ := h
  obtain ⟨r, e, k, rfl⟩ := hu
  refine ⟨htotal.trans (by rw [htot]), hnoted.chipReset.trans hreset, hnoted.entered.trans hent, ?_⟩
  obtain ⟨_, _, _, _, ht⟩ := hnoted.only
  rw [ht]
  exact ⟨rfl, rfl, rfl, rfl⟩

/-- A command whose effect changes words and the tick engine, and then has the hub note a fault. -/
theorem act_noted {f : State → State} {s u t : State} (h : Ready s) (hf : f s = t) (hu : TickOnly s u) (ht : FaultNoted u t) : act f s = .next t := by
  subst hf
  obtain ⟨_, _, _, rfl⟩ := hu
  obtain ⟨_, _, _, _, hfs⟩ := ht.only
  exact act_same h (by rw [hfs]) (by rw [hfs]) (by rw [hfs]) ht.entered ht.chipReset

/-- A command whose effect changes register words and the tick engine only. -/
theorem act_tickOnly {f : State → State} {s t : State} (h : Ready s) (hf : f s = t) (ht : TickOnly s t) : act f s = .next t := act_noted h hf ht (.refl t)

end Sys2Proof.Machine
end

section
/-! The tick engine (chapter 03): the boundary's count, PPS_IN, the crystal, holdover and PPS_OUT. Settles O13, O14 and O15. -/

namespace Sys2Proof.Machine

/-! ### The boundary (R71, R718) -/

theorem exec_tickBoundary {s : State} (h : s.boot.held = false) (x : TickIn) : exec (.tickBoundary x) s = .next (settle s (boundary x s)) := by
  change execTickBoundary x s = _
  simp [execTickBoundary, h]

/-- The resets that were accepted in the tick that ends wait through its end (R718). -/
theorem endTick_resetAt (x : TickIn) (s : State) : (endTick x s).boot.resetAt = s.boot.resetAt := congrArg Resets.at_ (resets_endTick x s)

/-- Settles O13: the end of the tick counts it (`endTick_stem`), and no later part of the boundary, nor a reset that the fault hub orders at its end, moves the count; an accepted
reset is asserted instead of what would follow. -/
theorem boundaryAdvancesTickNum : Obligations.BoundaryAdvancesTickNum := by
  refine ⟨fun s x h hr => ⟨_, exec_tickBoundary h.1 x, ?_⟩, fun s x h hr => ⟨_, exec_tickBoundary h.1 x, ?_⟩⟩
  · have hstem := (boundary_stem hr).trans (endTick_stem x s)
    have hheld : (boundary x s).boot.held = false := (congrArg Stem.held hstem).trans h.1
    exact (settle_num s hheld).trans (congrArg Stem.num hstem)
  · rw [boundary_reset hr]
    exact settle_held s (acceptedResets_held (endTick_resetAt x s ▸ hr))

/-! ### References of PPS_IN (R73, R78, R83, R85, R86) -/

theorem setSynced_regsOnly (s : State) : RegsOnly s (setSynced s) := by
  unfold setSynced
  split
  · exact .refl s
  · exact (((RegsOnly.refl s).putB _ _).putB _ _).raise _

theorem setSynced_synced (s : State) : (setSynced s).flag F.TICK_STAT_SYNCED = true := by
  unfold setSynced
  split
  · assumption
  · simp (disch := decide) [State.flag, State.putB, State.get_raise, State.get_put_ne, State.get_put_same]
    rfl

theorem setSynced_state (s : State) : (setSynced s).get F.TICK_STAT_STATE = s.get F.TICK_STAT_STATE := by
  unfold setSynced
  split
  · rfl
  · simp (disch := decide) [State.putB, State.get_raise, State.get_put_ne, State.get_put_other]

theorem measureRef_tickOnly (ns mppm : Int) (s : State) : TickOnly s (measureRef ns mppm s) := by
  unfold measureRef
  extract_lets near n k s1 s2 k2
  have hs2 : TickOnly s s2 := (tickOnly_tick s _).regs (((RegsOnly.refl s1).putI _ _).putI _ _)
  clear_value s2
  split
  · exact ((hs2.trans (tickOnly_tick s2 _)).regs (((RegsOnly.refl _).put _ _).put _ _)).regs (setSynced_regsOnly _)
  · split
    · exact hs2.regs ((RegsOnly.refl s2).put _ _)
    · exact hs2

/-- What a reference leaves of the tick engine's own state (R78, R83): the phase error, and the references within 1 µs in succession. -/
theorem measureRef_tick (ns mppm : Int) (s : State) :
    (measureRef ns mppm s).tick.phase = ns * 288 ∧ (measureRef ns mppm s).tick.ppsRefs = s.tick.ppsRefs
      ∧ (measureRef ns mppm s).tick.lockRefs = satTo 3 (if nearRef ns then s.tick.lockRefs + 1 else 0) := by
  unfold measureRef
  extract_lets near n k s1 s2 k2
  have hs2 : s2.tick = { s.tick with phase := ns * 288, lockRefs := satTo 3 n } := (((RegsOnly.refl s1).putI _ _).putI _ _).tick_eq
  clear_value s2
  split
  · simp [(setSynced_regsOnly _).tick_eq, hs2, k2, n, near]
  · split <;> simp [hs2, n, near]

/-- The third reference in succession within 1 µs locks (R83, R86). -/
theorem measureRef_locks {ns mppm : Int} {s : State} (h : nearRef ns = true) (hn : 2 ≤ s.tick.lockRefs) :
    (measureRef ns mppm s).get F.TICK_STAT_STATE = 2 ∧ (measureRef ns mppm s).flag F.TICK_STAT_SYNCED = true := by
  unfold measureRef
  extract_lets near n k s1 s2 k2
  have hn3 : 3 ≤ n := by simp [n, near, h]; omega
  rw [if_pos hn3]
  refine ⟨?_, setSynced_synced _⟩
  simp (disch := decide) [setSynced_state, State.get_put_other, State.get_put_same]

/-- An edge of the polarity that PPS_EDGE selects counts; one of the other polarity, or with PPS_EN = 0, does not (R73). -/
theorem ppsEdge_ignored {falling : Bool} {since : Nat} {ns mppm : Int} {s : State} (h : s.flag F.TICK_CFG_PPS_EN = false ∨ s.flag F.TICK_CFG_PPS_EDGE ≠ falling) :
    ppsEdge falling since ns mppm s = s := by
  unfold ppsEdge
  rcases h with h | h <;> simp [h]

theorem ppsEdge_first {falling : Bool} {since : Nat} {ns mppm : Int} {s : State} (hen : s.flag F.TICK_CFG_PPS_EN = true) (hp : s.flag F.TICK_CFG_PPS_EDGE = falling)
    (hf : s.tick.ppsFirst = false) : ppsEdge falling since ns mppm s = { s with tick.ppsFirst := true, tick.ppsRefs := 0, tick.ppsAge := 0 } := by
  simp [ppsEdge, hen, hp, hf]

theorem ppsEdge_valid {falling : Bool} {since : Nat} {ns mppm : Int} {s : State} (hen : s.flag F.TICK_CFG_PPS_EN = true) (hp : s.flag F.TICK_CFG_PPS_EDGE = falling)
    (hf : s.tick.ppsFirst = true) (hlo : 999900000 ≤ since) (hhi : since ≤ 1000100000) (hsrc : s.get F.TICK_STAT_SRC = 1) :
    ppsEdge falling since ns mppm s = measureRef ns mppm { s with tick.ppsRefs := satTo 3 (s.tick.ppsRefs + 1), tick.ppsAge := 0 } := by
  have hsrc' : ∀ k : Tick, State.get { s with tick := k } F.TICK_STAT_SRC = 1 := fun _ => hsrc
  simp [ppsEdge, timeRef, hen, hp, hf, hlo, hhi, hsrc']

/-- A loss of PPS_IN in use while LOCKED enters HOLDOVER (R85). -/
theorem ppsLoss_inUse {s : State} (hf : s.tick.ppsFirst = true) (hr : mayReach s s.tick.ppsAge 43200 = true) (hsrc : s.get F.TICK_STAT_SRC = 1)
    (hst : s.get F.TICK_STAT_STATE = 2) :
    ppsLoss s = ({ s with tick.ppsFirst := false, tick.ppsRefs := 0, tick.srcLost := true, tick.holdRun := true }.put F.TICK_STAT_STATE 3).raise E.TICK_HOLDOVER_ENTER := by
  have hsrc' : ∀ k : Tick, State.get { s with tick := k } F.TICK_STAT_SRC = 1 := fun _ => hsrc
  have hst' : ∀ k : Tick, State.get { s with tick := k } F.TICK_STAT_STATE = 2 := fun _ => hst
  simp [ppsLoss, ppsLost, loseTimeSource, hr, hf, hsrc', hst']

theorem ppsLoss_notInUse {s : State} (hf : s.tick.ppsFirst = true) (hr : mayReach s s.tick.ppsAge 43200 = true) (hsrc : s.get F.TICK_STAT_SRC ≠ 1) :
    ppsLoss s = { s with tick.ppsFirst := false, tick.ppsRefs := 0 } := by
  have hsrc' : ∀ k : Tick, State.get { s with tick := k } F.TICK_STAT_SRC ≠ 1 := fun _ => hsrc
  simp [ppsLoss, ppsLost, hr, hf, hsrc']

theorem ppsLoss_none {s : State} (h : s.tick.ppsFirst = false ∨ mayReach s s.tick.ppsAge 43200 = false) : ppsLoss s = s := by
  rcases h with h | h <;> simp [ppsLoss, ppsLost, h]

/-- Settles O14: one lemma for each way an edge or its absence is taken; a valid edge of the source in use measures (`measureRef_tick`, `measureRef_locks`). -/
theorem ppsReferences : Obligations.PpsReferences := by
  intro s falling since ns mppm h
  refine ⟨fun hno => act_next h (ppsEdge_ignored hno) rfl rfl rfl rfl, fun hen hp hf => act_next h (ppsEdge_first hen hp hf) rfl rfl rfl rfl, ?_, ?_,
    fun hf hr hsrc => act_next h (ppsLoss_notInUse hf hr hsrc) rfl rfl rfl rfl, fun hno => act_next h (ppsLoss_none hno) rfl rfl rfl rfl⟩
  · intro hen hp hf hlo hhi hsrc
    have heff := ppsEdge_valid (ns := ns) (mppm := mppm) hen hp hf hlo hhi hsrc
    have hframe := (tickOnly_tick s { s.tick with ppsRefs := satTo 3 (s.tick.ppsRefs + 1), ppsAge := 0 }).trans (measureRef_tickOnly ns mppm _)
    obtain ⟨hphase, hrefs, hlock⟩ := measureRef_tick ns mppm { s with tick.ppsRefs := satTo 3 (s.tick.ppsRefs + 1), tick.ppsAge := 0 }
    refine ⟨_, act_tickOnly h heff hframe, hrefs.trans (satTo_eq_min ..), hphase, ?_, ?_, hframe.frame⟩
    · intro hn hn' hl
      exact measureRef_locks (by simp [nearRef, hn, hn']) hl
    · intro hn
      have hfar : nearRef ns = false := by simp [nearRef, hn]
      rw [hlock, hfar]
      rfl
  · intro hf hr hsrc hst
    have heff := ppsLoss_inUse hf hr hsrc hst
    have hframe : TickOnly s (ppsLoss s) := heff ▸ (tickOnly_tick s _).regs (((RegsOnly.refl _).put _ _).raise _)
    refine ⟨_, act_tickOnly h rfl hframe, ?_⟩
    rw [heff] at hframe ⊢
    refine ⟨?_, by simp, by simp, by simp, State.raise_bit_same _ _ _ (by decide), hframe.frame⟩
    simp (disch := decide) [State.get_raise, State.get_put_same]

/-! ### The crystal, holdover and PPS_OUT (R77, R82, R86, R87) -/

/-- The exempt configuration of R77: a loop generation that may run on the RC and does not require the time. -/
abbrev rcExempt (s : State) : Bool := loopGen s && s.flag F.TICK_CFG_RC_ALLOW && !s.flag F.TICK_CFG_TIME_REQ

/-- The tick engine when the crystal no longer gives the tick (R75, R77). -/
def withoutXtal (s : State) : State := { s with tick.xtalOk := false, tick.srcLost := s.tick.srcLost || s.get F.TICK_STAT_SRC == 0 }

theorem xtalLost_eq (inj : Bool) (s : State) : xtalLost inj s = if rcExempt s then withoutXtal s else faultEvent 0x01 0 (withoutXtal s) false inj := by
  unfold xtalLost
  extract_lets k s1 k1 s2
  have hs2 : s2 = withoutXtal s := by
    unfold s2 withoutXtal
    by_cases h0 : s1.get F.TICK_STAT_SRC = 0
    · rw [if_pos h0, show s.get F.TICK_STAT_SRC = 0 from h0]
      simp [k1, s1, k]
    · rw [if_neg h0, beq_eq_false_iff_ne.mpr (show s.get F.TICK_STAT_SRC ≠ 0 from h0)]
      simp [s1, k]
  rw [hs2]
  rfl

/-- The crystal as the tick engine `k` leaves it: not stable, and lost where it gave the tick. -/
theorem withoutXtal_tick (s : State) (k : Tick) :
    withoutXtal { s with tick := k } = { s with tick := { k with xtalOk := false, srcLost := k.srcLost || s.get F.TICK_STAT_SRC == 0 } } := rfl

theorem exec_xtalStop {s : State} (h : Ready s) : exec .xtalStop s = act xtalStop s := by
  change execXtalStop s = _
  simp [execXtalStop, act, h.1]

theorem exec_xtalStable {s : State} (h : Ready s) : exec .xtalStable s = act xtalStable s := by
  change execXtalStable s = _
  simp [execXtalStable, act, h.1]

theorem xtalStop_running {s : State} (h : s.tick.xtalOk = true) : xtalStop s = xtalLost false { s with tick.xtalRuns := false } := by
  simp [xtalStop, h]

theorem xtalStop_stopped {s : State} (h : s.tick.xtalOk = false) : xtalStop s = { s with tick.xtalRuns := false } := by
  simp [xtalStop, h]

theorem xtalTimeout_none {s : State} (h : s.tick.xtalTimed = true ∨ mayReach s s.boot.relU 86 = false) : xtalTimeout s = s := by
  rcases h with h | h <;> simp [xtalTimeout, h]

theorem xtalTimeout_due {s : State} (ht : s.tick.xtalTimed = false) (hr : mayReach s s.boot.relU 86 = true) :
    xtalTimeout s = if s.tick.xtalSeen || s.tick.xtalOk then { s with tick.xtalTimed := true } else xtalLost false { s with tick.xtalTimed := true } := by
  simp [xtalTimeout, ht, hr]

/-- SYNCED and VALID clear, with SYNC_LOST (R81, R86). -/
def dropSynced (s : State) : State := ((s.putB F.TICK_STAT_SYNCED false).putB F.TICK_SECIDX_VALID false).raise E.TICK_SYNC_LOST

theorem dropSynced_regsOnly (s : State) : RegsOnly s (dropSynced s) := (((RegsOnly.refl s).putB _ _).putB _ _).raise _

theorem dropSynced_synced (s : State) : (dropSynced s).flag F.TICK_STAT_SYNCED = false := by
  have hget : (dropSynced s).get F.TICK_STAT_SYNCED = 0 := by
    unfold dropSynced State.putB
    rw [State.get_raise _ (by decide), State.get_put_ne _ _ _ _ (by decide), State.get_put_same _ _ _ (by decide) (by decide)]
    rfl
  rw [State.flag, hget]
  rfl

theorem dropSynced_state (s : State) : (dropSynced s).get F.TICK_STAT_STATE = s.get F.TICK_STAT_STATE := by
  simp (disch := decide) [dropSynced, State.putB, State.get_raise, State.get_put_ne, State.get_put_other]

/-- A field of another register than those that show the synchronisation. -/
theorem dropSynced_get (s : State) {f : Fld} (h1 : regKey F.TICK_STAT_SYNCED.page F.TICK_STAT_SYNCED.off ≠ regKey f.page f.off)
    (h2 : regKey F.TICK_SECIDX_VALID.page F.TICK_SECIDX_VALID.off ≠ regKey f.page f.off) (h3 : regKey E.TICK_SYNC_LOST.1 0x010 ≠ regKey f.page f.off) : (dropSynced s).get f = s.get f := by
  unfold dropSynced State.putB
  rw [State.get_raise _ h3, State.get_put_ne _ _ _ _ h2, State.get_put_ne _ _ _ _ h1]

theorem clearSynced_eq (s : State) :
    clearSynced s = if s.flag F.TICK_STAT_SYNCED then (if s.flag F.TICK_CFG_TIME_REQ then faultEvent 0x03 0 (dropSynced s) else dropSynced s) else s := by
  have hreq : (dropSynced s).flag F.TICK_CFG_TIME_REQ = s.flag F.TICK_CFG_TIME_REQ := congrArg (· == 1) (dropSynced_get s (by decide) (by decide) (by decide))
  rw [← hreq]
  rfl

theorem dropSynced_eff (s : State) : (dropSynced s).eff = s.eff := rfl

/-- SYNCED is clear afterwards, whether or not its loss is a fault. -/
theorem clearSynced_synced {s : State} (hr : s.flag F.TICK_CFG_TIME_REQ = true → RecordsOnly 0x03 s) : (clearSynced s).flag F.TICK_STAT_SYNCED = false := by
  rw [clearSynced_eq]
  split
  · split
    · rename_i hreq
      have hnoted := (faultEvent_records 0 false false (recordsOnly_of_eff (dropSynced_eff s) (hr hreq))).1
      exact (congrArg (· == 1) (hnoted.get F.TICK_STAT_SYNCED rfl (by decide) (by decide))).trans (dropSynced_synced s)
    · exact dropSynced_synced s
  · simpa using ‹¬s.flag F.TICK_STAT_SYNCED = true›

theorem clearSynced_regsOnly {s : State} (h : s.flag F.TICK_CFG_TIME_REQ = false) : RegsOnly s (clearSynced s) := by
  rw [clearSynced_eq, h]
  split
  · exact dropSynced_regsOnly s
  · exact .refl s

theorem clearSynced_state {s : State} (h : s.flag F.TICK_CFG_TIME_REQ = false) : (clearSynced s).get F.TICK_STAT_STATE = s.get F.TICK_STAT_STATE := by
  rw [clearSynced_eq, h]
  split
  · exact dropSynced_state s
  · rfl

/-- The state whose SYNCED the end of holdover clears: a HOLDOVER has become FREE, in ACQUIRE nothing has changed (R86, R87). -/
def holdoverOver (s : State) : State := if s.get F.TICK_STAT_STATE = 3 then s.put F.TICK_STAT_STATE 0 else s

theorem holdoverExpiry_due {s : State} (hr : s.tick.holdRun = true) (hl : s.get F.TICK_HOLD_HOLDOVER_LIMIT * 28800 ≤ s.tick.hold) :
    holdoverExpiry s = clearSynced (holdoverOver s) := by
  unfold holdoverExpiry holdoverOver enterFree
  rw [if_pos ⟨hr, hl⟩]
  split <;> rfl

theorem holdoverExpiry_none {s : State} (h : s.tick.holdRun = false ∨ s.tick.hold < s.get F.TICK_HOLD_HOLDOVER_LIMIT * 28800) : holdoverExpiry s = s := by
  refine if_neg fun ⟨hr, hl⟩ => ?_
  rcases h with h | h
  · simp [h] at hr
  · omega

theorem holdoverOver_regsOnly (s : State) : RegsOnly s (holdoverOver s) := by
  unfold holdoverOver
  split
  · exact (RegsOnly.refl s).put _ _
  · exact .refl s

theorem holdoverOver_get (s : State) {f : Fld} (h : regKey F.TICK_STAT_STATE.page F.TICK_STAT_STATE.off ≠ regKey f.page f.off) : (holdoverOver s).get f = s.get f := by
  unfold holdoverOver
  split
  · exact s.get_put_ne _ f _ h
  · rfl

theorem holdoverOver_synced (s : State) : (holdoverOver s).flag F.TICK_STAT_SYNCED = s.flag F.TICK_STAT_SYNCED := by
  unfold holdoverOver
  split
  · simp (disch := decide) [State.flag, State.get_put_other]
  · rfl

theorem holdoverOver_eff (s : State) : (holdoverOver s).eff = s.eff := by
  unfold holdoverOver
  split <;> rfl

theorem ppsOutEnd_eq (s : State) : ppsOutEnd s = if mayReach s s.tick.sincePps 288 then { s with tick.ppsOut := false } else s := by
  simp [ppsOutEnd, mayReach]

/-- A crystal that no longer gives the tick, where R77 exempts it and where it is a fault. -/
theorem xtalLost_cases {f : State → State} {s u : State} (h : Ready s) (hf : f s = xtalLost false u) (hu : TickOnly s u)
    (htot : u.get F.FLT_REC_CNT_TOTAL = s.get F.FLT_REC_CNT_TOTAL) (heff : u.eff = s.eff) :
    (rcExempt u = true → act f s = .next (withoutXtal u))
      ∧ (rcExempt u = false → RecordsOnly 0x01 s → ∃ t, act f s = .next t ∧ t.tick = (withoutXtal u).tick ∧ FaultRecorded s t) := by
  have hw : TickOnly s (withoutXtal u) := hu.trans (tickOnly_tick u _)
  constructor
  · intro hex
    exact act_noted h (hf.trans (by rw [xtalLost_eq, if_pos hex])) hw (.refl _)
  · intro hex hr
    have hr' : RecordsOnly 0x01 (withoutXtal u) := recordsOnly_of_eff heff hr
    have hnoted := (faultEvent_records 0 false false hr').1
    exact ⟨_, act_noted h (hf.trans (by rw [xtalLost_eq, hex]; rfl)) hw hnoted, hnoted.tick, faultEvent_recorded false false h hw htot hr'⟩

/-- The end of holdover where time is not required: SYNCED clears, and a HOLDOVER is FREE (R86, R87). -/
theorem exec_holdoverExpiry_quiet {s : State} (h : Ready s) (hrun : s.tick.holdRun = true) (hlim : s.get F.TICK_HOLD_HOLDOVER_LIMIT * 28800 ≤ s.tick.hold)
    (hreq : s.flag F.TICK_CFG_TIME_REQ = false) :
    ∃ t, exec .holdoverLimitExpiry s = .next t ∧ t.flag F.TICK_STAT_SYNCED = false ∧ (s.get F.TICK_STAT_STATE = 3 → t.get F.TICK_STAT_STATE = 0)
      ∧ (s.get F.TICK_STAT_STATE = 1 → t.get F.TICK_STAT_STATE = 1) ∧ t = { s with regs := t.regs, eff := t.eff } := by
  have hreq' : (holdoverOver s).flag F.TICK_CFG_TIME_REQ = false := (congrArg (· == 1) (holdoverOver_get s (by decide))).trans hreq
  have hframe := (holdoverOver_regsOnly s).trans (clearSynced_regsOnly hreq')
  refine ⟨_, act_tickOnly h (holdoverExpiry_due hrun hlim) hframe.tickOnly, clearSynced_synced (by simp [hreq']), ?_, ?_, hframe.frame⟩
  · intro h3
    rw [clearSynced_state hreq', holdoverOver, if_pos h3, State.get_put_same _ _ _ (by decide) (by decide)]
    rfl
  · intro h1
    rw [clearSynced_state hreq', holdoverOver, if_neg (by omega), h1]

/-- The end of holdover where time is required: SYNCED clears, and TIME_UNSYNC is raised (R590). -/
theorem exec_holdoverExpiry_unsync {s : State} (h : Ready s) (hrun : s.tick.holdRun = true) (hlim : s.get F.TICK_HOLD_HOLDOVER_LIMIT * 28800 ≤ s.tick.hold)
    (hreq : s.flag F.TICK_CFG_TIME_REQ = true) (hsync : s.flag F.TICK_STAT_SYNCED = true) (hrec : RecordsOnly 0x03 s) :
    ∃ t, exec .holdoverLimitExpiry s = .next t ∧ t.flag F.TICK_STAT_SYNCED = false ∧ FaultRecorded s t := by
  have hreq' : (holdoverOver s).flag F.TICK_CFG_TIME_REQ = true := (congrArg (· == 1) (holdoverOver_get s (by decide))).trans hreq
  have hrec' : RecordsOnly 0x03 (holdoverOver s) := recordsOnly_of_eff (holdoverOver_eff s) hrec
  have hrecd := recordsOnly_of_eff (dropSynced_eff _) hrec'
  have hev : clearSynced (holdoverOver s) = faultEvent 0x03 0 (dropSynced (holdoverOver s)) := by
    rw [clearSynced_eq, holdoverOver_synced, hsync, hreq']
    rfl
  have hframe := ((holdoverOver_regsOnly s).trans (dropSynced_regsOnly _)).tickOnly
  have htot : (dropSynced (holdoverOver s)).get F.FLT_REC_CNT_TOTAL = s.get F.FLT_REC_CNT_TOTAL :=
    (dropSynced_get _ (by decide) (by decide) (by decide)).trans (holdoverOver_get s (by decide))
  refine ⟨_, act_noted h (holdoverExpiry_due hrun hlim) hframe (hev ▸ (faultEvent_records 0 false false hrecd).1), clearSynced_synced fun _ => hrec', ?_⟩
  rw [hev]
  exact faultEvent_recorded false false h hframe htot hrecd

/-- Settles O15: what the crystal's loss brings (`xtalLost_cases`) and what the end of holdover clears (`clearSynced_eq`); where a fault is raised, it is only recorded
(`faultEvent_records`). -/
theorem crystalAndHoldover : Obligations.CrystalAndHoldover := by
  intro s h
  have hstop (hok : s.tick.xtalOk = true) := xtalLost_cases h (xtalStop_running hok) (tickOnly_tick s _) rfl rfl
  have htime (ht : s.tick.xtalTimed = false) (hr : mayReach s s.boot.relU 86 = true) (hs : s.tick.xtalSeen = false) (hok : s.tick.xtalOk = false) :=
    xtalLost_cases h ((xtalTimeout_due ht hr).trans (if_neg (by simp [hs, hok]))) (tickOnly_tick s _) rfl rfl
  refine ⟨fun hok hex => ?_, fun hok hex hr => ?_, fun hok => ?_, fun ht hr hs hok hex => ?_, fun ht hr hs hok hex hrec => ?_, fun ht hr hs => ?_, fun hno => ?_, ?_,
    ?_, ?_, ?_, ?_, ?_⟩
  · exact (exec_xtalStop h).trans ((hstop hok).1 hex)
  · rw [exec_xtalStop h]
    exact (hstop hok).2 hex hr
  · exact (exec_xtalStop h).trans (act_next h (xtalStop_stopped hok) rfl rfl rfl rfl)
  · have hlost := (htime ht hr hs hok).1 hex
    exact hlost.trans (by rw [withoutXtal_tick, ← hok])
  · obtain ⟨t, hexec, htick, hrecd⟩ := (htime ht hr hs hok).2 hex hrec
    exact ⟨t, hexec, htick.trans (by rw [withoutXtal_tick, ← hok]), hrecd⟩
  · exact act_next h ((xtalTimeout_due ht hr).trans (if_pos hs)) rfl rfl rfl rfl
  · exact act_next h (xtalTimeout_none hno) rfl rfl rfl rfl
  · exact (exec_xtalStable h).trans (act_next h rfl rfl rfl rfl rfl)
  · exact fun hrun hlim hreq => exec_holdoverExpiry_quiet h hrun hlim hreq
  · exact fun hrun hlim hreq hsync hrec => exec_holdoverExpiry_unsync h hrun hlim hreq hsync hrec
  · exact fun hno => act_next h (holdoverExpiry_none hno) rfl rfl rfl rfl
  · exact fun hr => act_next h ((ppsOutEnd_eq s).trans (if_pos hr)) rfl rfl rfl rfl
  · exact fun hr => act_next h ((ppsOutEnd_eq s).trans (if_neg (by simp [hr]))) rfl rfl rfl rfl

end Sys2Proof.Machine
end

section
/-! TICK_NUM as read, and the plan window (R89, R90, R114). Settles O16. -/

namespace Sys2Proof.Machine

/-- A read of a register without RC bits is its read effect. -/
theorem overPath_readAny {path : Path} {p off ns i : Nat} {s : State} {e : RegEnt} (hp : p < 0x80) (ho : off < 0x400) (h4 : off % 4 = 0)
    (hpe : (pageEnt p).isSome = true) (he : regEnt p off = some (e, i)) (hrc : e.rc = 0) (h : MayRead path p s) :
    overPath path (readAny (regAddr p off) ns) s = readEffect p off ns s := by
  obtain ⟨hon, hd⟩ := h
  simp [overPath, hon, readAny_reg hp ho h4 hpe he hd, regRead, rcMask_of_regEnt he, hrc]

theorem tickNumRead_effect {path : Path} {s : State} (h : MayRead path 0x05 s) :
    overPath path (readAny (regAddr 0x05 0x054) 0) s = s.put F.TICK_NUM_HI_HI (s.tick.num / 2 ^ 32) :=
  overPath_readAny (e := ⟨0x054, 0x400, 1, 4, 1, 0x0, 0x0, 0x0, 0x0, 0x0, 0x0, 0x0⟩) (i := 0) (by decide) (by decide) (by decide) rfl rfl rfl h

theorem normalWord_tickNumLo (s : State) : normalWord s 0x05 0x054 = BitVec.ofNat 32 s.tick.num := by
  have hhid : hidden s 0x05 0x054 = 0 := by simp [hidden, srstHides, aget]
  have hder : derived s 0x05 0x054 = some (BitVec.ofNat 32 s.tick.num) := rfl
  simp [normalWord, hhid, hder, mergeMask_zero]

/-! ### The plan window -/

theorem planWinAddr_effect {path : Path} {w : Word} {s : State} (h : MayWrite path 0x06 0x044 w s) :
    overPath path (writeReg path 0x06 0x044 w) s = planWinAddr w (noteOwner path 0x06 s) :=
  overPath_writeReg (e := ⟨0x044, 0x400, 1, 4, 1, 0x0, 0x0, 0x0, 0x117FF, 0x0, 0x0, 0x0⟩) (i := 0) (by decide) (by decide) (by decide) rfl rfl (by decide) h
    fun hrws => absurd rfl hrws

theorem planWinWrite_effect {path : Path} {w : Word} {s : State} (h : MayWrite path 0x06 0x048 w s) :
    overPath path (winDataAccess path (some w)) s = planWinWrite w (noteOwner path 0x06 s) :=
  overPath_writeReg (e := ⟨0x048, 0x400, 1, 4, 1, 0x0, 0x0, 0x0, 0xFFFFFFFF, 0x0, 0x0, 0x0⟩) (i := 0) (by decide) (by decide) (by decide) rfl rfl (by decide) h
    fun hrws => absurd rfl hrws

theorem planWinRead_effect {path : Path} {s : State} (h : MayRead path 0x06 s) : overPath path (winDataAccess path none) s = planWinNext s :=
  overPath_readAny (e := ⟨0x048, 0x400, 1, 4, 1, 0x0, 0x0, 0x0, 0xFFFFFFFF, 0x0, 0x0, 0x0⟩) (i := 0) (by decide) (by decide) (by decide) rfl rfl rfl h

/-- A write that is noted for its page's rank changes nothing else (R292). -/
theorem noteOwner_pageOnly (path : Path) (p : Nat) (s : State) : ∃ g, noteOwner path p s = { s with page := g } := by
  unfold noteOwner
  extract_lets x
  split
  · exact ⟨_, rfl⟩
  · exact ⟨_, rfl⟩

@[simp] theorem noteOwner_get (path : Path) (p : Nat) (s : State) (f : Fld) : (noteOwner path p s).get f = s.get f := by
  obtain ⟨g, hg⟩ := noteOwner_pageOnly path p s
  rw [hg]
  rfl

theorem noteOwner_flag (path : Path) (p : Nat) (s : State) (k : Plan) (f : Fld) : State.flag { noteOwner path p s with plan := k } f = s.flag f :=
  congrArg (· == 1) (noteOwner_get path p s f)

@[simp] theorem noteOwner_plan (path : Path) (p : Nat) (s : State) : (noteOwner path p s).plan = s.plan := by
  obtain ⟨g, hg⟩ := noteOwner_pageOnly path p s
  rw [hg]

/-- From `s` to `t` only words at normal addresses and the plan change, and the slot that runs stays. -/
def WindowOnly (s t : State) : Prop := ∃ r k, t = { s with regs := r, plan := k } ∧ k.run = s.plan.run

theorem WindowOnly.refl (s : State) : WindowOnly s s := ⟨_, _, rfl, rfl⟩

theorem WindowOnly.trans {s t u : State} : WindowOnly s t → WindowOnly t u → WindowOnly s u := by
  rintro ⟨_, _, rfl, hk⟩ ⟨_, _, rfl, hl⟩
  exact ⟨_, _, rfl, hl.trans hk⟩

theorem put_windowOnly (s : State) (f : Fld) (v : Nat) (hf : f.rws = false) : WindowOnly s (s.put f v) := by
  unfold State.put
  rw [hf]
  exact ⟨_, _, rfl, rfl⟩

theorem planWinNext_windowOnly (s : State) : WindowOnly s (planWinNext s) := by
  unfold planWinNext
  split
  · exact put_windowOnly s _ _ rfl
  · exact .refl s

theorem planWinNext_plan (s : State) : (planWinNext s).plan = s.plan := by
  unfold planWinNext
  split <;> simp

/-- A window write gives the validator a reason to update its result (R95). -/
theorem checked_windowOnly (s : State) : WindowOnly s { s with plan.checked := true } := ⟨_, _, rfl, rfl⟩

theorem setBankWord_windowOnly (b i : Nat) (w : Word) (s : State) : WindowOnly s (setBankWord b i w s) := by
  unfold setBankWord
  split
  · exact .refl s
  · extract_lets put
    split <;> exact ⟨_, _, rfl, rfl⟩

/-- A command whose effect is an access to the plan window by `path`. -/
theorem act_window {path : Path} {f : State → State} {s t : State} (h : Ready s) (hf : f s = t) (hw : WindowOnly (noteOwner path 0x06 s) t) :
    act f s = .next t ∧ t = { noteOwner path 0x06 s with regs := t.regs, plan := t.plan } := by
  obtain ⟨g, hg⟩ := noteOwner_pageOnly path 0x06 s
  rw [hg] at hw ⊢
  obtain ⟨r, k, rfl, hrun⟩ := hw
  exact ⟨act_keeps h hf hrun rfl rfl rfl, rfl⟩

/-! ### The banks -/

/-- A word of a bank that is stored is in that bank only, at its index. -/
theorem planBank_setBankWord {b i : Nat} {w : Word} (s : State) (hi : i < 0x600) (hw : w ≠ 0) : planBank (setBankWord b i w s) b = aset (planBank s b) i w := by
  unfold setBankWord planBank
  simp only [if_neg hw]
  by_cases hb : b = 0 <;> simp [Nat.not_le.mpr hi, hb]

theorem planBank_setBankWord_other {b c i : Nat} {w : Word} (s : State) (h : b = 0 ↔ c ≠ 0) : planBank (setBankWord b i w s) c = planBank s c := by
  unfold setBankWord planBank
  by_cases hi : 0x600 ≤ i
  · simp [hi]
  · by_cases hb : b = 0
    · simp [hi, hb, h.mp hb]
    · simp [hi, hb, not_not.mp (mt h.mpr hb)]

theorem bankWord_aset_same (m : Assoc Word) {i : Nat} (w : Word) (hi : i < 0x600) : bankWord (aset m i w) i = w := by
  simp [bankWord, Nat.not_le.mpr hi, aget_aset_same]

theorem bankWord_aset_ne (m : Assoc Word) {i j : Nat} (w : Word) (h : j ≠ i) : bankWord (aset m i w) j = bankWord m j := by
  simp [bankWord, aget_aset_ne m w h.symm]

theorem planBank_of_plan {s t : State} (h : t.plan = s.plan) (b : Nat) : planBank t b = planBank s b := by simp [planBank, h]

theorem planWinWrite_inForce {w : Word} {s : State} (h : s.get F.PLAN_WIN_ADDR_WBANK = s.get F.PLAN_CTRL_BANK) :
    planWinWrite w s = planWinNext ({ s with plan.checked := true }.putB F.PLAN_STAT_WIN_ERR true) := by
  unfold planWinWrite
  exact if_pos h

theorem planWinWrite_idle {w : Word} {s : State} (h : s.get F.PLAN_WIN_ADDR_WBANK ≠ s.get F.PLAN_CTRL_BANK) :
    planWinWrite w s = planWinNext (setBankWord (s.get F.PLAN_WIN_ADDR_WBANK) (s.get F.PLAN_WIN_ADDR_INDEX) w { s with plan.checked := true }) := by
  unfold planWinWrite
  exact if_neg h

theorem SameBut.put {ks : List Nat} {s t : State} (h : SameBut ks s t) (f : Fld) (v : Nat) (hf : f.rws = false) (hk : regKey f.page f.off ∈ ks) :
    SameBut ks s (t.put f v) := by
  obtain ⟨hframe, hwords⟩ := h
  have hput : t.put f v = t.wr f.page f.off (putBits (t.rd f.page f.off) f.hi f.lo v) := by
    unfold State.put
    rw [hf]
    rfl
  rw [hput]
  refine ⟨?_, fun k hne => ⟨?_, (hwords k hne).2⟩⟩
  · rw [hframe]
    rfl
  · exact (aget_aset_ne _ _ fun he => hne (by rwa [← he])).trans (hwords k hne).1

theorem planWinAddr_windowOnly (w : Word) (s : State) : WindowOnly s (planWinAddr w s) := by
  unfold planWinAddr
  extract_lets k u
  have hu : WindowOnly s u := checked_windowOnly s
  clear_value u
  exact (((hu.trans (put_windowOnly u _ _ rfl)).trans (put_windowOnly _ _ _ rfl)).trans (put_windowOnly _ _ _ rfl)).trans (put_windowOnly _ _ _ rfl)

theorem planWinAddr_sameBut (w : Word) (s : State) :
    SameBut [regKey 0x06 0x044, regKey 0x06 F.PLAN_STAT_WIN_ERR.off] { s with plan.checked := true } (planWinAddr w s) :=
  ((((sameBut_refl _ _).put F.PLAN_WIN_ADDR_AINC _ rfl (by decide)).put F.PLAN_WIN_ADDR_WBANK _ rfl (by decide)).put F.PLAN_WIN_ADDR_INDEX _ rfl (by decide)).put
    F.PLAN_STAT_WIN_ERR _ rfl (by decide)

/-- Bank, index and AINC read back as written, and WIN_ERR is clear (R89). -/
theorem planWinAddr_fields (w : Word) (s : State) :
    (planWinAddr w s).get F.PLAN_WIN_ADDR_INDEX = getBits w 10 0 ∧ (planWinAddr w s).get F.PLAN_WIN_ADDR_WBANK = getBits w 12 12
      ∧ (planWinAddr w s).get F.PLAN_WIN_ADDR_AINC = getBits w 16 16 ∧ (planWinAddr w s).flag F.PLAN_STAT_WIN_ERR = false := by
  unfold planWinAddr
  extract_lets k u
  refine ⟨?_, ?_, ?_, ?_⟩
  · rw [State.putB, State.get_put_ne _ _ _ _ (by decide), State.get_put_same _ _ _ (by decide) (by decide)]
    exact Nat.mod_eq_of_lt (getBits_lt w 10 0)
  · rw [State.putB, State.get_put_ne _ _ _ _ (by decide), State.get_put_other _ _ _ _ (by decide),
      State.get_put_same _ _ _ (by decide) (by decide)]
    exact Nat.mod_eq_of_lt (getBits_lt w 12 12)
  · rw [State.putB, State.get_put_ne _ _ _ _ (by decide), State.get_put_other _ _ _ _ (by decide),
      State.get_put_other _ _ _ _ (by decide), State.get_put_same _ _ _ (by decide) (by decide)]
    exact Nat.mod_eq_of_lt (getBits_lt w 16 16)
  · rw [State.flag, State.putB, State.get_put_same _ _ _ (by decide) (by decide)]
    rfl

/-- The index steps after an access with AINC set, and wraps after its 11 bits (R89). -/
theorem planWinNext_index {s : State} (h : s.flag F.PLAN_WIN_ADDR_AINC = true) :
    (planWinNext s).get F.PLAN_WIN_ADDR_INDEX = (s.get F.PLAN_WIN_ADDR_INDEX + 1) % 2 ^ 11 := by
  rw [planWinNext, if_pos h]
  exact State.get_put_same _ _ _ (by decide) (by decide)

theorem planWinNext_winErr (s : State) : (planWinNext s).flag F.PLAN_STAT_WIN_ERR = s.flag F.PLAN_STAT_WIN_ERR := by
  unfold planWinNext
  split
  · rw [State.flag, State.get_put_ne _ _ _ _ (by decide), State.flag]
  · rfl

theorem flag_putB_true (s : State) {f : Fld} (h : f.lo = f.hi) (h' : f.hi < 32) : (s.putB f true).flag f = true := by
  rw [State.flag, State.putB, State.get_put_same _ _ _ (by omega) h', h]
  simp [b2n]

theorem setBankWord_outside {b i : Nat} {w : Word} {s : State} (h : 0x600 ≤ i) : setBankWord b i w s = s := by
  unfold setBankWord
  exact if_pos h

theorem setBankWord_get (b i : Nat) (w : Word) (s : State) (f : Fld) : (setBankWord b i w s).get f = s.get f := by
  unfold setBankWord
  split
  · rfl
  · extract_lets put
    split <;> rfl

/-- Settles O16: an access that passes its checks is the window's operation, which changes its own registers and one word of the idle bank. -/
theorem tickNumAndPlanWindow : Obligations.TickNumAndPlanWindow := by
  intro s path h
  refine ⟨fun hr => ⟨act_next h (tickNumRead_effect hr) (by simp) (by simp) (by simp) (by simp), normalWord_tickNumLo s⟩, ?_, ?_, ?_, ?_, ?_, ?_⟩
  · intro w hw
    obtain ⟨hindex, hbank, hainc, herr⟩ := planWinAddr_fields w (noteOwner path 0x06 s)
    obtain ⟨hexec, -⟩ := act_window h (planWinAddr_effect hw) (planWinAddr_windowOnly w _)
    exact ⟨_, hexec, hindex, hbank, hainc, herr, planWinAddr_sameBut w _⟩
  · intro w hw hb
    have heff := (planWinWrite_effect hw).trans (planWinWrite_inForce (by simpa using hb))
    obtain ⟨hexec, hframe⟩ := act_window h heff (((checked_windowOnly _).trans (put_windowOnly _ _ _ rfl)).trans (planWinNext_windowOnly _))
    refine ⟨_, hexec, (planWinNext_winErr _).trans (flag_putB_true _ rfl (by decide)), ?_, hframe⟩
    rw [planWinNext_plan]
    simp
  · intro w hw hb hi hainc hw0
    have heff := (planWinWrite_effect hw).trans (planWinWrite_idle (by simpa using hb))
    rw [noteOwner_get, noteOwner_get] at heff
    obtain ⟨hexec, hframe⟩ := act_window h heff (((checked_windowOnly _).trans (setBankWord_windowOnly _ _ _ _)).trans (planWinNext_windowOnly _))
    have hbank (c : Nat) := planBank_of_plan (planWinNext_plan (setBankWord (s.get F.PLAN_WIN_ADDR_WBANK) (s.get F.PLAN_WIN_ADDR_INDEX) w
      { noteOwner path 0x06 s with plan.checked := true })) c
    refine ⟨_, hexec, ?_, ?_, ?_, ?_, hframe⟩
    · rw [hbank, planBank_setBankWord _ hi hw0, bankWord_aset_same _ w hi]
    · intro j hj
      rw [hbank, planBank_setBankWord _ hi hw0, bankWord_aset_ne _ w hj]
      simp [planBank]
    · have hlt : s.get F.PLAN_WIN_ADDR_WBANK < 2 := getBits_lt _ 12 12
      rw [hbank, planBank_setBankWord_other _ (by omega)]
      simp [planBank]
    · rw [planWinNext_index (by rw [State.flag, setBankWord_get]; exact (noteOwner_flag ..).trans hainc), setBankWord_get]
      exact congrArg (fun n => (n + 1) % 2 ^ 11) (noteOwner_get ..)
  · intro w hw hb hi hainc
    have heff := (planWinWrite_effect hw).trans (planWinWrite_idle (by simpa using hb))
    rw [noteOwner_get, noteOwner_get, setBankWord_outside hi, planWinNext, if_neg] at heff
    · exact (act_window h heff (checked_windowOnly _)).1
    · rw [noteOwner_flag, hainc]
      decide
  · intro hr hainc
    exact act_next h ((planWinRead_effect hr).trans (if_pos hainc)) (by simp) (by simp) (by simp) (by simp)
  · intro hr hainc
    exact act_next h ((planWinRead_effect hr).trans (if_neg (by simp [hainc]))) rfl rfl rfl rfl

end Sys2Proof.Machine
end

section
/-! The slots of a tick: how they end, and a LOOP_UPDATE that runs while the blocks are asked to quiesce. Settles O17 and refutes O18. -/

namespace Sys2Proof.Machine

/-! ### Slots that no separate rule advances -/

/-- The running slot `r` is none of ARR_LAYER, LEARN_STEP and DMA_JOB, and no background task works in it. -/
structure PlainSlot (r : Running) (s : State) : Prop where
  run : s.plan.run = some r
  notArr : r.slot.action ≠ 7
  notLearn : r.slot.action ≠ 8
  notDma : r.slot.action ≠ 9
  noTask : s.bist.task = none

theorem PlainSlot.arrSlot_eq {r : Running} {s : State} (h : PlainSlot r s) : arrSlot s = false := by simp [arrSlot, h.run, h.notArr]

theorem PlainSlot.dmaSlot_eq {r : Running} {s : State} (h : PlainSlot r s) : dmaSlot s = none := by simp [dmaSlot, h.run, h.notDma]

/-- Such a slot's work advances nothing. -/
theorem PlainSlot.slotWork_eq {r : Running} {s : State} (h : PlainSlot r s) (whole : Bool) (at_ : Nat) : slotWork whole at_ s = s := by
  have harr : arrUntil at_ s = s := by simp [arrUntil, h.arrSlot_eq]
  have htask : workUntil at_ s = s := by simp [workUntil, h.noTask]
  have hlearn : learnWork at_ s = s := by simp [learnWork, h.run, h.notLearn]
  have hdma (x : Option Nat) : dmaUntil x s = s := by simp [dmaUntil, h.dmaSlot_eq]
  rw [slotWork, harr, htask, hlearn, hdma]

theorem closeWork_noTask {s : State} (h : s.bist.task = none) (c : Bool) : closeWork c s = s := by simp [closeWork, h]

/-- From `s` to `t` only register words and the plan change. -/
def PlanOnly (s t : State) : Prop := ∃ r e k, t = { s with regs := r, eff := e, plan := k }

theorem PlanOnly.regs {s t u : State} : PlanOnly s t → RegsOnly t u → PlanOnly s u := by
  rintro ⟨_, _, _, rfl⟩ ⟨_, _, rfl⟩
  exact ⟨_, _, _, rfl⟩

theorem planOnly_plan (s : State) (k : Plan) : PlanOnly s { s with plan := k } := ⟨_, _, _, rfl⟩

/-- A command that ends such a slot and changes only register words and the plan ends quietly. -/
theorem PlainSlot.act_end {r : Running} {f : State → State} {s t : State} (hp : PlainSlot r s) (h : Ready s) (hf : f s = t) (ht : PlanOnly s t) :
    act f s = .next t := by
  obtain ⟨-, hent, hreset, -, hjobs⟩ := id h
  have hnone : s.dma.jobs = [] := by
    by_contra hne
    exact hjobs hne hp.dmaSlot_eq
  obtain ⟨_, _, _, rfl⟩ := ht
  exact act_quiet h hf ⟨hent, hreset, fun hc => absurd hp.noTask hc, fun hc => absurd hnone hc⟩ (by simp [hp.arrSlot_eq])

/-- An O or B slot takes its burst with it (R153). -/
theorem usedTo_endRun_ob {s : State} (h : obRuns s = true) (n : Nat) :
    usedTo n (endRun s) = { s with plan.run := none, plan.freeAt := max s.plan.freeAt n }.putB F.GOV_STAT_BURST false := by
  unfold usedTo endRun
  rw [h]
  rfl

theorem PlainSlot.budgetExpiry_eq {r : Running} {s : State} (h : PlainSlot r s) (hk : r.slot.kind = 2) :
    budgetExpiry s = (({ s with plan.run := none, plan.freeAt := max s.plan.freeAt (r.slot.start + r.slot.budget) }.putB F.GOV_STAT_BURST false).bump
      F.PLAN_CNT_O_OVERRUN).raise E.PLAN_O_ABORT := by
  have hob : obRuns s = true := by simp [obRuns, h.run, hk]
  have hend : budgetEnd r = r.slot.start + r.slot.budget := by simp [budgetEnd, hk]
  simp only [budgetExpiry, h.run, h.slotWork_eq, oExpiry, hk, if_true, hend, usedTo_endRun_ob hob]

theorem PlainSlot.backgroundEnd_eq {r : Running} {s : State} (h : PlainSlot r s) (hk : r.slot.kind = 3) :
    backgroundEnd s = { s with plan.run := none, plan.freeAt := max s.plan.freeAt (r.slot.start + r.slot.budget) }.putB F.GOV_STAT_BURST false := by
  have hob : obRuns s = true := by simp [obRuns, h.run, hk]
  have hend : budgetEnd r = r.slot.start + r.slot.budget := by simp [budgetEnd, hk]
  simp only [backgroundEnd, h.run, h.slotWork_eq, closeWork_noTask h.noTask, bEnd, hk, if_true, hend, usedTo_endRun_ob hob]

/-- Where only M slots wait, the end of a slot passes none of them over. -/
theorem dropPassed_mSlots {s : State} (h : ∀ d, d ∈ s.plan.todo → d.kind = 1) (at_ : Nat) : dropPassed at_ s = s := by
  unfold dropPassed
  extract_lets gone s' k
  have hgone (d : Slot) (hd : d ∈ s.plan.todo) : gone d = false := by simp [gone, h d hd]
  have hnone : s.plan.todo.filter gone = [] := List.filter_eq_nil_iff.mpr fun d hd => by simp [hgone d hd]
  have hs' : s' = s := by simp [s', hnone]
  have hkeep : (s.plan.todo.filter fun d => !gone d) = s.plan.todo := List.filter_eq_self.mpr fun d hd => by simp [hgone d hd]
  simp only [k, hs', hkeep]

theorem endRun_m {s : State} (h : obRuns s = false) : endRun s = { s with plan.run := none } := by
  unfold endRun
  rw [h]
  rfl

/-- An M slot that ends leaves its slack (R112). -/
theorem slotEnd_m {r : Running} {s : State} (hrun : s.plan.run = some r) (hk : r.slot.kind = 1) (htodo : ∀ d, d ∈ s.plan.todo → d.kind = 1) (at_ : Nat) :
    slotEnd at_ s = { s with
      plan.run := none
      plan.mEnd := at_
      plan.freeAt := max s.plan.freeAt at_
      plan.slack := some (match s.plan.slack with
        | some m => min m ((r.slot.start + r.slot.budget : Nat) - (at_ : Int))
        | none => (r.slot.start + r.slot.budget : Nat) - (at_ : Int)) } := by
  have hob : obRuns { takeSlack r.slot at_ s with plan.mEnd := at_ } = false := by simp [obRuns, takeSlack, hrun, hk]
  calc slotEnd at_ s
    _ = usedTo at_ (dropPassed at_ (endRun { takeSlack r.slot at_ s with plan.mEnd := at_ })) := by simp only [slotEnd, hrun, hk, if_true]
    _ = usedTo at_ (dropPassed at_ { takeSlack r.slot at_ s with plan.mEnd := at_, plan.run := none }) := by rw [endRun_m hob]
    _ = usedTo at_ { takeSlack r.slot at_ s with plan.mEnd := at_, plan.run := none } := by rw [dropPassed_mSlots]; exact htodo
    _ = _ := rfl

theorem mDeadline_none {r : Running} {s : State} (hrun : s.plan.run = some r) (h : r.slot.kind ≠ 1 ∨ r.dl = true) : mDeadline s = s := by
  unfold mDeadline
  rcases h with h | h <;> simp [hrun, h]

/-- An M slot without an injected overrun completes, also past its budget once its DEADLINE has been raised (R105). -/
theorem PlainSlot.slotComplete_m {r : Running} {s : State} (h : PlainSlot r s) {at_ : Nat} (hk : r.slot.kind = 1) (hinj : r.inj = false) (hat : r.began ≤ at_)
    (hdl : r.dl = true ∨ at_ ≤ r.began + r.slot.budget) : slotComplete at_ s = slotEnd at_ s := by
  have hmay : completesAt r at_ = true := by simp [completesAt, hat, hinj]
  have hend : budgetEnd r = r.began + r.slot.budget := by simp [budgetEnd, hk]
  simp only [slotComplete, h.run, hmay, hend, hk, h.slotWork_eq, closeWork_noTask h.noTask]
  by_cases hle : at_ ≤ r.began + r.slot.budget
  · simp [hle]
  · have hq : r.dl = true := hdl.resolve_right hle
    simp [hle, mDeadline_none h.run (.inr hq), h.slotWork_eq, closeWork_noTask h.noTask]

/-! ### DEADLINE -/

/-- What PLAN_DL_INFO, PLAN_DL_TICK and PG_EVT_RAW show of a DEADLINE (R105–R107), before the Almanac and the fault hub count it. -/
def deadlineShown (idx cause : Nat) (aborted : Bool) (s : State) : State :=
  let s := (s.putB F.PLAN_DL_INFO_ABORTED aborted).put F.PLAN_DL_INFO_CAUSE cause
  let s := (s.put F.PLAN_DL_INFO_TEMPLATE (s.get F.PLAN_STAT_TEMPLATE)).put F.PLAN_DL_INFO_SLOT idx
  ((s.put F.PLAN_DL_TICK_TICK s.tick.num).bump F.PLAN_CNT_DL_COUNT).raise E.PLAN_DEADLINE_EVT

theorem deadlineShown_regsOnly (idx cause : Nat) (aborted : Bool) (s : State) : RegsOnly s (deadlineShown idx cause aborted s) :=
  (((((((RegsOnly.refl s).putB _ _).put _ _).put _ _).put _ _).put _ _).bump _ _).raise _

theorem deadlineShown_eff (idx cause : Nat) (aborted : Bool) (s : State) : (deadlineShown idx cause aborted s).eff = s.eff := rfl

theorem deadlineShown_slot (idx cause : Nat) (aborted : Bool) (s : State) : (deadlineShown idx cause aborted s).get F.PLAN_DL_INFO_SLOT = idx % 32 := by
  unfold deadlineShown State.bump
  rw [State.get_raise _ (by decide), State.get_put_ne _ _ _ _ (by decide), State.get_put_ne _ _ _ _ (by decide)]
  exact State.get_put_same _ _ _ (by decide) (by decide)

theorem deadlineShown_aborted (idx cause : Nat) (aborted : Bool) (s : State) : (deadlineShown idx cause aborted s).get F.PLAN_DL_INFO_ABORTED = b2n aborted := by
  unfold deadlineShown State.bump
  rw [State.get_raise _ (by decide), State.get_put_ne _ _ _ _ (by decide), State.get_put_ne _ _ _ _ (by decide), State.get_put_other _ _ _ _ (by decide),
    State.get_put_other _ _ _ _ (by decide), State.get_put_other _ _ _ _ (by decide), State.putB, State.get_put_same _ _ _ (by decide) (by decide)]
  cases aborted <;> rfl

theorem deadlineShown_tick (idx cause : Nat) (aborted : Bool) (s : State) : (deadlineShown idx cause aborted s).get F.PLAN_DL_TICK_TICK = s.tick.num % 2 ^ 32 := by
  unfold deadlineShown State.bump
  rw [State.get_raise _ (by decide), State.get_put_ne _ _ _ _ (by decide), State.get_put_same _ _ _ (by decide) (by decide)]
  simp

/-- Beside what it shows, a DEADLINE is noted by the Almanac and, as source 0x00 that only records, by the fault hub (R591). -/
theorem deadline_noted (idx cause : Nat) (aborted : Bool) {s : State} (h : RecordsOnly 0x00 s) :
    FaultNoted (deadlineShown idx cause aborted s) (deadline idx cause aborted s) := by
  unfold deadline
  extract_lets s1 s2 s3 s4 s5
  have hs3 : s3 = deadlineShown idx cause aborted s := rfl
  clear_value s3
  subst hs3
  have hs4 : FaultNoted (deadlineShown idx cause aborted s) s4 := almAdd_faultNoted _ _ _ _
  have hs5 : FaultNoted (deadlineShown idx cause aborted s) s5 ∧ s5.eff = (deadlineShown idx cause aborted s).eff := by
    unfold s5
    split
    · exact ⟨hs4.trans (almAdd_faultNoted _ _ _ s4), (almAdd_eff _ _ _ s4).trans (almAdd_eff _ _ _ _)⟩
    · exact ⟨hs4, almAdd_eff _ _ _ _⟩
  obtain ⟨hnoted, heff⟩ := hs5
  clear_value s5
  exact hnoted.trans (faultEvent_records _ false _ (recordsOnly_of_eff (heff.trans (deadlineShown_eff idx cause aborted s)) h)).1

theorem mDeadline_raises {r : Running} {s : State} (hrun : s.plan.run = some r) (hk : r.slot.kind = 1) (hdl : r.dl = false) :
    mDeadline s = deadline r.slot.idx (dlCause r) false { s with plan.run := some { r with dl := true } } := by
  simp only [mDeadline, hrun]
  exact if_pos ⟨hk, by simp [hdl]⟩

/-- What a DEADLINE changes: register words, the fault hub and the Almanac's live image; no reaction is left waiting that did not wait before. -/
theorem deadline_frame (idx cause : Nat) (aborted : Bool) {s : State} (h : RecordsOnly 0x00 s) :
    (∃ w e f a, deadline idx cause aborted s = { s with regs := w, eff := e, flt := f, alm.live := a })
      ∧ (deadline idx cause aborted s).flt.entered = s.flt.entered ∧ (deadline idx cause aborted s).flt.chipReset = s.flt.chipReset := by
  have hnoted := deadline_noted idx cause aborted h
  generalize deadline idx cause aborted s = t at hnoted ⊢
  obtain ⟨_, _, hshown⟩ := deadlineShown_regsOnly idx cause aborted s
  rw [hshown] at hnoted
  obtain ⟨_, _, _, _, ht⟩ := hnoted.only
  exact ⟨⟨_, _, _, _, ht⟩, hnoted.entered, hnoted.chipReset⟩

/-- An M slot that has had its DEADLINE runs on, with its work and its transfers. -/
theorem settled_ran_on {r r' : Running} {s t : State} (hs : Settled s) (hrun : s.plan.run = some r) (hrun' : t.plan.run = some r') (hslot : r'.slot = r.slot)
    (hd : t.dma = s.dma) (he : t.flt.entered = s.flt.entered) (hc : t.flt.chipReset = s.flt.chipReset) : Settled t := by
  obtain ⟨hent, hreset, -, hjobs⟩ := hs
  refine ⟨he.trans hent, hc.trans hreset, fun _ => by simp [hrun'], fun hj => ?_⟩
  have hdma := hjobs (hd ▸ hj)
  simpa [dmaSlot, hrun, hrun', hslot] using hdma

/-- Settles O17: where no separate rule advances the slot's work, each end is the end of the slot alone; a DEADLINE leaves the slot running. -/
theorem slotsEnd : Obligations.SlotsEnd := by
  intro s r h hrun
  refine ⟨fun hk hdl hrec => ?_, fun hno => act_next h (mDeadline_none hrun hno) rfl rfl rfl rfl, fun hk h7 h8 h9 ht => ?_, fun hk h7 h8 h9 ht => ?_,
    fun at_ hk hinj hat hdl h7 h8 h9 ht htodo => ?_⟩
  · have hrec' : RecordsOnly 0x00 { s with plan.run := some { r with dl := true } } := recordsOnly_of_eff rfl hrec
    have hnoted := deadline_noted r.slot.idx (dlCause r) false hrec'
    obtain ⟨⟨_, _, _, _, ht⟩, hent, hreset⟩ := deadline_frame r.slot.idx (dlCause r) false hrec'
    have heff := mDeadline_raises hrun hk hdl
    generalize deadline r.slot.idx (dlCause r) false { s with plan.run := some { r with dl := true } } = t at *
    have hrun' : t.plan.run = some { r with dl := true } := by rw [ht]
    refine ⟨t, act_quiet h heff (settled_ran_on h.2 hrun hrun' rfl (by rw [ht]) hent hreset) (by simp [hrun']), hrun', ?_, ?_, ?_, ?_, ?_⟩
    · exact (hnoted.get F.PLAN_DL_INFO_SLOT rfl (by decide) (by decide)).trans (deadlineShown_slot ..)
    · exact (hnoted.get F.PLAN_DL_INFO_ABORTED rfl (by decide) (by decide)).trans (deadlineShown_aborted ..)
    · exact (hnoted.get F.PLAN_DL_TICK_TICK rfl (by decide) (by decide)).trans (deadlineShown_tick ..)
    · rw [hnoted.rd (by decide) (by decide)]
      exact State.raise_bit_same _ _ _ (by decide)
    · rw [ht]
  · have hp : PlainSlot r s := ⟨hrun, h7, h8, h9, ht⟩
    exact hp.act_end h (hp.budgetExpiry_eq hk) ((planOnly_plan s _).regs ((((RegsOnly.refl _).putB _ _).bump _ _).raise _))
  · have hp : PlainSlot r s := ⟨hrun, h7, h8, h9, ht⟩
    exact hp.act_end h (hp.backgroundEnd_eq hk) ((planOnly_plan s _).regs ((RegsOnly.refl _).putB _ _))
  · have hp : PlainSlot r s := ⟨hrun, h7, h8, h9, ht⟩
    exact hp.act_end h ((hp.slotComplete_m hk hinj hat hdl).trans (slotEnd_m hrun hk htodo at_)) (planOnly_plan s _)

/-! ### A slot that begins -/

/-- An M slot that comes up at its time begins, and its action follows (R103). -/
theorem slotDo_m {act idx at_ : Nat} {d : Slot} {s : State} (f : State → State) (h : SlotStarts act idx at_ d s) (hk : d.kind = 1) :
    slotDo act idx at_ f s = f (slotStarted d idx at_ s) := by
  obtain ⟨hfind, hrun, hat, hfirst, hkind⟩ := h
  have harm : s.armedAt 0x06 1 = false := by
    rcases hkind with ⟨-, harm⟩ | ⟨hk2, -⟩ | ⟨hk3, -⟩
    · exact harm
    · omega
    · omega
  have hmay : mayStart s d at_ = true := by
    simp only [mayStart, hat, beq_self_eq_true, Bool.true_and, List.all_eq_true]
    intro x hx
    by_cases hx1 : x.kind = 1
    · simp [hx1, hfirst x hx hx1]
    · simp [hx1]
  have hbegin : slotBegin act idx at_ 0 true s = (slotStarted d idx at_ s, true) := by
    have harm' (k : Plan) : State.armedAt { s with plan := k } 0x06 1 = false := harm
    unfold slotBegin
    simp [hfind, hrun, hmay, hk, harm']
    rfl
  simp only [slotDo, hbegin]

/-! ### Commits asked for while the blocks are asked to quiesce -/

/-- From `s` to `t` only register words, the sleep requests, the pages' requests, the budget's window and the loop output change: no free choice is taken. -/
def RequestOnly (s t : State) : Prop := ∃ r e l g w k, t = { s with regs := r, eff := e, slp := l, page := g, gov.window := w, ldac := k }

theorem RequestOnly.refl (s : State) : RequestOnly s s := ⟨_, _, _, _, _, _, rfl⟩

theorem RequestOnly.trans {s t u : State} : RequestOnly s t → RequestOnly t u → RequestOnly s u := by
  rintro ⟨_, _, _, _, _, _, rfl⟩ ⟨_, _, _, _, _, _, rfl⟩
  exact ⟨_, _, _, _, _, _, rfl⟩

theorem RequestOnly.fresh {s t : State} : RequestOnly s t → RequestOnly s.fresh t.fresh := by
  rintro ⟨_, _, _, _, _, _, rfl⟩
  exact ⟨_, _, _, _, _, _, rfl⟩

theorem RegsOnly.requestOnly {s t : State} : RegsOnly s t → RequestOnly s t := by
  rintro ⟨_, _, rfl⟩
  exact ⟨_, _, _, _, _, _, rfl⟩

theorem requestOnly_slp (s : State) (l : Slp) : RequestOnly s { s with slp := l } := ⟨_, _, _, _, _, _, rfl⟩
theorem requestOnly_page (s : State) (g : PageSt) : RequestOnly s { s with page := g } := ⟨_, _, _, _, _, _, rfl⟩
theorem requestOnly_ldac (s : State) (k : Ldac) : RequestOnly s { s with ldac := k } := ⟨_, _, _, _, _, _, rfl⟩

theorem cancelRetry_requestOnly (s : State) : RequestOnly s (cancelRetry s) := by
  unfold cancelRetry
  extract_lets u k
  have hu : RegsOnly s u := by
    unfold u
    split
    · exact (RegsOnly.refl s).put _ _
    · exact .refl s
  exact (hu.requestOnly.trans (requestOnly_slp u _)).trans ((RegsOnly.refl _).put _ _).requestOnly

theorem sleepRefused_requestOnly (target block why : Nat) (s : State) : RequestOnly s (sleepRefused target block why s) := by
  unfold sleepRefused
  extract_lets l u v k
  have hv : RequestOnly s v := (requestOnly_slp s _).trans ((((RegsOnly.refl u).bump _ _).raise _).wr _ _ _).requestOnly
  clear_value v
  split
  · exact (hv.trans (cancelRetry_requestOnly v)).trans ((RegsOnly.refl _).put _ _).requestOnly
  · exact (hv.trans (requestOnly_slp v _)).trans ((RegsOnly.refl _).put _ _).requestOnly

theorem updateBudget_requestOnly (s : State) : RequestOnly s (updateBudget s) := by
  unfold updateBudget
  extract_lets b w k u
  have hu : RequestOnly s u := ⟨_, _, _, _, _, _, rfl⟩
  exact hu.trans (((RegsOnly.refl u).putB _ _).put _ _).requestOnly

/-- While the blocks may still be asked, a request takes a free choice: whether its block refuses the entry (R51, R566). -/
theorem goWhileAsked_asking {s : State} {target : Nat} (p : Nat) (ha : s.slp.asking = true) (hd : s.slp.down = some target) :
    RequestOnly s.fresh (goWhileAsked p s) := by
  simp only [goWhileAsked, hd, ha]
  split
  · contradiction
  · split
    · exact (requestOnly_slp s.fresh _).trans (sleepRefused_requestOnly ..)
    · exact .refl _

theorem loopUpdate_asking {s : State} {target : Nat} (ha : s.slp.asking = true) (hd : s.slp.down = some target) : RequestOnly s.fresh (loopUpdate s) := by
  have hreq : RequestOnly s.fresh (requestCommit 0x11 s) := by
    unfold requestCommit
    extract_lets g u
    have hu : RequestOnly s u ∧ u.slp = s.slp := by
      unfold u
      split
      · exact ⟨requestOnly_page s _, rfl⟩
      · exact ⟨.refl s, rfl⟩
    clear_value u
    split
    · exact hu.1.fresh.trans (goWhileAsked_asking _ (by rw [hu.2, ha]) (by rw [hu.2, hd]))
    · exact hu.1.fresh.trans ((requestOnly_page u _).fresh.trans (goWhileAsked_asking (s := { u with page := _ }) _ (by rw [hu.2, ha]) (by rw [hu.2, hd])))
  exact (hreq.trans (updateBudget_requestOnly _)).trans (requestOnly_ldac _ _)

/-- A slot that begins, with an effect that leaves background work, transfers and the fault hub alone, ends its command quietly. -/
theorem act_begun {f : State → State} {s t : State} {r : Running} (h : Ready s) (hno : s.plan.run = none) (hf : f s = t) (hrun : t.plan.run = some r) (hd : t.dma = s.dma)
    (hflt : t.flt = s.flt) : act f s = .next t := by
  obtain ⟨-, hent, hreset, -, hjobs⟩ := id h
  have hnone : s.dma.jobs = [] := by
    by_contra hne
    exact hjobs hne (by simp [dmaSlot, hno])
  exact act_quiet h hf ⟨hflt ▸ hent, hflt ▸ hreset, fun _ => by simp [hrun], fun hc => absurd (hd ▸ hnone) hc⟩ fun _ => by simp [hrun]

/-- A LOOP_UPDATE that runs while the blocks may still be asked to quiesce takes a free choice. -/
theorem exec_loopUpdate_asking {s : State} {idx at_ target : Nat} {d : Slot} (h : Ready s) (hst : SlotStarts 3 idx at_ d s) (hk : d.kind = 1)
    (ha : s.slp.asking = true) (hd : s.slp.down = some target) : ∃ t, exec (.loopUpdate idx at_) s = .next t ∧ t.free = s.free + 1 := by
  obtain ⟨_, _, _, _, _, _, ht⟩ := loopUpdate_asking (s := slotStarted d idx at_ s) ha hd
  have hno : s.plan.run = none := hst.2.1
  exact ⟨_, act_begun h hno ((slotDo_m Machine.loopUpdate hst hk).trans ht) rfl rfl rfl, rfl⟩

/-- The slot of a LOOP_UPDATE without ARG, at the boundary of its tick. -/
def loopSlot : Slot := { idx := 0, kind := 1, start := 0, budget := 100, action := 3, arg := 0, work := 0 }

/-- A chip in RUN in G2 whose entry to DOZE began at the last boundary, so that its blocks may still be asked to quiesce (R564); a LOOP_UPDATE slot of the tick is due. -/
def askedToQuiesce : State :=
  { State.reset.put F.SYS_GEN_GEN 2 with boot.held := false, slp.down := some 1, slp.asking := true, plan.todo := [loopSlot] }

/-- Refutes O18: the commit that LOOP_UPDATE requests may meet the blocks while they are asked to quiesce (`askedToQuiesce`). Whether LDAC's block then refuses the entry is a
free choice (R51, R566), which the request takes: it changes more than the statement grants, whichever way it falls. -/
theorem not_slotsOfTheTickBegin : ¬ Obligations.SlotsOfTheTickBegin := by
  intro h
  have hready : Ready askedToQuiesce := by decide
  have hstarts : SlotStarts 3 0 0 loopSlot askedToQuiesce := by decide
  obtain ⟨-, -, -, -, hloop, -⟩ := h askedToQuiesce 0 0 loopSlot hready
  obtain ⟨t, hexec, -, -, -, hframe⟩ := hloop hstarts (by decide)
  obtain ⟨t', hexec', htaken⟩ := exec_loopUpdate_asking hready hstarts rfl rfl rfl
  obtain rfl : t = t' := by simpa [hexec] using hexec'
  have hkept : t.free = askedToQuiesce.free := by rw [hframe]
  omega

end Sys2Proof.Machine
end

section
/-! Register fields that an operation keeps, and fault events raised by any block: the rules that the commands of the line, the loop output and the governor share. -/

namespace Sys2Proof.Machine

/-! ### Fields that an operation keeps -/

/-- Setting field `g` keeps field `f`: they lie in different registers or have no bit in common. -/
abbrev Clear (g f : Fld) : Prop := regKey g.page g.off ≠ regKey f.page f.off ∨ State.Apart g f

/-- PG_EVT_RAW of the page of event `e`. -/
abbrev evtFld (e : Nat × Nat) : Fld := ⟨e.1, 0x010, 31, 0, false⟩

/-- From `s` to `t` every field keeps its value that is clear of the fields listed. -/
def KeepsBut (gs : List Fld) (s t : State) : Prop := ∀ f, (∀ g ∈ gs, Clear g f) → t.get f = s.get f

theorem KeepsBut.refl (gs : List Fld) (s : State) : KeepsBut gs s s := fun _ _ => rfl

theorem KeepsBut.trans {gs : List Fld} {s t u : State} (h : KeepsBut gs s t) (k : KeepsBut gs t u) : KeepsBut gs s u :=
  fun f hf => (k f hf).trans (h f hf)

theorem KeepsBut.mono {gs hs : List Fld} {s t : State} (h : KeepsBut gs s t) (hsub : gs ⊆ hs) : KeepsBut hs s t :=
  fun f hf => h f fun g hg => hf g (hsub hg)

theorem KeepsBut.put {gs : List Fld} {s t : State} (h : KeepsBut gs s t) (g : Fld) (v : Nat) (hg : g ∈ gs) : KeepsBut gs s (t.put g v) := by
  intro f hf
  refine Eq.trans ?_ (h f hf)
  rcases hf g hg with hne | hap
  · exact t.get_put_ne g f v hne
  · exact t.get_put_other g f v hap

theorem KeepsBut.putB {gs : List Fld} {s t : State} (h : KeepsBut gs s t) (g : Fld) (b : Bool) (hg : g ∈ gs) : KeepsBut gs s (t.putB g b) := h.put g _ hg
theorem KeepsBut.bump {gs : List Fld} {s t : State} (h : KeepsBut gs s t) (g : Fld) (hg : g ∈ gs) : KeepsBut gs s (t.bump g) := h.put g _ hg

theorem KeepsBut.raise {gs : List Fld} {s t : State} (h : KeepsBut gs s t) (e : Nat × Nat) (he : evtFld e ∈ gs) : KeepsBut gs s (t.raise e) := by
  intro f hf
  refine Eq.trans ?_ (h f hf)
  rcases hf _ he with hne | ⟨-, -, -, hd⟩
  · exact t.get_raise hne
  · have hlo : 31 < f.lo := hd.resolve_left (Nat.not_lt_zero _)
    have hzero (w : Word) : getBits w f.hi f.lo = 0 := by
      rw [getBits, Nat.div_eq_of_lt (w.isLt.trans_le (Nat.pow_le_pow_right (by decide) hlo)), Nat.zero_mod]
    simp only [State.get, hzero]

theorem KeepsBut.flag {gs : List Fld} {s t : State} (h : KeepsBut gs s t) (f : Fld) (hf : ∀ g ∈ gs, Clear g f) : t.flag f = s.flag f :=
  congrArg (· == 1) (h f hf)

/-- A state whose words are those of `t` keeps the same fields. -/
theorem KeepsBut.words {gs : List Fld} {s t u : State} (h : KeepsBut gs s t) (hr : u.regs = t.regs) (he : u.eff = t.eff) : KeepsBut gs s u := by
  intro f hf
  rw [← h f hf, State.get, State.get, State.rd, State.rd, State.rdE, State.rdE, hr, he]

/-- The events of a page stay where no raised event is of that page. -/
theorem KeepsBut.events {gs : List Fld} {s t : State} (h : KeepsBut gs s t) (e : Nat × Nat) (he : ∀ g ∈ gs, Clear g (evtFld e)) : t.rd e.1 0x010 = s.rd e.1 0x010 := by
  have hword (w : Word) : getBits w 31 0 = w.toNat := by simp [getBits, Nat.mod_eq_of_lt w.isLt]
  have hget := h _ he
  simp only [State.get, hword] at hget
  exact BitVec.eq_of_toNat_eq hget

/-- From `s` to `t` only words at normal addresses change, and every field keeps its value that is clear of the fields listed. -/
structure Shows (gs : List Fld) (s t : State) : Prop where
  frame : t = { s with regs := t.regs }
  keeps : KeepsBut gs s t

theorem Shows.refl (gs : List Fld) (s : State) : Shows gs s s := ⟨rfl, .refl gs s⟩

theorem Shows.put {gs : List Fld} {s t : State} (h : Shows gs s t) (g : Fld) (v : Nat) (hg : g ∈ gs) (hr : g.rws = false) : Shows gs s (t.put g v) := by
  refine ⟨?_, h.keeps.put g v hg⟩
  unfold State.put
  rw [hr, h.frame]
  rfl

theorem Shows.putB {gs : List Fld} {s t : State} (h : Shows gs s t) (g : Fld) (b : Bool) (hg : g ∈ gs) (hr : g.rws = false) : Shows gs s (t.putB g b) :=
  h.put g _ hg hr

theorem Shows.bump {gs : List Fld} {s t : State} (h : Shows gs s t) (g : Fld) (hg : g ∈ gs) (hr : g.rws = false) : Shows gs s (t.bump g) := h.put g _ hg hr

theorem Shows.raise {gs : List Fld} {s t : State} (h : Shows gs s t) (e : Nat × Nat) (he : evtFld e ∈ gs) : Shows gs s (t.raise e) := by
  refine ⟨?_, h.keeps.raise e he⟩
  rw [h.frame]
  rfl

theorem Shows.regsOnly {gs : List Fld} {s t : State} (h : Shows gs s t) : RegsOnly s t := ⟨_, _, h.frame⟩

theorem Shows.eff {gs : List Fld} {s t : State} (h : Shows gs s t) : t.eff = s.eff := by rw [h.frame]

theorem flag_putB_same (s : State) {f : Fld} (b : Bool) (h : f.lo = f.hi) (h' : f.hi < 32) : (s.putB f b).flag f = b := by
  rw [State.flag, State.putB, State.get_put_same _ _ _ (by omega) h', h]
  cases b <;> simp [b2n]

theorem flag_put_of_clear (s : State) {g f : Fld} (v : Nat) (h : Clear g f) : (s.put g v).flag f = s.flag f :=
  ((KeepsBut.refl [g] s).put g v (by simp)).flag f (by simpa using h)

/-! ### Faults that a command of any block raises -/

/-- From `s` to `u` the reset, the plan, the memory, the pages' requests, the background work, the transfers and the fault hub stay as they are. -/
structure Undisturbed (s u : State) : Prop where
  boot : u.boot = s.boot
  plan : u.plan = s.plan
  mem : u.mem = s.mem
  page : u.page = s.page
  bist : u.bist = s.bist
  dma : u.dma = s.dma
  flt : u.flt = s.flt

theorem RegsOnly.undisturbed {s t : State} : RegsOnly s t → Undisturbed s t := by
  rintro ⟨_, _, rfl⟩
  exact ⟨rfl, rfl, rfl, rfl, rfl, rfl, rfl⟩

theorem Undisturbed.trans {s t u : State} (h : Undisturbed s t) (k : Undisturbed t u) : Undisturbed s u :=
  ⟨k.boot.trans h.boot, k.plan.trans h.plan, k.mem.trans h.mem, k.page.trans h.page, k.bist.trans h.bist, k.dma.trans h.dma, k.flt.trans h.flt⟩

/-- A command that leaves these parts alone ends quietly. -/
theorem act_undisturbed {f : State → State} {s t : State} (h : Ready s) (hf : f s = t) (ht : Undisturbed s t) : act f s = .next t :=
  act_next h hf ht.plan ht.bist ht.dma ht.flt

/-- Where the effect of a command leaves these parts alone and then raises a fault whose source only records, the command ends quietly and the fault is recorded. -/
theorem act_faultEvent {f : State → State} {s u : State} {id info : Nat} {alt inj : Bool} (h : Ready s) (hf : f s = faultEvent id info u alt inj) (hu : Undisturbed s u)
    (heff : u.eff = s.eff) (htot : u.get F.FLT_REC_CNT_TOTAL = s.get F.FLT_REC_CNT_TOTAL) (hr : RecordsOnly id s) :
    act f s = .next (faultEvent id info u alt inj) ∧ FaultRecorded s (faultEvent id info u alt inj) ∧ FaultNoted u (faultEvent id info u alt inj) := by
  obtain ⟨hnoted, htotal⟩ := faultEvent_records info alt inj (recordsOnly_of_eff heff hr)
  generalize faultEvent id info u alt inj = t at *
  obtain ⟨hent, hreset, -⟩ := h.2
  have hent' : t.flt.entered = s.flt.entered := hnoted.entered.trans (by rw [hu.flt])
  have hreset' : t.flt.chipReset = s.flt.chipReset := hnoted.chipReset.trans (by rw [hu.flt])
  obtain ⟨_, _, _, _, ht⟩ := hnoted.only
  have hrun : t.plan = s.plan := (by rw [ht] : t.plan = u.plan).trans hu.plan
  have hbist : t.bist = s.bist := (by rw [ht] : t.bist = u.bist).trans hu.bist
  have hdma : t.dma = s.dma := (by rw [ht] : t.dma = u.dma).trans hu.dma
  refine ⟨?_, ⟨htotal.trans (by rw [htot]), hreset'.trans hreset, hent'.trans hent, ?_, hrun, ?_, ?_⟩, hnoted⟩
  · subst hf
    exact act_same h (by rw [hrun]) (by rw [hbist]) (by rw [hdma]) hent' hreset'
  · exact (by rw [ht] : t.boot = u.boot).trans hu.boot
  · exact (by rw [ht] : t.mem = u.mem).trans hu.mem
  · exact (by rw [ht] : t.page = u.page).trans hu.page

/-- From `s` to `t` no word of a page after the fault hub's own changes. -/
def KeepsAboveHub (s t : State) : Prop := ∀ q off, 9 ≤ q → t.rd q off = s.rd q off

theorem put_keepsAboveHub (s : State) (f : Fld) (v : Nat) (hp : f.page ≤ 8) (ho : f.off < 0x400) : KeepsAboveHub s (s.put f v) :=
  fun _ _ hq => s.rd_put_ne f v (by unfold regKey; omega)

theorem wr_keepsAboveHub (s : State) {p off : Nat} (w : Word) (hp : p ≤ 8) (ho : off < 0x400) : KeepsAboveHub s (s.wr p off w) :=
  fun _ _ hq => s.rd_wr_ne w (by unfold regKey; omega)

theorem KeepsAboveHub.trans {s t u : State} (h : KeepsAboveHub s t) (k : KeepsAboveHub t u) : KeepsAboveHub s u := fun q off hq => (k q off hq).trans (h q off hq)

theorem addRecord_keepsAboveHub (w0 w1 : Word) (s : State) : KeepsAboveHub s (addRecord w0 w1 s) := by
  unfold addRecord State.bump
  extract_lets n f t
  exact (put_keepsAboveHub t F.FLT_REC_CNT_NEXT _ (by decide) (by decide)).trans (put_keepsAboveHub _ F.FLT_REC_CNT_TOTAL _ (by decide) (by decide))

theorem fltIrq_keepsAboveHub (s : State) : KeepsAboveHub s (fltIrq s) := by
  unfold fltIrq
  extract_lets hot s1
  have hs1 : KeepsAboveHub s s1 := by
    unfold s1
    split
    · exact wr_keepsAboveHub s _ (by decide) (by decide)
    · exact fun _ _ _ => rfl
  split
  · exact hs1.trans (wr_keepsAboveHub s1 _ (by decide) (by decide))
  · exact hs1

/-- A fault event of a source that only records writes no page after the fault hub's (R592–R594). -/
theorem faultEvent_keepsAboveHub {id : Nat} (info : Nat) {s : State} (alt inj : Bool) (hid : id < 128) (h : RecordsOnly id s) :
    KeepsAboveHub s (faultEvent id info s alt inj) := by
  obtain ⟨hesc, hbase⟩ := h
  unfold faultEvent
  extract_lets w c esc react inF conv k s1 p cnt s2 rec1 s3 off s4 s5 s6 s7
  have hreact : react ≤ 1 := by
    unfold react
    split
    · exact hesc
    · exact hbase
  clear_value react conv esc
  have hcnt : cnt.page ≤ 8 ∧ cnt.off < 0x400 := by
    unfold cnt
    split <;> exact ⟨by dsimp only; omega, by dsimp only; omega⟩
  have hs2 : KeepsAboveHub s s2 := put_keepsAboveHub s1 cnt _ hcnt.1 hcnt.2
  have hs3 : KeepsAboveHub s s3 := hs2.trans (addRecord_keepsAboveHub _ _ s2)
  have hs4 : KeepsAboveHub s s4 := by
    unfold s4
    split
    · exact hs3
    · exact (hs3.trans (wr_keepsAboveHub s3 _ (by omega) (by omega))).trans (fltIrq_keepsAboveHub _)
  have hs5 : s5 = s4 := if_neg (by omega)
  rw [hs5]
  obtain rfl | rfl : react = 0 ∨ react = 1 := by omega
  · exact hs4
  · exact hs4

theorem KeepsAboveHub.flag {s t : State} (h : KeepsAboveHub s t) (f : Fld) (hrws : f.rws = false) (hp : 9 ≤ f.page) : t.flag f = s.flag f := by
  unfold State.flag State.get
  rw [hrws]
  exact congrArg (getBits · f.hi f.lo == 1) (h _ _ hp)

end Sys2Proof.Machine
end

section
/-! Faults of the governor: a trim at its limit, a level below P_FLOOR, a failed reservoir (R156, R531, R543). Settles O23. -/

namespace Sys2Proof.Machine

theorem bitOf_eq_testBit (n i : Nat) : bitOf n i = n.testBit i := by
  rw [Nat.testBit_eq_decide_div_mod_eq]
  rfl

theorem bitOf_setBitTo_same (n i : Nat) : bitOf (setBitTo n i true) i = true := by
  unfold setBitTo
  split
  · assumption
  · rename_i hb
    rw [bitOf_eq_testBit] at hb
    simp [bitOf_eq_testBit, Nat.add_comm n, Nat.testBit_two_pow_add_eq, hb]

theorem bitOf_mod_two_pow {i w : Nat} (n : Nat) (h : i < w) : bitOf (n % 2 ^ w) i = bitOf n i := by
  simp [bitOf_eq_testBit, Nat.testBit_mod_two_pow, h]

/-! ### AVS_LIMIT (R531) -/

/-- The level in force is blocked, and its LOW reports count anew; the fault of R531 is still to come. -/
def levelBlocked (s : State) : State :=
  let s := (s.put F.CLK_STAT_BLOCKED (setBitTo (s.get F.CLK_STAT_BLOCKED) (level s) true)).putB F.CLK_STAT_AVS_LIMIT true
  ({ s with gov.lowRun := 0 }.bump F.CLK_CNT_AVS_LIMIT).raise E.CLK_AVS_LIMIT

theorem avsLimit_due {s : State} (hrun : 8 ≤ s.gov.lowRun) (htrim : s.getI (trimFld (level s)) = 30) (hb : bitOf (s.get F.CLK_STAT_BLOCKED) (level s) = false) :
    avsLimit s = faultEvent 0x11 0 (levelBlocked s) false s.gov.lowInj :=
  if_pos ⟨hrun, htrim, by simp [hb]⟩

theorem avsLimit_blocked {s : State} (hb : bitOf (s.get F.CLK_STAT_BLOCKED) (level s) = true) : avsLimit s = s :=
  if_neg fun ⟨_, _, hn⟩ => by simp [hb] at hn

theorem levelBlocked_undisturbed (s : State) : Undisturbed s (levelBlocked s) := ⟨rfl, rfl, rfl, rfl, rfl, rfl, rfl⟩

theorem levelBlocked_total (s : State) : (levelBlocked s).get F.FLT_REC_CNT_TOTAL = s.get F.FLT_REC_CNT_TOTAL := by
  unfold levelBlocked State.bump State.putB
  rw [State.get_raise _ (by decide), State.get_put_ne _ _ _ _ (by decide)]
  exact (State.get_put_ne _ _ _ _ (by decide)).trans (State.get_put_ne _ _ _ _ (by decide))

theorem levelBlocked_blocked {s : State} (hk : level s < 6) : bitOf ((levelBlocked s).get F.CLK_STAT_BLOCKED) (level s) = true := by
  have hget : (levelBlocked s).get F.CLK_STAT_BLOCKED = setBitTo (s.get F.CLK_STAT_BLOCKED) (level s) true % 2 ^ 6 := by
    unfold levelBlocked State.bump State.putB
    rw [State.get_raise _ (by decide), State.get_put_ne _ _ _ _ (by decide)]
    exact (State.get_put_other _ _ _ _ (by decide)).trans (State.get_put_same _ _ _ (by decide) (by decide))
  rw [hget, bitOf_mod_two_pow _ hk]
  exact bitOf_setBitTo_same _ _

theorem levelBlocked_avsLimit (s : State) : (levelBlocked s).flag F.CLK_STAT_AVS_LIMIT = true := by
  unfold levelBlocked State.bump
  rw [State.flag, State.get_raise _ (by decide), State.get_put_ne _ _ _ _ (by decide)]
  exact flag_putB_true (s.put F.CLK_STAT_BLOCKED _) rfl (by decide)

/-- The trim at its limit blocks the level in force, with its event and its fault. -/
theorem exec_avsLimit_due {s : State} (h : Ready s) (hrun : 8 ≤ s.gov.lowRun) (htrim : s.getI (trimFld (level s)) = 30)
    (hb : bitOf (s.get F.CLK_STAT_BLOCKED) (level s) = false) (hk : level s < 6) (hr : RecordsOnly 0x11 s) :
    ∃ t, exec .avsLimit s = .next t ∧ bitOf (t.get F.CLK_STAT_BLOCKED) (level s) = true ∧ t.flag F.CLK_STAT_AVS_LIMIT = true
      ∧ (t.rd 0x04 0x010).getLsbD E.CLK_AVS_LIMIT.2 = true ∧ FaultRecorded s t := by
  obtain ⟨hexec, hrecd, hnoted⟩ := act_faultEvent h (avsLimit_due hrun htrim hb) (levelBlocked_undisturbed s) rfl (levelBlocked_total s) hr
  refine ⟨_, hexec, ?_, ?_, ?_, hrecd⟩
  · rw [hnoted.get F.CLK_STAT_BLOCKED rfl (by decide) (by decide)]
    exact levelBlocked_blocked hk
  · rw [State.flag, hnoted.get F.CLK_STAT_AVS_LIMIT rfl (by decide) (by decide)]
    exact levelBlocked_avsLimit s
  · rw [hnoted.rd (by decide) (by decide)]
    exact State.raise_bit_same _ _ _ (by decide)

/-! ### GOV_BELOW_FLOOR (R543) -/

/-- BELOW is shown and its event raised; the fault of R543 is still to come. -/
def belowShown (s : State) : State := ({ s with gov.belowRaised := true }.putB F.GOV_STAT_BELOW true).raise E.GOV_BELOW_FLOOR

theorem belowFloor_due {s : State} (hmax : s.get F.GOV_LOW_BELOW_MAX ≤ s.gov.belowRun) (hrun : 0 < s.gov.belowRun) (hr : s.gov.belowRaised = false) :
    belowFloor s = faultEvent 0x10 0 (belowShown s) :=
  if_pos ⟨hmax, hrun, by simp [hr]⟩

theorem belowFloor_raised {s : State} (hr : s.gov.belowRaised = true) : belowFloor s = s :=
  if_neg fun ⟨_, _, hn⟩ => by simp [hr] at hn

theorem belowShown_undisturbed (s : State) : Undisturbed s (belowShown s) := ⟨rfl, rfl, rfl, rfl, rfl, rfl, rfl⟩

theorem belowShown_total (s : State) : (belowShown s).get F.FLT_REC_CNT_TOTAL = s.get F.FLT_REC_CNT_TOTAL :=
  (State.get_raise _ (by decide)).trans (State.get_put_ne _ _ _ _ (by decide))

theorem belowShown_below (s : State) : (belowShown s).flag F.GOV_STAT_BELOW = true := by
  rw [belowShown, State.flag, State.get_raise _ (by decide)]
  exact flag_putB_true { s with gov.belowRaised := true } rfl (by decide)

/-- A level that has been below P_FLOOR for too long is shown and raised. -/
theorem exec_govBelowFloor_due {s : State} (h : Ready s) (hmax : s.get F.GOV_LOW_BELOW_MAX ≤ s.gov.belowRun) (hrun : 0 < s.gov.belowRun) (hno : s.gov.belowRaised = false)
    (hr : RecordsOnly 0x10 s) :
    ∃ t, exec .govBelowFloor s = .next t ∧ t.flag F.GOV_STAT_BELOW = true ∧ t.gov.belowRaised = true ∧ (t.rd 0x03 0x010).getLsbD E.GOV_BELOW_FLOOR.2 = true
      ∧ FaultRecorded s t := by
  obtain ⟨hexec, hrecd, hnoted⟩ := act_faultEvent h (belowFloor_due hmax hrun hno) (belowShown_undisturbed s) rfl (belowShown_total s) hr
  refine ⟨_, hexec, ?_, ?_, ?_, hrecd⟩
  · rw [State.flag, hnoted.get F.GOV_STAT_BELOW rfl (by decide) (by decide)]
    exact belowShown_below s
  · obtain ⟨_, _, _, _, ht⟩ := hnoted.only
    rw [ht]
    rfl
  · rw [hnoted.rd (by decide) (by decide)]
    exact State.raise_bit_same _ _ _ (by decide)

/-! ### RES_FAULT (R156) -/

/-- Charger and bursts are off until reset; the fault of R156 is still to come. -/
def reservoirOff (s : State) : State :=
  ({ endBurst s with gov.resOff := true, alm.resFault := true }.put F.GOV_FLOW_CHG 0).putB F.GOV_STAT_CHG false

theorem resFault_due {s : State} (hres : s.get F.GOV_RES_RES_CRES_UF ≠ 0) (hoff : s.gov.resOff = false) (hdue : s.gov.resDue = true) :
    resFault s = faultEvent 0x12 0 (reservoirOff s) :=
  if_neg (by simp [hres, hoff, hdue])

theorem resFault_none {s : State} (h : s.gov.resOff = true ∨ s.gov.resDue = false) : resFault s = s :=
  if_pos (by rcases h with h | h <;> simp [h])

theorem reservoirOff_undisturbed (s : State) : Undisturbed s (reservoirOff s) := ⟨rfl, rfl, rfl, rfl, rfl, rfl, rfl⟩

theorem reservoirOff_total (s : State) : (reservoirOff s).get F.FLT_REC_CNT_TOTAL = s.get F.FLT_REC_CNT_TOTAL := by
  unfold reservoirOff State.putB
  rw [State.get_put_ne _ _ _ _ (by decide), State.get_put_ne _ _ _ _ (by decide)]
  exact State.get_put_ne s _ _ _ (by decide)

theorem reservoirOff_charge (s : State) : (reservoirOff s).get F.GOV_FLOW_CHG = 0 := by
  unfold reservoirOff State.putB
  rw [State.get_put_ne _ _ _ _ (by decide), State.get_put_same _ _ _ (by decide) (by decide)]
  rfl

theorem reservoirOff_chg (s : State) : (reservoirOff s).flag F.GOV_STAT_CHG = false := flag_putB_same _ false rfl (by decide)

theorem reservoirOff_burst (s : State) : (reservoirOff s).flag F.GOV_STAT_BURST = false := by
  unfold reservoirOff State.putB
  rw [flag_put_of_clear _ _ (by decide), flag_put_of_clear _ _ (by decide)]
  exact flag_putB_same s false rfl (by decide)

/-- A failed reservoir turns charger and bursts off. -/
theorem exec_resFault_due {s : State} (h : Ready s) (hres : s.get F.GOV_RES_RES_CRES_UF ≠ 0) (hoff : s.gov.resOff = false) (hdue : s.gov.resDue = true)
    (hr : RecordsOnly 0x12 s) :
    ∃ t, exec .resFault s = .next t ∧ t.gov.resOff = true ∧ t.get F.GOV_FLOW_CHG = 0 ∧ t.flag F.GOV_STAT_CHG = false ∧ t.flag F.GOV_STAT_BURST = false
      ∧ FaultRecorded s t := by
  obtain ⟨hexec, hrecd, hnoted⟩ := act_faultEvent h (resFault_due hres hoff hdue) (reservoirOff_undisturbed s) rfl (reservoirOff_total s) hr
  refine ⟨_, hexec, ?_, ?_, ?_, ?_, hrecd⟩
  · obtain ⟨_, _, _, _, ht⟩ := hnoted.only
    rw [ht]
    rfl
  · rw [hnoted.get F.GOV_FLOW_CHG rfl (by decide) (by decide)]
    exact reservoirOff_charge s
  · rw [State.flag, hnoted.get F.GOV_STAT_CHG rfl (by decide) (by decide)]
    exact reservoirOff_chg s
  · rw [State.flag, hnoted.get F.GOV_STAT_BURST rfl (by decide) (by decide)]
    exact reservoirOff_burst s

/-- Settles O23: each fault first leaves its own marks (`levelBlocked`, `belowShown`, `reservoirOff`), which the event that records it keeps (`act_faultEvent`). -/
theorem governorFaults : Obligations.GovernorFaults := by
  intro s h
  refine ⟨fun hrun htrim hb hk hr => exec_avsLimit_due h hrun htrim hb hk hr, fun hb => act_next h (avsLimit_blocked hb) rfl rfl rfl rfl,
    fun hmax hrun hno hr => exec_govBelowFloor_due h hmax hrun hno hr, fun hr => act_next h (belowFloor_raised hr) rfl rfl rfl rfl,
    fun hres hoff hdue hr => exec_resFault_due h hres hoff hdue hr, fun hno => act_next h (resFault_none hno) rfl rfl rfl rfl⟩

end Sys2Proof.Machine
end

section
/-! The loop's target, the budget and the start-up ceiling: what they change and which registers they show it in (chapters 04 and 05). -/

namespace Sys2Proof.Machine

/-- From `s` to `t` only register words, the line, the loop output and the budget's window change. -/
def LoopOnly (s t : State) : Prop := ∃ r e l k w, t = { s with regs := r, eff := e, line := l, ldac := k, gov.window := w }

theorem LoopOnly.refl (s : State) : LoopOnly s s := ⟨_, _, _, _, _, rfl⟩

theorem LoopOnly.trans {s t u : State} : LoopOnly s t → LoopOnly t u → LoopOnly s u := by
  rintro ⟨_, _, _, _, _, rfl⟩ ⟨_, _, _, _, _, rfl⟩
  exact ⟨_, _, _, _, _, rfl⟩

theorem RegsOnly.loopOnly {s t : State} : RegsOnly s t → LoopOnly s t := by
  rintro ⟨_, _, rfl⟩
  exact ⟨_, _, _, _, _, rfl⟩

theorem loopOnly_line (s : State) (l : Line) : LoopOnly s { s with line := l } := ⟨_, _, _, _, _, rfl⟩
theorem loopOnly_ldac (s : State) (k : Ldac) : LoopOnly s { s with ldac := k } := ⟨_, _, _, _, _, rfl⟩

theorem LoopOnly.undisturbed {s t : State} : LoopOnly s t → Undisturbed s t := by
  rintro ⟨_, _, _, _, _, rfl⟩
  exact ⟨rfl, rfl, rfl, rfl, rfl, rfl, rfl⟩

theorem LoopOnly.frame {s t : State} : LoopOnly s t →
    t = { s with regs := t.regs, eff := t.eff, line := t.line, ldac := t.ldac, gov.window := t.gov.window } := by
  rintro ⟨_, _, _, _, _, rfl⟩
  rfl

/-- From `s` to `t` only register words and the budget's window change. -/
def BudgetOnly (s t : State) : Prop := ∃ r e w, t = { s with regs := r, eff := e, gov.window := w }

theorem BudgetOnly.refl (s : State) : BudgetOnly s s := ⟨_, _, _, rfl⟩

theorem BudgetOnly.trans {s t u : State} : BudgetOnly s t → BudgetOnly t u → BudgetOnly s u := by
  rintro ⟨_, _, _, rfl⟩ ⟨_, _, _, rfl⟩
  exact ⟨_, _, _, rfl⟩

theorem RegsOnly.budgetOnly {s t : State} : RegsOnly s t → BudgetOnly s t := by
  rintro ⟨_, _, rfl⟩
  exact ⟨_, _, _, rfl⟩

theorem BudgetOnly.loopOnly {s t : State} : BudgetOnly s t → LoopOnly s t := by
  rintro ⟨_, _, _, rfl⟩
  exact ⟨_, _, _, _, _, rfl⟩

theorem BudgetOnly.frame {s t : State} : BudgetOnly s t → t = { s with regs := t.regs, eff := t.eff, gov.window := t.gov.window } := by
  rintro ⟨_, _, _, rfl⟩
  rfl

theorem BudgetOnly.line {s t : State} : BudgetOnly s t → t.line = s.line := by rintro ⟨_, _, _, rfl⟩; rfl
theorem BudgetOnly.ldac {s t : State} : BudgetOnly s t → t.ldac = s.ldac := by rintro ⟨_, _, _, rfl⟩; rfl

/-! ### The budget (R16, R533) -/

/-- The fields that show the budget. -/
abbrev budgetFields : List Fld := [F.GOV_STAT_RISE_HOLD, F.LINE_BUDGET_BUDGET_UA]

theorem updateBudget_budgetOnly (s : State) : BudgetOnly s (updateBudget s) := by
  unfold updateBudget
  extract_lets b w k u
  have hu : BudgetOnly s u := ⟨_, _, _, rfl⟩
  exact hu.trans (((RegsOnly.refl u).putB _ _).put _ _).budgetOnly

theorem updateBudget_eff (s : State) : (updateBudget s).eff = s.eff := rfl

theorem updateBudget_keeps (s : State) : KeepsBut budgetFields s (updateBudget s) := by
  unfold updateBudget
  extract_lets b w k u
  have hu : KeepsBut budgetFields s u := (KeepsBut.refl _ s).words rfl rfl
  exact (hu.putB _ _ (by simp)).put _ _ (by simp)

/-! ### The start-up ceiling (R130) -/

/-- The fields that show the end of the ceiling, and the budget that follows. -/
abbrev ceilingFields : List Fld := [F.SYS_BSTAT_CEIL, F.LINE_STAT_START_CEIL, F.SYS_BOOT1_CEIL_MS] ++ budgetFields

theorem endCeiling_budgetOnly (ms : Nat) (s : State) : BudgetOnly s (endCeiling ms s) := by
  unfold endCeiling
  split
  · exact ((((RegsOnly.refl s).putB _ _).putB _ _).put _ _).budgetOnly.trans (updateBudget_budgetOnly _)
  · exact .refl s

theorem endCeiling_keeps (ms : Nat) (s : State) : KeepsBut ceilingFields s (endCeiling ms s) := by
  unfold endCeiling
  split
  · exact ((((KeepsBut.refl _ s).putB _ _ (by simp)).putB _ _ (by simp)).put _ _ (by simp)).trans ((updateBudget_keeps _).mono (by simp))
  · exact .refl _ s

/-! ### The target in force (R163) -/

theorem satFlags_regsOnly (src : Nat) (s : State) : RegsOnly s (satFlags src s) := by
  unfold satFlags
  extract_lets x lo hi enter u
  have hu : RegsOnly s u := ((RegsOnly.refl s).putB _ _).putB _ _
  split
  · exact (hu.bump _ _).raise _
  · exact hu

/-- The fields that show the limits of NORMAL (R164). -/
abbrev limitFields : List Fld := [F.LDAC_STAT_SAT_LO, F.LDAC_STAT_SAT_HI, F.LDAC_CNT_SAT, evtFld E.LDAC_SAT_ENTER]

theorem satFlags_keeps (src : Nat) (s : State) : KeepsBut limitFields s (satFlags src s) := by
  unfold satFlags
  extract_lets x lo hi enter u
  have hu : KeepsBut limitFields s u := ((KeepsBut.refl _ s).putB _ _ (by simp)).putB _ _ (by simp)
  split
  · exact (hu.bump _ (by simp)).raise _ (by simp)
  · exact hu

/-- The fields that show the loop's target, the limits of NORMAL, and the budget that follows. -/
abbrev targetFields : List Fld := [F.LDAC_OUT_SOURCE, F.LDAC_OUT_TARGET_DUA, F.LDAC_STAT_RAMPING] ++ limitFields ++ budgetFields

/-- LDAC_OUT shows source `src` and target `n`, which is no ramp's. -/
def targetShown (src n : Nat) (s : State) : State := ((s.put F.LDAC_OUT_SOURCE src).put F.LDAC_OUT_TARGET_DUA n).putB F.LDAC_STAT_RAMPING false

/-- An engaged loop whose source is not NORMAL takes the target of that source (R163); only the trim's freeze says whether it is a step (R184). -/
theorem retarget_source {s : State} (heng : s.flag F.LINE_STAT_LOOP_ENG = true) (hsrc : loopSource s ≠ 0) :
    ∃ k : Ldac, retarget s = updateBudget (satFlags (loopSource s) (targetShown (loopSource s) (sourceTarget s (loopSource s)) { s with ldac := k })) := by
  have hramp : (loopSource s == 0) = false := beq_eq_false_iff_ne.mpr hsrc
  simp only [retarget, heng, hsrc, hramp, false_and, if_false, Bool.not_true, Bool.false_and, Bool.false_eq_true]
  split
  · exact ⟨_, rfl⟩
  · exact ⟨s.ldac, rfl⟩

theorem targetShown_keeps (src n : Nat) (s : State) : KeepsBut targetFields s (targetShown src n s) :=
  (((KeepsBut.refl _ s).put _ _ (by simp)).put _ _ (by simp)).putB _ _ (by simp)

theorem targetShown_source {src : Nat} (n : Nat) (s : State) (h : src < 8) : (targetShown src n s).get F.LDAC_OUT_SOURCE = src := by
  unfold targetShown State.putB
  rw [State.get_put_ne _ _ _ _ (by decide), State.get_put_other _ _ _ _ (by decide), State.get_put_same _ _ _ (by decide) (by decide)]
  exact Nat.mod_eq_of_lt h

theorem targetShown_target (src n : Nat) (s : State) : (targetShown src n s).get F.LDAC_OUT_TARGET_DUA = n % 2 ^ 18 := by
  unfold targetShown State.putB
  rw [State.get_put_ne _ _ _ _ (by decide)]
  exact State.get_put_same _ _ _ (by decide) (by decide)

/-- What `retarget` shows and keeps where the source is not NORMAL. -/
theorem retarget_shows {s : State} (heng : s.flag F.LINE_STAT_LOOP_ENG = true) (hsrc : loopSource s ≠ 0) (h8 : loopSource s < 8) :
    (retarget s).get F.LDAC_OUT_SOURCE = loopSource s ∧ (retarget s).get F.LDAC_OUT_TARGET_DUA = sourceTarget s (loopSource s) % 2 ^ 18
      ∧ KeepsBut targetFields s (retarget s) ∧ LoopOnly s (retarget s) ∧ (retarget s).line = s.line := by
  obtain ⟨k, hk⟩ := retarget_source heng hsrc
  rw [hk]
  generalize hsource : loopSource s = src at h8
  generalize sourceTarget s src = n
  have hbase : KeepsBut targetFields s { s with ldac := k } := (KeepsBut.refl _ s).words rfl rfl
  have hshown : RegsOnly { s with ldac := k } (targetShown src n { s with ldac := k }) := (((RegsOnly.refl _).put _ _).put _ _).putB _ _
  have hframe : BudgetOnly { s with ldac := k } (updateBudget (satFlags src (targetShown src n { s with ldac := k }))) :=
    (hshown.trans (satFlags_regsOnly _ _)).budgetOnly.trans (updateBudget_budgetOnly _)
  have hafter : KeepsBut (limitFields ++ budgetFields) (targetShown src n { s with ldac := k }) (updateBudget (satFlags src (targetShown src n { s with ldac := k }))) :=
    ((satFlags_keeps src _).mono (by simp)).trans ((updateBudget_keeps _).mono (by simp))
  refine ⟨?_, ?_, (hbase.trans (targetShown_keeps _ _ _)).trans (hafter.mono (by simp)), (loopOnly_ldac s k).trans hframe.loopOnly, hframe.line⟩
  · exact (hafter _ (by decide)).trans (targetShown_source n _ h8)
  · exact (hafter _ (by decide)).trans (targetShown_target ..)

end Sys2Proof.Machine
end

section
/-! Start-up of the line and the loop: detection windows, the generation that is latched, engagement, and a deferred change (R121–R130, R142, R181). Settles O24. -/

namespace Sys2Proof.Machine

/-! ### The latch (R122, R126, R127) -/

/-- What SYS_GEN and LINE_GEN show of a latched generation, with both events. -/
def latchShown (g how ms : Nat) (s : State) : State :=
  let s := (setGen g s).put F.SYS_GEN_HOW how
  let s := ((s.put F.SYS_GEN_LATCH_MS (satTo 65535 ms)).put F.LINE_GEN_HOW how).put F.LINE_GEN_LATCH_MS (satTo 65535 ms)
  (s.raise E.SYS_GEN_LATCHED).raise E.LINE_GEN_LATCHED

theorem latchShown_regsOnly (g how ms : Nat) (s : State) : RegsOnly s (latchShown g how ms s) :=
  ((((((((RegsOnly.refl s).put _ _).put _ _).put _ _).put _ _).put _ _).put _ _).raise _).raise _

theorem latchShown_gen {g : Nat} (how ms : Nat) (s : State) (h : g < 4) : gen (latchShown g how ms s) = g ∧ (latchShown g how ms s).get F.LINE_GEN_GEN = g := by
  unfold gen latchShown setGen
  constructor <;> simp (disch := decide) [State.get_raise, State.get_put_ne, State.get_put_other, State.get_put_same, Nat.mod_eq_of_lt h]

theorem latchShown_how {how : Nat} (g ms : Nat) (s : State) (h : how < 4) : (latchShown g how ms s).get F.SYS_GEN_HOW = how := by
  unfold latchShown
  simp (disch := decide) [State.get_raise, State.get_put_ne, State.get_put_other, State.get_put_same, Nat.mod_eq_of_lt h]

theorem latchShown_event (g how ms : Nat) (s : State) : ((latchShown g how ms s).rd 0x00 0x010).getLsbD E.SYS_GEN_LATCHED.2 = true := by
  unfold latchShown
  rw [State.rd_raise_ne _ (by decide)]
  exact State.raise_bit_same _ _ _ (by decide)

/-- What follows a latch: in G3 the loop is left and the PHY trains, and the ceiling may end (R130). -/
abbrev afterLatchFields : List Fld := [F.LINE_STAT_LOOP_ENG, F.LINE_STAT_LDRV_CUT, F.TPHY_STAT_TRAINING] ++ ceilingFields

theorem latchGen_after (g how ms : Nat) (s : State) :
    BudgetOnly (latchShown g how ms s) (latchGen g how ms s) ∧ KeepsBut afterLatchFields (latchShown g how ms s) (latchGen g how ms s) := by
  have hceil (u : State) : BudgetOnly u (endCeiling ms u) ∧ KeepsBut afterLatchFields u (endCeiling ms u) :=
    ⟨endCeiling_budgetOnly ms u, (endCeiling_keeps ms u).mono (by simp)⟩
  unfold latchGen
  extract_lets s1 s2 s3 s4
  have hs3 : s3 = latchShown g how ms s := rfl
  clear_value s3
  subst hs3
  have hs4 : BudgetOnly (latchShown g how ms s) s4 ∧ KeepsBut afterLatchFields (latchShown g how ms s) s4 :=
    ⟨((((RegsOnly.refl _).putB _ _).putB _ _).putB _ _).budgetOnly, (((KeepsBut.refl _ _).putB _ _ (by simp)).putB _ _ (by simp)).putB _ _ (by simp)⟩
  clear_value s4
  split
  · split
    · exact hs4
    · exact ⟨hs4.1.trans (hceil s4).1, hs4.2.trans (hceil s4).2⟩
  · split
    · exact hceil _
    · exact ⟨.refl _, .refl _ _⟩

/-- The generation, how it was found, and its event, as they stand after a latch. -/
theorem latchGen_shows {g how : Nat} (ms : Nat) (s : State) (hg : g < 4) (hh : how < 4) :
    gen (latchGen g how ms s) = g ∧ (latchGen g how ms s).get F.LINE_GEN_GEN = g ∧ (latchGen g how ms s).get F.SYS_GEN_HOW = how
      ∧ ((latchGen g how ms s).rd 0x00 0x010).getLsbD E.SYS_GEN_LATCHED.2 = true ∧ BudgetOnly s (latchGen g how ms s) := by
  obtain ⟨hframe, hkeeps⟩ := latchGen_after g how ms s
  obtain ⟨hgen, hline⟩ := latchShown_gen how ms s hg
  refine ⟨(hkeeps _ (by decide)).trans hgen, (hkeeps _ (by decide)).trans hline, (hkeeps _ (by decide)).trans (latchShown_how g ms s hh), ?_,
    (latchShown_regsOnly g how ms s).budgetOnly.trans hframe⟩
  rw [hkeeps.events E.SYS_GEN_LATCHED (by decide)]
  exact latchShown_event g how ms s

/-! ### Detection windows (R123–R127) -/

/-- Detection goes on, and the window under way may end. -/
structure Listens (s : State) : Prop where
  sensed : s.line.sensed = false
  due : mayReach s s.boot.relU (864 + 576 * s.line.windows) = true
  gen : gen s = 0
  strap : s.get F.SYS_STRAP_GEN = 0

/-- The successive windows with hits, once a window with `qual` qualified transitions has ended. -/
def hitsAfter (qual : Nat) (s : State) : Nat := if decide (32 ≤ qual) then s.line.hitRun + 1 else 0

/-- A window that has ended is counted. -/
def windowCounted (qual : Nat) (s : State) : State :=
  { s with line.hitRun := hitsAfter qual s, line.windows := s.line.windows + 1 }.bump F.LINE_SENSE_WINDOWS

/-- What LINE_SENSE shows of a window that has ended. -/
def windowShown (qual cross : Nat) (s : State) : State :=
  let w := s.line.windows
  let hit := decide (32 ≤ qual)
  let run := hitsAfter qual s
  let s := windowCounted qual s
  let s := if hit then s.put F.LINE_SENSE_HIT_MASK (setBitTo (s.get F.LINE_SENSE_HIT_MASK) w true) else s
  let s := if !hit && decide (8 ≤ cross) then s.bump F.LINE_SENSE_NOISE_WIN else s
  let s := s.put F.LINE_SENSE_PULSE_MAX (max (s.get F.LINE_SENSE_PULSE_MAX) (satTo 255 qual))
  s.put F.LINE_SENSE_RUN_MAX (max (s.get F.LINE_SENSE_RUN_MAX) run)

theorem windowEnd_listens {s : State} (h : Listens s) (qual cross ms : Nat) :
    windowEnd qual cross ms s =
      if 3 ≤ hitsAfter qual s then latchGen 3 1 ms { windowShown qual cross s with line.sensed := true }
      else if 9 ≤ s.line.windows + 1 then
        latchGen (if (windowShown qual cross s).flag F.LINE_CFG_FSK_EN then 2 else 1) 2 ms { windowShown qual cross s with line.sensed := true }
      else windowShown qual cross s := by
  obtain ⟨hsensed, hdue, hgen, hstrap⟩ := h
  have hno : ¬ (s.line.sensed = true ∨ gen s ≠ 0 ∨ s.get F.SYS_STRAP_GEN ≠ 0 ∨ (!mayReach s s.boot.relU (864 + 576 * s.line.windows)) = true) := by
    simp [hsensed, hdue, hgen, hstrap]
  exact if_neg hno

theorem windowEnd_deaf {s : State} (h : gen s ≠ 0 ∨ mayReach s s.boot.relU (864 + 576 * s.line.windows) = false) (qual cross ms : Nat) : windowEnd qual cross ms s = s :=
  if_pos (h.elim (fun hg => .inr (.inl hg)) fun hm => .inr (.inr (.inr (by simp [hm]))))

/-- The fields of LINE_SENSE beside its count of windows. -/
abbrev senseFields : List Fld := [F.LINE_SENSE_HIT_MASK, F.LINE_SENSE_NOISE_WIN, F.LINE_SENSE_PULSE_MAX, F.LINE_SENSE_RUN_MAX]

theorem windowShown_shows (qual cross : Nat) (s : State) : Shows senseFields (windowCounted qual s) (windowShown qual cross s) := by
  unfold windowShown
  extract_lets w hit run s1 s2 s3 s4
  have hs2 : Shows senseFields s1 s2 := by
    unfold s2
    split
    · exact (Shows.refl _ s1).put _ _ (by simp) rfl
    · exact .refl _ s1
  clear_value s2
  have hs3 : Shows senseFields s1 s3 := by
    unfold s3
    split
    · exact hs2.bump _ (by simp) rfl
    · exact hs2
  clear_value s3
  exact (hs3.put _ _ (by simp) rfl).put _ _ (by simp) rfl

/-- A window's end shows in LINE_SENSE only, beside the line's own counts. -/
theorem windowShown_frame (qual cross : Nat) (s : State) :
    windowShown qual cross s = { s with
      regs := (windowShown qual cross s).regs, line.hitRun := hitsAfter qual s, line.windows := s.line.windows + 1 } := by
  have hcounted : windowCounted qual s = { s with regs := (windowCounted qual s).regs, line.hitRun := hitsAfter qual s, line.windows := s.line.windows + 1 } := rfl
  have hframe := (windowShown_shows qual cross s).frame
  rw [hcounted] at hframe
  exact hframe

theorem windowCounted_keeps (qual : Nat) (s : State) : KeepsBut [F.LINE_SENSE_WINDOWS] s (windowCounted qual s) := by
  have hline : KeepsBut [F.LINE_SENSE_WINDOWS] s { s with line.hitRun := hitsAfter qual s, line.windows := s.line.windows + 1 } := (KeepsBut.refl _ s).words rfl rfl
  exact hline.bump _ (by simp)

theorem windowShown_keeps (qual cross : Nat) (s : State) : KeepsBut (F.LINE_SENSE_WINDOWS :: senseFields) s (windowShown qual cross s) :=
  ((windowCounted_keeps qual s).mono (by simp)).trans ((windowShown_shows qual cross s).keeps.mono (by simp))

theorem windowShown_windows (qual cross : Nat) {s : State} (h : s.get F.LINE_SENSE_WINDOWS < 8) :
    (windowShown qual cross s).get F.LINE_SENSE_WINDOWS = s.get F.LINE_SENSE_WINDOWS + 1 := by
  rw [(windowShown_shows qual cross s).keeps _ (by decide), windowCounted, State.bump, State.get_put_same _ _ _ (by decide) (by decide)]
  change satTo 15 (s.get F.LINE_SENSE_WINDOWS + 1) % 2 ^ 4 = _
  rw [satTo_eq_min]
  omega

theorem hitsAfter_hit {qual : Nat} (s : State) (h : 32 ≤ qual) : hitsAfter qual s = s.line.hitRun + 1 := by simp [hitsAfter, h]
theorem hitsAfter_miss {qual : Nat} (s : State) (h : qual < 32) : hitsAfter qual s = 0 := by simp [hitsAfter, h]

/-- A window that latches a generation ends detection. -/
theorem exec_detectionWindowEnd_latch {s : State} {qual cross ms g how : Nat} (h : Ready s)
    (hend : windowEnd qual cross ms s = latchGen g how ms { windowShown qual cross s with line.sensed := true }) (hg : g < 4) (hh : how < 4) :
    ∃ t, exec (.detectionWindowEnd qual cross ms) s = .next t ∧ gen t = g ∧ t.get F.LINE_GEN_GEN = g ∧ t.get F.SYS_GEN_HOW = how ∧ t.line.sensed = true
      ∧ (t.rd 0x00 0x010).getLsbD E.SYS_GEN_LATCHED.2 = true ∧ t = { s with regs := t.regs, eff := t.eff, line := t.line, gov.window := t.gov.window } := by
  obtain ⟨hgen, hline, hhow, hevt, hbudget⟩ := latchGen_shows ms { windowShown qual cross s with line.sensed := true } hg hh
  rw [← hend] at hgen hline hhow hevt hbudget
  have hshown : LoopOnly s { windowShown qual cross s with line.sensed := true } ∧ (windowShown qual cross s).ldac = s.ldac := by
    rw [windowShown_frame]
    exact ⟨⟨_, _, _, _, _, rfl⟩, rfl⟩
  have hloop := hshown.1.trans hbudget.loopOnly
  refine ⟨_, act_undisturbed h rfl hloop.undisturbed, hgen, hline, hhow, by rw [hbudget.line], hevt, ?_⟩
  have hframe := hloop.frame
  rw [hbudget.ldac, hshown.2] at hframe
  exact hframe

/-- A window that latches nothing is counted. -/
theorem exec_detectionWindowEnd_counted {s : State} {qual cross ms : Nat} (h : Ready s) (hend : windowEnd qual cross ms s = windowShown qual cross s) (hgen : gen s = 0) :
    ∃ t, exec (.detectionWindowEnd qual cross ms) s = .next t ∧ gen t = 0 ∧ t.line.windows = s.line.windows + 1 ∧ t.line.hitRun = hitsAfter qual s
      ∧ (s.get F.LINE_SENSE_WINDOWS < 8 → t.get F.LINE_SENSE_WINDOWS = s.get F.LINE_SENSE_WINDOWS + 1) ∧ t = { s with regs := t.regs, line := t.line } := by
  have hframe := windowShown_frame qual cross s
  have hshown : Undisturbed s (windowShown qual cross s) := by
    rw [hframe]
    exact ⟨rfl, rfl, rfl, rfl, rfl, rfl, rfl⟩
  refine ⟨_, act_undisturbed h hend hshown, (windowShown_keeps qual cross s _ (by decide)).trans hgen, ?_, ?_, windowShown_windows qual cross, ?_⟩
  · rw [hframe]
  · rw [hframe]
  · generalize windowShown qual cross s = t at hframe ⊢
    obtain ⟨_, ht⟩ : ∃ l, t = { s with regs := t.regs, line := l } := ⟨_, hframe⟩
    rw [ht]

/-! ### Engagement (R121, R181) -/

/-- Loop control is engaged, with the start-up target still to come. -/
def engaged (s : State) : State := ((s.putB F.LINE_STAT_LOOP_ENG true).putB F.LDAC_STAT_STARTUP true).putB F.LINE_STAT_LDRV_CUT false

theorem engaged_shows (s : State) : Shows [F.LINE_STAT_LOOP_ENG, F.LDAC_STAT_STARTUP, F.LINE_STAT_LDRV_CUT] s (engaged s) :=
  (((Shows.refl _ s).putB _ _ (by simp) rfl).putB _ _ (by simp) rfl).putB _ _ (by simp) rfl

theorem engaged_loopEng (s : State) : (engaged s).flag F.LINE_STAT_LOOP_ENG = true := by
  unfold engaged State.putB
  rw [flag_put_of_clear _ _ (by decide), flag_put_of_clear _ _ (by decide)]
  exact flag_putB_true s rfl (by decide)

theorem engaged_startUp (s : State) : (engaged s).flag F.LDAC_STAT_STARTUP = true := by
  unfold engaged State.putB
  rw [flag_put_of_clear _ _ (by decide)]
  exact flag_putB_true _ rfl (by decide)

/-- Without a clamp or a passage, start-up is the loop's source (R163). -/
theorem engaged_source {s : State} (hclr : s.flag F.LDAC_STAT_CLR = false) (hclamp : s.flag F.LDAC_STAT_FAULT_CLAMP = false)
    (hpass : s.flag F.LDAC_STAT_SPAN_PASS = false) : loopSource (engaged s) = 4 := by
  have hkeeps := (engaged_shows s).keeps
  simp [loopSource, engaged_startUp, hkeeps.flag F.LDAC_STAT_CLR (by decide), hkeeps.flag F.LDAC_STAT_FAULT_CLAMP (by decide),
    hkeeps.flag F.LDAC_STAT_SPAN_PASS (by decide), hclr, hclamp, hpass]

theorem engaged_target (s : State) : sourceTarget (engaged s) 4 = trimmedBy s.get (uaCur (s.get F.LDAC_SAFE_STARTUP_UA)) := by
  have hkeeps := (engaged_shows s).keeps
  change trimmedBy (engaged s).get (uaCur ((engaged s).get F.LDAC_SAFE_STARTUP_UA)) = _
  simp only [trimmedBy, hkeeps F.LDAC_SAFE_STARTUP_UA (by decide), hkeeps F.LDAC_UTRIM_GAIN_PPM (by decide), hkeeps F.LDAC_UTRIM_ZERO_DUA (by decide)]

/-- Engagement drives the loop; with a generation latched it may end the ceiling (R130). -/
theorem loopEngage_after {s : State} (ms : Nat) (heng : s.flag F.LINE_STAT_LOOP_ENG = false) (hstrap : s.get F.SYS_STRAP_GEN ≠ 3) (hgen : gen s ≠ 3) :
    BudgetOnly (retarget (engaged s)) (loopEngage ms s) ∧ KeepsBut ceilingFields (retarget (engaged s)) (loopEngage ms s) := by
  have heq : loopEngage ms s = if gen (retarget (engaged s)) ≠ 0 then endCeiling ms (retarget (engaged s)) else retarget (engaged s) :=
    if_neg (by simp [heng, hstrap, hgen])
  rw [heq]
  split
  · exact ⟨endCeiling_budgetOnly ms _, endCeiling_keeps ms _⟩
  · exact ⟨.refl _, .refl _ _⟩

/-- Engagement without a clamp or a passage drives the loop at STARTUP_UA. -/
theorem exec_loopEngage_startUp {s : State} (ms : Nat) (h : Ready s) (heng : s.flag F.LINE_STAT_LOOP_ENG = false) (hstrap : s.get F.SYS_STRAP_GEN ≠ 3) (hgen : gen s ≠ 3)
    (hclr : s.flag F.LDAC_STAT_CLR = false) (hclamp : s.flag F.LDAC_STAT_FAULT_CLAMP = false) (hpass : s.flag F.LDAC_STAT_SPAN_PASS = false) :
    ∃ t, exec (.loopEngage ms) s = .next t ∧ t.flag F.LINE_STAT_LOOP_ENG = true ∧ t.flag F.LDAC_STAT_STARTUP = true ∧ t.get F.LDAC_OUT_SOURCE = 4
      ∧ t.get F.LDAC_OUT_TARGET_DUA = trimmedBy s.get (uaCur (s.get F.LDAC_SAFE_STARTUP_UA)) % 2 ^ 18 ∧ gen t = gen s
      ∧ t = { s with regs := t.regs, eff := t.eff, ldac := t.ldac, gov.window := t.gov.window } := by
  have hshows := engaged_shows s
  have hsrc := engaged_source hclr hclamp hpass
  obtain ⟨hsource, htarget, hkeeps, hloop, hline⟩ := retarget_shows (engaged_loopEng s) (by simp [hsrc]) (by simp [hsrc])
  obtain ⟨hbudget, hafter⟩ := loopEngage_after ms heng hstrap hgen
  have hall := (hshows.regsOnly.loopOnly.trans hloop).trans hbudget.loopOnly
  refine ⟨_, act_undisturbed h rfl hall.undisturbed, ?_, ?_, ?_, ?_, ?_, ?_⟩
  · rw [hafter.flag _ (by decide), hkeeps.flag _ (by decide)]
    exact engaged_loopEng s
  · rw [hafter.flag _ (by decide), hkeeps.flag _ (by decide)]
    exact engaged_startUp s
  · rw [hafter _ (by decide), hsource, hsrc]
  · rw [hafter _ (by decide), htarget, hsrc, engaged_target]
  · exact ((hafter _ (by decide)).trans (hkeeps _ (by decide))).trans (hshows.keeps _ (by decide))
  · have hframe := hall.frame
    rw [hbudget.line, hline] at hframe
    exact hframe

theorem loopEngage_engaged (ms : Nat) {s : State} (h : s.flag F.LINE_STAT_LOOP_ENG = true) : loopEngage ms s = s := if_pos (.inl h)

/-! ### The deferred change (R142) -/

theorem changeGen_shows (g : Nat) (s : State) : Shows [F.SYS_GEN_GEN, F.LINE_GEN_GEN, F.LINE_STAT_GEN_PEND, evtFld E.LINE_GEN_CHANGE] s (changeGen g s) :=
  ((((Shows.refl _ s).put _ _ (by simp) rfl).put _ _ (by simp) rfl).putB _ _ (by simp) rfl).raise _ (by simp)

theorem changeGen_gen {g : Nat} (s : State) (h : g < 4) : gen (changeGen g s) = g ∧ (changeGen g s).get F.LINE_GEN_GEN = g := by
  unfold gen changeGen setGen State.putB
  constructor <;> simp (disch := decide) [State.get_raise, State.get_put_ne, State.get_put_same, Nat.mod_eq_of_lt h]

theorem changeGen_pend (g : Nat) (s : State) : (changeGen g s).flag F.LINE_STAT_GEN_PEND = false := by
  rw [changeGen, State.flag, State.get_raise _ (by decide)]
  exact flag_putB_same _ false rfl (by decide)

/-- The deferred change to G1 takes the modem's burst with it (R142, R239). -/
theorem deferredChange_due {s : State} (hgen : gen s = 2) (hpend : s.flag F.LINE_STAT_GEN_PEND = true) (hbusy : fskBusy s = false) :
    deferredChange s = fskLeaves (changeGen 1 s) := by
  have hchange : genChangeDeferred s = changeGen 1 s := if_pos (by simp [hpend, hbusy])
  simp only [deferredChange, hchange]
  exact if_pos ⟨hgen, (changeGen_gen s (by decide)).1⟩

theorem deferredChange_none {s : State} (hpend : s.flag F.LINE_STAT_GEN_PEND = false) : deferredChange s = s := by
  have hchange : genChangeDeferred s = s := if_neg (by simp [hpend])
  simp only [deferredChange, hchange]
  exact if_neg (by omega)

/-- A deferred change applies once no frame is in progress. -/
theorem exec_genChangeDeferred_due {s : State} (h : Ready s) (hgen : gen s = 2) (hpend : s.flag F.LINE_STAT_GEN_PEND = true) (hbusy : fskBusy s = false) :
    ∃ t, exec .genChangeDeferred s = .next t ∧ gen t = 1 ∧ t.get F.LINE_GEN_GEN = 1 ∧ t.flag F.LINE_STAT_GEN_PEND = false ∧ t.fsk.burst = none
      ∧ (t.rd 0x10 0x010).getLsbD E.LINE_GEN_CHANGE.2 = true ∧ t = { s with regs := t.regs, fsk := t.fsk } := by
  obtain ⟨hg, hline⟩ := changeGen_gen (g := 1) s (by decide)
  have hframe : fskLeaves (changeGen 1 s) = { s with regs := (changeGen 1 s).regs, fsk := (fskLeaves (changeGen 1 s)).fsk } := by
    rw [fskLeaves, (changeGen_shows 1 s).frame]
  refine ⟨_, act_next h (deferredChange_due hgen hpend hbusy) (by rw [hframe]) (by rw [hframe]) (by rw [hframe]) (by rw [hframe]), hg, hline, changeGen_pend 1 s, rfl, ?_, hframe⟩
  exact State.raise_bit_same _ _ _ (by decide)

/-- Settles O24: a window's end latches or counts (`windowEnd_listens`), engagement takes the start-up source (`engaged_source`), and the deferred change shows
in both registers of the generation. -/
theorem loopStartUp : Obligations.LoopStartUp := by
  intro s h
  refine ⟨?_, ?_, ?_, fun qual cross ms hno => act_next h (windowEnd_deaf hno qual cross ms) rfl rfl rfl rfl,
    fun ms heng hstrap hgen hclr hclamp hpass => exec_loopEngage_startUp ms h heng hstrap hgen hclr hclamp hpass,
    fun ms heng => act_next h (loopEngage_engaged ms heng) rfl rfl rfl rfl, fun hgen hpend hbusy => exec_genChangeDeferred_due h hgen hpend hbusy,
    fun hpend => act_next h (deferredChange_none hpend) rfl rfl rfl rfl⟩
  · intro qual cross ms hsensed hdue hgen hstrap hhit hrun
    have hend := windowEnd_listens ⟨hsensed, hdue, hgen, hstrap⟩ qual cross ms
    rw [hitsAfter_hit s hhit, if_pos (by omega)] at hend
    exact exec_detectionWindowEnd_latch h hend (by decide) (by decide)
  · intro qual cross ms hsensed hdue hgen hstrap hmiss hwin
    have hend := windowEnd_listens ⟨hsensed, hdue, hgen, hstrap⟩ qual cross ms
    rw [hitsAfter_miss s hmiss, if_neg (by omega), if_pos (by omega), (windowShown_keeps qual cross s).flag _ (by decide)] at hend
    obtain ⟨t, hexec, hg, -, hhow, hsense, -, hframe⟩ := exec_detectionWindowEnd_latch h hend (by split <;> decide) (by decide)
    exact ⟨t, hexec, hg, hhow, hsense, hframe⟩
  · intro qual cross ms hsensed hdue hgen hstrap hmiss hwin
    have hend := windowEnd_listens ⟨hsensed, hdue, hgen, hstrap⟩ qual cross ms
    rw [hitsAfter_miss s hmiss, if_neg (by omega), if_neg (by omega)] at hend
    have hcounted := exec_detectionWindowEnd_counted h hend hgen
    rwa [hitsAfter_miss s hmiss] at hcounted

end Sys2Proof.Machine
end

section
/-! Supervision of the loop: lift-off, overdraw, readback and the trim's limit (R137–R140, R185, R186). Settles O26. -/

namespace Sys2Proof.Machine

/-! ### Lift-off (R137, R138) -/

/-- The causes of lift-off, and lift-off as their OR, as LINE_STAT shows them. -/
def liftShown (drv vpre : Bool) (s : State) : State :=
  ((s.putB F.LINE_STAT_LIFT_DRV drv).putB F.LINE_STAT_LIFT_VPRE vpre).putB F.LINE_STAT_LIFTOFF (drv || vpre)

theorem liftShown_shows (drv vpre : Bool) (s : State) :
    Shows [F.LINE_STAT_LIFT_DRV, F.LINE_STAT_LIFT_VPRE, F.LINE_STAT_LIFTOFF] s (liftShown drv vpre s) :=
  (((Shows.refl _ s).putB _ _ (by simp) rfl).putB _ _ (by simp) rfl).putB _ _ (by simp) rfl

theorem liftShown_liftoff (drv vpre : Bool) (s : State) : (liftShown drv vpre s).flag F.LINE_STAT_LIFTOFF = (drv || vpre) := flag_putB_same _ _ rfl (by decide)

theorem liftShown_drv (drv vpre : Bool) (s : State) : (liftShown drv vpre s).flag F.LINE_STAT_LIFT_DRV = drv := by
  unfold liftShown State.putB
  rw [flag_put_of_clear _ _ (by decide), flag_put_of_clear _ _ (by decide)]
  exact flag_putB_same s drv rfl (by decide)

/-- Lift-off is shown and the budget follows it (R136). -/
def liftTaken (drv vpre : Bool) (s : State) : State := updateBudget (liftShown drv vpre s)

theorem liftTaken_budgetOnly (drv vpre : Bool) (s : State) : BudgetOnly s (liftTaken drv vpre s) :=
  (liftShown_shows drv vpre s).regsOnly.budgetOnly.trans (updateBudget_budgetOnly _)

theorem liftTaken_eff (drv vpre : Bool) (s : State) : (liftTaken drv vpre s).eff = s.eff := (updateBudget_eff _).trans (liftShown_shows drv vpre s).eff

theorem liftTaken_flags (drv vpre : Bool) (s : State) :
    (liftTaken drv vpre s).flag F.LINE_STAT_LIFTOFF = (drv || vpre) ∧ (liftTaken drv vpre s).flag F.LINE_STAT_LIFT_DRV = drv := by
  have hkeeps := updateBudget_keeps (liftShown drv vpre s)
  exact ⟨(hkeeps.flag _ (by decide)).trans (liftShown_liftoff drv vpre s), (hkeeps.flag _ (by decide)).trans (liftShown_drv drv vpre s)⟩

theorem almCount_undisturbed (i : Nat) (s : State) : Undisturbed s (almCount i s) := ⟨rfl, rfl, rfl, rfl, rfl, rfl, rfl⟩
theorem almCount_eff (i : Nat) (s : State) : (almCount i s).eff = s.eff := rfl
theorem almCount_rd (i : Nat) (s : State) (p off : Nat) : (almCount i s).rd p off = s.rd p off := rfl
theorem almCount_keeps (i : Nat) (s : State) : KeepsBut [] s (almCount i s) := (KeepsBut.refl _ s).words rfl rfl

/-- Lift-off is entered, counted in LINE_CNT and raised; the Almanac's count and the fault are still to come. -/
def liftEntered (drv vpre : Bool) (s : State) : State := ((liftTaken drv vpre s).bump F.LINE_CNT_LIFTOFF).raise E.LINE_LIFTOFF_SET

theorem setLift_enters {drv vpre : Bool} {s : State} (hwas : s.flag F.LINE_STAT_LIFTOFF = false) (hnow : (drv || vpre) = true) :
    setLift drv vpre s = faultEvent 0x20 0 (almCount 24 (liftEntered drv vpre s)) false ((liftTaken drv vpre s).line.drvInj && !vpre) := by
  unfold setLift
  exact if_pos (by simp [hwas, hnow])

theorem setLift_ends {s : State} (hwas : s.flag F.LINE_STAT_LIFTOFF = true) : setLift false false s = (liftTaken false false s).raise E.LINE_LIFTOFF_CLR := by
  unfold setLift
  extract_lets was now s1 s2
  rw [if_neg (by simp [now]), if_pos (by simp [was, now, hwas])]
  rfl

theorem liftEntered_shows (drv vpre : Bool) (s : State) : Shows [F.LINE_CNT_LIFTOFF, evtFld E.LINE_LIFTOFF_SET] (liftTaken drv vpre s) (liftEntered drv vpre s) :=
  ((Shows.refl _ _).bump _ (by simp) rfl).raise _ (by simp)

theorem liftEntered_undisturbed (drv vpre : Bool) (s : State) : Undisturbed s (liftEntered drv vpre s) :=
  (liftTaken_budgetOnly drv vpre s).loopOnly.undisturbed.trans (liftEntered_shows drv vpre s).regsOnly.undisturbed

theorem liftEntered_eff (drv vpre : Bool) (s : State) : (liftEntered drv vpre s).eff = s.eff := (liftEntered_shows drv vpre s).eff.trans (liftTaken_eff drv vpre s)

theorem liftEntered_total (drv vpre : Bool) (s : State) : (liftEntered drv vpre s).get F.FLT_REC_CNT_TOTAL = s.get F.FLT_REC_CNT_TOTAL :=
  calc (liftEntered drv vpre s).get F.FLT_REC_CNT_TOTAL
    _ = (liftTaken drv vpre s).get F.FLT_REC_CNT_TOTAL := (liftEntered_shows drv vpre s).keeps _ (by decide)
    _ = (liftShown drv vpre s).get F.FLT_REC_CNT_TOTAL := updateBudget_keeps _ _ (by decide)
    _ = s.get F.FLT_REC_CNT_TOTAL := (liftShown_shows drv vpre s).keeps _ (by decide)

theorem liftEntered_flags (drv vpre : Bool) (s : State) :
    (liftEntered drv vpre s).flag F.LINE_STAT_LIFTOFF = (drv || vpre) ∧ (liftEntered drv vpre s).flag F.LINE_STAT_LIFT_DRV = drv := by
  have hkeeps := (liftEntered_shows drv vpre s).keeps
  obtain ⟨hlift, hdrv⟩ := liftTaken_flags drv vpre s
  exact ⟨(hkeeps.flag _ (by decide)).trans hlift, (hkeeps.flag _ (by decide)).trans hdrv⟩

/-- A command that enters lift-off shows it, raises its event and records its fault. -/
theorem act_setLift_enters {f : State → State} {drv vpre : Bool} {s : State} (h : Ready s) (hf : f s = setLift drv vpre s) (hwas : s.flag F.LINE_STAT_LIFTOFF = false)
    (hnow : (drv || vpre) = true) (hr : RecordsOnly 0x20 s) :
    ∃ t, act f s = .next t ∧ t.flag F.LINE_STAT_LIFTOFF = true ∧ t.flag F.LINE_STAT_LIFT_DRV = drv ∧ (t.rd 0x10 0x010).getLsbD E.LINE_LIFTOFF_SET.2 = true
      ∧ FaultRecorded s t := by
  have heff := (almCount_eff 24 (liftEntered drv vpre s)).trans (liftEntered_eff drv vpre s)
  have htot := (almCount_keeps 24 (liftEntered drv vpre s) F.FLT_REC_CNT_TOTAL (by simp)).trans (liftEntered_total drv vpre s)
  obtain ⟨hexec, hrecd, -⟩ := act_faultEvent h (hf.trans (setLift_enters hwas hnow)) ((liftEntered_undisturbed drv vpre s).trans (almCount_undisturbed 24 _)) heff htot hr
  have habove := faultEvent_keepsAboveHub 0 false ((liftTaken drv vpre s).line.drvInj && !vpre) (by decide) (recordsOnly_of_eff heff hr)
  have hcount := almCount_keeps 24 (liftEntered drv vpre s)
  obtain ⟨hlift, hdrv⟩ := liftEntered_flags drv vpre s
  refine ⟨_, hexec, ?_, ?_, ?_, hrecd⟩
  · rw [habove.flag _ rfl (by decide), hcount.flag _ (by simp), hlift, hnow]
  · rw [habove.flag _ rfl (by decide), hcount.flag _ (by simp), hdrv]
  · rw [habove _ _ (by decide), almCount_rd]
    exact State.raise_bit_same _ _ _ (by decide)

theorem liftoffDetect_drv {s : State} (hgen : gen s ≠ 3) (hhold : s.get F.LINE_CFG_LIFT_HOLD ≤ s.line.drvOn) :
    liftoffDetect s = setLift true (s.flag F.LINE_STAT_LIFT_VPRE || decide (s.get F.LINE_CFG_LIFT_HOLD ≤ s.line.vpreOn)) s := by
  simp [liftoffDetect, hgen, hhold]

theorem liftoffClear_drv {s : State} (hgen : gen s ≠ 3) (hoff : 16 ≤ s.line.drvOff) (hvpre : s.flag F.LINE_STAT_LIFT_VPRE = false) :
    liftoffClear s = setLift false false s := by
  have hlt : ¬ s.line.drvOff < 16 := by omega
  simp [liftoffClear, hgen, hlt, hvpre]

theorem liftoff_g3 {s : State} (hgen : gen s = 3) : liftoffDetect s = s ∧ liftoffClear s = s := ⟨if_pos hgen, if_pos hgen⟩

/-- With its last cause gone, lift-off ends. -/
theorem exec_liftoffClear_ends {s : State} (h : Ready s) (hgen : gen s ≠ 3) (hoff : 16 ≤ s.line.drvOff) (hvpre : s.flag F.LINE_STAT_LIFT_VPRE = false)
    (hwas : s.flag F.LINE_STAT_LIFTOFF = true) :
    ∃ t, exec .liftoffClear s = .next t ∧ t.flag F.LINE_STAT_LIFTOFF = false ∧ t.flag F.LINE_STAT_LIFT_DRV = false
      ∧ (t.rd 0x10 0x010).getLsbD E.LINE_LIFTOFF_CLR.2 = true ∧ t = { s with regs := t.regs, gov.window := t.gov.window } := by
  have hshows : Shows [evtFld E.LINE_LIFTOFF_CLR] (liftTaken false false s) ((liftTaken false false s).raise E.LINE_LIFTOFF_CLR) := (Shows.refl _ _).raise _ (by simp)
  have hbudget := (liftTaken_budgetOnly false false s).trans hshows.regsOnly.budgetOnly
  obtain ⟨hlift, hdrv⟩ := liftTaken_flags false false s
  refine ⟨_, act_undisturbed h ((liftoffClear_drv hgen hoff hvpre).trans (setLift_ends hwas)) hbudget.loopOnly.undisturbed, (hshows.keeps.flag _ (by decide)).trans hlift,
    (hshows.keeps.flag _ (by decide)).trans hdrv, State.raise_bit_same _ _ _ (by decide), ?_⟩
  have hframe := hbudget.frame
  rw [hshows.eff.trans (liftTaken_eff false false s)] at hframe
  exact hframe

/-! ### Overdraw (R140) -/

theorem loopOverdraw_due {s : State} (hgen : gen s ≠ 3) (hover : 2 ≤ s.line.overTicks) (hno : s.line.overRaised = false) :
    loopOverdraw s = faultEvent 0x21 0 { s with line.overRaised := true } false s.line.overInj :=
  if_pos ⟨hgen, hover, by simp [hno]⟩

theorem loopOverdraw_none {s : State} (h : s.line.overTicks < 2) : loopOverdraw s = s := if_neg (by omega)

/-- An overdraw at two consecutive boundaries raises its fault. -/
theorem exec_loopOverdraw_due {s : State} (h : Ready s) (hgen : gen s ≠ 3) (hover : 2 ≤ s.line.overTicks) (hno : s.line.overRaised = false) (hr : RecordsOnly 0x21 s) :
    ∃ t, exec .loopOverdraw s = .next t ∧ t.line = { s.line with overRaised := true } ∧ FaultRecorded s t := by
  obtain ⟨hexec, hrecd, hnoted⟩ := act_faultEvent h (loopOverdraw_due hgen hover hno) (loopOnly_line s _).undisturbed rfl rfl hr
  obtain ⟨_, _, _, _, ht⟩ := hnoted.only
  exact ⟨_, hexec, by rw [ht], hrecd⟩

/-! ### Readback and the trim's limit (R185, R186) -/

/-- A readback that has failed is shown, counted and raised; its fault is still to come. -/
def readbackShown (s : State) : State := ((s.putB F.LDAC_STAT_READBACK true).bump F.LDAC_CNT_READBACK).raise E.LDAC_READBACK_SET

theorem readbackShown_shows (s : State) : Shows [F.LDAC_STAT_READBACK, F.LDAC_CNT_READBACK, evtFld E.LDAC_READBACK_SET] s (readbackShown s) :=
  (((Shows.refl _ s).putB _ _ (by simp) rfl).bump _ (by simp) rfl).raise _ (by simp)

theorem readbackShown_readback (s : State) : (readbackShown s).flag F.LDAC_STAT_READBACK = true := by
  rw [readbackShown, State.flag, State.get_raise _ (by decide), State.bump, State.get_put_ne _ _ _ _ (by decide)]
  exact flag_putB_true s rfl (by decide)

theorem readbackSet_due {s : State} (hfail : 8 ≤ s.ldac.failTicks) (hno : s.flag F.LDAC_STAT_READBACK = false) :
    readbackSet s = faultEvent 0x22 0 (readbackShown s) false s.ldac.rbInj :=
  if_pos ⟨hfail, by simp [hno]⟩

theorem readbackSet_none {s : State} (h : s.ldac.failTicks < 8) : readbackSet s = s := if_neg (by omega)

/-- Eight failing ticks set READBACK, with its event and its fault. -/
theorem exec_readbackSet_due {s : State} (h : Ready s) (hfail : 8 ≤ s.ldac.failTicks) (hno : s.flag F.LDAC_STAT_READBACK = false) (hr : RecordsOnly 0x22 s) :
    ∃ t, exec .readbackSet s = .next t ∧ t.flag F.LDAC_STAT_READBACK = true ∧ (t.rd 0x11 0x010).getLsbD E.LDAC_READBACK_SET.2 = true ∧ FaultRecorded s t := by
  have hshows := readbackShown_shows s
  obtain ⟨hexec, hrecd, -⟩ := act_faultEvent h (readbackSet_due hfail hno) hshows.regsOnly.undisturbed hshows.eff (hshows.keeps _ (by decide)) hr
  have habove := faultEvent_keepsAboveHub 0 false s.ldac.rbInj (by decide) (recordsOnly_of_eff hshows.eff hr)
  refine ⟨_, hexec, ?_, ?_, hrecd⟩
  · rw [habove.flag _ rfl (by decide)]
    exact readbackShown_readback s
  · rw [habove _ _ (by decide)]
    exact State.raise_bit_same _ _ _ (by decide)

theorem readbackClear_due {s : State} (h : 16 ≤ s.ldac.passTicks) : readbackClear s = s.putB F.LDAC_STAT_READBACK false := if_pos h
theorem readbackClear_none {s : State} (h : s.ldac.passTicks < 16) : readbackClear s = s := if_neg (by omega)

theorem trimLimit_due {s : State} (hlim : 8 ≤ s.ldac.limTicks) (hno : s.flag F.LDAC_STAT_TRIM_LIMIT = false) :
    trimLimit s = (s.putB F.LDAC_STAT_TRIM_LIMIT true).raise E.LDAC_TRIM_LIMIT :=
  if_pos ⟨hlim, by simp [hno]⟩

theorem trimLimit_none {s : State} (h : s.ldac.limTicks < 8) : trimLimit s = s := if_neg (by omega)

/-- Settles O26: lift-off goes through `setLift` in both directions; each fault first leaves its own marks, which the event that records it keeps
(`act_faultEvent`, `faultEvent_keepsAboveHub`). -/
theorem loopSupervision : Obligations.LoopSupervision := by
  intro s h
  refine ⟨fun hgen hhold hwas hr => act_setLift_enters h (liftoffDetect_drv hgen hhold) hwas rfl hr,
    fun hgen => ⟨act_next h (liftoff_g3 hgen).1 rfl rfl rfl rfl, act_next h (liftoff_g3 hgen).2 rfl rfl rfl rfl⟩,
    fun hgen hoff hvpre hwas => exec_liftoffClear_ends h hgen hoff hvpre hwas, fun hgen hover hno hr => exec_loopOverdraw_due h hgen hover hno hr,
    fun hlow => act_next h (loopOverdraw_none hlow) rfl rfl rfl rfl, fun hfail hno hr => exec_readbackSet_due h hfail hno hr,
    fun hlow => act_next h (readbackSet_none hlow) rfl rfl rfl rfl, fun hpass => act_next h (readbackClear_due hpass) rfl rfl rfl rfl,
    fun hlow => act_next h (readbackClear_none hlow) rfl rfl rfl rfl, fun hlim hno => act_next h (trimLimit_due hlim hno) rfl rfl rfl rfl,
    fun hlow => act_next h (trimLimit_none hlow) rfl rfl rfl rfl⟩

end Sys2Proof.Machine
end

section
/-! The ends of a span passage, of TEST and of a gain passage, and the overload of an auxiliary output (R168, R173, R189, R191). Settles O27. -/

namespace Sys2Proof.Machine

/-! ### Events that stay -/

/-- From `s` to `t` every event of page `p` that has occurred still shows. -/
def EventsStay (p : Nat) (s t : State) : Prop := ∀ b, (s.rd p 0x010).getLsbD b = true → (t.rd p 0x010).getLsbD b = true

theorem EventsStay.trans {p : Nat} {s t u : State} (h : EventsStay p s t) (k : EventsStay p t u) : EventsStay p s u := fun b hb => k b (h b hb)

theorem eventsStay_raise (p b : Nat) (s : State) : EventsStay p s (s.raise (p, b)) := by
  intro i hi
  by_cases hib : i = b
  · subst hib
    exact s.raise_bit_same p i (BitVec.lt_of_getLsbD hi)
  · rwa [s.raise_bit_ne p hib]

theorem KeepsBut.eventsStay {gs : List Fld} {s t : State} (h : KeepsBut gs s t) (p : Nat) (hp : ∀ g ∈ gs, Clear g (evtFld (p, 0))) : EventsStay p s t := by
  have hword : t.rd p 0x010 = s.rd p 0x010 := h.events (p, 0) hp
  intro b hb
  rwa [hword]

/-- A shadow stays as its field does. -/
theorem KeepsBut.getS {gs : List Fld} {s t : State} (h : KeepsBut gs s t) (f : Fld) (hf : ∀ g ∈ gs, Clear g f) : t.getS f = s.getS f :=
  h { f with rws := false } hf

/-- A field that the hardware sets reads back at its normal address too, an RWS field as its shadow. -/
theorem State.getS_put_same (s : State) (f : Fld) (v : Nat) (h : f.lo ≤ f.hi) (h' : f.hi < 32) : (s.put f v).getS f = v % 2 ^ (f.hi + 1 - f.lo) := by
  rw [State.getS, State.rd_put_self]
  exact getBits_putBits _ v h h'

/-! ### The loop is driven anew (R163, R174, R184) -/

/-- Source `src` and target `n` as LDAC_OUT and LDAC_STAT show them, on a ramp or not. -/
def driveShown (src n : Nat) (ramping : Bool) (s : State) : State := ((s.put F.LDAC_OUT_SOURCE src).put F.LDAC_OUT_TARGET_DUA n).putB F.LDAC_STAT_RAMPING ramping

theorem driveShown_shows (src n : Nat) (ramping : Bool) (s : State) :
    Shows [F.LDAC_OUT_SOURCE, F.LDAC_OUT_TARGET_DUA, F.LDAC_STAT_RAMPING] s (driveShown src n ramping s) :=
  (((Shows.refl _ s).put _ _ (by simp) rfl).put _ _ (by simp) rfl).putB _ _ (by simp) rfl

/-- Whatever its source, an engaged loop shows its target, the limits of NORMAL and the budget; of the loop output's own state TEST's time is not touched. -/
theorem retarget_engaged {s : State} (heng : s.flag F.LINE_STAT_LOOP_ENG = true) :
    ∃ (k : Ldac) (src n : Nat) (ramping : Bool),
      retarget s = updateBudget (satFlags src (driveShown src n ramping { s with ldac := k })) ∧ k.testU = s.ldac.testU := by
  unfold retarget
  rw [if_neg (by simp [heng])]
  extract_lets src ldac s1 n step ldac1 s2 s3 s4
  have hnorm : ∃ k : Ldac, s1 = { s with ldac := k } ∧ k.testU = s.ldac.testU := by
    unfold s1
    split <;> exact ⟨_, rfl, rfl⟩
  clear_value s1
  obtain ⟨_, rfl, hsame⟩ := hnorm
  have hfreeze : ∃ k : Ldac, s2 = { s with ldac := k } ∧ k.testU = s.ldac.testU := by
    unfold s2
    split <;> exact ⟨_, rfl, hsame⟩
  clear_value s2
  obtain ⟨k, rfl, htest⟩ := hfreeze
  exact ⟨k, src, n, _, rfl, htest⟩

/-- From `s` to `t` the loop is driven anew: words at normal addresses, the loop output but for TEST's time, the current kept for the tick and the budget's window
change; the fields that show no target, and the events of LDAC that have occurred, stay. -/
structure Redriven (s t : State) : Prop where
  only : ∃ r k c w, t = { s with regs := r, ldac := k, line.cmdTick := c, gov.window := w }
  testU : t.ldac.testU = s.ldac.testU
  keeps : KeepsBut targetFields s t
  events : EventsStay 0x11 s t

theorem Redriven.refl (s : State) : Redriven s s := ⟨⟨_, _, _, _, rfl⟩, rfl, .refl _ s, fun _ hb => hb⟩

theorem Redriven.trans {s t u : State} (h : Redriven s t) (k : Redriven t u) : Redriven s u where
  only := by
    obtain ⟨_, _, _, _, rfl⟩ := h.only
    obtain ⟨_, _, _, _, rfl⟩ := k.only
    exact ⟨_, _, _, _, rfl⟩
  testU := k.testU.trans h.testU
  keeps := h.keeps.trans k.keeps
  events := h.events.trans k.events

/-- A change of the loop output's own state, or of the current kept, with TEST's time and every word as they were. -/
theorem redriven_own (s : State) {k : Ldac} (c : Nat) (h : k.testU = s.ldac.testU) : Redriven s { s with ldac := k, line.cmdTick := c } :=
  ⟨⟨_, _, _, _, rfl⟩, h, (KeepsBut.refl _ s).words rfl rfl, fun _ hb => hb⟩

theorem Shows.redriven {gs : List Fld} {s t : State} (h : Shows gs s t) (hgs : gs ⊆ targetFields) (hevt : EventsStay 0x11 s t) : Redriven s t where
  only := ⟨_, _, _, _, h.frame⟩
  testU := by rw [h.frame]
  keeps := h.keeps.mono hgs
  events := hevt

/-- The limits of NORMAL raise at most their own event (R164). -/
theorem satFlags_redriven (src : Nat) (s : State) : Redriven s (satFlags src s) := by
  unfold satFlags
  extract_lets x lo hi enter u
  have hu : Shows [F.LDAC_STAT_SAT_LO, F.LDAC_STAT_SAT_HI, F.LDAC_CNT_SAT] s u := ((Shows.refl _ s).putB _ _ (by simp) rfl).putB _ _ (by simp) rfl
  clear_value u
  split
  · have hcount := hu.bump F.LDAC_CNT_SAT (by simp) rfl
    have hraise : Shows [evtFld E.LDAC_SAT_ENTER] (u.bump F.LDAC_CNT_SAT) ((u.bump F.LDAC_CNT_SAT).raise E.LDAC_SAT_ENTER) := (Shows.refl _ _).raise _ (by simp)
    exact (hcount.redriven (by simp) (hcount.keeps.eventsStay 0x11 (by decide))).trans (hraise.redriven (by simp) (eventsStay_raise _ _ _))
  · exact hu.redriven (by simp) (hu.keeps.eventsStay 0x11 (by decide))

theorem updateBudget_redriven (s : State) : Redriven s (updateBudget s) where
  only := ⟨_, _, _, _, rfl⟩
  testU := congrArg Ldac.testU (updateBudget_budgetOnly s).ldac
  keeps := (updateBudget_keeps s).mono (by simp)
  events := (updateBudget_keeps s).eventsStay 0x11 (by decide)

theorem retarget_redriven (s : State) : Redriven s (retarget s) := by
  cases heng : s.flag F.LINE_STAT_LOOP_ENG with
  | false =>
    have hidle : retarget s = s := if_pos (by simp [heng])
    rw [hidle]
    exact .refl s
  | true =>
    obtain ⟨k, src, n, ramping, hk, htest⟩ := retarget_engaged heng
    have hshown := driveShown_shows src n ramping { s with ldac := k }
    rw [hk]
    exact (((redriven_own s _ htest).trans (hshown.redriven (by simp) (hshown.keeps.eventsStay 0x11 (by decide)))).trans (satFlags_redriven _ _)).trans
      (updateBudget_redriven _)

/-- The loop takes its target at a boundary: the tick that begins keeps its current, and this boundary's step freezes the trim (R184). -/
def driveAnew (s : State) : State := freezeTicks (keepCommand (retarget s))

theorem driveAnew_redriven (s : State) : Redriven s (driveAnew s) :=
  ((retarget_redriven s).trans (redriven_own (retarget s) (k := (retarget s).ldac) _ rfl)).trans (redriven_own (keepCommand (retarget s)) _ rfl)

/-! ### SPAN_DONE (R173) -/

/-- The passage is over, with its event; the new span is still to drive the loop. -/
def spanEnded (s : State) : State := (s.putB F.LDAC_STAT_SPAN_PASS false).raise E.LDAC_SPAN_DONE

theorem spanEnded_shows (s : State) : Shows [F.LDAC_STAT_SPAN_PASS, evtFld E.LDAC_SPAN_DONE] s (spanEnded s) :=
  ((Shows.refl _ s).putB _ _ (by simp) rfl).raise _ (by simp)

theorem spanEnded_pass (s : State) : (spanEnded s).flag F.LDAC_STAT_SPAN_PASS = false := by
  rw [spanEnded, State.flag, State.get_raise _ (by decide)]
  exact flag_putB_same s false rfl (by decide)

theorem spanDone_due {s : State} (hpass : s.flag F.LDAC_STAT_SPAN_PASS = true) (hleft : s.ldac.passLeft = 0) : spanDone s = driveAnew (spanEnded s) :=
  if_pos ⟨hpass, hleft⟩

theorem spanDone_none {s : State} (hleft : s.ldac.passLeft ≠ 0) : spanDone s = s := if_neg fun h => hleft h.2

/-- After its last tick the passage ends, with its event. -/
theorem exec_spanDone_due {s : State} (h : Ready s) (hpass : s.flag F.LDAC_STAT_SPAN_PASS = true) (hleft : s.ldac.passLeft = 0) :
    ∃ t, exec .spanDone s = .next t ∧ t.flag F.LDAC_STAT_SPAN_PASS = false ∧ (t.rd 0x11 0x010).getLsbD E.LDAC_SPAN_DONE.2 = true
      ∧ t = { s with regs := t.regs, ldac := t.ldac, line.cmdTick := t.line.cmdTick, gov.window := t.gov.window } := by
  have hdrive := driveAnew_redriven (spanEnded s)
  have hframe : ∃ r k c w, driveAnew (spanEnded s) = { s with regs := r, ldac := k, line.cmdTick := c, gov.window := w } := by
    obtain ⟨_, _, _, _, ht⟩ := hdrive.only
    rw [ht, (spanEnded_shows s).frame]
    exact ⟨_, _, _, _, rfl⟩
  obtain ⟨_, _, _, _, ht⟩ := hframe
  refine ⟨_, act_next h (spanDone_due hpass hleft) (by rw [ht]) (by rw [ht]) (by rw [ht]) (by rw [ht]), ?_, ?_, ?_⟩
  · rw [hdrive.keeps.flag _ (by decide)]
    exact spanEnded_pass s
  · exact hdrive.events _ (State.raise_bit_same _ _ _ (by decide))
  · rw [ht]

/-! ### TEST_END (R168) -/

/-- TEST's time is over, with its event. -/
def testTimedOut (s : State) : State := { s with ldac.testU := 0, ldac.testOver := false }.raise E.LDAC_TEST_END

/-- MODE is 0 in both copies and TEST is over; the loop is still to be driven anew. -/
def testLeft (s : State) : State := ((testTimedOut s).put F.LDAC_CFG_MODE 0).putB F.LDAC_STAT_TEST_ACTIVE false

theorem testLeft_regsOnly (s : State) : RegsOnly { s with ldac.testU := 0, ldac.testOver := false } (testLeft s) :=
  (((RegsOnly.refl _).raise _).put _ _).putB _ _

theorem testLeft_keeps (s : State) : KeepsBut [F.LDAC_CFG_MODE, F.LDAC_STAT_TEST_ACTIVE] (testTimedOut s) (testLeft s) :=
  ((KeepsBut.refl _ _).put _ _ (by simp)).putB _ _ (by simp)

theorem testLeft_mode (s : State) : (testLeft s).get F.LDAC_CFG_MODE = 0 ∧ (testLeft s).getS F.LDAC_CFG_MODE = 0 := by
  have hkeeps : KeepsBut [F.LDAC_STAT_TEST_ACTIVE] ((testTimedOut s).put F.LDAC_CFG_MODE 0) (testLeft s) := (KeepsBut.refl _ _).putB _ _ (by simp)
  exact ⟨(hkeeps _ (by decide)).trans (State.get_put_same _ _ _ (by decide) (by decide)),
    (hkeeps.getS _ (by decide)).trans (State.getS_put_same _ _ _ (by decide) (by decide))⟩

theorem testLeft_active (s : State) : (testLeft s).flag F.LDAC_STAT_TEST_ACTIVE = false := flag_putB_same _ false rfl (by decide)

theorem testLeft_event (s : State) : ((testLeft s).rd 0x11 0x010).getLsbD E.LDAC_TEST_END.2 = true :=
  (testLeft_keeps s).eventsStay 0x11 (by decide) _ (State.raise_bit_same _ _ _ (by decide))

theorem testEnd_due {s : State} (hover : s.ldac.testOver = true) (hmode : s.get F.LDAC_CFG_MODE = 2) : testEnd s = driveAnew (testLeft s) := by
  have hstill : (testTimedOut s).get F.LDAC_CFG_MODE = 2 := (State.get_raise _ (by decide)).trans hmode
  unfold testEnd
  rw [if_neg (by simp [hover])]
  exact if_pos hstill

theorem testEnd_none {s : State} (hover : s.ldac.testOver = false) : testEnd s = s := if_pos (by simp [hover])

/-- TEST that has timed out returns MODE to 0 in both copies, with its event. -/
theorem exec_testEnd_due {s : State} (h : Ready s) (hover : s.ldac.testOver = true) (hmode : s.get F.LDAC_CFG_MODE = 2) :
    ∃ t, exec .testEnd s = .next t ∧ t.get F.LDAC_CFG_MODE = 0 ∧ t.getS F.LDAC_CFG_MODE = 0 ∧ t.flag F.LDAC_STAT_TEST_ACTIVE = false
      ∧ (t.rd 0x11 0x010).getLsbD E.LDAC_TEST_END.2 = true ∧ t.ldac.testU = 0
      ∧ t = { s with regs := t.regs, eff := t.eff, ldac := t.ldac, line.cmdTick := t.line.cmdTick, gov.window := t.gov.window } := by
  have hdrive := driveAnew_redriven (testLeft s)
  have hframe : ∃ r e k c w, driveAnew (testLeft s) = { s with regs := r, eff := e, ldac := k, line.cmdTick := c, gov.window := w } := by
    obtain ⟨_, _, _, _, ht⟩ := hdrive.only
    obtain ⟨_, _, hleft⟩ := testLeft_regsOnly s
    rw [ht, hleft]
    exact ⟨_, _, _, _, _, rfl⟩
  obtain ⟨_, _, _, _, _, ht⟩ := hframe
  obtain ⟨hget, hgetS⟩ := testLeft_mode s
  refine ⟨_, act_next h (testEnd_due hover hmode) (by rw [ht]) (by rw [ht]) (by rw [ht]) (by rw [ht]), ?_, ?_, ?_, ?_, ?_, ?_⟩
  · rw [hdrive.keeps _ (by decide), hget]
  · rw [hdrive.keeps.getS _ (by decide), hgetS]
  · rw [hdrive.keeps.flag _ (by decide)]
    exact testLeft_active s
  · exact hdrive.events _ (testLeft_event s)
  · obtain ⟨_, _, hleft⟩ := testLeft_regsOnly s
    rw [hdrive.testU, hleft]
  · rw [ht]

/-! ### Auxiliary DACs (R189, R191) -/

theorem passDone_due {n : Nat} {s : State} (hpass : s.flag (adacPassF n) = true) (hleft : (adacOf s n).pass = 0) :
    passDone n s = (s.putB (adacPassF n) false).raise (if n = 0 then E.ADAC_PASS_DONE0 else E.ADAC_PASS_DONE1) :=
  if_pos ⟨hpass, hleft⟩

theorem passDone_none {n : Nat} {s : State} (hpass : s.flag (adacPassF n) = false) : passDone n s = s := if_neg fun h => by simp [hpass] at h

theorem adacOverload_enters {n : Nat} {s : State} (hno : s.flag (adacOvldF n) = false) :
    adacOverload n s = ((s.putB (adacOvldF n) true).bump F.ADAC_CNT_OVLD).raise E.ADAC_OVLD_SET :=
  if_neg (by simp [hno])

theorem adacOverload_stays {n : Nat} {s : State} (h : s.flag (adacOvldF n) = true) : adacOverload n s = s := if_pos h

/-- Settles O27: SPAN_DONE and TEST_END leave their marks (`spanEnded`, `testLeft`) and drive the loop anew, which keeps them (`driveAnew_redriven`); those of the
auxiliary DACs change registers only. -/
theorem passagesAndTest : Obligations.PassagesAndTest := by
  intro s h
  refine ⟨fun hpass hleft => exec_spanDone_due h hpass hleft, fun hleft => act_next h (spanDone_none hleft) rfl rfl rfl rfl,
    fun hover hmode => exec_testEnd_due h hover hmode, fun hover => act_next h (testEnd_none hover) rfl rfl rfl rfl,
    fun n _ hpass hleft => act_undisturbed h (passDone_due hpass hleft) (((RegsOnly.refl s).putB _ _).raise _).undisturbed,
    fun n hpass => act_next h (passDone_none hpass) rfl rfl rfl rfl,
    fun n _ hno => act_undisturbed h (adacOverload_enters hno) ((((RegsOnly.refl s).putB _ _).bump _ _).raise _).undisturbed,
    fun n hovld => act_next h (adacOverload_stays hovld) rfl rfl rfl rfl⟩

end Sys2Proof.Machine
end

section
/-! The receiver of the FSK modem: the noise floor and its threshold, carrier, and the frames that are received or dropped (R205–R213). Settles O28, O29 and O30. -/

namespace Sys2Proof.Machine

/-! ### What the modem's registers leave alone -/

theorem KeepsBut.fskOn {gs : List Fld} {s t : State} (h : KeepsBut gs s t) (hgs : ∀ g ∈ gs, Clear g F.SYS_GEN_GEN ∧ Clear g F.PWR_STAT_STATE) : fskOn t = fskOn s := by
  simp only [Machine.fskOn, gen, pstate, h _ fun g hg => (hgs g hg).1, h _ fun g hg => (hgs g hg).2]

theorem KeepsBut.mayReach {gs : List Fld} {s t : State} (h : KeepsBut gs s t) (hgs : ∀ g ∈ gs, Clear g F.TICK_CFG_RATE) (u n : Nat) : mayReach t u n = mayReach s u n := by
  rw [Machine.mayReach, Machine.mayReach, tickUnits, tickUnits, h _ hgs]

/-- A counter of `n` bits counts one more, up to its limit (R6). -/
theorem State.get_bump_same (s : State) (f : Fld) (h : f.lo ≤ f.hi) (h' : f.hi < 32) :
    (s.bump f).get f = min (2 ^ (f.hi + 1 - f.lo) - 1) (s.get f + 1) := by
  rw [State.bump, State.get_put_same _ _ _ h h', satTo_eq_min, Nat.mod_eq_of_lt]
  have := Nat.two_pow_pos (f.hi + 1 - f.lo)
  omega

/-- From `s` to `t` only register words and the modem change. -/
def FskOnly (s t : State) : Prop := ∃ r e k, t = { s with regs := r, eff := e, fsk := k }

theorem FskOnly.undisturbed {s t : State} : FskOnly s t → Undisturbed s t := by
  rintro ⟨_, _, _, rfl⟩
  exact ⟨rfl, rfl, rfl, rfl, rfl, rfl, rfl⟩

theorem Shows.fskOnly {gs : List Fld} {s t : State} {k : Fsk} (h : Shows gs { s with fsk := k } t) : FskOnly s t := ⟨_, _, _, h.frame⟩

/-! ### Carrier (R205–R207) -/

/-- The noise floor `nf` (× 2^16) has been measured, and is shown with the threshold that it makes (R205, R207). -/
def floorShown (nf : Nat) (s : State) : State :=
  ({ s with fsk.nf := nf }.put F.FSK_AD_NF (min 255 (nf / 65536))).put F.FSK_AD_CD_TH (cdTh s (min 255 (nf / 65536)))

theorem floorShown_shows (nf : Nat) (s : State) : Shows [F.FSK_AD_NF, F.FSK_AD_CD_TH] { s with fsk.nf := nf } (floorShown nf s) :=
  ((Shows.refl _ _).put _ _ (by simp) rfl).put _ _ (by simp) rfl

theorem floorShown_keeps (nf : Nat) (s : State) : KeepsBut [F.FSK_AD_NF, F.FSK_AD_CD_TH] s (floorShown nf s) := (floorShown_shows nf s).keeps

theorem floorShown_nf (nf : Nat) (s : State) : (floorShown nf s).get F.FSK_AD_NF = min 255 (nf / 65536) := by
  rw [floorShown, State.get_put_other _ _ _ _ (by decide), State.get_put_same _ _ _ (by decide) (by decide)]
  exact Nat.mod_eq_of_lt (by change _ < 256; omega)

theorem floorShown_th (nf : Nat) (s : State) : (floorShown nf s).get F.FSK_AD_CD_TH = cdTh s (min 255 (nf / 65536)) := by
  rw [floorShown, State.get_put_same _ _ _ (by decide) (by decide)]
  exact Nat.mod_eq_of_lt (by change _ < 256; unfold cdTh; omega)

theorem showTh_hears {s : State} (h : hears s = true) : showTh s = s.put F.FSK_AD_CD_TH (cdTh s (s.get F.FSK_AD_NF)) := if_pos h

/-- While the receiver hears, a new noise floor is shown with its threshold. -/
theorem showTh_floor {s : State} (nf : Nat) (h : hears s = true) :
    showTh ({ s with fsk.nf := nf }.put F.FSK_AD_NF (satTo 255 (nf / 65536))) = floorShown nf s := by
  have hshows : Shows [F.FSK_AD_NF] { s with fsk.nf := nf } ({ s with fsk.nf := nf }.put F.FSK_AD_NF (min 255 (nf / 65536))) :=
    (Shows.refl _ _).put _ _ (by simp) rfl
  have hnf : ({ s with fsk.nf := nf }.put F.FSK_AD_NF (min 255 (nf / 65536))).get F.FSK_AD_NF = min 255 (nf / 65536) :=
    (State.get_put_same _ _ _ (by decide) (by decide)).trans (Nat.mod_eq_of_lt (by change _ < 256; omega))
  have hfsk := State.put_fsk { s with fsk.nf := nf } F.FSK_AD_NF (min 255 (nf / 65536))
  rw [satTo_eq_min, floorShown]
  generalize ({ s with fsk.nf := nf } : State).put F.FSK_AD_NF (min 255 (nf / 65536)) = u at *
  have hu : hears u = hears s := by
    simp only [hears, hshows.keeps.fskOn (by decide), hshows.keeps.flag F.FSK_STAT_TX_ACTIVE (by decide), hfsk]
    rfl
  have hth : cdTh u (min 255 (nf / 65536)) = cdTh s (min 255 (nf / 65536)) := by
    rw [cdTh, hshows.keeps F.FSK_CFG_CD_MARGIN_MV (by decide)]
    rfl
  rw [showTh_hears (hu.trans h), hnf, hth]

/-- Carrier of amplitude `b` has been declared, with a frame that is being received (R206; log entry 114). -/
def carrierShown (mine : Bool) (b : Nat) (s : State) : State :=
  (({ s with fsk.rxMine := mine, fsk.carU := 0 }.putB F.FSK_STAT_CARRIER true).putB F.FSK_STAT_RX_FRAME true).put F.FSK_AD_AMP (satTo 255 b)

theorem carrierShown_shows (mine : Bool) (b : Nat) (s : State) :
    Shows [F.FSK_STAT_CARRIER, F.FSK_STAT_RX_FRAME, F.FSK_AD_AMP] { s with fsk.rxMine := mine, fsk.carU := 0 } (carrierShown mine b s) :=
  (((Shows.refl _ _).putB _ _ (by simp) rfl).putB _ _ (by simp) rfl).put _ _ (by simp) rfl

theorem carrierShown_keeps (mine : Bool) (b : Nat) (s : State) : KeepsBut [F.FSK_STAT_CARRIER, F.FSK_STAT_RX_FRAME, F.FSK_AD_AMP] s (carrierShown mine b s) :=
  (carrierShown_shows mine b s).keeps

theorem carrierShown_carrier (mine : Bool) (b : Nat) (s : State) : (carrierShown mine b s).flag F.FSK_STAT_CARRIER = true := by
  rw [carrierShown, flag_put_of_clear _ _ (by decide), State.putB, flag_put_of_clear _ _ (by decide)]
  exact flag_putB_same _ true rfl (by decide)

theorem carrierShown_frame (mine : Bool) (b : Nat) (s : State) : (carrierShown mine b s).flag F.FSK_STAT_RX_FRAME = true := by
  rw [carrierShown, flag_put_of_clear _ _ (by decide)]
  exact flag_putB_same _ true rfl (by decide)

theorem carrierShown_amp (mine : Bool) (b : Nat) (s : State) : (carrierShown mine b s).get F.FSK_AD_AMP = min 255 b := by
  rw [carrierShown, satTo_eq_min, State.get_put_same _ _ _ (by decide) (by decide)]
  exact Nat.mod_eq_of_lt (by change _ < 256; omega)

/-- The two bit times that end a stretch without carrier declare it where both lie above the threshold of the noise floor. -/
theorem carrierDetect_hears {quiet : List Nat} {a b : Nat} {mine : Bool} {s : State} (h : hears s = true) (hno : s.flag F.FSK_STAT_CARRIER = false) :
    carrierDetect quiet a b mine s =
      if a ≤ cdTh s (min 255 (quiet.foldl nfStep s.fsk.nf / 65536)) ∨ b ≤ cdTh s (min 255 (quiet.foldl nfStep s.fsk.nf / 65536)) then
        floorShown (quiet.foldl nfStep s.fsk.nf) s
      else carrierShown mine b (floorShown (quiet.foldl nfStep s.fsk.nf) s) := by
  unfold carrierDetect
  rw [if_neg (by simp [h, hno])]
  extract_lets nf k u th
  have hu : u = floorShown nf s := showTh_floor nf h
  have hth : th = cdTh s (min 255 (nf / 65536)) := (congrArg (State.get · F.FSK_AD_CD_TH) hu).trans (floorShown_th nf s)
  change (if a ≤ th ∨ b ≤ th then u else carrierShown mine b u) = _
  rw [hth, hu]

/-- The carrier and the frame under it are over. -/
def carrierGone (s : State) : State := (s.putB F.FSK_STAT_CARRIER false).putB F.FSK_STAT_RX_FRAME false

theorem carrierGone_shows (s : State) : Shows [F.FSK_STAT_CARRIER, F.FSK_STAT_RX_FRAME] s (carrierGone s) :=
  ((Shows.refl _ s).putB _ _ (by simp) rfl).putB _ _ (by simp) rfl

theorem carrierGone_flags (s : State) : (carrierGone s).flag F.FSK_STAT_CARRIER = false ∧ (carrierGone s).flag F.FSK_STAT_RX_FRAME = false := by
  refine ⟨?_, flag_putB_same _ false rfl (by decide)⟩
  rw [carrierGone, State.putB, flag_put_of_clear _ _ (by decide)]
  exact flag_putB_same _ false rfl (by decide)

theorem carrierEnd_ends {a b : Nat} {s : State} (h : hears s = true) (hcar : s.flag F.FSK_STAT_CARRIER = true) (ha : a < s.get F.FSK_AD_CD_TH - 10)
    (hb : b < s.get F.FSK_AD_CD_TH - 10) : carrierEnd a b s = { carrierGone s with fsk.quiet := 48 } :=
  if_neg (by simp only [h, hcar, Nat.not_le.mpr ha, Nat.not_le.mpr hb]; decide)

theorem carrierEnd_stays {a b : Nat} {s : State} (h : s.get F.FSK_AD_CD_TH - 10 ≤ a ∨ s.get F.FSK_AD_CD_TH - 10 ≤ b) : carrierEnd a b s = s :=
  if_pos (by rcases h with h | h <;> simp [h])

theorem hears_off {s : State} (h : fskOn s = false) : hears s = false := by simp [hears, h]

/-- Settles O28: a stretch without carrier ends in the noise floor and its threshold (`floorShown`), and in carrier (`carrierShown`) where both bit times lie above it. -/
theorem fskReceiver : Obligations.FskReceiver := by
  intro s h
  refine ⟨?_, ?_, fun a b _ hlow => act_next h (carrierEnd_stays hlow) rfl rfl rfl rfl, ?_, ?_, ?_⟩
  · intro quiet a b mine nf th hhears hno hnf hth
    have hnf' : quiet.foldl nfStep s.fsk.nf = nf := hnf.symm
    have hth' : cdTh s (min 255 (nf / 65536)) = th := hth.symm
    have heff := carrierDetect_hears (quiet := quiet) (a := a) (b := b) (mine := mine) hhears hno
    rw [hnf', hth'] at heff
    have hkeeps := floorShown_keeps nf s
    have hframe := (floorShown_shows nf s).frame
    have hget := floorShown_nf nf s
    have hgetTh := (floorShown_th nf s).trans hth'
    generalize floorShown nf s = u at *
    by_cases hlow : a ≤ th ∨ b ≤ th
    · rw [if_pos hlow] at heff
      refine ⟨u, act_undisturbed h heff (FskOnly.undisturbed ⟨_, _, _, hframe⟩), by rw [hframe], hget, hgetTh, by rw [hframe], by omega, fun _ => ⟨?_, ?_, ?_, by rw [hframe]⟩⟩
      · exact (hkeeps.flag _ (by decide)).trans hno
      · exact hkeeps.flag _ (by decide)
      · exact hkeeps _ (by decide)
    · rw [if_neg hlow] at heff
      have hcar := carrierShown_keeps mine b u
      have hfr : carrierShown mine b u = { s with regs := (carrierShown mine b u).regs, fsk.nf := nf, fsk.rxMine := mine, fsk.carU := 0 } := by
        rw [(carrierShown_shows mine b u).frame, hframe]
      refine ⟨carrierShown mine b u, act_undisturbed h heff (FskOnly.undisturbed ⟨_, _, _, hfr⟩), by rw [hfr], (hcar _ (by decide)).trans hget, (hcar _ (by decide)).trans hgetTh, ?_,
        fun _ _ => ⟨carrierShown_carrier .., carrierShown_frame .., carrierShown_amp .., by rw [hfr]⟩, fun hl => absurd hl hlow⟩
      rw [hfr]
  · intro a b hhears hcar ha hb
    have hgone := (carrierGone_shows s).frame
    obtain ⟨hno, hnoFrame⟩ := carrierGone_flags s
    refine ⟨_, act_next h (carrierEnd_ends hhears hcar ha hb) ?_ ?_ ?_ ?_, hno, hnoFrame, rfl, ?_⟩
    all_goals rw [hgone]
  · intro hon hcar hfr hreach
    exact act_undisturbed h (if_neg (by simp [hon, hcar, hfr, hreach])) (((RegsOnly.refl s).putB _ _).bump _ _).undisturbed
  · intro hon hfr
    exact act_undisturbed h (if_neg (by simp [hon, hfr])) ((((RegsOnly.refl s).putB _ _).bump _ _).raise _).undisturbed
  · intro hoff
    have hdeaf := hears_off hoff
    exact ⟨act_next h (if_pos (by simp [hoff])) rfl rfl rfl rfl, act_next h (if_pos (by simp [hoff])) rfl rfl rfl rfl,
      fun a b => act_next h (if_pos (by simp [hdeaf])) rfl rfl rfl rfl, fun quiet a b mine => act_next h (if_pos (by simp [hdeaf])) rfl rfl rfl rfl⟩

/-! ### Reception (R209–R213) -/

/-- A frame has been received: its reception is over, and the slicer's threshold is shown (R208). -/
def frameSeen (f : FskFrame) (s : State) : State :=
  (s.putB F.FSK_STAT_RX_FRAME false).put F.FSK_AD_SLICER (toCode 8 (divRound (slicer f.learned f.tracked) 65536))

theorem frameSeen_shows (f : FskFrame) (s : State) : Shows [F.FSK_STAT_RX_FRAME, F.FSK_AD_SLICER] s (frameSeen f s) :=
  ((Shows.refl _ s).putB _ _ (by simp) rfl).put _ _ (by simp) rfl

theorem frameSeen_frame (f : FskFrame) (s : State) : (frameSeen f s).flag F.FSK_STAT_RX_FRAME = false := by
  rw [frameSeen, flag_put_of_clear _ _ (by decide)]
  exact flag_putB_same s false rfl (by decide)

/-- A request to the KV4811 that an injection breaks (R238). -/
def frameHit (f : FskFrame) (s : State) : Bool := f.kind == 0 && addressed s f && s.armedAt 0x13 1

/-- A frame has been received, and an injection that waited for it is used up. -/
def frameTaken (f : FskFrame) (s : State) : State := if frameHit f s then (frameSeen f s).disarm 0x13 1 else frameSeen f s

theorem frameTaken_regs (f : FskFrame) (s : State) : (frameTaken f s).regs = (frameSeen f s).regs ∧ (frameTaken f s).eff = (frameSeen f s).eff := by
  unfold frameTaken
  split <;> exact ⟨rfl, rfl⟩

theorem frameTaken_keeps (f : FskFrame) (s : State) : KeepsBut [F.FSK_STAT_RX_FRAME, F.FSK_AD_SLICER] s (frameTaken f s) :=
  (frameSeen_shows f s).keeps.words (frameTaken_regs f s).1 (frameTaken_regs f s).2

theorem frameTaken_frame (f : FskFrame) (s : State) : frameTaken f s = { s with
    regs := (frameTaken f s).regs
    page.armed := if frameHit f s then s.page.armed.erase (0x13, 1) else s.page.armed } := by
  have hseen := (frameSeen_shows f s).frame
  unfold frameTaken
  generalize frameSeen f s = u at *
  split
  · rw [hseen]
    rfl
  · exact hseen

theorem frameTaken_plain {f : FskFrame} {s : State} (h : s.armedAt 0x13 1 = false) : frameTaken f s = frameSeen f s :=
  if_neg (by simp [frameHit, h])

/-- Whose frame it is does not depend on what its reception shows. -/
theorem addressed_frameSeen (f : FskFrame) (s : State) : addressed (frameSeen f s) f = addressed s f := rfl

/-- A whole frame that the receiver hears, with 5 to 20 characters of preamble and begun after LINK was released (R209, R238). -/
structure HeardFrame (f : FskFrame) (s : State) : Prop where
  hears : hears s = true
  least : 5 ≤ f.pre
  most : f.pre ≤ 20
  began : mayReach s s.fsk.upU (264 * (2 + frameChars f) + f.gap) = true

/-- What becomes of such a frame: the first of its faults, else its kind, its address and its length decide (R211–R213). -/
theorem HeardFrame.frameRx_eq {f : FskFrame} {s : State} (h : HeardFrame f s) :
    frameRx f s =
      if !f.charsOk then fskDrop F.FSK_CNT_ERR_CHAR (frameTaken f s)
      else if !checkOk f ∨ frameHit f s then fskDrop F.FSK_CNT_ERR_CHECK (frameTaken f s)
      else if f.kind ≠ 0 then ((frameTaken f s).bump F.FSK_CNT_STR_STRANGER).raise E.FSK_STRANGER
      else if !(f.kind == 0 && addressed s f) then (frameTaken f s).bump F.FSK_CNT_RX_OTHER
      else if 128 < f.data.length then fskDrop F.FSK_CNT_ERR_LONG (frameTaken f s)
      else
        let t := if fskKnown f.cmd then (frameTaken f s).bump F.FSK_CNT_RX_GOOD else (frameTaken f s).bump F.FSK_CNT_STR_NOCMD
        { t with fsk.rx := t.fsk.rx ++ [{ secondary := f.secondary, long := f.long, addr := f.addr, cmd := f.cmd, data := f.data }] } := by
  obtain ⟨hhears, hleast, hmost, hbegan⟩ := h
  unfold frameRx
  rw [if_neg (by simp [hhears])]
  extract_lets seen mine inj taken
  have htaken : taken = frameTaken f s := rfl
  have hfsk : taken.fsk = s.fsk := by rw [htaken, frameTaken_frame]
  have hreach : mayReach taken taken.fsk.upU (264 * (2 + frameChars f) + f.gap) = true := by
    rw [hfsk, htaken, (frameTaken_keeps f s).mayReach (by decide)]
    exact hbegan
  rw [if_neg (by rw [hreach]; simp only [Bool.not_true, Bool.false_eq_true, or_false]; omega)]
  rfl

/-- The frame is dropped and counted in `c`, with RX_ERR (R213). -/
theorem fskDrop_shows (c : Fld) (s : State) (hc : c.rws = false) : Shows [c, evtFld E.FSK_RX_ERR] s (fskDrop c s) :=
  ((Shows.refl _ s).bump c (by simp) hc).raise _ (by simp)

theorem fskDrop_event (c : Fld) (s : State) : ((fskDrop c s).rd 0x13 0x010).getLsbD E.FSK_RX_ERR.2 = true := State.raise_bit_same _ _ _ (by decide)

theorem fskDrop_count (c : Fld) (s : State) (h : regKey E.FSK_RX_ERR.1 0x010 ≠ regKey c.page c.off) (hlo : c.lo ≤ c.hi) (hhi : c.hi < 32) :
    (fskDrop c s).get c = min (2 ^ (c.hi + 1 - c.lo) - 1) (s.get c + 1) :=
  ((s.bump c).get_raise h).trans (s.get_bump_same c hlo hhi)

/-- A broken frame is dropped: what the command leaves but for the counters. -/
theorem exec_frameRx_drop {f : FskFrame} {s : State} {c : Fld} (h : Ready s) (hc : c.rws = false) (heff : frameRx f s = fskDrop c (frameTaken f s)) :
    exec (.fskFrameRx f) s = .next (fskDrop c (frameTaken f s))
      ∧ fskDrop c (frameTaken f s) = { s with
          regs := (fskDrop c (frameTaken f s)).regs
          page.armed := if frameHit f s then s.page.armed.erase (0x13, 1) else s.page.armed } := by
  have hdrop := (fskDrop_shows c (frameTaken f s) hc).frame
  have htaken := frameTaken_frame f s
  generalize frameTaken f s = u at *
  generalize fskDrop c u = t at *
  have ht : t = { s with regs := t.regs, page.armed := if frameHit f s then s.page.armed.erase (0x13, 1) else s.page.armed } := by
    rw [hdrop, htaken]
  exact ⟨act_next h heff (by rw [ht]) (by rw [ht]) (by rw [ht]) (by rw [ht]), ht⟩

/-- Settles O29: the character error comes first, then the check byte; both drop the frame before its kind and its address are looked at (`HeardFrame.frameRx_eq`). -/
theorem brokenFramesAreDropped : Obligations.BrokenFramesAreDropped := by
  intro s f h hhears hleast hmost hbegan hbroken
  have heff := (HeardFrame.mk hhears hleast hmost hbegan).frameRx_eq
  have hkeeps := frameTaken_keeps f s
  cases hchars : f.charsOk with
  | false =>
    rw [hchars] at heff
    obtain ⟨hexec, hframe⟩ := exec_frameRx_drop (c := F.FSK_CNT_ERR_CHAR) h rfl heff
    refine ⟨_, hexec, by rw [hframe], by rw [hframe], by rw [hframe], fun _ => ⟨?_, ?_⟩, nofun, fskDrop_event _ _, by rw [hframe]; rfl, ?_⟩
    · rw [fskDrop_count _ _ (by decide) (by decide) (by decide), hkeeps _ (by decide)]
      rfl
    · rw [(fskDrop_shows _ _ rfl).keeps _ (by decide), hkeeps _ (by decide)]
    · rw [hframe]
  | true =>
    have hcheck : checkOk f = false := by simpa [hchars] using hbroken
    rw [hchars, hcheck] at heff
    obtain ⟨hexec, hframe⟩ := exec_frameRx_drop (c := F.FSK_CNT_ERR_CHECK) h rfl (heff.trans (if_neg (by simp)) |>.trans (if_pos (by simp)))
    refine ⟨_, hexec, by rw [hframe], by rw [hframe], by rw [hframe], nofun, fun _ => ⟨?_, ?_⟩, fskDrop_event _ _, by rw [hframe]; rfl, ?_⟩
    · rw [fskDrop_count _ _ (by decide) (by decide) (by decide), hkeeps _ (by decide)]
      rfl
    · rw [(fskDrop_shows _ _ rfl).keeps _ (by decide), hkeeps _ (by decide)]
    · rw [hframe]

/-- The counter of a request that joins the queue: its command has a row, or none (R227). -/
def requestFld (f : FskFrame) : Fld := if fskKnown f.cmd then F.FSK_CNT_RX_GOOD else F.FSK_CNT_STR_NOCMD

/-- A request has joined the queue of those received. -/
def requestQueued (f : FskFrame) (s : State) : State :=
  { s with fsk.rx := s.fsk.rx ++ [{ secondary := f.secondary, long := f.long, addr := f.addr, cmd := f.cmd, data := f.data }] }

/-- Without an injection a good frame goes where its kind, its address and its length say. -/
theorem HeardFrame.frameRx_good {f : FskFrame} {s : State} (h : HeardFrame f s) (hchars : f.charsOk = true) (hcheck : checkOk f = true)
    (hinj : s.armedAt 0x13 1 = false) :
    frameRx f s =
      if f.kind ≠ 0 then ((frameSeen f s).bump F.FSK_CNT_STR_STRANGER).raise E.FSK_STRANGER
      else if addressed s f = false then (frameSeen f s).bump F.FSK_CNT_RX_OTHER
      else if 128 < f.data.length then fskDrop F.FSK_CNT_ERR_LONG (frameSeen f s)
      else requestQueued f ((frameSeen f s).bump (requestFld f)) := by
  have hhit : frameHit f s = false := by simp [frameHit, hinj]
  rw [h.frameRx_eq, frameTaken_plain hinj, hchars, hcheck, hhit]
  simp only [requestFld, requestQueued]
  by_cases hkind : f.kind = 0
  · cases addressed s f <;> by_cases hk : fskKnown f.cmd = true <;> simp [hkind, hk]
  · simp [hkind]

/-- What a command leaves that only counts, or raises an event, after a frame's reception. -/
theorem exec_frameRx_shown {f : FskFrame} {s t : State} {gs : List Fld} (h : Ready s) (heff : frameRx f s = t) (ht : Shows gs (frameSeen f s) t)
    (hgs : ∀ g ∈ gs, Clear g F.FSK_STAT_RX_FRAME) :
    exec (.fskFrameRx f) s = .next t ∧ t.flag F.FSK_STAT_RX_FRAME = false ∧ t = { s with regs := t.regs } := by
  have hframe : t = { s with regs := t.regs } := ht.frame.trans (by rw [(frameSeen_shows f s).frame])
  exact ⟨act_undisturbed h heff (FskOnly.undisturbed ⟨_, _, _, hframe⟩), (ht.keeps.flag _ hgs).trans (frameSeen_frame f s), hframe⟩

theorem frameSeen_count (f : FskFrame) (s : State) (c : Fld) (hc : ∀ g ∈ [F.FSK_STAT_RX_FRAME, F.FSK_AD_SLICER], Clear g c) : (frameSeen f s).get c = s.get c :=
  (frameSeen_shows f s).keeps c hc

theorem requestFld_rws (f : FskFrame) : (requestFld f).rws = false := by unfold requestFld; split <;> rfl

theorem requestFld_clear (f : FskFrame) : Clear (requestFld f) F.FSK_STAT_RX_FRAME ∧ Clear (requestFld f) (evtFld E.FSK_RX_ERR) := by
  unfold requestFld; split <;> decide

/-- Settles O30: the branches of `HeardFrame.frameRx_good`, one for each of the four that the statement names. -/
theorem fskFrameReception : Obligations.FskFrameReception := by
  intro s f h hhears hleast hmost hbegan hchars hcheck hinj
  have heff := (HeardFrame.mk hhears hleast hmost hbegan).frameRx_good hchars hcheck hinj
  by_cases hkind : f.kind ≠ 0
  · rw [if_pos hkind] at heff
    have hshows : Shows [F.FSK_CNT_STR_STRANGER, evtFld E.FSK_STRANGER] (frameSeen f s) (((frameSeen f s).bump F.FSK_CNT_STR_STRANGER).raise E.FSK_STRANGER) :=
      ((Shows.refl _ _).bump _ (by simp) rfl).raise _ (by simp)
    obtain ⟨hexec, hrx, hframe⟩ := exec_frameRx_shown h heff hshows (by decide)
    refine ⟨_, hexec, hrx, by rw [hframe], fun _ => ⟨by rw [hframe], State.raise_bit_same _ _ _ (by decide), ?_⟩, fun h0 => absurd h0 hkind, fun h0 => absurd h0 hkind,
      fun h0 => absurd h0 hkind⟩
    rw [State.get_raise _ (by decide), State.get_bump_same _ _ (by decide) (by decide), frameSeen_count _ _ _ (by decide), satTo_eq_min]
  rw [if_neg hkind] at heff
  cases haddr : addressed s f with
  | false =>
    rw [if_pos haddr] at heff
    have hshows : Shows [F.FSK_CNT_RX_OTHER] (frameSeen f s) ((frameSeen f s).bump F.FSK_CNT_RX_OTHER) := (Shows.refl _ _).bump _ (by simp) rfl
    obtain ⟨hexec, hrx, hframe⟩ := exec_frameRx_shown h heff hshows (by decide)
    refine ⟨_, hexec, hrx, by rw [hframe], fun h0 => absurd h0 hkind, fun _ _ => ⟨by rw [hframe], ?_, ?_⟩, nofun, nofun⟩
    · exact (hshows.keeps.events E.FSK_RX_ERR (by decide)).trans ((frameSeen_shows f s).keeps.events E.FSK_RX_ERR (by decide))
    · rw [State.get_bump_same _ _ (by decide) (by decide), frameSeen_count _ _ _ (by decide)]
      rfl
  | true =>
    rw [if_neg (by simp [haddr])] at heff
    by_cases hlong : 128 < f.data.length
    · rw [if_pos hlong] at heff
      obtain ⟨hexec, hrx, hframe⟩ := exec_frameRx_shown h heff (fskDrop_shows F.FSK_CNT_ERR_LONG _ rfl) (by decide)
      exact ⟨_, hexec, hrx, by rw [hframe], fun h0 => absurd h0 hkind, nofun, fun _ _ _ => ⟨by rw [hframe], fskDrop_event _ _⟩, fun _ _ hle => absurd hlong (by omega)⟩
    · rw [if_neg hlong] at heff
      have hshows : Shows [requestFld f] (frameSeen f s) ((frameSeen f s).bump (requestFld f)) := (Shows.refl _ _).bump _ (by simp) (requestFld_rws f)
      obtain ⟨hclear, hevt⟩ := requestFld_clear f
      have hkeeps := (frameSeen_shows f s).keeps
      have hframe := hshows.frame.trans (by rw [(frameSeen_shows f s).frame] : _ = { s with regs := ((frameSeen f s).bump (requestFld f)).regs })
      have hrx : ((frameSeen f s).bump (requestFld f)).flag F.FSK_STAT_RX_FRAME = false := (hshows.keeps.flag _ (by simpa using hclear)).trans (frameSeen_frame f s)
      have hrd := (hshows.keeps.events E.FSK_RX_ERR (by simpa using hevt)).trans (hkeeps.events E.FSK_RX_ERR (by decide))
      generalize (frameSeen f s).bump (requestFld f) = u at *
      have ht : requestQueued f u = { s with regs := u.regs, fsk.rx := (requestQueued f u).fsk.rx } := by rw [requestQueued, hframe]
      have hqueue : (requestQueued f u).fsk.rx = s.fsk.rx ++ [{ secondary := f.secondary, long := f.long, addr := f.addr, cmd := f.cmd, data := f.data }] := by
        rw [requestQueued, hframe]
      exact ⟨_, act_undisturbed h heff (FskOnly.undisturbed ⟨_, _, _, ht⟩), hrx, ht, fun h0 => absurd h0 hkind, nofun, fun _ _ h0 => absurd h0 hlong,
        fun _ _ _ => ⟨hqueue, hrd⟩⟩

end Sys2Proof.Machine
end

section
/-! Requests of an FSK master that are answered at once: what a reply is made of, the data of the read commands, and the bytes that no rule states (R214, R219, R223, R227,
R230–R232; log entry 115). Settles O32 and O33. -/

namespace Sys2Proof.Machine

/-! ### Free values -/

/-- From `s` to `t` only free values are taken. -/
def FreshOnly (s t : State) : Prop := ∃ n, t = { s with free := n }

theorem FreshOnly.refl (s : State) : FreshOnly s s := ⟨_, rfl⟩

theorem FreshOnly.trans {s t u : State} : FreshOnly s t → FreshOnly t u → FreshOnly s u := by
  rintro ⟨_, rfl⟩ ⟨_, rfl⟩
  exact ⟨_, rfl⟩

/-- The data function `f` reads the state, and takes free values at most. -/
def ReadsOnly (f : State → State × List Byte) : Prop := ∀ s, FreshOnly s (f s).1

theorem readsOnly_pureData (f : State → List Byte) : ReadsOnly (pureData f) := fun s => .refl s

theorem readsOnly_freeBytes (n : Nat) : ReadsOnly (freeBytes n) := fun _ => ⟨_, rfl⟩

theorem readsOnly_concatData {fs : List (State → State × List Byte)} (h : ∀ f ∈ fs, ReadsOnly f) : ReadsOnly (concatData fs) := by
  induction fs with
  | nil => exact fun s => .refl s
  | cons f fs ih =>
    have hrest := ih fun g hg => h g (List.mem_cons_of_mem f hg)
    exact fun s => (h f List.mem_cons_self s).trans (hrest _)

theorem varSnap_fresh (n : Nat) (s : State) : FreshOnly s (varSnap n s).1 := by
  unfold varSnap
  split
  · split
    · exact .refl s
    · exact ⟨_, rfl⟩
  · exact ⟨_, rfl⟩

theorem readsOnly_varBytes (n : Nat) : ReadsOnly (varBytes n) := fun s => varSnap_fresh n s

theorem readsOnly_identData : ReadsOnly identData := by
  refine readsOnly_concatData ?_
  simp [readsOnly_pureData, readsOnly_freeBytes]

theorem readsOnly_dynamicData : ReadsOnly dynamicData := fun s => by
  refine readsOnly_concatData ?_ s
  simp only [List.mem_cons, List.mem_map, forall_eq_or_imp]
  refine ⟨readsOnly_pureData _, readsOnly_varBytes 0, ?_⟩
  rintro _ ⟨n, -, rfl⟩
  exact readsOnly_varBytes n

theorem readsOnly_codeBytes (c : Byte) : ReadsOnly (codeBytes c) := by
  intro s
  unfold codeBytes
  split
  · exact readsOnly_varBytes _ s
  · exact readsOnly_freeBytes 4 s

theorem readsOnly_statusBytes (c : Byte) : ReadsOnly (statusBytes c) := by
  intro s
  have hfree := readsOnly_freeBytes 1 s
  unfold statusBytes
  generalize freeBytes 1 s = x at *
  obtain ⟨u, cl⟩ := x
  dsimp only at hfree ⊢
  split
  · exact hfree.trans (readsOnly_varBytes _ u)
  · exact hfree.trans (readsOnly_freeBytes 4 u)

theorem readsOnly_statusData (cs : List Byte) : ReadsOnly (statusData cs) := by
  refine readsOnly_concatData ?_
  simp only [List.mem_append, List.mem_singleton, List.mem_map]
  rintro f ((rfl | ⟨c, -, rfl⟩) | rfl)
  · exact readsOnly_freeBytes 1
  · exact readsOnly_statusBytes c
  · exact readsOnly_freeBytes 4

theorem readsOnly_variableData (cs : List Byte) : ReadsOnly (variableData cs) := by
  refine readsOnly_concatData ?_
  simp only [List.mem_map]
  rintro f ⟨c, -, rfl⟩
  exact readsOnly_codeBytes c

theorem readsOnly_burstData : ReadsOnly burstData := by
  refine readsOnly_concatData ?_
  simp [readsOnly_pureData, readsOnly_freeBytes]

/-! ### Data -/

theorem concatData_cons (f : State → State × List Byte) (fs : List (State → State × List Byte)) (s : State) :
    (concatData (f :: fs) s).2 = (f s).2 ++ (concatData fs (f s).1).2 := rfl

theorem freeBytes_length (n : Nat) (s : State) : (freeBytes n s).2.length = n := by simp [freeBytes, tabulate]

theorem varSnap_snapped {n : Nat} {v : Word × Bool} {s : State} (h : Snapped n v s) : varSnap n s = (s, v) := by
  obtain ⟨hen, hsnap⟩ := h
  simp only [varSnap, hsnap, hen, if_true]

/-- An enabled variable that has been snapped has its unit and its value (R232). -/
theorem varBytes_snapped {n : Nat} {v : Word × Bool} {s : State} (h : Snapped n v s) : varBytes n s = (s, unitAndValue n v s) := by
  simp only [varBytes, varSnap_snapped h]
  rfl

theorem varStatus_snapped {n : Nat} {v : Word × Bool} {s : State} (h : Snapped n v s) :
    varStatus n s = if inFault s ∨ v.2 = false then 0 else s.get (F.FSK_VAR_CFG_QUAL n) := by
  simp [varStatus, varSnap_snapped h]

theorem identData_eq (s : State) : ∃ d e, d.length = 4 ∧ e.length = 9
    ∧ (identData s).2 = [254] ++ natBytes 2 s.otp.devType ++ [5, 7] ++ d ++ natBytes 3 s.otp.devId ++ [BitVec.ofNat 8 (s.get F.FSK_CFG_RESP_PRE)] ++ e := by
  refine ⟨_, _, freeBytes_length 4 s, freeBytes_length 9 (s.fresh 4), ?_⟩
  simp only [identData, concatData, pureData, List.append_assoc, List.append_nil]
  rfl

theorem identData_length (s : State) : (identData s).2.length = 22 := by
  obtain ⟨d, e, hd, he, hdata⟩ := identData_eq s
  rw [hdata]
  simp [hd, he, natBytes]

theorem dynamicData_two {v w : Word × Bool} {s : State} (h0 : Snapped 0 v s) (h1 : Snapped 1 w s) (h2 : s.flag (F.FSK_VAR_CFG_EN 2) = false)
    (h3 : s.flag (F.FSK_VAR_CFG_EN 3) = false) : (dynamicData s).2 = loopBytes s ++ unitAndValue 0 v s ++ unitAndValue 1 w s := by
  have hon : ([1, 2, 3].filter fun n => s.flag (F.FSK_VAR_CFG_EN n)) = [1] := by
    obtain ⟨hen, -⟩ := h1
    simp only [List.filter_cons, List.filter_nil, hen, h2, h3, if_true]
    rfl
  simp only [dynamicData, hon, List.map_cons, List.map_nil, concatData, pureData, varBytes_snapped h0, varBytes_snapped h1, List.append_nil, List.append_assoc]

theorem codeBytes_snapped {c : Byte} {n : Nat} {v : Word × Bool} {s : State} (hn : varOfCode s c.toNat = some n) (h : Snapped n v s) :
    (codeBytes c s).2 = c :: unitAndValue n v s := by
  simp only [codeBytes, hn, varBytes_snapped h]

theorem variableData_one {c : Byte} {n : Nat} {v : Word × Bool} {s : State} (hn : varOfCode s c.toNat = some n) (h : Snapped n v s) :
    (variableData [c] s).2 = c :: unitAndValue n v s := by
  simp [variableData, concatData, codeBytes_snapped hn h]

/-- Command 9's answer for one variable: three bytes of it, and four after its status, are not all stated (R232). -/
theorem statusData_one {c : Byte} {n : Nat} {v : Word × Bool} {s : State} (hn : varOfCode s c.toNat = some n) (h : Snapped n v s) :
    ∃ (b k : Byte) (e : List Byte), e.length = 4
      ∧ (statusData [c] s).2 = [b, c, k] ++ unitAndValue n v s ++ [BitVec.ofNat 8 (64 * if inFault s ∨ v.2 = false then 0 else s.get (F.FSK_VAR_CFG_QUAL n))] ++ e := by
  have hsnap : Snapped n v ((s.fresh 1).fresh 1) := h
  have hcode : varOfCode ((s.fresh 1).fresh 1) c.toNat = some n := hn
  have hstatus := varStatus_snapped hsnap
  refine ⟨Config.freeByte s.free, Config.freeByte (s.fresh 1).free, _, freeBytes_length 4 ((s.fresh 1).fresh 1), ?_⟩
  have hone (u : State) : freeBytes 1 u = (u.fresh 1, [Config.freeByte u.free]) := rfl
  have hvar : statusBytes c (s.fresh 1) = ((s.fresh 1).fresh 1, c :: ([Config.freeByte (s.fresh 1).free] ++ unitAndValue n v s
      ++ [BitVec.ofNat 8 (64 * varStatus n ((s.fresh 1).fresh 1))])) := by
    simp only [statusBytes, hone, hcode, varBytes_snapped hsnap]
    rfl
  rw [hstatus] at hvar
  simp only [statusData, List.take, List.map_cons, List.map_nil, List.cons_append, List.nil_append, concatData, hone, hvar, List.append_nil, List.append_assoc]
  rfl

theorem burstData_take (s : State) : (burstData s).2.take 2 = [BitVec.ofNat 8 (s.get F.FSK_BURST_EN), BitVec.ofNat 8 (s.get F.FSK_BURST_CMD)] := by
  simp [burstData, concatData, pureData]

/-! ### The request in turn -/

/-- The state `s` once its only request has left the queue. -/
abbrev turnTaken (s : State) : State := { s with fsk.lp := [] }

/-- The request in turn is the only one: it is processed, and none behind it (R221). -/
theorem fskDo_requested {r : FskReq} {c : Nat} {cmds : List Nat} {f : FskReq → State → State} {s : State} (h : Requested r c s) (hc : c ∈ cmds)
    (hlp : (f r (turnTaken s)).fsk.lp = []) : fskDo cmds f s = f r (turnTaken s) := by
  obtain ⟨hreq, hcmd, -, hlate⟩ := h
  have hturn : fskTurn cmds s = some r := by simp [fskTurn, hreq, hcmd, hc, hlate]
  have htail : s.fsk.lp.tail = [] := by rw [hreq]; rfl
  simp only [fskDo, hturn, htail, fskUnknown, hlp]

/-- A reply that is awaited is its frame, and joins those that are ready. -/
theorem fskReply_awaited {r : FskReq} (code : Nat) (data : List Byte) (s : State) (h : r.dead = false) :
    fskReply r code data s = { s with fsk.ready := s.fsk.ready ++ [replyFrame r code data s] } := if_neg (by simp [h])

/-- The request that has left the queue is answered. -/
theorem answered_fskReply {r : FskReq} (code : Nat) (data : List Byte) {s u : State} (hdead : r.dead = false) (hu : FreshOnly (turnTaken s) u) :
    Answered r code data s (fskReply r code data u) := by
  obtain ⟨n, rfl⟩ := hu
  rw [fskReply_awaited code data _ hdead]
  rfl

theorem Answered.lp {r : FskReq} {code : Nat} {data : List Byte} {s t : State} (h : Answered r code data s t) : t.fsk.lp = [] := by
  rw [Answered] at h
  rw [h]

/-- A command that answers the request in turn leaves everything else alone. -/
theorem exec_answered {r : FskReq} {c code : Nat} {cmds : List Nat} {f : FskReq → State → State} {data : List Byte} {s t : State} (h : Ready s) (hr : Requested r c s)
    (hc : c ∈ cmds) (hf : f r (turnTaken s) = t) (hans : Answered r code data s t) : act (fskDo cmds f) s = .next t := by
  subst hf
  have heff := fskDo_requested hr hc hans.lp
  generalize f r (turnTaken s) = t at *
  rw [Answered] at hans
  exact act_next h heff (by rw [hans]) (by rw [hans]) (by rw [hans]) (by rw [hans])

/-- A read command is answered with code 0 and its data. -/
theorem exec_readCmd {r : FskReq} {c : Nat} {cmds : List Nat} {f : State → State × List Byte} {s : State} (h : Ready s) (hr : Requested r c s) (hc : c ∈ cmds)
    (hf : ReadsOnly f) : ∃ t, act (readCmd cmds f) s = .next t ∧ Answered r 0 (f (turnTaken s)).2 s t := by
  obtain ⟨-, -, hdead, -⟩ := id hr
  have hans := answered_fskReply 0 (f (turnTaken s)).2 hdead (hf (turnTaken s))
  exact ⟨_, exec_answered h hr hc rfl hans, hans⟩

/-- The same where the data follow from the state alone. -/
theorem exec_readPure {r : FskReq} {c : Nat} {cmds : List Nat} {f : State → List Byte} {data : List Byte} {s : State} (h : Ready s) (hr : Requested r c s) (hc : c ∈ cmds)
    (hd : f (turnTaken s) = data) : ∃ t, act (readCmd cmds (pureData f)) s = .next t ∧ Answered r 0 data s t :=
  hd ▸ exec_readCmd h hr hc (readsOnly_pureData f)

/-- The same for data of which the statement fixes a property only. -/
theorem exec_readSome {r : FskReq} {c : Nat} {cmds : List Nat} {f : State → State × List Byte} {P : List Byte → Prop} {s : State} (h : Ready s) (hr : Requested r c s)
    (hc : c ∈ cmds) (hf : ReadsOnly f) (hP : P (f (turnTaken s)).2) : ∃ t d, act (readCmd cmds f) s = .next t ∧ Answered r 0 d s t ∧ P d := by
  obtain ⟨t, hexec, hans⟩ := exec_readCmd h hr hc hf
  exact ⟨t, _, hexec, hans, hP⟩

/-- Commands 9 and 33 with codes are answered with the data of these. -/
theorem exec_codesCmd {r : FskReq} {c : Nat} {f : List Byte → State → State × List Byte} {s : State} (h : Ready s) (hr : Requested r c s) (hd : r.data ≠ [])
    (hf : ReadsOnly (f r.data)) : ∃ t, act (codesCmd c f) s = .next t ∧ Answered r 0 (f r.data (turnTaken s)).2 s t := by
  obtain ⟨-, -, hdead, -⟩ := id hr
  have hans := answered_fskReply 0 (f r.data (turnTaken s)).2 hdead (hf (turnTaken s))
  have hcodes : r.data.isEmpty = false := by simpa using hd
  exact ⟨_, exec_answered h hr (List.mem_singleton_self c) (if_neg (by simp [hcodes])) hans, hans⟩

/-- Without a code they are answered with code 5. -/
theorem exec_codesCmd_none {r : FskReq} {c : Nat} {f : List Byte → State → State × List Byte} {s : State} (h : Ready s) (hr : Requested r c s) (hd : r.data = []) :
    ∃ t, act (codesCmd c f) s = .next t ∧ Answered r 5 [] s t := by
  obtain ⟨-, -, hdead, -⟩ := id hr
  have hans := answered_fskReply 5 [] hdead (FreshOnly.refl (turnTaken s))
  exact ⟨_, exec_answered h hr (List.mem_singleton_self c) (if_pos (by simp [hd])) hans, hans⟩

/-- The device whose tag is asked for identifies itself. -/
theorem exec_tagCmd_own {r : FskReq} {c off n : Nat} {s : State} (h : Ready s) (hr : Requested r c s) (hlen : n ≤ r.data.length) (htag : r.data.take n = fskText s off n) :
    ∃ t d, act (tagCmd c off n) s = .next t ∧ Answered r 0 d s t ∧ d.length = 22 := by
  obtain ⟨-, -, hdead, -⟩ := id hr
  have hans := answered_fskReply 0 (identData (turnTaken s)).2 hdead (readsOnly_identData (turnTaken s))
  have htag' : r.data.take n = fskText (turnTaken s) off n := htag
  exact ⟨_, _, exec_answered h hr (List.mem_singleton_self c) ((if_neg (Nat.not_lt.mpr hlen)).trans (if_neg (not_not.mpr htag'))) hans, hans, identData_length _⟩

/-- One whose tag is another stays silent. -/
theorem exec_tagCmd_other {r : FskReq} {c off n : Nat} {s : State} (h : Ready s) (hr : Requested r c s) (hlen : n ≤ r.data.length) (htag : r.data.take n ≠ fskText s off n) :
    act (tagCmd c off n) s = .next (turnTaken s) := by
  have htag' : r.data.take n ≠ fskText (turnTaken s) off n := htag
  refine act_next h ?_ rfl rfl rfl rfl
  unfold tagCmd
  rw [fskDo_requested hr (by simp)] <;> simp only [Nat.not_lt.mpr hlen, if_false, htag', ne_eq, not_false_eq_true, if_true]

/-- Settles O32: each row is a read command, whose reply is built from its data function; the data of each are one lemma above. -/
theorem fskReadCommands : Obligations.FskReadCommands := by
  intro s r h
  refine ⟨fun hr => ?_, fun hr hlen htag => exec_tagCmd_own h hr hlen htag, fun hr hlen htag => exec_tagCmd_other h hr hlen htag,
    fun hr hlen htag => exec_tagCmd_own h hr hlen htag, fun v hr h0 => ?_, fun hr => exec_readPure h hr (by simp) rfl, fun v w hr h0 h1 h2 h3 => ?_,
    fun hr => exec_readPure h hr (by simp) rfl, fun hr => exec_readSome h hr (by simp) (readsOnly_freeBytes 4) (freeBytes_length 4 _), fun c n v hr hd hn hs => ?_,
    fun c n v hr hd hn hs => ?_, fun hr hd => exec_codesCmd_none h hr hd, fun hr => exec_readPure h hr (by simp) rfl, fun hr => exec_readPure h hr (by simp) rfl,
    fun hr => exec_readSome h hr (by simp) (readsOnly_freeBytes 18) (freeBytes_length 18 _), fun hr => exec_readPure h hr (by simp) rfl,
    fun hr => exec_readPure h hr (by simp) rfl, fun hr => exec_readSome h hr (by simp) readsOnly_burstData (burstData_take (turnTaken s))⟩
  · obtain ⟨t, hexec, hans⟩ := exec_readCmd (cmds := [0]) h hr (by simp) readsOnly_identData
    obtain ⟨d, e, hd, he, hdata⟩ := identData_eq (turnTaken s)
    exact ⟨t, d, e, hexec, hd, he, hdata ▸ hans⟩
  · obtain ⟨t, hexec, hans⟩ := exec_readCmd (cmds := [1]) h hr (by simp) (readsOnly_varBytes 0)
    rw [varBytes_snapped (s := turnTaken s) h0] at hans
    exact ⟨t, hexec, hans⟩
  · obtain ⟨t, hexec, hans⟩ := exec_readCmd (cmds := [3]) h hr (by simp) readsOnly_dynamicData
    rw [dynamicData_two (s := turnTaken s) h0 h1 h2 h3] at hans
    exact ⟨t, hexec, hans⟩
  · obtain ⟨t, hexec, hans⟩ := exec_codesCmd (c := 9) (f := statusData) h hr (by simp [hd]) (readsOnly_statusData _)
    obtain ⟨b, k, e, he, hdata⟩ := statusData_one (s := turnTaken s) hn hs
    rw [hd, hdata] at hans
    exact ⟨t, b, k, e, hexec, he, hans⟩
  · obtain ⟨t, hexec, hans⟩ := exec_codesCmd (c := 33) (f := variableData) h hr (by simp [hd]) (readsOnly_variableData _)
    rw [hd, variableData_one (s := turnTaken s) hn hs] at hans
    exact ⟨t, hexec, hans⟩

/-! ### Additional Device Status (R231) -/

/-- The master that sent `r` has read FSK_XSTAT (R230). -/
def statusRead (r : FskReq) (s : State) : State := if r.secondary then { s with fsk.seenS := xstat s } else { s with fsk.seenP := xstat s }

theorem statusRead_frame (r : FskReq) (s : State) : statusRead r s = { s with fsk := { s.fsk with
    seenS := if r.secondary then xstat s else s.fsk.seenS
    seenP := if r.secondary then s.fsk.seenP else xstat s } } := by
  unfold statusRead
  split <;> rfl

/-- Command 48 counts as read before its reply is built, so that the status byte compares with what this reply holds (R230). -/
theorem statusCmd_eq : statusCmd = fskDo [48] fun r s => fskReply r 0 (extraData (statusRead r s)) (statusRead r s) := rfl

/-- The state after command 48. -/
theorem statusCmd_requested {r : FskReq} {s : State} (hr : Requested r 48 s) :
    statusCmd s = { statusRead r (turnTaken s) with fsk.ready := s.fsk.ready ++ [replyFrame r 0 (extraData s) (statusRead r (turnTaken s))] } := by
  obtain ⟨-, -, hdead, -⟩ := id hr
  have hreply : fskReply r 0 (extraData (statusRead r (turnTaken s))) (statusRead r (turnTaken s))
      = { statusRead r (turnTaken s) with fsk.ready := s.fsk.ready ++ [replyFrame r 0 (extraData s) (statusRead r (turnTaken s))] } := by
    rw [fskReply_awaited _ _ _ hdead, statusRead_frame]
    rfl
  have hlp : (fskReply r 0 (extraData (statusRead r (turnTaken s))) (statusRead r (turnTaken s))).fsk.lp = [] := by rw [hreply, statusRead_frame]
  rw [statusCmd_eq, fskDo_requested hr (List.mem_singleton_self 48) hlp, hreply]

/-- Settles O33: the reply is built once FSK_XSTAT counts as read (`statusCmd_requested`). -/
theorem additionalDeviceStatus : Obligations.AdditionalDeviceStatus := by
  intro s r h hr
  have heff := statusCmd_requested hr
  rw [statusRead_frame] at heff
  exact ⟨_, act_next h heff rfl rfl rfl rfl, rfl, rfl, rfl, rfl, rfl⟩

end Sys2Proof.Machine
end

section
/-! The transmitter of the FSK modem: replies that start, end or come late, the jabber guard, and burst frames (R201–R204, R207, R214, R218–R226). Settles O31. -/

namespace Sys2Proof.Machine

/-! ### TX_GATED (R203) -/

theorem showGate_shows (s : State) : Shows [F.FSK_STAT_TX_GATED] s (showGate s) := (Shows.refl _ s).putB _ _ (by simp) rfl

theorem showGate_fsk (s : State) : (showGate s).fsk = s.fsk := by rw [(showGate_shows s).frame]

/-- While a frame is being transmitted nothing waits for the draw. -/
theorem showGate_sending {o : FskOut} {s : State} (h : s.fsk.sending = some o) : (showGate s).flag F.FSK_STAT_TX_GATED = false := by
  have hno : showGate s = s.putB F.FSK_STAT_TX_GATED false := by simp [showGate, h]
  rw [hno]
  exact flag_putB_same s false rfl (by decide)

theorem showGate_events (e : Nat × Nat) (s : State) (he : Clear F.FSK_STAT_TX_GATED (evtFld e)) : (showGate s).rd e.1 0x010 = s.rd e.1 0x010 :=
  (showGate_shows s).keeps.events e (by simpa using he)

/-- A command whose effect shows TX_GATED after a change of register words and the modem. -/
theorem act_gated {f : State → State} {s t : State} (h : Ready s) (hf : f s = showGate t) (ht : FskOnly s t) : act f s = .next (showGate t) := by
  refine act_undisturbed h hf (ht.undisturbed.trans ?_)
  exact (showGate_shows t).regsOnly.undisturbed

/-! ### The start of a transmission -/

theorem txBegin_frame (o : FskOut) (s : State) : txBegin o s = { s with regs := (txBegin o s).regs, fsk.sending := some o, fsk.sendU := 0 } := by
  have hactive : Shows [F.FSK_STAT_TX_ACTIVE] { s with fsk.sending := some o, fsk.sendU := 0 }
    ({ s with fsk.sending := some o, fsk.sendU := 0 }.putB F.FSK_STAT_TX_ACTIVE true) := (Shows.refl _ _).putB _ _ (by simp) rfl
  unfold txBegin
  rw [(showGate_shows _).frame, hactive.frame]

theorem txBegin_keeps (o : FskOut) (s : State) : KeepsBut [F.FSK_STAT_TX_ACTIVE, F.FSK_STAT_TX_GATED] s (txBegin o s) := by
  have hactive : KeepsBut [F.FSK_STAT_TX_ACTIVE, F.FSK_STAT_TX_GATED] { s with fsk.sending := some o, fsk.sendU := 0 }
    ({ s with fsk.sending := some o, fsk.sendU := 0 }.putB F.FSK_STAT_TX_ACTIVE true) := (KeepsBut.refl _ _).putB _ _ (by simp)
  exact hactive.trans ((showGate_shows _).keeps.mono (by simp))

theorem txBegin_active (o : FskOut) (s : State) : (txBegin o s).flag F.FSK_STAT_TX_ACTIVE = true := by
  rw [txBegin, (showGate_shows _).keeps.flag _ (by decide)]
  exact flag_putB_same _ true rfl (by decide)

theorem txBegin_gated (o : FskOut) (s : State) : (txBegin o s).flag F.FSK_STAT_TX_GATED = false :=
  showGate_sending (o := o) (congrArg Fsk.sending (State.put_fsk _ _ _))

/-- The oldest reply has left the modem's queue, is counted, and its master's cold start is over (R222). -/
def replyTaken (o : FskOut) (rest : List FskOut) (s : State) : State := ({ s with fsk.mq := rest }.bump F.FSK_CNT_TX_REPLY).putB (coldF o.secondary) false

theorem coldF_clear (sec : Bool) : (coldF sec).rws = false ∧ ∀ g ∈ [F.FSK_STAT_TX_ACTIVE, F.FSK_STAT_TX_GATED], Clear g (coldF sec) := by cases sec <;> decide

theorem replyTaken_frame (o : FskOut) (rest : List FskOut) (s : State) : replyTaken o rest s = { s with regs := (replyTaken o rest s).regs, fsk.mq := rest } := by
  have hshows : Shows [F.FSK_CNT_TX_REPLY, coldF o.secondary] { s with fsk.mq := rest } (replyTaken o rest s) :=
    ((Shows.refl _ _).bump _ (by simp) rfl).putB _ _ (by simp) (coldF_clear o.secondary).1
  exact hshows.frame

theorem replyTaken_cold (o : FskOut) (rest : List FskOut) (s : State) : (replyTaken o rest s).flag (coldF o.secondary) = false := by
  unfold replyTaken
  cases o.secondary <;> exact flag_putB_same _ false rfl (by decide)

/-- The oldest reply starts where it is due, in time, and may be transmitted. -/
theorem fskTxStart_starts {o : FskOut} {rest : List FskOut} {s : State} (hmq : s.fsk.mq = o :: rest) (hinj : s.armedAt 0x13 2 = false)
    (hdue : mayReach s o.age 264 = true) (htime : mayStay s o.age 7392 = true) (hmay : txMay s 1 = true) :
    fskTxStart s = txBegin o (replyTaken o rest s) := by
  unfold fskTxStart
  rw [hmq]
  exact (if_neg (by simp [hinj, hdue, htime])).trans (if_neg (by simp [hmay]))

theorem txMay_idle {s : State} (h : s.flag F.LINE_STAT_LOOP_ENG = false ∨ startCeil s = true) (n : Nat) : txMay s n = false := by
  rcases h with h | h <;> simp [txMay, h]

/-- Where nothing may be transmitted no reply starts; TX_GATED at most is shown. -/
theorem fskTxStart_waits {s : State} (h : txMay s 1 = false) : fskTxStart s = s ∨ fskTxStart s = showGate s := by
  unfold fskTxStart
  cases hmq : s.fsk.mq with
  | nil => exact .inl rfl
  | cons o rest =>
    refine .inr ?_
    dsimp only
    split
    · rfl
    · simp [h]

theorem burstTxStart_waits {s : State} (h : txMay s 8 = false) : burstTxStart s = showGate s := if_pos (by simp [h])

theorem fskOnly_refl (s : State) : FskOnly s s := ⟨_, _, _, rfl⟩

/-- Without the loop engaged, or under the start-up ceiling, no transmission starts (R204). -/
theorem exec_start_idle {s : State} (h : Ready s) (hidle : s.flag F.LINE_STAT_LOOP_ENG = false ∨ startCeil s = true) :
    ∃ t u, exec .fskTxStart s = .next t ∧ t.fsk = s.fsk ∧ exec .burstTxStart s = .next u ∧ u.fsk = s.fsk := by
  have hburst := act_gated h (burstTxStart_waits (txMay_idle hidle 8)) (fskOnly_refl s)
  rcases fskTxStart_waits (txMay_idle hidle 1) with hstart | hstart
  · exact ⟨s, _, act_next h hstart rfl rfl rfl rfl, rfl, hburst, showGate_fsk s⟩
  · exact ⟨_, _, act_gated h hstart (fskOnly_refl s), showGate_fsk s, hburst, showGate_fsk s⟩

/-! ### A reply that comes late (R214) -/

/-- A reply has been discarded, with REPLY_LATE; an injection that held one back is used up. -/
def lateShown (s : State) : State := ((s.disarm 0x13 2).bump F.FSK_CNT_TX_LATE).raise E.FSK_REPLY_LATE

theorem lateShown_frame (s : State) : lateShown s = { s with regs := (lateShown s).regs, page.armed := s.page.armed.erase (0x13, 2) } := by
  have hshows : Shows [F.FSK_CNT_TX_LATE, evtFld E.FSK_REPLY_LATE] (s.disarm 0x13 2) (lateShown s) := ((Shows.refl _ _).bump _ (by simp) rfl).raise _ (by simp)
  exact hshows.frame

theorem replyLate_drops {s u : State} (hon : fskOn s = true) (hu : dropReply s = some u) : replyLate s = showGate (lateShown u) := by
  unfold replyLate
  rw [if_neg (by simp [hon]), hu]
  rfl

theorem showGate_lateShown_frame (s : State) :
    showGate (lateShown s) = { s with regs := (showGate (lateShown s)).regs, page.armed := s.page.armed.erase (0x13, 2) } := by
  rw [(showGate_shows _).frame, lateShown_frame]

/-- The discarded reply leaves the modem's queues, and REPLY_LATE is raised. -/
theorem exec_replyLate_drops {k : Fsk} {s : State} (h : Ready s) (hon : fskOn s = true) (hu : dropReply s = some { s with fsk := k }) :
    ∃ t, exec .replyLate s = .next t ∧ t.fsk = k ∧ (t.rd 0x13 0x010).getLsbD E.FSK_REPLY_LATE.2 = true
      ∧ t = { s with regs := t.regs, fsk := t.fsk, page.armed := t.page.armed } := by
  have heff := replyLate_drops hon hu
  have hevt : ((showGate (lateShown { s with fsk := k })).rd 0x13 0x010).getLsbD E.FSK_REPLY_LATE.2 = true := by
    rw [showGate_events E.FSK_REPLY_LATE _ (by decide)]
    exact State.raise_bit_same _ _ _ (by decide)
  have hframe := showGate_lateShown_frame { s with fsk := k }
  generalize showGate (lateShown { s with fsk := k }) = t at *
  exact ⟨t, act_next h heff (by rw [hframe]) (by rw [hframe]) (by rw [hframe]) (by rw [hframe]), by rw [hframe], hevt, by rw [hframe]⟩

theorem dropReply_mq {o : FskOut} {rest : List FskOut} {s : State} (hmq : s.fsk.mq = o :: rest) (hlate : mayReach s o.age 7392 = true) :
    dropReply s = some { s with fsk := { s.fsk with mq := rest } } := by
  simp only [dropReply, hmq, hlate, if_true]

theorem dropReply_ready {o : FskOut} {rest : List FskOut} {s : State} (hmq : s.fsk.mq = []) (hready : s.fsk.ready = o :: rest) (hlate : mayReach s o.age 7392 = true) :
    dropReply s = some { s with fsk := { s.fsk with ready := rest } } := by
  simp only [dropReply, hmq, hready, hlate, if_true]

theorem replyLate_inTime {o : FskOut} {rest : List FskOut} {s : State} (hmq : s.fsk.mq = o :: rest) (htime : mayReach s o.age 7392 = false) : replyLate s = s := by
  have hnone : dropReply s = none := by simp only [dropReply, hmq, htime, Bool.false_eq_true, if_false]
  unfold replyLate
  rw [hnone]
  split <;> rfl

/-! ### The end of a transmission (R207, R220) -/

theorem txOff_frame (s : State) : txOff s = { s with
    regs := (txOff s).regs
    fsk := { s.fsk with sending := none, sendU := 0, blank := 48, quiet := 0 } } := by
  have hoff : Shows [F.FSK_STAT_TX_ACTIVE] { s with fsk := { s.fsk with sending := none, sendU := 0, blank := 48, quiet := 0 } }
    ({ s with fsk.sending := none, fsk.sendU := 0, fsk.blank := 48, fsk.quiet := 0 }.putB F.FSK_STAT_TX_ACTIVE false) := (Shows.refl _ _).putB _ _ (by simp) rfl
  unfold txOff
  rw [(showGate_shows _).frame, hoff.frame]

theorem txOff_keeps (s : State) : KeepsBut [F.FSK_STAT_TX_ACTIVE, F.FSK_STAT_TX_GATED] s (txOff s) := by
  have hoff : KeepsBut [F.FSK_STAT_TX_ACTIVE, F.FSK_STAT_TX_GATED] { s with fsk.sending := none, fsk.sendU := 0, fsk.blank := 48, fsk.quiet := 0 }
    ({ s with fsk.sending := none, fsk.sendU := 0, fsk.blank := 48, fsk.quiet := 0 }.putB F.FSK_STAT_TX_ACTIVE false) := (KeepsBut.refl _ _).putB _ _ (by simp)
  exact hoff.trans ((showGate_shows _).keeps.mono (by simp))

theorem txOff_active (s : State) : (txOff s).flag F.FSK_STAT_TX_ACTIVE = false := by
  rw [txOff, (showGate_shows _).keeps.flag _ (by decide)]
  exact flag_putB_same _ false rfl (by decide)

theorem fskTxEnd_ends {o : FskOut} {s : State} (hsend : s.fsk.sending = some o) (hend : mayReach s s.fsk.sendU (264 * (o.pre + o.bytes.length)) = true) :
    fskTxEnd s = txOff s := by
  simp only [fskTxEnd, hsend, hend, if_true]

theorem tx_idle {s : State} (h : s.fsk.sending = none) : fskTxEnd s = s ∧ fskTxStuck s = s := by
  constructor
  · simp only [fskTxEnd, h]
  · exact if_neg (by simp [h])

/-- The jabber guard has tripped and is counted; the transmitter is still to go off (R220). -/
def jabberShown (s : State) : State := { s with fsk.stuck := true }.bump F.FSK_CNT_TX_JABBER

theorem jabberShown_shows (s : State) : Shows [F.FSK_CNT_TX_JABBER] { s with fsk.stuck := true } (jabberShown s) := (Shows.refl _ _).bump _ (by simp) rfl

theorem fskTxStuck_trips {s : State} (hsend : s.fsk.sending ≠ none) (hlong : mayReach s s.fsk.sendU 43200 = true) :
    fskTxStuck s = faultEvent 0x30 0 (txOff (jabberShown s)) false false := by
  have hsome : s.fsk.sending.isSome = true := Option.isSome_iff_ne_none.mpr hsend
  have hstill : (jabberShown s).fsk.sending.isSome = true := by rw [(jabberShown_shows s).frame]; exact hsome
  unfold fskTxStuck
  rw [if_pos ⟨hsome, hlong⟩]
  unfold jabber
  exact congrArg (faultEvent 0x30 0 · false false) (if_pos hstill)

theorem FaultNoted.fsk {s t : State} (h : FaultNoted s t) : t.fsk = s.fsk := by
  obtain ⟨_, _, _, _, ht⟩ := h.only
  rw [ht]

/-- A transmitter that has been active too long goes off, and its fault is recorded. -/
theorem exec_fskTxStuck_trips {s : State} (h : Ready s) (hsend : s.fsk.sending ≠ none) (hlong : mayReach s s.fsk.sendU 43200 = true) (hr : RecordsOnly 0x30 s) :
    ∃ t, exec .fskTxStuck s = .next t ∧ t.fsk.stuck = true ∧ t.fsk.sending = none ∧ t.flag F.FSK_STAT_TX_ACTIVE = false ∧ FaultRecorded s t := by
  have hframe : txOff (jabberShown s) = { s with
      regs := (txOff (jabberShown s)).regs
      fsk := { s.fsk with stuck := true, sending := none, sendU := 0, blank := 48, quiet := 0 } } := by
    rw [txOff_frame, (jabberShown_shows s).frame]
  have htot : (txOff (jabberShown s)).get F.FLT_REC_CNT_TOTAL = s.get F.FLT_REC_CNT_TOTAL :=
    (txOff_keeps _ _ (by decide)).trans ((jabberShown_shows s).keeps _ (by decide))
  have hoff := txOff_active (jabberShown s)
  have heff := fskTxStuck_trips hsend hlong
  generalize txOff (jabberShown s) = u at *
  have hwords : u.eff = s.eff := by rw [hframe]
  obtain ⟨hexec, hrecd, hnoted⟩ := act_faultEvent h heff (FskOnly.undisturbed ⟨_, _, _, hframe⟩) hwords htot hr
  have habove := faultEvent_keepsAboveHub 0 false false (by decide) (recordsOnly_of_eff hwords hr)
  refine ⟨_, hexec, ?_, ?_, (habove.flag _ rfl (by decide)).trans hoff, hrecd⟩
  · rw [hnoted.fsk, hframe]
  · rw [hnoted.fsk, hframe]

/-! ### Burst frames (R224–R226) -/

/-- The modem without a burst frame that waits. -/
abbrev noBurst (k : Fsk) : Fsk := { k with burst := none, burstTx := false }

/-- The waiting burst frame is abandoned, counted and raised; TX_GATED is still to be shown. -/
def burstDropped (s : State) : State := ({ s with fsk := noBurst s.fsk }.bump F.FSK_CNT_BURST_DEFER).raise E.FSK_BURST_DEFER

theorem burstDropped_shows (s : State) : Shows [F.FSK_CNT_BURST_DEFER, evtFld E.FSK_BURST_DEFER] { s with fsk := noBurst s.fsk } (burstDropped s) :=
  ((Shows.refl _ _).bump _ (by simp) rfl).raise _ (by simp)

theorem burstAbandon_eq (s : State) : burstAbandon s = showGate (burstDropped s) := rfl

theorem burstAbandon_frame (s : State) : burstAbandon s = { s with regs := (burstAbandon s).regs, fsk := noBurst s.fsk } := by
  rw [burstAbandon_eq, (showGate_shows _).frame, (burstDropped_shows s).frame]

theorem burstAbandon_event (s : State) : ((burstAbandon s).rd 0x13 0x010).getLsbD E.FSK_BURST_DEFER.2 = true := by
  rw [burstAbandon_eq, showGate_events E.FSK_BURST_DEFER _ (by decide)]
  exact State.raise_bit_same _ _ _ (by decide)

/-- A burst frame has become due. -/
def burstAwaits (s : State) : State := { s with fsk.burst := some 0, fsk.burstTx := false, fsk.sinceDue := 0 }

/-- A burst frame that becomes due takes the place of one that waits (R225). -/
theorem burstDue_due {s : State} (hon : fskOn s = true) (hen : s.flag F.FSK_BURST_EN = true) (hdue : mayReach s s.fsk.sinceDue (burstPeriod s) = true) :
    burstDue s = burstAwaits (if s.fsk.burst.isSome then burstAbandon s else s) := if_neg (by simp [hon, hen, hdue])

theorem burstDefer_defers {age : Nat} {s : State} (hburst : s.fsk.burst = some age) (hlate : mayReach s age (burstPeriod s) = true) : burstDefer s = burstAbandon s := by
  simp only [burstDefer, hburst, hlate, if_true]

theorem burstDefer_none {s : State} (h : s.fsk.burst = none) : burstDefer s = s := by simp only [burstDefer, h]

/-- The data of a burst frame take free values at most. -/
theorem readsOnly_burstCmdData (cmd : Nat) : ReadsOnly (burstCmdData cmd) := by
  intro s
  unfold burstCmdData
  split
  · exact readsOnly_varBytes 0 s
  · exact .refl s
  · exact readsOnly_dynamicData s
  · exact readsOnly_statusData _ s
  · exact readsOnly_variableData _ s
  · exact .refl s

/-- A burst frame has left its place and is counted; the next one is for the other master (R226). -/
def burstTaken (s : State) : State := { s with fsk.burst := none, fsk.burstTx := false, fsk.burstSec := !s.fsk.burstSec }.bump F.FSK_CNT_BURST_SENT

theorem burstTaken_shows (s : State) :
    Shows [F.FSK_CNT_BURST_SENT] { s with fsk.burst := none, fsk.burstTx := false, fsk.burstSec := !s.fsk.burstSec } (burstTaken s) :=
  (Shows.refl _ _).bump _ (by simp) rfl

/-- A burst frame that may start carries the preamble and the master bit in force; its data take free values at most. -/
theorem burstTxStart_starts {s : State} (hburst : s.fsk.burst ≠ none) (htx : s.fsk.burstTx = true) (hen : s.flag F.FSK_BURST_EN = true)
    (hreply : replyPending s = false) (hmay : txMay s 8 = true) :
    ∃ (n : Nat) (bs : List Byte), burstTxStart s = txBegin ⟨bs, s.get F.FSK_CFG_RESP_PRE, s.fsk.burstSec, 0⟩ (burstTaken { s with free := n }) := by
  have hsome : s.fsk.burst.isNone = false := Option.isNone_eq_false_iff.mpr (Option.isSome_iff_ne_none.mpr hburst)
  obtain ⟨n, hdata⟩ := readsOnly_burstCmdData (s.get F.FSK_BURST_CMD) s
  unfold burstTxStart
  rw [if_neg (by simp [hsome, htx, hen, hreply, hmay])]
  extract_lets cmd sec
  generalize hx : burstCmdData cmd s = x
  obtain ⟨u, data⟩ := x
  have hu : u = { s with free := n } := by rw [← hdata]; exact congrArg Prod.fst hx.symm
  subst hu
  refine ⟨n, outBytes 2 true (longAddr { s with free := n }) sec true cmd ([0, BitVec.ofNat 8 (fskStatus { s with free := n } sec)] ++ data), ?_⟩
  have hpre : (burstTaken { s with free := n }).get F.FSK_CFG_RESP_PRE = s.get F.FSK_CFG_RESP_PRE := (burstTaken_shows _).keeps _ (by decide)
  rw [← hpre]
  rfl

/-- Settles O31: each command either starts a transmission (`txBegin`), ends one (`txOff`), discards a reply (`lateShown`) or a burst frame (`burstAbandon`), or waits. -/
theorem fskTransmission : Obligations.FskTransmission := by
  intro s h
  refine ⟨?_, fun hidle => exec_start_idle h hidle, fun o rest hmq hon hlate => exec_replyLate_drops h hon (dropReply_mq hmq hlate),
    fun o rest hmq hready hon hlate => exec_replyLate_drops h hon (dropReply_ready hmq hready hlate),
    fun o rest hmq htime => act_next h (replyLate_inTime hmq htime) rfl rfl rfl rfl, ?_,
    fun hno => ⟨act_next h (tx_idle hno).1 rfl rfl rfl rfl, act_next h (tx_idle hno).2 rfl rfl rfl rfl⟩,
    fun hsend hlong hr => exec_fskTxStuck_trips h hsend hlong hr, ?_, ?_, fun hoff => act_next h (if_pos (by simp [hoff])) rfl rfl rfl rfl, ?_, ?_,
    fun hno => act_next h (burstDefer_none hno) rfl rfl rfl rfl⟩
  · intro o rest hmq hinj hdue htime hon hsend hstuck heng hceil hcar hquiet hdraw
    have hmay : txMay s 1 = true := by simp [txMay, txDrawOk, hon, hsend, hstuck, heng, hceil, hcar, hquiet, hdraw]
    have hframe : txBegin o (replyTaken o rest s) = { s with
        regs := (txBegin o (replyTaken o rest s)).regs
        fsk := { s.fsk with sending := some o, sendU := 0, mq := rest } } := by rw [txBegin_frame, replyTaken_frame]
    have hcold := ((txBegin_keeps o (replyTaken o rest s)).flag _ (coldF_clear o.secondary).2).trans (replyTaken_cold o rest s)
    have hactive := txBegin_active o (replyTaken o rest s)
    have hgated := txBegin_gated o (replyTaken o rest s)
    have heff := fskTxStart_starts hmq hinj hdue htime hmay
    generalize txBegin o (replyTaken o rest s) = t at *
    exact ⟨t, act_undisturbed h heff (FskOnly.undisturbed ⟨_, _, _, hframe⟩), by rw [hframe], by rw [hframe], hactive, hcold, hgated, by rw [hframe]⟩
  · intro o hsend hend
    have hframe := txOff_frame s
    have hoff := txOff_active s
    have heff := fskTxEnd_ends hsend hend
    generalize txOff s = t at *
    exact ⟨t, act_undisturbed h heff (FskOnly.undisturbed ⟨_, _, _, hframe⟩), by rw [hframe], hoff, by rw [hframe]⟩
  · intro hon hen hdue hburst
    have heff := burstDue_due hon hen hdue
    rw [if_pos (Option.isSome_iff_ne_none.mpr hburst)] at heff
    have hframe := burstAbandon_frame s
    have hevt := burstAbandon_event s
    generalize burstAbandon s = u at *
    have ht : burstAwaits u = { s with regs := u.regs, fsk := { s.fsk with burst := some 0, burstTx := false, sinceDue := 0 } } := by rw [burstAwaits, hframe]
    exact ⟨_, act_undisturbed h heff (FskOnly.undisturbed ⟨_, _, _, ht⟩), by rw [ht], hevt, by rw [ht]⟩
  · intro hon hen hdue hburst
    have heff := burstDue_due hon hen hdue
    rw [if_neg (by simp [hburst])] at heff
    exact act_next h heff rfl rfl rfl rfl
  · intro hburst htx hen hreply hmay
    obtain ⟨n, bs, heff⟩ := burstTxStart_starts hburst htx hen hreply hmay
    generalize ho : (⟨bs, s.get F.FSK_CFG_RESP_PRE, s.fsk.burstSec, 0⟩ : FskOut) = o at heff
    have hframe : txBegin o (burstTaken { s with free := n }) = { s with
        regs := (txBegin o (burstTaken { s with free := n })).regs
        free := n
        fsk := { s.fsk with sending := some o, sendU := 0, burst := none, burstTx := false, burstSec := !s.fsk.burstSec } } := by
      rw [txBegin_frame, (burstTaken_shows _).frame]
    have hactive := txBegin_active o (burstTaken { s with free := n })
    generalize txBegin o (burstTaken { s with free := n }) = t at *
    exact ⟨t, o, act_next h heff (by rw [hframe]) (by rw [hframe]) (by rw [hframe]) (by rw [hframe]), by rw [hframe], by rw [← ho], by rw [← ho], by rw [hframe],
      by rw [hframe], hactive, by rw [hframe]⟩
  · intro age hburst hlate
    have heff := burstDefer_defers hburst hlate
    have hframe := burstAbandon_frame s
    have hevt := burstAbandon_event s
    generalize burstAbandon s = t at *
    exact ⟨t, act_undisturbed h heff (FskOnly.undisturbed ⟨_, _, _, hframe⟩), by rw [hframe], hevt, by rw [hframe]⟩

end Sys2Proof.Machine
end

section
/-! A YCOMMIT in a session while the blocks are asked to quiesce: the commit that it requests takes a free choice (R51, R235, R337, R566). Refutes O35. -/

namespace Sys2Proof.Machine

/-! ### Vendor requests in a session (R234–R236, R337) -/

theorem hmac16_length (key m : List Byte) : (hmac16 key m).length = 16 := by simp [hmac16, hmac, sha256, wordsBytes, bytesOfWord]

/-- A request that its session accepts passes the checks of R330, and ends a run of failures. -/
theorem checkAuthentic_accepts {kind port sid ctr slot : Nat} {peer input mac : List Byte} {x : Session} {s : State}
    (h : SessionAccepts kind port peer sid ctr input mac slot x s) : checkAuthentic kind port peer sid ctr input mac s = (authPassed kind s, 0) := by
  obtain ⟨hof, hpend, hbound, hmac, hctr, -, hhold, hinj⟩ := h
  simp [checkAuthentic, hhold, hof, hpend, hbound, hinj, hmac, hctr]

theorem vendorAuth_accepts {r : FskReq} {v : VendorReq} {slot : Nat} {x : Session} {s : State} (hsid : v.sid ≠ 0)
    (h : SessionAccepts (masterKind r) 0 [] v.sid v.ctr ([0x00, BitVec.ofNat 8 r.cmd] ++ v.front) v.mac slot x s) :
    vendorAuth r v s = (acceptRequest v.sid v.ctr (authPassed (masterKind r) s), true) := by
  simp only [vendorAuth, hsid, if_false, checkAuthentic_accepts h]

theorem endExhausted_not {sid ctr : Nat} (s : State) (h : ctr ≠ 0xFFFFFFFF) : endExhausted sid ctr s = s := by
  unfold endExhausted
  split
  · exact if_neg h
  · rfl

/-- A YCOMMIT of the right shape, accepted by its session, requests its commits; its reply waits for the boundary. -/
theorem ycommit_accepted {r : FskReq} {v : VendorReq} {s a u : State} {os : List WordOut} (hmay : linkMay s = true) (hr : Requested r 202 s)
    (hshape : vendorShape r.data 0 1 8 = 0) (hparse : vendorParse r.data = v) (hsid : v.sid ≠ 0) (hctr : v.ctr ≠ 0xFFFFFFFF)
    (hauth : vendorAuth r v (turnTaken s) = (a, true))
    (hpages : commitPages (.fsk r.secondary v.sid) ((v.mid.drop 1).map (·.toNat)) (linkUse ((v.mid.drop 1).map (·.toNat)).length a) = (u, os)) (hlp : u.fsk.lp = []) :
    ycommit s = vendorLate r v (replyKey a v.sid) os ((v.mid.drop 1).map (·.toNat)) u := by
  unfold ycommit vendorCmd accessDo
  rw [if_pos hmay, fskDo_requested hr (List.mem_singleton_self 202)] <;>
    simp only [hshape, ne_eq, not_true_eq_false, if_false, hparse, hauth, hsid, hpages, endExhausted_not _ hctr]
  exact hlp

/-! ### Commits that are requested (R42, R566) -/

theorem commonEnt_commit {p : Nat} (hp : (pageEnt p).isSome = true) : ∃ e, regEnt p 0x020 = some (e, 0) ∧ e.wo = 1 ∧ e.rws = 0 := by
  obtain ⟨pe, hpe⟩ := Option.isSome_iff_exists.mp hp
  exact ⟨⟨0x020, 0x400, 1, 4, 1, 0, 0, 0, 0, 0, 0, 1⟩, by simp [regEnt, commonEnt, hpe], rfl, rfl⟩

/-- A session over FSK does not rank as a lease's holder (R290). -/
theorem noteOwner_fsk (sec : Bool) (sid p : Nat) (s : State) : noteOwner (.fsk sec sid) p s = s := by
  have hrank : pathRank s (pageGroup p) (.fsk sec sid) ≠ 4 := by
    change 5 + b2n sec ≠ 4
    omega
  exact if_neg fun h => hrank h.1

/-- GO of PG_COMMIT that passes its checks requests the page's commit. -/
theorem commitPages_one {path : Path} {p : Nat} {s : State} (hp : p < 0x80) (hpe : (pageEnt p).isSome = true) (h : MayWrite path p 0x020 1 s) (hne : p ≠ 0x11) :
    commitPages path [p] s = (requestCommit p (noteOwner path p s), [⟨p, pageGroup p, false, 0⟩]) := by
  obtain ⟨e, he, hwo, hrws⟩ := commonEnt_commit hpe
  obtain ⟨-, hd, hl, hrole, hk, hlock, hown⟩ := h
  have ha : (regAddr p 0x020).toNat % 4 = 0 := by rw [regAddr_toNat hp (by decide)]; omega
  have hpow : powerCheck s (regAddr p 0x020).toNat (.reg p 0x020 e) = 0 := by simp [powerCheck, hd]
  have hchk : ownChecks path p 0x020 1 (e.rws != 0) s = (s, 0) := by
    unfold ownChecks
    simp only [hrole, hk, hlock, hown]
    simp [hrws]
  have hwrite : writable e ≠ 0 := by
    rw [writable, hwo, Nat.ne_zero_iff_zero_lt]
    exact Nat.lt_of_lt_of_le Nat.one_pos Nat.right_le_or
  simp only [commitPages, writeAccess_reg ha (regionOf_regAddr hp (by decide) hpe he) hpow, hwrite, if_false, hl, Bool.false_eq_true, hchk, ne_eq, not_true_eq_false]
  simp [noteWrite, hne, performWrite, bitOf, noteLdac]

/-- While the blocks may still be asked, the request of a commit takes a free choice (R51, R566). -/
theorem requestCommit_asking {s : State} {target : Nat} (p : Nat) (ha : s.slp.asking = true) (hd : s.slp.down = some target) :
    RequestOnly s.fresh (requestCommit p s) := by
  unfold requestCommit
  extract_lets g u
  have hu : RequestOnly s u ∧ u.slp = s.slp := by
    unfold u
    split
    · exact ⟨requestOnly_page s _, rfl⟩
    · exact ⟨.refl s, rfl⟩
  obtain ⟨honly, hslp⟩ := hu
  clear_value u
  rw [← hslp] at ha hd
  split
  · exact honly.fresh.trans (goWhileAsked_asking p ha hd)
  · exact honly.fresh.trans ((requestOnly_page u _).fresh.trans (goWhileAsked_asking (s := { u with page := _ }) p ha hd))

/-! ### The counterexample -/

/-- SID 1, CTR 1, and one page: FLT0. -/
def commitFront : List Byte := 1 :: natBytes 4 1 ++ [1, BitVec.ofNat 8 0x07]

/-- A YCOMMIT of the primary master in session 1, signed with the key [1]. -/
def commitReq : FskReq := { secondary := false, long := false, addr := 0, cmd := 202, data := commitFront ++ hmac16 [1] ([0x00, 202] ++ commitFront) }

/-- The open session 1 of the primary master, with role MAINTAIN and the key [1]. -/
def commitSession : Session :=
  { sid := 1, kind := 5, pending := false, role := 3, key := 0, idle := 100, nonceH := [], nonceD := [], sk := [1], lastCtr := 0, peer := [], port := 0 }

/-- The chip of `askedToQuiesce` with its boot over and no slot due; the YCOMMIT is in turn. -/
def commitAsked : State :=
  { askedToQuiesce.putB F.SYS_BSTAT_ROM_OK true with plan.todo := [], fsk.lp := [commitReq], acc.sessions := [(0, commitSession)] }

theorem commitReq_shape : vendorShape commitReq.data 0 1 8 = 0 := by
  have hlen : commitReq.data.length = 23 := by simp [commitReq, hmac16_length, commitFront, natBytes]
  unfold vendorShape
  rw [hlen]
  rfl

theorem commitReq_parse : vendorParse commitReq.data = ⟨1, 1, [1, 0x07], commitFront, hmac16 [1] ([0x00, 202] ++ commitFront)⟩ := by
  have hlen := hmac16_length [1] ([0x00, 202] ++ commitFront)
  unfold commitReq
  generalize hmac16 [1] ([0x00, 202] ++ commitFront) = mac at *
  simp [vendorParse, commitFront, natBytes, hlen, bytesNat]

theorem commitAsked_accepts : SessionAccepts (masterKind commitReq) 0 [] 1 1 ([0x00, 202] ++ commitFront) (hmac16 [1] ([0x00, 202] ++ commitFront)) 0 commitSession commitAsked :=
  ⟨rfl, rfl, rfl, rfl, by decide, by decide, by decide, by decide⟩

/-- The state in which the session has accepted the request. -/
def commitAccepted : State := acceptRequest 1 1 (authPassed 5 (turnTaken commitAsked))

theorem commitAccepted_mayWrite : MayWrite (.fsk false 1) 0x07 0x020 1 (linkUse 1 commitAccepted) := by decide

/-- The commit is requested while the blocks may still be asked: a free choice is taken. -/
theorem ycommit_asked : ∃ u os, RequestOnly commitAccepted.fresh u ∧ ycommit commitAsked = vendorLate commitReq ⟨1, 1, [1, 0x07], commitFront, hmac16 [1] ([0x00, 202] ++ commitFront)⟩
    (replyKey commitAccepted 1) os [0x07] u := by
  have hpages := commitPages_one (by decide) (by decide) commitAccepted_mayWrite (by decide)
  obtain hreq := requestCommit_asking (s := linkUse 1 commitAccepted) (target := 1) 0x07 rfl rfl
  rw [noteOwner_fsk] at hpages
  have hauth := vendorAuth_accepts (r := commitReq) (v := ⟨1, 1, [1, 0x07], commitFront, hmac16 [1] ([0x00, 202] ++ commitFront)⟩) (s := turnTaken commitAsked) (by decide) commitAsked_accepts
  refine ⟨_, _, hreq, ycommit_accepted rfl ⟨rfl, rfl, rfl, by decide⟩ commitReq_shape commitReq_parse (by decide) (by decide) hauth hpages ?_⟩
  obtain ⟨_, _, _, _, _, _, hu⟩ := hreq
  rw [hu]
  rfl

theorem commitAsked_ready : Ready commitAsked := by decide

/-- Refutes O35: the commit that YCOMMIT requests may meet the blocks while they are asked to quiesce (`commitAsked`). Whether the page's block then refuses the entry is a free
choice (R51, R566), which the request takes: it changes more than the statement grants, whichever way it falls. -/
theorem not_fskVendorCommands : ¬ Obligations.FskVendorCommands := by
  intro h
  obtain ⟨-, -, -, hcommit, -⟩ := h commitAsked commitReq commitAsked_ready rfl
  obtain ⟨t, hexec, -, -, -, -, -, hsame, -⟩ := hcommit 1 1 0 commitSession 0x07 commitFront (hmac16 [1] ([0x00, 202] ++ commitFront)) ⟨rfl, rfl, rfl, by decide⟩ (by decide) (by decide)
    (by decide) (by decide) (by decide) rfl rfl (hmac16_length _ _) commitAsked_accepts (by decide)
  obtain ⟨u, os, ⟨_, _, _, _, _, _, hu⟩, heff⟩ := ycommit_asked
  have hexec' : exec .ycommit commitAsked = .next (ycommit commitAsked) := by
    refine act_next commitAsked_ready rfl ?_ ?_ ?_ ?_ <;> rw [heff, vendorLate, hu] <;> rfl
  have ht : t = ycommit commitAsked := by simpa [hexec] using hexec'
  have hkept := congrArg State.free hsame
  have htaken : (ycommit commitAsked).free = commitAsked.free + 1 := by
    rw [heff, vendorLate, hu]
    rfl
  rw [← ht] at htaken
  dsimp only at hkept
  omega

end Sys2Proof.Machine
end

section
/-! The service slots FSK_SERVICE, PUB_SERVICE and REC_SERVICE (R93, R216, R274, R435, R438). Settles O20. -/

namespace Sys2Proof.Machine

/-! ### A slot of any kind that begins -/

theorem admits_fits {ob : Bool} {p : Int} {s : State} (h : fitsCap s p = true) : admits ob p s = (s, true) := by simp [admits, h]

/-- A slot that starts begins, and nothing else changes (R103, R108, R110, R537). -/
theorem slotBegin_starts {act idx at_ : Nat} {d : Slot} {s : State} (h : SlotStarts act idx at_ d s) :
    slotBegin act idx at_ 0 true s = (slotStarted d idx at_ s, true) := by
  obtain ⟨hfind, hrun, hat, hfirst, hkind⟩ := h
  have hmay : mayStart s d at_ = true := by
    simp only [mayStart, hat, beq_self_eq_true, Bool.true_and, List.all_eq_true]
    intro x hx
    by_cases hx1 : x.kind = 1
    · simp [hx1, hfirst x hx hx1]
    · simp [hx1]
  have harmed (k : Plan) (n : Nat) : State.armedAt { s with plan := k } 0x06 n = s.armedAt 0x06 n := rfl
  have hadmit (k : Plan) (hfit : fitsCap s s.gov.pred = true) : admits true s.gov.pred { s with plan := k } = ({ s with plan := k }, true) := admits_fits hfit
  unfold slotBegin
  simp only [hfind, hrun, hmay]
  rcases hkind with ⟨hk, hinj⟩ | ⟨hk, hfit, hinj⟩ | ⟨hk, hin, hfit⟩
  · simp [hk, harmed, hinj, slotStarted]
    rfl
  · simp [hk, harmed, hinj, hadmit _ hfit]
    rfl
  · simp [hk, Nat.not_le.mpr hin, hadmit _ hfit]
    rfl

theorem slotDo_starts {act idx at_ : Nat} {d : Slot} {s : State} (f : State → State) (h : SlotStarts act idx at_ d s) :
    slotDo act idx at_ f s = f (slotStarted d idx at_ s) := by simp only [slotDo, slotBegin_starts h]

theorem slotStarted_fskOn (d : Slot) (idx at_ : Nat) (s : State) : fskOn (slotStarted d idx at_ s) = fskOn s := rfl

/-- A command of a slot that starts ends quietly where it leaves the slot running and the transfers and the fault hub alone. -/
theorem act_started {act' idx at_ : Nat} {d : Slot} {f : State → State} {s t : State} (h : Ready s) (hst : SlotStarts act' idx at_ d s) (hf : f s = t)
    (hplan : t.plan = (slotStarted d idx at_ s).plan) (hd : t.dma = s.dma) (hflt : t.flt = s.flt) : act f s = .next t := by
  obtain ⟨-, hno, -⟩ := hst
  exact act_begun h hno hf (r := { slot := d, began := at_, late := decide (d.start < at_), gov := s.flag F.GOV_STAT_EMERG, inj := false }) (by rw [hplan]; rfl) hd hflt

/-! ### FSK_SERVICE (R216) -/

/-- The frames received have been handed to the link processor. -/
def framesHanded (s : State) : State := { s with fsk.lp := s.fsk.lp ++ s.fsk.rx, fsk.rx := [] }

/-- The replies that are ready have been handed to the modem, with a burst frame that waits. -/
def repliesHanded (s : State) : State :=
  { s with fsk.mq := s.fsk.mq ++ s.fsk.ready, fsk.ready := [], fsk.burstTx := s.fsk.burstTx || s.fsk.burst.isSome }

/-- Where the first request has a command with a row, none is answered as unknown (R227). -/
theorem fskUnknown_known {n : Nat} {s : State} (h : ∀ r, s.fsk.lp.head? = some r → fskKnown r.cmd = true) : fskUnknown n s = s := by
  cases n with
  | zero => rfl
  | succ n =>
    unfold fskUnknown
    split
    · rename_i r rest hlp
      exact if_pos (by simp [h r (by simp [hlp])])
    · rfl

theorem fskService_off {idx at_ : Nat} {d : Slot} {s : State} (h : SlotStarts 4 idx at_ d s) (hoff : fskOn s = false) : fskService idx at_ s = slotStarted d idx at_ s := by
  simp only [fskService, slotBegin_starts h, slotStarted_fskOn, hoff, Bool.not_false, if_true]

theorem fskService_rxh {idx at_ : Nat} {d : Slot} {s : State} (h : SlotStarts 4 idx at_ d s) (hon : fskOn s = true) (harg : d.arg = 1) (hrx : s.fsk.rx ≠ [])
    (hknown : ∀ r, (s.fsk.lp ++ s.fsk.rx).head? = some r → fskKnown r.cmd = true) :
    fskService idx at_ s = (framesHanded (slotStarted d idx at_ s)).raise E.FSK_FRAME_RX := by
  have hrun : runArg (slotStarted d idx at_ s) = 1 := harg
  have hsome : (slotStarted d idx at_ s).fsk.rx.isEmpty = false := by simpa [slotStarted] using hrx
  have hdone : fskUnknown 64 ((framesHanded (slotStarted d idx at_ s)).raise E.FSK_FRAME_RX) = (framesHanded (slotStarted d idx at_ s)).raise E.FSK_FRAME_RX :=
    fskUnknown_known hknown
  unfold fskService
  simp only [slotBegin_starts h, slotStarted_fskOn, hon, hrun, hsome]
  exact hdone

theorem fskService_txh {idx at_ : Nat} {d : Slot} {s : State} (h : SlotStarts 4 idx at_ d s) (hon : fskOn s = true) (harg : d.arg = 2) :
    fskService idx at_ s = showGate (repliesHanded (slotStarted d idx at_ s)) := by
  have hrun : runArg (slotStarted d idx at_ s) = 2 := harg
  unfold fskService
  simp only [slotBegin_starts h, slotStarted_fskOn, hon, hrun]
  rfl

/-! ### PUB_SERVICE (R274) -/

theorem pubService_noStream {k : PubTick} {ks : List PubTick} {s : State} (h : s.pub.ticks = k :: ks) (hno : streamsOn (cfgOf k.cfg) = []) :
    pubService s = { s with pub.served := true } := by
  simp only [pubService, h, hno, List.flatMap_nil, List.foldl_nil]

theorem pubService_noSample {s : State} (h : s.pub.ticks = []) : pubService s = s := by simp only [pubService, h]

/-! ### REC_SERVICE (R435, R438) -/

@[simp] theorem areaOf_setArea (a : Nat) (x : RecArea) (s : State) : areaOf (setArea a x s) a = x := by
  unfold areaOf setArea
  split <;> rfl

theorem setArea_frame (a : Nat) (x : RecArea) (s : State) : setArea a x s = { s with stor := (setArea a x s).stor } := by
  unfold setArea
  split <;> rfl

theorem setArea_job (a : Nat) (x : RecArea) (s : State) : (setArea a x s).stor.job = s.stor.job ∧ (setArea a x s).stor.waits = s.stor.waits := by
  unfold setArea
  split <;> exact ⟨rfl, rfl⟩

/-- Where no word has an error the words of an entry are read without a trace, and the job keeps its place. -/
theorem entryWords_clean {s : State} (hclean : NoEccErrors s) (n i : Nat) (j : ArchJob) (acc : List Word) :
    ∃ j' ws, entryWords n i j s acc = (j', s, ws) ∧ j'.area = j.area ∧ j'.held = j.held ∧ j'.off = j.off := by
  obtain ⟨hecc, hflip⟩ := hclean
  induction n generalizing i j acc with
  | zero => exact ⟨j, _, rfl, rfl, rfl, rfl⟩
  | succ n ih =>
    unfold entryWords
    split
    · exact ih _ _ _
    · rename_i addr haddr
      have hread : ∃ w, (if inPoweredSram s addr 4 then memRead addr s else (s, none)) = (s, w) := by
        split
        · exact ⟨_, memRead_clean (by rw [hecc]; rfl) fun _ => hflip⟩
        · exact ⟨_, rfl⟩
      obtain ⟨w, hw⟩ := hread
      rw [hw]
      exact ih _ _ _

theorem showQueue_regsOnly (s : State) : RegsOnly s (showQueue s) := ((RegsOnly.refl s).put _ _).put _ _

theorem showRec_regsOnly (s : State) : RegsOnly s (showRec s) := by
  unfold showRec
  extract_lets s₁ s₂ s₃
  have h₁ : RegsOnly s s₁ := (RegsOnly.refl s).putB _ _
  have h₂ : RegsOnly s s₂ := (h₁.putB _ _).putB _ _
  have h₃ : RegsOnly s s₃ := h₂.putB _ _
  exact (h₃.put _ _).put _ _

/-- The next chunk of an entry joins the queue; the job goes on. -/
theorem archChunk_clean {j : ArchJob} {s : State} (hclean : NoEccErrors s) (hj : s.stor.job = some j) :
    ∃ (j' : ArchJob) (c : NvmChunk), RegsOnly { s with stor.job := some j', nvm.queue := s.nvm.queue ++ [c] } (archChunk s)
      ∧ j'.area = j.area ∧ j'.held = j.held ∧ j'.off = j.off ∧ c.kind = 5 ∧ c.addr = (partBase 6).1 + j.off + j.pos := by
  obtain ⟨j', ws, hwords, harea, hheld, hoff⟩ := entryWords_clean hclean (min 4096 (j.len - j.pos) / 4) (j.pos / 4) j []
  unfold archChunk
  simp only [hj, hwords]
  exact ⟨_, _, showQueue_regsOnly _, harea, hheld, hoff, rfl, rfl⟩

theorem takeSpace_frame (off len : Nat) (s : State) : ∃ es, RegsOnly { s with stor.entries := es } (takeSpace off len s) := ⟨_, (RegsOnly.refl _).bump _ _⟩

/-- The job of the entry of area `a` that goes to the write position. -/
def entryJob (a : Nat) (h : RecHeld) (s : State) : ArchJob := { area := a, held := { h with queued := true }, off := s.stor.wpos, len := entryLen h.rows h.rw }

/-- The state in which the first chunk of that entry is read: its space is taken, and its area handed over. -/
def entryBegun (a : Nat) (h : RecHeld) (s : State) : State :=
  let u := takeSpace s.stor.wpos (entryLen h.rows h.rw) s
  setArea a { areaOf u a with held := some { h with queued := true } } { u with stor.job := some (entryJob a h s) }

/-- An entry that fits before the end of ARCHIVE goes to the write position (R439). -/
theorem archStart_fits {a : Nat} {h : RecHeld} {s : State} (hfit : s.stor.wpos + entryLen h.rows h.rw ≤ archSize) :
    archStart a h s = archChunk (entryBegun a h s) := by
  have hwraps : decide (archSize < s.stor.wpos + entryLen h.rows h.rw) = false := decide_eq_false (Nat.not_lt.mpr hfit)
  unfold archStart
  simp only [hwraps, Bool.false_eq_true, if_false]
  rfl

theorem entryBegun_frame (a : Nat) (h : RecHeld) (s : State) :
    entryBegun a h s = { s with stor := (entryBegun a h s).stor, regs := (entryBegun a h s).regs, eff := (entryBegun a h s).eff } := by
  obtain ⟨es, r, e, hspace⟩ := takeSpace_frame s.stor.wpos (entryLen h.rows h.rw) s
  rw [entryBegun, hspace, setArea_frame]

theorem entryBegun_job (a : Nat) (h : RecHeld) (s : State) : (entryBegun a h s).stor.job = some (entryJob a h s) := (setArea_job a _ _).1

theorem entryBegun_held (a : Nat) (h : RecHeld) (s : State) : (areaOf (entryBegun a h s) a).held = some { h with queued := true } := by
  rw [entryBegun, areaOf_setArea]

/-- The areas are those of `stor`, whatever else changes; the job of the writer is none of them. -/
theorem areaOf_stor {s t : State} (h0 : t.stor.area0 = s.stor.area0) (h1 : t.stor.area1 = s.stor.area1) (a : Nat) : areaOf t a = areaOf s a := by
  unfold areaOf
  rw [h0, h1]

/-- An entry that begins: its job, its first chunk, and its area, which has been handed over (R435, R438). -/
theorem archStart_begins {a : Nat} {h : RecHeld} {s : State} (hclean : NoEccErrors s) (hfit : s.stor.wpos + entryLen h.rows h.rw ≤ archSize) :
    ∃ (j : ArchJob) (c : NvmChunk), (archStart a h s).stor.job = some j ∧ j.area = a ∧ j.held.recno = h.recno ∧ j.off = s.stor.wpos
      ∧ (archStart a h s).nvm.queue = s.nvm.queue ++ [c] ∧ c.kind = 5 ∧ c.addr = (partBase 6).1 + s.stor.wpos
      ∧ (areaOf (archStart a h s) a).held = some { h with queued := true } ∧ (archStart a h s).mem = s.mem ∧ (archStart a h s).plan = s.plan
      ∧ (archStart a h s).dma = s.dma ∧ (archStart a h s).flt = s.flt := by
  have hframe := entryBegun_frame a h s
  have hjob := entryBegun_job a h s
  have hheld := entryBegun_held a h s
  rw [archStart_fits hfit]
  generalize entryBegun a h s = u at *
  have hcleanU : NoEccErrors u := by rw [hframe]; exact hclean
  obtain ⟨j, c, ⟨r, e, hchunk⟩, harea, hjheld, hoff, hkind, haddr⟩ := archChunk_clean hcleanU hjob
  have harea' : areaOf (archChunk u) a = areaOf u a := areaOf_stor (by rw [hchunk]) (by rw [hchunk]) a
  rw [harea', hchunk]
  refine ⟨j, c, rfl, harea, by rw [hjheld]; rfl, hoff, ?_, hkind, haddr, hheld, ?_, ?_, ?_, ?_⟩
  all_goals rw [hframe]

/-- REC_SERVICE begins the entry of the record that is handed over. -/
theorem recService_begins {a : Nat} {h : RecHeld} {s : State} (hon : archOn s = true) (hidx : s.flag F.REC_STAT_INDEX_READY = true) (hjob : s.stor.job = none)
    (hover : handOver s = some (a, h)) : recService s = showRec (archStart a h s) := by
  simp [recService, hon, hidx, hjob, hover]

/-- While an entry is written the area that is handed over waits (R435). -/
def areaWaits (a : Nat) (h : RecHeld) (s : State) : State :=
  setArea a { areaOf s a with held := some { h with queued := true } } { s with stor.waits := some a }

theorem recService_waits {a : Nat} {h : RecHeld} {s : State} (hon : archOn s = true) (hidx : s.flag F.REC_STAT_INDEX_READY = true) (hjob : s.stor.job ≠ none)
    (hover : handOver s = some (a, h)) : recService s = areaWaits a h s := by
  simp [recService, hon, hidx, hjob, hover, areaWaits]

theorem archOn_of_flags {s : State} (hen : s.flag F.REC_ROW_ARCH_EN = true) (hret : s.flag F.REC_STAT_RETIRED = false) : archOn s = true := by simp [archOn, hen, hret]

/-- Settles O20: each slot begins (`slotStarted`), does the one thing its action says, and its command ends quietly. -/
theorem serviceSlots : Obligations.ServiceSlots := by
  intro s idx at_ d h
  refine ⟨?_, ?_, ?_, ?_, ?_, ?_, ?_⟩
  · intro hst hon harg hrx hknown
    exact act_started h hst (fskService_rxh hst hon harg hrx hknown) rfl rfl rfl
  · intro hst hon harg
    have hframe := (showGate_shows (repliesHanded (slotStarted d idx at_ s))).frame
    have hfsk := showGate_fsk (repliesHanded (slotStarted d idx at_ s))
    have heff := fskService_txh hst hon harg
    generalize showGate (repliesHanded (slotStarted d idx at_ s)) = t at *
    exact ⟨t, act_started h hst heff (by rw [hframe]; rfl) (by rw [hframe]; rfl) (by rw [hframe]; rfl), by rw [hfsk]; rfl, by rw [hfsk]; rfl, by rw [hfsk]; rfl,
      by rw [hframe]; rfl⟩
  · intro hst hoff
    exact act_started h hst (fskService_off hst hoff) rfl rfl rfl
  · intro k ks hst hticks hno
    exact act_started h hst ((slotDo_starts _ hst).trans (pubService_noStream hticks hno)) rfl rfl rfl
  · intro hst hticks
    exact act_started h hst ((slotDo_starts _ hst).trans (pubService_noSample hticks)) rfl rfl rfl
  · intro a r hst hclean hen hret hjob hidx hover hfit
    obtain ⟨j, c, hj, harea, hrecno, hoff, hqueue, hkind, haddr, hheld, hmem, hplan, hdma, hflt⟩ := archStart_begins (s := slotStarted d idx at_ s) (a := a) hclean hfit
    have heff := (slotDo_starts recService hst).trans (recService_begins (archOn_of_flags hen hret) hidx hjob hover)
    generalize archStart a r (slotStarted d idx at_ s) = u at *
    have hframe := (showRec_regsOnly u).frame
    generalize showRec u = t at *
    have hareas : areaOf t a = areaOf u a := areaOf_stor (by rw [hframe]) (by rw [hframe]) a
    refine ⟨t, j, c, act_started h hst heff ?_ ?_ ?_, ?_, harea, hrecno, hoff, ?_, hkind, haddr, hareas ▸ hheld, ?_⟩
    all_goals rw [hframe]
    exacts [hplan, hdma, hflt, hj, hqueue, hmem]
  · intro a r hst hen hret hjob hidx hover
    have heff := (slotDo_starts recService hst).trans (recService_waits (archOn_of_flags hen hret) hidx hjob hover)
    have hframe : areaWaits a r (slotStarted d idx at_ s) = { slotStarted d idx at_ s with stor := (areaWaits a r (slotStarted d idx at_ s)).stor } := by
      rw [areaWaits, setArea_frame]
    obtain ⟨hkeeps, hwaits⟩ := setArea_job a { areaOf (slotStarted d idx at_ s) a with held := some { r with queued := true } } { slotStarted d idx at_ s with stor.waits := some a }
    have hheld : (areaOf (areaWaits a r (slotStarted d idx at_ s)) a).held = some { r with queued := true } := by rw [areaWaits, areaOf_setArea]
    exact ⟨_, act_started h hst heff (by rw [hframe]) (by rw [hframe]; rfl) (by rw [hframe]; rfl), hwaits, hkeeps, hheld, hframe⟩

end Sys2Proof.Machine
end

section
/-! Received frames: the checks of R250 in order, the queues behind them, and the PTP messages that are dropped at once (chapter 07). Settles O37. -/

namespace Sys2Proof.Machine

/-! ### Commands of the link -/

/-- From `s` to `t` only register words, the link, the tick engine and the Almanac's image change. -/
def LinkOnly (s t : State) : Prop := ∃ r e l k a, t = { s with regs := r, eff := e, link := l, tick := k, alm := a }

theorem LinkOnly.undisturbed {s t : State} : LinkOnly s t → Undisturbed s t := by
  rintro ⟨_, _, _, _, _, rfl⟩
  exact ⟨rfl, rfl, rfl, rfl, rfl, rfl, rfl⟩

/-- A command whose effect changes register words, the link, the tick engine and the Almanac's image only. -/
theorem act_link {f : State → State} {s t : State} (h : Ready s) (hf : f s = t) (ht : LinkOnly s t) : act f s = .next t := act_undisturbed h hf ht.undisturbed

/-! ### Checks 1 to 5 (R250) -/

/-- Frames are received in RUN, and no injection breaks one (R62). -/
structure Receives (s : State) : Prop where
  up : linkUp s = true
  run : pstate s = 0
  noInj : s.armedAt 0x15 1 = false

theorem macFrameRx_dropped {f : MacFrame} {s u : State} (h : macChecks f s = (u, false)) : macFrameRx f s = u := by simp only [macFrameRx, h]

theorem Receives.macFrameRx_queued {f : MacFrame} {s u : State} (hs : Receives s) (h : macChecks f s = (u, true)) : macFrameRx f s = afterQueued f u := by
  simp [macFrameRx, h, hs.run]

/-- A frame that a check drops is counted there, and nothing else changes. -/
theorem exec_macFrameRx_counted {f : MacFrame} {s : State} {c : Fld} (h : Ready s) (hc : macChecks f s = (s.bump c, false)) :
    exec (.macFrameRx f) s = .next (s.bump c) :=
  act_undisturbed h (macFrameRx_dropped hc) ((RegsOnly.refl s).bump c 1).undisturbed

/-- The frame passes the checks of R250 that look at the frame alone: FCS, length, destination, VLAN and EtherType. -/
structure PassesFilters (f : MacFrame) (s : State) : Prop where
  fcs : f.fcsOk = true
  least : 64 ≤ f.len
  most : f.len ≤ 1522
  dst : dstPasses s f.dst = true
  vlan : vlanPasses s f.vlan = true
  notSv : f.etherType ≠ 0x88BA
  notGoose : f.etherType ≠ 0x88B8
  type : typePasses s f.etherType = true

/-! ### The rate of the source, and the queues (R252–R255) -/

/-- The buckets of the source addresses are `bs`. -/
def withBuckets (bs : List Bucket) (s : State) : State := { s with link.buckets := bs }

theorem sourceRate_frame (src : Nat) (s : State) : ∃ bs, (sourceRate src s).1 = withBuckets bs s := by
  unfold sourceRate
  split
  split <;> exact ⟨_, rfl⟩

theorem sourceDrop_frame (src : Nat) (s : State) : sourceDrop src s = { s with regs := (sourceDrop src s).regs, link.sinceDrop := 0 } := by
  unfold sourceDrop
  extract_lets first u
  cases first <;> rfl

theorem PassesFilters.macChecks_admitted {f : MacFrame} {s : State} (hf : PassesFilters f s) (hs : Receives s) (hrate : (sourceRate f.src s).2 = true) :
    macChecks f s = rateAndQueue f (sourceRate f.src s).1 := by
  obtain ⟨hfcs, hleast, hmost, hdst, hvlan, hsv, hgoose, htype⟩ := hf
  generalize hx : sourceRate f.src s = x at hrate
  obtain ⟨u, b⟩ := x
  simp [macChecks, hs.up, hs.noInj, hfcs, Nat.not_lt.mpr hleast, Nat.not_lt.mpr hmost, hdst, hvlan, hsv, hgoose, htype, hx, show b = true from hrate]

theorem PassesFilters.macChecks_flooded {f : MacFrame} {s : State} (hf : PassesFilters f s) (hs : Receives s) (hrate : (sourceRate f.src s).2 = false) :
    macChecks f s = (sourceDrop f.src (sourceRate f.src s).1, false) := by
  obtain ⟨hfcs, hleast, hmost, hdst, hvlan, hsv, hgoose, htype⟩ := hf
  generalize hx : sourceRate f.src s = x at hrate
  obtain ⟨u, b⟩ := x
  simp [macChecks, hs.up, hs.noInj, hfcs, Nat.not_lt.mpr hleast, Nat.not_lt.mpr hmost, hdst, hvlan, hsv, hgoose, htype, hx, show b = false from hrate]

/-- The frame has joined the PTP queue. -/
def ptpQueued (f : MacFrame) (s : State) : State := { s with link.ptpQ := s.link.ptpQ ++ [f] }.bump F.MAC_CNT_OK_RX

/-- The global bucket holds `n`. -/
def withTokens (n : Nat) (s : State) : State := { s with link.gtok := n }

theorem withTokens_genQ (n : Nat) (s : State) : (withTokens n s).link.genQ = s.link.genQ := rfl

/-- The frame has joined the receive queue, with `n` left in the global bucket. -/
def genQueued (f : MacFrame) (n : Nat) (s : State) : State := { withTokens n s with link.genQ := (withTokens n s).link.genQ ++ [f] }.bump F.MAC_CNT_OK_RX

theorem rateAndQueue_ptp {f : MacFrame} {s : State} (ht : f.etherType = 0x88F7) (hlen : s.link.ptpQ.length < 4) : rateAndQueue f s = (ptpQueued f s, true) := by
  simp [rateAndQueue, ht, Nat.not_le.mpr hlen, ptpQueued]

theorem rateAndQueue_ptpFull {f : MacFrame} {s : State} (ht : f.etherType = 0x88F7) (hlen : 4 ≤ s.link.ptpQ.length) :
    rateAndQueue f s = ((s.bump F.MAC_CNT_Q_PTPQ).raise E.MAC_QFULL, false) := by
  simp [rateAndQueue, ht, hlen]

theorem rateAndQueue_gen {f : MacFrame} {s : State} (ht : f.etherType ≠ 0x88F7) (htok : 28800 ≤ s.link.gtok) (hlen : s.link.genQ.length < 16) :
    rateAndQueue f s = (genQueued f (s.link.gtok - 28800) s, true) := by
  have hstep : rateAndQueue f s = if 16 ≤ (withTokens (s.link.gtok - 28800) s).link.genQ.length
      then (((withTokens (s.link.gtok - 28800) s).bump F.MAC_CNT_Q_QFULL).raise E.MAC_QFULL, false) else (genQueued f (s.link.gtok - 28800) s, true) := by
    unfold rateAndQueue
    rw [if_neg ht, if_neg (Nat.not_lt.mpr htok)]
    rfl
  rw [hstep, withTokens_genQ, if_neg (Nat.not_le.mpr hlen)]

/-! ### A frame that has just been queued (R259, R325) -/

theorem ptpDrops_none {s : State} {dst : Nat} {p : Payload} {m : PtpMsg} (hp : p = .ptp (s.get F.PTP_CFG_DOMAIN) m) (he : m ≠ .endToEnd) (ho : m ≠ .other)
    (ha : ptpAddr dst m = true) : ptpDrops s dst p = none := by
  cases m <;> simp_all [ptpDrops]

theorem ptpDrops_some {s : State} {dst d : Nat} {p : Payload} {m : PtpMsg} (hp : p = .ptp d m)
    (h : d ≠ s.get F.PTP_CFG_DOMAIN ∨ m = .endToEnd ∨ m = .other ∨ ptpAddr dst m = false) : ∃ c, ptpDrops s dst p = some c ∧ c.rws = false := by
  subst hp
  by_cases hd : d = s.get F.PTP_CFG_DOMAIN
  · cases m <;> simp_all [ptpDrops]
  · simp [ptpDrops, hd]

theorem afterQueued_ptp {f : MacFrame} {s : State} (ht : f.etherType = 0x88F7) (hd : ptpDrops s f.dst f.payload = none) : afterQueued f s = s := by
  simp [afterQueued, ht, hd]

/-- A PTP message that R259 drops has left the queue again. -/
theorem afterQueued_ptpDropped {f : MacFrame} {s : State} {c : Fld} (ht : f.etherType = 0x88F7) (hd : ptpDrops (ptpQueued f s) f.dst f.payload = some c) :
    afterQueued f (ptpQueued f s) = (s.bump F.MAC_CNT_OK_RX).bump c := by
  have hq : (ptpQueued f s).link.ptpQ.dropLast = s.link.ptpQ := by simp [ptpQueued]
  simp only [afterQueued, ht, hd, hq, if_true]
  rfl

/-- An ARP request waits in the receive queue, and tells of no neighbour. -/
theorem afterQueued_arp {f : MacFrame} {s : State} {v ip : Nat} (ht : f.etherType ≠ 0x88F7) (hp : f.payload = .arpRequest v ip) : afterQueued f s = s := by
  simp [afterQueued, ht, learnFrom, resolves, unsupported, unknownOp, hp]

theorem ptpQueued_domain (f : MacFrame) (s : State) : (ptpQueued f s).get F.PTP_CFG_DOMAIN = s.get F.PTP_CFG_DOMAIN :=
  State.get_put_ne _ _ _ _ (by decide)

/-- A PTP message of another domain or kind, or at another address, leaves nothing in the queue, whether the source's rate, a full queue or R259 drops it. -/
theorem PassesFilters.macFrameRx_ptpDropped {f : MacFrame} {s : State} {d : Nat} {m : PtpMsg} (hf : PassesFilters f s) (hs : Receives s) (ht : f.etherType = 0x88F7)
    (hp : f.payload = .ptp d m) (hd : d ≠ s.get F.PTP_CFG_DOMAIN ∨ m = .endToEnd ∨ m = .other ∨ ptpAddr f.dst m = false) :
    ∃ r bs n, macFrameRx f s = { s with regs := r, link.buckets := bs, link.sinceDrop := n } := by
  obtain ⟨bs, hbs⟩ := sourceRate_frame f.src s
  cases hrate : (sourceRate f.src s).2 with
  | false =>
    have hchecks := hf.macChecks_flooded hs hrate
    rw [hbs] at hchecks
    exact ⟨_, bs, _, (macFrameRx_dropped hchecks).trans (sourceDrop_frame _ _)⟩
  | true =>
    have hchecks := hf.macChecks_admitted hs hrate
    rw [hbs] at hchecks
    by_cases hfull : 4 ≤ s.link.ptpQ.length
    · exact ⟨_, bs, _, macFrameRx_dropped (hchecks.trans (rateAndQueue_ptpFull ht hfull))⟩
    · rw [rateAndQueue_ptp (s := withBuckets bs s) ht (Nat.lt_of_not_le hfull)] at hchecks
      obtain ⟨c, hc, hrws⟩ := ptpDrops_some (s := ptpQueued f (withBuckets bs s)) (dst := f.dst) hp (by rwa [ptpQueued_domain])
      have hshows : Shows [F.MAC_CNT_OK_RX, c] (withBuckets bs s) (((withBuckets bs s).bump F.MAC_CNT_OK_RX).bump c) :=
        ((Shows.refl _ _).bump _ (by simp) rfl).bump _ (by simp) hrws
      exact ⟨_, bs, _, (hs.macFrameRx_queued hchecks).trans ((afterQueued_ptpDropped ht hc).trans hshows.frame)⟩

/-- Settles O37: each branch of the checks of R250, with what becomes of a PTP message and of an ARP request that have passed them. -/
theorem receiveFilters : Obligations.ReceiveFilters := by
  intro s f h hup hrun hinj
  have hs : Receives s := ⟨hup, hrun, hinj⟩
  refine ⟨?_, ?_, fun hfcs hleast hmost => ?_⟩
  · intro hfcs
    exact exec_macFrameRx_counted h (by simp [macChecks, hup, hinj, hfcs])
  · intro hfcs hlen
    exact exec_macFrameRx_counted h (by simp [macChecks, hup, hinj, hfcs, hlen])
  have hleast' : ¬ f.len < 64 := Nat.not_lt.mpr hleast
  have hmost' : ¬ 1522 < f.len := Nat.not_lt.mpr hmost
  refine ⟨?_, ?_, ?_, ?_, ?_, ?_, ?_⟩
  · intro hdst
    exact exec_macFrameRx_counted h (by simp [macChecks, hup, hinj, hfcs, hleast', hmost', hdst])
  · intro hdst hvlan
    exact exec_macFrameRx_counted h (by simp [macChecks, hup, hinj, hfcs, hleast', hmost', hdst, hvlan])
  · intro hdst hvlan htype
    exact exec_macFrameRx_counted h (by simp [macChecks, hup, hinj, hfcs, hleast', hmost', hdst, hvlan, htype])
  · intro hdst hvlan hsv hgoose htype
    exact exec_macFrameRx_counted h (by simp [macChecks, hup, hinj, hfcs, hleast', hmost', hdst, hvlan, hsv, hgoose, htype])
  · intro m hdst hvlan htype hrate hlen hp he ho ha
    have hf : PassesFilters f s := ⟨hfcs, hleast, hmost, hdst, hvlan, by simp [htype], by simp [htype], by simp [typePasses, htype]⟩
    obtain ⟨bs, hbs⟩ := sourceRate_frame f.src s
    have hchecks := hf.macChecks_admitted hs hrate
    rw [hbs, rateAndQueue_ptp (s := withBuckets bs s) htype hlen] at hchecks
    have heff := (hs.macFrameRx_queued hchecks).trans (afterQueued_ptp htype (ptpDrops_none (hp.trans (by rw [ptpQueued_domain]; rfl)) he ho ha))
    exact ⟨_, act_link h heff ⟨_, _, _, _, _, rfl⟩, rfl, rfl, State.get_bump_same _ _ (by decide) (by decide), rfl⟩
  · intro d m hdst hvlan htype hp hd
    have hf : PassesFilters f s := ⟨hfcs, hleast, hmost, hdst, hvlan, by simp [htype], by simp [htype], by simp [typePasses, htype]⟩
    obtain ⟨r, bs, n, heff⟩ := hf.macFrameRx_ptpDropped hs htype hp hd
    exact ⟨_, act_link h heff ⟨_, _, _, _, _, rfl⟩, rfl, rfl⟩
  · intro v ip hdst hvlan htype hpass hrate htok hlen hp
    have hf : PassesFilters f s := ⟨hfcs, hleast, hmost, hdst, hvlan, by simp [htype], by simp [htype], by rwa [htype]⟩
    have hne : f.etherType ≠ 0x88F7 := by simp [htype]
    obtain ⟨bs, hbs⟩ := sourceRate_frame f.src s
    have hchecks := hf.macChecks_admitted hs hrate
    rw [hbs, rateAndQueue_gen (s := withBuckets bs s) hne htok hlen] at hchecks
    have heff := (hs.macFrameRx_queued hchecks).trans (afterQueued_arp hne hp)
    exact ⟨_, act_link h heff ⟨_, _, _, _, _, rfl⟩, rfl, Nat.sub_add_cancel htok, rfl, rfl⟩

end Sys2Proof.Machine
end

section
/-! PTP messages and their effect: measurements, the masters and their selection, and the peer delay (R259–R265). Settles O38. -/

namespace Sys2Proof.Machine

/-! ### Two's-complement fields -/

theorem toCode_eq_emod (n : Nat) (x : Int) : ((toCode n x : Nat) : Int) = x % 2 ^ n := Int.toNat_of_nonneg (Int.emod_nonneg _ (by positivity))

theorem toCode_lt (n : Nat) (x : Int) : toCode n x < 2 ^ n := by
  have hlt := Int.emod_lt_of_pos x (b := 2 ^ n) (by positivity)
  rw [← toCode_eq_emod] at hlt
  exact_mod_cast hlt

/-- A number in the range of `n` bits is what its code stands for. -/
theorem signed_toCode {n : Nat} {x : Int} (hn : 0 < n) (hlo : -(2 ^ (n - 1)) ≤ x) (hhi : x < 2 ^ (n - 1)) : signed n (toCode n x) = x := by
  obtain ⟨k, rfl⟩ : ∃ k, n = k + 1 := ⟨n - 1, by omega⟩
  rw [Nat.add_sub_cancel] at hlo hhi
  have hcode : ((toCode (k + 1) x : Nat) : Int) = if x < 0 then x + 2 ^ (k + 1) else x := by
    rw [toCode_eq_emod]
    split
    · rw [← Int.add_emod_right, Int.emod_eq_of_lt] <;> rw [pow_succ] <;> omega
    · exact Int.emod_eq_of_lt (by omega) (by rw [pow_succ]; omega)
  have hneg : 2 ^ k ≤ toCode (k + 1) x ↔ x < 0 := by
    zify
    rw [hcode, pow_succ]
    split <;> omega
  rw [signed, Nat.mod_eq_of_lt (toCode_lt _ _), Nat.add_sub_cancel]
  by_cases h : x < 0
  · rw [if_pos (hneg.mpr h), hcode, if_pos h, add_sub_cancel_right]
  · rw [if_neg (mt hneg.mp h), hcode, if_neg h]

/-- A two's-complement field that is set within its range reads back its value. -/
theorem State.getI_putI_same (s : State) (f : Fld) {x : Int} (h : f.lo ≤ f.hi) (h' : f.hi < 32) (hlo : -(2 ^ (f.hi + 1 - f.lo - 1)) ≤ x)
    (hhi : x < 2 ^ (f.hi + 1 - f.lo - 1)) : (s.putI f x).getI f = x := by
  have hclamp : clampInt (-(2 ^ (f.hi + 1 - f.lo - 1))) (2 ^ (f.hi + 1 - f.lo - 1) - 1) x = x := by
    rw [clampInt, if_neg (by omega), if_neg (by omega)]
  simp only [State.getI, State.putI, hclamp]
  rw [State.get_put_same _ _ _ h h', Nat.mod_eq_of_lt (toCode_lt _ _), signed_toCode (by omega) hlo hhi]

theorem KeepsBut.getI {gs : List Fld} {s t : State} (h : KeepsBut gs s t) (f : Fld) (hf : ∀ g ∈ gs, Clear g f) : t.getI f = s.getI f :=
  congrArg (signed (f.hi + 1 - f.lo)) (h f hf)

/-! ### What an operation of the link may change -/

/-- From `s` to `t` only words at normal addresses and the link change. -/
def LinkRegs (s t : State) : Prop := ∃ r l, t = { s with regs := r, link := l }

theorem LinkRegs.refl (s : State) : LinkRegs s s := ⟨_, _, rfl⟩

theorem LinkRegs.trans {s t u : State} : LinkRegs s t → LinkRegs t u → LinkRegs s u := by
  rintro ⟨_, _, rfl⟩ ⟨_, _, rfl⟩
  exact ⟨_, _, rfl⟩

theorem LinkRegs.frame {s t : State} : LinkRegs s t → t = { s with regs := t.regs, link := t.link } := by
  rintro ⟨_, _, rfl⟩
  rfl

theorem LinkRegs.linkOnly {s t : State} : LinkRegs s t → LinkOnly s t := by
  rintro ⟨_, _, rfl⟩
  exact ⟨_, _, _, _, _, rfl⟩

theorem linkRegs_link (s : State) (l : Link) : LinkRegs s { s with link := l } := ⟨_, _, rfl⟩

/-- From `s` to `t` only words at normal addresses and the link change, and every field keeps its value that is clear of the fields listed. -/
structure LinkShows (gs : List Fld) (s t : State) : Prop where
  only : LinkRegs s t
  keeps : KeepsBut gs s t

theorem LinkShows.refl (gs : List Fld) (s : State) : LinkShows gs s s := ⟨.refl s, .refl gs s⟩

theorem LinkShows.trans {gs : List Fld} {s t u : State} (h : LinkShows gs s t) (k : LinkShows gs t u) : LinkShows gs s u :=
  ⟨h.only.trans k.only, h.keeps.trans k.keeps⟩

theorem LinkShows.mono {gs hs : List Fld} {s t : State} (h : LinkShows gs s t) (hsub : gs ⊆ hs) : LinkShows hs s t := ⟨h.only, h.keeps.mono hsub⟩

theorem Shows.linkShows {gs : List Fld} {s t : State} (h : Shows gs s t) : LinkShows gs s t := ⟨⟨_, _, h.frame⟩, h.keeps⟩

theorem linkShows_link (gs : List Fld) (s : State) (l : Link) : LinkShows gs s { s with link := l } := ⟨⟨_, _, rfl⟩, (KeepsBut.refl gs s).words rfl rfl⟩

theorem Shows.link {gs : List Fld} {s t : State} (h : Shows gs s t) : t.link = s.link := by rw [h.frame]

/-- A command of the link whose effect changes words at normal addresses and the link only. -/
theorem act_linkRegs {f : State → State} {s t : State} (h : Ready s) (hf : f s = t) (ht : LinkRegs s t) : act f s = .next t := act_link h hf ht.linkOnly

/-! ### Measurements (R260, R263, R265) -/

/-- The offset `off` is shown as a measurement. -/
def offsetShown (off : Int) (s : State) : State := (s.putI F.PTP_OFFSET_NS off).putB F.PTP_STAT_MEAS_OK true

/-- PTP is a reference of now. -/
def justMeasured (s : State) : State := { s with link.up := true, link.sinceMeas := 0 }

/-- The time of day has still to lose `e` of 1/288 ns. -/
def withSlew (e : Int) (s : State) : State := { s with link.todErr := e }

/-- What the slew of the time of day has to remove after an offset: the offset where PTP is the source in use. -/
def slewAfter (off : Int) (s : State) : Int := if s.get F.TICK_STAT_SRC = 2 then off * 288 else s.link.todErr

/-- The offset `off` is measured, and the servo has taken it over. -/
def servoed (off : Int) (s : State) : State := withSlew (slewAfter off s) (justMeasured (offsetShown off s))

theorem justMeasured_get (s : State) (f : Fld) : (justMeasured s).get f = s.get f := rfl
theorem justMeasured_flag (s : State) (f : Fld) : (justMeasured s).flag f = s.flag f := rfl
theorem justMeasured_linkRegs (s : State) : LinkRegs s (justMeasured s) := ⟨_, _, rfl⟩
theorem withSlew_get (e : Int) (s : State) (f : Fld) : (withSlew e s).get f = s.get f := rfl
theorem withSlew_linkRegs (e : Int) (s : State) : LinkRegs s (withSlew e s) := ⟨_, _, rfl⟩

theorem offsetShown_shows (off : Int) (s : State) : Shows [F.PTP_OFFSET_NS, F.PTP_STAT_MEAS_OK] s (offsetShown off s) :=
  ((Shows.refl _ s).put F.PTP_OFFSET_NS _ (by simp) rfl).putB F.PTP_STAT_MEAS_OK true (by simp) rfl

theorem offsetShown_offset {off : Int} (s : State) (hlo : -1000000 ≤ off) (hhi : off ≤ 1000000) : (offsetShown off s).getI F.PTP_OFFSET_NS = off :=
  (((KeepsBut.refl [F.PTP_STAT_MEAS_OK] (s.putI F.PTP_OFFSET_NS off)).putB _ true (by simp)).getI _ (by decide)).trans
    (State.getI_putI_same _ _ (by decide) (by decide) (by norm_num; omega) (by norm_num; omega))

theorem slewAfter_justMeasured (off : Int) (s : State) : slewAfter off (justMeasured s) = slewAfter off s := rfl

theorem slewAfter_offsetShown (off : Int) (s : State) : slewAfter off (offsetShown off s) = slewAfter off s := by
  rw [slewAfter, slewAfter, (offsetShown_shows off s).keeps F.TICK_STAT_SRC (by decide), (offsetShown_shows off s).link]

theorem servoed_get (off : Int) (s : State) (f : Fld) : (servoed off s).get f = (offsetShown off s).get f := by
  rw [servoed, withSlew_get, justMeasured_get]

theorem servoed_linkRegs (off : Int) (s : State) : LinkRegs s (servoed off s) :=
  ((offsetShown_shows off s).linkShows.only.trans (justMeasured_linkRegs _)).trans (withSlew_linkRegs _ _)

theorem servoed_link (off : Int) (s : State) : (servoed off s).link = { s.link with up := true, sinceMeas := 0, todErr := slewAfter off s } := by
  rw [← (offsetShown_shows off s).link]
  rfl

/-- An offset within 1 ms slews the time of day, and does not step it. -/
theorem todServo_slews {off : Int} {s : State} (hlo : -1000000 ≤ off) (hhi : off ≤ 1000000) : todServo off s = withSlew (slewAfter off s) s := by
  have hnear : ¬(off < -1000000 ∨ 1000000 < off) := by omega
  rw [todServo, slewAfter, if_neg hnear]
  by_cases hsrc : s.get F.TICK_STAT_SRC = 2
  · rw [if_neg (not_not_intro hsrc), if_pos hsrc]
    rfl
  · rw [if_pos hsrc, if_neg hsrc]
    rfl

theorem ptpRef_off {s : State} (ph fr : Int) (hen : s.flag F.TICK_CFG_PTP_EN = false) : ptpRef ph fr s = s := if_neg (by simp [hen])

/-- A measurement that is no outlier, while the tick does not take PTP as a source. -/
theorem ptpMeasure_taken {t1 t2 ph fr off : Int} {s : State} (hinj : s.armedAt 0x16 1 = false) (hstate : s.get F.TICK_STAT_STATE ≠ 2)
    (hen : s.flag F.TICK_CFG_PTP_EN = false) (hoff : off = t2 / 8 * 8 - s.otp.phyRx - t1 - (s.get F.PTP_PDELAY_NS : Int) - s.getI F.PTP_ASYM_NS)
    (hlo : -1000000 ≤ off) (hhi : off ≤ 1000000) : ptpMeasure t1 t2 ph fr s = servoed off s := by
  have hkeeps := (offsetShown_shows off s).keeps
  have heff : ptpMeasure t1 t2 ph fr s = todServo off (ptpRef ph fr (justMeasured (offsetShown off s))) := by
    simp only [ptpMeasure, hinj, hstate, stamp8, ← hoff, beq_iff_eq, Bool.false_or, Bool.false_eq_true, if_false, Bool.and_eq_true, false_and]
    rfl
  rw [heff, ptpRef_off ph fr (by rw [justMeasured_flag, hkeeps.flag F.TICK_CFG_PTP_EN (by decide), hen]), todServo_slews hlo hhi,
    slewAfter_justMeasured, slewAfter_offsetShown, servoed]

/-- A command that measures, after it has taken its message from the queue and counted it. -/
theorem exec_ptpMeasure {f : State → State} {t1 t2 ph fr off : Int} {s u : State} (h : Ready s) (hf : f s = ptpMeasure t1 t2 ph fr u)
    (hu : LinkShows [F.PTP_CNT_RX_SYNC] s u) (hinj : s.armedAt 0x16 1 = false)
    (hstate : s.get F.TICK_STAT_STATE ≠ 2) (hen : s.flag F.TICK_CFG_PTP_EN = false)
    (hoff : off = t2 / 8 * 8 - s.otp.phyRx - t1 - (s.get F.PTP_PDELAY_NS : Int) - s.getI F.PTP_ASYM_NS) (hlo : -1000000 ≤ off) (hhi : off ≤ 1000000) :
    ∃ t, act f s = .next t ∧ t.getI F.PTP_OFFSET_NS = off ∧ t.flag F.PTP_STAT_MEAS_OK = true
      ∧ t.link = { u.link with up := true, sinceMeas := 0, todErr := if s.get F.TICK_STAT_SRC = 2 then off * 288 else u.link.todErr }
      ∧ t = { s with regs := t.regs, link := t.link } := by
  obtain ⟨hu, hk⟩ := hu
  have hotp : u.otp = s.otp := by rw [hu.frame]
  have hpage : u.page = s.page := by rw [hu.frame]
  have heff : f s = servoed off u := by
    refine hf.trans (ptpMeasure_taken ?_ ?_ ?_ ?_ hlo hhi)
    · rw [State.armedAt, hpage]
      exact hinj
    · rwa [hk F.TICK_STAT_STATE (by decide)]
    · rwa [hk.flag F.TICK_CFG_PTP_EN (by decide)]
    · rwa [hotp, hk F.PTP_PDELAY_NS (by decide), hk.getI F.PTP_ASYM_NS (by decide)]
  have hframe := hu.trans (servoed_linkRegs off u)
  refine ⟨_, act_linkRegs h heff hframe, ?_, ?_, ?_, hframe.frame⟩
  · rw [State.getI, servoed_get]
    exact offsetShown_offset u hlo hhi
  · rw [State.flag, servoed_get]
    exact flag_putB_same _ true rfl (by decide)
  · rw [servoed_link, slewAfter, hk F.TICK_STAT_SRC (by decide)]

/-- A Sync has left the queue and is counted. -/
def syncTaken (s : State) : State := (ptpPop s).bump F.PTP_CNT_RX_SYNC

theorem syncTaken_linkShows (s : State) : LinkShows [F.PTP_CNT_RX_SYNC] s (syncTaken s) :=
  (linkShows_link _ s _).trans ((Shows.refl _ (ptpPop s)).bump F.PTP_CNT_RX_SYNC (by simp) rfl).linkShows

theorem syncCounts_syncTaken (m : Nat) (s : State) : syncCounts m (syncTaken s) = syncCounts m s := by
  rw [syncCounts, (syncTaken_linkShows s).keeps.flag F.PTP_STAT_PD_VALID (by decide)]
  rfl

/-- The Sync `w` waits for its Follow_Up. -/
def withWait (w : Nat × Nat × Int × Int × Int × Nat) (s : State) : State := { s with link.wait := some w }

theorem withWait_link (w : Nat × Nat × Int × Int × Int × Nat) (s : State) : (withWait w s).link = { s.link with wait := some w } := rfl
theorem withWait_linkRegs (w : Nat × Nat × Int × Int × Int × Nat) (s : State) : LinkRegs s (withWait w s) := ⟨_, _, rfl⟩

theorem ptpSync_counts {m q : Nat} {two : Bool} {t1 t2 ph fr : Int} {s : State} (hhead : ptpHead s = some (.sync m q two t1 t2 ph fr)) (hc : syncCounts m s = true) :
    ptpSync s = if two then withWait (m, q, t2, ph, fr, 0) (syncTaken s) else ptpMeasure t1 t2 ph fr (syncTaken s) := by
  have hc' := (syncCounts_syncTaken m s).trans hc
  unfold syncTaken at hc'
  simp only [ptpSync, hhead, hc', Bool.not_true, Bool.false_eq_true, if_false]
  rfl

/-- A Follow_Up of the Sync that waits has left the queue with it. -/
def followUpTaken (s : State) : State := { ptpPop s with link.wait := none }

theorem ptpFollowUp_counts {m q age : Nat} {t1 t2 ph fr : Int} {s : State} (hhead : ptpHead s = some (.followUp m q t1))
    (hwait : s.link.wait = some (m, q, t2, ph, fr, age)) (hage : age ≤ 28800) (hc : syncCounts m s = true) :
    ptpFollowUp s = ptpMeasure t1 t2 ph fr (followUpTaken s) := by
  have hwait' : (ptpPop s).link.wait = some (m, q, t2, ph, fr, age) := hwait
  have hc' : syncCounts m (ptpPop s) = true := hc
  simp only [ptpFollowUp, hhead, hwait', hage, hc', and_self, if_true, followUpTaken]

theorem ptpFollowUp_none {m q : Nat} {t1 : Int} {s : State} (hhead : ptpHead s = some (.followUp m q t1)) (hwait : s.link.wait = none) :
    ptpFollowUp s = ptpPop s := by
  have hwait' : (ptpPop s).link.wait = none := hwait
  simp only [ptpFollowUp, hhead, hwait']

theorem followUpTaken_linkShows (gs : List Fld) (s : State) : LinkShows gs s (followUpTaken s) := linkShows_link gs s _

/-! ### Masters (R261) -/

/-- The foreign masters are `fs`. -/
def withForeign (fs : List Foreign) (s : State) : State := { s with link.foreign := fs }

/-- The fields that show the selected master. -/
abbrev masterFields : List Fld := [F.PTP_STAT_FOREIGN, F.PTP_STAT_GM_CLASS, F.PTP_STAT_MASTER_SEL, F.PTP_GMID_HI_HI, F.PTP_GMID_LO_LO, evtFld E.PTP_MASTER_CHANGE]

theorem showMaster_linkShows (s : State) : LinkShows masterFields s (showMaster s) := by
  unfold showMaster
  extract_lets u
  have hu : Shows masterFields s u := (Shows.refl _ s).put _ _ (by simp) rfl
  split
  · next f _ =>
    extract_lets v
    have hv : Shows masterFields v _ := ((((Shows.refl _ v).put F.PTP_STAT_GM_CLASS f.ann.gmClass (by simp) rfl).putB F.PTP_STAT_MASTER_SEL true (by simp) rfl).put
      F.PTP_GMID_HI_HI (f.ann.gmId / 2 ^ 32) (by simp) rfl).put F.PTP_GMID_LO_LO f.ann.gmId (by simp) rfl
    exact (hu.linkShows.trans (linkShows_link _ u _)).trans hv.linkShows
  · exact (hu.putB _ _ (by simp) rfl).linkShows

theorem showMaster_link (s : State) : ∃ o, (showMaster s).link = { s.link with utcOffset := o } := by
  unfold showMaster
  dsimp only
  split
  · exact ⟨_, by simp only [State.put_link, State.putB_link]; rfl⟩
  · exact ⟨s.link.utcOffset, by simp⟩

/-- The best of the foreign masters. -/
def bestSender (s : State) : Option Nat := (bestMaster s.link.foreign).map (·.ann.sender)

theorem selectMaster_eq (s : State) : selectMaster s = showMaster { s with link.sel := bestSender s }
    ∨ selectMaster s = (showMaster { s with link.sel := bestSender s }).raise E.PTP_MASTER_CHANGE := by
  unfold selectMaster
  dsimp only
  split
  · exact .inr rfl
  · exact .inl rfl

theorem selectMaster_linkShows (s : State) : LinkShows masterFields s (selectMaster s) := by
  have ht : LinkShows masterFields s (showMaster { s with link.sel := bestSender s }) := (linkShows_link _ s _).trans (showMaster_linkShows _)
  rcases selectMaster_eq s with he | he
  · rwa [he]
  · rw [he]
    exact ht.trans ((Shows.refl _ _).raise _ (by simp)).linkShows

theorem selectMaster_link (s : State) : ∃ o, (selectMaster s).link = { s.link with sel := bestSender s, utcOffset := o } := by
  obtain ⟨o, ho⟩ := showMaster_link { s with link.sel := bestSender s }
  rcases selectMaster_eq s with he | he
  · exact ⟨o, by rw [he, ho]⟩
  · exact ⟨o, by rw [he, State.raise_link, ho]⟩

/-- An Announce has left the queue and is counted, and the foreign masters are `fs`. -/
def announceTaken (fs : List Foreign) (s : State) : State := withForeign fs ((ptpPop s).bump F.PTP_CNT_RX_ANNOUNCE)

theorem announceTaken_linkShows (fs : List Foreign) (s : State) : LinkShows [F.PTP_CNT_RX_ANNOUNCE] s (announceTaken fs s) :=
  ((linkShows_link _ s _).trans ((Shows.refl _ (ptpPop s)).bump F.PTP_CNT_RX_ANNOUNCE (by simp) rfl).linkShows).trans (linkShows_link _ _ _)

theorem announceTaken_link (fs : List Foreign) (s : State) : (announceTaken fs s).link = { s.link with ptpQ := s.link.ptpQ.tail, foreign := fs } := by
  simp [announceTaken, withForeign, ptpPop]

/-- The first Announce of a master joins a list that has room. -/
theorem ptpAnnounce_new {a : Announce} {s : State} (hhead : ptpHead s = some (.announce a)) (hnew : ∀ f ∈ s.link.foreign, f.ann.sender ≠ a.sender)
    (hlen : s.link.foreign.length < 4) : ptpAnnounce s = selectMaster (announceTaken (s.link.foreign ++ [{ ann := a, ages := [0] }]) s) := by
  have hnone : s.link.foreign.find? (fun f => f.ann.sender == a.sender) = none := by simpa using hnew
  have hforeign : ((ptpPop s).bump F.PTP_CNT_RX_ANNOUNCE).link.foreign = s.link.foreign := by simp [ptpPop]
  simp only [ptpAnnounce, hhead, hforeign, hnone, hlen, if_true]
  rfl

/-! ### Peer delay (R259, R262) -/

/-- The frame has joined the transmit queue. -/
def txQueued (f : TxFrame) (s : State) : State := { s with link.tx := s.link.tx ++ [f] }

theorem queueTx_fits {f : TxFrame} {s : State} (h : f.wire ≤ s.get F.MAC_TX_GAP) : queueTx f s = txQueued f s := if_neg (Nat.not_lt.mpr h)

theorem txQueued_get (f : TxFrame) (s : State) (g : Fld) : (txQueued f s).get g = s.get g := rfl
theorem txQueued_linkShows (gs : List Fld) (f : TxFrame) (s : State) : LinkShows gs s (txQueued f s) := linkShows_link gs s _

/-- A peer delay request has left the queue and is counted. -/
def pdelayTaken (s : State) : State := (ptpPop s).bump F.PTP_CNT_PD_ANSWERED

theorem pdelayTaken_linkShows (s : State) : LinkShows [F.PTP_CNT_PD_ANSWERED] s (pdelayTaken s) :=
  (linkShows_link _ s _).trans ((Shows.refl _ (ptpPop s)).bump F.PTP_CNT_PD_ANSWERED (by simp) rfl).linkShows

theorem pdelayReqRx_answers {f : MacFrame} {d : Nat} {t2 : Int} {rest : List MacFrame} {s : State} (hq : s.link.ptpQ = f :: rest)
    (hp : f.payload = .ptp d (.pdelayReq t2)) (hgap : 92 ≤ s.get F.MAC_TX_GAP) :
    pdelayReqRx s = txQueued (ptpTx (.pdelayRespFollowUp f.dst none)) (txQueued (ptpTx (.pdelayResp f.dst (t2 / 8 * 8 - s.otp.phyRx))) (pdelayTaken s)) := by
  have hgap' : 92 ≤ (pdelayTaken s).get F.MAC_TX_GAP := by rwa [(pdelayTaken_linkShows s).keeps F.MAC_TX_GAP (by decide)]
  have hotp : (pdelayTaken s).otp = s.otp := by rw [(pdelayTaken_linkShows s).only.frame]
  have heff : pdelayReqRx s = queueTx (ptpTx (.pdelayRespFollowUp f.dst none)) (queueTx (ptpTx (.pdelayResp f.dst (t2 / 8 * 8 - (pdelayTaken s).otp.phyRx))) (pdelayTaken s)) := by
    simp only [pdelayReqRx, hq, hp]
    rfl
  rw [heff, hotp, queueTx_fits (f := ptpTx (.pdelayResp _ _)) hgap', queueTx_fits (by rwa [txQueued_get])]

/-- A peer delay request goes out. -/
def requestOut (s : State) : State := { s with link.pdOut := true, link.pdSince := 0 }

theorem pdelayReqTx_due {s : State} (hup : linkUp s = true) (hout : s.link.pdOut = false) (hgap : 92 ≤ s.get F.MAC_TX_GAP)
    (hdue : 28800 < s.link.pdSince + tickUnits s) : pdelayReqTx s = txQueued (ptpTx (.pdelayReq 0x0180C200000E)) (requestOut s) := by
  have hnot : ¬ s.link.pdSince + tickUnits s ≤ 28800 := Nat.not_le.mpr hdue
  have heff : pdelayReqTx s = queueTx (ptpTx (.pdelayReq 0x0180C200000E)) (requestOut s) := by
    simp only [pdelayReqTx, hup, hout, hnot, Bool.not_true, decide_false, Bool.or_self, Bool.false_eq_true, if_false]
    rfl
  rw [heff]
  exact queueTx_fits hgap

theorem pdelayReqTx_none {s : State} (h : linkUp s = false ∨ s.link.pdSince + tickUnits s ≤ 28800) : pdelayReqTx s = s := if_pos (by simpa using h)

/-- A response has left the queue, and the peer delays that count are `vs`. -/
def delayTaken (vs : List Nat) (s : State) : State :=
  { s with link.ptpQ := s.link.ptpQ.tail, link.pdOut := false, link.pd := vs, link.pdHist := true :: s.link.pdHist.take 2 }

theorem showPd_valid {s : State} (h : s.link.pdHist.any id = true) : showPd s = s.putB F.PTP_STAT_PD_VALID true := by simp [showPd, h]

/-- The peer delays that count once `v` is measured, and the answer that it is to the last request. -/
def delaysWith (v : Nat) (s : State) : List Nat := v :: s.link.pd.take (s.get F.PTP_CFG_PD_AVG - 1)

theorem pdelayResp_valid {t1 t4 turn d : Int} {s : State} (hhead : ptpHead s = some (.pdelayResp t1 t4 turn)) (hout : s.link.pdOut = true)
    (hd : d = (t4 / 8 * 8 - s.otp.phyRx - (t1 / 8 * 8 + s.otp.phyTx) - turn) / 2) (h0 : 0 ≤ d) (hmax : d ≤ (s.get F.PTP_PDMAX_NS : Int)) :
    pdelayResp s = showPd ((delayTaken (delaysWith d.toNat s) s).put F.PTP_PDELAY_NS ((delaysWith d.toNat s).foldl (· + ·) 0 / (delaysWith d.toNat s).length)) := by
  have hpeer : peerDelay t1 t4 turn (ptpPop s) = d := hd.symm
  have hout' : (ptpPop s).link.pdOut = true := hout
  simp only [pdelayResp, hhead, hout', hpeer, Bool.not_true, Bool.false_eq_true, if_false]
  exact if_pos ⟨h0, hmax⟩

theorem delaysWith_one {s : State} (v : Nat) (havg : s.get F.PTP_CFG_PD_AVG = 1) : delaysWith v s = [v] := by simp [delaysWith, havg]

theorem delayTaken_linkShows (gs : List Fld) (vs : List Nat) (s : State) : LinkShows gs s (delayTaken vs s) := linkShows_link gs s _

/-- The single peer delay `v` is shown as valid. -/
def delayShown (v : Nat) (s : State) : State := ((delayTaken [v] s).put F.PTP_PDELAY_NS v).putB F.PTP_STAT_PD_VALID true

theorem delayShown_link (v : Nat) (s : State) : (delayShown v s).link = (delayTaken [v] s).link := by rw [delayShown, State.putB_link, State.put_link]

theorem delayShown_linkRegs (v : Nat) (s : State) : LinkRegs s (delayShown v s) :=
  ((delayTaken_linkShows [F.PTP_PDELAY_NS, F.PTP_STAT_PD_VALID] [v] s).trans (((Shows.refl _ _).put F.PTP_PDELAY_NS v (by simp) rfl).putB _ true (by simp) rfl).linkShows).only

theorem delayShown_delay {v : Nat} (s : State) (hv : v < 2 ^ 32) : (delayShown v s).get F.PTP_PDELAY_NS = v := by
  have hkeeps : KeepsBut [F.PTP_STAT_PD_VALID] ((delayTaken [v] s).put F.PTP_PDELAY_NS v) (delayShown v s) := (KeepsBut.refl _ _).putB _ true (by simp)
  rw [hkeeps F.PTP_PDELAY_NS (by decide), State.get_put_same _ _ _ (by decide) (by decide)]
  exact Nat.mod_eq_of_lt hv

/-- Without averaging, a valid measurement is the peer delay. -/
theorem pdelayResp_single {t1 t4 turn d : Int} {s : State} (hhead : ptpHead s = some (.pdelayResp t1 t4 turn)) (hout : s.link.pdOut = true)
    (hd : d = (t4 / 8 * 8 - s.otp.phyRx - (t1 / 8 * 8 + s.otp.phyTx) - turn) / 2) (h0 : 0 ≤ d) (hmax : d ≤ (s.get F.PTP_PDMAX_NS : Int))
    (havg : s.get F.PTP_CFG_PD_AVG = 1) : pdelayResp s = delayShown d.toNat s := by
  have hhist : ((delayTaken [d.toNat] s).put F.PTP_PDELAY_NS d.toNat).link.pdHist.any id = true := by simp [delayTaken]
  rw [pdelayResp_valid hhead hout hd h0 hmax, delaysWith_one _ havg, List.foldl_cons, List.foldl_nil, Nat.zero_add, List.length_singleton, Nat.div_one,
    showPd_valid hhist, delayShown]

/-- Settles O38: each message at the head of the queue by the lemma of its kind. -/
theorem ptpMessages : Obligations.PtpMessages := by
  intro s h
  refine ⟨?_, ?_, ?_, ?_, ?_, ?_, ?_, ?_, ?_⟩
  · intro m q t1 t2 ph fr hhead hc
    have hu := syncTaken_linkShows s
    have hlink : (syncTaken s).link = (ptpPop s).link := State.bump_link _ _ _
    have ht := hu.only.trans (withWait_linkRegs (m, q, t2, ph, fr, 0) (syncTaken s))
    refine ⟨_, act_linkRegs h (ptpSync_counts hhead hc) ht, ?_, State.get_bump_same (ptpPop s) _ (by decide) (by decide), ht.frame⟩
    rw [if_pos rfl, withWait_link, hlink]
    rfl
  · intro m q t1 t2 ph fr off hhead hc hinj hstate hen hoff hlo hhi
    have hlink : (syncTaken s).link = (ptpPop s).link := State.bump_link _ _ _
    obtain ⟨t, hexec, hoffset, hok, htlink, hframe⟩ := exec_ptpMeasure h (ptpSync_counts hhead hc) (syncTaken_linkShows s) hinj hstate hen hoff hlo hhi
    rw [hlink] at htlink
    refine ⟨t, hexec, hoffset, hok, by rw [htlink], by rw [htlink], ?_, ?_, by rw [htlink]; rfl, by rw [htlink]; rfl, hframe⟩
    · intro hsrc
      rw [htlink, if_pos hsrc]
    · intro hsrc
      rw [htlink, if_neg hsrc]
      rfl
  · intro m q t1 t2 ph fr age off hhead hwait hage hc hinj hstate hen hoff hlo hhi
    obtain ⟨t, hexec, hoffset, hok, htlink, hframe⟩ :=
      exec_ptpMeasure h (ptpFollowUp_counts hhead hwait hage hc) (followUpTaken_linkShows _ s) hinj hstate hen hoff hlo hhi
    exact ⟨t, hexec, hoffset, hok, by rw [htlink], by rw [htlink]; rfl, by rw [htlink]; rfl, hframe⟩
  · intro m q t1 hhead hwait
    exact act_linkRegs h (ptpFollowUp_none hhead hwait) (linkRegs_link s _)
  · intro a hhead hnew hlen
    have hu := announceTaken_linkShows (s.link.foreign ++ [{ ann := a, ages := [0] }]) s
    have hulink := announceTaken_link (s.link.foreign ++ [{ ann := a, ages := [0] }]) s
    have hcount : (announceTaken (s.link.foreign ++ [{ ann := a, ages := [0] }]) s).get F.PTP_CNT_RX_ANNOUNCE = min 65535 (s.get F.PTP_CNT_RX_ANNOUNCE + 1) :=
      State.get_bump_same (ptpPop s) _ (by decide) (by decide)
    have heff := ptpAnnounce_new hhead hnew hlen
    generalize announceTaken (s.link.foreign ++ [{ ann := a, ages := [0] }]) s = u at *
    obtain ⟨o, hlink⟩ := selectMaster_link u
    have ht := selectMaster_linkShows u
    refine ⟨_, act_linkRegs h heff (hu.only.trans ht.only), ?_, ?_, ?_, (ht.keeps _ (by decide)).trans hcount, (hu.only.trans ht.only).frame⟩
    · rw [hlink, hulink]
    · rw [hlink]
      rfl
    · rw [hlink, hulink]
  · intro f d t2 rest hq hp hgap
    have hu := pdelayTaken_linkShows s
    have hlink : (pdelayTaken s).link = (ptpPop s).link := State.bump_link _ _ _
    have hcount : (pdelayTaken s).get F.PTP_CNT_PD_ANSWERED = min 65535 (s.get F.PTP_CNT_PD_ANSWERED + 1) := State.get_bump_same (ptpPop s) _ (by decide) (by decide)
    have heff := pdelayReqRx_answers hq hp hgap
    generalize pdelayTaken s = u at *
    have ht := (hu.trans (txQueued_linkShows _ (ptpTx (.pdelayResp f.dst (t2 / 8 * 8 - s.otp.phyRx))) u)).trans
      (txQueued_linkShows _ (ptpTx (.pdelayRespFollowUp f.dst none)) _)
    refine ⟨_, act_linkRegs h heff ht.only, ?_, hcount, ht.only.frame⟩
    simp [txQueued, hlink, ptpPop, hq]
  · intro hup hout hgap hdue
    exact act_linkRegs h (pdelayReqTx_due hup hout hgap hdue) (linkRegs_link s _)
  · intro hnot
    exact act_linkRegs h (pdelayReqTx_none hnot) (.refl s)
  · intro t1 t4 turn d hhead hout hd h0 hmax havg
    have hlt : d.toNat < 2 ^ 32 := by
      have := getBits_lt (s.rdE 0x16 0x044) 15 0
      have hmax' : d ≤ ((getBits (s.rdE 0x16 0x044) 15 0 : Nat) : Int) := hmax
      omega
    have ht := delayShown_linkRegs d.toNat s
    refine ⟨_, act_linkRegs h (pdelayResp_single hhead hout hd h0 hmax havg) ht, ?_, flag_putB_same _ true rfl (by decide), ?_, ?_, ht.frame⟩
    · rw [delayShown_delay s hlt, Int.toNat_of_nonneg h0]
    · rw [delayShown_link, delayTaken]
    · rw [delayShown_link, delayTaken]

end Sys2Proof.Machine
end

section
/-! The ends of PTP's references, and the time of day as it is set and read (R259, R264, R266, R289; DEDUCED, log entry 53). Settles O39. -/

namespace Sys2Proof.Machine

/-! ### The loss of PTP (R264) -/

theorem LinkOnly.trans {s t u : State} : LinkOnly s t → LinkOnly t u → LinkOnly s u := by
  rintro ⟨_, _, _, _, _, rfl⟩ ⟨_, _, _, _, _, rfl⟩
  exact ⟨_, _, _, _, _, rfl⟩

theorem LinkOnly.frame {s t : State} : LinkOnly s t → t = { s with regs := t.regs, eff := t.eff, link := t.link, tick := t.tick, alm := t.alm } := by
  rintro ⟨_, _, _, _, _, rfl⟩
  rfl

theorem Shows.linkOnly {gs : List Fld} {s t : State} (h : Shows gs s t) : LinkOnly s t := h.linkShows.only.linkOnly

theorem Shows.tick {gs : List Fld} {s t : State} (h : Shows gs s t) : t.tick = s.tick := by rw [h.frame]

theorem linkOnly_tick (s : State) (k : Tick) : LinkOnly s { s with tick := k } := ⟨_, _, _, _, _, rfl⟩

theorem keepsBut_tick (gs : List Fld) (s : State) (k : Tick) : KeepsBut gs s { s with tick := k } := (KeepsBut.refl gs s).words rfl rfl

/-- The fields that show the loss of a time source. -/
abbrev sourceLossFields : List Fld := [F.TICK_STAT_STATE, evtFld E.TICK_HOLDOVER_ENTER]

/-- From `s` to `t` the tick engine notes the loss of a time source: the link stays, and the references of PTP that count do. -/
structure SourceLost (s t : State) : Prop where
  only : LinkOnly s t
  keeps : KeepsBut sourceLossFields s t
  link : t.link = s.link
  refs : t.tick.ptpRefs = s.tick.ptpRefs

/-- The source in use has gone; the holdover timer runs; PTP's references no longer count. -/
def sourceGone (s : State) : State := { s with tick.srcLost := true }
def holdBegun (s : State) : State := { s with tick.holdRun := true }
def refsCleared (s : State) : State := { s with tick.ptpRefs := 0 }

theorem sourceGone_sourceLost (s : State) : SourceLost s (sourceGone s) := ⟨linkOnly_tick s _, keepsBut_tick _ s _, rfl, rfl⟩
theorem holdBegun_sourceLost (s : State) : SourceLost s (holdBegun s) := ⟨linkOnly_tick s _, keepsBut_tick _ s _, rfl, rfl⟩

theorem SourceLost.trans {s t u : State} (h : SourceLost s t) (k : SourceLost t u) : SourceLost s u :=
  ⟨h.only.trans k.only, h.keeps.trans k.keeps, k.link.trans h.link, k.refs.trans h.refs⟩

theorem loseTimeSource_cases (s : State) : loseTimeSource s = sourceGone s
    ∨ loseTimeSource s = ((holdBegun (sourceGone s)).put F.TICK_STAT_STATE 3).raise E.TICK_HOLDOVER_ENTER := by
  unfold loseTimeSource
  dsimp only
  split
  · exact .inr rfl
  · exact .inl rfl

theorem loseTimeSource_sourceLost (s : State) : SourceLost s (loseTimeSource s) := by
  rcases loseTimeSource_cases s with he | he
  · rw [he]
    exact sourceGone_sourceLost s
  · rw [he]
    have ht : Shows sourceLossFields (holdBegun (sourceGone s)) (((holdBegun (sourceGone s)).put F.TICK_STAT_STATE 3).raise E.TICK_HOLDOVER_ENTER) :=
      ((Shows.refl _ _).put _ 3 (by simp) rfl).raise _ (by simp)
    exact ((sourceGone_sourceLost s).trans (holdBegun_sourceLost _)).trans ⟨ht.linkOnly, ht.keeps, ht.link, by rw [ht.tick]⟩

theorem ptpLoss_sourceLost (s : State) : SourceLost (refsCleared s) (ptpLoss s) := by
  have he : ptpLoss s = if (refsCleared s).get F.TICK_STAT_SRC = 2 then loseTimeSource (refsCleared s) else refsCleared s := rfl
  rw [he]
  split
  · exact loseTimeSource_sourceLost _
  · exact ⟨⟨_, _, _, _, _, rfl⟩, .refl _ _, rfl, rfl⟩

theorem ptpLoss_linkOnly (s : State) : LinkOnly s (ptpLoss s) := (linkOnly_tick s _).trans (ptpLoss_sourceLost s).only
theorem ptpLoss_keeps (s : State) : KeepsBut sourceLossFields s (ptpLoss s) := (keepsBut_tick _ s _).trans (ptpLoss_sourceLost s).keeps
theorem ptpLoss_link (s : State) : (ptpLoss s).link = s.link := (ptpLoss_sourceLost s).link
theorem ptpLoss_refs (s : State) : (ptpLoss s).tick.ptpRefs = 0 := (ptpLoss_sourceLost s).refs

/-- The last measurement no longer holds, and no Sync waits. -/
def measureCleared (s : State) : State := { s with link.wait := none }.putB F.PTP_STAT_MEAS_OK false

/-- PTP is no reference any more. -/
def refDropped (s : State) : State := { s with link.up := false }

/-- PTP is lost as a reference: counted, with its event and in the Almanac. -/
def lossCounted (s : State) : State := almCount 15 (((refDropped (measureCleared s)).bump F.PTP_CNT_ERR_LOSS).raise E.PTP_PTP_LOST)

theorem measureCleared_linkShows (s : State) : LinkShows [F.PTP_STAT_MEAS_OK] s (measureCleared s) :=
  (linkShows_link _ s _).trans ((Shows.refl _ _).putB F.PTP_STAT_MEAS_OK false (by simp) rfl).linkShows

theorem measureCleared_link (s : State) : (measureCleared s).link = { s.link with wait := none } := by simp [measureCleared]

theorem refDropped_linkShows (gs : List Fld) (s : State) : LinkShows gs s (refDropped s) := linkShows_link gs s _
theorem refDropped_link (s : State) : (refDropped s).link = { s.link with up := false } := rfl

theorem almCount_linkOnly (i : Nat) (s : State) : LinkOnly s (almCount i s) := ⟨_, _, _, _, _, rfl⟩
theorem almCount_link (i : Nat) (s : State) : (almCount i s).link = s.link := rfl

/-- The loss is counted in the words of the page and in the Almanac's image. -/
theorem lossCounted_shows (s : State) :
    Shows [F.PTP_CNT_ERR_LOSS, evtFld E.PTP_PTP_LOST] (refDropped (measureCleared s)) (((refDropped (measureCleared s)).bump F.PTP_CNT_ERR_LOSS).raise E.PTP_PTP_LOST) :=
  ((Shows.refl _ _).bump _ (by simp) rfl).raise _ (by simp)

theorem lossCounted_linkOnly (s : State) : LinkOnly s (lossCounted s) :=
  (((measureCleared_linkShows s).trans (refDropped_linkShows _ _)).only.linkOnly.trans (lossCounted_shows s).linkOnly).trans (almCount_linkOnly 15 _)

theorem lossCounted_link (s : State) : (lossCounted s).link = { s.link with wait := none, up := false } := by
  rw [lossCounted, almCount_link, (lossCounted_shows s).link, refDropped_link, measureCleared_link]

theorem lossCounted_ok (s : State) : (lossCounted s).flag F.PTP_STAT_MEAS_OK = false := by
  have hkeeps := (refDropped_linkShows [F.PTP_CNT_ERR_LOSS, evtFld E.PTP_PTP_LOST] (measureCleared s)).keeps.trans
    ((lossCounted_shows s).keeps.trans ((almCount_keeps 15 _).mono (by simp)))
  exact (hkeeps.flag F.PTP_STAT_MEAS_OK (by decide)).trans (flag_putB_same _ false rfl (by decide))

theorem lossCounted_count (s : State) : (lossCounted s).get F.PTP_CNT_ERR_LOSS = min 255 (s.get F.PTP_CNT_ERR_LOSS + 1) := by
  have hbefore : (refDropped (measureCleared s)).get F.PTP_CNT_ERR_LOSS = s.get F.PTP_CNT_ERR_LOSS :=
    ((measureCleared_linkShows s).trans (refDropped_linkShows _ _)).keeps _ (by decide)
  rw [lossCounted, almCount_keeps 15 _ F.PTP_CNT_ERR_LOSS (by simp), State.get_raise _ (by decide), State.get_bump_same _ _ (by decide) (by decide), hbefore]
  rfl

theorem lossCounted_event (s : State) : ((lossCounted s).rd 0x16 0x010).getLsbD E.PTP_PTP_LOST.2 = true := by
  rw [lossCounted, almCount_rd]
  exact State.raise_bit_same _ _ _ (by decide)

theorem ptpLost_eq (s : State) : ptpLost s = if !(measureCleared s).link.up then measureCleared s else ptpLoss (lossCounted s) := rfl

theorem ptpLost_up {s : State} (h : s.link.up = true) : ptpLost s = ptpLoss (lossCounted s) := by simp [ptpLost_eq, measureCleared_link, h]

theorem ptpLost_down {s : State} (h : s.link.up = false) : ptpLost s = measureCleared s := by simp [ptpLost_eq, measureCleared_link, h]

theorem ptpLost_linkOnly (s : State) : LinkOnly s (ptpLost s) := by
  cases h : s.link.up with
  | true => rw [ptpLost_up h]; exact (lossCounted_linkOnly s).trans (ptpLoss_linkOnly _)
  | false => rw [ptpLost_down h]; exact (measureCleared_linkShows s).only.linkOnly

theorem ptpLost_link (s : State) : (ptpLost s).link = { s.link with wait := none, up := false } := by
  cases h : s.link.up with
  | true => rw [ptpLost_up h, ptpLoss_link, lossCounted_link]
  | false => rw [ptpLost_down h, measureCleared_link, ← h]

/-! ### Silent masters (R259, R264) -/

/-- The selected master has left the list, and the best of the others is selected. -/
def masterDropped (m : Nat) (s : State) : State := selectMaster (withForeign (s.link.foreign.filter fun x => x.ann.sender != m) s)

theorem announceTimeout_silent {m : Nat} {f : Foreign} {s : State} (hsel : s.link.sel = some m)
    (hfind : s.link.foreign.find? (fun x => x.ann.sender == m) = some f) (hage : 3 * 28800 ≤ f.ages.headD 0) :
    announceTimeout s = if (masterDropped m s).link.sel = none then ptpLost (masterDropped m s) else masterDropped m s := by
  have hsender : f.ann.sender = m := by simpa using List.find?_some hfind
  subst hsender
  have hmaster : (s.link.sel.bind fun m => s.link.foreign.find? fun x => x.ann.sender == m) = some f := by rw [hsel]; exact hfind
  simp only [announceTimeout, hmaster, if_neg (Nat.not_lt.mpr hage)]
  rfl

theorem announceTimeout_none {s : State} (hsel : s.link.sel = none) : announceTimeout s = s := by simp [announceTimeout, hsel]

theorem masterDropped_linkOnly (m : Nat) (s : State) : LinkOnly s (masterDropped m s) :=
  ((linkRegs_link s _).trans (selectMaster_linkShows _).only).linkOnly

theorem masterDropped_link (m : Nat) (s : State) : (masterDropped m s).link.foreign = (s.link.foreign.filter fun x => x.ann.sender != m)
    ∧ (masterDropped m s).link.sel = bestSender (masterDropped m s) := by
  obtain ⟨o, ho⟩ := selectMaster_link (withForeign (s.link.foreign.filter fun x => x.ann.sender != m) s)
  constructor
  · rw [masterDropped, ho]
    rfl
  · rw [bestSender, masterDropped, ho]
    rfl

/-! ### The time of day (R266, R289) -/

theorem todset_effect {path : Path} {w : Word} {s : State} (h : MayWrite path 0x16 0x050 w s) :
    overPath path (writeReg path 0x16 0x050 w) s = todSetWrite w (noteOwner path 0x16 s) :=
  overPath_writeReg (e := ⟨0x050, 0x400, 1, 4, 1, 0x0, 0x0, 0x0, 0xFFFFFFFF, 0x0, 0x0, 0x0⟩) (i := 0) (by decide) (by decide) (by decide) rfl rfl (by decide) h
    fun hrws => absurd rfl hrws

theorem todRead_effect {path : Path} {ns : Nat} {s : State} (h : MayRead path 0x16 s) :
    overPath path (readAny (regAddr 0x16 0x068) ns) s = (s.put F.PTP_TOD_S_S (todAt ns s).1).put F.PTP_TOD_NS_NS (todAt ns s).2 :=
  overPath_readAny (e := ⟨0x068, 0x400, 1, 4, 1, 0x0, 0x0, 0x0, 0x0, 0x0, 0x0, 0x0⟩) (i := 0) (by decide) (by decide) (by decide) rfl rfl rfl h

/-- The time of day waits to be set to second `n`. -/
def todWaits (n : Nat) (s : State) : State := { s with link.todPend := some n }.put F.PTP_TODSET_S n

/-- Settles O39: the two timeouts by what they find, and the accesses to the time of day by the register that they reach. -/
theorem ptpTimeouts : Obligations.PtpTimeouts := by
  intro s h
  refine ⟨?_, ?_, ?_, ?_, ?_, ?_, ?_⟩
  · intro hup hloss
    have heff : syncLoss s = ptpLoss (lossCounted s) := (if_pos ⟨hup, hloss⟩).trans (ptpLost_up hup)
    have ht := (lossCounted_linkOnly s).trans (ptpLoss_linkOnly (lossCounted s))
    have hkeeps := ptpLoss_keeps (lossCounted s)
    refine ⟨_, act_link h heff ht, ?_, ?_, ?_, ?_, ptpLoss_refs _, ht.frame⟩
    · rw [ptpLoss_link, lossCounted_link]
    · rw [hkeeps.flag _ (by decide), lossCounted_ok]
    · rw [hkeeps _ (by decide), lossCounted_count]
    · rw [hkeeps.events E.PTP_PTP_LOST (by decide), lossCounted_event]
  · intro hnot
    refine act_link h (if_neg ?_) ⟨_, _, _, _, _, rfl⟩
    rintro ⟨hup, hloss⟩
    rcases hnot with hdown | hfew
    · simp [hdown] at hup
    · omega
  · intro m f hsel hfind hage
    obtain ⟨hforeign, hbest⟩ := masterDropped_link m s
    have hu := masterDropped_linkOnly m s
    have heff := announceTimeout_silent hsel hfind hage
    generalize masterDropped m s = u at *
    by_cases hnone : u.link.sel = none
    · rw [if_pos hnone] at heff
      have hlink := ptpLost_link u
      have ht := hu.trans (ptpLost_linkOnly u)
      exact ⟨_, act_link h heff ht, by rw [hlink, hforeign], by rw [hlink]; exact hbest, fun _ => by rw [hlink], ht.frame⟩
    · rw [if_neg hnone] at heff
      exact ⟨_, act_link h heff hu, hforeign, hbest, fun hs => absurd hs hnone, hu.frame⟩
  · intro hsel
    exact act_link h (announceTimeout_none hsel) ⟨_, _, _, _, _, rfl⟩
  · intro path w hw hsrc
    obtain ⟨g, hg⟩ := noteOwner_pageOnly path 0x16 s
    have heff : overPath path (writeReg path 0x16 0x050 w) s = todWaits w.toNat (noteOwner path 0x16 s) :=
      (todset_effect hw).trans (if_neg (by rwa [noteOwner_get]))
    refine ⟨_, act_next h heff ?_ ?_ ?_ ?_, ?_, ?_, ?_, ?_⟩
    all_goals rw [hg]
    · simp [todWaits]
    · simp [todWaits]
    · simp [todWaits]
    · simp [todWaits]
    · simp [todWaits]
    · exact (State.get_put_same _ _ _ (by decide) (by decide)).trans (Nat.mod_eq_of_lt w.isLt)
    · simp [todWaits]
    · exact (sameBut_refl [regKey 0x16 0x050] s).put F.PTP_TODSET_S w.toNat rfl (by decide)
  · intro path w hw hsrc
    obtain ⟨g, hg⟩ := noteOwner_pageOnly path 0x16 s
    have heff : overPath path (writeReg path 0x16 0x050 w) s = noteOwner path 0x16 s := (todset_effect hw).trans (if_pos (by rwa [noteOwner_get]))
    refine act_next h heff ?_ ?_ ?_ ?_ <;> rw [hg]
  · intro path ns hr
    refine ⟨_, act_next h (todRead_effect hr) (by simp) (by simp) (by simp) (by simp), ?_, ?_, ?_⟩
    · rw [State.get_put_ne _ _ _ _ (by decide), State.get_put_same _ _ _ (by decide) (by decide)]
      exact Nat.mod_eq_of_lt (Nat.lt_of_le_of_lt (Nat.min_le_left _ _) (by decide))
    · rw [State.get_put_same _ _ _ (by decide) (by decide)]
      refine Nat.mod_eq_of_lt ?_
      have hmod := Nat.mod_lt (s.link.tod + ns * 288) (show 0 < 288000000000 by decide)
      show (s.link.tod + ns * 288) % 288000000000 / 288 < 2 ^ 30
      omega
    · exact ((sameBut_refl _ s).put F.PTP_TOD_S_S _ rfl (by decide)).put F.PTP_TOD_NS_NS _ rfl (by decide)

end Sys2Proof.Machine
end

section
/-! GOOSE repetitions whose frame is longer than the gap allows (R257, R276, R283). Refutes O40. -/

namespace Sys2Proof.Machine

/-! ### Repetitions (R283) -/

/-- The current state is to be sent again, with the interval `n` to the next frame. -/
def gooseRepeated (n : Nat) (s : State) : State :=
  let s := s.put F.PUB_GSQ_SQ (wrapCount (s.get F.PUB_GSQ_SQ))
  { s with pub.interval := n, pub.since := 0, pub.t := s.pub.t.take 7 ++ [timeQuality s] }

theorem gooseAgain_eq (n : Nat) (s : State) : gooseAgain n s = queueGoose false (gooseRepeated n s) := rfl

theorem gooseRetransmit_due {m : List Nat} {s : State} (hruns : gooseRuns s = true) (hm : s.pub.members = some m)
    (hdue : s.pub.interval * 288 < 10 * (s.pub.since + tickUnits s)) :
    gooseRetransmit s = gooseAgain (nextInterval (s.get F.PUB_GTIME_T0_MS) s.pub.interval) s := if_pos (by simp [hruns, hm, hdue])

/-- A frame that exceeds TX_GAP_BYTES is discarded (R258). -/
theorem queueTx_tooLong {f : TxFrame} {s : State} (h : s.get F.MAC_TX_GAP < f.wire) : queueTx f s = s := if_pos h

theorem queueGoose_tooLong {s : State} (h : s.get F.MAC_TX_GAP < (gooseFrame s).length + 24) : queueGoose false s = s := by
  simp only [queueGoose, Bool.false_and, Bool.false_eq_true, if_false]
  split
  · rfl
  · exact queueTx_tooLong (f := { kind := 2, wire := max 84 ((gooseFrame s).length + 24), what := .goose (gooseFrame s) }) (h.trans_le (Nat.le_max_right _ _))

/-! ### The counterexample -/

/-- A chip in RUN in G3 with the link up, whose GOOSE repetition is due and whose gap is just the bytes that R276 reserves for a GOOSE frame. The state published last and its
counters hold numbers of 32 bits: in ASN.1 they take more bytes than those that `gooseU` reserves. -/
def gooseCramped : State :=
  let s := ({ State.reset with boot.held := false }.put F.SYS_GEN_GEN 3).putB F.TPHY_STAT_LINK true
  let s := ((s.putB F.PUB_CFG_GOOSE_EN true).put F.PUB_GREV_REV 0xFFFFFFFF).put F.PUB_GST_ST 0xFFFFFFFF
  { (s.put F.PUB_GSQ_SQ 0xFFFFFFFE).put F.MAC_TX_GAP 132 with
    pub.members := some [0, 0, 0xFFFFFFFF, 0xFFFFFFFF, 0, 0xFFFFFFFF], pub.t := List.replicate 8 0, pub.interval := 200, pub.since := 6000 }

theorem gooseCramped_ready : Ready gooseCramped := by decide
theorem gooseCramped_runs : gooseRuns gooseCramped = true := by decide
theorem gooseCramped_due : gooseCramped.pub.interval * 288 < 10 * (gooseCramped.pub.since + tickUnits gooseCramped) := by decide
theorem gooseCramped_reserved : gooseWire gooseCramped.get = gooseCramped.get F.MAC_TX_GAP := by decide

/-- The repetition has 134 bytes on the wire where R276 reserves 132. -/
theorem gooseCramped_tooLong : (gooseRepeated 400 gooseCramped).get F.MAC_TX_GAP < (gooseFrame (gooseRepeated 400 gooseCramped)).length + 24 := by decide

theorem gooseRetransmit_cramped : gooseRetransmit gooseCramped = gooseRepeated 400 gooseCramped := by
  have hinterval : nextInterval (gooseCramped.get F.PUB_GTIME_T0_MS) gooseCramped.pub.interval = 400 := by decide
  rw [gooseRetransmit_due gooseCramped_runs rfl gooseCramped_due, hinterval, gooseAgain_eq, queueGoose_tooLong gooseCramped_tooLong]

/-- Refutes O40: its clause on GOOSE takes any list as the state published last, and in `gooseCramped` that list holds numbers larger than the data set's. The repetition is then longer than
the bytes reserved for it, exceeds the gap although those do not, and joins no queue (R258). -/
theorem not_framesAndNeighbours : ¬ Obligations.FramesAndNeighbours := by
  intro h
  obtain ⟨-, -, -, hgoose, -⟩ := h gooseCramped gooseCramped_ready
  obtain ⟨t, hexec, -, -, ⟨f, -, htx⟩, -⟩ := hgoose _ gooseCramped_runs rfl gooseCramped_reserved.le gooseCramped_due
  have hexec' : exec .gooseRetransmit gooseCramped = .next (gooseRepeated 400 gooseCramped) := by
    refine act_next gooseCramped_ready gooseRetransmit_cramped ?_ ?_ ?_ ?_ <;> simp [gooseRepeated]
  obtain rfl : t = gooseRepeated 400 gooseCramped := by simpa [hexec] using hexec'
  simp [gooseRepeated] at htx

end Sys2Proof.Machine
end

section
/-! Leases: PG_OWNER takes and ends the lease of a page's group, and LEASE_EXPIRY ends one whose time is over (R303, R307). Settles O12. -/

namespace Sys2Proof.Machine

/-! ### LEASE_END on the pages of a group (R307) -/

theorem raise_keepsEvents (s : State) {p b q : Nat} : EventsStay q s (s.raise (p, b)) := by
  by_cases hpq : p = q
  · subst hpq
    exact eventsStay_raise p b s
  · have hkey : regKey p 0x010 ≠ regKey q 0x010 := by
      unfold regKey
      omega
    intro i hi
    rwa [s.rd_raise_ne hkey]

/-- An event that is raised on page after page changes words at normal addresses only, keeps the events that show, and shows on each page. -/
theorem foldl_raise {b : Nat} (hb : b < 32) (ps : List Nat) (s : State) :
    (ps.foldl (fun s p => s.raise (p, b)) s = { s with regs := (ps.foldl (fun s p => s.raise (p, b)) s).regs })
      ∧ (∀ q, EventsStay q s (ps.foldl (fun s p => s.raise (p, b)) s)) ∧ ∀ p ∈ ps, ((ps.foldl (fun s p => s.raise (p, b)) s).rd p 0x010).getLsbD b = true := by
  induction ps generalizing s with
  | nil => exact ⟨rfl, fun _ _ h => h, fun _ h => absurd h List.not_mem_nil⟩
  | cons p ps ih =>
    obtain ⟨hframe, hstay, hset⟩ := ih (s.raise (p, b))
    refine ⟨hframe, fun q => (raise_keepsEvents s).trans (hstay q), fun q hq => ?_⟩
    rcases List.mem_cons.mp hq with rfl | hmem
    · exact hstay q b (s.raise_bit_same q b hb)
    · exact hset q hmem

/-- A lease that is held ends: it is gone, and each page of its group shows LEASE_END. -/
theorem endLease_held {g : Nat} {l : Lease} {s : State} (h : aget s.page.leases g = some l) :
    endLease g s = { s with page.leases := adel s.page.leases g, regs := (endLease g s).regs }
      ∧ ∀ p ∈ groupPages g, ((endLease g s).rd p 0x010).getLsbD E.LEASE_END = true := by
  have hend : endLease g s = raiseGroup g E.LEASE_END { s with page.leases := adel s.page.leases g } := if_neg (by simp [h])
  obtain ⟨hframe, -, hset⟩ := foldl_raise (b := E.LEASE_END) (by decide) (groupPages g) { s with page.leases := adel s.page.leases g }
  rw [hend]
  exact ⟨hframe, hset⟩

theorem leaseExpiry_due {g holder : Nat} {s : State} (h : aget s.page.leases g = some ⟨holder, 0⟩) : leaseExpiry g s = endLease g s := by
  simp [leaseExpiry, h]

theorem leaseExpiry_early {g holder left : Nat} {s : State} (h : aget s.page.leases g = some ⟨holder, left⟩) (hleft : left ≠ 0) : leaseExpiry g s = s := by
  simp [leaseExpiry, h, hleft]

/-! ### Writes of PG_OWNER (R303) -/

theorem commonEnt_owner {p : Nat} (hp : (pageEnt p).isSome = true) : ∃ e, regEnt p 0x024 = some (e, 0) ∧ e.wo = 0xFFF ∧ e.rws = 0 := by
  obtain ⟨pe, hpe⟩ := Option.isSome_iff_exists.mp hp
  exact ⟨⟨0x024, 0x400, 1, 4, 1, 0, 0, 0, 0, 0, 0, 0xFFF⟩, by simp [regEnt, commonEnt, hpe], rfl, rfl⟩

theorem noteOwner_ownersOnly (path : Path) (p : Nat) (s : State) : ∃ o, noteOwner path p s = { s with page.owners := o } := by
  unfold noteOwner
  extract_lets x
  split
  · exact ⟨_, rfl⟩
  · exact ⟨_, rfl⟩

/-- What is noted of a write before it acts (R292, R313) are ranks and orders to LDAC. -/
theorem noteWrite_notesOnly (path : Path) (p off : Nat) (e : RegEnt) (w : Word) (s : State) :
    ∃ o l, noteWrite path p off e w s = { s with page.owners := o, page.ldacOrd := l } := by
  obtain ⟨o, ho⟩ := noteOwner_ownersOnly path p s
  unfold noteWrite
  rw [ho]
  dsimp only
  split
  · exact ⟨o, _, rfl⟩
  · exact ⟨o, s.page.ldacOrd, rfl⟩

/-- A write of PG_OWNER that passes its checks is noted and then takes or ends the lease. -/
theorem ownerWrite_effect {path : Path} {p : Nat} {w : Word} {s : State} (hp : p < 0x80) (hpe : (pageEnt p).isSome = true) (h : MayWrite path p 0x024 w s) :
    ∃ o l, overPath path (writeReg path p 0x024 w) s = leaseWrite path p w { s with page.owners := o, page.ldacOrd := l } := by
  obtain ⟨e, he, hwo, hrws⟩ := commonEnt_owner hpe
  have hwrite : writable e ≠ 0 := by
    rw [writable, hwo, Nat.ne_zero_iff_zero_lt]
    exact Nat.lt_of_lt_of_le (m := 0xFFF) (by decide) Nat.right_le_or
  obtain ⟨o, l, hnote⟩ := noteWrite_notesOnly path p 0x024 e w s
  refine ⟨o, l, ?_⟩
  rw [overPath_writeReg hp (by decide) (by decide) hpe he hwrite h fun hj => absurd hrws hj, hnote]
  rfl

theorem leaseWrite_release (path : Path) (p : Nat) (s : State) : leaseWrite path p 0 s = endLease (pageGroup p) s := by
  simp [leaseWrite, getBits]

/-- LEASE_S of 1 to 3600 gives the group's lease to the path for that time. -/
theorem leaseWrite_take (path : Path) (p : Nat) {secs : Nat} (s : State) (h1 : 1 ≤ secs) (h : secs ≤ 3600) :
    ∃ o, leaseWrite path p (BitVec.ofNat 32 secs) s =
      { s with page.owners := o, page.leases := aset s.page.leases (pageGroup p) ⟨if path = .spi then 0xFF else pathSid path, secs * 28800⟩ } := by
  have hsecs : getBits (BitVec.ofNat 32 secs) 11 0 = secs := by
    simp only [getBits, BitVec.toNat_ofNat]
    omega
  obtain ⟨o, ho⟩ := noteOwner_ownersOnly path p { s with page.leases := aset s.page.leases (pageGroup p) ⟨if path = .spi then 0xFF else pathSid path, secs * 28800⟩ }
  refine ⟨o, Eq.trans ?_ ho⟩
  unfold leaseWrite
  simp only [hsecs, if_neg (show ¬ secs = 0 by omega), if_neg (show ¬ 3600 < secs by omega)]
  cases path <;> rfl

/-- Settles O12: a write of PG_OWNER is `leaseWrite` after its note, and every end of a lease is `endLease`. -/
theorem leases : Obligations.Leases := by
  refine ⟨fun s path page secs h hp hpe h1 hsecs hw => ?_, fun s path page l h hp hpe hw hheld => ?_, fun s g holder h hheld => ?_,
    fun s g holder left h hheld hleft => act_next h (leaseExpiry_early hheld hleft) rfl rfl rfl rfl⟩
  · obtain ⟨o, l, heff⟩ := ownerWrite_effect hp hpe hw
    obtain ⟨o', htake⟩ := leaseWrite_take path page { s with page.owners := o, page.ldacOrd := l } h1 hsecs
    have hrow : overPath path (takeLease path page secs) s = overPath path (writeReg path page 0x024 (BitVec.ofNat 32 secs)) s := by
      simp only [overPath, takeLease, h1, hsecs, and_self, if_true]
    exact ⟨_, act_next h (hrow.trans (heff.trans htake)) rfl rfl rfl rfl, aget_aset_same _ _ _, fun g hg => aget_aset_ne _ _ hg.symm, rfl⟩
  · obtain ⟨o, k, heff⟩ := ownerWrite_effect hp hpe hw
    rw [leaseWrite_release] at heff
    obtain ⟨hframe, hset⟩ := endLease_held (s := { s with page.owners := o, page.ldacOrd := k }) hheld
    rw [← heff] at hframe hset
    refine ⟨_, act_next h rfl ?_ ?_ ?_ ?_, ?_, hset, ?_⟩ <;> rw [hframe]
  · obtain ⟨hframe, hset⟩ := endLease_held hheld
    rw [← leaseExpiry_due hheld] at hframe hset
    refine ⟨_, act_next h rfl ?_ ?_ ?_ ?_, ?_, hset, ?_⟩ <;> rw [hframe]

end Sys2Proof.Machine
end

section
/-! A COMMIT over YRAP in a session while the blocks are asked to quiesce: the commit that it requests takes a free choice (R51, R328, R337, R566). Refutes O41. -/

namespace Sys2Proof.Machine

/-! ### A COMMIT in a session (R328–R330, R337) -/

/-- The session's request `m` has left the receive queue and passed the checks of R330. -/
def requestTaken (m : YrapReq) (s : State) : State := acceptRequest m.sid m.ctr (authPassed 4 (genPop s))

/-- The COMMIT of page `p` in a session. -/
structure CommitOf (p : Nat) (m : YrapReq) : Prop where
  fits : m.fits = true
  status : m.status = 0
  op : m.op = 3
  sid : m.sid ≠ 0
  len : m.len = 2
  body : m.body = [1, BitVec.ofNat 8 p]

theorem CommitOf.yrapStatus {p : Nat} {m : YrapReq} (h : CommitOf p m) (s : State) : yrapStatus s m = 0 := by
  simp [Machine.yrapStatus, yrapReserved, yrapRange, yrapCount, h.fits, h.status, h.op, h.sid, h.len, h.body]

/-- A COMMIT that its session accepts requests its page's commit; its reply waits for the boundary (R329). -/
theorem yrapOp_commit {p slot : Nat} {m : YrapReq} {x : Session} {s : State} (hm : CommitOf p m) (hp : p < 0x80) (hhead : yrapHead s = some m) (hmay : linkMay s = true)
    (hacc : SessionAccepts 4 m.port (ipBytes m.v6 m.ip) m.sid m.ctr (0x00 :: m.front) m.mac slot x s) :
    ∃ l, yrapOp 3 0 s = { (commitPages (.yrap m.sid) [p] (linkUse 1 (requestTaken m s))).1 with acc.late := l } := by
  have hauth := checkAuthentic_accepts (s := genPop s) hacc
  have hctr : m.ctr ≠ 0xFFFFFFFF := by
    obtain ⟨-, -, -, -, -, hlt, -⟩ := hacc
    exact hlt.ne
  have hcount : yrapCount m = 1 := by simp [yrapCount, hm.op, hm.body]
  have hpage : (BitVec.ofNat 8 p).toNat = p := by
    rw [BitVec.toNat_ofNat]
    omega
  have hdo (sk : Option (List Byte)) (u : State) : ∃ l, yrapDo 0 m sk u = { (commitPages (.yrap m.sid) [p] (linkUse 1 u)).1 with acc.late := l } := by
    simp only [yrapDo, hm.op, hcount, hm.body, List.drop_one, List.tail_cons, List.map_cons, List.map_nil, hpage]
    exact ⟨_, rfl⟩
  obtain ⟨l, hl⟩ := hdo (replyKey (authPassed 4 (genPop s)) m.sid) (requestTaken m s)
  refine ⟨l, ?_⟩
  rw [yrapOp, hhead]
  simp only [hm.op, hmay, and_self, if_true, yrapHandle, hm.yrapStatus, yrapRequest, hm.sid, hauth, ne_eq, not_true_eq_false, Nat.reduceEqDiff, false_and, if_false]
  rw [endExhausted_not _ hctr]
  exact hl

/-- A page's note of a write's rank changes the pages' requests only, so that a commit that follows it takes its free choice all the same. -/
theorem requestCommit_noted_asking {s : State} {target : Nat} (path : Path) (p : Nat) (ha : s.slp.asking = true) (hd : s.slp.down = some target) :
    RequestOnly s.fresh (requestCommit p (noteOwner path p s)) := by
  obtain ⟨g, hg⟩ := noteOwner_pageOnly path p s
  rw [hg]
  exact (requestOnly_page s g).fresh.trans (requestCommit_asking (s := { s with page := g }) p ha hd)

/-- A COMMIT that its session accepts while the blocks may still be asked to quiesce takes a free choice. -/
theorem exec_yrapCommit_asking {p slot target : Nat} {m : YrapReq} {x : Session} {s : State} (h : Ready s) (hm : CommitOf p m) (hp : p < 0x80) (hpe : (pageEnt p).isSome = true)
    (hne : p ≠ 0x11) (hhead : yrapHead s = some m) (hrun : s.plan.run = none)
    (hacc : SessionAccepts 4 m.port (ipBytes m.v6 m.ip) m.sid m.ctr (0x00 :: m.front) m.mac slot x s)
    (hwrite : MayWrite (.yrap m.sid) p 0x020 1 (linkUse 1 (requestTaken m s))) (ha : s.slp.asking = true) (hd : s.slp.down = some target) :
    ∃ t, exec .yrapCommit s = .next t ∧ t.free = s.free + 1 := by
  have htaken : ∃ a, linkUse 1 (requestTaken m s) = { s with link.genQ := s.link.genQ.tail, acc := a } := by
    unfold linkUse requestTaken acceptRequest
    split
    all_goals
      simp only [authPassed, genPop, hrun, Option.map_none]
      exact ⟨_, by rw [← hrun]⟩
  obtain ⟨a, ha'⟩ := htaken
  obtain ⟨l, hl⟩ := yrapOp_commit hm hp hhead (by simp [linkMay, hrun]) hacc
  rw [commitPages_one hp hpe hwrite hne, ha'] at hl
  obtain ⟨_, _, _, _, _, _, hu⟩ := requestCommit_noted_asking (s := { s with link.genQ := s.link.genQ.tail, acc := a }) (.yrap m.sid) p ha hd
  rw [hu] at hl
  exact ⟨_, act_next h hl rfl rfl rfl rfl, rfl⟩

/-! ### The counterexample -/

/-- Header and body of a COMMIT of page FLT0: OP 3, SID 1, LEN 2, CTR 1. -/
def yrapCommitFront : List Byte := [0x59, 0x52, 0x01, 3, 1, 0] ++ natBytes 2 2 ++ natBytes 4 0 ++ natBytes 4 1 ++ [1, BitVec.ofNat 8 0x07]

/-- The COMMIT as it is received from port 9 of the peer 7, signed with the key [1]. -/
def yrapCommitMsg : YrapReq :=
  { vlan := none, v6 := false, ip := 7, port := 9, op := 3, sid := 1, status := 0, len := 2, tag := 0, ctr := 1, front := yrapCommitFront, body := [1, BitVec.ofNat 8 0x07],
    mac := hmac16 [1] (0x00 :: yrapCommitFront), fits := true }

/-- The frame that brings it. -/
def yrapCommitFrame : MacFrame :=
  { fcsOk := true, len := 100, dst := 0, src := 1, vlan := none, etherType := 0x0800, payload := .udp false 7 0 9 48110 (yrapCommitFront ++ hmac16 [1] (0x00 :: yrapCommitFront)) }

/-- `commitSession`, opened over YRAP by that peer. -/
def yrapSessionOpen : Session := { commitSession with kind := 4, peer := ipBytes false 7, port := 9 }

/-- The chip of `askedToQuiesce` in G3, with its boot over, its link up and no slot due; the COMMIT is at the head of the receive queue. -/
def yrapCommitAsked : State :=
  { ((askedToQuiesce.put F.SYS_GEN_GEN 3).putB F.TPHY_STAT_LINK true).putB F.SYS_BSTAT_ROM_OK true with
    plan.todo := [], link.genQ := [yrapCommitFrame], acc.sessions := [(0, yrapSessionOpen)] }

theorem yrapCommitAsked_head : yrapHead yrapCommitAsked = some yrapCommitMsg := by
  have hlen := hmac16_length [1] (0x00 :: yrapCommitFront)
  change yrapParse none false 7 9 (yrapCommitFront ++ hmac16 [1] (0x00 :: yrapCommitFront)) = _
  unfold yrapCommitMsg
  generalize hmac16 [1] (0x00 :: yrapCommitFront) = mac at *
  simp [yrapParse, yrapCommitFront, natBytes, hlen, bytesNat]

theorem yrapCommitMsg_commit : CommitOf 0x07 yrapCommitMsg := ⟨rfl, rfl, rfl, by decide, rfl, rfl⟩

theorem yrapCommitAsked_accepts :
    SessionAccepts 4 9 (ipBytes false 7) 1 1 (0x00 :: yrapCommitFront) (hmac16 [1] (0x00 :: yrapCommitFront)) 0 yrapSessionOpen yrapCommitAsked :=
  ⟨rfl, rfl, rfl, rfl, by decide, by decide, by decide, by decide⟩

theorem yrapCommitAsked_ready : Ready yrapCommitAsked := by decide

/-- Refutes O41: the commit that a COMMIT over YRAP requests may meet the blocks while they are asked to quiesce (`yrapCommitAsked`). Whether the page's block then refuses the
entry is a free choice (R51, R566), which the request takes: it changes more than the statement grants, whichever way it falls. -/
theorem not_yrapRequests : ¬ Obligations.YrapRequests := by
  intro h
  obtain ⟨-, -, -, -, hcommit, -⟩ := h yrapCommitAsked yrapCommitMsg yrapCommitAsked_ready yrapCommitAsked_head rfl rfl
  obtain ⟨t, hexec, -, -, -, -, -, hsame, -⟩ := hcommit 0 yrapSessionOpen 0x07 rfl rfl (by decide) rfl rfl (by decide) (by decide) (by decide) yrapCommitAsked_accepts (by decide)
  obtain ⟨t', hexec', htaken⟩ := exec_yrapCommit_asking (target := 1) yrapCommitAsked_ready yrapCommitMsg_commit (by decide) (by decide) (by decide) yrapCommitAsked_head rfl
    yrapCommitAsked_accepts (by decide) rfl rfl
  obtain rfl : t = t' := by simpa [hexec] using hexec'
  have hkept := congrArg State.free hsame
  dsimp only at hkept
  omega

end Sys2Proof.Machine
end

section
/-! The words of command registers; key storage: ACC_KEYDATA and ACC_KEYCMD (R340, R342, R345). Settles O44. -/

namespace Sys2Proof.Machine

/-! ### The word of a command -/

theorem opWord_toNat {op low : Nat} (hop : op < 256) (hlow : low < 2 ^ 24) : (opWord op low).toNat = op * 2 ^ 24 + low := by
  rw [opWord, BitVec.toNat_ofNat]
  omega

theorem opWord_op {op low : Nat} (hop : op < 256) (hlow : low < 2 ^ 24) : getBits (opWord op low) 31 24 = op := by
  simp only [getBits, opWord_toNat hop hlow]
  omega

theorem opWord_slot {op low : Nat} (hop : op < 256) (hlow : low < 2 ^ 24) : getBits (opWord op low) 2 0 = low % 8 := by
  simp only [getBits, opWord_toNat hop hlow]
  omega

theorem opWord_role {op low : Nat} (hop : op < 256) (hlow : low < 2 ^ 24) : getBits (opWord op low) 5 4 = low / 16 % 4 := by
  simp only [getBits, opWord_toNat hop hlow]
  omega

/-! ### The rows of key storage (R345)

Each row is its operation on `u`, the state in which the rank of its path has been noted. -/

theorem accKeydataWrite_row {path : Path} {w : Word} {s u : State} (hu : noteOwner path 0x18 s = u) (h : MayWrite path 0x18 0x098 w s) :
    overPath path (writeReg path 0x18 0x098 w) s = keyData w u := by
  rw [← hu]
  exact overPath_writeReg (e := ⟨0x098, 0x400, 1, 4, 1, 0, 0, 0, 0, 0, 0, 0xFFFFFFFF⟩) (i := 0) (by decide) (by decide) (by decide) rfl rfl (by decide) h
    fun hrws => absurd rfl hrws

theorem keyCmd_row {path : Path} {w : Word} {s u : State} (hu : noteOwner path 0x18 s = u) (h : MayWrite path 0x18 0x09C w s) :
    overPath path (writeReg path 0x18 0x09C w) s = keyCmd w u := by
  rw [← hu]
  exact overPath_writeReg (e := ⟨0x09C, 0x400, 1, 4, 1, 0, 0, 0, 0, 0, 0, 0xFF000037⟩) (i := 0) (by decide) (by decide) (by decide) rfl rfl (by decide) h
    fun hrws => absurd rfl hrws

theorem progK_row {path : Path} {slot role : Nat} {s u : State} (hu : noteOwner path 0x18 s = u) (hslot : slot < 8) (hrole : role < 4)
    (h : MayWrite path 0x18 0x09C (opWord 1 (role * 16 + slot)) s) :
    overPath path (writeReg path 0x18 0x09C (opWord 1 (role % 4 * 16 + slot % 8))) s = progK slot role u := by
  have hlow : role * 16 + slot < 2 ^ 24 := by omega
  have hs : (role * 16 + slot) % 8 = slot := by omega
  have hr : (role * 16 + slot) / 16 % 4 = role := by omega
  rw [Nat.mod_eq_of_lt hslot, Nat.mod_eq_of_lt hrole, keyCmd_row hu h]
  simp only [keyCmd, opWord_op (by decide : 1 < 256) hlow, opWord_slot (by decide : 1 < 256) hlow, opWord_role (by decide : 1 < 256) hlow, hs, hr]

theorem progMk_row {path : Path} {slot : Nat} {s u : State} (hu : noteOwner path 0x18 s = u) (hslot : slot < 8) (h : MayWrite path 0x18 0x09C (opWord 2 slot) s) :
    overPath path (writeReg path 0x18 0x09C (opWord 2 (slot % 8))) s = progMk slot u := by
  have hlow : slot < 2 ^ 24 := by omega
  rw [Nat.mod_eq_of_lt hslot, keyCmd_row hu h]
  simp only [keyCmd, opWord_op (by decide : 2 < 256) hlow, opWord_slot (by decide : 2 < 256) hlow, Nat.mod_eq_of_lt hslot]

theorem revokeK_row {path : Path} {slot : Nat} {s u : State} (hu : noteOwner path 0x18 s = u) (hslot : slot < 8) (h : MayWrite path 0x18 0x09C (opWord 3 slot) s) :
    overPath path (writeReg path 0x18 0x09C (opWord 3 (slot % 8))) s = revokeK slot u := by
  have hlow : slot < 2 ^ 24 := by omega
  rw [Nat.mod_eq_of_lt hslot, keyCmd_row hu h]
  simp only [keyCmd, opWord_op (by decide : 3 < 256) hlow, opWord_slot (by decide : 3 < 256) hlow, Nat.mod_eq_of_lt hslot]

theorem revokeMk_row {path : Path} {slot : Nat} {s u : State} (hu : noteOwner path 0x18 s = u) (hslot : slot < 8) (h : MayWrite path 0x18 0x09C (opWord 4 slot) s) :
    overPath path (writeReg path 0x18 0x09C (opWord 4 (slot % 8))) s = revokeMk slot u := by
  have hlow : slot < 2 ^ 24 := by omega
  rw [Nat.mod_eq_of_lt hslot, keyCmd_row hu h]
  simp only [keyCmd, opWord_op (by decide : 4 < 256) hlow, opWord_slot (by decide : 4 < 256) hlow, Nat.mod_eq_of_lt hslot]

theorem clear_row {path : Path} {s u : State} (hu : noteOwner path 0x18 s = u) (h : MayWrite path 0x18 0x09C (opWord 5 0) s) :
    overPath path (writeReg path 0x18 0x09C (opWord 5 0)) s = keyClear u :=
  keyCmd_row hu h

/-! ### LAST_ERR and KEY_CHANGE -/

theorem keyErr_lastErr {n : Nat} (s : State) (h : n < 16) : (keyErr n s).get F.ACC_KEYSTAT_LAST_ERR = n :=
  (s.get_put_same F.ACC_KEYSTAT_LAST_ERR n (by decide) (by decide)).trans (Nat.mod_eq_of_lt h)

theorem keyChanged_lastErr (s : State) : (keyChanged s).get F.ACC_KEYSTAT_LAST_ERR = 0 :=
  ((keyErr 0 s).get_raise (by decide)).trans (keyErr_lastErr s (by decide))

theorem keyChanged_event (s : State) : ((keyChanged s).rd 0x18 0x010).getLsbD E.ACC_KEY_CHANGE.2 = true :=
  (keyErr 0 s).raise_bit_same _ _ (by decide)

/-! ### What the key commands change (R342, R345) -/

theorem keyData_room {w : Word} {s : State} (h : s.acc.keyBuf.length < 16) : keyData w s = { s with acc.keyBuf := s.acc.keyBuf ++ [w] } := if_pos h

theorem keyData_full {w : Word} {s : State} (h : 16 ≤ s.acc.keyBuf.length) : keyData w s = s := if_neg (by omega)

theorem progK_empty {slot role : Nat} {k : KeySlot} {s : State} (hk : s.otp.keys[slot]? = some k) (hp : k.programmed = false) (hlen : s.acc.keyBuf.length = 8) :
    progK slot role s = keyChanged { s with acc.keyBuf := [], otp.keys := s.otp.keys.set slot { k with programmed := true, role := role, key := wordsBytes s.acc.keyBuf } } := by
  simp [progK, List.getD_eq_getElem?_getD, hk, hp, hlen]

theorem progK_programmed {slot role : Nat} {k : KeySlot} {s : State} (hk : s.otp.keys[slot]? = some k) (hp : k.programmed = true) :
    progK slot role s = keyErr 1 { s with acc.keyBuf := [] } := by
  simp [progK, List.getD_eq_getElem?_getD, hk, hp]

theorem progMk_empty {slot : Nat} {k : KeySlot} {s : State} (hslot : slot < 2) (hk : s.otp.mkeys[slot]? = some k) (hp : k.programmed = false) (hlen : s.acc.keyBuf.length = 16) :
    progMk slot s = keyChanged { s with acc.keyBuf := [], otp.mkeys := s.otp.mkeys.set slot { k with programmed := true, key := wordsBytes s.acc.keyBuf } } := by
  simp [progMk, List.getD_eq_getElem?_getD, hk, hp, hlen, hslot]

theorem revokeK_programmed {slot : Nat} {k : KeySlot} {s : State} (hk : s.otp.keys[slot]? = some k) (hp : k.programmed = true) :
    revokeK slot s = endSessions (fun x => x.key == slot) (keyChanged { s with otp.keys := s.otp.keys.set slot { k with revoked := true } }) := by
  simp [revokeK, List.getD_eq_getElem?_getD, hk, hp]

theorem revokeMk_programmed {slot : Nat} {k : KeySlot} {s : State} (hslot : slot < 2) (hk : s.otp.mkeys[slot]? = some k) (hp : k.programmed = true) :
    revokeMk slot s = keyChanged { s with otp.mkeys := s.otp.mkeys.set slot { k with revoked := true } } := by
  simp [revokeMk, List.getD_eq_getElem?_getD, hk, hp, hslot]

theorem revokeMk_empty {slot : Nat} {k : KeySlot} {s : State} (hslot : slot < 2) (hk : s.otp.mkeys[slot]? = some k) (hp : k.programmed = false) :
    revokeMk slot s = keyErr 3 s := by
  simp [revokeMk, List.getD_eq_getElem?_getD, hk, hp, hslot]

/-! ### Sessions that end with their key (R340) -/

theorem endSessions_none {p : Session → Bool} {s : State} (h : ∀ e ∈ s.acc.sessions, p e.2 = false) : endSessions p s = s := by
  have hnone : s.acc.sessions.filter (fun e => p e.2) = [] := List.filter_eq_nil_iff.mpr fun e he => by simp [h e he]
  simp only [endSessions, hnone, List.foldl_nil]

theorem endLease_leasesOnly (g : Nat) (s : State) : ∃ r l, endLease g s = { s with regs := r, page.leases := l } := by
  cases hl : aget s.page.leases g with
  | none => exact ⟨s.regs, s.page.leases, if_pos (by simp [hl])⟩
  | some l => exact ⟨_, _, (endLease_held hl).1⟩

theorem endLeases_leasesOnly (p : Nat → Bool) (s : State) : ∃ r l, endLeases p s = { s with regs := r, page.leases := l } := by
  unfold endLeases
  generalize s.page.leases.filter _ = es
  induction es generalizing s with
  | nil => exact ⟨s.regs, s.page.leases, rfl⟩
  | cons e es ih =>
    obtain ⟨r, l, he⟩ := endLease_leasesOnly e.1 s
    obtain ⟨r', l', ht⟩ := ih (endLease e.1 s)
    exact ⟨r', l', by rw [List.foldl_cons, ht, he]⟩

/-- A session or handshake that ends leaves its slot, and with an open session its leases end. -/
theorem endSession_held {slot : Nat} {x : Session} {s : State} (h : aget s.acc.sessions slot = some x) :
    ∃ r l, endSession slot s = { s with regs := r, page.leases := l, acc.sessions := adel s.acc.sessions slot } := by
  simp only [endSession, h]
  split
  · exact ⟨s.regs, s.page.leases, rfl⟩
  · obtain ⟨r, l, hend⟩ := endLeases_leasesOnly (· == x.sid) { s with acc.sessions := adel s.acc.sessions slot }
    rw [hend]
    exact ⟨_, _, rfl⟩

/-- The only session ends where it is picked. -/
theorem endSessions_only {p : Session → Bool} {x : Session} {s : State} (h : s.acc.sessions = [(0, x)]) (hp : p x = true) :
    ∃ r l, endSessions p s = { s with regs := r, page.leases := l, acc.sessions := [] } := by
  have hget : aget s.acc.sessions 0 = some x := by simp [h, aget]
  obtain ⟨r, l, hend⟩ := endSession_held hget
  refine ⟨r, l, ?_⟩
  simp only [endSessions, h, List.filter_cons, hp, if_true, List.filter_nil, List.foldl_cons, List.foldl_nil, hend]
  simp [adel]

/-- REVOKE_K of a programmed key ends the only session, where it is on that key (R340). -/
theorem revokeK_endsOnly {slot : Nat} {k : KeySlot} {x : Session} {s : State} (hk : s.otp.keys[slot]? = some k) (hp : k.programmed = true)
    (h : s.acc.sessions = [(0, x)]) (hx : x.key = slot) :
    ∃ r l, revokeK slot s = { s with regs := r, page.leases := l, acc.sessions := [], otp.keys := s.otp.keys.set slot { k with revoked := true } } := by
  rw [revokeK_programmed hk hp]
  exact endSessions_only (s := keyChanged { s with otp.keys := s.otp.keys.set slot { k with revoked := true } }) h (by simpa using hx)

/-- Settles O44: each row is its key operation after the note of its path's rank, and the operations show LAST_ERR and KEY_CHANGE last. -/
theorem keyStorage : Obligations.KeyStorage := by
  intro s path h
  obtain ⟨g, hg⟩ := noteOwner_pageOnly path 0x18 s
  simp only [hg]
  refine ⟨fun w hw hlen => ?_, fun w hw hlen => ?_, fun slot role k hs hr hw hk hp hlen => ?_, fun slot role k hs hr hw hk hp => ?_, fun slot k hs hw hk hp hlen => ?_,
    fun slot k hs hw hk hp hno => ?_, fun slot x hs hw ⟨k, hk, hp⟩ honly hx => ?_, fun slot k hs hw hk hp => ?_, fun slot k hs hw hk hp => ?_, fun hw => ?_⟩
  · exact act_next h ((accKeydataWrite_row hg hw).trans (keyData_room hlen)) rfl rfl rfl rfl
  · exact act_next h ((accKeydataWrite_row hg hw).trans (keyData_full hlen)) rfl rfl rfl rfl
  · exact ⟨_, act_next h ((progK_row hg hs hr hw).trans (progK_empty hk hp hlen)) rfl rfl rfl rfl, rfl, rfl, keyChanged_lastErr _, keyChanged_event _, rfl⟩
  · exact ⟨_, act_next h ((progK_row hg hs hr hw).trans (progK_programmed hk hp)) rfl rfl rfl rfl, keyErr_lastErr _ (by decide), rfl⟩
  · exact ⟨_, act_next h ((progMk_row hg (by omega) hw).trans (progMk_empty hs hk hp hlen)) rfl rfl rfl rfl, rfl, rfl, keyChanged_lastErr _, rfl⟩
  · have hkept : ∀ e ∈ s.acc.sessions, (e.2.key == slot) = false := fun e he => by simpa using hno e he
    have hend := (revokeK_programmed (s := { s with page := g }) hk hp).trans (endSessions_none hkept)
    exact ⟨_, act_next h ((revokeK_row hg hs hw).trans hend) rfl rfl rfl rfl, rfl, keyChanged_lastErr _, rfl⟩
  · obtain ⟨r, l, hend⟩ := revokeK_endsOnly (s := { s with page := g }) hk hp honly hx
    exact ⟨_, act_next h ((revokeK_row hg hs hw).trans hend) rfl rfl rfl rfl, rfl⟩
  · exact ⟨_, act_next h ((revokeMk_row hg (by omega) hw).trans (revokeMk_programmed hs hk hp)) rfl rfl rfl rfl, rfl, keyChanged_lastErr _, rfl⟩
  · exact ⟨_, act_next h ((revokeMk_row hg (by omega) hw).trans (revokeMk_empty hs hk hp)) rfl rfl rfl rfl, keyErr_lastErr _ (by decide), rfl⟩
  · exact ⟨_, act_next h (clear_row hg hw) rfl rfl rfl rfl, rfl, keyErr_lastErr _ (by decide), rfl⟩

end Sys2Proof.Machine
end

section
/-! Commands of the NVM page and CLEAR_WORD: the rows, results and the queue, the source's bytes, checks, saves, and the ARCHIVE's retirement (chapter 18). Settles O54. -/

namespace Sys2Proof.Machine

/-! ### The rows

Each row is its operation on `u`, the state in which the rank of its path has been noted. -/

theorem opWord_bit {op low : Nat} (hop : op < 256) (hlow : low < 2 ^ 24) : getBits (opWord op low) 0 0 = low % 2 := by
  simp only [getBits, opWord_toNat hop hlow]
  omega

theorem nvmCmd_row {path : Path} {w : Word} {s u : State} (hu : noteOwner path 0x0C s = u) (h : MayWrite path 0x0C 0x044 w s) :
    overPath path (writeReg path 0x0C 0x044 w) s = nvmCmd w u := by
  rw [← hu]
  exact overPath_writeReg (e := ⟨0x044, 0x400, 1, 4, 1, 0, 0, 0, 0, 0, 0, 0xFF000001⟩) (i := 0) (by decide) (by decide) (by decide) rfl rfl (by decide) h
    fun hrws => absurd rfl hrws

theorem modelWrite_row {path : Path} {slot : Nat} {s u : State} (hu : noteOwner path 0x0C s = u) (hslot : slot < 2) (h : MayWrite path 0x0C 0x044 (opWord 1 slot) s) :
    overPath path (writeReg path 0x0C 0x044 (opWord 1 (slot % 2))) s = chunkCmd 1 slot u := by
  have hlow : slot < 2 ^ 24 := by omega
  rw [Nat.mod_eq_of_lt hslot, nvmCmd_row hu h]
  simp only [nvmCmd, opWord_op (by decide : 1 < 256) hlow, opWord_bit (by decide : 1 < 256) hlow, Nat.mod_eq_of_lt hslot]

theorem modelCheck_row {path : Path} {slot : Nat} {s u : State} (hu : noteOwner path 0x0C s = u) (hslot : slot < 2) (h : MayWrite path 0x0C 0x044 (opWord 2 slot) s) :
    overPath path (writeReg path 0x0C 0x044 (opWord 2 (slot % 2))) s = checkCmd 2 slot u := by
  have hlow : slot < 2 ^ 24 := by omega
  rw [Nat.mod_eq_of_lt hslot, nvmCmd_row hu h]
  simp only [nvmCmd, opWord_op (by decide : 2 < 256) hlow, opWord_bit (by decide : 2 < 256) hlow, Nat.mod_eq_of_lt hslot]

theorem patchWrite_row {path : Path} {s u : State} (hu : noteOwner path 0x0C s = u) (h : MayWrite path 0x0C 0x044 (opWord 3 0) s) :
    overPath path (writeReg path 0x0C 0x044 (opWord 3 0)) s = chunkCmd 3 0 u := nvmCmd_row hu h

theorem patchCheck_row {path : Path} {s u : State} (hu : noteOwner path 0x0C s = u) (h : MayWrite path 0x0C 0x044 (opWord 4 0) s) :
    overPath path (writeReg path 0x0C 0x044 (opWord 4 0)) s = checkCmd 4 0 u := nvmCmd_row hu h

theorem saveConfig_row {path : Path} {s u : State} (hu : noteOwner path 0x0C s = u) (h : MayWrite path 0x0C 0x044 (opWord 5 0) s) :
    overPath path (writeReg path 0x0C 0x044 (opWord 5 0)) s = saveConfig u := nvmCmd_row hu h

theorem retireArch_row {path : Path} {s u : State} (hu : noteOwner path 0x0C s = u) (h : MayWrite path 0x0C 0x044 (opWord 6 0) s) :
    overPath path (writeReg path 0x0C 0x044 (opWord 6 0)) s = retireCmd u := nvmCmd_row hu h

theorem clearWord_row {path : Path} {s u : State} (hu : noteOwner path 0x0D s = u) (h : MayWrite path 0x0D 0x054 (opWord 1 0) s) :
    overPath path (writeReg path 0x0D 0x054 (opWord 1 0)) s = clearWord u := by
  rw [← hu]
  exact overPath_writeReg (e := ⟨0x054, 0x400, 1, 4, 1, 0, 0, 0, 0, 0, 0, 0xFF000000⟩) (i := 0) (by decide) (by decide) (by decide) rfl rfl (by decide) h
    fun hrws => absurd rfl hrws

/-! ### CLEAR_WORD (R649) -/

/-- In SRAM that serves, CLEAR_WORD stores zero in the ECC word and drops its mark. -/
theorem clearWord_sram {a : Nat} {s : State} (ha : a = s.get F.MEM_CMDADDR_ADDR) (hlo : 0x20000000 ≤ a) (hhi : a < 0x20400000) (hb : bankOff s (bankOf a) = false) :
    ∃ b, clearWord s = { s.setBytes (a / 8 * 8) (List.replicate 8 0) with ecc := adel s.ecc (eccKey a), nvm.memLive := b } := by
  have hkey : eccKey a = a / 8 * 8 := by
    rw [eccKey, if_neg (by omega), if_pos (by omega)]
  unfold clearWord
  simp only [← ha, hlo, hhi, and_self, if_true, hb, Bool.false_eq_true, if_false]
  rw [← hkey]
  split
  · exact ⟨false, rfl⟩
  · exact ⟨s.nvm.memLive, rfl⟩

/-- Bytes that are stored read back one by one. -/
theorem byteAt_setBytes_in {s : State} {a x : Nat} {bs : List Byte} (h : s.memWf = true) (hlo : a ≤ x) (hhi : x < a + bs.length) :
    (s.setBytes a bs).byteAt x = bs[x - a]'(by omega) := by
  have hread := cellRead_cellWrites_in (a := a) (i := x - a) bs (memWf_iff.mp h).1 (by omega)
  rwa [Nat.add_sub_cancel' hlo] at hread

/-! ### Results and the queue (R654, R657) -/

/-- A command that is accepted shows itself as running. -/
theorem nvmRuns_shows {op : Nat} (s : State) (h : op < 256) :
    ∃ r, nvmRuns op s = { s with regs := r } ∧ State.flag { s with regs := r } F.NVM_CSTAT_BUSY = true ∧ State.get { s with regs := r } F.NVM_CSTAT_OP = op := by
  have hbusy : (nvmRuns op s).flag F.NVM_CSTAT_BUSY = true := flag_putB_same _ _ rfl (by decide)
  have hop : (nvmRuns op s).get F.NVM_CSTAT_OP = op := by
    unfold nvmRuns State.putB
    rw [State.get_put_other _ _ _ _ (by decide), State.get_put_other _ _ _ _ (by decide), State.get_put_same _ _ _ (by decide) (by decide)]
    exact Nat.mod_eq_of_lt h
  have hshows : Shows [F.NVM_CSTAT_OP, F.NVM_CSTAT_RESULT, F.NVM_CSTAT_BUSY] s (nvmRuns op s) :=
    (((Shows.refl _ s).put _ _ (by simp) rfl).put _ _ (by simp) rfl).putB _ _ (by simp) rfl
  exact ⟨_, hshows.frame, hshows.frame ▸ hbusy, hshows.frame ▸ hop⟩

/-- The registers in which the end of a command shows. -/
abbrev doneFields : List Fld := [F.NVM_CSTAT_OP, F.NVM_CSTAT_RESULT, F.NVM_CSTAT_BUSY, evtFld E.NVM_CMD_DONE]

/-- A command that has ended shows its result. -/
theorem nvmDone_shows (op : Nat) {result : Nat} (s : State) (h : result < 256) :
    ∃ r, nvmDone op result s = { s with regs := r } ∧ State.flag { s with regs := r } F.NVM_CSTAT_BUSY = false ∧ State.get { s with regs := r } F.NVM_CSTAT_RESULT = result
      ∧ (State.rd { s with regs := r } 0x0C 0x010).getLsbD E.NVM_CMD_DONE.2 = true ∧ KeepsBut doneFields s { s with regs := r } ∧ EventsStay 0x0C s { s with regs := r } := by
  have hputs : Shows doneFields s (((s.put F.NVM_CSTAT_OP op).put F.NVM_CSTAT_RESULT result).putB F.NVM_CSTAT_BUSY false) :=
    (((Shows.refl _ s).put _ _ (by simp) rfl).put _ _ (by simp) rfl).putB _ _ (by simp) rfl
  have hshows : Shows doneFields s (nvmDone op result s) := hputs.raise _ (by simp)
  have hraise (f : Fld) (hf : regKey 0x0C 0x010 ≠ regKey f.page f.off) : (nvmDone op result s).get f = (((s.put F.NVM_CSTAT_OP op).put F.NVM_CSTAT_RESULT result).putB F.NVM_CSTAT_BUSY false).get f :=
    State.get_raise _ hf
  have hbusy : (nvmDone op result s).flag F.NVM_CSTAT_BUSY = false := (congrArg (· == 1) (hraise _ (by decide))).trans (flag_putB_same _ _ rfl (by decide))
  have hresult : (nvmDone op result s).get F.NVM_CSTAT_RESULT = result := by
    rw [hraise _ (by decide), State.putB, State.get_put_other _ _ _ _ (by decide), State.get_put_same _ _ _ (by decide) (by decide)]
    exact Nat.mod_eq_of_lt h
  have hevent : ((nvmDone op result s).rd 0x0C 0x010).getLsbD E.NVM_CMD_DONE.2 = true := State.raise_bit_same _ _ _ (by decide)
  have hcstat : KeepsBut [F.NVM_CSTAT_OP, F.NVM_CSTAT_RESULT, F.NVM_CSTAT_BUSY] s (((s.put F.NVM_CSTAT_OP op).put F.NVM_CSTAT_RESULT result).putB F.NVM_CSTAT_BUSY false) :=
    (((KeepsBut.refl _ s).put _ _ (by simp)).put _ _ (by simp)).putB _ _ (by simp)
  have hstay : EventsStay 0x0C s (nvmDone op result s) := (hcstat.eventsStay 0x0C (by decide)).trans (eventsStay_raise 0x0C _ _)
  exact ⟨_, hshows.frame, hshows.frame ▸ hbusy, hshows.frame ▸ hresult, hshows.frame ▸ hevent, hshows.frame ▸ hshows.keeps, hshows.frame ▸ hstay⟩

/-- The registers in which the queue shows. -/
abbrev queueFields : List Fld := [F.NVM_QUEUE_CHUNKS, F.NVM_QUEUE_KIND]

theorem showQueue_shows (s : State) : Shows queueFields s (showQueue s) :=
  ((Shows.refl queueFields s).put F.NVM_QUEUE_CHUNKS _ (by simp) rfl).put F.NVM_QUEUE_KIND _ (by simp) rfl

/-- Chunks join the queue, which NVM_QUEUE then shows. -/
theorem enqueue_shows (cs : List NvmChunk) (s : State) :
    ∃ r, enqueue cs s = { s with regs := r, nvm.queue := s.nvm.queue ++ cs } ∧ KeepsBut queueFields s { s with regs := r, nvm.queue := s.nvm.queue ++ cs } := by
  have hshows := showQueue_shows { s with nvm.queue := s.nvm.queue ++ cs }
  exact ⟨_, hshows.frame, hshows.frame ▸ hshows.keeps⟩

/-! ### The source's bytes (R656) -/

theorem bytesOfWord_wordAt (s : State) (a : Nat) : bytesOfWord (s.wordAt a) = s.bytesAt a 4 := by
  have hbytes : s.bytesAt a 4 = [s.byteAt a, s.byteAt (a + 1), s.byteAt (a + 2), s.byteAt (a + 3)] := rfl
  rw [State.wordAt, hbytes]
  generalize s.byteAt a = b0, s.byteAt (a + 1) = b1, s.byteAt (a + 2) = b2, s.byteAt (a + 3) = b3
  have h0 := b0.isLt
  have h1 := b1.isLt
  have h2 := b2.isLt
  have h3 := b3.isLt
  simp only [bytesOfWord, bytesNat, List.foldl_cons, List.foldl_nil, BitVec.toNat_ofNat, List.cons.injEq, and_true, ← BitVec.toNat_inj]
  omega

theorem bytesAt_add (s : State) (a m n : Nat) : s.bytesAt a (m + n) = s.bytesAt a m ++ s.bytesAt (a + m) n := by
  simp [State.bytesAt, tabulate, List.range_add, Nat.add_assoc]

/-- A part of the bytes from `a` on. -/
theorem bytesAt_part (s : State) {a m k n : Nat} (h : k + n ≤ m) : ((s.bytesAt a m).drop k).take n = s.bytesAt (a + k) n := by
  obtain ⟨r, rfl⟩ := Nat.exists_eq_add_of_le h
  have hk : (s.bytesAt a k).length = k := by simp [State.bytesAt, tabulate]
  have hn : (s.bytesAt (a + k) n).length = n := by simp [State.bytesAt, tabulate]
  rw [bytesAt_add, bytesAt_add, List.append_assoc, List.drop_left' hk, List.take_left' hn]

/-- Where no word has an error, standing or injected, words read one after another are the bytes of the memory. -/
theorem memReads_clean {s : State} (h : NoEccErrors s) (n a : Nat) : ∃ ws, memReads n a s = (s, some ws) ∧ wordsBytes ws = s.bytesAt a (4 * n) := by
  obtain ⟨hecc, hflip⟩ := id h
  induction n generalizing a with
  | zero => exact ⟨[], rfl, rfl⟩
  | succ n ih =>
    obtain ⟨ws, hws, hbytes⟩ := ih (a + 4)
    have hread : memRead a s = (s, some (s.wordAt a)) := memRead_clean (by rw [hecc]; rfl) fun _ => hflip
    refine ⟨s.wordAt a :: ws, by simp only [memReads, hread, hws], ?_⟩
    rw [Nat.mul_succ, Nat.add_comm (4 * n), bytesAt_add, ← hbytes, ← bytesOfWord_wordAt]
    rfl

theorem sourceBytes_clean {a n : Nat} {s : State} (h : NoEccErrors s) (hin : inPoweredSram s a n = true) : sourceBytes a n s = (s, some (s.bytesAt a n)) := by
  obtain ⟨ws, hws, hbytes⟩ := memReads_clean h (((a + n + 3) / 4 * 4 - a / 4 * 4) / 4) (a / 4 * 4)
  simp only [sourceBytes, hin, Bool.not_true, Bool.false_eq_true, if_false, hws, hbytes]
  rw [bytesAt_part s (by omega), Nat.add_sub_cancel' (Nat.div_mul_le_self a 4)]

/-! ### MODEL_WRITE and PATCH_WRITE (R656, R658) -/

/-- The partition that a write command addresses. -/
theorem partBase_model {slot : Nat} (h : slot < 2) : partBase (3 + slot) = (0x10050000 + slot * 0x100000, 0x100000) := by
  obtain rfl | rfl : slot = 0 ∨ slot = 1 := by omega
  · rfl
  · rfl

/-- The length and the offset of a write to partition `p` that are in range. -/
structure ChunkFits (p : Nat) (s : State) : Prop where
  whole : s.get F.NVM_LEN_LEN % 16 = 0
  least : 16 ≤ s.get F.NVM_LEN_LEN
  most : s.get F.NVM_LEN_LEN ≤ 4096
  aligned : s.get F.NVM_OFS_OFS % 16 = 0
  inside : s.get F.NVM_OFS_OFS + s.get F.NVM_LEN_LEN ≤ (partBase p).2

/-- A write command with its operands in range and its source readable. -/
structure ChunkReady (p : Nat) (s : State) : Prop where
  idle : nvmBusy s = false
  fits : ChunkFits p s
  clean : NoEccErrors s
  powered : inPoweredSram s (s.get F.NVM_SRC_SRC) (s.get F.NVM_LEN_LEN) = true

/-- That an owner has been noted changes nothing that a write command reads. -/
theorem chunkReady_owners {p : Nat} {s : State} (o : List (Nat × Nat)) (h : ChunkReady p s) : ChunkReady p { s with page.owners := o } := by
  obtain ⟨hidle, ⟨hwhole, hleast, hmost, haligned, hinside⟩, ⟨hecc, hflip⟩, hpowered⟩ := h
  exact ⟨hidle, ⟨hwhole, hleast, hmost, haligned, hinside⟩, ⟨hecc, hflip⟩, hpowered⟩

/-- The chunk of a write command that runs. -/
def cmdChunk (op p : Nat) (s : State) : NvmChunk :=
  ⟨6, (partBase p).1 + s.get F.NVM_OFS_OFS, s.bytesAt (s.get F.NVM_SRC_SRC) (s.get F.NVM_LEN_LEN), .cmd op⟩

theorem chunkCmd_ready {op slot p : Nat} {s : State} (hp : (if op = 1 then 3 + slot else 0) = p) (h : ChunkReady p s) :
    chunkCmd op slot s = if op = 1 ∧ slot = s.get F.ARR_CFG_SLOT then nvmRefused op 4 s else
      let t := nvmRuns op s
      let t := if op = 1 ∧ s.get F.NVM_OFS_OFS = 0 then enqueue [zeroHead slot 1 t, zeroHead slot 2 t] (clearSlot slot t) else t
      enqueue [cmdChunk op p s] t := by
  obtain ⟨hidle, ⟨hwhole, hleast, hmost, haligned, hinside⟩, hclean, hpowered⟩ := h
  have hrange : ¬ (s.get F.NVM_LEN_LEN < 16 ∨ 4096 < s.get F.NVM_LEN_LEN ∨ s.get F.NVM_LEN_LEN % 16 ≠ 0 ∨ s.get F.NVM_OFS_OFS % 16 ≠ 0
      ∨ (partBase p).2 < s.get F.NVM_OFS_OFS + s.get F.NVM_LEN_LEN) := by omega
  unfold chunkCmd
  simp only [hp, hidle, Bool.false_eq_true, if_false, hrange, sourceBytes_clean hclean hpowered]
  rfl

theorem chunkCmd_busy {op slot : Nat} {s : State} (h : nvmBusy s = true) : chunkCmd op slot s = nvmRefused op 1 s := if_pos h

theorem chunkCmd_short {op slot : Nat} {s : State} (hidle : nvmBusy s = false) (h : s.get F.NVM_LEN_LEN < 16) : chunkCmd op slot s = nvmRefused op 2 s := by
  simp [chunkCmd, hidle, h]

theorem modelWrite_inForce {slot : Nat} {s : State} (h : ChunkReady (3 + slot) s) (hslot : s.get F.ARR_CFG_SLOT = slot) : chunkCmd 1 slot s = nvmRefused 1 4 s := by
  rw [chunkCmd_ready (op := 1) (slot := slot) rfl h, if_pos ⟨rfl, hslot.symm⟩]

/-- MODEL_WRITE beyond offset 0 of a slot that is not in force runs and queues its chunk. -/
theorem modelWrite_queued {slot : Nat} {s : State} (h : ChunkReady (3 + slot) s) (hslot : s.get F.ARR_CFG_SLOT ≠ slot) (hofs : s.get F.NVM_OFS_OFS ≠ 0) :
    chunkCmd 1 slot s = enqueue [cmdChunk 1 (3 + slot) s] (nvmRuns 1 s) := by
  rw [chunkCmd_ready (op := 1) (slot := slot) rfl h, if_neg fun hc => hslot hc.2.symm]
  simp only [hofs, and_false, if_false]
  rfl

theorem patchWrite_queued {s : State} (h : ChunkReady 0 s) : chunkCmd 3 0 s = enqueue [cmdChunk 3 0 s] (nvmRuns 3 s) := by
  rw [chunkCmd_ready (op := 3) (slot := 0) rfl h, if_neg fun hc => absurd hc.1 (by decide)]
  simp only [Nat.reduceEqDiff, false_and, if_false]

/-- A command that runs and queues a chunk: the queue, and what NVM_CSTAT shows. -/
theorem queued_shows {op : Nat} (c : NvmChunk) (s : State) (h : op < 256) :
    ∃ r, enqueue [c] (nvmRuns op s) = { s with regs := r, nvm.queue := s.nvm.queue ++ [c] } ∧ State.flag { s with regs := r } F.NVM_CSTAT_BUSY = true
      ∧ State.get { s with regs := r } F.NVM_CSTAT_OP = op := by
  obtain ⟨r, hruns, hbusy, hop⟩ := nvmRuns_shows s h
  rw [hruns]
  obtain ⟨r', hqueue, hkeeps⟩ := enqueue_shows [c] { s with regs := r }
  exact ⟨r', hqueue, (hkeeps.flag F.NVM_CSTAT_BUSY (by decide)).trans hbusy, (hkeeps F.NVM_CSTAT_OP (by decide)).trans hop⟩

/-! ### Checks (R343, R344, R657) -/

theorem checkCmd_busy {op slot : Nat} {s : State} (h : nvmBusy s = true) : checkCmd op slot s = nvmRefused op 1 s := if_pos h

theorem checkCmd_idle {op slot : Nat} {s : State} (h : nvmBusy s = false) : checkCmd op slot s = { nvmRuns op s with nvm.checking := some (op, slot) } := if_neg (by simp [h])

theorem checkEnd_none {patch : Option (Nat × Nat)} {s : State} (h : s.nvm.checking = none) : checkEnd patch s = s := by simp [checkEnd, h]

theorem checkEnd_patchless {k : Nat} {s : State} (h : s.nvm.checking = some (4, k)) : checkEnd none s = nvmDone 4 0 { s with nvm.checking := none } := by
  simp [checkEnd, h]

theorem checkEnd_patch {k v n : Nat} {s : State} (h : s.nvm.checking = some (4, k)) :
    checkEnd (some (v, n)) s = nvmDone 4 0 (takePatch v n { s with nvm.checking := none }) := by
  simp [checkEnd, h]

/-- Without standing errors the link processor reads PATCH as it is. -/
theorem patchSound_state {n : Nat} {s : State} (h : s.ecc = []) : (patchSound n s).1 = s := by
  unfold patchSound
  split
  · rfl
  · simp [ownRead, h, ownMarks]

theorem takePatch_accepted {v n : Nat} {s : State} (hecc : s.ecc = []) (h : (patchSound n s).2 = true) (hv : s.otp.patchVer ≤ v) (h64 : v ≤ 64) :
    takePatch v n s = { s with otp.patchVer := v, boot.patchWait := true } := by
  have hsound : patchSound n s = (s, true) := Prod.ext (patchSound_state hecc) h
  simp only [takePatch, hsound]
  exact if_neg (by omega)

theorem takePatch_rejected {v n : Nat} {s : State} (hecc : s.ecc = []) (h : (patchSound n s).2 = false ∨ v < s.otp.patchVer ∨ 64 < v) : takePatch v n s = s := by
  have hstate := patchSound_state (n := n) hecc
  unfold takePatch
  split
  next t hsound =>
    obtain rfl : t = s := by simpa [hsound] using hstate
    exact if_pos (h.resolve_left (by simp [hsound]))
  next t hsound => simpa [hsound] using hstate

/-- The end of a patch check: the patch operand decides what OTP and the boot state take. -/
theorem checkEnd_shows {k : Nat} {patch : Option (Nat × Nat)} {s : State} (h : s.nvm.checking = some (4, k)) (hecc : s.ecc = []) :
    ∃ o b, checkEnd patch s = nvmDone 4 0 { s with otp := o, boot := b, nvm.checking := none }
      ∧ (∀ v n, patch = some (v, n) → (patchSound n { s with nvm.checking := none }).2 = true → s.otp.patchVer ≤ v → v ≤ 64 → o.patchVer = v ∧ b.patchWait = true)
      ∧ (∀ v n, patch = some (v, n) → ((patchSound n { s with nvm.checking := none }).2 = false ∨ v < s.otp.patchVer ∨ 64 < v) → o = s.otp ∧ b = s.boot)
      ∧ (patch = none → o = s.otp ∧ b = s.boot) := by
  match patch with
  | none => exact ⟨s.otp, s.boot, checkEnd_patchless h, nofun, nofun, fun _ => ⟨rfl, rfl⟩⟩
  | some (v, n) =>
    by_cases hrej : (patchSound n { s with nvm.checking := none }).2 = false ∨ v < s.otp.patchVer ∨ 64 < v
    · refine ⟨s.otp, s.boot, (checkEnd_patch h).trans (congrArg _ (takePatch_rejected hecc hrej)), ?_, fun _ _ _ _ => ⟨rfl, rfl⟩, nofun⟩
      rintro _ _ ⟨⟩ hsound hver hmax
      have hno := hrej.resolve_left (by simp [hsound])
      omega
    · obtain ⟨hsound, hver, hmax⟩ := by simpa only [not_or, Bool.not_eq_false, not_lt] using hrej
      refine ⟨{ s.otp with patchVer := v }, { s.boot with patchWait := true }, (checkEnd_patch h).trans (congrArg _ (takePatch_accepted hecc hsound hver hmax)), ?_, ?_, nofun⟩
      · rintro _ _ ⟨⟩ - - -
        exact ⟨rfl, rfl⟩
      · rintro _ _ ⟨⟩ hc
        exact absurd hc hrej

/-! ### SAVE_CONFIG (R660) -/

/-- A reader of the link processor meets the error `e`: what it counts. -/
def markMet (e : EccErr) (s : State) : State :=
  let t := if e = .beyond then s.fresh 17 else s
  match eccDecode s.free (some e) with
  | .data => nvmCorrected false t
  | .wrongData => nvmCorrected false t
  | .check => nvmCorrected true t
  | .uncorr => t.bump F.NVM_CNT_UNCORR
  | _ => t

/-- What it reads does not depend on the state but for the free choices. -/
theorem ownMarks_bytes (base : Nat) (ms : List (Nat × EccErr)) {s t : State} (bs : List Byte) (h : s.free = t.free) :
    (ownMarks base ms s bs).2 = (ownMarks base ms t bs).2 := by
  induction ms generalizing s t bs with
  | nil => rfl
  | cons m ms ih =>
    obtain ⟨a, e⟩ := m
    have hmet : (markMet e s).free = (markMet e t).free := by
      simp only [markMet, h]
      cases e <;> split <;> simp [nvmCorrected, State.fresh, h]
    have hstep (u : State) : (ownMarks base ((a, e) :: ms) u bs).2 =
        ((ownMarks base ms (markMet e u) (if eccDecode u.free (some e) = .wrongData ∨ eccDecode u.free (some e) = .wrongClean
          then bs.take (a - base) ++ (tabulate 16 fun i => Config.freeByte (u.free + 1 + i)) ++ bs.drop (a - base + 16) else bs)).2.map id
            fun ok => ok && eccDecode u.free (some e) != .uncorr) := rfl
    simp only [hstep, ih _ hmet, h]

theorem readCfg_page (c : Nat) (s : State) (g : PageSt) : (readCfg c { s with page := g }).2 = (readCfg c s).2 := by
  have hread (a n : Nat) : (ownRead a n { s with page := g }).2 = (ownRead a n s).2 := ownMarks_bytes _ _ _ rfl
  have hword (i : Nat) : cfgWord { s with page := g } c i = cfgWord s c i := rfl
  unfold readCfg
  simp only [hword]
  split
  · rfl
  · have hb := hread (copyBase c) (cfgWord s c 2).toNat
    rcases hs : ownRead (copyBase c) (cfgWord s c 2).toNat s with ⟨u, bs, ok⟩
    rcases ht : ownRead (copyBase c) (cfgWord s c 2).toNat { s with page := g } with ⟨u', bs', ok'⟩
    rw [hs, ht] at hb
    obtain ⟨rfl, rfl⟩ := Prod.mk.inj hb
    dsimp only
    split
    · rfl
    · split <;> rfl

theorem topSeq_page (s : State) (g : PageSt) : topSeq { s with page := g } = topSeq s := by simp only [topSeq, cfgSeq, readCfg_page]

theorem saveConfig_waits {s : State} (hidle : nvmBusy s = false) (h : topSeq s ≠ 0xFFFFFFFF) : saveConfig s = { nvmRuns 5 s with nvm.savePend := true } := by
  simp [saveConfig, hidle, h]

/-! ### RETIRE_ARCH (R667) -/

theorem wordsBytes_length (ws : List Word) : (wordsBytes ws).length = 4 * ws.length := by
  induction ws with
  | nil => rfl
  | cons w ws ih =>
    have hcons : wordsBytes (w :: ws) = bytesOfWord w ++ wordsBytes ws := rfl
    rw [hcons, List.length_append, ih, List.length_cons, show (bytesOfWord w).length = 4 from rfl]
    omega

theorem sysWords_length (seq : Nat) (s : State) : (sysWords seq s).length = 17 := by simp [sysWords, causeWords, tabulate]

/-- A system record is queued as three chunks: its header as zero, its body, its header. -/
theorem systemChunks_length (kind a seq : Nat) (first last : NvmTag) (s : State) : (recordChunks kind a first last (pad16 (wordsBytes (sysWords seq s)))).length = 3 := by
  have hlen : (pad16 (wordsBytes (sysWords seq s))).length = 80 := by
    simp [pad16, wordsBytes_length, sysWords_length]
  simp [recordChunks, tabulate, hlen]

/-- The system record joins the queue in three chunks. -/
theorem queueSystem_shows (s : State) : ∃ r n, queueSystem s = { s with regs := r, nvm := n } ∧ n.queue.length = s.nvm.queue.length + 3
    ∧ KeepsBut queueFields s { s with regs := r, nvm := n } := by
  obtain ⟨seq, c, cs, hlen, hcs⟩ : ∃ seq c cs, cs.length = 3 ∧ queueSystem s = enqueue cs { s with nvm.sysSeq := seq, nvm.sysCopy := c } :=
    ⟨_, _, _, systemChunks_length .., rfl⟩
  obtain ⟨r, hqueue, hkeeps⟩ := enqueue_shows cs { s with nvm.sysSeq := seq, nvm.sysCopy := c }
  exact ⟨r, { s.nvm with sysSeq := seq, sysCopy := c, queue := s.nvm.queue ++ cs }, hcs.trans hqueue, by simp [hlen], hkeeps⟩

/-- The state in which the retirement of ARCHIVE shows; the system record is still to be queued. -/
def archRetired (s : State) : State := ((s.putB F.NVM_STAT_ARCH_RETIRED true).putB F.REC_STAT_RETIRED true).raise E.NVM_ARCH_RETIRED

theorem archRetired_shows (s : State) : ∃ r, archRetired s = { s with regs := r } ∧ State.flag { s with regs := r } F.NVM_STAT_ARCH_RETIRED = true
    ∧ State.flag { s with regs := r } F.REC_STAT_RETIRED = true ∧ (State.rd { s with regs := r } 0x0C 0x010).getLsbD E.NVM_ARCH_RETIRED.2 = true := by
  have hraise (f : Fld) (hf : Clear (evtFld E.NVM_ARCH_RETIRED) f) (t : State) : (t.raise E.NVM_ARCH_RETIRED).flag f = t.flag f :=
    ((KeepsBut.refl [evtFld E.NVM_ARCH_RETIRED] t).raise _ (by simp)).flag f (by simpa using hf)
  have hnvm : (archRetired s).flag F.NVM_STAT_ARCH_RETIRED = true := (hraise _ (by decide) _).trans ((flag_put_of_clear _ _ (by decide)).trans (flag_putB_same _ _ rfl (by decide)))
  have hrec : (archRetired s).flag F.REC_STAT_RETIRED = true := (hraise _ (by decide) _).trans (flag_putB_same _ _ rfl (by decide))
  have hevent : ((archRetired s).rd 0x0C 0x010).getLsbD E.NVM_ARCH_RETIRED.2 = true := State.raise_bit_same _ _ _ (by decide)
  have hshows : Shows [F.NVM_STAT_ARCH_RETIRED, F.REC_STAT_RETIRED, evtFld E.NVM_ARCH_RETIRED] s (archRetired s) :=
    (((Shows.refl _ s).putB _ _ (by simp) rfl).putB _ _ (by simp) rfl).raise _ (by simp)
  exact ⟨_, hshows.frame, hshows.frame ▸ hnvm, hshows.frame ▸ hrec, hshows.frame ▸ hevent⟩

theorem retireCmd_retires {s : State} (hidle : nvmBusy s = false) (hno : s.flag F.NVM_STAT_ARCH_RETIRED = false) (hbusy : archBusy s = false) :
    retireCmd s = nvmDone 6 0 (queueSystem (archRetired s)) := by
  simp [retireCmd, retireArchive, archRetired, hidle, hno, hbusy]

theorem retireCmd_again {s : State} (hidle : nvmBusy s = false) (h : s.flag F.NVM_STAT_ARCH_RETIRED = true) : retireCmd s = nvmRefused 6 6 s := by
  simp [retireCmd, hidle, h]

/-- RETIRE_ARCH that retires ARCHIVE: what shows, and the record that is queued. -/
theorem retired_shows (s : State) : ∃ r n, nvmDone 6 0 (queueSystem (archRetired s)) = { s with regs := r, nvm := n } ∧ n.queue.length = s.nvm.queue.length + 3
    ∧ State.flag { s with regs := r } F.NVM_STAT_ARCH_RETIRED = true ∧ State.flag { s with regs := r } F.REC_STAT_RETIRED = true
    ∧ (State.rd { s with regs := r } 0x0C 0x010).getLsbD E.NVM_ARCH_RETIRED.2 = true ∧ State.get { s with regs := r } F.NVM_CSTAT_RESULT = 0 := by
  obtain ⟨r1, harch, hnvm, hrec, hevent⟩ := archRetired_shows s
  rw [harch]
  obtain ⟨r2, n, hqueue, hlen, hkept⟩ := queueSystem_shows { s with regs := r1 }
  rw [hqueue]
  obtain ⟨r3, hdone, -, hresult, -, hkeeps, hstay⟩ := nvmDone_shows 6 (result := 0) { s with regs := r2, nvm := n } (by decide)
  refine ⟨r3, n, hdone, hlen, ?_, ?_, ?_, hresult⟩
  · exact ((hkeeps.flag _ (by decide)).trans (hkept.flag _ (by decide))).trans hnvm
  · exact ((hkeeps.flag _ (by decide)).trans (hkept.flag _ (by decide))).trans hrec
  · exact hstay _ (hkept.eventsStay 0x0C (by decide) _ hevent)

/-! ### The statement -/

/-- Settles O54: each row is its operation after the note of its path's rank, and each operation's outcome is stated above. -/
theorem nvmCommands : Obligations.NvmCommands := by
  intro s path h
  obtain ⟨o, hg⟩ := noteOwner_ownersOnly path 0x0C s
  obtain ⟨m, hm⟩ := noteOwner_pageOnly path 0x0D s
  simp only [hg, hm]
  refine ⟨fun a ha hlo hhi hb hwf hw => ?_, fun slot hs hwhole hleast hmost haligned hclean hpowered hidle => ⟨fun hw hin hofs => ?_, fun hw hin => ?_⟩,
    fun slot hs hidle hw hlen => ?_, fun slot hs hbusy => ⟨fun hw => ?_, fun hw => ?_⟩, fun slot hs hidle hw => ?_, fun hidle hw => ?_, fun k patch hck hclean => ?_,
    fun patch hck => act_next h (checkEnd_none hck) rfl rfl rfl rfl, fun hw hidle htop => ?_, fun hw hidle hno hbusy => ?_, fun hw hidle hre => ?_⟩
  · obtain ⟨b, hclear⟩ := clearWord_sram (s := { s with page := m }) ha hlo hhi hb
    refine ⟨_, act_next h ((clearWord_row hm hw).trans hclear) rfl rfl rfl rfl, fun x hx hx' => ?_, fun x hx => ?_, rfl, rfl⟩
    · exact (byteAt_setBytes_in hwf hx (by simpa using hx')).trans (List.getElem_replicate _)
    · exact byteAt_setBytes_out _ hwf (by simpa using hx)
  · have hready : ChunkReady (3 + slot) { s with page.owners := o } :=
      chunkReady_owners o ⟨hidle, ⟨hwhole, hleast, hmost, haligned, by rwa [partBase_model hs]⟩, hclean, hpowered⟩
    refine ⟨fun hslot => ?_, fun hslot => act_next h ((modelWrite_row hg hs hw).trans (modelWrite_inForce hready hslot)) rfl rfl rfl rfl⟩
    obtain ⟨r, heff, hbusy, hop⟩ := queued_shows (op := 1) (cmdChunk 1 (3 + slot) { s with page.owners := o }) { s with page.owners := o } (by decide)
    have hqueued := (modelWrite_queued hready hslot hofs).trans heff
    rw [cmdChunk, partBase_model hs] at hqueued
    exact ⟨_, act_next h ((modelWrite_row hg hs hw).trans hqueued) rfl rfl rfl rfl, rfl, hbusy, hop, rfl⟩
  · have hready : ChunkReady 0 { s with page.owners := o } := chunkReady_owners o ⟨hidle, ⟨hwhole, hleast, hmost, haligned, hin⟩, hclean, hpowered⟩
    obtain ⟨r, heff, hbusy, hop⟩ := queued_shows (op := 3) (cmdChunk 3 0 { s with page.owners := o }) { s with page.owners := o } (by decide)
    exact ⟨_, act_next h ((patchWrite_row hg hw).trans ((patchWrite_queued hready).trans heff)) rfl rfl rfl rfl, rfl, hbusy, hop, rfl⟩
  · exact act_next h ((modelWrite_row hg hs hw).trans (chunkCmd_short hidle hlen)) rfl rfl rfl rfl
  · exact act_next h ((modelWrite_row hg hs hw).trans (chunkCmd_busy hbusy)) rfl rfl rfl rfl
  · exact act_next h ((modelCheck_row hg hs hw).trans (checkCmd_busy hbusy)) rfl rfl rfl rfl
  · obtain ⟨r, hruns, hbusy, hop⟩ := nvmRuns_shows (op := 2) { s with page.owners := o } (by decide)
    have heff := checkCmd_idle (op := 2) (slot := slot) (s := { s with page.owners := o }) hidle
    rw [hruns] at heff
    exact ⟨_, act_next h ((modelCheck_row hg hs hw).trans heff) rfl rfl rfl rfl, rfl, hbusy, hop, rfl⟩
  · obtain ⟨r, hruns, hbusy, hop⟩ := nvmRuns_shows (op := 4) { s with page.owners := o } (by decide)
    have heff := checkCmd_idle (op := 4) (slot := 0) (s := { s with page.owners := o }) hidle
    rw [hruns] at heff
    exact ⟨_, act_next h ((patchCheck_row hg hw).trans heff) rfl rfl rfl rfl, rfl, hbusy, hop, rfl⟩
  · obtain ⟨otp, boot, hend, haccept, hreject, hnone⟩ := checkEnd_shows (patch := patch) hck hclean.1
    obtain ⟨r, hdone, hbusy, hresult, hevent, -, -⟩ := nvmDone_shows 4 (result := 0) { s with otp := otp, boot := boot, nvm.checking := none } (by decide)
    refine ⟨_, act_next h (hend.trans hdone) rfl rfl rfl rfl, hbusy, hresult, rfl, hevent, haccept, hreject, fun hp => ?_⟩
    obtain ⟨rfl, rfl⟩ := hnone hp
    rfl
  · obtain ⟨r, hruns, hbusy, hop⟩ := nvmRuns_shows (op := 5) { s with page.owners := o } (by decide)
    have heff := saveConfig_waits (s := { s with page.owners := o }) hidle (by rwa [topSeq_page])
    rw [hruns] at heff
    exact ⟨_, act_next h ((saveConfig_row hg hw).trans heff) rfl rfl rfl rfl, rfl, hbusy, hop, rfl⟩
  · obtain ⟨r, n, hretired, hlen, hnvm, hrec, hevent, hresult⟩ := retired_shows { s with page.owners := o }
    have heff := (retireCmd_retires (s := { s with page.owners := o }) hidle hno hbusy).trans hretired
    exact ⟨_, act_next h ((retireArch_row hg hw).trans heff) rfl rfl rfl rfl, hnvm, hrec, hevent, hresult, hlen, rfl⟩
  · exact act_next h ((retireArch_row hg hw).trans (retireCmd_again hidle hre)) rfl rfl rfl rfl

end Sys2Proof.Machine
end

section
/-! The sensor front end and its lanes: excitation pulses, conversions and their results, urgent requests, calibrations and compliance (chapters 09 and 10). Settles O46. -/

namespace Sys2Proof.Machine

/-! ### Lanes by number -/

theorem setLane_ana (n : Nat) (l : Lane) (s : State) : setLane n l s = { s with ana := (setLane n l s).ana } := by
  unfold setLane
  split <;> rfl

theorem laneOf_of_ana {s t : State} (h : t.ana = s.ana) (n : Nat) : laneOf t n = laneOf s n := by
  unfold laneOf
  rw [h]

theorem convOf_of_ana {s t : State} (h : t.ana = s.ana) (n : Nat) : convOf t n = convOf s n := congrArg Lane.conv (laneOf_of_ana h n)

theorem laneOf_setLane_same {n : Nat} (l : Lane) (s : State) (hn : n < 6) : laneOf (setLane n l s) n = l := by
  interval_cases n <;> rfl

theorem laneOf_setLane_ne {n m : Nat} (l : Lane) (s : State) (hm : m < 6) (h : m ≠ n) : laneOf (setLane n l s) m = laneOf s m := by
  unfold setLane
  split <;> interval_cases m <;> simp_all [laneOf]

theorem laneOf_setConv_same {n : Nat} (c : Option Conv) (s : State) (hn : n < 6) : laneOf (setConv n c s) n = { laneOf s n with conv := c } := laneOf_setLane_same _ _ hn

theorem convOf_setConv_same {n : Nat} (c : Option Conv) (s : State) (hn : n < 6) : convOf (setConv n c s) n = c := congrArg Lane.conv (laneOf_setConv_same c s hn)

/-! ### What the operations of the front end leave alone -/

/-- From `s` to `t` only words at normal addresses and the state of the front end and its lanes change, and every field keeps its value that is clear of the fields listed. -/
structure LaneShows (gs : List Fld) (s t : State) : Prop where
  frame : t = { s with regs := t.regs, ana := t.ana }
  keeps : KeepsBut gs s t

theorem LaneShows.refl (gs : List Fld) (s : State) : LaneShows gs s s := ⟨rfl, .refl gs s⟩

theorem LaneShows.trans {gs : List Fld} {s t u : State} (h : LaneShows gs s t) (k : LaneShows gs t u) : LaneShows gs s u := by
  refine ⟨?_, h.keeps.trans k.keeps⟩
  rw [k.frame, h.frame]

theorem LaneShows.mono {gs hs : List Fld} {s t : State} (h : LaneShows gs s t) (hsub : gs ⊆ hs) : LaneShows hs s t := ⟨h.frame, h.keeps.mono hsub⟩

theorem Shows.laneShows {gs : List Fld} {s t : State} (h : Shows gs s t) : LaneShows gs s t := by
  refine ⟨?_, h.keeps⟩
  rw [h.frame]

theorem laneShows_ana {gs : List Fld} (s : State) (a : Ana) : LaneShows gs s { s with ana := a } := ⟨rfl, (KeepsBut.refl gs s).words rfl rfl⟩

theorem LaneShows.setLane {gs : List Fld} {s t : State} (h : LaneShows gs s t) (n : Nat) (l : Lane) : LaneShows gs s (setLane n l t) := by
  rw [setLane_ana]
  exact h.trans (laneShows_ana t _)

theorem LaneShows.setConv {gs : List Fld} {s t : State} (h : LaneShows gs s t) (n : Nat) (c : Option Conv) : LaneShows gs s (setConv n c t) := h.setLane n _

theorem LaneShows.put {gs : List Fld} {s t : State} (h : LaneShows gs s t) (g : Fld) (v : Nat) (hg : g ∈ gs) (hr : g.rws = false) : LaneShows gs s (t.put g v) :=
  h.trans ((Shows.refl gs t).put g v hg hr).laneShows

theorem LaneShows.putB {gs : List Fld} {s t : State} (h : LaneShows gs s t) (g : Fld) (b : Bool) (hg : g ∈ gs) (hr : g.rws = false) : LaneShows gs s (t.putB g b) :=
  h.put g _ hg hr

theorem LaneShows.bump {gs : List Fld} {s t : State} (h : LaneShows gs s t) (g : Fld) (hg : g ∈ gs) (hr : g.rws = false) : LaneShows gs s (t.bump g) := h.put g _ hg hr

theorem LaneShows.raise {gs : List Fld} {s t : State} (h : LaneShows gs s t) (e : Nat × Nat) (he : evtFld e ∈ gs) : LaneShows gs s (t.raise e) :=
  h.trans ((Shows.refl gs t).raise e he).laneShows

theorem LaneShows.armedAt {gs : List Fld} {s t : State} (h : LaneShows gs s t) (p pt : Nat) : t.armedAt p pt = s.armedAt p pt := by
  rw [h.frame]
  rfl

theorem LaneShows.otp {gs : List Fld} {s t : State} (h : LaneShows gs s t) : t.otp = s.otp := by rw [h.frame]

/-- A command that touches nothing but the front end ends quietly. -/
theorem act_lanes {f : State → State} {s t : State} (h : Ready s) (hf : f s = t) (ht : t = { s with regs := t.regs, ana := t.ana }) : act f s = .next t :=
  act_next h hf (by rw [ht]) (by rw [ht]) (by rw [ht]) (by rw [ht])

/-- A command that does nothing ends quietly. -/
theorem act_still {f : State → State} {s : State} (h : Ready s) (hf : f s = s) : act f s = .next s := act_next h hf rfl rfl rfl rfl

theorem clear_of_page_lt {g f : Fld} (h : g.page < f.page) (hg : g.off < 0x400) : Clear g f := .inl (by unfold regKey; omega)

/-- The fields in which the pins and sources that are on show. -/
abbrev pinFields : List Fld := [F.XPT_PINSTAT_DRIVEN, F.XPT_PINSTAT_CONNECTED, F.EXC_STAT_ON]

theorem showPins_shows (s : State) : Shows pinFields s (showPins s) := by
  unfold showPins
  exact (((Shows.refl _ s).put _ _ (by simp) rfl).put _ _ (by simp) rfl).put _ _ (by simp) rfl

theorem showPins_ana (s : State) : (showPins s).ana = s.ana := by
  rw [(showPins_shows s).frame]

theorem pinFields_clear {f : Fld} (hf : 0x21 < f.page) : ∀ g ∈ pinFields, Clear g f := by
  simp only [List.forall_mem_cons, List.not_mem_nil, false_imp_iff, implies_true, and_true]
  exact ⟨clear_of_page_lt (by dsimp only; omega) (by decide), clear_of_page_lt (by dsimp only; omega) (by decide), clear_of_page_lt hf (by decide)⟩

theorem showPins_get (s : State) {f : Fld} (hf : 0x21 < f.page) : (showPins s).get f = s.get f := (showPins_shows s).keeps f (pinFields_clear hf)

theorem showPins_flag (s : State) {f : Fld} (hf : 0x21 < f.page) : (showPins s).flag f = s.flag f := congrArg (· == 1) (showPins_get s hf)

/-! ### Pulses (R355, R357) -/

theorem excitationStart_none {n : Nat} {s : State} (hc : convOf s n = none) : excitationStart n s = s := by simp only [excitationStart, hc]

theorem excitationStart_notDue {n : Nat} {c : Conv} {s : State} (hc : convOf s n = some c) (hd : pulseDue s c = false) : excitationStart n s = s := by
  simp [excitationStart, hc, hd]

theorem excitationStart_due {n : Nat} {c : Conv} {s : State} (hc : convOf s n = some c) (hd : pulseDue s c = true) : excitationStart n s = pulseStart n c s := by
  simp [excitationStart, hc, hd]

theorem pulseDue_of {c : Conv} {s : State} (hana : anaOn s = true) (hp : pulsed c = true) (hoff : c.pulseOn = false) (hrun : c.running = false) (hw : c.waits = false)
    (hlo : 10000 * c.age ≤ 288 * c.ofs) (hhi : 288 * c.ofs < 10000 * (c.age + tickUnits s)) : pulseDue s c = true := by
  simp [pulseDue, isNow, pulseAt, *]

/-- A pulse that no other lane keeps from starting goes on, and the pins show it. -/
theorem pulseStart_free {n : Nat} {c : Conv} {s : State} (hb : blocker s n c = none) (harm : s.armedAt 0x21 1 = false) :
    pulseStart n c s = showPins (setConv n (some { c with pulseOn := true }) s) := by
  have harm' : (setConv n (some { c with pulseOn := true }) s).armedAt 0x21 1 = false := (((LaneShows.refl [] s).setConv _ _).armedAt _ _).trans harm
  simp only [pulseStart, hb, harm', Bool.false_eq_true, if_false]
  split <;> rfl

theorem pulseStart_blocked {n m : Nat} {b : Bool} {c : Conv} {s : State} (hb : blocker s n c = some (m, b)) : pulseStart n c s = pulseWaits n m b s := by
  simp only [pulseStart, hb]

/-- What a lane keeps that waits: an urgent conversion keeps its place. -/
def waitingConv (c : Conv) : Option Conv := if c.kind = .urgent ∨ c.kind = .urgentLead then some { c with waits := true } else none

/-- Lane `n` waits with conversion `c`, and it is counted. -/
def laneWaits (n : Nat) (c : Conv) (s : State) : State := setConv n (waitingConv c) (s.bump F.EXC_CNT_WAIT)

theorem pulseWaits_eq {n m : Nat} {b : Bool} {c : Conv} {s : State} (hc : convOf s n = some c) :
    ∃ k, pulseWaits n m b s = { laneWaits n c s with ana.contests := k } := by
  have hwait : (if forUrgent c then some { c with waits := true } else none) = waitingConv c := by simp [waitingConv, forUrgent]
  simp only [pulseWaits, hc, hwait]
  cases b
  · exact ⟨_, rfl⟩
  · exact ⟨_, rfl⟩

theorem laneWaits_shows (n : Nat) (c : Conv) (s : State) : LaneShows [F.EXC_CNT_WAIT] s (laneWaits n c s) := ((LaneShows.refl _ s).bump _ (by simp) rfl).setConv _ _

theorem laneWaits_count (n : Nat) (c : Conv) (s : State) : (laneWaits n c s).get F.EXC_CNT_WAIT = satTo 65535 (s.get F.EXC_CNT_WAIT + 1) := by
  have hkeeps := ((LaneShows.refl [] (s.bump F.EXC_CNT_WAIT)).setConv n (waitingConv c)).keeps F.EXC_CNT_WAIT (by simp)
  rw [satTo_eq_min]
  exact hkeeps.trans (State.get_bump_same s F.EXC_CNT_WAIT (by decide) (by decide))

/-! ### Conversions start (R355, R383) -/

theorem laneStart_none {n : Nat} {s : State} (hc : convOf s n = none) : laneStart n s = s := by simp only [laneStart, hc]

theorem laneStart_notDue {n : Nat} {c : Conv} {s : State} (hc : convOf s n = some c) (hd : startDue s c = false) : laneStart n s = s := by simp [laneStart, hc, hd]

theorem startDue_of {c : Conv} {s : State} (hana : anaOn s = true) (hrun : c.running = false) (hw : c.waits = false) (hp : pulsed c = true → c.pulseOn = true)
    (hlo : 10000 * c.age ≤ 288 * (c.ofs + c.v.settle)) (hhi : 288 * (c.ofs + c.v.settle) < 10000 * (c.age + tickUnits s)) : startDue s c = true := by
  have hpulse : (!pulsed c || c.pulseOn) = true := by
    cases h : pulsed c with
    | false => rfl
    | true => simp [hp h]
  simp [startDue, isNow, startAt, *]

/-- Conversion `c` of lane `n` as it runs from now on. -/
def startedConv (n : Nat) (c : Conv) (s : State) : Conv :=
  { c with running := true, byLs := standsIn s n, dist := (adacOf s c.v.auxDac).dist, disturbed := dacDisturbed s c.v.auxDac }

/-- Lane `n` runs conversion `d`, and LANE_STAT shows it. -/
def conversionShown (n : Nat) (d : Conv) (s : State) : State :=
  let u := (setLane n { laneOf s n with conv := some d, since := d.ticks } s).putB (F.LANE_STAT_CONVERTING n) true
  match d.kind with
  | .main e => u.put (F.LANE_STAT_ENTRY n) e
  | _ => u

theorem laneStart_due {n : Nat} {c : Conv} {s : State} (hc : convOf s n = some c) (hd : startDue s c = true) :
    laneStart n s = showPins (conversionShown n (startedConv n c s) s) := by
  simp only [laneStart, hc, hd, Bool.not_true, Bool.false_eq_true, if_false]
  rfl

theorem conversionShown_shows (n : Nat) (d : Conv) (s : State) : LaneShows [F.LANE_STAT_CONVERTING n, F.LANE_STAT_ENTRY n] s (conversionShown n d s) := by
  have hrun := ((LaneShows.refl [F.LANE_STAT_CONVERTING n, F.LANE_STAT_ENTRY n] s).setLane n { laneOf s n with conv := some d, since := d.ticks }).putB
    (F.LANE_STAT_CONVERTING n) true (by simp) rfl
  unfold conversionShown
  split
  · exact hrun.put _ _ (by simp) rfl
  · exact hrun

theorem conversionShown_conv {n : Nat} (d : Conv) (s : State) (hn : n < 6) : convOf (conversionShown n d s) n = some d := by
  have hset := congrArg Lane.conv (laneOf_setLane_same { laneOf s n with conv := some d, since := d.ticks } s hn)
  unfold conversionShown
  split
  · exact (convOf_of_ana (by simp) n).trans hset
  · exact (convOf_of_ana (by simp) n).trans hset

theorem converting_clear_of_entry (n : Nat) : Clear (F.LANE_STAT_ENTRY n) (F.LANE_STAT_CONVERTING n) := .inr ⟨rfl, rfl, by simp, by simp⟩

theorem conversionShown_converting (n : Nat) (d : Conv) (s : State) : (conversionShown n d s).flag (F.LANE_STAT_CONVERTING n) = true := by
  have hset (u : State) : (u.putB (F.LANE_STAT_CONVERTING n) true).flag (F.LANE_STAT_CONVERTING n) = true := flag_putB_same u true rfl (by simp)
  unfold conversionShown
  split
  · exact (flag_put_of_clear _ _ (converting_clear_of_entry n)).trans (hset _)
  · exact hset _

theorem conversionShown_entry {n e : Nat} {d : Conv} (s : State) (hk : d.kind = .main e) : (conversionShown n d s).get (F.LANE_STAT_ENTRY n) = e % 16 := by
  simp only [conversionShown, hk]
  exact State.get_put_same _ (F.LANE_STAT_ENTRY n) e (by simp) (by simp)

/-! ### Results (R352, R353, R386) -/

theorem filterSample_pos (g : Nat) {vref : Nat} (v : Int) (h : 0 < vref) :
    filterSample g vref v = clampInt (-8388608) 8388607 (halfUp (v * 2 ^ g * 2 ^ 23) vref) := by
  have hne : ¬ (vref : Int) = 0 := by omega
  have hpos : 0 < (vref : Int) := by omega
  simp only [filterSample, if_neg hne, if_pos hpos, Int.natAbs_natCast]

theorem clampInt_bounds {lo hi : Int} (x : Int) (h : lo ≤ hi) : lo ≤ clampInt lo hi x ∧ clampInt lo hi x ≤ hi := by
  unfold clampInt
  split
  · exact ⟨le_rfl, h⟩
  · split <;> omega

/-- The code in bits [31:8] of a result word is the clamped result. -/
theorem resultWord_code (x : Int) {fl : Nat} (h : fl < 256) :
    signed 24 (getBits (BitVec.ofNat 32 (toCode 24 (clampInt (-8388608) 8388607 x) * 256 + fl)) 31 8) = clampInt (-8388608) 8388607 x := by
  obtain ⟨hlo, hhi⟩ := clampInt_bounds (lo := -8388608) (hi := 8388607) x (by decide)
  have hcode : toCode 24 (clampInt (-8388608) 8388607 x) < 2 ^ 24 := toCode_lt 24 _
  have hbits : getBits (BitVec.ofNat 32 (toCode 24 (clampInt (-8388608) 8388607 x) * 256 + fl)) 31 8 = toCode 24 (clampInt (-8388608) 8388607 x) := by
    simp only [getBits, BitVec.toNat_ofNat]
    omega
  rw [hbits]
  exact signed_toCode (by decide) hlo (by omega)

theorem dCorrected_plain (n : Nat) {c : Conv} (d : Int) (s : State) (h : c.v.lead = 0) : dCorrected s n c d = d := by simp [dCorrected, h]

theorem dCode_own {n : Nat} {c : Conv} (samples : List Int) (s : State) (h : c.byLs = false) :
    dCode s n c samples = dCal (dRaw samples c.avg) (laneOfs s n c.v.gain) (laneGain s n c.v.gain) := by simp [dCode, h]

/-- The result of lane `n` leaves the lane but for its SWAPPED mark, counts a clip, and carries the clamped code. -/
theorem resultOf_shows {n : Nat} (c : Conv) (samples : List Int) (dc : Int) {s : State} (hn : n < 6) (harm : s.armedAt (0x22 + n) 1 = false) :
    ∃ u w, resultOf n c samples dc s = (u, w) ∧ LaneShows [F.LANE_CNT_CLIP n] s u ∧ laneOf u n = { laneOf s n with swapped := false }
      ∧ signed 24 (getBits w 31 8) = clampInt (-8388608) 8388607 dc := by
  unfold resultOf
  extract_lets inj s1 clip l a dist fl s2 s3
  have hs1 : s1 = s := if_neg (by simp [inj, harm])
  have hs2 : LaneShows [F.LANE_CNT_CLIP n] s s2 := hs1 ▸ (LaneShows.refl _ s1).setLane n _
  have hlane : laneOf s2 n = { laneOf s n with swapped := false } := hs1 ▸ laneOf_setLane_same _ _ hn
  have hfl : fl < 256 := by
    have hb (b : Bool) : b2n b ≤ 1 := by cases b <;> decide
    unfold fl
    have := hb l.swapped
    have := hb (s1.flag (openF c.setup))
    have := hb c.compl
    have := hb (s1.flag (lchgF c.setup))
    have := hb dist
    have := hb clip
    omega
  refine ⟨s3, _, rfl, ?_, ?_, resultWord_code dc hfl⟩
  · unfold s3
    split
    · exact hs2.bump _ (by simp) rfl
    · exact hs2
  · unfold s3
    split
    · exact (laneOf_of_ana (by simp) n).trans hlane
    · exact hlane

/-! ### The end of a pulse (R359, R378) -/

/-- A pulse that ends counts its charge, keeps which sources had compliance, and clears the COMPL bit of its source. -/
theorem pulseOff_cases (c : Conv) (at_ : Nat) (s : State) : ∃ q p v, pulseOff c at_ s = { s with ana.charge := q, ana.complPrev := p }
    ∨ pulseOff c at_ s = { s.put F.EXC_STAT_COMPL v with ana.charge := q, ana.complPrev := p } := by
  unfold pulseOff
  split
  · exact ⟨_, _, 0, .inl rfl⟩
  · split
    · split
      · exact ⟨_, _, _, .inr rfl⟩
      · exact ⟨_, _, _, .inr rfl⟩
    · exact ⟨_, _, 0, .inl rfl⟩

theorem pulseEnd_shows (c : Conv) (s : State) : LaneShows [F.EXC_STAT_COMPL] s (pulseEnd c s) := by
  obtain ⟨q, p, v, h | h⟩ := pulseOff_cases c (pulseTime c) s
  · rw [pulseEnd, h]
    exact laneShows_ana s _
  · rw [pulseEnd, h]
    exact ((LaneShows.refl _ s).put _ v (by simp) rfl).trans (laneShows_ana _ _)

theorem pulseEnd_lane (c : Conv) (s : State) (n : Nat) : laneOf (pulseEnd c s) n = laneOf s n := by
  obtain ⟨q, p, v, h | h⟩ := pulseOff_cases c (pulseTime c) s
  · rw [pulseEnd, h]
    rfl
  · rw [pulseEnd, h]
    rfl

theorem pulseEnd_word {k : Nat} (c : Conv) (s : State) (hk : regKey 0x21 0x058 ≠ k) : aget (pulseEnd c s).regs k = aget s.regs k := by
  obtain ⟨q, p, v, h | h⟩ := pulseOff_cases c (pulseTime c) s
  · rw [pulseEnd, h]
  · rw [pulseEnd, h]
    exact aget_aset_ne _ _ hk

theorem pulseEnd_laneOfs (c : Conv) (s : State) (n g : Nat) : laneOfs (pulseEnd c s) n g = laneOfs s n g := by
  simp only [laneOfs, (pulseEnd_shows c s).otp, pulseEnd_word (k := regKey (0x22 + n) (0x100 + 8 * g)) c s (by unfold regKey; omega)]

theorem pulseEnd_laneGain (c : Conv) (s : State) (n g : Nat) : laneGain (pulseEnd c s) n g = laneGain s n g := by
  simp only [laneGain, (pulseEnd_shows c s).otp, pulseEnd_word (k := regKey (0x22 + n) (0x104 + 8 * g)) c s (by unfold regKey; omega)]

theorem pulseEnd_lsFor (c : Conv) (s : State) (n : Nat) : lsFor (pulseEnd c s) n = lsFor s n :=
  congrArg (· == n) ((pulseEnd_shows c s).keeps F.LANES_LS_FOR (by decide))

/-! ### A main conversion ends (R386–R388) -/

theorem keepPair_other {n e : Nat} {c : Conv} {d : Int} {par : List Int} {s : State} (h : lsFor s n = false) : keepPair n e c d par s = s := by simp [keepPair, h]

/-- The result of a lane's own main conversion waits for the boundary of R11. -/
theorem mainEnd_shows {n e : Nat} {c : Conv} (samples par : List Int) {s : State} (hn : n < 6) (hls : c.byLs = false) (hlead : c.v.lead = 0) (hfor : lsFor s n = false)
    (harm : s.armedAt (0x22 + n) 1 = false) :
    ∃ w, LaneShows [F.LANE_CNT_CLIP n] s (mainEnd n e c samples par s)
      ∧ laneOf (mainEnd n e c samples par s) n
          = { laneOf s n with swapped := false, out := (laneOf s n).out ++ [(e, w, c.setup)], pos := (laneOf s n).pos + 1 }
      ∧ signed 24 (getBits w 31 8)
          = clampInt (-8388608) 8388607 (dCal (dRaw samples c.avg) (laneOfs s n c.v.gain) (laneGain s n c.v.gain)) := by
  obtain ⟨u, w, hres, hshows, hlane, hcode⟩ :=
    resultOf_shows c samples (dCal (dRaw samples c.avg) (laneOfs s n c.v.gain) (laneGain s n c.v.gain)) hn harm
  have hfor' : lsFor u n = false := by
    rw [← hfor]
    exact congrArg (· == n) (hshows.keeps F.LANES_LS_FOR (by simpa using clear_of_page_lt (f := F.LANES_LS_FOR) (by dsimp only; omega) (by simp)))
  have hend : mainEnd n e c samples par s = setLane n { laneOf u n with out := (laneOf u n).out ++ [(e, w, c.setup)], pos := (laneOf u n).pos + 1 } u := by
    simp only [mainEnd, dCode_own samples s hls, dCorrected_plain n _ s hlead, hres, keepPair_other hfor']
  refine ⟨w, ?_, ?_, hcode⟩
  · rw [hend]
    exact hshows.setLane _ _
  · rw [hend, laneOf_setLane_same _ _ hn, hlane]

/-! ### The lane after a conversion -/

/-- Looking back, the walk through the pass moves the lane's place alone. -/
theorem walk_back (s : State) (n : Nat) : ∀ (fuel : Nat) (x : Next), (walk s n false fuel x).lane.out = x.lane.out ∧ (walk s n false fuel x).lane.conv = x.lane.conv
    ∧ (walk s n false fuel x).skipped = x.skipped
  | 0, _ => ⟨rfl, rfl, rfl⟩
  | fuel + 1, x => by
    simp only [walk, Bool.not_false, if_true]
    split
    · split
      · exact ⟨rfl, rfl, rfl⟩
      · exact walk_back s n fuel { x with lane := { x.lane with stage := 1 } }
    · split
      · exact walk_back s n fuel { x with lane := { x.lane with stage := 2 } }
      · exact ⟨rfl, rfl, rfl⟩
    · split
      · exact walk_back s n fuel { x with lane := { x.lane with stage := 0, pos := 0, passLead := false }, wrapped := true }
      · exact ⟨rfl, rfl, rfl⟩

theorem passEnds_matchRun (n : Nat) (s : State) : ∃ r, passEnds n s = { s with ana.matchRun := r } := by
  unfold passEnds
  extract_lets ph
  split
  · exact ⟨_, rfl⟩
  · exact ⟨_, rfl⟩

theorem takeWalk_shows {n : Nat} {x : Next} (s : State) (hn : n < 6) (hskip : x.skipped = false) :
    LaneShows [] s (takeWalk n x s) ∧ laneOf (takeWalk n x s) n = x.lane := by
  have hset : LaneShows [] s (setLane n x.lane s) := (LaneShows.refl _ s).setLane _ _
  simp only [takeWalk, hskip, Bool.false_eq_true, if_false]
  split
  · obtain ⟨r, hr⟩ := passEnds_matchRun n (setLane n x.lane s)
    rw [hr]
    exact ⟨hset.trans (laneShows_ana _ _), laneOf_setLane_same x.lane s hn⟩
  · exact ⟨hset, laneOf_setLane_same x.lane s hn⟩

/-- Lane `n` is free again, and LANE_STAT shows it. -/
def laneFreed (n : Nat) (s : State) : State := (setConv n none s).putB (F.LANE_STAT_CONVERTING n) false

theorem laneFreed_shows (n : Nat) (s : State) : LaneShows [F.LANE_STAT_CONVERTING n] s (laneFreed n s) := ((LaneShows.refl _ s).setConv _ _).putB _ _ (by simp) rfl

theorem laneFreed_lane {n : Nat} (s : State) (hn : n < 6) : laneOf (laneFreed n s) n = { laneOf s n with conv := none } :=
  (laneOf_of_ana (by simp [laneFreed]) n).trans (laneOf_setConv_same none s hn)

theorem laneFreed_converting (n : Nat) (s : State) : (laneFreed n s).flag (F.LANE_STAT_CONVERTING n) = false := flag_putB_same _ false rfl (by simp)

/-- The lane's place in its pass after the conversion, which the pins show. -/
def laneNext (n : Nat) (s : State) : State := showPins (takeWalk n (walk s n false 24 { lane := laneOf s n }) s)

theorem laneNext_shows {n : Nat} (s : State) (hn : n < 6) : LaneShows pinFields s (laneNext n s) := by
  obtain ⟨-, -, hskip⟩ := walk_back s n 24 { lane := laneOf s n }
  exact ((takeWalk_shows s hn hskip).1.mono (by simp)).trans (showPins_shows _).laneShows

theorem laneNext_lane {n : Nat} (s : State) (hn : n < 6) : (laneOf (laneNext n s) n).out = (laneOf s n).out ∧ convOf (laneNext n s) n = convOf s n := by
  obtain ⟨hout, hconv, hskip⟩ := walk_back s n 24 { lane := laneOf s n }
  have hlane := (laneOf_of_ana (showPins_ana _) n).trans (takeWalk_shows s hn hskip).2
  rw [convOf, laneNext, hlane]
  exact ⟨hout, hconv⟩

theorem laneNext_converting {n : Nat} (s : State) (hn : n < 6) : (laneNext n s).flag (F.LANE_STAT_CONVERTING n) = s.flag (F.LANE_STAT_CONVERTING n) := by
  obtain ⟨-, -, hskip⟩ := walk_back s n 24 { lane := laneOf s n }
  exact (showPins_flag _ (by dsimp only; omega)).trans ((takeWalk_shows s hn hskip).1.keeps.flag _ (by simp))

/-! ### CONVERSION_END of a lane (R382, R386, R392) -/

theorem laneEnd_none {n : Nat} {volts par : List Int} {ext : Int} {s : State} (hc : convOf s n = none) : laneEnd n volts par ext s = s := by simp only [laneEnd, hc]

theorem laneEnd_early {n : Nat} {c : Conv} {volts par : List Int} {ext : Int} {s : State} (hc : convOf s n = some c)
    (h : 10000 * (c.age + tickUnits s) ≤ 288 * (c.ofs + c.v.settle) + 3600 * 2 ^ c.avg) : laneEnd n volts par ext s = s := by
  have hcome : hasCome s c.age (endAt c) = false := decide_eq_false (by simpa [endAt, startAt] using h)
  simp [laneEnd, hc, endDue, hcome]

/-- A lane that LS does not sense for, or a conversion that is none of its sequence's, ends when its own samples are over. -/
theorem endDue_of {n par : Nat} {c : Conv} {len : Nat} {s : State} (hrun : c.running = true) (hlen : len = 2 ^ c.avg) (halone : lsFor s n = false ∨ c.kind = .urgent)
    (h : 288 * (c.ofs + c.v.settle) + 3600 * 2 ^ c.avg < 10000 * (c.age + tickUnits s)) : endDue s n c len par = true := by
  have hcome : hasCome s c.age (endAt c) = true := decide_eq_true h
  obtain hfor | hkind := halone
  · simp [endDue, hrun, hlen, hcome, hfor]
  · simp [endDue, hrun, hlen, hcome, hkind]

theorem laneEnd_main {n e : Nat} {c : Conv} {volts par : List Int} {ext : Int} {s : State} (hc : convOf s n = some c) (hkind : c.kind = .main e)
    (hdue : endDue s n c volts.length par.length = true) :
    laneEnd n volts par ext s = laneNext n (laneFreed n (mainEnd n e c (codesOf c ext volts) (codesOf c ext par) (pulseEnd c s))) := by
  simp [laneEnd, hc, hdue, hkind, forUrgent, laneNext, laneFreed]

/-- The end of a lane's own main conversion frees the lane and leaves the result, with its code, to the boundary of R11. -/
theorem laneEnd_main_shows {n e : Nat} {c : Conv} {volts : List Int} (par : List Int) (ext : Int) {s : State} (hn : n < 6) (hc : convOf s n = some c) (hkind : c.kind = .main e)
    (hls : c.byLs = false) (hlead : c.v.lead = 0) (hfor : lsFor s n = false) (harm : s.armedAt (0x22 + n) 1 = false)
    (hdue : endDue s n c volts.length par.length = true) :
    ∃ t w, laneEnd n volts par ext s = t ∧ t = { s with regs := t.regs, ana := t.ana } ∧ convOf t n = none ∧ t.flag (F.LANE_STAT_CONVERTING n) = false
      ∧ (laneOf t n).out = (laneOf s n).out ++ [(e, w, c.setup)]
      ∧ signed 24 (getBits w 31 8)
          = clampInt (-8388608) 8388607 (dCal (dRaw (codesOf c ext volts) c.avg) (laneOfs s n c.v.gain) (laneGain s n c.v.gain)) := by
  have hpulse := pulseEnd_shows c s
  obtain ⟨w, hshows, hlane, hcode⟩ := mainEnd_shows (e := e) (codesOf c ext volts) (codesOf c ext par) hn hls hlead ((pulseEnd_lsFor c s n).trans hfor)
    ((hpulse.armedAt _ _).trans harm)
  rw [pulseEnd_laneOfs, pulseEnd_laneGain] at hcode
  rw [pulseEnd_lane] at hlane
  rw [laneEnd_main hc hkind hdue]
  generalize mainEnd n e c (codesOf c ext volts) (codesOf c ext par) (pulseEnd c s) = u at hshows hlane ⊢
  obtain ⟨hout, hconv⟩ := laneNext_lane (laneFreed n u) hn
  have hfreed := laneFreed_lane u hn
  refine ⟨_, w, rfl, ?_, ?_, ?_, ?_, hcode⟩
  · rw [(laneNext_shows _ hn).frame, (laneFreed_shows n u).frame, hshows.frame, hpulse.frame]
  · rw [hconv, convOf, hfreed]
  · rw [laneNext_converting _ hn]
    exact laneFreed_converting n u
  · rw [hout, hfreed, hlane]

/-- The result `w` of an urgent conversion shows, with its event (R392). -/
def urgentShown (w : Word) (s : State) : State := ((s.wr 0x28 0x050 w).putB F.LANES_URG_STAT_DONE true).raise E.LANES_URG_DONE

theorem urgentShown_done (w : Word) (s : State) : (urgentShown w s).flag F.LANES_URG_STAT_DONE = true :=
  (congrArg (· == 1) (State.get_raise _ (by decide))).trans (flag_putB_same _ _ rfl (by decide))

theorem urgentShown_event (w : Word) (s : State) : ((urgentShown w s).rd 0x28 0x010).getLsbD E.LANES_URG_DONE.2 = true := State.raise_bit_same _ _ _ (by decide)

theorem urgentShown_result (w : Word) (s : State) : (urgentShown w s).rd 0x28 0x050 = w := by
  unfold urgentShown State.putB
  rw [State.rd_raise_ne _ (by decide), State.rd_put_ne _ _ _ (by decide), State.rd_wr_same]

theorem urgentShown_frame (w : Word) (s : State) : urgentShown w s = { s with regs := (urgentShown w s).regs } := rfl

theorem laneEnd_urgent {n : Nat} {c : Conv} {volts par : List Int} {ext : Int} {s : State} (hc : convOf s n = some c) (hkind : c.kind = .urgent)
    (hdue : endDue s n c volts.length par.length = true) :
    laneEnd n volts par ext s = showPins (laneFreed n (urgentEnd n c (codesOf c ext volts) (pulseEnd c s))) := by
  simp [laneEnd, hc, hdue, hkind, forUrgent, laneFreed]

theorem urgentEnd_shows {n : Nat} {c : Conv} (samples : List Int) {s : State} (hn : n < 6) (hls : c.byLs = false) (hlead : c.v.lead = 0)
    (harm : s.armedAt (0x22 + n) 1 = false) :
    ∃ u w, urgentEnd n c samples s = urgentShown w u ∧ LaneShows [F.LANE_CNT_CLIP n] s u
      ∧ signed 24 (getBits w 31 8) = clampInt (-8388608) 8388607 (dCal (dRaw samples c.avg) (laneOfs s n c.v.gain) (laneGain s n c.v.gain)) := by
  obtain ⟨u, w, hres, hshows, -, hcode⟩ := resultOf_shows c samples (dCal (dRaw samples c.avg) (laneOfs s n c.v.gain) (laneGain s n c.v.gain)) hn harm
  refine ⟨u, w, ?_, hshows, hcode⟩
  simp only [urgentEnd, dCode_own samples s hls, dCorrected_plain n _ s hlead, hres]
  rfl

/-- Setting a lane free keeps the fields of the pages after the lanes' own. -/
theorem freed_clear {n : Nat} {f : Fld} (hn : n < 6) (hf : 0x27 < f.page) : ∀ g ∈ F.LANE_STAT_CONVERTING n :: pinFields, Clear g f :=
  List.forall_mem_cons.mpr ⟨clear_of_page_lt (by dsimp only; omega) (by simp), pinFields_clear (by omega)⟩

theorem freed_shows (n : Nat) (s : State) : LaneShows (F.LANE_STAT_CONVERTING n :: pinFields) s (showPins (laneFreed n s)) :=
  ((laneFreed_shows n s).mono (by simp)).trans ((showPins_shows _).laneShows.mono (by simp))

/-- The end of an urgent conversion frees the lane and shows the result, with its code, in LANES_URG_RES. -/
theorem laneEnd_urgent_shows {n : Nat} {c : Conv} {volts : List Int} (par : List Int) (ext : Int) {s : State} (hn : n < 6) (hc : convOf s n = some c) (hkind : c.kind = .urgent)
    (hls : c.byLs = false) (hlead : c.v.lead = 0) (harm : s.armedAt (0x22 + n) 1 = false) (hdue : endDue s n c volts.length par.length = true) :
    ∃ t, laneEnd n volts par ext s = t ∧ t = { s with regs := t.regs, ana := t.ana } ∧ convOf t n = none ∧ t.flag F.LANES_URG_STAT_DONE = true
      ∧ (t.rd 0x28 0x010).getLsbD E.LANES_URG_DONE.2 = true
      ∧ signed 24 (getBits (t.rd 0x28 0x050) 31 8)
          = clampInt (-8388608) 8388607 (dCal (dRaw (codesOf c ext volts) c.avg) (laneOfs s n c.v.gain) (laneGain s n c.v.gain)) := by
  have hpulse := pulseEnd_shows c s
  obtain ⟨u, w, hend, hshows, hcode⟩ := urgentEnd_shows (codesOf c ext volts) hn hls hlead ((hpulse.armedAt _ _).trans harm)
  rw [pulseEnd_laneOfs, pulseEnd_laneGain] at hcode
  rw [laneEnd_urgent hc hkind hdue, hend]
  have hfreed := freed_shows n (urgentShown w u)
  refine ⟨_, rfl, ?_, ?_, ?_, ?_, ?_⟩
  · rw [hfreed.frame, urgentShown_frame, hshows.frame, hpulse.frame]
  · rw [convOf_of_ana (showPins_ana _), convOf, laneFreed_lane _ hn]
  · exact (hfreed.keeps.flag F.LANES_URG_STAT_DONE (freed_clear hn (by decide))).trans (urgentShown_done w u)
  · rw [hfreed.keeps.events E.LANES_URG_DONE (freed_clear hn (by decide))]
    exact urgentShown_event w u
  · rw [← hcode]
    refine congrArg (signed 24) ((hfreed.keeps F.LANES_URG_RES_CODE (freed_clear hn (by decide))).trans ?_)
    exact congrArg (getBits · 31 8) (urgentShown_result w u)

/-! ### Calibrations (R396, R398) -/

theorem calOf_lane {n : Nat} (s : State) (hn : n < 6) : calOf s n = (laneOf s n).cal := by
  rw [calOf, if_neg (by omega), if_pos hn]

theorem setCal_lane {n : Nat} (r : Option CalRun) (s : State) (hn : n < 6) :
    setCal n r s = (setLane n { laneOf s n with cal := r } s).putB (F.LANE_STAT_CALIB n) r.isSome := if_neg (by omega)

theorem setCal_shows {n : Nat} (r : Option CalRun) (s : State) (hn : n < 6) : LaneShows [F.LANE_STAT_CALIB n] s (setCal n r s) := by
  rw [setCal_lane r s hn]
  exact ((LaneShows.refl _ s).setLane _ _).putB _ _ (by simp) rfl

theorem calOf_setCal {n : Nat} (r : Option CalRun) (s : State) (hn : n < 6) : calOf (setCal n r s) n = r := by
  rw [calOf_lane _ hn, setCal_lane r s hn]
  exact congrArg Lane.cal ((laneOf_of_ana (State.putB_ana _ _ _) n).trans (laneOf_setLane_same _ _ hn))

theorem calStart_armed {n : Nat} {r : CalRun} {s : State} (hr : calOf s n = some r) (harmed : r.armed = 2) (hana : anaOn s = true) :
    calStart n s = setCal n (some { r with armed := 3 }) s := by
  simp [calStart, hr, harmed, hana]

/-- An offset conversion that is not the calibration's last keeps its code as the gain's offset (R396). -/
theorem calEnd_offset {n g : Nat} {r : CalRun} {x : Nat × Bool} {rest : List (Nat × Bool)} {volts : List Int} {s : State} (hn : n < 6) (hr : calOf s n = some r)
    (harmed : r.armed = 3) (htodo : r.todo = (g, false) :: x :: rest) (hlen : volts.length = 256)
    (htime : 288 * ofsUs s n + 3600 * 256 < 10000 * (r.age + tickUnits s)) :
    calEnd n volts s = setCal n (some { r with ofs := aset r.ofs g (dRaw (volts.map (filterSample g 1250000000000)) 8), todo := x :: rest, armed := 0 }) s := by
  have hdue : calEndDue s n r = true := by
    have hne : ¬ n = 6 := by omega
    have hcome : hasCome s r.age (288 * ofsUs s n + 3600 * 256) = true := decide_eq_true htime
    rw [calEndDue, if_neg hne, harmed, hcome]
    rfl
  simp [calEnd, hr, hdue, hlen, htodo]

theorem calDue_busy {s : State} (h : s.get F.LANES_LS_PHASE ≠ 0) : calDue s = s := if_pos (.inl h)

/-- The shadow lane's cycle has begun for lane `n`: PREP, with the calibration of its gains to do. -/
def cycleBegun (n : Nat) (s : State) : State :=
  ({ s with ana.lsCal := some { todo := calTodo (laneGains s n) }, ana.lsNext := (n + 1) % 6 }.put F.LANES_LS_FOR n).put F.LANES_LS_PHASE 1

theorem calDue_begins {n : Nat} {s : State} (hidle : s.get F.LANES_LS_PHASE = 0) (hana : anaOn s = true) (hlane : cycleLane s = some n) : calDue s = cycleBegun n s := by
  simp only [calDue, hidle, hana, hlane]
  rfl

theorem cycleBegun_frame (n : Nat) (s : State) : cycleBegun n s = { s with regs := (cycleBegun n s).regs, ana := (cycleBegun n s).ana } := rfl

theorem cycleBegun_phase (n : Nat) (s : State) : (cycleBegun n s).get F.LANES_LS_PHASE = 1 := State.get_put_same _ _ _ (by decide) (by decide)

theorem cycleBegun_for {n : Nat} (s : State) (hn : n < 6) : (cycleBegun n s).get F.LANES_LS_FOR = n := by
  rw [cycleBegun, State.get_put_other _ _ _ _ (by decide), State.get_put_same _ _ _ (by decide) (by decide)]
  exact Nat.mod_eq_of_lt (by dsimp only; omega)

/-! ### Compliance (R359) -/

/-- Conversion `c` of lane `n` is in compliance, for the first time of source `k`; the fault of R359 is still to come. -/
def complianceShown (n k : Nat) (c : Conv) (s : State) : State :=
  let u := setConv n (some { c with compl := true }) s
  let u := (u.put F.EXC_STAT_COMPL (setBitTo (u.get F.EXC_STAT_COMPL) k true)).raise E.EXC_COMPL_SET
  { u with ana.complPrev := k :: u.ana.complPrev }.bump F.EXC_CNT_COMPL

/-- The fields in which compliance shows. -/
abbrev complianceFields : List Fld := [F.EXC_STAT_COMPL, evtFld E.EXC_COMPL_SET, F.EXC_CNT_COMPL]

theorem complianceShown_shows (n k : Nat) (c : Conv) (s : State) : LaneShows complianceFields s (complianceShown n k c s) := by
  unfold complianceShown
  exact ((((LaneShows.refl _ s).setConv _ _).put _ _ (by simp) rfl).raise _ (by simp)).trans (laneShows_ana _ _) |>.bump _ (by simp) rfl

theorem lanes_find_first {n : Nat} {p : Nat → Bool} (hn : n < 6) (hp : p n = true) (hbefore : ∀ m, m < n → p m = false) : lanes.find? p = some n := by
  rw [show lanes = List.range 6 from rfl, List.find?_range_eq_some]
  exact ⟨hp, by simpa using hn, fun m hm => by simp [hbefore m hm]⟩

/-- Compliance is found on the first lane whose pulse uses the source. -/
theorem excCompliance_first {n k : Nat} {c : Conv} {s : State} (hn : n < 6) (hc : convOf s n = some c) (hon : c.pulseOn = true) (hsrc : srcUsed c = some k)
    (hbefore : ∀ m d, m < n → convOf s m = some d → srcUsed d ≠ some k) : excCompliance k s = complianceOn n k false s := by
  unfold excCompliance
  rw [lanes_find_first hn (by simp [hc, hon, hsrc]) fun m hm => ?_]
  cases hd : convOf s m with
  | none => rfl
  | some d => simp [hbefore m d hm hd]

theorem complianceOn_first {n k : Nat} {c : Conv} {s : State} (hc : convOf s n = some c) (hno : c.compl = false) (hfirst : s.ana.complPrev.contains k = false) :
    complianceOn n k false s = faultEvent 0x41 k (complianceShown n k c s) := by
  simp only [complianceOn, hc, hno, hfirst, Bool.false_eq_true, if_false, Bool.not_false, if_true]
  rfl

theorem complianceShown_conv {n : Nat} (k : Nat) (c : Conv) (s : State) (hn : n < 6) : convOf (complianceShown n k c s) n = some { c with compl := true } := by
  unfold complianceShown
  extract_lets u v
  calc convOf (State.bump { v with ana.complPrev := k :: v.ana.complPrev } F.EXC_CNT_COMPL) n
      = convOf { v with ana.complPrev := k :: v.ana.complPrev } n := convOf_of_ana (State.bump_ana _ _ _) n
    _ = convOf v n := rfl
    _ = convOf u n := convOf_of_ana (by simp [v]) n
    _ = some { c with compl := true } := convOf_setConv_same _ s hn

theorem complianceShown_bit {k : Nat} (n : Nat) (c : Conv) (s : State) (hk : k < 4) : bitOf ((complianceShown n k c s).get F.EXC_STAT_COMPL) k = true := by
  unfold complianceShown
  extract_lets u v
  have hkept : (State.bump { v with ana.complPrev := k :: v.ana.complPrev } F.EXC_CNT_COMPL).get F.EXC_STAT_COMPL = v.get F.EXC_STAT_COMPL :=
    State.get_put_ne _ _ _ _ (by decide)
  have hset : v.get F.EXC_STAT_COMPL = setBitTo (u.get F.EXC_STAT_COMPL) k true % 2 ^ 4 :=
    (State.get_raise _ (by decide)).trans (State.get_put_same u _ _ (by decide) (by decide))
  rw [hkept, hset, bitOf_mod_two_pow _ hk]
  exact bitOf_setBitTo_same _ _

theorem KeepsAboveHub.get {s t : State} (h : KeepsAboveHub s t) (f : Fld) (hrws : f.rws = false) (hp : 9 ≤ f.page) : t.get f = s.get f := by
  unfold State.get
  rw [hrws]
  exact congrArg (getBits · f.hi f.lo) (h _ _ hp)

/-! ### Urgent requests (R392, R393) -/

theorem urgentWord_toNat {n setup : Nat} (hn : n < 6) (hs : setup < 48) : (urgentWord n setup).toNat = 0x80000000 + n * 256 + setup := by
  rw [urgentWord, BitVec.toNat_ofNat]
  omega

theorem urgentWord_fields {n setup : Nat} (hn : n < 6) (hs : setup < 48) :
    getBits (urgentWord n setup) 10 8 = n ∧ getBits (urgentWord n setup) 5 0 = setup ∧ getBits (urgentWord n setup) 31 31 = 1 := by
  simp only [getBits, urgentWord_toNat hn hs]
  omega

/-- A request for setup `setup` on lane `n` shows in LANES_URG and LANES_URG_STAT. -/
def urgentNoted (n setup : Nat) (s : State) : State :=
  let s := (s.put F.LANES_URG_LANE n).put F.LANES_URG_SETUP setup
  (((s.putB F.LANES_URG_STAT_DONE false).putB F.LANES_URG_STAT_DROPPED false).putB F.LANES_URG_STAT_INVALID false).put F.LANES_URG_STAT_LANE n

theorem urgentNoted_shows {n : Nat} (setup : Nat) (s : State) (hn : n < 6) :
    ∃ r, urgentNoted n setup s = { s with regs := r } ∧ State.flag { s with regs := r } F.LANES_URG_STAT_DONE = false ∧ State.get { s with regs := r } F.LANES_URG_STAT_LANE = n := by
  have hframe : urgentNoted n setup s = { s with regs := (urgentNoted n setup s).regs } := rfl
  have hdone : (urgentNoted n setup s).flag F.LANES_URG_STAT_DONE = false := by
    unfold urgentNoted State.putB
    rw [flag_put_of_clear _ _ (by decide), flag_put_of_clear _ _ (by decide), flag_put_of_clear _ _ (by decide)]
    exact flag_putB_same _ false rfl (by decide)
  have hlane : (urgentNoted n setup s).get F.LANES_URG_STAT_LANE = n :=
    (State.get_put_same _ F.LANES_URG_STAT_LANE n (by decide) (by decide)).trans (Nat.mod_eq_of_lt (by dsimp only; omega))
  exact ⟨_, hframe, hframe ▸ hdone, hframe ▸ hlane⟩

theorem urgentWrite_request {n setup : Nat} (s : State) (hn : n < 6) (hs : setup < 48) :
    urgentWrite (urgentWord n setup) s = if s.ana.urg.isSome then urgentDrop false (urgentNoted n setup s) else { urgentNoted n setup s with ana.urg := some (n, setup) } := by
  obtain ⟨hlane, hsetup, hgo⟩ := urgentWord_fields hn hs
  simp only [urgentWrite, hlane, hsetup, hgo]
  rfl

theorem urgentDrop_shows (s : State) :
    (urgentDrop false s).flag F.LANES_URG_STAT_DROPPED = true ∧ ((urgentDrop false s).rd 0x28 0x010).getLsbD E.LANES_URG_DROP.2 = true := by
  have hkeeps : KeepsBut [F.LANES_CNT_URGENT_DROP, evtFld E.LANES_URG_DROP] (s.putB F.LANES_URG_STAT_DROPPED true) (urgentDrop false s) :=
    ((KeepsBut.refl _ _).bump F.LANES_CNT_URGENT_DROP (by simp)).raise E.LANES_URG_DROP (by simp)
  exact ⟨(hkeeps.flag F.LANES_URG_STAT_DROPPED (by decide)).trans (flag_putB_same s true rfl (by decide)), State.raise_bit_same _ _ _ (by decide)⟩

theorem lanesUrg_row {path : Path} {w : Word} {s u : State} (hu : noteOwner path 0x28 s = u) (h : MayWrite path 0x28 0x04C w s) :
    overPath path (writeReg path 0x28 0x04C w) s = urgentWrite w u := by
  rw [← hu]
  exact overPath_writeReg (e := ⟨0x04C, 0x400, 1, 4, 1, 0, 0, 0, 0x73F, 0, 0, 0x80000000⟩) (i := 0) (by decide) (by decide) (by decide) rfl rfl (by decide) h
    fun hrws => absurd rfl hrws

/-! ### The commands -/

theorem exec_excitationPulseStart_free {n : Nat} {c : Conv} {s : State} (h : Ready s) (hn : n < 6) (hc : convOf s n = some c) (hdue : pulseDue s c = true)
    (hb : blocker s n c = none) (harm : s.armedAt 0x21 1 = false) :
    ∃ t, exec (.excitationPulseStart n) s = .next t ∧ convOf t n = some { c with pulseOn := true } ∧ (∀ m, m < 6 → m ≠ n → laneOf t m = laneOf s m)
      ∧ t = { s with regs := t.regs, ana := t.ana } := by
  have hframe := (((LaneShows.refl pinFields s).setConv n (some { c with pulseOn := true })).trans (showPins_shows _).laneShows).frame
  refine ⟨_, act_lanes h ((excitationStart_due hc hdue).trans (pulseStart_free hb harm)) hframe, ?_, fun m hm hne => ?_, hframe⟩
  · exact (convOf_of_ana (showPins_ana _) n).trans (convOf_setConv_same _ s hn)
  · exact (laneOf_of_ana (showPins_ana _) m).trans (laneOf_setLane_ne _ s hm hne)

theorem exec_excitationPulseStart_blocked {n m : Nat} {b : Bool} {c : Conv} {s : State} (h : Ready s) (hn : n < 6) (hc : convOf s n = some c) (hdue : pulseDue s c = true)
    (hb : blocker s n c = some (m, b)) :
    ∃ t, exec (.excitationPulseStart n) s = .next t ∧ convOf t n = waitingConv c ∧ t.get F.EXC_CNT_WAIT = satTo 65535 (s.get F.EXC_CNT_WAIT + 1)
      ∧ t = { s with regs := t.regs, ana := t.ana } := by
  obtain ⟨k, hwaits⟩ := pulseWaits_eq (m := m) (b := b) hc
  have hframe := ((laneWaits_shows n c s).trans (laneShows_ana _ { (laneWaits n c s).ana with contests := k })).frame
  exact ⟨_, act_lanes h (((excitationStart_due hc hdue).trans (pulseStart_blocked hb)).trans hwaits) hframe, convOf_setConv_same (waitingConv c) (s.bump F.EXC_CNT_WAIT) hn,
    laneWaits_count n c s, hframe⟩

theorem exec_conversionStart_due {n : Nat} {c : Conv} {s : State} (h : Ready s) (hn : n < 6) (hc : convOf s n = some c) (hdue : startDue s c = true) :
    ∃ t, exec (.conversionStart false n) s = .next t ∧ convOf t n = some (startedConv n c s) ∧ t.flag (F.LANE_STAT_CONVERTING n) = true
      ∧ (∀ e, c.kind = .main e → t.get (F.LANE_STAT_ENTRY n) = e % 16) ∧ t = { s with regs := t.regs, ana := t.ana } := by
  have hframe : showPins (conversionShown n (startedConv n c s) s) = { s with
      regs := (showPins (conversionShown n (startedConv n c s) s)).regs, ana := (showPins (conversionShown n (startedConv n c s) s)).ana } := by
    rw [(showPins_shows _).frame, (conversionShown_shows n (startedConv n c s) s).frame]
  refine ⟨_, act_lanes h (laneStart_due hc hdue) hframe, ?_, ?_, fun e he => ?_, hframe⟩
  · exact (convOf_of_ana (showPins_ana _) n).trans (conversionShown_conv _ s hn)
  · exact (showPins_flag _ (by dsimp only; omega)).trans (conversionShown_converting n _ s)
  · exact (showPins_get _ (by dsimp only; omega)).trans (conversionShown_entry s he)

theorem exec_excCompliance_first {n k : Nat} {c : Conv} {s : State} (h : Ready s) (hn : n < 6) (hc : convOf s n = some c) (hon : c.pulseOn = true) (hsrc : srcUsed c = some k)
    (hk : k < 4) (hno : c.compl = false) (hbefore : ∀ m d, m < n → convOf s m = some d → srcUsed d ≠ some k) (hfirst : s.ana.complPrev.contains k = false)
    (hr : RecordsOnly 0x41 s) :
    ∃ t, exec (.excCompliance k) s = .next t ∧ bitOf (t.get F.EXC_STAT_COMPL) k = true ∧ convOf t n = some { c with compl := true } ∧ FaultRecorded s t := by
  have hshows := complianceShown_shows n k c s
  have hundisturbed : Undisturbed s (complianceShown n k c s) := by
    rw [hshows.frame]
    exact ⟨rfl, rfl, rfl, rfl, rfl, rfl, rfl⟩
  have heff : (complianceShown n k c s).eff = s.eff := by rw [hshows.frame]
  obtain ⟨hexec, hrecd, hnoted⟩ := act_faultEvent h ((excCompliance_first hn hc hon hsrc hbefore).trans (complianceOn_first hc hno hfirst)) hundisturbed heff
    (hshows.keeps F.FLT_REC_CNT_TOTAL (by decide)) hr
  have hkeeps := faultEvent_keepsAboveHub (info := k) false false (by decide) (recordsOnly_of_eff heff hr)
  refine ⟨_, hexec, ?_, ?_, hrecd⟩
  · rw [hkeeps.get F.EXC_STAT_COMPL rfl (by decide)]
    exact complianceShown_bit n c s hk
  · obtain ⟨_, _, _, _, ht⟩ := hnoted.only
    exact (convOf_of_ana (by rw [ht]) n).trans (complianceShown_conv k c s hn)

/-- A request where none waits is taken (R392). -/
theorem exec_urgentRequest_taken {n setup : Nat} {path : Path} {s : State} (h : Ready s) (hn : n < 6) (hs : setup < 48) (hw : MayWrite path 0x28 0x04C (urgentWord n setup) s)
    (hurg : s.ana.urg = none) :
    ∃ t, exec (.urgentRequest path n setup) s = .next t ∧ t.ana.urg = some (n, setup) ∧ t.flag F.LANES_URG_STAT_DONE = false ∧ t.get F.LANES_URG_STAT_LANE = n
      ∧ t = { s with regs := t.regs, ana.urg := t.ana.urg, page := (noteOwner path 0x28 s).page } := by
  obtain ⟨g, hg⟩ := noteOwner_pageOnly path 0x28 s
  obtain ⟨r, hnoted, hdone, hlane⟩ := urgentNoted_shows setup { s with page := g } hn
  have hnone : ¬ ({ s with page := g } : State).ana.urg.isSome = true := by simp [hurg]
  have hwrite := (lanesUrg_row hg hw).trans ((urgentWrite_request _ hn hs).trans (if_neg hnone))
  rw [hnoted] at hwrite
  rw [hg]
  exact ⟨_, act_next h hwrite rfl rfl rfl rfl, rfl, hdone, hlane, rfl⟩

/-- A request while another waits is dropped (R393). -/
theorem exec_urgentRequest_dropped {n setup : Nat} {path : Path} {u : Nat × Nat} {s : State} (h : Ready s) (hn : n < 6) (hs : setup < 48)
    (hw : MayWrite path 0x28 0x04C (urgentWord n setup) s) (hurg : s.ana.urg = some u) :
    ∃ t, exec (.urgentRequest path n setup) s = .next t ∧ t.flag F.LANES_URG_STAT_DROPPED = true ∧ (t.rd 0x28 0x010).getLsbD E.LANES_URG_DROP.2 = true
      ∧ t = { s with regs := t.regs, page := (noteOwner path 0x28 s).page } := by
  obtain ⟨g, hg⟩ := noteOwner_pageOnly path 0x28 s
  have hsome : ({ s with page := g } : State).ana.urg.isSome = true := by simp [hurg]
  have hwrite := (lanesUrg_row hg hw).trans ((urgentWrite_request _ hn hs).trans (if_pos hsome))
  obtain ⟨r, hnoted, -, -⟩ := urgentNoted_shows setup { s with page := g } hn
  rw [hnoted] at hwrite
  obtain ⟨hdropped, hevent⟩ := urgentDrop_shows { s with page := g, regs := r }
  rw [hg]
  exact ⟨_, act_next h hwrite rfl rfl rfl rfl, hdropped, hevent, rfl⟩

/-- Settles O46: where a pulse, a start or an end is due, the command's effect is one of the operations above; where it is not, it has none. -/
theorem laneConversions : Obligations.LaneConversions := by
  intro s n h hn
  refine ⟨fun c hc hana hp hoff hrun hw harm hlo hhi => ?_, fun c hc hd => act_still h (excitationStart_notDue hc hd), fun c hc hd => act_still h (laneStart_notDue hc hd),
    fun c hc hana hrun hw hp hlo hhi => ?_,
    fun hc => ⟨act_still h (excitationStart_none hc), act_still h (laneStart_none hc), fun xs ys ext => act_still h (laneEnd_none hc)⟩,
    fun c xs ys ext hc hearly => act_still h (laneEnd_early hc hearly), fun g vref v hv => filterSample_pos g v hv,
    fun c e xs ys ext hc hrun hkind hls hlead hlen hfor harm htime => ?_, fun c xs ys ext hc hrun hkind hls hlead hlen harm htime => ?_, fun r hr harmed hana => ?_,
    fun r g x rest xs ys ext hr harmed htodo hlen htime => ?_,
    fun c k hc hon hsrc hk hno hbefore hfirst hr => exec_excCompliance_first h hn hc hon hsrc hk hno hbefore hfirst hr,
    fun path setup hs hw hurg => exec_urgentRequest_taken h hn hs hw hurg, fun path setup u hs hw hurg => exec_urgentRequest_dropped h hn hs hw hurg,
    fun hidle hana hlane => ?_, fun hbusy => act_still h (calDue_busy hbusy)⟩
  · have hdue := pulseDue_of hana hp hoff hrun hw hlo hhi
    exact ⟨fun hb => exec_excitationPulseStart_free h hn hc hdue hb harm, fun m b hb => exec_excitationPulseStart_blocked h hn hc hdue hb⟩
  · obtain ⟨t, hexec, hconv, hflag, hentry, hframe⟩ := exec_conversionStart_due h hn hc (startDue_of hana hrun hw hp hlo hhi)
    exact ⟨t, startedConv n c s, hexec, hconv, rfl, rfl, rfl, rfl, hflag, hentry, hframe⟩
  · obtain ⟨t, w, hend, hframe, hconv, hflag, hout, hcode⟩ := laneEnd_main_shows ys ext hn hc hkind hls hlead hfor harm (endDue_of hrun hlen (.inl hfor) htime)
    exact ⟨t, w, act_lanes h hend hframe, hconv, hflag, hout, hcode, hframe⟩
  · obtain ⟨t, hend, hframe, hconv, hflag, hevent, hcode⟩ := laneEnd_urgent_shows ys ext hn hc hkind hls hlead harm (endDue_of hrun hlen (.inr hkind) htime)
    exact ⟨t, act_lanes h hend hframe, hconv, hflag, hevent, hcode, hframe⟩
  · have hframe := (setCal_shows (some { r with armed := 3 }) s hn).frame
    exact ⟨_, act_lanes h (calStart_armed hr harmed hana) hframe, calOf_setCal _ s hn, hframe⟩
  · have hend := calEnd_offset hn hr harmed htodo hlen htime
    have hframe := (setCal_shows (some { r with ofs := aset r.ofs g (dRaw (xs.map (filterSample g 1250000000000)) 8), todo := x :: rest, armed := 0 }) s hn).frame
    exact ⟨_, act_lanes h hend hframe, calOf_setCal _ s hn, hframe⟩
  · exact ⟨_, act_next h (calDue_begins hidle hana hlane) rfl rfl rfl rfl, cycleBegun_phase n s, cycleBegun_for s hn, rfl, rfl, cycleBegun_frame n s⟩

end Sys2Proof.Machine
end

section
/-! The slots that collect results: LANE_COLLECT copies a lane's words to SRAM, FAST_COLLECT moves the FIFO of a fast lane to its ring (chapter 10; R93, R391, R414). Settles O19. -/

namespace Sys2Proof.Machine

/-! ### Stores of the KV4811's own (R33, R649) -/

theorem memPut_frame (a : Nat) (ws : List Word) (s : State) : memPut a ws s = { s with mem := (memPut a ws s).mem, ecc := (memPut a ws s).ecc } := rfl

/-- A slot that starts and whose work is one such store ends quietly. -/
theorem act_started_memPut {action idx at_ a : Nat} {ws : List Word} {d : Slot} {f : State → State} {s : State} (h : Ready s) (hst : SlotStarts action idx at_ d s)
    (hf : f s = memPut a ws (slotStarted d idx at_ s)) : act f s = .next (memPut a ws (slotStarted d idx at_ s)) := act_started h hst hf rfl rfl rfl

theorem bytesAt_memPut {s : State} (a : Nat) (ws : List Word) (h : s.memWf = true) : (memPut a ws s).bytesAt a (4 * ws.length) = wordsBytes ws := by
  rw [← wordsBytes_length]
  exact bytesAt_setBytes a (wordsBytes ws) h

theorem byteAt_memPut_out {s : State} {a x : Nat} (ws : List Word) (h : s.memWf = true) (hx : x < a ∨ a + 4 * ws.length ≤ x) :
    (memPut a ws s).byteAt x = s.byteAt x := by
  rw [← wordsBytes_length] at hx
  exact byteAt_setBytes_out (wordsBytes ws) h hx

/-- Where no word has an error, standing or injected, a word is stored and nothing else changes. -/
theorem memWrite_clean {s : State} (a : Nat) (w : Word) (h : NoEccErrors s) : memWrite a w s = (s.setWord a w, true) := by
  obtain ⟨hecc, hflip⟩ := h
  have hread : memRead a s = (s, some (s.wordAt a)) := memRead_clean (by rw [hecc]; rfl) fun _ => hflip
  have hmarks : { s with ecc := adel s.ecc (eccKey a) } = s := by rw [hecc, adel, ← hecc]
  simp only [memWrite, hread, hmarks]

/-! ### LANE_COLLECT (R391) -/

theorem laneWords_bytes (s : State) (n : Nat) : 4 * (laneWords s n).length = 64 := by simp [laneWords, tabulate]

/-- An ARG with one bit below 6 selects that lane alone. -/
theorem lanes_filter_two_pow {n : Nat} (enabled : Nat → Bool) (hn : n < 6) :
    lanes.filter (fun m => if 2 ^ n % 64 = 0 then enabled m else bitOf (2 ^ n) m) = [n] := by
  interval_cases n <;> rfl

/-- Once the first valid primary value has been noted, an ARG that names one lane stores the words of that lane and does nothing else. -/
theorem laneCollect_one {n : Nat} (ms : Nat) {s : State} (hn : n < 6) (hseen : s.boot.firstSeen = true) (hin : inPoweredSram s (s.get F.LANES_COLL_ADDR + 64 * n) 64 = true) :
    laneCollect (2 ^ n) ms s = memPut (s.get F.LANES_COLL_ADDR + 64 * n) (laneWords s n) s := by
  have hurg : bitOf (2 ^ n) 6 = false := by
    rw [bitOf_eq_testBit, Nat.testBit_two_pow]
    exact decide_eq_false (by omega)
  have hstore : sramStore (s.get F.LANES_COLL_ADDR + 64 * n) (laneWords s n) s = memPut (s.get F.LANES_COLL_ADDR + 64 * n) (laneWords s n) s := by
    rw [sramStore, laneWords_bytes, if_pos hin]
  simp only [laneCollect, lanes_filter_two_pow _ hn, hseen, hurg, Bool.not_true, Bool.false_and, Bool.false_eq_true, if_false, List.foldl_cons, List.foldl_nil, hstore]

/-- A LANE_COLLECT slot for one lane copies that lane's words (R391). -/
theorem exec_laneCollect_one {idx at_ ms n : Nat} {d : Slot} {s : State} (h : Ready s) (hwf : s.memWf = true) (hst : SlotStarts 1 idx at_ d s) (hn : n < 6) (harg : d.arg = 2 ^ n)
    (hseen : s.boot.firstSeen = true) (hin : inPoweredSram s (s.get F.LANES_COLL_ADDR + 64 * n) 64 = true) :
    ∃ t, exec (.laneCollect idx at_ ms) s = .next t ∧ t.bytesAt (s.get F.LANES_COLL_ADDR + 64 * n) 64 = wordsBytes (laneWords s n)
      ∧ (∀ a, a < s.get F.LANES_COLL_ADDR + 64 * n ∨ s.get F.LANES_COLL_ADDR + 64 * n + 64 ≤ a → t.byteAt a = s.byteAt a)
      ∧ t = { slotStarted d idx at_ s with mem := t.mem, ecc := t.ecc } := by
  have hrun : runArg (slotStarted d idx at_ s) = 2 ^ n := harg
  have heff : slotDo 1 idx at_ (fun u => laneCollect (runArg u) ms u) s
      = memPut (s.get F.LANES_COLL_ADDR + 64 * n) (laneWords s n) (slotStarted d idx at_ s) := by
    rw [slotDo_starts _ hst, hrun]
    exact laneCollect_one ms hn hseen hin
  have hbytes := bytesAt_memPut (s := slotStarted d idx at_ s) (s.get F.LANES_COLL_ADDR + 64 * n) (laneWords s n) hwf
  have hout (x : Nat) := byteAt_memPut_out (s := slotStarted d idx at_ s) (a := s.get F.LANES_COLL_ADDR + 64 * n) (x := x) (laneWords s n) hwf
  simp only [laneWords_bytes] at hbytes hout
  exact ⟨_, act_started_memPut h hst heff, hbytes, hout, memPut_frame _ _ _⟩

/-! ### FAST_COLLECT (R414) -/

theorem succ_wrap_eq_mod {p n : Nat} (h : p < n) : (if p + 1 < n then p + 1 else 0) = (p + 1) % n := by
  split
  · exact (Nat.mod_eq_of_lt ‹_›).symm
  · rw [show p + 1 = n by omega, Nat.mod_self]

/-- The word `w` stands at the position of the ring of fast lane `k`, and the position has moved on. -/
def ringPut (k : Nat) (w : Word) (s : State) : State :=
  (s.setWord (s.get (F.FAST_RING_ADDR k) + 4 * s.get (F.FAST_RPOS_POS k)) w).put (F.FAST_RPOS_POS k) ((s.get (F.FAST_RPOS_POS k) + 1) % s.get (F.FAST_RLEN_LEN k))

/-- One word goes to a position inside a ring whose SRAM serves. -/
theorem ringWrite_one {k : Nat} (w : Word) {s : State} (hclean : NoEccErrors s) (hpos : s.get (F.FAST_RPOS_POS k) < s.get (F.FAST_RLEN_LEN k))
    (hin : inPoweredSram s (s.get (F.FAST_RING_ADDR k) + 4 * s.get (F.FAST_RPOS_POS k)) 4 = true) : ringWrite k [w] s = ringPut k w s := by
  simp only [ringWrite, hpos, if_true, hin, memWrite_clean _ w hclean, succ_wrap_eq_mod hpos]
  rfl

theorem ringPut_bytesAt (k : Nat) (w : Word) {s : State} (h : s.memWf = true) :
    (ringPut k w s).bytesAt (s.get (F.FAST_RING_ADDR k) + 4 * s.get (F.FAST_RPOS_POS k)) 4 = bytesOfWord w := bytesAt_setBytes _ (bytesOfWord w) h

theorem ringPut_pos {k : Nat} (w : Word) {s : State} (hpos : s.get (F.FAST_RPOS_POS k) < s.get (F.FAST_RLEN_LEN k)) :
    (ringPut k w s).get (F.FAST_RPOS_POS k) = (s.get (F.FAST_RPOS_POS k) + 1) % s.get (F.FAST_RLEN_LEN k) := by
  have hlen : s.get (F.FAST_RLEN_LEN k) < 2 ^ 16 := getBits_lt _ 15 0
  have hmod : (s.get (F.FAST_RPOS_POS k) + 1) % s.get (F.FAST_RLEN_LEN k) < s.get (F.FAST_RLEN_LEN k) := Nat.mod_lt _ (by omega)
  have hfield : (F.FAST_RPOS_POS k).hi < 32 := by norm_num
  exact (State.get_put_same _ _ _ (Nat.zero_le _) hfield).trans (Nat.mod_eq_of_lt (hmod.trans hlen))

/-- FAST0's FIFO has been emptied. -/
def fifo0Emptied (s : State) : State := { s with fast0.fifo := [] }

/-- An ARG of 1 moves the one word of FAST0's FIFO to the ring, and does nothing else. -/
theorem fastCollect_fast0_one {w : Word} {s : State} (hclean : NoEccErrors s) (hfifo : s.fast0.fifo = [w]) (hpos : s.get (F.FAST_RPOS_POS 0) < s.get (F.FAST_RLEN_LEN 0))
    (hin : inPoweredSram s (s.get (F.FAST_RING_ADDR 0) + 4 * s.get (F.FAST_RPOS_POS 0)) 4 = true) : fastCollect 1 s = ringPut 0 w (fifo0Emptied s) := by
  have hlen : s.get (F.FAST_RLEN_LEN 0) ≠ 0 := by omega
  have hlane : fastCollect1 0 s = ringWrite 0 [w] (fifo0Emptied s) := by
    rw [fastCollect1, if_neg hlen, ← hfifo]
    rfl
  have hfirst : (1 : Nat) % 4 = 0 ∨ bitOf 1 0 = true := by decide
  have hsecond : ¬ ((1 : Nat) % 4 = 0 ∨ bitOf 1 1 = true) := by decide
  simp only [fastCollect, if_pos hfirst, if_neg hsecond]
  exact hlane.trans (ringWrite_one w (s := fifo0Emptied s) hclean hpos hin)

/-- A FAST_COLLECT slot for FAST0 moves the one word of its FIFO to the ring (R414). -/
theorem exec_fastCollect_fast0 {idx at_ : Nat} {d : Slot} {w : Word} {s : State} (h : Ready s) (hwf : s.memWf = true) (hst : SlotStarts 2 idx at_ d s) (harg : d.arg = 1)
    (hclean : NoEccErrors s) (hfifo : s.fast0.fifo = [w]) (hpos : s.get (F.FAST_RPOS_POS 0) < s.get (F.FAST_RLEN_LEN 0))
    (hin : inPoweredSram s (s.get (F.FAST_RING_ADDR 0) + 4 * s.get (F.FAST_RPOS_POS 0)) 4 = true) :
    ∃ t, exec (.fastCollect idx at_) s = .next t ∧ t.fast0 = { s.fast0 with fifo := [] }
      ∧ t.bytesAt (s.get (F.FAST_RING_ADDR 0) + 4 * s.get (F.FAST_RPOS_POS 0)) 4 = bytesOfWord w
      ∧ t.get (F.FAST_RPOS_POS 0) = (s.get (F.FAST_RPOS_POS 0) + 1) % s.get (F.FAST_RLEN_LEN 0)
      ∧ t = { slotStarted d idx at_ s with mem := t.mem, fast0 := t.fast0, regs := t.regs, eff := t.eff } := by
  have hrun : runArg (slotStarted d idx at_ s) = 1 := harg
  have heff : slotDo 2 idx at_ (fun u => fastCollect (runArg u) u) s = ringPut 0 w (fifo0Emptied (slotStarted d idx at_ s)) := by
    rw [slotDo_starts _ hst, hrun]
    exact fastCollect_fast0_one (s := slotStarted d idx at_ s) hclean hfifo hpos hin
  exact ⟨_, act_started h hst heff rfl rfl rfl, rfl, ringPut_bytesAt 0 w (s := fifo0Emptied (slotStarted d idx at_ s)) hwf,
    ringPut_pos w (s := fifo0Emptied (slotStarted d idx at_ s)) hpos, rfl⟩

/-- Settles O19: the slot begins (`slotStarted`), stores the lane's words (`memPut`) or moves the FIFO's word to the ring (`ringPut`), and its command ends quietly. -/
theorem collectSlots : Obligations.CollectSlots := by
  intro s idx at_ d h hwf
  exact ⟨fun _ _ hst hn harg hseen hin => exec_laneCollect_one h hwf hst hn harg hseen hin,
    fun _ hst harg hclean hfifo hpos hin => exec_fastCollect_fast0 h hwf hst harg hclean hfifo hpos hin⟩

end Sys2Proof.Machine
end

section
/-! Stormbox's commands: triggers and edges, REC_ACK, REC_FIND, the end of the archive scan, and the supervision of held areas (chapter 11; R712). Settles O47. -/

namespace Sys2Proof.Machine

/-! ### Triggers (R424) -/

/-- The note of a rank changes no lease, and so no rank (R290, R306). -/
theorem pathRank_noteOwner (path q : Path) (p g : Nat) (s : State) : pathRank (noteOwner path p s) g q = pathRank s g q := by
  obtain ⟨o, ho⟩ := noteOwner_ownersOnly path p s
  rw [ho]
  rfl

theorem addTrig_enabled (kind src : Nat) {s : State} (h : s.en 0x2C = true) :
    addTrig kind src s = { s with stor.trigs := s.stor.trigs ++ [{ tick := s.tick.num, kind, src }] } := if_neg (by simp [h])

theorem addTrig_disabled (kind src : Nat) {s : State} (h : s.en 0x2C = false) : addTrig kind src s = s := if_pos (by simp [h])

/-- REC_TRIG with GO set makes a trigger of its path's code. -/
theorem recTrig_row {path : Path} {s u : State} (hu : noteOwner path 0x2C s = u) (h : MayWrite path 0x2C 0x09C 1 s) :
    overPath path (writeReg path 0x2C 0x09C 1) s = recGo (pathRank s (pageGroup 0x2C) path) u := by
  have hrow : overPath path (writeReg path 0x2C 0x09C 1) s = recGo (pathRank (noteOwner path 0x2C s) (pageGroup 0x2C) path) (noteOwner path 0x2C s) :=
    overPath_writeReg (e := ⟨0x09C, 0x400, 1, 4, 1, 0, 0, 0, 0, 0, 0, 0x1⟩) (i := 0) (by decide) (by decide) (by decide) rfl rfl (by decide) h
      fun hrws => absurd rfl hrws
  rw [hrow, pathRank_noteOwner, hu]

/-! ### Edges (R712) -/

/-- The field of GPIO_EDGE that shows edges of this direction. -/
abbrev edgeFld (falling : Bool) : Fld := if falling then F.GPIO_EDGE_FALL else F.GPIO_EDGE_RISE

/-- The edge on pin `n` shows in GPIO_EDGE, with its event. -/
def edgeShown (n : Nat) (falling : Bool) (s : State) : State :=
  (s.put (edgeFld falling) (setBitTo (s.get (edgeFld falling)) n true)).raise E.GPIO_EDGE

theorem gpioEdge_eq (n : Nat) (falling : Bool) (s : State) : gpioEdge n falling s = recEdge n falling (edgeShown n falling s) := rfl

theorem edgeShown_frame (n : Nat) (falling : Bool) (s : State) : edgeShown n falling s = { s with regs := (edgeShown n falling s).regs } := by
  cases falling <;> rfl

theorem edgeShown_bit {n : Nat} (falling : Bool) (s : State) (hn : n < 4) : bitOf ((edgeShown n falling s).get (edgeFld falling)) n = true := by
  have hget : (edgeShown n falling s).get (edgeFld falling) = setBitTo (s.get (edgeFld falling)) n true % 2 ^ 4 := by
    cases falling <;> exact (State.get_raise _ (by decide)).trans (State.get_put_same _ _ _ (by decide) (by decide))
  rw [hget, bitOf_mod_two_pow _ hn]
  exact bitOf_setBitTo_same _ _

theorem edgeShown_event (n : Nat) (falling : Bool) (s : State) : ((edgeShown n falling s).rd 0x49 0x010).getLsbD E.GPIO_EDGE.2 = true :=
  State.raise_bit_same _ _ _ (by decide)

/-- An edge that REC_EDGE enables makes a trigger. -/
theorem recEdge_enabled {src : Nat} {falling : Bool} {s : State} (hen : bitOf (s.get F.REC_EDGE_EN) src = true)
    (hpol : (bitOf (s.get F.REC_EDGE_POL) src == falling) = true) : recEdge src falling s = addTrig 3 src s := if_pos (by simp only [hen, hpol, Bool.and_self])

theorem recEdge_masked {src : Nat} {falling : Bool} {s : State} (hen : bitOf (s.get F.REC_EDGE_EN) src = false) : recEdge src falling s = s :=
  if_neg (by simp [hen])

theorem addTrig_frame (kind src : Nat) (s : State) : addTrig kind src s = { s with stor := (addTrig kind src s).stor } := by
  unfold addTrig
  split <;> rfl

theorem recEdge_frame (src : Nat) (falling : Bool) (s : State) : recEdge src falling s = { s with stor := (recEdge src falling s).stor } := by
  unfold recEdge
  split
  · exact addTrig_frame 3 src s
  · rfl

/-- GPIO_EDGE shows the edge, and an edge that REC_EDGE enables makes a trigger of the tick that runs (R424, R712). -/
theorem exec_gpioEdge {n : Nat} (falling : Bool) {s : State} (h : Ready s) (hn : n < 4) :
    ∃ t, exec (.gpioEdge n falling) s = .next t ∧ bitOf (t.get (edgeFld falling)) n = true ∧ (t.rd (edgeFld falling).page 0x010).getLsbD E.GPIO_EDGE.2 = true
      ∧ (bitOf (s.get F.REC_EDGE_EN) n = true → (bitOf (s.get F.REC_EDGE_POL) n == falling) = true → s.en 0x2C = true →
        t.stor.trigs = s.stor.trigs ++ [{ tick := s.tick.num, kind := 3, src := n }])
      ∧ (bitOf (s.get F.REC_EDGE_EN) n = false → t.stor = s.stor) ∧ t = { s with regs := t.regs, stor := t.stor } := by
  have hbit := edgeShown_bit falling s hn
  have hevent := edgeShown_event n falling s
  have heff := gpioEdge_eq n falling s
  have hshown := edgeShown_frame n falling s
  generalize edgeShown n falling s = u at *
  have hframe : recEdge n falling u = { s with regs := u.regs, stor := (recEdge n falling u).stor } :=
    (recEdge_frame n falling u).trans (congrArg (fun v : State => { v with stor := (recEdge n falling u).stor }) hshown)
  have hpage : (edgeFld falling).page = 0x49 := by cases falling <;> rfl
  have hedge (f : Fld) (hf : f.rws = true) : u.get f = s.get f := by
    rw [hshown]
    simp only [State.get, hf]
    rfl
  have hexec : exec (.gpioEdge n falling) s = .next (recEdge n falling u) := act_next h heff (by rw [hframe]) (by rw [hframe]) (by rw [hframe]) (by rw [hframe])
  refine ⟨_, hexec, ?_, ?_, fun hen hpol hon => ?_, fun hmask => ?_, ?_⟩
  · rw [recEdge_frame]
    exact hbit
  · rw [hpage, recEdge_frame]
    exact hevent
  · rw [recEdge_enabled (by rwa [hedge _ rfl]) (by rwa [hedge _ rfl]), addTrig_enabled 3 n (by rw [hshown]; exact hon), hshown]
  · rw [recEdge_masked (by rwa [hedge _ rfl]), hshown]
  · rw [hframe]

/-! ### REC_ACK (R444) -/

/-- The fields in which the block shows its state. -/
def recShown : List Fld :=
  [F.REC_STAT_RECNO_END, F.REC_STAT_HELD0, F.REC_STAT_HELD1, F.REC_STAT_ARCH_BUSY, F.REC_HIST_RING_ROWS, F.REC_HIST_HIST]

theorem showRec_shows (s : State) : Shows recShown s (showRec s) := by
  unfold showRec
  extract_lets s₁ s₂ s₃
  have h₁ : Shows recShown s s₁ := (Shows.refl _ s).putB _ _ (by simp [recShown]) rfl
  have h₂ : Shows recShown s s₂ := (h₁.putB _ _ (by simp [recShown]) rfl).putB _ _ (by simp [recShown]) rfl
  have h₃ : Shows recShown s s₃ := h₂.putB _ _ (by simp [recShown]) rfl
  exact (h₃.put _ _ (by simp [recShown]) rfl).put _ _ (by simp [recShown]) rfl

theorem areaFree_iff {a : Nat} {s : State} : areaFree s a = true ↔ (areaOf s a).held = none := Option.isNone_iff_eq_none

/-- Where no area holds a record none is freed. -/
theorem freeHeld_free {s : State} (h0 : areaFree s 0 = true) (h1 : areaFree s 1 = true) : freeHeld s = s := by
  simp only [freeHeld, areaFree_iff.mp h0, areaFree_iff.mp h1]

/-- While no record is held, REC_ACK moves to the greater record number, at most REC_LAST. -/
theorem recAck_shows (w : Word) {s : State} (h0 : areaFree s 0 = true) (h1 : areaFree s 1 = true) :
    recAck w s = { s with regs := (recAck w s).regs } ∧ (recAck w s).get F.REC_ACK_RECNO = max (min w.toNat (s.get F.REC_LAST_RECNO)) (s.get F.REC_ACK_RECNO) := by
  have hack : recAck w s = showRec (s.put F.REC_ACK_RECNO (max (min w.toNat (s.get F.REC_LAST_RECNO)) (s.get F.REC_ACK_RECNO))) :=
    congrArg showRec (freeHeld_free (s := s.put F.REC_ACK_RECNO _) h0 h1)
  have hlt : max (min w.toNat (s.get F.REC_LAST_RECNO)) (s.get F.REC_ACK_RECNO) < 2 ^ 32 :=
    max_lt ((min_le_left _ _).trans_lt w.isLt) (getBits_lt _ 31 0)
  have hshows := showRec_shows (s.put F.REC_ACK_RECNO (max (min w.toNat (s.get F.REC_LAST_RECNO)) (s.get F.REC_ACK_RECNO)))
  rw [hack]
  exact ⟨hshows.frame, (hshows.keeps F.REC_ACK_RECNO (by decide)).trans ((State.get_put_same _ _ _ (by decide) (by decide)).trans (Nat.mod_eq_of_lt hlt))⟩

theorem recAck_row {path : Path} {w : Word} {s u : State} (hu : noteOwner path 0x2C s = u) (h : MayWrite path 0x2C 0x0AC w s) :
    overPath path (writeReg path 0x2C 0x0AC w) s = recAck w u := by
  rw [← hu]
  exact overPath_writeReg (e := ⟨0x0AC, 0x400, 1, 4, 1, 0, 0, 0, 0xFFFFFFFF, 0, 0, 0⟩) (i := 0) (by decide) (by decide) (by decide) rfl rfl (by decide) h
    fun hrws => absurd rfl hrws

/-! ### REC_FIND (R443) -/

theorem recFind_row {path : Path} {w : Word} {s u : State} (hu : noteOwner path 0x2C s = u) (h : MayWrite path 0x2C 0x0B0 w s) :
    overPath path (writeReg path 0x2C 0x0B0 w) s = recFind w u := by
  rw [← hu]
  exact overPath_writeReg (e := ⟨0x0B0, 0x400, 1, 4, 1, 0, 0, 0, 0xFFFFFFFF, 0, 0, 0⟩) (i := 0) (by decide) (by decide) (by decide) rfl rfl (by decide) h
    fun hrws => absurd rfl hrws

/-- REC_FIND shows its record number, and no answer yet. -/
theorem recFind_shows (w : Word) (s : State) :
    (recFind w s).get F.REC_FIND_RECNO = w.toNat ∧ (recFind w s).flag F.REC_FOUND_STAT_DONE = false ∧ (recFind w s).flag F.REC_FOUND_STAT_VALID = false := by
  unfold recFind State.putB
  refine ⟨?_, ?_, flag_putB_same _ false rfl (by decide)⟩
  · rw [State.get_put_ne _ _ _ _ (by decide), State.get_put_ne _ _ _ _ (by decide), State.get_put_same _ _ _ (by decide) (by decide)]
    exact Nat.mod_eq_of_lt w.isLt
  · rw [flag_put_of_clear _ _ (by decide)]
    exact flag_putB_same _ false rfl (by decide)

/-- The lookup has ended and found the entry at partition offset `off` with `len` bytes. -/
def entryFound (off len : Nat) (s : State) : State :=
  ((({ s with stor.find := none }.putB F.REC_FOUND_STAT_DONE true).putB F.REC_FOUND_STAT_VALID true).put F.REC_FOUND_ADDR_ADDR ((partBase 6).1 + off)).put
    F.REC_FOUND_LEN_LEN (len / 16)

theorem recFindDone_found {n off len : Nat} {s : State} (hfind : s.stor.find = some n) (hready : s.flag F.REC_STAT_INDEX_READY = true)
    (hentry : s.stor.entries.find? (fun e => e.1 == n) = some (n, off, len)) : recFindDone s = entryFound off len s := by
  simp only [recFindDone, hfind, hready, State.putB_stor, hentry]
  rfl

theorem recFindDone_idle {s : State} (hfind : s.stor.find = none) : recFindDone s = s := by simp only [recFindDone, hfind]

theorem entryFound_shows (off len : Nat) (s : State) :
    (entryFound off len s).flag F.REC_FOUND_STAT_DONE = true ∧ (entryFound off len s).flag F.REC_FOUND_STAT_VALID = true
      ∧ (entryFound off len s).get F.REC_FOUND_ADDR_ADDR = (0x10290000 + off) % 2 ^ 32 := by
  unfold entryFound
  refine ⟨?_, ?_, ?_⟩
  · rw [flag_put_of_clear _ _ (by decide), flag_put_of_clear _ _ (by decide), State.putB, flag_put_of_clear _ _ (by decide)]
    exact flag_putB_same _ true rfl (by decide)
  · rw [flag_put_of_clear _ _ (by decide), flag_put_of_clear _ _ (by decide)]
    exact flag_putB_same _ true rfl (by decide)
  · rw [State.get_put_ne _ _ _ _ (by decide)]
    exact State.get_put_same _ F.REC_FOUND_ADDR_ADDR _ (by decide) (by decide)

/-! ### The archive scan (R440) -/

/-- The scan of an archive without an entry has ended. -/
def emptyScanned (s : State) : State := ({ s with stor.entries := [], stor.wpos := 0 }.putB F.REC_STAT_INDEX_READY true).raise E.REC_INDEX_READY

/-- A running maximum does not fall below its start. -/
theorem le_foldl_max_fst (es : List (Nat × Nat × Nat)) (m : Nat) : m ≤ es.foldl (fun m e => max m e.1) m := by
  induction es generalizing m with
  | nil => exact le_rfl
  | cons e es ih => exact (le_max_left m e.1).trans (ih _)

/-- Without the archive's entries the highest RECNO is not greater (R433). -/
theorem recHigh_emptyScanned_le (s : State) : recHigh (emptyScanned s) ≤ recHigh s := by
  have hlast : (emptyScanned s).get F.REC_LAST_RECNO = s.get F.REC_LAST_RECNO := (State.get_raise _ (by decide)).trans (State.get_put_ne _ _ _ _ (by decide))
  unfold recHigh
  rw [hlast]
  exact le_foldl_max_fst _ _

theorem indexReady_empty {s : State} (hidx : s.flag F.REC_STAT_INDEX_READY = false) (hrom : s.flag F.SYS_BSTAT_ROM_OK = true) (hnone : archStarts s = [])
    (hhigh : recHigh s < 0xFFFFFFFF) : indexReady s = emptyScanned s := by
  have hne : recHigh (emptyScanned s) ≠ 0xFFFFFFFF := ((recHigh_emptyScanned_le s).trans_lt hhigh).ne
  have hgo : ¬ (s.flag F.REC_STAT_INDEX_READY = true ∨ (!s.flag F.SYS_BSTAT_ROM_OK) = true) := by simp [hidx, hrom]
  unfold indexReady
  rw [if_neg hgo, hnone]
  exact if_neg hne

theorem indexReady_again {s : State} (hidx : s.flag F.REC_STAT_INDEX_READY = true) : indexReady s = s := if_pos (.inl hidx)

theorem emptyScanned_ready (s : State) : (emptyScanned s).flag F.REC_STAT_INDEX_READY = true := by
  rw [emptyScanned, State.flag, State.get_raise _ (by decide)]
  exact flag_putB_same _ true rfl (by decide)

theorem emptyScanned_event (s : State) : ((emptyScanned s).rd 0x2C 0x010).getLsbD E.REC_INDEX_READY.2 = true := State.raise_bit_same _ _ _ (by decide)

/-! ### Supervision of held areas (R441) -/

/-- A record that is held too long in area `a` is marked as stalled; its fault is still to come. -/
def heldStalled (a : Nat) (h : RecHeld) (s : State) : State := setArea a { areaOf s a with held := some { h with stalled := true } } s

/-- The supervision of one area. -/
def areaWatched (a : Nat) (s : State) : State := match (areaOf s a).held with
  | some h =>
    if s.flag F.REC_ROW_ARCH_EN && !s.flag F.REC_STAT_RETIRED && !h.stalled && decide (s.get F.REC_ARCH_WAIT_S * 28800 ≤ h.age) then
      faultEvent 0x72 0 (heldStalled a h s)
    else s
  | none => s

theorem archStall_eq (s : State) : archStall s = areaWatched 1 (areaWatched 0 s) := rfl

/-- Without archiving no area is held too long. -/
theorem areaWatched_off (a : Nat) {s : State} (h : s.flag F.REC_ROW_ARCH_EN = false) : areaWatched a s = s := by
  unfold areaWatched
  split
  · exact if_neg (by simp [h])
  · rfl

theorem areaWatched_free {a : Nat} {s : State} (h : areaFree s a = true) : areaWatched a s = s := by simp only [areaWatched, areaFree_iff.mp h]

theorem areaWatched_due {a : Nat} {h : RecHeld} {s : State} (hheld : (areaOf s a).held = some h) (hen : s.flag F.REC_ROW_ARCH_EN = true)
    (hret : s.flag F.REC_STAT_RETIRED = false) (hnew : h.stalled = false) (hage : s.get F.REC_ARCH_WAIT_S * 28800 ≤ h.age) :
    areaWatched a s = faultEvent 0x72 0 (heldStalled a h s) := by
  simp only [areaWatched, hheld]
  exact if_pos (by simp [hen, hret, hnew, hage])

theorem archStall_off {s : State} (h : s.flag F.REC_ROW_ARCH_EN = false) : archStall s = s := by
  rw [archStall_eq, areaWatched_off 0 h, areaWatched_off 1 h]

/-- The fault event leaves the areas as they are. -/
theorem FaultNoted.areaOf {s t : State} (h : FaultNoted s t) (a : Nat) : areaOf t a = Machine.areaOf s a := by
  obtain ⟨_, _, _, _, rfl⟩ := h.only
  rfl

/-- The one record that is held, for too long, is marked, and its fault recorded. -/
theorem exec_recArchStall_due {h : RecHeld} {s : State} (hs : Ready s) (hheld : (areaOf s 0).held = some h) (hfree : areaFree s 1 = true)
    (hen : s.flag F.REC_ROW_ARCH_EN = true) (hret : s.flag F.REC_STAT_RETIRED = false) (hnew : h.stalled = false) (hage : s.get F.REC_ARCH_WAIT_S * 28800 ≤ h.age)
    (hr : RecordsOnly 0x72 s) : ∃ t, exec .recArchStall s = .next t ∧ (areaOf t 0).held = some { h with stalled := true } ∧ FaultRecorded s t := by
  have hfirst := areaWatched_due hheld hen hret hnew hage
  obtain ⟨hnoted, -⟩ := faultEvent_records (s := heldStalled 0 h s) 0 false false hr
  have hother : areaFree (faultEvent 0x72 0 (heldStalled 0 h s)) 1 = true := by
    rw [areaFree, hnoted.areaOf]
    exact hfree
  have heff : archStall s = faultEvent 0x72 0 (heldStalled 0 h s) := by rw [archStall_eq, hfirst, areaWatched_free hother]
  have hundisturbed : Undisturbed s (heldStalled 0 h s) := ⟨rfl, rfl, rfl, rfl, rfl, rfl, rfl⟩
  obtain ⟨hexec, hrecd, -⟩ := act_faultEvent hs heff hundisturbed rfl rfl hr
  refine ⟨_, hexec, ?_, hrecd⟩
  rw [hnoted.areaOf, heldStalled, areaOf_setArea]

/-- Settles O47: each row is its operation after the note of its path's rank, and each operation's outcome is stated above. -/
theorem stormboxCommands : Obligations.StormboxCommands := by
  intro s h
  refine ⟨fun path hw hon => ?_, fun path hw hoff => ?_, fun n falling hn => exec_gpioEdge falling h hn, fun path w hw h0 h1 => ?_, fun path w hw => ?_,
    fun n off len hfind hready hentry => ?_, fun hfind => act_next h (recFindDone_idle hfind) rfl rfl rfl rfl, fun hidx hrom hnone hhigh => ?_,
    fun hidx => act_next h (indexReady_again hidx) rfl rfl rfl rfl,
    fun r hheld hfree hen hret hnew hage hr => exec_recArchStall_due h hheld hfree hen hret hnew hage hr, fun hoff => act_next h (archStall_off hoff) rfl rfl rfl rfl⟩
  · obtain ⟨g, hg⟩ := noteOwner_pageOnly path 0x2C s
    rw [hg]
    exact ⟨_, act_next h ((recTrig_row hg hw).trans (addTrig_enabled _ _ hon)) rfl rfl rfl rfl, rfl, rfl, rfl⟩
  · obtain ⟨g, hg⟩ := noteOwner_pageOnly path 0x2C s
    rw [hg]
    exact act_next h ((recTrig_row hg hw).trans (addTrig_disabled _ _ hoff)) rfl rfl rfl rfl
  · obtain ⟨g, hg⟩ := noteOwner_pageOnly path 0x2C s
    obtain ⟨hframe, hack⟩ := recAck_shows w (s := { s with page := g }) h0 h1
    have heff := recAck_row hg hw
    generalize recAck w { s with page := g } = t at *
    rw [hg]
    exact ⟨t, act_next h heff (by rw [hframe]) (by rw [hframe]) (by rw [hframe]) (by rw [hframe]), hack, hframe⟩
  · obtain ⟨g, hg⟩ := noteOwner_pageOnly path 0x2C s
    obtain ⟨hrecno, hdone, hvalid⟩ := recFind_shows w { s with page := g }
    rw [hg]
    exact ⟨_, act_next h (recFind_row hg hw) rfl rfl rfl rfl, rfl, hrecno, hdone, hvalid, rfl⟩
  · obtain ⟨hdone, hvalid, haddr⟩ := entryFound_shows off len s
    exact ⟨_, act_next h (recFindDone_found hfind hready hentry) rfl rfl rfl rfl, hdone, hvalid, haddr, rfl, rfl⟩
  · exact ⟨_, act_next h (indexReady_empty hidx hrom hnone hhigh) rfl rfl rfl rfl, emptyScanned_ready s, rfl, rfl, emptyScanned_event s, rfl⟩

end Sys2Proof.Machine
end

section
/-! Nothing is left half done (chapters 15 to 17, 21): every command ends with `settle`, is a cause of a reset, or moves only what a held chip keeps. And the step
itself, and the state after reset. Settles O3, O2 and O1. -/

namespace Sys2Proof.Machine

/-- The meaning `o` answers a next state, and leaves nothing half done where nothing was. -/
def Settles (o : State → Host.Outcome State Fault Refusal) : Prop := ∀ s, ∃ t, o s = .next t ∧ (Settled s → Settled t)

theorem settles_next {f : State → State} (h : ∀ s, Settled s → Settled (f s)) : Settles fun s => .next (f s) := fun s => ⟨f s, rfl, h s⟩

theorem settles_act (f : State → State) : Settles (act f) := fun _ => ⟨_, rfl, fun hs => act_settled hs rfl⟩

/-- A row that a held chip serves too ends with `settle` unless it is held. -/
theorem settles_held {f g : State → State} (hg : ∀ s, Settled s → Settled (g s)) : Settles fun s => .next (if s.boot.held then g s else settle s (f s)) :=
  settles_next fun s hs => by
    split
    · exact hg s hs
    · exact settle_settled s (f s)

/-- The reactions of the fault hub, the slot, the background work and the transfers of two states are the same, and so is what is half done in them. -/
theorem settled_congr {s t : State} (he : t.flt.entered = s.flt.entered) (hc : t.flt.chipReset = s.flt.chipReset) (hp : t.plan = s.plan) (hb : t.bist = s.bist)
    (hd : t.dma = s.dma) (hs : Settled s) : Settled t := by
  simpa only [Settled, dmaSlot, he, hc, hp, hb, hd] using hs

theorem heldBoundary_settled (s : State) (hs : Settled s) : Settled (heldBoundary s) := by
  unfold heldBoundary
  split
  · exact hs
  · exact settled_congr rfl rfl rfl rfl rfl hs

theorem porAssert_settled (lost : Bool) (s : State) : Settled (porAssert lost s) := by
  unfold porAssert
  cases lost <;> exact assertReset_settled 1 0 s

theorem borMain_settled (rail : Nat) (s : State) (hs : Settled s) : Settled (borMain rail s) := by
  unfold borMain
  split
  · exact hs
  · exact assertReset_settled 2 rail s

theorem borLp_settled (s : State) (hs : Settled s) : Settled (borLp s) := by
  unfold borLp
  split
  · exact assertReset_settled 3 0 s
  · exact hs

theorem rstN_settled (lowNs : Nat) (s : State) (hs : Settled s) : Settled (rstN lowNs s) := by
  unfold rstN
  split
  · exact hs
  · split
    · exact assertReset_settled 4 0 s
    · split
      · exact assertReset_settled 4 0 s.fresh
      · exact hs

theorem wdog_settled (s : State) (hs : Settled s) : Settled (wdog s) := by
  unfold wdog
  split
  · exact hs
  · exact assertReset_settled 5 0 s

/-- Every command settles: the resets and the rows that a held chip serves by what they are, all others as effects that `settle` ends. -/
theorem exec_settles (c : Instr) : Settles (exec c) := by
  cases c with
  | por lost => exact settles_next fun s _ => porAssert_settled lost s
  | borMain rail => exact settles_next (borMain_settled rail)
  | borLp => exact settles_next borLp_settled
  | rstN lowNs => exact settles_next (rstN_settled lowNs)
  | wdog => exact settles_next wdog_settled
  | porRelease gens bootsel testEn => exact settles_next fun s _ => settle_settled s _
  | tickBoundary x => exact settles_held heldBoundary_settled
  | xtalStop => exact settles_held fun _ => settled_congr rfl rfl rfl rfl rfl
  | xtalStable => exact settles_held fun _ => settled_congr rfl rfl rfl rfl rfl
  | loopclrAssert lowNs => exact settles_held fun s hs => by unfold loopclrLowHeld; split <;> exact hs
  | loopclrDeassert highNs => exact settles_held fun _ => settled_congr rfl rfl rfl rfl rfl
  | _ => exact settles_act _

/-- Settles O3: a step is `exec` of the command in front, or idles. -/
theorem everyStepSettles : Obligations.EveryStepSettles := by
  refine ⟨fun c s => exec_settles c s, fun s t hs hstep => ?_⟩
  unfold step at hstep
  split at hstep
  · cases hstep
    exact hs
  · rename_i c rest _
    obtain ⟨u, hu, hsettled⟩ := exec_settles c { s with pending := rest }
    cases hu.symm.trans hstep
    exact hsettled (settled_congr rfl rfl rfl rfl rfl hs)

/-- Settles O2: the reset state has no slot, no work and no reaction of the fault hub; its memories by `reset_memWf`. -/
theorem resetIsReady : Obligations.ResetIsReady := ⟨by decide, reset_memWf, rfl, rfl⟩

/-- Settles O1, by the two cases of the queue. -/
theorem stepRunsFrontCommand : Obligations.StepRunsFrontCommand := by
  refine ⟨fun s c rest hq => ?_, fun s hq => ?_⟩
  · rw [step, hq]
  · rw [step, hq]

end Sys2Proof.Machine
end

section
/-! The learning commands (chapter 13): PRUNE_CMD's commands wait for the boundary; a seal that completes after learning was lost leaves STATE as it is (R505), which
refutes O49. -/

namespace Sys2Proof.Machine

/-! ### What is shown one after the other -/

theorem Shows.trans {gs : List Fld} {s t u : State} (h : Shows gs s t) (k : Shows gs t u) : Shows gs s u := by
  refine ⟨?_, h.keeps.trans k.keeps⟩
  rw [k.frame, h.frame]

/-! ### The head in force (R513) -/

abbrev headFields : List Fld := [F.PRUNE_HSTAT_COPY, F.PRUNE_HSTAT_HEAD_OK, F.PRUNE_HSTAT_SEQ, F.PRUNE_HSTAT_WFMT, F.PRUNE_HLEN_LEN]

theorem noHead_shows (s : State) : Shows headFields s (noHead s) :=
  (((((Shows.refl _ s).put _ _ (by simp) rfl).putB _ _ (by simp) rfl).put _ _ (by simp) rfl).put _ _ (by simp) rfl).put _ _ (by simp) rfl

theorem determineHead_shows (s : State) : Shows headFields s (determineHead s) := by
  unfold determineHead
  extract_lets slot a b c s1
  split
  · exact noHead_shows s
  · have h1 : Shows headFields s s1 := (((Shows.refl _ s).put _ _ (by simp) rfl).putB _ _ (by simp) rfl).put _ _ (by simp) rfl
    exact (h1.put _ _ (by simp) rfl).put _ _ (by simp) rfl

/-- The write of a seal is over: its head is in force if it is valid. -/
abbrev sealTaken (s : State) : State := determineHead { s with learn.written := false }

theorem sealTaken_learnState (s : State) : learnState (sealTaken s) = learnState s := (determineHead_shows _).keeps _ (by decide)

/-- Where learning is not sealing, the end of a seal's write only determines the head and raises SEALED. -/
theorem headWriteComplete_notSealing {s : State} (hw : s.learn.written = true) (hst : learnState s ≠ 4) :
    headWriteComplete s = (sealTaken s).raise E.PRUNE_SEALED := by
  have hst' : learnState (sealTaken s) ≠ 4 := by rwa [sealTaken_learnState]
  unfold headWriteComplete
  simp only [hw, Bool.not_true, Bool.false_eq_true, if_false]
  rw [if_neg hst']

theorem headWriteComplete_keepsState {s : State} (hw : s.learn.written = true) (hst : learnState s ≠ 4) : learnState (headWriteComplete s) = learnState s := by
  rw [headWriteComplete_notSealing hw hst]
  exact (State.get_raise (sealTaken s) (g := F.PRUNE_LSTAT_STATE) (by decide)).trans (sealTaken_learnState s)

/-- The end of a seal's write, where learning is not sealing, leaves STATE of PRUNE_LSTAT. -/
theorem exec_headWriteComplete_notSealing {s : State} (h : Ready s) (hw : s.learn.written = true) (hst : learnState s ≠ 4) :
    exec .headWriteComplete s = .next (headWriteComplete s) := by
  have hframe := (determineHead_shows { s with learn.written := false }).frame
  refine act_next h rfl ?_ ?_ ?_ ?_ <;> (rw [headWriteComplete_notSealing hw hst, sealTaken, hframe]; rfl)

/-- Learning captures (STATE 1) when the write of a seal completes: a seal whose learning has been lost and started again. -/
def capturingAfterSeal : State :=
  { State.reset with regs := [(regKey 0x43 0x06C, 0x01000000)], boot.held := false, learn.written := true }

/-- Refutes O49: STATE returns to 0 only from SEAL (4); when a seal's write completes after learning was lost, STATE stays (R505). -/
theorem not_learningCommands : ¬ Obligations.LearningCommands := by
  intro h
  have hready : Ready capturingAfterSeal := by decide
  have hstate : learnState capturingAfterSeal = 1 := by decide
  have hne : learnState capturingAfterSeal ≠ 4 := by rw [hstate]; decide
  obtain ⟨-, -, -, -, hend, -⟩ := h capturingAfterSeal .spi hready
  obtain ⟨t, ht, -, hoff, -⟩ := hend rfl
  rw [exec_headWriteComplete_notSealing hready rfl hne] at ht
  cases ht
  rw [headWriteComplete_keepsState rfl hne, hstate] at hoff
  exact absurd hoff (by decide)

end Sys2Proof.Machine
end

section
/-! The end of a bank's zero-fill repairs an uncorrectable word of the bank (R548, R649), and so moves what the frame of O22 keeps: refutes O22. -/

namespace Sys2Proof.Machine

/-- The end of the fill of the bank that holds MEM_UNCORR_ADDR: its word is repaired (R649), the bank is clear and serves. -/
theorem zeroFillDone_repairs {n : Nat} {s : State} (hfill : bitOf (s.get F.MEM_STAT_ZEROFILL) n = true) (hlo : 0x20000000 ≤ s.get F.MEM_UNCORR_ADDR_ADDR)
    (hbank : bankOf (s.get F.MEM_UNCORR_ADDR_ADDR) = n) :
    zeroFillDone n s
      = (clearBank n { s with nvm.memLive := false }).put F.MEM_STAT_ZEROFILL (setBitTo (State.get { s with nvm.memLive := false } F.MEM_STAT_ZEROFILL) n false) := by
  unfold zeroFillDone
  rw [if_pos hfill]
  simp only [if_pos (And.intro hlo hbank)]

theorem exec_bankZeroFillDone_repairs {n : Nat} {s : State} (h : Ready s) (hfill : bitOf (s.get F.MEM_STAT_ZEROFILL) n = true)
    (hlo : 0x20000000 ≤ s.get F.MEM_UNCORR_ADDR_ADDR) (hbank : bankOf (s.get F.MEM_UNCORR_ADDR_ADDR) = n) :
    ∃ t, exec (.bankZeroFillDone n) s = .next t ∧ t.nvm.memLive = false :=
  ⟨_, act_next h (zeroFillDone_repairs hfill hlo hbank) rfl rfl rfl rfl, rfl⟩

/-- Bank 0 is being zero-filled, and its first word, which MEM_UNCORR_ADDR shows, has not been repaired since it read as uncorrectable. -/
def fillingUncorrectable : State :=
  { State.reset with
    regs := [(regKey F.MEM_STAT_ZEROFILL.page F.MEM_STAT_ZEROFILL.off, BitVec.ofNat 32 (2 ^ F.MEM_STAT_ZEROFILL.lo)),
      (regKey F.MEM_UNCORR_ADDR_ADDR.page F.MEM_UNCORR_ADDR_ADDR.off, 0x20000000)]
    boot.held := false
    nvm.memLive := true }

/-- Refutes O22: where the bank holds the word of MEM_UNCORR_ADDR, the end of its fill repairs that word (R649), which is no register, memory byte or ECC mark. -/
theorem not_governorCommands : ¬ Obligations.GovernorCommands := by
  intro h
  have hready : Ready fillingUncorrectable := by decide
  have hfill : bitOf (fillingUncorrectable.get F.MEM_STAT_ZEROFILL) 0 = true := by decide
  obtain ⟨-, -, hdone, -⟩ := h fillingUncorrectable hready
  obtain ⟨t, ht, -, -, -, hframe⟩ := hdone 0 (by decide) (by decide) hfill
  obtain ⟨u, hu, hlive⟩ := exec_bankZeroFillDone_repairs hready hfill (by decide) (by decide)
  cases ht.symm.trans hu
  have hkept : t.nvm.memLive = true := by rw [hframe]; rfl
  exact absurd (hkept.symm.trans hlive) (by decide)

end Sys2Proof.Machine
end


section
/-! The slots of the array, of transfers and of background work (chapters 12, 13, 17): how each begins its work. Settles O21. -/

namespace Sys2Proof.Machine

/-! ### Slots that begin without the question to the governor, or with a demand of their own -/

theorem mayStart_of_slotStarts {act idx at_ : Nat} {d : Slot} {s : State} (h : SlotStarts act idx at_ d s) : mayStart s d at_ = true := by
  obtain ⟨-, -, hat, hfirst, -⟩ := h
  simp only [mayStart, hat, beq_self_eq_true, Bool.true_and, List.all_eq_true]
  intro x hx
  by_cases hx1 : x.kind = 1
  · simp [hx1, hfirst x hx hx1]
  · simp [hx1]

/-- A slot that begins is of the action asked for, and waits in the tick. -/
theorem SlotStarts.slot {act idx at_ : Nat} {d : Slot} {s : State} (h : SlotStarts act idx at_ d s) : d ∈ s.plan.todo ∧ d.idx = idx ∧ d.action = act := by
  obtain ⟨hfind, -⟩ := h
  refine ⟨List.mem_of_find?_eq_some hfind, ?_⟩
  simpa using List.find?_some hfind

/-- No injected overrun waits for an M or O slot that starts, and a B slot starts before its end. -/
theorem SlotStarts.free {act idx at_ : Nat} {d : Slot} {s : State} (h : SlotStarts act idx at_ d s) :
    (d.kind != 3 && s.armedAt 0x06 (if d.kind = 1 then 1 else 2)) = false ∧ ¬(d.kind = 3 ∧ d.start + d.budget ≤ at_) := by
  obtain ⟨-, -, -, -, ⟨hk, hinj⟩ | ⟨hk, -, hinj⟩ | ⟨hk, hin, -⟩⟩ := h
  · simp [hk, hinj]
  · simp [hk, hinj]
  · simp [hk, hin]

theorem slotBegin_unasked {act idx at_ : Nat} {d : Slot} {s : State} (h : SlotStarts act idx at_ d s) (extra : Int) :
    slotBegin act idx at_ extra false s = (slotStarted d idx at_ s, true) := by
  obtain ⟨hinj, hin⟩ := h.free
  have hmay := mayStart_of_slotStarts h
  obtain ⟨hfind, hrun, -⟩ := h
  have harmed (k : Plan) (n : Nat) : State.armedAt { s with plan := k } 0x06 n = s.armedAt 0x06 n := rfl
  unfold slotBegin
  simp only [hfind, hrun, hmay, hin, harmed, hinj, Bool.not_true, Bool.false_and, Bool.false_eq_true, if_false]
  rfl

/-- A slot whose own demand `extra` fits within the cap begins. -/
theorem slotBegin_fits {act idx at_ : Nat} {d : Slot} {s : State} (h : SlotStarts act idx at_ d s) {extra : Int} (hfit : fitsCap s (s.gov.pred + extra) = true) :
    slotBegin act idx at_ extra true s = (slotStarted d idx at_ s, true) := by
  obtain ⟨hinj, hin⟩ := h.free
  have hmay := mayStart_of_slotStarts h
  obtain ⟨hfind, hrun, -⟩ := h
  have harmed (k : Plan) (n : Nat) : State.armedAt { s with plan := k } 0x06 n = s.armedAt 0x06 n := rfl
  have hadmit (k : Plan) : admits true (s.gov.pred + extra) { s with plan := k } = ({ s with plan := k }, true) := admits_fits hfit
  unfold slotBegin
  simp only [hfind, hrun, hmay, hin, hadmit, harmed, hinj, Bool.not_true, Bool.true_and, Bool.false_eq_true, if_false, ite_self]
  rfl

/-! ### ARR_LAYER (R460, R461) -/

theorem unparkFor_live {cs : List Nat} {s : State} (h : ∀ c ∈ cs, c ∈ s.gov.live) : unparkFor cs s = s := by
  induction cs with
  | nil => rfl
  | cons c t ih =>
    have hc : s.gov.live.contains c = true := by simpa using h c (by simp)
    rw [unparkFor, if_pos hc]
    exact ih fun x hx => h x (by simp [hx])

theorem startLayers_started {r : Run} {s : State} (hrun : s.arr.run = some r) (hst : r.started = true) (n : Nat) : startLayers n s = s := by
  cases n with
  | zero => rfl
  | succ n => simp [startLayers, hrun, hst]

theorem dispatch_empty {s : State} (h : s.arr.queue = []) (n : Nat) : dispatch n s = s := by
  cases n with
  | zero => rfl
  | succ n => unfold dispatch; split <;> simp_all

/-- The partition that waits alone goes to the first free live cell of the layer's list. -/
theorem dispatchAll_one {r : Run} {p c : Nat} {s : State} (hrun : s.arr.run = some r) (hq : s.arr.queue = [p])
    (hc : (r.list.find? fun c => s.gov.live.contains c && (aget s.arr.work c).isNone) = some c) :
    dispatchAll s = giveWork c p { s with arr.queue := [] } := by
  unfold dispatchAll
  rw [dispatch]
  simp only [hrun, hq, hc]
  exact dispatch_empty rfl 16

/-- What a cell that is given a partition shows. -/
theorem giveWork_shows {r : Run} {c p : Nat} {s : State} (hrun : s.arr.run = some r) :
    giveWork c p s = { s with regs := (giveWork c p s).regs, arr := (giveWork c p s).arr } ∧ (giveWork c p s).arr.queue = s.arr.queue
      ∧ (giveWork c p s).arr.run = s.arr.run ∧ aget (giveWork c p s).arr.work c = some p ∧ (giveWork c p s).get (F.CELL_STAT_BUSY c) = 1
      ∧ (giveWork c p s).get (F.CELL_WORK_LAYER c) = r.layer % 64 := by
  have hbusy : Clear (F.CELL_WORK_LAYER c) (F.CELL_STAT_BUSY c) ∧ Clear (F.CELL_WORK_PART c) (F.CELL_STAT_BUSY c) := by
    constructor <;> exact .inl (by simp [regKey])
  have hlayer : Clear (F.CELL_WORK_PART c) (F.CELL_WORK_LAYER c) := .inr ⟨rfl, rfl, by simp, by simp⟩
  have keeps (u : State) (g f : Fld) (v : Nat) (hc : Clear g f) : (u.put g v).get f = u.get f :=
    ((KeepsBut.refl [g] u).put g v (by simp)) f (by simpa using hc)
  unfold giveWork
  simp only [hrun]
  refine ⟨rfl, by simp, by simp, ?_, ?_, ?_⟩
  · simp [aget_aset_same]
  · rw [keeps _ _ _ _ hbusy.2, keeps _ _ _ _ hbusy.1]
    exact State.get_put_same _ _ _ (by simp) (by simp)
  · rw [keeps _ _ _ _ hlayer]
    exact State.get_put_same _ _ _ (by simp) (by simp)

/-- The state in which an ARR_LAYER slot goes on with its run: the slot has begun, the run counts its layers anew, the cells are clocked on. -/
def layerSlotBegun (d : Slot) (idx at_ : Nat) (r : Run) (s : State) : State :=
  resumeCells (1000 * at_) { slotStarted d idx at_ s with arr.run := some { r with done := 0 } }

theorem placeCell_congr {s t : State} (h : ∀ a b, placedBefore t a b = placedBefore s a b) (c : Nat) (l : List Nat) : placeCell t c l = placeCell s c l := by
  induction l with
  | nil => rfl
  | cons d l ih => simp only [placeCell, h, ih]

/-- The order of placement looks at words and at the bench alone. -/
theorem placement_layerSlotBegun (d : Slot) (idx at_ : Nat) (r : Run) (s : State) : placement (layerSlotBegun d idx at_ r s) = placement s := by
  have hcell : placeCell (layerSlotBegun d idx at_ r s) = placeCell s := funext fun c => funext fun l =>
    placeCell_congr (s := s) (t := layerSlotBegun d idx at_ r s) (fun _ _ => rfl) c l
  rw [placement, placement, hcell]
  rfl

/-- An ARR_LAYER slot in a started layer with its cells live only dispatches. -/
theorem arrLayer_dispatches {idx at_ : Nat} {d : Slot} {r : Run} {s : State} (hst : SlotStarts 7 idx at_ d s) (hrun : s.arr.run = some r) (hr : r.started = true)
    (hserv : serving s ≠ []) (hplace : ∀ x, x ∈ placement s → x ∈ s.gov.live) (hlive : s.gov.live ≠ []) :
    arrLayer idx at_ s = dispatchAll (layerSlotBegun d idx at_ r s) := by
  have hhas : hasRun s = true := by simp [hasRun, hrun]
  have hrun' : (slotStarted d idx at_ s).arr.run = some r := hrun
  have hserv' : ¬ serving (layerSlotBegun d idx at_ r s) = [] := hserv
  have hunpark : unparkFor (placement (layerSlotBegun d idx at_ r s)) (layerSlotBegun d idx at_ r s) = layerSlotBegun d idx at_ r s :=
    unparkFor_live (by rw [placement_layerSlotBegun]; exact hplace)
  have hlive' : ¬((layerSlotBegun d idx at_ r s).gov.live = [] ∧ obRuns (layerSlotBegun d idx at_ r s) = true) := fun hc => hlive hc.1
  have hsome : (layerSlotBegun d idx at_ r s).arr.run.isSome = true := rfl
  have hbegun : resumeCells (1000 * at_) { slotStarted d idx at_ s with arr.run := (slotStarted d idx at_ s).arr.run.map fun r => { r with done := 0 } }
      = layerSlotBegun d idx at_ r s := by rw [hrun']; rfl
  unfold arrLayer
  simp only [hhas, Bool.not_true, Bool.false_eq_true, if_false, slotBegin_unasked hst, hbegun, if_neg hserv', hunpark, if_neg hlive', hsome, if_true]
  rw [startLayers_started (r := { r with done := 0 }) rfl hr]

/-- A slot without a run completes at once. -/
theorem arrLayer_idle {idx at_ : Nat} {d : Slot} {s : State} (hst : SlotStarts 7 idx at_ d s) (hno : hasRun s = false) :
    arrLayer idx at_ s = slotEnd at_ (slotStarted d idx at_ s) := by
  have hend : endAtOnce at_ (slotStarted d idx at_ s) = slotEnd at_ (slotStarted d idx at_ s) := by simp [endAtOnce, slotStarted, completesAt]
  unfold arrLayer
  simp only [hno, Bool.not_false, if_true, slotBegin_starts hst, hend]

/-! ### Ready states without a slot -/

theorem Ready.noTask {s : State} (h : Ready s) (hno : s.plan.run = none) : s.bist.task = none ∧ s.dma.jobs = [] := by
  obtain ⟨-, -, -, htask, hjobs⟩ := h
  refine ⟨?_, ?_⟩
  · by_contra hne
    exact htask hne hno
  · by_contra hne
    exact hjobs hne (by simp [dmaSlot, hno])

/-! ### Background work (R618, R620, R635, R639) -/

theorem gapTest_spares {s : State} (h : spares s = true) : gapTest s = s := if_pos (.inl h)

/-- The piece of task `t` that a B slot with slot `d` begins. -/
def workBegun (t : Nat) (d : Slot) (bad raced : Bool) (s : State) : Bist :=
  { s.bist with task := some t, arg := d.arg, units := 0, sliceEnd := d.start + min d.budget (s.get F.BIST_CFG_SLICE_US), bad := bad, raced := raced }

/-- The power that task `t` adds: a test's cell under test (R620). -/
def taskPower (t : Nat) (s : State) : Int := if some t = some 0 then cellCost s (level s) else 0

theorem taskPower_test (s : State) : taskPower 0 s = cellCost s (level s) := rfl

theorem fits_taskPower {act idx at_ t : Nat} {d : Slot} {s : State} (hst : SlotStarts act idx at_ d s) (hk : d.kind = 3) (ht : t ≠ 0) :
    fitsCap s (s.gov.pred + taskPower t s) = true := by
  obtain ⟨-, -, -, -, ⟨hk1, -⟩ | ⟨hk2, -⟩ | ⟨-, -, hfit⟩⟩ := hst
  · omega
  · omega
  · simpa [taskPower, ht] using hfit

/-- The state in which a B slot has begun its piece of task `t`. -/
def workStarted (t idx at_ : Nat) (d : Slot) (bad raced : Bool) (s : State) : State := { slotStarted d idx at_ s with bist := workBegun t d bad raced s }

/-- A B slot whose own task is ready begins it; a test adds the power of the cell under test and shows RUNNING (R620). -/
theorem backSlot_own {act own idx at_ : Nat} {d : Slot} {bad raced : Bool} {s : State} (hst : SlotStarts act idx at_ d s) (hk : d.kind = 3) (hsp : spares s = true)
    (hready : taskReady s own = true) (hfit : fitsCap s (s.gov.pred + taskPower own s) = true) (harm : s.armedAt 0x09 2 = false ∨ own ≠ 0) :
    backSlot act own idx at_ bad raced s
      = if own ≠ 0 then workStarted own idx at_ d bad raced s
        else { workStarted own idx at_ d bad raced s with gov.pred := s.gov.pred + taskPower own s }.putB F.BIST_STAT_RUNNING true := by
  obtain ⟨hmem, hidx, hact⟩ := hst.slot
  obtain ⟨-, hin⟩ := hst.free
  have hlt : at_ < d.start + d.budget := by omega
  have hdue : (s.plan.todo.any fun d => d.idx == idx && d.action == act && mayStart s d at_ && decide (at_ < d.start + d.budget)) = true := by
    rw [List.any_eq_true]
    exact ⟨d, hmem, by simp [hidx, hact, mayStart_of_slotStarts hst, hlt]⟩
  have hrun : s.plan.run.isSome = false := by rw [hst.2.1]; rfl
  have hbegin : slotBegin act idx at_ (if some own = some 0 then cellCost s (level s) else 0) true s = (slotStarted d idx at_ s, true) := slotBegin_fits hst hfit
  have hquiet : own = 0 → ({ workStarted own idx at_ d bad raced s with gov.pred := s.gov.pred + taskPower own s }.putB F.BIST_STAT_RUNNING true).armedAt 0x09 2 = false := by
    intro h0
    rw [State.armedAt, State.putB_page]
    exact harm.resolve_right (not_not.mpr h0)
  unfold backSlot
  simp only [gapTest_spares hsp, hready, if_true, hdue, hrun, hbegin, Bool.not_true, Bool.false_eq_true, or_self, if_false]
  split
  · rfl
  · rename_i h0
    exact if_neg (by rw [Bool.not_eq_true]; exact hquiet (not_not.mp h0))

/-- Settles O21: each action is its operation on the state in which its slot has begun. -/
theorem arrayAndDmaSlots : Obligations.ArrayAndDmaSlots := by
  intro s idx at_ d h
  refine ⟨fun r p c hst hrun hr hserv hplace hlive hq hc hc17 => ?_, fun hst hk hno htodo => ?_, fun hst => ?_, fun raced hst hk hsp hready hfit harm => ?_,
    fun raced hst hk hsp hready => ?_, fun bad hst hk hsp hready => ?_⟩
  · have heff : arrLayer idx at_ s = giveWork c p { layerSlotBegun d idx at_ r s with arr.queue := [] } := by
      rw [arrLayer_dispatches hst hrun hr hserv hplace hlive]
      refine dispatchAll_one (r := { r with done := 0 }) rfl hq ?_
      exact hc
    obtain ⟨hframe, hqueue, hgone, hwork, hbusy, hlayer⟩ :=
      giveWork_shows (r := { r with done := 0 }) (c := c) (p := p) (s := { layerSlotBegun d idx at_ r s with arr.queue := [] }) rfl
    generalize giveWork c p { layerSlotBegun d idx at_ r s with arr.queue := [] } = t at *
    refine ⟨t, act_started h hst heff (by rw [hframe]; rfl) (by rw [hframe]; rfl) (by rw [hframe]; rfl), hqueue, hwork, hgone, hbusy, hlayer, by rw [hframe]; rfl, ?_⟩
    rw [hframe]
    rfl
  · obtain ⟨htask, hjobs⟩ := h.noTask hst.2.1
    have hall : ∀ x ∈ (slotStarted d idx at_ s).plan.todo, x.kind = 1 := fun x hx => htodo x (List.mem_of_mem_filter hx)
    have heff := (arrLayer_idle hst hno).trans (slotEnd_m (r := { slot := d, began := at_, late := decide (d.start < at_), gov := s.flag F.GOV_STAT_EMERG, inj := false })
      rfl hk hall at_)
    refine ⟨_, act_quiet h heff ⟨h.2.1, h.2.2.1, fun hc => absurd htask hc, fun hc => absurd hjobs hc⟩ (fun ha => ?_), rfl, rfl, rfl⟩
    simp [arrSlot, hst.2.1] at ha
  · obtain ⟨-, -, hact⟩ := hst.slot
    refine act_quiet h (by simp only [dmaJob, slotBegin_starts hst]; rfl) ⟨h.2.1, h.2.2.1, fun _ => by simp [slotStarted], fun _ => ?_⟩ fun _ => by simp [slotStarted]
    simp [dmaSlot, slotStarted, hact]
  · have heff := backSlot_own (bad := false) (raced := raced) hst hk hsp hready hfit (.inl harm)
    exact ⟨_, act_started h hst heff rfl rfl rfl, rfl, rfl, rfl, rfl, flag_putB_true _ rfl (by decide), rfl⟩
  · have heff := backSlot_own (bad := false) (raced := raced) hst hk hsp hready (fits_taskPower hst hk (by decide)) (.inr (by decide))
    exact ⟨_, act_started h hst heff rfl rfl rfl, rfl, rfl, rfl, rfl⟩
  · have heff := backSlot_own (bad := bad) (raced := false) hst hk hsp hready (fits_taskPower hst hk (by decide)) (.inr (by decide))
    exact ⟨_, act_started h hst heff rfl rfl rfl, rfl, rfl, rfl⟩

end Sys2Proof.Machine
end

section
/-! A write through the cell window while injection point 1 of the cell's page is armed fails the cell and stores nothing (R473, R482, R651): refutes O10. -/

namespace Sys2Proof.Machine

/-- An access through the cell window while injection point 1 of its cell is armed: the cell fails and nothing is stored. -/
theorem writeMemory_cell_injected {path : Path} {addr w : Word} {s : State} (ha : addr.toNat % 4 = 0) (hr : regionOf addr.toNat = .cell)
    (hp : powerCheck s addr.toNat .cell = 0) (hc : s.get F.MEM_WIN_CELL < 17) (harm : s.armedAt (0x31 + s.get F.MEM_WIN_CELL) 1 = true) :
    writeMemory path addr w s = cellFails (s.get F.MEM_WIN_CELL) 4 true (s.disarm (0x31 + s.get F.MEM_WIN_CELL) 1) := by
  simp [writeMemory, writeAny, writeAccess, cellWinRead, ha, hr, hp, hc, harm]

/-- Cell 0 is live and idle, and the injection of an uncorrectable error into its memory is armed. -/
def cellInjected : State :=
  { State.reset with
    regs := [(regKey F.SPI_CFG_SPI_ROLE.page F.SPI_CFG_SPI_ROLE.off, BitVec.ofNat 32 (3 * 2 ^ F.SPI_CFG_SPI_ROLE.lo)),
      (regKey F.SYS_BSTAT_ROM_OK.page F.SYS_BSTAT_ROM_OK.off, BitVec.ofNat 32 (2 ^ F.SYS_BSTAT_ROM_OK.lo))]
    boot.held := false
    gov.live := [0]
    page.armed := [(0x31, 1)] }

/-- What the command of O10 makes of `cellInjected`: the injection is used up. -/
theorem exec_memoryWrite_cellInjected : ∃ t, exec (.memoryWrite .spi 0x30000000 1) cellInjected = .next t ∧ t.page.armed = [] := by
  have hready : Ready cellInjected := by decide
  have hwrite : overPath .spi (writeMemory .spi 0x30000000 1) cellInjected = cellFails 0 4 true (cellInjected.disarm 0x31 1) := by
    rw [overPath, if_pos (by decide)]
    exact writeMemory_cell_injected (by decide) (by decide) (by decide) (by decide) (by decide)
  refine ⟨_, act_same hready (by rw [hwrite]; decide) (by rw [hwrite]; decide) (by rw [hwrite]; decide) (by rw [hwrite]; decide) (by rw [hwrite]; decide), ?_⟩
  rw [hwrite]
  decide

/-- Refutes O10: the injection of point 1 that is armed at the cell's page (no hypothesis rules it out) takes the access for itself. -/
theorem not_cellWindowWrites : ¬ Obligations.CellWindowWrites := by
  intro h
  obtain ⟨t, ht, -, -, hframe⟩ := h cellInjected .spi 0x30000000 1 (by decide) (by decide) (by decide) (by decide) (by decide) (by decide) (by decide) (by decide)
  obtain ⟨u, hu, harmed⟩ := exec_memoryWrite_cellInjected
  cases ht.symm.trans hu
  have hkept : t.page.armed = [(0x31, 1)] := by rw [hframe]; rfl
  exact absurd (hkept.symm.trans harmed) (by decide)

end Sys2Proof.Machine
end

section
/-! Sleep requests, their cancellation and their retries (R561, R562, R567). Settles O50. -/

namespace Sys2Proof.Machine

/-! ### The checks of R561 -/

/-- The fields that the checks of R561 read. -/
abbrev sleepFields : List Fld :=
  [F.PWR_STAT_STATE, F.PWR_STAT_ENTRY, F.SYS_BSTAT_CEIL, F.FLT_STAT_STATE, F.PWR_WAKE_SRC_LATCH, F.SYS_GEN_GEN, F.LDAC_CFG_MODE, F.LDAC_STAT_SPAN_PASS, F.LDAC_STAT_RAMPING,
    F.LDAC_STAT_STARTUP, F.TICK_CFG_PPS_OUT_EN]

/-- What the checks read beyond those fields: the requests under way, the OTP costs and the effective values. -/
theorem sleepReason_keeps {gs : List Fld} {s t : State} (h : KeepsBut gs s t) (hgs : ∀ f ∈ sleepFields, ∀ g ∈ gs, Clear g f) (hslp : t.slp = s.slp) (hotp : t.otp = s.otp)
    (heff : t.eff = s.eff) (target : Nat) (retry : Bool) : sleepReason target retry t = sleepReason target retry s := by
  have hget : ∀ f ∈ sleepFields, t.get f = s.get f := fun f hf => h f (hgs f hf)
  have hflag : ∀ f ∈ sleepFields, t.flag f = s.flag f := fun f hf => h.flag f (hgs f hf)
  have hrdE : ∀ p off, t.rdE p off = s.rdE p off := fun p off => by rw [State.rdE, heff, State.rdE]
  have hen : t.en 0x48 = s.en 0x48 := by simp only [State.en, hrdE]
  simp only [sleepReason, pstate, startCeil, inFault, wakeEnabled, loopGen, gen, loopParked, frostEst, hslp, hotp, hrdE, hen, hget F.PWR_STAT_STATE (by decide),
    hget F.PWR_STAT_ENTRY (by decide), hflag F.SYS_BSTAT_CEIL (by decide), hget F.FLT_STAT_STATE (by decide), hget F.PWR_WAKE_SRC_LATCH (by decide),
    hget F.SYS_GEN_GEN (by decide), hget F.LDAC_CFG_MODE (by decide), hflag F.LDAC_STAT_SPAN_PASS (by decide), hflag F.LDAC_STAT_RAMPING (by decide),
    hflag F.LDAC_STAT_STARTUP (by decide), hflag F.TICK_CFG_PPS_OUT_EN (by decide)]
  rfl

/-- Every check passes. -/
theorem sleepReason_accepts {target : Nat} {s : State} (hreq : s.slp.req = none) (hdown : s.slp.down = none) (hst : pstate s = 0) (hentry : s.get F.PWR_STAT_ENTRY ≠ 5)
    (hceil : startCeil s = false) (hfault : inFault s = false) (hsrc : getBits (s.rdE 0x02 0x044) 4 0 ≠ 0)
    (hwake : ∀ k, k < 6 → wakeEnabled s k = true → bitOf (s.get F.PWR_WAKE_SRC_LATCH) k = false) (hpark : target = 3 → loopGen s = true → loopParked s = true)
    (hest : target = 3 → frostEst s ≤ 70) : sleepReason target false s = none := by
  have hpending : ((List.range 6).any fun k => wakeEnabled s k && bitOf (s.get F.PWR_WAKE_SRC_LATCH) k) = false := by
    rw [List.any_eq_false]
    intro k hk hboth
    rw [Bool.and_eq_true] at hboth
    simp [hwake k (List.mem_range.mp hk) hboth.1] at hboth
  have hparked : ¬(target = 3 ∧ loopGen s = true ∧ (!loopParked s) = true) := by
    rintro ⟨h3, hloop, hnot⟩
    simp [hpark h3 hloop] at hnot
  have hcost : ¬(target = 3 ∧ 70 < frostEst s) := fun ⟨h3, hlt⟩ => absurd (hest h3) (by omega)
  simp only [sleepReason, hpending, hparked, hcost, hreq, hdown, hst, hceil, hfault, hsrc, beq_false_of_ne hentry, if_false]
  rfl

/-- The reasons BUSY, STARTUP and FAULT. -/
theorem sleepReason_rejects {target r : Nat} {s : State} (h : pstate s ≠ 0 ∧ r = 1 ∨ s.slp.req = none ∧ s.slp.down = none ∧ pstate s = 0 ∧ s.get F.PWR_STAT_ENTRY ≠ 5
      ∧ (startCeil s = true ∧ r = 2 ∨ startCeil s = false ∧ inFault s = true ∧ r = 3)) : sleepReason target false s = some r := by
  rcases h with ⟨hst, rfl⟩ | ⟨hreq, hdown, hst, hentry, ⟨hceil, rfl⟩ | ⟨hceil, hfault, rfl⟩⟩
  · simp [sleepReason, hst]
  · simp [sleepReason, hst, hreq, hdown, hentry, hceil]
  · simp [sleepReason, hst, hreq, hdown, hentry, hceil, hfault]

/-! ### Words that an operation writes whole -/

/-- The register at offset `off` of page `p` as one field. -/
abbrev wordFld (p off : Nat) : Fld := ⟨p, off, 31, 0, false⟩

theorem KeepsBut.wr {gs : List Fld} {s t : State} (h : KeepsBut gs s t) {p off : Nat} (w : Word) (hg : wordFld p off ∈ gs) : KeepsBut gs s (t.wr p off w) := by
  intro f hf
  refine Eq.trans ?_ (h f hf)
  rcases hf _ hg with hne | ⟨-, -, -, hd⟩
  · simp only [State.get, State.rdE_wr, t.rd_wr_ne w hne]
  · have hlo : 31 < f.lo := hd.resolve_left (Nat.not_lt_zero _)
    have hzero (v : Word) : getBits v f.hi f.lo = 0 := by
      rw [getBits, Nat.div_eq_of_lt (v.isLt.trans_le (Nat.pow_le_pow_right (by decide) hlo)), Nat.zero_mod]
    simp only [State.get, hzero]

theorem SameBut.wr {ks : List Nat} {s t : State} (h : SameBut ks s t) (p off : Nat) (w : Word) (hk : regKey p off ∈ ks) : SameBut ks s (t.wr p off w) := by
  obtain ⟨hframe, hwords⟩ := h
  refine ⟨?_, fun k hne => ⟨?_, (hwords k hne).2⟩⟩
  · rw [hframe]
    rfl
  · exact (aget_aset_ne _ _ fun he => hne (by rwa [← he])).trans (hwords k hne).1

theorem SameBut.raise {ks : List Nat} {s t : State} (h : SameBut ks s t) (e : Nat × Nat) (hk : regKey e.1 0x010 ∈ ks) : SameBut ks s (t.raise e) :=
  h.wr e.1 0x010 _ hk

/-! ### PWR_RESULT -/

theorem sleepResult_get (result reason block why target : Nat) (s : State) {f : Fld} (hp : f.page = 0x02) (ho : f.off = 0x060) (hr : f.rws = false) :
    (sleepResult result reason block why target s).get f
      = getBits (BitVec.ofNat 32 (result * 2 ^ 24 + reason * 2 ^ 16 + block * 2 ^ 12 + why * 2 ^ 8 + target)) f.hi f.lo := by
  rw [State.get, hr, hp, ho, sleepResult, State.rd_wr_same]
  rfl

/-! ### PWR_SLEEP -/

/-- A write of PWR_SLEEP that passes its checks: TARGET is taken, then the request is made or cancelled. -/
theorem sleepWrite_row {path : Path} {w : Word} {s u : State} (hu : noteOwner path 0x02 s = u) (h : MayWrite path 0x02 0x058 w s) :
    overPath path (writeReg path 0x02 0x058 w) s = sleepWrite w (u.put F.PWR_SLEEP_TARGET (getBits w 1 0)) := by
  rw [← hu]
  exact overPath_writeReg (e := ⟨0x058, 0x400, 1, 4, 1, 0, 0, 0, 3, 0, 0, 0x80000000⟩) (i := 0) (by decide) (by decide) (by decide) rfl rfl (by decide) h
    fun hrws => absurd rfl hrws

theorem askSleep_row {path : Path} {target : Nat} {s u : State} (hu : noteOwner path 0x02 s = u) (hlo : 1 ≤ target) (hhi : target ≤ 3)
    (h : MayWrite path 0x02 0x058 (BitVec.ofNat 32 (0x80000000 + target)) s) :
    overPath path (askSleep path target) s = sleepAsk target false (u.put F.PWR_SLEEP_TARGET target) := by
  have hrow := sleepWrite_row hu h
  have hask : askSleep path target = writeReg path 0x02 0x058 (BitVec.ofNat 32 (0x80000000 + target)) := funext fun x => if_pos ⟨hlo, hhi⟩
  rw [hask, hrow]
  obtain rfl | rfl | rfl : target = 1 ∨ target = 2 ∨ target = 3 := by omega
  all_goals rfl

theorem sleepCancel_row {path : Path} {s u : State} (hu : noteOwner path 0x02 s = u) (h : MayWrite path 0x02 0x058 0x80000000 s) :
    overPath path (writeReg path 0x02 0x058 0x80000000) s
      = if (u.put F.PWR_SLEEP_TARGET 0).get F.PWR_STAT_ENTRY = 5 then cancelRetry (u.put F.PWR_SLEEP_TARGET 0) else u.put F.PWR_SLEEP_TARGET 0 :=
  sleepWrite_row hu h

/-! ### Requests that are made -/

theorem sleepAsk_accepted {target : Nat} {s : State} (harm : s.armedAt 0x02 2 = false) (h : sleepReason target false s = none) :
    sleepAsk target false s = State.put { s with slp.req := some target, slp.retryTarget := target, slp.firstSeen := false, slp.wokeEntry := false } F.PWR_STAT_RETRY_LEFT
      (s.get F.PWR_CFG_RETRY) := by
  simp only [sleepAsk, harm, h, Bool.false_eq_true, if_false]
  rfl

theorem sleepAsk_again {target : Nat} {s : State} (harm : s.armedAt 0x02 2 = false) (h : sleepReason target true s = none) :
    sleepAsk target true s = State.put { s with slp.req := some target, slp.retryTarget := target, slp.firstSeen := false, slp.wokeEntry := false } F.PWR_STAT_ENTRY 0 := by
  simp only [sleepAsk, harm, h, Bool.false_eq_true, if_false, if_true]

theorem sleepAsk_rejected {target r : Nat} {s : State} (harm : s.armedAt 0x02 2 = false) (h : sleepReason target false s = some r) :
    sleepAsk target false s = sleepResult 3 r 0 0 target ((s.bump F.PWR_CNT2_REJECTED).raise E.PWR_REJECTED) := by
  simp only [sleepAsk, harm, h, Bool.false_eq_true, if_false]
  rfl

/-- What a request that is accepted shows (R561, R563, R567). -/
theorem sleepAsk_accepted_shows {target : Nat} {s v t : State} {p : PageSt} (hv : v = State.put { s with page := p } F.PWR_SLEEP_TARGET target) (hhi : target ≤ 3)
    (harm : v.armedAt 0x02 2 = false) (h : sleepReason target false v = none) (hst : pstate s = 0) (ht : sleepAsk target false v = t) :
    t.slp.req = some target ∧ t.slp.wokeEntry = false ∧ t.get F.PWR_SLEEP_TARGET = target ∧ t.get F.PWR_STAT_RETRY_LEFT = s.get F.PWR_CFG_RETRY
      ∧ t.get F.PWR_STAT_STATE = 0 ∧ t = { s with regs := t.regs, slp := t.slp, page := p } := by
  have hkeeps : KeepsBut [F.PWR_SLEEP_TARGET] s v := hv ▸ ((KeepsBut.refl _ s).words (u := { s with page := p }) rfl rfl).put _ _ (by decide)
  rw [← ht, sleepAsk_accepted harm h]
  refine ⟨rfl, rfl, ?_, ?_, ?_, by rw [hv]; rfl⟩
  · rw [State.get_put_ne _ _ _ _ (by decide), hv]
    exact (State.get_put_same _ F.PWR_SLEEP_TARGET target (by decide) (by decide)).trans (Nat.mod_eq_of_lt (Nat.lt_of_le_of_lt hhi (by decide)))
  · rw [State.get_put_same _ _ _ (by decide) (by decide), hkeeps _ (by decide)]
    exact Nat.mod_eq_of_lt (getBits_lt _ _ _)
  · rw [State.get_put_other _ _ _ _ (by decide)]
    exact (hkeeps _ (by decide)).trans hst

/-- What a request that is rejected shows (R561). -/
theorem sleepAsk_rejected_shows {target r : Nat} {s v t : State} {p : PageSt} (hv : v = State.put { s with page := p } F.PWR_SLEEP_TARGET target) (hlo : 1 ≤ target)
    (hhi : target ≤ 3) (hr : 1 ≤ r ∧ r ≤ 3) (harm : v.armedAt 0x02 2 = false) (h : sleepReason target false v = some r) (ht : sleepAsk target false v = t) :
    t.get F.PWR_RESULT_RESULT = 3 ∧ t.get F.PWR_RESULT_REASON = r ∧ t.get F.PWR_RESULT_TARGET = target
      ∧ t.get F.PWR_CNT2_REJECTED = satTo 65535 (s.get F.PWR_CNT2_REJECTED + 1) ∧ (t.rd 0x02 0x010).getLsbD E.PWR_REJECTED.2 = true
      ∧ t = { s with regs := t.regs, page := p }
      ∧ SameBut [regKey 0x02 0x058, regKey 0x02 0x060, regKey 0x02 0x074, regKey 0x02 0x010] s { t with page := s.page } := by
  have hkeeps : KeepsBut [F.PWR_SLEEP_TARGET] s v := hv ▸ ((KeepsBut.refl _ s).words (u := { s with page := p }) rfl rfl).put _ _ (by decide)
  rw [← ht, sleepAsk_rejected harm h]
  have hcount : (sleepResult 3 r 0 0 target ((v.bump F.PWR_CNT2_REJECTED).raise E.PWR_REJECTED)).get F.PWR_CNT2_REJECTED = (v.bump F.PWR_CNT2_REJECTED).get F.PWR_CNT2_REJECTED :=
    (((KeepsBut.refl [wordFld 0x02 0x060, evtFld E.PWR_REJECTED] _).raise _ (by decide)).wr _ (by decide)) _ (by decide)
  refine ⟨?_, ?_, ?_, ?_, ?_, by rw [hv]; rfl, ?_⟩
  · rw [sleepResult_get _ _ _ _ _ _ rfl rfl rfl]
    simp only [getBits, BitVec.toNat_ofNat]
    omega
  · rw [sleepResult_get _ _ _ _ _ _ rfl rfl rfl]
    simp only [getBits, BitVec.toNat_ofNat]
    omega
  · rw [sleepResult_get _ _ _ _ _ _ rfl rfl rfl]
    simp only [getBits, BitVec.toNat_ofNat]
    omega
  · rw [hcount, State.get_bump_same _ _ (by decide) (by decide), hkeeps _ (by decide), satTo_eq_min]
    rfl
  · rw [sleepResult, State.rd_wr_ne _ _ (by decide)]
    exact State.raise_bit_same _ _ _ (by decide)
  · have hsame := (((sameBut_refl [regKey 0x02 0x058, regKey 0x02 0x060, regKey 0x02 0x074, regKey 0x02 0x010] s).put F.PWR_SLEEP_TARGET target rfl (by decide)).put
      F.PWR_CNT2_REJECTED (satTo 65535 ((s.put F.PWR_SLEEP_TARGET target).get F.PWR_CNT2_REJECTED + 1)) rfl (by decide)).raise E.PWR_REJECTED (by decide)
    rw [hv]
    exact hsame.wr 0x02 0x060 _ (by decide)

/-- The write's note of its path changes page states only, and none of their injections. -/
theorem noteOwner_page (path : Path) (p : Nat) (s : State) :
    noteOwner path p s = { s with page := (noteOwner path p s).page } ∧ (noteOwner path p s).page.armed = s.page.armed := by
  obtain ⟨o, ho⟩ := noteOwner_ownersOnly path p s
  rw [ho]
  exact ⟨rfl, rfl⟩

/-- SLEEP_REQUEST: the request is made on the state that the write of TARGET leaves, with the checks' result of the state before it. -/
theorem sleepRequest_asks {path : Path} {target : Nat} {s : State} (harm : s.armedAt 0x02 2 = false) (hlo : 1 ≤ target) (hhi : target ≤ 3)
    (h : MayWrite path 0x02 0x058 (BitVec.ofNat 32 (0x80000000 + target)) s) :
    ∃ v, v = State.put { s with page := (noteOwner path 0x02 s).page } F.PWR_SLEEP_TARGET target ∧ v.armedAt 0x02 2 = false
      ∧ sleepReason target false v = sleepReason target false s ∧ overPath path (askSleep path target) s = sleepAsk target false v := by
  obtain ⟨hframe, harmed⟩ := noteOwner_page path 0x02 s
  have heff := askSleep_row hframe hlo hhi h
  obtain ⟨v, hv⟩ : ∃ v, v = State.put { s with page := (noteOwner path 0x02 s).page } F.PWR_SLEEP_TARGET target := ⟨_, rfl⟩
  have hfields : ∀ f ∈ sleepFields, ∀ g ∈ [F.PWR_SLEEP_TARGET], Clear g f := by decide
  have hkeeps : KeepsBut [F.PWR_SLEEP_TARGET] s v := hv ▸ ((KeepsBut.refl _ s).words (u := { s with page := (noteOwner path 0x02 s).page }) rfl rfl).put _ _ (by decide)
  have hpage : v.page = (noteOwner path 0x02 s).page := by rw [hv]; rfl
  rw [← hv] at heff
  refine ⟨v, hv, ?_, sleepReason_keeps hkeeps hfields (by rw [hv]; rfl) (by rw [hv]; rfl) (by rw [hv]; rfl) target false, heff⟩
  rw [State.armedAt, hpage, harmed]
  exact harm

/-- A pending retry is cancelled (R562). -/
theorem cancelRetry_waiting {s : State} (h : s.get F.PWR_STAT_ENTRY = 5) :
    cancelRetry s = State.put { s.put F.PWR_STAT_ENTRY 0 with slp.retryIn := 0 } F.PWR_STAT_RETRY_LEFT 0 := by
  simp only [cancelRetry, h, if_true]

/-- A retry that is asked again and accepted (R567). -/
theorem sleepRetry_asks {s : State} (harm : s.armedAt 0x02 2 = false) (hentry : s.get F.PWR_STAT_ENTRY = 5) (hin : s.slp.retryIn = 0)
    (h : sleepReason s.slp.retryTarget true s = none) :
    ∃ t, sleepRetry s = t ∧ t.slp.req = some s.slp.retryTarget ∧ t.get F.PWR_STAT_ENTRY = 0
        ∧ t.get F.PWR_STAT_RETRY_LEFT = s.get F.PWR_STAT_RETRY_LEFT - 1 ∧ t.get F.PWR_CNT2_RETRIES = satTo 65535 (s.get F.PWR_CNT2_RETRIES + 1)
        ∧ t = { s with regs := t.regs, slp := t.slp } := by
  have hfields : ∀ f ∈ sleepFields, ∀ g ∈ [F.PWR_CNT2_RETRIES, F.PWR_STAT_RETRY_LEFT], Clear g f := by decide
  have hkeeps : KeepsBut [F.PWR_CNT2_RETRIES, F.PWR_STAT_RETRY_LEFT] s ((s.bump F.PWR_CNT2_RETRIES).put F.PWR_STAT_RETRY_LEFT (s.get F.PWR_STAT_RETRY_LEFT - 1)) :=
    ((KeepsBut.refl _ s).bump _ (by decide)).put _ _ (by decide)
  have hreason := (sleepReason_keeps hkeeps hfields rfl rfl rfl s.slp.retryTarget true).trans h
  have heff : sleepRetry s = sleepAsk s.slp.retryTarget true ((s.bump F.PWR_CNT2_RETRIES).put F.PWR_STAT_RETRY_LEFT (s.get F.PWR_STAT_RETRY_LEFT - 1)) :=
    if_pos ⟨hentry, hin⟩
  have hbits := getBits_lt (s.rd 0x02 0x05C) 10 8
  rw [heff, sleepAsk_again (s := (s.bump F.PWR_CNT2_RETRIES).put F.PWR_STAT_RETRY_LEFT (s.get F.PWR_STAT_RETRY_LEFT - 1)) harm hreason]
  refine ⟨_, rfl, rfl, State.get_put_same _ _ _ (by decide) (by decide), ?_, ?_, rfl⟩
  · rw [State.get_put_other _ _ _ _ (by decide)]
    refine (State.get_put_same _ F.PWR_STAT_RETRY_LEFT _ (by decide) (by decide)).trans (Nat.mod_eq_of_lt ?_)
    exact Nat.lt_of_le_of_lt (Nat.sub_le _ _) hbits
  · rw [State.get_put_ne _ _ _ _ (by decide)]
    refine (State.get_put_ne _ _ _ _ (by decide)).trans ?_
    rw [State.get_bump_same _ _ (by decide) (by decide), satTo_eq_min]
    rfl

/-- Settles O50: the request acts on the state in which TARGET is taken, whose checks give what they give before. -/
theorem sleepRequests : Obligations.SleepRequests := by
  intro s hs harm
  refine ⟨fun path target hlo hhi hmay => ?_, fun path hmay => ?_, fun hentry hin hreason => ?_, fun hentry => act_still hs (if_neg fun h => hentry h.1)⟩
  · obtain ⟨v, hv, hvarm, hreason, heff⟩ := sleepRequest_asks harm hlo hhi hmay
    refine ⟨fun hreq hdown hst hentry hceil hfault hsrc hwake hpark hest => ?_, fun r hr => ?_⟩
    · have hnone := hreason.trans (sleepReason_accepts hreq hdown hst hentry hceil hfault hsrc hwake hpark hest)
      obtain ⟨h1, h2, h3, h4, h5, h6⟩ := sleepAsk_accepted_shows hv hhi hvarm hnone hst rfl
      exact ⟨_, act_next hs heff (by rw [h6]) (by rw [h6]) (by rw [h6]) (by rw [h6]), h1, h2, h3, h4, h5, h6⟩
    · have hsome := hreason.trans (sleepReason_rejects hr)
      have hrange : 1 ≤ r ∧ r ≤ 3 := by omega
      obtain ⟨h1, h2, h3, h4, h5, h6, h7⟩ := sleepAsk_rejected_shows hv hlo hhi hrange hvarm hsome rfl
      exact ⟨_, act_next hs heff (by rw [h6]) (by rw [h6]) (by rw [h6]) (by rw [h6]), h1, h2, h3, h4, h5, h6, h7⟩
  · obtain ⟨hframe, -⟩ := noteOwner_page path 0x02 s
    have hentry : (State.put { s with page := (noteOwner path 0x02 s).page } F.PWR_SLEEP_TARGET 0).get F.PWR_STAT_ENTRY = s.get F.PWR_STAT_ENTRY :=
      State.get_put_ne _ _ _ _ (by decide)
    have heff := sleepCancel_row hframe hmay
    rw [hentry] at heff
    by_cases h5 : s.get F.PWR_STAT_ENTRY = 5
    · rw [if_pos h5, cancelRetry_waiting (hentry.trans h5)] at heff
      refine ⟨_, act_next hs heff rfl rfl rfl rfl, ?_, fun _ => ⟨?_, State.get_put_same _ _ _ (by decide) (by decide), rfl⟩, fun h => absurd h5 h⟩
      · exact (State.get_put_other _ _ _ _ (by decide)).trans ((State.get_put_other _ _ _ _ (by decide)).trans (State.get_put_ne _ _ _ _ (by decide)))
      · exact (State.get_put_other _ _ _ _ (by decide)).trans (State.get_put_same _ F.PWR_STAT_ENTRY _ (by decide) (by decide))
    · rw [if_neg h5] at heff
      refine ⟨_, act_next hs heff rfl rfl rfl rfl, State.get_put_ne _ _ _ _ (by decide), fun h => absurd h h5, fun _ => ⟨rfl, ?_⟩⟩
      exact (sameBut_refl _ s).put F.PWR_SLEEP_TARGET 0 rfl (by decide)
  · obtain ⟨t, heff, h1, h2, h3, h4, h5⟩ := sleepRetry_asks harm hentry hin hreason
    exact ⟨t, act_next hs heff (by rw [h5]) (by rw [h5]) (by rw [h5]) (by rw [h5]), h1, h2, h3, h4, h5⟩

end Sys2Proof.Machine
end

section
/-! KNOCK, wake source 1, does nothing while no generation is latched (R575): refutes O51. -/

namespace Sys2Proof.Machine

theorem exec_wake_knock_ungenerated {s : State} (h : Ready s) (hgen : gen s = 0) (falling : Bool) : exec (.wake 1 falling) s = .next s :=
  act_still h (if_pos hgen)

/-- Refutes O51: after the reset no generation is latched, so KNOCK leaves its latch clear. -/
theorem not_sleepAndWake : ¬ Obligations.SleepAndWake := by
  intro h
  have hready : Ready { State.reset with boot.held := false } := by decide
  obtain ⟨-, -, -, -, hwake, -⟩ := h { State.reset with boot.held := false } hready
  obtain ⟨t, ht, hlatch, -⟩ := hwake 1 false (by decide) (fun h0 => absurd h0 (by decide))
  cases ht.symm.trans (exec_wake_knock_ungenerated hready (by decide) false)
  exact absurd hlatch (by decide)

end Sys2Proof.Machine
end

section
/-! The fault hub's own commands: leaks, the end of the fault state, FLT_CMD, traps, the escalation counters and DIE_HOT (R590, R597 to R616). Settles O52. -/

namespace Sys2Proof.Machine

/-! ### The Almanac's count of a fault (R592) -/

/-- The parts that a fault event of a source that only records leaves to its count. -/
theorem fltIrq_keepsParts (s : State) : (fltIrq s).alm = s.alm ∧ (fltIrq s).flt = s.flt := by
  unfold fltIrq
  extract_lets hot s1
  have hs1 : s1.alm = s.alm ∧ s1.flt = s.flt := by
    unfold s1
    split
    · exact ⟨rfl, rfl⟩
    · exact ⟨rfl, rfl⟩
  split
  · exact hs1
  · exact hs1

theorem addRecord_keepsParts (w0 w1 : Word) (s : State) : (addRecord w0 w1 s).alm = s.alm ∧ (addRecord w0 w1 s).flt.hotArmed = s.flt.hotArmed := ⟨rfl, rfl⟩

/-- From `s` to `t` the Almanac's word of source `id` counts one, and DIE_HOT stays armed or not. -/
def FaultCounted (id : Nat) (s t : State) : Prop := t.alm.live = (almAdd (0x340 + 4 * id) 1 0xFFFFFFFF s).alm.live ∧ t.flt.hotArmed = s.flt.hotArmed

theorem FaultCounted.of_parts {id : Nat} {s t u : State} (h : FaultCounted id s t) (halm : u.alm = t.alm) (hflt : u.flt.hotArmed = t.flt.hotArmed) : FaultCounted id s u := by
  obtain ⟨hlive, harm⟩ := h
  exact ⟨by rw [halm, hlive], hflt.trans harm⟩

/-- A fault event of a source that only records adds one to the source's word of the Almanac; DIE_HOT's arming stays. -/
theorem faultEvent_counts {id : Nat} (info : Nat) {s : State} (alt inj : Bool) (h : RecordsOnly id s) : FaultCounted id s (faultEvent id info s alt inj) := by
  obtain ⟨hesc, hbase⟩ := h
  unfold faultEvent
  extract_lets w c esc react inF conv k s1 p cnt s2 rec1 s3 off s4 s5 s6 s7
  have hreact : react ≤ 1 := by
    unfold react
    split
    · exact hesc
    · exact hbase
  have hs1 : s1.alm = s.alm ∧ s1.flt.hotArmed = s.flt.hotArmed := ⟨rfl, rfl⟩
  clear_value react conv esc s1
  have hs2 : FaultCounted id s s2 := by
    obtain ⟨halm, harm⟩ := hs1
    exact ⟨by simp only [s2, almAdd, State.bump_alm, halm], by simp only [s2, almAdd, State.bump_flt, harm]⟩
  clear_value s2 rec1
  have hs3 : FaultCounted id s s3 := by
    obtain ⟨halm, harm⟩ := addRecord_keepsParts (BitVec.ofNat 32 s2.tick.num) rec1 s2
    exact hs2.of_parts halm harm
  clear_value s3
  have hs4 : FaultCounted id s s4 := by
    unfold s4
    split
    · exact hs3
    · obtain ⟨halm, hflt⟩ := fltIrq_keepsParts (s3.wr p off (s3.rd p off ||| BitVec.ofNat 32 (2 ^ (id % 32))))
      exact hs3.of_parts (halm.trans (State.wr_alm _ _ _ _)) (congrArg Flt.hotArmed (hflt.trans (State.wr_flt _ _ _ _)))
  clear_value s4
  have hs5 : s5 = s4 := if_neg (by omega)
  rw [hs5]
  obtain rfl | rfl : react = 0 ∨ react = 1 := by omega
  · exact hs4
  · exact hs4

/-! ### Rows -/

@[simp] theorem noteOwner_flt (path : Path) (p : Nat) (s : State) : (noteOwner path p s).flt = s.flt := by rw [(noteOwner_page path p s).1]
@[simp] theorem noteOwner_bist (path : Path) (p : Nat) (s : State) : (noteOwner path p s).bist = s.bist := by rw [(noteOwner_page path p s).1]
@[simp] theorem noteOwner_dma (path : Path) (p : Nat) (s : State) : (noteOwner path p s).dma = s.dma := by rw [(noteOwner_page path p s).1]

/-- A command whose effect is `t`, which leaves the slot that runs, the background work, the transfers and the hub's reactions alone. -/
theorem act_ends {f : State → State} {s t : State} (h : Ready s) (hf : f s = t) (hrun : t.plan.run = s.plan.run) (hb : t.bist.task = s.bist.task)
    (hd : t.dma.jobs = s.dma.jobs) (he : t.flt.entered = s.flt.entered) (hc : t.flt.chipReset = s.flt.chipReset) : act f s = .next t := by
  subst hf
  exact act_same h hrun hb hd he hc

theorem fltCmd_row {path : Path} {w : Word} {s u : State} (hu : noteOwner path 0x07 s = u) (h : MayWrite path 0x07 0x054 w s) :
    overPath path (writeReg path 0x07 0x054 w) s = fltCmd w u := by
  rw [← hu]
  exact overPath_writeReg (e := ⟨0x054, 0x400, 1, 4, 1, 0, 0, 0, 0, 0, 0, 0xFF00FFFF⟩) (i := 0) (by decide) (by decide) (by decide) rfl rfl (by decide) h
    fun hrws => absurd rfl hrws

theorem trapAck_row {path : Path} {w : Word} {s u : State} (hu : noteOwner path 0x07 s = u) (h : MayWrite path 0x07 0x050 w s) :
    overPath path (writeReg path 0x07 0x050 w) s = trapAck (w &&& 0xFFFF) u := by
  rw [← hu]
  exact overPath_writeReg (e := ⟨0x050, 0x400, 1, 4, 1, 0, 0, 0, 0, 0, 0, 0xFFFF⟩) (i := 0) (by decide) (by decide) (by decide) rfl rfl (by decide) h
    fun hrws => absurd rfl hrws

theorem escSelect_row {path : Path} {w : Word} {s u : State} (hu : noteOwner path 0x07 s = u) (h : MayWrite path 0x07 0x07C w s) :
    overPath path (writeReg path 0x07 0x07C w) s = u.put F.FLT_ESC_SEL (getBits w 23 16) := by
  rw [← hu]
  exact overPath_writeReg (e := ⟨0x07C, 0x400, 1, 4, 1, 0, 0, 0, 0xFF0000, 0, 0, 0⟩) (i := 0) (by decide) (by decide) (by decide) rfl rfl (by decide) h
    fun hrws => absurd rfl hrws

theorem toNat_low16 (w : Word) : (w &&& 0xFFFF).toNat = getBits w 15 0 := by
  rw [BitVec.toNat_and, getBits, pow_zero, Nat.div_one]
  exact Nat.and_two_pow_sub_one_eq_mod w.toNat 16

/-- The head of the FIFO is acknowledged by its TSEQ alone (R613). -/
theorem trapAck_head {w : Word} {s : State} {id q : Nat} {rest : List (Nat × Nat)} (h : s.flt.traps = (id, q) :: rest) :
    trapAck (w &&& 0xFFFF) s = if q = getBits w 15 0 then { s with flt.traps := rest } else s.bump F.FLT_CNT_ACK_MISS := by
  simp only [trapAck, h, toNat_low16]

theorem trapAck_empty {w : Word} {s : State} (h : s.flt.traps = []) : trapAck w s = s.bump F.FLT_CNT_ACK_MISS := by simp only [trapAck, h]

/-- What FLT_ESC shows (R616). -/
theorem normalWord_fltEsc (s : State) : getBits (normalWord s 0x07 0x07C) 7 0 = (aget s.flt.esc (s.get F.FLT_ESC_SEL)).getD 0 % 256 := by
  have hhid : hidden s 0x07 0x07C = 0 := by
    unfold hidden
    split
    · rfl
    · rfl
  have hword : normalWord s 0x07 0x07C = escWord s := by
    rw [normalWord, if_neg (by decide), hhid]
    exact mergeMask_zero _ _
  rw [hword, escWord]
  exact getBits_putBits _ _ (by decide) (by decide)

/-! ### The end of the fault state (R603, R604) -/

theorem faultExit_shows {s t : State} (hst : s.get F.FLT_STAT_STATE = 1) (hcalm : s.get F.FLT_CFG_CALM * 100 ≤ s.get F.FLT_CALM_CALM) (ht : faultExit s = t) :
    t.get F.FLT_STAT_STATE = 0 ∧ t.get F.FLT_STAT_ENTRY_SRC = 0xFF
        ∧ t.get F.FLT_CNT_RECOVERY = satTo 65535 (s.get F.FLT_CNT_RECOVERY + 1) ∧ t.flt.recov = (s.flt.recov ++ [s.flt.aonS]).drop ((s.flt.recov ++ [s.flt.aonS]).length - 15)
        ∧ (t.rd 0x07 0x010).getLsbD E.FLT0_FAULT_EXIT.2 = true ∧ t = { s with regs := t.regs, alm.live := t.alm.live, flt := t.flt }
        ∧ t.flt.esc = s.flt.esc ∧ t.flt.traps = s.flt.traps ∧ t.flt.ring = s.flt.ring ∧ t.flt.entered = s.flt.entered ∧ t.flt.chipReset = s.flt.chipReset := by
  have heff : faultExit s = State.raise { almCount 9 (addRecovery (((s.put F.FLT_STAT_STATE 0).put F.FLT_STAT_ENTRY_SRC 0xFF).bump F.FLT_CNT_RECOVERY)) with flt.aliveFirst := true }
      E.FLT0_FAULT_EXIT := if_pos ⟨hst, hcalm⟩
  have hkeeps : KeepsBut [evtFld E.FLT0_FAULT_EXIT] (((s.put F.FLT_STAT_STATE 0).put F.FLT_STAT_ENTRY_SRC 0xFF).bump F.FLT_CNT_RECOVERY) (faultExit s) := by
    rw [heff]
    exact ((KeepsBut.refl _ _).words rfl rfl).raise _ (by decide)
  subst ht
  refine ⟨?_, ?_, ?_, ?_, ?_, ?_, ?_, ?_, ?_, ?_, ?_⟩
  · rw [hkeeps _ (by decide)]
    exact (State.get_put_ne _ _ _ _ (by decide)).trans ((State.get_put_other _ _ _ _ (by decide)).trans (State.get_put_same _ F.FLT_STAT_STATE _ (by decide) (by decide)))
  · rw [hkeeps _ (by decide)]
    exact (State.get_put_ne _ _ _ _ (by decide)).trans (State.get_put_same _ F.FLT_STAT_ENTRY_SRC _ (by decide) (by decide))
  · rw [hkeeps _ (by decide), State.get_bump_same _ _ (by decide) (by decide), satTo_eq_min]
    exact congrArg (fun n => min 65535 (n + 1)) ((State.get_put_ne _ _ _ _ (by decide)).trans (State.get_put_ne _ _ _ _ (by decide)))
  · rw [heff]
    rfl
  · rw [heff]
    exact State.raise_bit_same _ _ _ (by decide)
  all_goals
    rw [heff]
    rfl

/-- Settles O52: each row is its operation; a leak takes one, the end of the fault state is `faultExit_shows`, DIE_HOT a fault event that only records. -/
theorem faultHubCommands : Obligations.FaultHubCommands := by
  intro s hs
  refine ⟨fun id c hc hlt hdue => ?_, fun id hc hdue => ?_, fun id hno => ?_, fun hst hcalm => ?_, fun hno => ?_, fun path hmay hst => ?_, fun path hmay hst => ?_,
    fun path hmay => ?_, fun path w id q rest hmay htraps => ?_, fun path w hmay htraps => ?_, fun path w hmay => ?_, fun harmed hticks hrec => ?_, fun hticks => ?_⟩
  · have heff : escLeak id s = { s with flt.esc := aset s.flt.esc id (c - 1), flt.leakU := aset s.flt.leakU id ((aget s.flt.leakU id).getD 0 - leakTime s id) } := by
      simp only [escLeak, hc, Option.getD_some, hdue]
      rw [if_neg (by simp; omega), if_neg (by omega)]
    exact act_ends hs heff rfl rfl rfl rfl rfl
  · have heff : escLeak id s = { s with flt.esc := adel s.flt.esc id, flt.leakU := adel s.flt.leakU id } := by
      simp only [escLeak, hc, Option.getD_some, hdue]
      rfl
    exact act_ends hs heff rfl rfl rfl rfl rfl
  · refine act_still hs (if_pos ?_)
    simpa using hno
  · obtain ⟨h1, h2, h3, h4, h5, h6, h7, h8, h9, hent, hreset⟩ := faultExit_shows hst hcalm rfl
    refine ⟨_, act_same hs (by rw [h6]) (by rw [h6]) (by rw [h6]) hent hreset, h1, ?_, h2, h3, h4, h5, h6, h7, h8, h9⟩
    rw [inFault, h1]
    rfl
  · refine act_still hs (if_neg fun h => ?_)
    omega
  · have heff : overPath path (writeReg path 0x07 0x054 (opWord 1 0xC10C)) s = clearLockout (noteOwner path 0x07 s) := fltCmd_row rfl hmay
    rw [clearLockout, if_pos ((noteOwner_get path 0x07 s _).trans hst)] at heff
    obtain ⟨o, ho⟩ := noteOwner_ownersOnly path 0x07 s
    rw [ho] at heff ⊢
    exact act_next hs heff rfl rfl rfl rfl
  · have heff : overPath path (writeReg path 0x07 0x054 (opWord 1 0xC10C)) s = clearLockout (noteOwner path 0x07 s) := fltCmd_row rfl hmay
    exact act_ends hs (heff.trans (if_neg fun h => hst ((noteOwner_get path 0x07 s _).symm.trans h))) (by simp) (by simp) (by simp) (by simp) (by simp)
  · have heff : overPath path (writeReg path 0x07 0x054 (opWord 2 0)) s = clearEsc (noteOwner path 0x07 s) := fltCmd_row rfl hmay
    exact act_ends hs heff (by simp) (by simp) (by simp) (by simp) (by simp)
  · have heff : overPath path (writeReg path 0x07 0x050 w) s = _ := (trapAck_row rfl hmay).trans (trapAck_head ((congrArg Flt.traps (noteOwner_flt path 0x07 s)).trans htraps))
    refine ⟨fun hq => ?_, fun hq => ?_⟩
    · exact act_ends hs (heff.trans (if_pos hq.symm)) (by simp) (by simp) (by simp) (by simp) (by simp)
    · exact act_ends hs (heff.trans (if_neg fun h => hq h.symm)) (by simp) (by simp) (by simp) (by simp) (by simp)
  · have heff : overPath path (writeReg path 0x07 0x050 w) s = _ := (trapAck_row rfl hmay).trans (trapAck_empty ((congrArg Flt.traps (noteOwner_flt path 0x07 s)).trans htraps))
    exact act_ends hs heff (by simp) (by simp) (by simp) (by simp) (by simp)
  · obtain ⟨o, ho⟩ := noteOwner_ownersOnly path 0x07 s
    have hsel := State.get_put_same { s with page.owners := o } F.FLT_ESC_SEL (getBits w 23 16) (by decide) (by decide)
    have hmod : getBits w 23 16 % 2 ^ (23 + 1 - 16) = getBits w 23 16 := Nat.mod_eq_of_lt (getBits_lt w 23 16)
    refine ⟨_, act_next hs (escSelect_row ho hmay) rfl rfl rfl rfl, hsel.trans hmod, ?_, (sameBut_refl _ s).put F.FLT_ESC_SEL _ rfl (by decide), by rw [ho]; rfl⟩
    rw [normalWord_fltEsc, hsel]
    exact congrArg (fun n => (aget s.flt.esc n).getD 0 % 256) hmod
  · have heff : dieHot s = faultEvent 0x13 0 { s with flt.hotArmed := false } := if_pos ⟨harmed, hticks⟩
    obtain ⟨hlive, harm⟩ := faultEvent_counts (id := 0x13) (s := { s with flt.hotArmed := false }) 0 false false hrec
    obtain ⟨hnoted, htotal⟩ := faultEvent_records (id := 0x13) (s := { s with flt.hotArmed := false }) 0 false false hrec
    rw [← heff] at hlive harm hnoted htotal
    obtain ⟨_, _, _, _, hframe⟩ := hnoted.only
    refine ⟨_, act_same hs (by rw [hframe]) (by rw [hframe]) (by rw [hframe]) hnoted.entered hnoted.chipReset, harm, ?_, htotal, ?_⟩
    · rw [hlive]
      exact congrArg (Option.getD · 0) (aget_aset_same _ _ _)
    · obtain ⟨-, hent, hreset, -⟩ := hs
      exact ⟨hnoted.chipReset.trans hreset, hnoted.entered.trans hent, by rw [hframe], by rw [hframe], by rw [hframe], by rw [hframe]⟩
  · exact act_still hs (if_neg fun h => by omega)

end Sys2Proof.Machine
end

section
/-! The assertion of a reset (chapter 21, R715 to R723): what its causes clear and what their classes leave. Settles O59. -/

namespace Sys2Proof.Machine

/-! ### Memories -/

theorem byteAt_clearSram {s : State} (h : s.memWf = true) {a : Nat} (ha : a < 0x20000000 ∨ 0x20400000 ≤ a) : (clearSram s).byteAt a = s.byteAt a := by
  have hread := cellRead_cellDrop 0x20000000 0x20400000 a (memWf_iff.mp h).1
  rw [if_neg (by omega)] at hread
  exact hread

theorem byteAt_initRetention {s : State} (h : s.memWf = true) {a : Nat} (ha : a < 0x38000000 ∨ 0x38004000 ≤ a) : (initRetention s).byteAt a = s.byteAt a := by
  have hread := cellRead_cellDrop 0x38000000 0x38004000 a (memWf_iff.mp h).1
  rw [if_neg (by omega)] at hread
  refine Eq.trans (byteAt_setBytes_out (bytesOfWord 16) ?_ ?_) hread
  · rw [memWf_iff] at h ⊢
    exact ⟨cellDrop_wf h.1, h.2⟩
  · change a < 0x38003F00 ∨ 0x38003F00 + 4 ≤ a
    omega

/-- A reset leaves the bytes outside SRAM and retention RAM, and those of retention RAM unless its class is COLD (R650, R723). -/
theorem byteAt_clearedState {cls : Nat} {b : Boot} {s : State} (h : s.memWf = true) {a : Nat} (hsram : a < 0x20000000 ∨ 0x20400000 ≤ a)
    (hret : cls = 1 → a < 0x38000000 ∨ 0x38004000 ≤ a) : (clearedState cls b s).byteAt a = s.byteAt a := by
  have hcells : (clearCells (clearSram s)).byteAt a = s.byteAt a := byteAt_clearSram h hsram
  by_cases hcls : cls = 1
  · subst hcls
    exact (byteAt_initRetention (clearCells_wf (clearSram_wf h)) (hret rfl)).trans hcells
  · have hmem : (clearedState cls b s).mem = (clearCells (clearSram s)).mem := by
      simp only [clearedState, if_neg hcls]
    rw [State.byteAt, hmem]
    exact hcells

/-! ### Registers -/

/-- The registers that some class keeps. -/
abbrev keptList : List (Nat × Nat) := [(0x04, 0x048), (0x04, 0x04C), (0x07, 0x05C), (0x48, 0x058)]

theorem aget_aset_regKey {m : Assoc Word} {q o p off : Nat} (w : Word) (h : (p, off) ≠ (q, o)) (ho : o < 0x400) (hoff : off < 0x400) :
    aget (aset m (regKey q o) w) (regKey p off) = aget m (regKey p off) := by
  refine aget_aset_ne _ _ fun he => h ?_
  unfold regKey at he
  rw [Prod.mk.injEq]
  omega

theorem aget_keptRegs {cls : Nat} {s : State} {p off : Nat} (h : (p, off) ∉ keptList) (hoff : off < 0x400) : aget (keptRegs cls s) (regKey p off) = none := by
  simp only [keptList, List.mem_cons, not_or, List.not_mem_nil, not_false_eq_true, and_true] at h
  obtain ⟨h48, h4c, h5c, h58⟩ := h
  have htrims : aget (if cls = 1 then [] else aset (aset [] (regKey 0x04 0x048) (s.rd 0x04 0x048)) (regKey 0x04 0x04C) (s.rd 0x04 0x04C)) (regKey p off) = none := by
    split
    · rfl
    · rw [aget_aset_regKey _ h4c (by decide) hoff, aget_aset_regKey _ h48 (by decide) hoff]
      rfl
  unfold keptRegs
  dsimp only
  split
  · rw [aget_aset_regKey _ h58 (by decide) hoff, aget_aset_regKey _ h5c (by decide) hoff]
    exact htrims
  · exact htrims

/-- The voltage trims survive every class but COLD. -/
theorem keptRegs_trims {cls : Nat} {s : State} (h : cls ≠ 1) :
    aget (keptRegs cls s) (regKey 0x04 0x048) = some (s.rd 0x04 0x048) ∧ aget (keptRegs cls s) (regKey 0x04 0x04C) = some (s.rd 0x04 0x04C) := by
  unfold keptRegs
  dsimp only
  rw [if_neg h]
  split
  · rw [aget_aset_ne _ _ (by decide), aget_aset_ne _ _ (by decide), aget_aset_ne _ _ (by decide), aget_aset_same, aget_aset_ne _ _ (by decide), aget_aset_ne _ _ (by decide),
      aget_aset_same]
    exact ⟨rfl, rfl⟩
  · rw [aget_aset_ne _ _ (by decide), aget_aset_same, aget_aset_same]
    exact ⟨rfl, rfl⟩

/-- The count of the fault record ring survives the class SOFT (R608). -/
theorem keptRegs_recCnt (s : State) : aget (keptRegs 3 s) (regKey 0x07 0x05C) = some (s.rd 0x07 0x05C) := by
  refine (aget_aset_ne _ _ (by decide)).trans ?_
  exact aget_aset_same _ _ _

theorem rd_of_regs {t : State} {p off : Nat} {w : Word} (h : aget t.regs (regKey p off) = some w) : t.rd p off = w := by
  rw [State.rd, h]
  rfl

/-! ### The reset of one cause -/

/-- The record of a reset that a cause asserts on a chip that runs (R718, R726). -/
def resetRecord (cause info : Nat) (s : State) : Boot :=
  { held := true, causes := [cause], info := if reportedCause [cause] = cause then info else s.boot.info, hist := s.boot.hist, histOk := s.boot.histOk,
    prevTick := s.tick.num % 2 ^ 32, patchWait := s.boot.patchWait, unitsAt := tickUnits s }

theorem assertReset_running {s : State} (hheld : s.boot.held = false) (hw : s.nvm.writing = none) (cause info : Nat) :
    assertReset cause info s = clearedState (causeClass (reportedCause [cause])) (resetRecord cause info s) s := by
  unfold assertReset
  simp only [hheld, hw]
  rfl

/-- What every cause has in common: the record, the registers at their reset values but those kept, and the memories of R650. -/
def ResetAsserted (s : State) (cause : Nat) (t : State) : Prop :=
  t.boot.held = true ∧ t.boot.causes = [cause] ∧ t.eff = [] ∧ t.pending = s.pending ∧ t.otp = s.otp
    ∧ t.boot.hist = s.boot.hist ∧ t.page = {} ∧ t.locks = [] ∧ (∀ a, 0x10000000 ≤ a → a < 0x10400000 → t.byteAt a = s.byteAt a)
    ∧ ∀ p off, (p, off) ∉ keptList → p < 0x80 → off < 0x400 → t.rd p off = resetWord p off ∧ t.rdE p off = resetWord p off

theorem assertReset_asserted {s : State} (hheld : s.boot.held = false) (hw : s.nvm.writing = none) (hwf : s.memWf = true) (cause info : Nat) :
    ResetAsserted s cause (assertReset cause info s) := by
  rw [assertReset_running hheld hw]
  refine ⟨rfl, rfl, rfl, rfl, rfl, rfl, rfl, rfl, fun a _ ha => byteAt_clearedState hwf (.inl (by omega)) fun _ => .inl (by omega), fun p off hk _ ho => ⟨?_, rfl⟩⟩
  exact congrArg (Option.getD · _) (aget_keptRegs hk ho)

/-- What the classes SYSTEM and SOFT keep besides (R650, R721): the trims, TICK_NUM, the Almanac and retention RAM. -/
theorem assertReset_keeps {s : State} (hheld : s.boot.held = false) (hw : s.nvm.writing = none) (hwf : s.memWf = true) {cause : Nat} (info : Nat)
    (hcls : causeClass (reportedCause [cause]) ≠ 1) {t : State} (ht : assertReset cause info s = t) :
    t.alm.live = s.alm.live ∧ t.rd 0x04 0x048 = s.rd 0x04 0x048 ∧ t.rd 0x04 0x04C = s.rd 0x04 0x04C ∧ t.tick.num = s.tick.num
      ∧ ∀ a, 0x38000000 ≤ a → a < 0x38004000 → t.byteAt a = s.byteAt a := by
  obtain ⟨h48, h4c⟩ := keptRegs_trims (s := s) hcls
  rw [← ht, assertReset_running hheld hw]
  refine ⟨?_, rd_of_regs h48, rd_of_regs h4c, ?_, fun a _ _ => byteAt_clearedState hwf (.inr (by omega)) fun h => absurd h hcls⟩
  · simp only [clearedState, if_neg hcls]
  · simp only [clearedState, if_neg hcls]

theorem rstCmd_row {path : Path} {w : Word} {s u : State} (hu : noteOwner path 0x01 s = u) (h : MayWrite path 0x01 0x048 w s) :
    overPath path (writeReg path 0x01 0x048 w) s = rstCmd w u := by
  rw [← hu]
  exact overPath_writeReg (e := ⟨0x048, 0x400, 1, 4, 1, 0, 0, 0, 0, 0, 0, 0xFF00FFFF⟩) (i := 0) (by decide) (by decide) (by decide) rfl rfl (by decide) h
    fun hrws => absurd rfl hrws

/-- Settles O59: what every cause has in common is `assertReset_asserted`, what the classes SYSTEM and SOFT keep besides `assertReset_keeps`. -/
theorem resetAssertion : Obligations.ResetAssertion := by
  intro s hheld hw hwf
  have hall := assertReset_asserted hheld hw hwf
  refine ⟨fun lost => ?_, fun rail hst => ?_, fun rail hst => ?_, fun hst => ?_, fun hst => ?_, fun ns hns => ?_, fun ns hns => ?_, fun hst hrom hreach => ?_, fun hno => ?_,
    fun path hset hmay => ?_⟩
  · have heq := assertReset_running hheld hw 1 0
    cases lost with
    | false => exact ⟨_, rfl, hall 1 0, congrArg State.regs heq, congrArg (fun t => t.alm.live) heq, fun h => absurd h (by decide)⟩
    | true => exact ⟨_, rfl, hall 1 0, congrArg State.regs heq, congrArg (fun t => t.alm.live) heq, fun _ => rfl⟩
  · obtain ⟨hlive, h48, h4c, hnum, hret⟩ := assertReset_keeps hheld hw hwf (cause := 2) rail (by decide) rfl
    have heq := assertReset_running hheld hw 2 rail
    exact ⟨_, congrArg Host.Outcome.next (if_neg hst), hall 2 rail, congrArg (fun t => t.boot.info) heq, hlive, h48, h4c, congrArg State.flt heq, hnum, hret⟩
  · exact congrArg Host.Outcome.next (if_pos hst)
  · have heq := assertReset_running hheld hw 3 0
    exact ⟨_, congrArg Host.Outcome.next (if_pos hst), hall 3 0, congrArg State.regs heq, congrArg (fun t => t.alm.live) heq⟩
  · exact congrArg Host.Outcome.next (if_neg hst)
  · obtain ⟨hlive, -, -, hnum, -⟩ := assertReset_keeps hheld hw hwf (cause := 4) 0 (by decide) rfl
    have heq := assertReset_running hheld hw 4 0
    exact ⟨_, congrArg Host.Outcome.next ((if_neg (by omega)).trans (if_pos hns)), hall 4 0, congrArg State.flt heq, hnum, hlive⟩
  · exact congrArg Host.Outcome.next (if_pos hns)
  · obtain ⟨hlive, -, -, hnum, -⟩ := assertReset_keeps hheld hw hwf (cause := 5) 0 (by decide) rfl
    have heq := assertReset_running hheld hw 5 0
    have heff : wdog s = assertReset 5 0 s := if_neg (by simp [hheld, hst, hrom, hreach])
    refine ⟨_, congrArg Host.Outcome.next heff, hall 5 0, congrArg (fun t => t.flt.ring) heq, congrArg (fun t => t.flt.recov) heq, congrArg (fun t => t.flt.aonS) heq, ?_,
      congrArg (fun t => t.flt.traps) heq, hnum, hlive⟩
    rw [heq]
    exact rd_of_regs (keptRegs_recCnt s)
  · refine congrArg Host.Outcome.next (if_pos ?_)
    rcases hno with hno | hno
    · simp [hno]
    · simp [hno]
  · obtain ⟨o, ho⟩ := noteOwner_ownersOnly path 0x01 s
    rw [ho]
    exact act_next ⟨hheld, hset⟩ (rstCmd_row ho hmay) rfl rfl rfl rfl

end Sys2Proof.Machine
end

section
/-! The release of a reset, ROM boot, and what a held chip does (R720 to R730, R749). Settles O60. -/

namespace Sys2Proof.Machine

/-! ### The link processor's reads of non-volatile memory -/

/-- From `s` to `t` only words of the pages from the fault hub's on and the count of free choices change: what a read of non-volatile memory may note. -/
structure NvmRead (s t : State) : Prop where
  only : ∃ r k, t = { s with regs := r, free := k }
  rd : ∀ {q off}, q < 7 → off < 0x400 → t.rd q off = s.rd q off

theorem NvmRead.refl (s : State) : NvmRead s s := ⟨⟨_, _, rfl⟩, fun _ _ => rfl⟩

theorem NvmRead.trans {s t u : State} (h : NvmRead s t) (k : NvmRead t u) : NvmRead s u where
  only := by
    obtain ⟨_, _, rfl⟩ := h.only
    obtain ⟨_, _, rfl⟩ := k.only
    exact ⟨_, _, rfl⟩
  rd hq ho := (k.rd hq ho).trans (h.rd hq ho)

theorem NvmRead.wr {s t : State} (h : NvmRead s t) {p : Nat} (off : Nat) (w : Word) (hp : 7 ≤ p) : NvmRead s (t.wr p off w) :=
  h.trans ⟨⟨_, _, rfl⟩, fun hq ho => t.rd_wr_ne w (regKey_ne_of_page hp hq ho)⟩

theorem NvmRead.put {s t : State} (h : NvmRead s t) (f : Fld) (v : Nat) (hr : f.rws = false) (hp : 7 ≤ f.page) : NvmRead s (t.put f v) := by
  have hput : t.put f v = t.wr f.page f.off (putBits (t.rd f.page f.off) f.hi f.lo v) := by
    unfold State.put
    rw [hr]
    rfl
  rw [hput]
  exact h.wr _ _ hp

theorem NvmRead.fresh {s t : State} (h : NvmRead s t) (n : Nat) : NvmRead s (t.fresh n) := h.trans ⟨⟨_, _, rfl⟩, fun _ _ => rfl⟩

theorem nvmCorrected_read (check : Bool) (s : State) : NvmRead s (nvmCorrected check s) := by
  unfold nvmCorrected
  split
  · exact ((NvmRead.refl s).put F.NVM_CNT_CHKBIT _ rfl (by decide)).wr 0x010 _ (by decide)
  · exact (NvmRead.refl s).put F.NVM_CNT_CORR _ rfl (by decide)

theorem ownMarks_read (base : Nat) (ms : List (Nat × EccErr)) (s : State) (bs : List Byte) : NvmRead s (ownMarks base ms s bs).1 := by
  induction ms generalizing s bs with
  | nil => exact .refl s
  | cons m t ih =>
    obtain ⟨a, e⟩ := m
    unfold ownMarks
    extract_lets r wrong s1 s2 bs1
    have hs1 : NvmRead s s1 := by
      unfold s1
      split
      · exact (NvmRead.refl s).fresh 17
      · exact .refl s
    have hs2 : NvmRead s s2 := by
      unfold s2
      clear_value r
      cases r
      case clean => exact hs1
      case wrongClean => exact hs1
      case uncorr => exact hs1.put F.NVM_CNT_UNCORR _ rfl (by decide)
      all_goals exact hs1.trans (nvmCorrected_read _ _)
    exact hs2.trans (ih s2 bs1)

theorem ownRead_read (a n : Nat) (s : State) : NvmRead s (ownRead a n s).1 := ownMarks_read a _ s _

theorem readSys_read (c : Nat) (s : State) : NvmRead s (readSys c s).1 := ownRead_read _ _ s

theorem scanSlot_read (x : State × SlotScan) (i : Nat) : NvmRead x.1 (scanSlot x i).1 := by
  have hslot : NvmRead x.1 (readSlot i x.1).1 := by
    unfold readSlot
    dsimp only
    split
    · exact ownRead_read _ _ _
    · split
      · exact ownRead_read _ _ _
      · exact ownRead_read _ _ _
  unfold scanSlot
  split
  all_goals
    rename_i hread
    rw [hread] at hslot
    exact hslot

theorem foldl_read {α : Type} {f : State × α → Nat → State × α} (hf : ∀ x i, NvmRead x.1 (f x i).1) (l : List Nat) (x : State × α) : NvmRead x.1 (l.foldl f x).1 := by
  induction l generalizing x with
  | nil => exact .refl _
  | cons i t ih => exact (hf x i).trans (ih _)

theorem determineHead_read (s : State) : NvmRead s (determineHead s) := by
  unfold determineHead noHead
  extract_lets slot a b c s1
  split
  · exact (((((NvmRead.refl s).put F.PRUNE_HSTAT_COPY _ rfl (by decide)).put F.PRUNE_HSTAT_HEAD_OK _ rfl (by decide)).put F.PRUNE_HSTAT_SEQ _ rfl (by decide)).put
      F.PRUNE_HSTAT_WFMT _ rfl (by decide)).put F.PRUNE_HLEN_LEN _ rfl (by decide)
  · have h1 : NvmRead s s1 := (((NvmRead.refl s).put F.PRUNE_HSTAT_COPY _ rfl (by decide)).put F.PRUNE_HSTAT_HEAD_OK _ rfl (by decide)).put F.PRUNE_HSTAT_SEQ _ rfl (by decide)
    exact (h1.put F.PRUNE_HSTAT_WFMT _ rfl (by decide)).put F.PRUNE_HLEN_LEN _ rfl (by decide)

theorem checkImage_read (slot : Nat) (s : State) : NvmRead s (checkImage slot s) := by
  have hvalid : NvmRead s (imageValid slot s).1 := by
    unfold imageValid
    dsimp only
    split
    · exact .refl s
    · exact ownRead_read _ _ s
  unfold checkImage imageChanged showModel
  dsimp only
  split
  · exact hvalid.wr _ _ (by decide)
  · exact (((hvalid.wr _ _ (by decide)).put F.ARR_STAT_MODEL_OK _ rfl (by decide)).wr _ _ (by decide)).trans (determineHead_read _)

/-! ### ROM boot (R730) -/

/-- From `s` to `t` only words of the pages from the fault hub's on, the hub's records, the Almanac and what is read of non-volatile memory change; no reaction is left waiting. -/
structure BootLoaded (s t : State) : Prop where
  only : ∃ r e f a n k c, t = { s with regs := r, eff := e, flt := f, alm := a, nvm := n, free := k, boot.cfgLost := c }
  entered : t.flt.entered = s.flt.entered
  chipReset : t.flt.chipReset = s.flt.chipReset
  rd : ∀ {q off}, q < 7 → off < 0x400 → t.rd q off = s.rd q off

theorem BootLoaded.trans {s t u : State} (h : BootLoaded s t) (k : BootLoaded t u) : BootLoaded s u where
  only := by
    obtain ⟨_, _, _, _, _, _, _, rfl⟩ := h.only
    obtain ⟨_, _, _, _, _, _, _, rfl⟩ := k.only
    exact ⟨_, _, _, _, _, _, _, rfl⟩
  entered := k.entered.trans h.entered
  chipReset := k.chipReset.trans h.chipReset
  rd hq ho := (k.rd hq ho).trans (h.rd hq ho)

theorem NvmRead.bootLoaded {s t : State} (h : NvmRead s t) : BootLoaded s t := by
  obtain ⟨_, _, rfl⟩ := h.only
  exact ⟨⟨_, _, _, _, _, _, _, rfl⟩, rfl, rfl, h.rd⟩

theorem FaultNoted.bootLoaded {s t : State} (h : FaultNoted s t) : BootLoaded s t := by
  obtain ⟨_, _, _, _, hframe⟩ := h.only
  exact ⟨⟨_, _, _, _, _, _, _, by rw [hframe]⟩, h.entered, h.chipReset, h.rd⟩

theorem bootLoaded_nvm (s : State) (n : Nvm) : BootLoaded s { s with nvm := n } := ⟨⟨_, _, _, _, _, _, _, rfl⟩, rfl, rfl, fun _ _ => rfl⟩
theorem bootLoaded_alm (s : State) (a : Alm) : BootLoaded s { s with alm := a } := ⟨⟨_, _, _, _, _, _, _, rfl⟩, rfl, rfl, fun _ _ => rfl⟩
theorem bootLoaded_cfgLost (s : State) (c : Bool) : BootLoaded s { s with boot.cfgLost := c } := ⟨⟨_, _, _, _, _, _, _, rfl⟩, rfl, rfl, fun _ _ => rfl⟩

theorem BootLoaded.put {s t : State} (h : BootLoaded s t) (f : Fld) (v : Nat) (hr : f.rws = false) (hp : 7 ≤ f.page) : BootLoaded s (t.put f v) :=
  h.trans ((NvmRead.refl t).put f v hr hp).bootLoaded

theorem foldl_bootLoaded {f : State → Nat → State} (hf : ∀ s i, BootLoaded s (f s i)) (l : List Nat) (s : State) : BootLoaded s (l.foldl f s) := by
  induction l generalizing s with
  | nil => exact (NvmRead.refl s).bootLoaded
  | cons i t ih => exact (hf s i).trans (ih _)

theorem configLost_bootLoaded {s : State} (h : RecordsOnly 0x62 s) : BootLoaded s (configLost s) := by
  unfold configLost
  split
  · exact (NvmRead.refl s).bootLoaded
  · have hrec : RecordsOnly 0x62 { s with boot.cfgLost := true } := recordsOnly_of_eff rfl h
    obtain ⟨hnoted, -⟩ := faultEvent_records (id := 0x62) (s := { s with boot.cfgLost := true }) 0 false false hrec
    exact (bootLoaded_cfgLost s true).trans hnoted.bootLoaded

/-- The system record `ws` of copy `copy` comes into force: the retired cells with their causes, ARCHIVE and the wear (R666), as in `loadSystem`. -/
def takeRecord (copy : Nat) (ws : List Word) (s : State) : State :=
  let s := { s with nvm.sysSeq := (ws.getD 1 0).toNat, nvm.sysCopy := copy }
  let ret := (ws.getD 2 0).toNat % 2 ^ 17
  let s := (s.put F.ARR_RETIRED_BITS ret).putB F.ARR_STAT_SPARES (ret == 0)
  let s := (List.range 17).foldl (fun s c => if bitOf ret c then s.put (F.CELL_STAT_ROLE c) 3 else s) s
  let s := (List.range 17).foldl (fun s c => s.put (F.CELL_RET_CAUSE c) ((ws.getD (3 + c / 8) 0).toNat / 2 ^ (28 - 4 * (c % 8)) % 16)) s
  let arch := bitOf (ws.getD 8 0).toNat 0
  let s := (s.putB F.NVM_STAT_ARCH_RETIRED arch).putB F.REC_STAT_RETIRED arch
  let s : State := (List.range 7).foldl (fun s p => s.put (F.NVM_WEAR_PASSES p) (ws.getD (9 + p) 0).toNat) s
  let worn := (List.range 7).filter fun p => decide (s.get F.NVM_CFG_WEAR_RETIRE ≤ s.get (F.NVM_WEAR_PASSES p))
  { s with alm.worn := worn }.put F.NVM_STAT_WORN (worn.foldl (fun a p => a + 2 ^ p) 0)

theorem takeRecord_bootLoaded (copy : Nat) (ws : List Word) (s : State) : BootLoaded s (takeRecord copy ws s) := by
  unfold takeRecord
  extract_lets nvm s1 ret s2 s3 s4 arch s5 s6 worn
  have hs2 : BootLoaded s s2 := ((bootLoaded_nvm s _).put F.ARR_RETIRED_BITS _ rfl (by decide)).put F.ARR_STAT_SPARES _ rfl (by decide)
  have hs3 : BootLoaded s s3 := by
    refine hs2.trans (foldl_bootLoaded (fun x c => ?_) _ s2)
    split
    · exact (NvmRead.refl x).bootLoaded.put (F.CELL_STAT_ROLE c) _ rfl (by change 7 ≤ 0x31 + c; omega)
    · exact (NvmRead.refl x).bootLoaded
  have hs4 : BootLoaded s s4 :=
    hs3.trans (foldl_bootLoaded (fun x c => (NvmRead.refl x).bootLoaded.put (F.CELL_RET_CAUSE c) _ rfl (by change 7 ≤ 0x31 + c; omega)) _ s3)
  have hs5 : BootLoaded s s5 := (hs4.put F.NVM_STAT_ARCH_RETIRED _ rfl (by decide)).put F.REC_STAT_RETIRED _ rfl (by decide)
  have hs6 : BootLoaded s s6 := hs5.trans (foldl_bootLoaded (fun x p => (NvmRead.refl x).bootLoaded.put (F.NVM_WEAR_PASSES p) _ rfl (by change 7 ≤ 0x0C; omega)) _ s5)
  exact (hs6.trans (bootLoaded_alm s6 _)).put F.NVM_STAT_WORN _ rfl (by decide)

/-- The system record is loaded, or its loss is noted by a fault that only records (R663, R666). -/
theorem loadSystem_bootLoaded {s : State} (h : RecordsOnly 0x62 s) : BootLoaded s (loadSystem s) := by
  have hread : NvmRead s (readSys 2 (readSys 1 s).1).1 := (readSys_read 1 s).trans (readSys_read 2 _)
  have hrec : RecordsOnly 0x62 (readSys 2 (readSys 1 s).1).1 := by
    obtain ⟨_, _, hframe⟩ := hread.only
    rw [hframe]
    exact recordsOnly_of_eff rfl h
  unfold loadSystem
  dsimp only
  generalize (readSys 2 (readSys 1 s).1).1 = u at *
  split
  · have hnvm : RecordsOnly 0x62 { u with nvm.sysSeq := 0, nvm.sysCopy := 0 } := recordsOnly_of_eff rfl hrec
    exact (hread.bootLoaded.trans (bootLoaded_nvm u _)).trans (configLost_bootLoaded hnvm)
  · exact hread.bootLoaded.trans (takeRecord_bootLoaded _ _ u)

/-- From `s` to `t` the boot's loading goes on, and the Almanac's image is loaded. -/
def AlmLoaded (s t : State) : Prop := BootLoaded s t ∧ t.alm.loaded = true

theorem AlmLoaded.put {s t : State} (h : AlmLoaded s t) (f : Fld) (v : Nat) (hr : f.rws = false) (hp : 7 ≤ f.page) : AlmLoaded s (t.put f v) := by
  obtain ⟨hload, halm⟩ := h
  exact ⟨hload.put f v hr hp, by rw [State.put_alm, halm]⟩

theorem AlmLoaded.alm {s t : State} (h : AlmLoaded s t) (a : Alm) (ha : a.loaded = t.alm.loaded) : AlmLoaded s { t with alm := a } := by
  obtain ⟨hload, halm⟩ := h
  exact ⟨hload.trans (bootLoaded_alm t a), ha.trans halm⟩

/-- The Almanac is loaded (R684). -/
theorem almLoad_almLoaded (kept : Bool) (cause : Nat) (s : State) : AlmLoaded s (almLoad kept cause s) := by
  have hscan : NvmRead s ((List.range 64).foldl scanSlot (s, {})).1 := foldl_read scanSlot_read _ (s, {})
  unfold almLoad
  split
  rename_i u sc hx
  rw [hx] at hscan
  extract_lets alm s1 keep alm1 none1 alm2 none2 loaded
  have hs1 : AlmLoaded s s1 := AlmLoaded.put ⟨hscan.bootLoaded.trans (bootLoaded_alm u _), rfl⟩ F.ALM_CNT_INVALID _ rfl (by decide)
  have hloaded : AlmLoaded s loaded := by
    unfold loaded
    split
    · rename_i i ws _
      extract_lets some1 some2
      have hsome : AlmLoaded s some2 := ((hs1.alm _ (by rfl)).put F.ALM_STAT_SLOT i rfl (by decide)).put F.ALM_ASEQ_ASEQ _ rfl (by decide)
      split
      · exact hsome.put F.ALM_STAT_LOAD 0 rfl (by decide)
      · exact (hsome.alm _ (by rfl)).put F.ALM_STAT_LOAD 1 rfl (by decide)
    · have hnone : AlmLoaded s none1 := (hs1.alm _ (by rfl)).put F.ALM_ASEQ_ASEQ _ rfl (by decide)
      have hlost : AlmLoaded s none2 := hnone.alm _ (by rfl)
      split
      · exact hnone.put F.ALM_STAT_LOAD 0 rfl (by decide)
      · split
        · obtain ⟨hload, halm⟩ := hlost.put F.ALM_STAT_LOAD 3 rfl (by decide)
          exact ⟨hload.trans ((NvmRead.refl _).wr 0x010 _ (by decide)).bootLoaded, halm⟩
        · exact hlost.put F.ALM_STAT_LOAD 2 rfl (by decide)
  exact hloaded.alm _ (by rfl)

/-- The images are checked and the head determined after the Almanac is loaded (R730). -/
theorem AlmLoaded.read {s t u : State} (h : AlmLoaded s t) (k : NvmRead t u) : AlmLoaded s u := by
  obtain ⟨hload, halm⟩ := h
  refine ⟨hload.trans k.bootLoaded, ?_⟩
  obtain ⟨_, _, hframe⟩ := k.only
  rw [hframe]
  exact halm

/-- What ROM boot has found before it loads: the LINK test and the check of the ROM passed (R632). -/
def romChecked (us : Nat) (s : State) : State :=
  let s := ((linkTest true (readOtp s)).putB F.SYS_BSTAT_ROM_OK true).put F.SYS_BOOT0_ROM_US (satTo 65535 us)
  { s with boot.patched := s.boot.patchWait }.putB F.SYS_BSTAT_PATCHED s.boot.patchWait

theorem romBoot_passes {us : Nat} {s : State} (h : s.flag F.SYS_BSTAT_ROM_OK = false) :
    romBoot us true false s = determineHead (checkImage 1 (checkImage 0 (almLoad (causeClass (reportedCause (loadSystem (romChecked us s)).boot.causes) != 1)
      (reportedCause (loadSystem (romChecked us s)).boot.causes) (loadSystem (romChecked us s))))) := by
  unfold romBoot romChecked
  rw [if_neg (by simp [h])]
  rfl

theorem romBoot_almLoaded {us : Nat} {s : State} (h : s.flag F.SYS_BSTAT_ROM_OK = false) (hrec : RecordsOnly 0x62 (romChecked us s)) :
    AlmLoaded (romChecked us s) (romBoot us true false s) := by
  rw [romBoot_passes h]
  obtain ⟨hload, hloaded⟩ := almLoad_almLoaded (causeClass (reportedCause (loadSystem (romChecked us s)).boot.causes) != 1)
    (reportedCause (loadSystem (romChecked us s)).boot.causes) (loadSystem (romChecked us s))
  have halm : AlmLoaded (romChecked us s) _ := ⟨(loadSystem_bootLoaded hrec).trans hload, hloaded⟩
  exact ((halm.read (checkImage_read 0 _)).read (checkImage_read 1 _)).read (determineHead_read _)

/-- The tests of OTP and LINK that pass note their results only. -/
theorem romChecked_frame (us : Nat) {s : State} (hotp : s.otp.badTrim = []) :
    romChecked us s = { s with regs := (romChecked us s).regs, otp := (romChecked us s).otp, boot.patched := s.boot.patchWait } := by
  have hread : readOtp s = { s with otp := (readOtp s).otp } := by
    unfold readOtp
    rw [hotp]
    rfl
  have htest : linkTest true (readOtp s) = { s with regs := (linkTest true (readOtp s)).regs, otp := (linkTest true (readOtp s)).otp } := by
    unfold linkTest
    rw [hread]
    split
    · rfl
    · rfl
  unfold romChecked
  rw [htest]
  rfl

theorem romChecked_shows (us : Nat) (s : State) (hotp : s.otp.badTrim = []) :
    (romChecked us s).flag F.SYS_BSTAT_ROM_OK = true ∧ (romChecked us s).get F.SYS_BOOT0_ROM_US = min 65535 us ∧ (romChecked us s).flag F.SYS_BSTAT_PATCHED = s.boot.patchWait := by
  have hwait : (linkTest true (readOtp s)).boot.patchWait = s.boot.patchWait := by
    have hread : (readOtp s).boot = s.boot := by
      unfold readOtp
      rw [hotp]
      rfl
    unfold linkTest
    split
    · rw [hread]
    · exact congrArg Boot.patchWait hread
  unfold romChecked
  generalize linkTest true (readOtp s) = u at *
  extract_lets v
  have hus : v.get F.SYS_BOOT0_ROM_US = min 65535 us := by
    refine (State.get_put_same _ F.SYS_BOOT0_ROM_US _ (by decide) (by decide)).trans ?_
    rw [satTo_eq_min]
    exact Nat.mod_eq_of_lt (by change min 65535 us < 65536; omega)
  have hok : v.flag F.SYS_BSTAT_ROM_OK = true := (flag_put_of_clear _ _ (by decide)).trans (flag_putB_true _ rfl (by decide))
  have hv : v.boot.patchWait = s.boot.patchWait := hwait
  clear_value v
  have hkeeps : KeepsBut [F.SYS_BSTAT_PATCHED] v (State.putB { v with boot.patched := v.boot.patchWait } F.SYS_BSTAT_PATCHED v.boot.patchWait) :=
    ((KeepsBut.refl _ v).words (u := { v with boot.patched := v.boot.patchWait }) rfl rfl).putB _ _ (by decide)
  refine ⟨(hkeeps.flag _ (by decide)).trans hok, (hkeeps _ (by decide)).trans hus, ?_⟩
  · exact (flag_putB_same _ _ rfl (by decide)).trans hv

/-- ROM_BOOT_COMPLETE of a boot without a fault but the loss of the system record (R730). -/
theorem exec_romBootComplete {us : Nat} {s : State} (h : Ready s) (hrom : s.flag F.SYS_BSTAT_ROM_OK = false) (hotp : s.otp.badTrim = []) (hrec : RecordsOnly 0x62 s) :
    ∃ t, exec (.romBootComplete us true false) s = .next t ∧ t.flag F.SYS_BSTAT_ROM_OK = true ∧ t.get F.SYS_BOOT0_ROM_US = min 65535 us ∧ t.boot.held = false
        ∧ t.flag F.SYS_BSTAT_PATCHED = s.boot.patchWait ∧ t.alm.loaded = true := by
  have hframe := romChecked_frame us hotp
  obtain ⟨hok, hus, hpatched⟩ := romChecked_shows us s hotp
  have hrec' : RecordsOnly 0x62 (romChecked us s) := recordsOnly_of_eff (by rw [hframe]) hrec
  obtain ⟨hload, halm⟩ := romBoot_almLoaded hrom hrec'
  have hget (f : Fld) (hr : f.rws = false) (hp : f.page < 7) (ho : f.off < 0x400) : (romBoot us true false s).get f = (romChecked us s).get f := by
    unfold State.get
    rw [hr]
    exact congrArg (getBits · f.hi f.lo) (hload.rd hp ho)
  obtain ⟨_, _, _, _, _, _, _, hboot⟩ := hload.only
  refine ⟨_, act_same h (by rw [hboot, hframe]) (by rw [hboot, hframe]) (by rw [hboot, hframe]) (hload.entered.trans (by rw [hframe])) (hload.chipReset.trans (by rw [hframe])),
    ?_, (hget _ rfl (by decide) (by decide)).trans hus, ?_, ?_, halm⟩
  · exact (congrArg (· == 1) (hget F.SYS_BSTAT_ROM_OK rfl (by decide) (by decide))).trans hok
  · rw [hboot, hframe]
    exact h.1
  · exact (congrArg (· == 1) (hget F.SYS_BSTAT_PATCHED rfl (by decide) (by decide))).trans hpatched

/-! ### Single bits -/

/-- Bits other than bit `i` follow from the part above it halved and the part below it. -/
theorem testBit_highPart (n a : Nat) {i k : Nat} (hk : k ≠ i) (h : a / 2 = n / 2 ^ i / 2) : (2 ^ i * a + n % 2 ^ i).testBit k = n.testBit k := by
  conv_rhs => rw [← Nat.div_add_mod n (2 ^ i)]
  rw [Nat.testBit_two_pow_mul_add _ (Nat.mod_lt _ (Nat.two_pow_pos i)), Nat.testBit_two_pow_mul_add _ (Nat.mod_lt _ (Nat.two_pow_pos i))]
  split
  · rfl
  · obtain ⟨j, hj⟩ : ∃ j, k - i = j + 1 := ⟨k - i - 1, by omega⟩
    rw [hj, Nat.testBit_add_one, Nat.testBit_add_one, h]

theorem bitOf_setBitTo_ne (n : Nat) (b : Bool) {i k : Nat} (hk : k ≠ i) : bitOf (setBitTo n i b) k = bitOf n k := by
  unfold setBitTo
  split
  · rfl
  · rename_i hbit
    have hsplit := Nat.div_add_mod n (2 ^ i)
    cases b with
    | true =>
      have hclear : n / 2 ^ i % 2 = 0 := by
        simp only [bitOf, beq_iff_eq] at hbit
        omega
      have hadd : n + 2 ^ i = 2 ^ i * (n / 2 ^ i + 1) + n % 2 ^ i := by rw [Nat.mul_add_one]; omega
      rw [if_pos rfl, bitOf_eq_testBit, bitOf_eq_testBit, hadd, testBit_highPart n _ hk (by omega)]
    | false =>
      have hset : n / 2 ^ i % 2 = 1 := by
        simp only [bitOf, Bool.not_eq_false, beq_iff_eq] at hbit
        omega
      obtain ⟨a, ha⟩ := Nat.exists_eq_add_one_of_ne_zero (show n / 2 ^ i ≠ 0 from fun h0 => by simp [h0] at hset)
      have hsub : n - 2 ^ i = 2 ^ i * a + n % 2 ^ i := by
        rw [ha, Nat.mul_add_one] at hsplit
        omega
      rw [if_neg (by simp), bitOf_eq_testBit, bitOf_eq_testBit, hsub, testBit_highPart n _ hk (by omega)]

theorem bitOf_setBitTo_clear (n i : Nat) : bitOf (setBitTo n i false) i = false := by
  unfold setBitTo
  split
  · assumption
  · rename_i hbit
    have hset : n / 2 ^ i % 2 = 1 := by
      simp only [bitOf, Bool.not_eq_false, beq_iff_eq] at hbit
      omega
    have hsplit := Nat.div_add_mod n (2 ^ i)
    obtain ⟨a, ha⟩ := Nat.exists_eq_add_one_of_ne_zero (show n / 2 ^ i ≠ 0 from fun h0 => by simp [h0] at hset)
    have hsub : n - 2 ^ i = 2 ^ i * a + n % 2 ^ i := by
      rw [ha, Nat.mul_add_one] at hsplit
      omega
    have hdiv : (n - 2 ^ i) / 2 ^ i = a := by
      rw [hsub, Nat.mul_add_div (Nat.two_pow_pos i), Nat.div_eq_of_lt (Nat.mod_lt _ (Nat.two_pow_pos i)), Nat.add_zero]
    rw [if_neg (by simp), bitOf, hdiv]
    have : a % 2 = 0 := by omega
    rw [this]
    rfl

/-! ### The release (R720, R725 to R728, R749) -/

theorem bitOf_foldl_setBitTo (cs : List Nat) (h : Nat) {c : Nat} (hc : c ∈ cs ∨ bitOf h c = true) : bitOf (cs.foldl (fun h c => setBitTo h c true) h) c = true := by
  induction cs generalizing h with
  | nil => exact hc.resolve_left (by simp)
  | cons x t ih =>
    refine ih _ ?_
    by_cases hx : c = x
    · exact .inr (by rw [hx, bitOf_setBitTo_same])
    · refine hc.imp (fun hm => (List.mem_cons.mp hm).resolve_left hx) fun hb => ?_
      rwa [bitOf_setBitTo_ne _ _ (fun he => hx he)]

/-- The history with the causes of the reset that ends. -/
abbrev releasedHist (s : State) : Nat := s.boot.causes.foldl (fun h c => setBitTo h c true) (if s.boot.histOk then s.boot.hist else 0)

/-- RST_CAUSE and RST_PREVTICK at the release (R726). -/
def causeShown (s : State) : State :=
  let s : State := { s with boot.held := false, boot.hist := releasedHist s, boot.histOk := true }
  let s := ((s.put F.RST_CAUSE_CAUSE (reportedCause s.boot.causes)).put F.RST_CAUSE_CLASS (causeClass (reportedCause s.boot.causes))).put F.RST_CAUSE_INFO s.boot.info
  s.put F.RST_PREVTICK_TICK (if causeClass (reportedCause s.boot.causes) = 1 then 0 else s.boot.prevTick)

/-- The straps as the release samples them (R728). -/
def strapsShown (straps : Nat) (bootsel : Bool) (s : State) : State :=
  let s := ((s.putB F.SYS_STRAP_BOOTSEL bootsel).put F.SYS_STRAP_GEN straps).put F.LINE_GEN_STRAP straps
  let s := showPhase (s.put F.TICK_STAT_SRC (if s.tick.xtalOk then 0 else 3))
  let s := s.putB F.BIST_START_LINK_EN s.otp.linkEn
  { s with ldac.norm := normalFinal s.get }

/-- With no strap for a generation and the pin LOOPCLR_N high, the release shows the cause and the straps only. -/
theorem porRelease_shows {gens : Nat} {bootsel : Bool} {s : State} (hheld : s.boot.held = true) (hmode : s.boot.testMode = false) (hpin : s.ldac.pinLow = false)
    (hgens : gens % 4 = 0) : porRelease gens bootsel false s = strapsShown 0 bootsel (causeShown s) := by
  unfold porRelease
  rw [if_neg (by simp [hheld, hmode]), if_neg (by simp), hgens]
  exact if_neg (by simp [showPhase, State.putI, strapGen, hpin])

/-- The fields of the cause and of the straps at the release. -/
abbrev causeFields : List Fld := [F.RST_CAUSE_CAUSE, F.RST_CAUSE_CLASS, F.RST_CAUSE_INFO, F.RST_PREVTICK_TICK]
abbrev strapFields : List Fld := [F.SYS_STRAP_BOOTSEL, F.SYS_STRAP_GEN, F.LINE_GEN_STRAP, F.TICK_STAT_SRC, F.TICK_PHASE_PHASE, F.BIST_START_LINK_EN]

theorem reportedCause_lt (cs : List Nat) : reportedCause cs < 9 := by
  unfold reportedCause
  cases hf : [1, 3, 2, 4, 8, 5, 6, 7].find? fun c => cs.contains c with
  | none => decide
  | some c =>
    have hmem := List.mem_of_find?_eq_some hf
    simp only [List.mem_cons, List.not_mem_nil, or_false] at hmem
    simp only [Option.getD_some]
    omega

theorem causeClass_lt (c : Nat) : causeClass c < 4 := by
  unfold causeClass
  split <;> decide

theorem causeShown_shows (s : State) :
    causeShown s = { s with regs := (causeShown s).regs, boot.held := false, boot.hist := releasedHist s, boot.histOk := true } ∧ KeepsBut causeFields s (causeShown s)
      ∧ (causeShown s).get F.RST_CAUSE_CAUSE = reportedCause s.boot.causes ∧ (causeShown s).get F.RST_CAUSE_CLASS = causeClass (reportedCause s.boot.causes)
      ∧ (causeShown s).get F.RST_CAUSE_INFO = s.boot.info % 65536 := by
  refine ⟨rfl, ?_, ?_, ?_, ?_⟩
  · exact (((((KeepsBut.refl _ s).words (u := { s with boot.held := false, boot.hist := releasedHist s, boot.histOk := true }) rfl rfl).put _ _ (by simp)).put _ _ (by simp)).put
      _ _ (by simp)).put _ _ (by simp)
  · refine (State.get_put_ne _ _ _ _ (by decide)).trans ((State.get_put_other _ _ _ _ (by decide)).trans ((State.get_put_other _ _ _ _ (by decide)).trans
      ((State.get_put_same _ F.RST_CAUSE_CAUSE _ (by decide) (by decide)).trans (Nat.mod_eq_of_lt ?_))))
    exact (reportedCause_lt _).trans (by decide)
  · refine (State.get_put_ne _ _ _ _ (by decide)).trans ((State.get_put_other _ _ _ _ (by decide)).trans
      ((State.get_put_same _ F.RST_CAUSE_CLASS _ (by decide) (by decide)).trans (Nat.mod_eq_of_lt ?_)))
    exact causeClass_lt _
  · exact (State.get_put_ne _ _ _ _ (by decide)).trans (State.get_put_same _ F.RST_CAUSE_INFO _ (by decide) (by decide))

theorem strapsShown_shows (bootsel : Bool) (s : State) :
    strapsShown 0 bootsel s = { s with regs := (strapsShown 0 bootsel s).regs, ldac := (strapsShown 0 bootsel s).ldac } ∧ KeepsBut strapFields s (strapsShown 0 bootsel s)
      ∧ (strapsShown 0 bootsel s).flag F.SYS_STRAP_BOOTSEL = bootsel ∧ (strapsShown 0 bootsel s).get F.SYS_STRAP_GEN = 0 := by
  have hstraps : KeepsBut [F.LINE_GEN_STRAP, F.TICK_STAT_SRC, F.TICK_PHASE_PHASE, F.BIST_START_LINK_EN] ((s.putB F.SYS_STRAP_BOOTSEL bootsel).put F.SYS_STRAP_GEN 0)
      (strapsShown 0 bootsel s) := by
    unfold strapsShown
    extract_lets s1 s2 s3
    have hs3 : KeepsBut [F.LINE_GEN_STRAP, F.TICK_STAT_SRC, F.TICK_PHASE_PHASE, F.BIST_START_LINK_EN] ((s.putB F.SYS_STRAP_BOOTSEL bootsel).put F.SYS_STRAP_GEN 0) s3 :=
      ((((KeepsBut.refl _ _).put _ _ (by simp)).put _ _ (by simp)).put F.TICK_PHASE_PHASE _ (by simp)).putB _ _ (by simp)
    exact hs3.words rfl rfl
  refine ⟨rfl, ?_, ?_, ?_⟩
  · exact (((KeepsBut.refl strapFields s).putB F.SYS_STRAP_BOOTSEL bootsel (by decide)).put F.SYS_STRAP_GEN 0 (by decide)).trans (hstraps.mono (by simp))
  · exact (hstraps.flag _ (by decide)).trans ((flag_put_of_clear _ _ (by decide)).trans (flag_putB_same _ _ rfl (by decide)))
  · exact (hstraps _ (by decide)).trans (State.get_put_same _ F.SYS_STRAP_GEN _ (by decide) (by decide))

/-- Settles O60: the release is `porRelease_shows`, ROM boot `exec_romBootComplete`; every other row of a held chip is `act`, which does nothing. -/
theorem resetRelease : Obligations.ResetRelease := by
  refine ⟨fun s hheld hset hmode => ⟨fun gens bootsel hpin hgens => ?_, fun gens bootsel => ?_⟩, fun s gens bootsel testEn hs => ?_, fun s us hs hrom hotp hlost hrec => ?_,
    fun s us linkPass romBad hs hrom => ?_, fun s c hheld h1 h2 h3 h4 h5 h6 h7 h8 h9 h10 h11 => ?_, fun s b hheld => ?_, fun s ns hheld => ?_, fun s x hheld => ?_⟩
  · obtain ⟨hcframe, hckeeps, hcause, hclass, hinfo⟩ := causeShown_shows s
    obtain ⟨hsframe, hskeeps, hboot, hgen⟩ := strapsShown_shows bootsel (causeShown s)
    have heff := porRelease_shows (bootsel := bootsel) hheld hmode hpin hgens
    have hframe : strapsShown 0 bootsel (causeShown s)
        = { s with regs := (strapsShown 0 bootsel (causeShown s)).regs, ldac := (strapsShown 0 bootsel (causeShown s)).ldac, boot := (causeShown s).boot } := by
      rw [hsframe, hcframe]
    have hboot' : (causeShown s).boot = { s.boot with held := false, hist := releasedHist s, histOk := true } := by rw [hcframe]
    have hsettle : settle s (porRelease gens bootsel false s) = strapsShown 0 bootsel (causeShown s) := by
      rw [heff]
      exact settle_same hset (by rw [hframe]) (by rw [hframe]) (by rw [hframe]) (by rw [hframe]) (by rw [hframe])
    refine ⟨_, congrArg Host.Outcome.next hsettle, ?_, ?_, (hskeeps _ (by decide)).trans hcause, (hskeeps _ (by decide)).trans hclass, (hskeeps _ (by decide)).trans hinfo,
      fun c hc => ?_, hboot, hgen, (hskeeps F.SYS_GEN_GEN (by decide)).trans (hckeeps F.SYS_GEN_GEN (by decide)), by rw [hframe], by rw [hframe], by rw [hframe]⟩
    · rw [hframe, hboot']
    · rw [hframe, hboot']
    · rw [hframe, hboot']
      exact bitOf_foldl_setBitTo _ _ (.inl hc)
  · have heff : porRelease gens bootsel true s = { s with boot.testMode := true } := by
      unfold porRelease
      rw [if_neg (by simp [hheld, hmode]), if_pos rfl]
    exact congrArg Host.Outcome.next ((congrArg (settle s) heff).trans (settle_same hset rfl rfl rfl rfl rfl))
  · have heff : porRelease gens bootsel testEn s = s := if_pos (.inl (by simp [hs.1]))
    exact congrArg Host.Outcome.next ((congrArg (settle s) heff).trans (settle_same hs.2 rfl rfl rfl rfl rfl))
  · exact exec_romBootComplete hs hrom hotp hrec
  · exact act_still hs (if_pos hrom)
  · cases c with
    | por x => exact absurd rfl (h1 x)
    | borMain x => exact absurd rfl (h2 x)
    | borLp => exact absurd rfl h3
    | rstN x => exact absurd rfl (h4 x)
    | wdog => exact absurd rfl h5
    | porRelease x y z => exact absurd rfl (h6 x y z)
    | tickBoundary x => exact absurd rfl (h7 x)
    | xtalStop => exact absurd rfl h8
    | xtalStable => exact absurd rfl h9
    | loopclrAssert x => exact absurd rfl (h10 x)
    | loopclrDeassert x => exact absurd rfl (h11 x)
    | _ => exact act_held hheld
  · cases b with
    | true => exact congrArg Host.Outcome.next (if_pos hheld)
    | false => exact congrArg Host.Outcome.next (if_pos hheld)
  · exact ⟨congrArg Host.Outcome.next (if_pos hheld), congrArg Host.Outcome.next (if_pos hheld)⟩
  · refine ⟨_, congrArg Host.Outcome.next (if_pos hheld), ?_⟩
    unfold heldBoundary
    split
    · exact ⟨rfl, rfl, rfl, rfl⟩
    · exact ⟨rfl, rfl, rfl, rfl⟩

end Sys2Proof.Machine
end

section
/-! Chunks of non-volatile memory in the order of R654, and the configuration load (R662, R663). Settles O55. -/

namespace Sys2Proof.Machine

/-! ### The next chunk (R654) -/

theorem nextChunk_least {q : List NvmChunk} (hne : q ≠ []) (hk : ∀ c ∈ q, c.kind ≤ 6) :
    ∃ c, nextChunk q = some c ∧ c ∈ q ∧ ∀ d ∈ q, c.kind ≤ d.kind := by
  have hfound : ∀ d ∈ q, (q.find? fun c => c.kind == d.kind) ≠ none := fun d hd hn => by
    rw [List.find?_eq_none] at hn
    exact hn d hd (by simp)
  cases hn : nextChunk q with
  | none =>
    obtain ⟨d, hd⟩ := List.exists_mem_of_ne_nil q hne
    rw [nextChunk, List.findSome?_eq_none_iff] at hn
    exact absurd (hn d.kind (List.mem_range.mpr (Nat.lt_succ_of_le (hk d hd)))) (hfound d hd)
  | some c =>
    obtain ⟨before, k, after, hrange, hc, hnone⟩ := List.findSome?_eq_some_iff.mp hn
    have hkind : c.kind = k := by simpa using List.find?_some hc
    refine ⟨c, rfl, List.mem_of_find?_eq_some hc, fun d hd => ?_⟩
    have hmem : d.kind ∈ before ++ k :: after := hrange ▸ List.mem_range.mpr (Nat.lt_succ_of_le (hk d hd))
    have hsorted : List.Pairwise (· < ·) (before ++ k :: after) := hrange ▸ List.pairwise_lt_range
    rcases List.mem_append.mp hmem with hb | ha
    · exact absurd (hnone _ hb) (hfound d hd)
    · rcases List.mem_cons.mp ha with he | ht
      · omega
      · have hlt := (List.pairwise_cons.mp (List.pairwise_append.mp hsorted).2.1).1 _ ht
        omega

/-! ### A chunk begins and ends (R654, R677) -/

theorem showQueue_kind (s : State) : (showQueue s).get F.NVM_QUEUE_KIND = (match s.nvm.writing with
    | some c => c.kind
    | none => 0) % 8 :=
  State.get_put_same _ _ _ (by decide) (by decide)

/-- The bytes of a chunk are stored and its partition counts it; no other byte changes. -/
theorem storeChunk_shows {c : NvmChunk} {s t : State} (hwf : s.memWf = true) (ht : storeChunk c s = t) :
    t.bytesAt c.addr c.bytes.length = c.bytes ∧ (∀ a, a < c.addr ∨ c.addr + c.bytes.length ≤ a → t.byteAt a = s.byteAt a)
      ∧ almGet t (0x540 + 4 * partOf c.addr) = satTo 0xFFFFFFFF (almGet s (0x540 + 4 * partOf c.addr) + 1)
      ∧ t = { s with mem := t.mem, ecc := t.ecc, nvm.nvmLive := t.nvm.nvmLive, alm.live := t.alm.live } := by
  obtain ⟨live, hstore⟩ : ∃ b, storeChunk c s
      = almAdd (0x540 + 4 * partOf c.addr) 1 0xFFFFFFFF { s.setBytes c.addr c.bytes with ecc := eccDrop s.ecc c.addr (c.addr + c.bytes.length), nvm.nvmLive := b } := by
    unfold storeChunk
    dsimp only
    split
    · exact ⟨false, rfl⟩
    · exact ⟨s.nvm.nvmLive, rfl⟩
  rw [← ht, hstore]
  refine ⟨bytesAt_setBytes c.addr c.bytes hwf, fun a ha => byteAt_setBytes_out c.bytes hwf ha, ?_, rfl⟩
  exact congrArg (Option.getD · 0) (aget_aset_same _ _ _)

theorem chunkComplete_plain {c : NvmChunk} {s : State} (hw : s.nvm.writing = some c) (hplain : c.tag = .plain) (htorn : tornBy c s = none) :
    chunkComplete s = showQueue (storeChunk c { s with nvm.writing := none }) := by
  have htorn' : tornBy c { s with nvm.writing := none } = none := htorn
  unfold chunkComplete
  rw [hw]
  dsimp only
  rw [htorn']
  simp only [chunkEffect, hplain]

/-! ### The configuration record (R662) -/

/-- From `s` to `t` only words at normal addresses change, and none of a register that has no RWS bit. -/
structure ShadowsOnly (s t : State) : Prop where
  frame : ∃ r, t = { s with regs := r }
  rd : ∀ {p off}, rwsMask p off = 0 → off < 0x400 → t.rd p off = s.rd p off

theorem ShadowsOnly.trans {s t u : State} (h : ShadowsOnly s t) (k : ShadowsOnly t u) : ShadowsOnly s u where
  frame := by
    obtain ⟨_, rfl⟩ := h.frame
    obtain ⟨_, rfl⟩ := k.frame
    exact ⟨_, rfl⟩
  rd hm ho := (k.rd hm ho).trans (h.rd hm ho)

theorem loadPair_shadowsOnly (s : State) (x : Nat × Word) : ShadowsOnly s (loadPair s x) := by
  unfold loadPair
  extract_lets p o
  split
  · refine ⟨⟨_, rfl⟩, fun {q off} hm ho => ?_⟩
    by_cases hkey : regKey p o = regKey q off
    · have ho' : o < 0x400 := Nat.mod_lt _ (by decide)
      obtain ⟨rfl, rfl⟩ : p = q ∧ o = off := by
        unfold regKey at hkey
        omega
      rw [State.rd_wr_same, hm, mergeMask_zero]
    · exact s.rd_wr_ne _ hkey
  · exact ⟨⟨_, rfl⟩, fun _ _ => rfl⟩

theorem loadPairs_shadowsOnly (l : List (Nat × Word)) (s : State) : ShadowsOnly s (l.foldl loadPair s) := by
  induction l generalizing s with
  | nil => exact ⟨⟨_, rfl⟩, fun _ _ => rfl⟩
  | cons x t ih => exact (loadPair_shadowsOnly s x).trans (ih _)

theorem ShadowsOnly.get {s t : State} (h : ShadowsOnly s t) (f : Fld) (hr : f.rws = false) (hm : rwsMask f.page f.off = 0) (ho : f.off < 0x400) : t.get f = s.get f := by
  unfold State.get
  rw [hr]
  exact congrArg (getBits · f.hi f.lo) (h.rd hm ho)

/-- The words of the plan of the record go to bank 1. -/
theorem setBankWords_plan (ws : List Word) (l : List Nat) (s : State) :
    ∃ b, l.foldl (fun s i => setBankWord 1 i (ws.getD i 0) s) s = { s with plan.bank1 := b } := by
  induction l generalizing s with
  | nil => exact ⟨_, rfl⟩
  | cons i t ih =>
    obtain ⟨b, hb⟩ : ∃ b, setBankWord 1 i (ws.getD i 0) s = { s with plan.bank1 := b } := by
      unfold setBankWord
      split
      · exact ⟨_, rfl⟩
      · exact ⟨_, rfl⟩
    obtain ⟨b', hb'⟩ := ih (setBankWord 1 i (ws.getD i 0) s)
    exact ⟨b', by rw [List.foldl_cons, hb', hb]⟩

/-- NVM_CONF as the load of copy A alone, or of no copy, leaves it before it acts. -/
abbrev copiesShown (a b : Bool) (s : State) : State := (s.putB F.NVM_CONF_A_VALID a).putB F.NVM_CONF_B_VALID b

/-- The pages whose commit the load requests. -/
abbrev loadPages (s : State) : List Nat := allPages.filter fun p => !s.page.commitPend.contains p && pageOn s p

/-- The load may begin (R662). -/
abbrev LoadDue (s : State) : Prop := s.flag F.SYS_BSTAT_ROM_OK = true ∧ s.boot.loadPend = false ∧ s.boot.loadDone = false ∧ s.get F.SYS_STRAP_BOOTSEL = 0

/-- Copy A's shadows and the commits of the powered pages. -/
def shadowsLoaded (r : CfgRec) (s : State) : State :=
  let t := r.pairs.foldl loadPair ((s.put F.NVM_CONF_COPY 1).put F.NVM_CSEQ_SEQ r.seq)
  { t with page.commitPend := t.page.commitPend ++ loadPages s }

/-- Copy A's record in force: its shadows, the commits of the powered pages, and its plan in bank 1. -/
def recordLoaded (r : CfgRec) (s : State) : State := match r.plan with
  | some ws => ((List.range 1536).foldl (fun s i => setBankWord 1 i (ws.getD i 0) s) (shadowsLoaded r s)).putS F.PLAN_CTRL_BANK 1
  | none => shadowsLoaded r s

theorem configLoad_copyA {r : CfgRec} {s : State} (h : LoadDue s) (ha : readCfg 1 s = (s, some r)) (hb : readCfg 2 s = (s, none)) :
    configLoad s = { recordLoaded r (copiesShown true false s) with boot.loadPend := true } := by
  obtain ⟨hrom, hpend, hdone, hsel⟩ := h
  unfold configLoad
  rw [if_neg (by simp [hrom, hpend, hdone, hsel]), ha]
  dsimp only
  rw [hb]
  rfl

theorem configLoad_neither {s : State} (h : LoadDue s) (ha : readCfg 1 s = (s, none)) (hb : readCfg 2 s = (s, none)) :
    configLoad s = { configLost ((copiesShown false false s).put F.NVM_CONF_COPY 0) with boot.loadPend := true } := by
  obtain ⟨hrom, hpend, hdone, hsel⟩ := h
  unfold configLoad
  rw [if_neg (by simp [hrom, hpend, hdone, hsel]), ha]
  dsimp only
  rw [hb]
  rfl

/-- The state before the record's shadows. -/
abbrev copyShown (r : CfgRec) (s : State) : State := (s.put F.NVM_CONF_COPY 1).put F.NVM_CSEQ_SEQ r.seq

theorem shadowsLoaded_shows (r : CfgRec) (s : State) :
    (∃ w, shadowsLoaded r s = { s with regs := w, page.commitPend := s.page.commitPend ++ loadPages s })
      ∧ ∀ {p off}, rwsMask p off = 0 → off < 0x400 → (shadowsLoaded r s).rd p off = (copyShown r s).rd p off := by
  obtain ⟨⟨w, hw⟩, hrd⟩ := loadPairs_shadowsOnly r.pairs (copyShown r s)
  have hcopy : copyShown r s = { s with regs := (copyShown r s).regs } := rfl
  refine ⟨⟨w, ?_⟩, hrd⟩
  unfold shadowsLoaded
  rw [hw, hcopy]

/-- The plan of the record goes to bank 1, which is chosen. -/
theorem planLoaded_shows (ws : List Word) {s t : State} (ht : ((List.range 1536).foldl (fun s i => setBankWord 1 i (ws.getD i 0) s) s).putS F.PLAN_CTRL_BANK 1 = t) :
    (∃ w b, t = { s with regs := w, plan.bank1 := b }) ∧ (∀ {p off}, rwsMask p off = 0 → off < 0x400 → t.rd p off = s.rd p off) ∧ t.getS F.PLAN_CTRL_BANK = 1 := by
  obtain ⟨b, hb⟩ := setBankWords_plan ws (List.range 1536) s
  rw [hb] at ht
  subst ht
  refine ⟨⟨_, b, rfl⟩, fun {p off} hm ho => ?_, ?_⟩
  · have hkey : regKey F.PLAN_CTRL_BANK.page F.PLAN_CTRL_BANK.off ≠ regKey p off := fun he => by
      obtain ⟨rfl, rfl⟩ : p = 0x06 ∧ off = 0x040 := by
        change 0x06 * 0x400 + 0x040 = p * 0x400 + off at he
        omega
      exact absurd hm (by decide)
    exact State.rd_wr_ne _ _ hkey
  · unfold State.getS State.putS
    rw [State.rd_wr_same]
    exact getBits_putBits _ _ (by decide) (by decide)

theorem recordLoaded_shows {r : CfgRec} {s t : State} (ht : recordLoaded r s = t) :
    (∃ w b, t = { s with regs := w, page.commitPend := s.page.commitPend ++ loadPages s, plan.bank1 := b })
      ∧ (∀ {p off}, rwsMask p off = 0 → off < 0x400 → t.rd p off = (copyShown r s).rd p off) ∧ (r.plan ≠ none → t.getS F.PLAN_CTRL_BANK = 1) := by
  obtain ⟨⟨w, hw⟩, hrd⟩ := shadowsLoaded_shows r s
  unfold recordLoaded at ht
  generalize shadowsLoaded r s = u at *
  cases hplan : r.plan with
  | none =>
    rw [hplan] at ht
    subst ht
    exact ⟨⟨w, s.plan.bank1, hw⟩, hrd, fun hne => absurd rfl hne⟩
  | some ws =>
    rw [hplan] at ht
    obtain ⟨⟨w', b, hframe⟩, hrd', hbank⟩ := planLoaded_shows ws ht
    exact ⟨⟨w', b, by rw [hframe, hw]⟩, fun hm ho => (hrd' hm ho).trans (hrd hm ho), fun _ => hbank⟩

/-- The powered pages that wait for no commit before the load wait for one after it. -/
theorem mem_loadPages {s : State} {p : Nat} (hp : p ∈ allPages) (hon : pageOn s p = true) : p ∈ s.page.commitPend ++ loadPages s := by
  by_cases hpend : p ∈ s.page.commitPend
  · exact List.mem_append_left _ hpend
  · refine List.mem_append_right _ (List.mem_filter.mpr ⟨hp, ?_⟩)
    simp [hon, hpend]

theorem pageOn_keeps {gs : List Fld} {s t : State} (h : KeepsBut gs s t) (hgs : ∀ g ∈ gs, Clear g F.SYS_GEN_GEN ∧ Clear g F.PWR_STAT_STATE) (p : Nat) :
    pageOn t p = pageOn s p := by
  have hgen : gen t = gen s := h F.SYS_GEN_GEN fun g hg => (hgs g hg).1
  have hst : pstate t = pstate s := h F.PWR_STAT_STATE fun g hg => (hgs g hg).2
  simp only [pageOn, domOn, hgen, hst]

/-- The registers of NVM_CONF hold no RWS field. -/
theorem recordLoaded_conf {r : CfgRec} {s t : State} (ht : recordLoaded r (copiesShown true false s) = t) :
    t.get F.NVM_CONF_COPY = 1 ∧ t.flag F.NVM_CONF_A_VALID = true ∧ t.flag F.NVM_CONF_B_VALID = false := by
  obtain ⟨-, hrd, -⟩ := recordLoaded_shows ht
  have hword := hrd (p := 0x0C) (off := 0x05C) (by decide) (by decide)
  have hget (f : Fld) (hp : f.page = 0x0C) (ho : f.off = 0x05C) (hr : f.rws = false) : t.get f = (copyShown r (copiesShown true false s)).get f := by
    unfold State.get
    rw [hp, ho, hr]
    exact congrArg (getBits · f.hi f.lo) hword
  have hseq : KeepsBut [F.NVM_CSEQ_SEQ] ((copiesShown true false s).put F.NVM_CONF_COPY 1) (copyShown r (copiesShown true false s)) := (KeepsBut.refl _ _).put _ _ (by simp)
  have hcopy : KeepsBut [F.NVM_CONF_COPY] (copiesShown true false s) ((copiesShown true false s).put F.NVM_CONF_COPY 1) := (KeepsBut.refl _ _).put _ _ (by simp)
  refine ⟨?_, ?_, ?_⟩
  · rw [hget _ rfl rfl rfl, hseq _ (by decide)]
    exact State.get_put_same _ F.NVM_CONF_COPY _ (by decide) (by decide)
  · rw [State.flag, hget _ rfl rfl rfl, hseq _ (by decide), hcopy _ (by decide)]
    exact (flag_put_of_clear (g := F.NVM_CONF_B_VALID) (f := F.NVM_CONF_A_VALID) _ _ (by decide)).trans (flag_putB_true _ rfl (by decide))
  · rw [State.flag, hget _ rfl rfl rfl, hseq _ (by decide), hcopy _ (by decide)]
    exact flag_putB_same _ _ rfl (by decide)

theorem put_eff (s : State) {f : Fld} (v : Nat) (hr : f.rws = false) : (s.put f v).eff = s.eff := by
  unfold State.put
  rw [hr]
  rfl

theorem fltIrq_eff (s : State) : (fltIrq s).eff = s.eff := by
  unfold fltIrq
  extract_lets hot s1
  have hs1 : s1.eff = s.eff := by
    unfold s1
    split
    · rfl
    · rfl
  split
  · exact hs1
  · exact hs1

theorem addRecord_eff (w0 w1 : Word) (s : State) : (addRecord w0 w1 s).eff = s.eff := rfl

/-- A fault event of a source that only records changes no effective value. -/
theorem faultEvent_eff {id : Nat} (info : Nat) {s : State} (alt inj : Bool) (h : RecordsOnly id s) : (faultEvent id info s alt inj).eff = s.eff := by
  obtain ⟨hesc, hbase⟩ := h
  unfold faultEvent
  extract_lets w c esc react inF conv k s1 p cnt s2 rec1 s3 off s4 s5 s6 s7
  have hreact : react ≤ 1 := by
    unfold react
    split
    · exact hesc
    · exact hbase
  have hcnt : cnt.rws = false := by
    unfold cnt
    split
    · rfl
    · rfl
  have hs1 : s1.eff = s.eff := rfl
  clear_value react conv esc s1 cnt
  have hs2 : s2.eff = s.eff := (almAdd_eff _ _ _ _).trans ((put_eff s1 _ hcnt).trans hs1)
  clear_value s2 rec1
  have hs3 : s3.eff = s.eff := (addRecord_eff _ _ s2).trans hs2
  clear_value s3
  have hs4 : s4.eff = s.eff := by
    unfold s4
    split
    · exact hs3
    · exact (fltIrq_eff _).trans ((State.wr_eff _ _ _ _).trans hs3)
  clear_value s4
  have hs5 : s5 = s4 := if_neg (by omega)
  rw [hs5]
  obtain rfl | rfl : react = 0 ∨ react = 1 := by omega
  · exact hs4
  · exact hs4

/-- The loss of the configuration is noted by a fault that only records (R663). -/
theorem configLost_records {s : State} (hlost : s.boot.cfgLost = false) (h : RecordsOnly 0x62 s) :
    FaultNoted { s with boot.cfgLost := true } (configLost s) ∧ (configLost s).get F.FLT_REC_CNT_TOTAL = satTo 65535 (s.get F.FLT_REC_CNT_TOTAL + 1)
      ∧ KeepsAboveHub s (configLost s) ∧ (configLost s).eff = s.eff := by
  have hrec : RecordsOnly 0x62 { s with boot.cfgLost := true } := recordsOnly_of_eff rfl h
  have heff : configLost s = faultEvent 0x62 0 { s with boot.cfgLost := true } := if_neg (by simp [hlost])
  obtain ⟨hnoted, htotal⟩ := faultEvent_records (id := 0x62) (s := { s with boot.cfgLost := true }) 0 false false hrec
  have habove := faultEvent_keepsAboveHub (id := 0x62) (s := { s with boot.cfgLost := true }) 0 false false (by decide) hrec
  have heffs := faultEvent_eff (id := 0x62) (s := { s with boot.cfgLost := true }) 0 false false hrec
  rw [← heff] at hnoted htotal habove heffs
  exact ⟨hnoted, htotal, habove, heffs⟩

/-- Settles O55: the next chunk is the first of the lowest kind (`nextChunk_least`), the load of copy A is `recordLoaded`, and its loss `configLost`. -/
theorem nvmChunksAndLoad : Obligations.NvmChunksAndLoad := by
  intro s hs
  refine ⟨fun hw hne hk => ?_, fun hno => ?_, fun c hw hplain htorn hwf => ?_, fun hw => ?_, fun hrom hpend hdone hsel => ⟨fun r ha hb => ?_, fun ha hb hlost hrec => ?_⟩,
    fun hdone => ?_⟩
  · obtain ⟨c, hc, hmem, hleast⟩ := nextChunk_least hne hk
    have heff : chunkStart s = showQueue { s with nvm.writing := some c, nvm.queue := s.nvm.queue.erase c } := by
      simp only [chunkStart, hw, hc]
      rfl
    have hframe := (showQueue_shows { s with nvm.writing := some c, nvm.queue := s.nvm.queue.erase c }).frame
    have hkind := showQueue_kind { s with nvm.writing := some c, nvm.queue := s.nvm.queue.erase c }
    rw [← heff] at hframe hkind
    refine ⟨_, c, act_next hs rfl (by rw [hframe]) (by rw [hframe]) (by rw [hframe]) (by rw [hframe]), by rw [hframe], hmem, hleast, by rw [hframe], ?_, by rw [hframe]⟩
    exact hkind.trans (Nat.mod_eq_of_lt (Nat.lt_of_le_of_lt (hk c hmem) (by decide)))
  · refine act_still hs ?_
    rcases hno with hw | hq
    · exact if_pos (Option.isSome_iff_ne_none.mpr hw)
    · unfold chunkStart
      split
      · rfl
      · rw [hq]
        rfl
  · have heff := chunkComplete_plain hw hplain htorn
    obtain ⟨hbytes, hout, hcount, hframe⟩ := storeChunk_shows (c := c) (s := { s with nvm.writing := none }) hwf rfl
    have hq := (showQueue_shows (storeChunk c { s with nvm.writing := none })).frame
    have hkind := showQueue_kind (storeChunk c { s with nvm.writing := none })
    rw [← heff] at hq hkind
    generalize storeChunk c { s with nvm.writing := none } = u at *
    generalize hdone : chunkComplete s = t at *
    have hwriting : u.nvm.writing = none := by rw [hframe]
    have hall : t = { s with regs := t.regs, mem := t.mem, ecc := t.ecc, nvm := t.nvm, alm.live := t.alm.live } := by
      rw [hq, hframe]
    rw [hwriting] at hkind
    have hmem : t.mem = u.mem := by rw [hq]
    refine ⟨t, act_next hs hdone (by rw [hall]) (by rw [hall]) (by rw [hall]) (by rw [hall]), by rw [hq]; exact hwriting, ?_, fun a ha => ?_, hkind, ?_, hall⟩
    · refine Eq.trans ?_ hbytes
      simp only [State.bytesAt, State.byteAt, hmem]
    · rw [State.byteAt, hmem]
      exact hout a ha
    · rw [almGet, show t.alm = u.alm by rw [hq]]
      exact hcount
  · refine act_still hs ?_
    simp only [chunkComplete, hw]
  · have heff := configLoad_copyA ⟨hrom, hpend, hdone, hsel⟩ ha hb
    obtain ⟨⟨w, b, hframe⟩, -, hbank⟩ := recordLoaded_shows (r := r) (s := copiesShown true false s) rfl
    obtain ⟨hcopy, hvalidA, hvalidB⟩ := recordLoaded_conf (r := r) (s := s) rfl
    generalize recordLoaded r (copiesShown true false s) = u at *
    have hkeeps : KeepsBut [F.NVM_CONF_A_VALID, F.NVM_CONF_B_VALID] s (copiesShown true false s) := ((KeepsBut.refl _ s).putB _ _ (by simp)).putB _ _ (by simp)
    refine ⟨_, act_ends hs heff (by rw [hframe]; rfl) (by rw [hframe]; rfl) (by rw [hframe]; rfl) (by rw [hframe]; rfl) (by rw [hframe]; rfl), hcopy, hvalidA, hvalidB, rfl,
      fun p hp hon => ?_, by rw [hframe]; rfl, hbank, by rw [hframe]; rfl⟩
    rw [hframe]
    exact mem_loadPages (s := copiesShown true false s) hp ((pageOn_keeps hkeeps (by decide) p).trans hon)
  · have heff := configLoad_neither ⟨hrom, hpend, hdone, hsel⟩ ha hb
    have hshown : Shows [F.NVM_CONF_A_VALID, F.NVM_CONF_B_VALID, F.NVM_CONF_COPY] s ((copiesShown false false s).put F.NVM_CONF_COPY 0) :=
      (((Shows.refl _ s).putB _ _ (by simp) rfl).putB _ _ (by simp) rfl).put _ _ (by simp) rfl
    have hcopy := State.get_put_same (copiesShown false false s) F.NVM_CONF_COPY 0 (by decide) (by decide)
    generalize (copiesShown false false s).put F.NVM_CONF_COPY 0 = u at *
    obtain ⟨hnoted, htotal, habove, heffs⟩ := configLost_records (s := u) (by rw [hshown.frame]; exact hlost) (recordsOnly_of_eff hshown.eff hrec)
    have hconf : (configLost u).get F.NVM_CONF_COPY = u.get F.NVM_CONF_COPY := congrArg (getBits · 9 8) (habove 0x0C 0x05C (by decide))
    obtain ⟨_, _, _, _, hframe⟩ := hnoted.only
    have hent : (configLost u).flt.entered = s.flt.entered := hnoted.entered.trans (by rw [hshown.frame])
    have hreset : (configLost u).flt.chipReset = s.flt.chipReset := hnoted.chipReset.trans (by rw [hshown.frame])
    refine ⟨_, act_ends hs heff (by rw [hframe, hshown.frame]) (by rw [hframe, hshown.frame]) (by rw [hframe, hshown.frame]) hent hreset, hconf.trans hcopy, rfl,
      by rw [hframe, hshown.frame], heffs.trans hshown.eff, ?_, by rw [hframe, hshown.frame]⟩
    exact htotal.trans (by rw [hshown.keeps _ (by decide)])
  · exact act_still hs (if_pos (by simp [hdone]))

end Sys2Proof.Machine
end

section
/-! The Almanac's seconds, its periodic commit, ALM_CMD and the read of its window (chapter 18, R676, R678, R688, R692). Settles O56. -/

namespace Sys2Proof.Machine

/-! ### Counts of the live image -/

theorem almGet_almAdd_same (off n top : Nat) (s : State) : almGet (almAdd off n top s) off = satTo top (almGet s off + n) :=
  congrArg (Option.getD · 0) (aget_aset_same _ _ _)

theorem almGet_almAdd_ne {off o : Nat} (n top : Nat) (s : State) (h : off ≠ o) : almGet (almAdd off n top s) o = almGet s o :=
  congrArg (Option.getD · 0) (aget_aset_ne _ _ h)

/-! ### AON_SECOND (R676) -/

/-- The second counted: OP_S and the AON clock. -/
abbrev secondCounted (s : State) : State :=
  { almCount 0 s with flt.aonS := satTo 0xFFFFFFFF (s.flt.aonS + 1), flt.aonU := s.flt.aonU - 28800, acc.anonReplies := 0 }

/-- The word of the generation latched counts the second too. -/
theorem aonSecond_counts {s : State} (h : mayReach s s.flt.aonU 28800 = true) :
    aonSecond s = if gen s = 0 then secondCounted s else almAdd (0x2FC + 4 * gen s) 1 0xFFFFFFFF (secondCounted s) := by
  have hlt : gen s < 4 := getBits_lt _ 1 0
  have hgen : gen (secondCounted s) = gen s := rfl
  unfold aonSecond
  rw [if_neg (by simp [h])]
  dsimp only
  rw [hgen]
  obtain hg | hg | hg | hg : gen s = 0 ∨ gen s = 1 ∨ gen s = 2 ∨ gen s = 3 := by omega
  all_goals
    rw [hg]
    rfl

/-! ### ALM_CMD (R688, R692) -/

theorem almCmd_row {path : Path} {op mask : Nat} {s u : State} (hu : noteOwner path 0x0B s = u) (hop : op < 256) (hmask : mask < 16)
    (h : MayWrite path 0x0B 0x054 (opWord op mask) s) :
    overPath path (writeReg path 0x0B 0x054 (opWord op mask)) s = State.putB { u with alm.cmds := u.alm.cmds ++ [(op, mask)] } F.ALM_CSTAT_BUSY true := by
  have hlow : mask < 2 ^ 24 := by omega
  have hbits : getBits (opWord op mask) 3 0 = mask := by
    simp only [getBits, opWord_toNat hop hlow]
    omega
  have hrow : overPath path (writeReg path 0x0B 0x054 (opWord op mask)) s = almCmd (opWord op mask) u := by
    rw [← hu]
    exact overPath_writeReg (e := ⟨0x054, 0x400, 1, 4, 1, 0, 0, 0, 0, 0, 0, 0xFF00000F⟩) (i := 0) (by decide) (by decide) (by decide) rfl rfl (by decide) h
      fun hrws => absurd rfl hrws
  rw [hrow, almCmd, opWord_op hop hlow, hbits]

/-- A command of the Almanac joins those that wait, with BUSY set. -/
theorem almCmd_waits {path : Path} {op mask : Nat} {s : State} (hs : Ready s) (hop : op < 256) (hmask : mask < 16) (h : MayWrite path 0x0B 0x054 (opWord op mask) s) :
    ∃ t, act (overPath path (writeReg path 0x0B 0x054 (opWord op mask))) s = .next t ∧ t.alm = { s.alm with cmds := s.alm.cmds ++ [(op, mask)] } ∧ t.flag F.ALM_CSTAT_BUSY = true
      ∧ t.page = (noteOwner path 0x0B s).page ∧ SameBut [regKey 0x0B 0x058] s { t with alm := s.alm, page := s.page } := by
  obtain ⟨hframe, -⟩ := noteOwner_page path 0x0B s
  refine ⟨_, act_next hs (almCmd_row hframe hop hmask h) rfl rfl rfl rfl, rfl, flag_putB_true _ rfl (by decide), rfl, ?_⟩
  exact (sameBut_refl _ s).put F.ALM_CSTAT_BUSY _ rfl (by decide)

/-! ### ALM_WIN_DATA (R688) -/

theorem normalWord_almWin (s : State) : normalWord s 0x0B 0x060 = almWinWord s := by
  have hhid : hidden s 0x0B 0x060 = 0 := by
    unfold hidden
    split
    · rfl
    · rfl
  rw [normalWord, if_neg (by decide), hhid]
  exact mergeMask_zero _ _

theorem almWinWord_empty {s : State} (h : s.alm.snap = []) : almWinWord s = 0 := by
  have hword (off : Nat) : imageWord [] off = 0 := by
    simp only [imageWord, aget, Option.getD_none, Nat.zero_div, ite_self]
    rfl
  simp only [almWinWord, h, hword, ite_self]

/-- The word that a read of a register returns. -/
theorem readAccess_word {p off ns i : Nat} {s : State} {e : RegEnt} (hp : p < 0x80) (ho : off < 0x400) (h4 : off % 4 = 0) (hpe : (pageEnt p).isSome = true)
    (he : regEnt p off = some (e, i)) (hd : domServes s (pageDom p) = true) : (readAccess (regAddr p off) ns s).2.2 = (regRead p off ns s).2 := by
  have ha : (regAddr p off).toNat % 4 = 0 := by rw [regAddr_toNat hp ho]; omega
  have hreg := regionOf_regAddr hp ho hpe he
  have hpow : powerCheck s (regAddr p off).toNat (.reg p off e) = 0 := by simp [powerCheck, hd]
  unfold readAccess
  simp [hreg, ha, hpow]

/-- Settles O56: seconds by `aonSecond_counts`, commands by `almCmd_waits`, the window by its read effect. -/
theorem almanacCommands : Obligations.AlmanacCommands := by
  intro s hs
  refine ⟨fun hdue => ?_, fun hno => ?_, fun hload hdue hnone => ?_, fun hlt => ?_, fun path hmay => ?_, fun path hmay => ?_, fun path mask hmask hmay => ?_, fun path hmay => ?_⟩
  · have heff := aonSecond_counts hdue
    have hlt : gen s < 4 := getBits_lt _ 1 0
    have hbase (off : Nat) (h0 : off ≠ 0x2C0) : almGet (secondCounted s) off = almGet s off := almGet_almAdd_ne _ _ s (Ne.symm h0)
    have hops : opS (secondCounted s) = satTo 0xFFFFFFFF (opS s + 1) := almGet_almAdd_same _ _ _ s
    by_cases hg : gen s = 0
    · rw [if_pos hg] at heff
      exact ⟨_, act_ends hs heff rfl rfl rfl rfl rfl, hops, rfl, fun h1 => absurd hg (by omega), fun off h0 _ => hbase off h0, rfl⟩
    · rw [if_neg hg] at heff
      refine ⟨_, act_ends hs heff rfl rfl rfl rfl rfl, ?_, rfl, fun _ => ?_, fun off h0 hor => ?_, rfl⟩
      · exact (almGet_almAdd_ne _ _ _ (by omega)).trans hops
      · exact (almGet_almAdd_same _ _ _ _).trans (by rw [hbase _ (by omega)])
      · exact (almGet_almAdd_ne _ _ _ (Ne.symm (hor.resolve_left hg))).trans (hbase off h0)
  · exact act_still hs (if_pos (by simp [hno]))
  · have heff : commitDue s = { s with alm.due := some 1 } := by
      unfold commitDue makeDue
      rw [if_pos ⟨hload, hdue⟩, hnone]
    exact act_next hs heff rfl rfl rfl rfl
  · exact act_still hs (if_neg fun h => absurd h.2 (by omega))
  · obtain ⟨t, ht, halm, hbusy, hpage, hsame⟩ := almCmd_waits hs (by decide) (by decide) hmay
    exact ⟨t, ht, by rw [halm], hbusy, hpage, hsame, by rw [halm]⟩
  · obtain ⟨t, ht, halm, hbusy, hpage, hsame⟩ := almCmd_waits hs (by decide) (by decide) hmay
    exact ⟨t, ht, by rw [halm], hbusy, hpage, hsame, by rw [halm]⟩
  · obtain ⟨t, ht, halm, hbusy, hpage, hsame⟩ := almCmd_waits hs (by decide) hmask hmay
    refine ⟨t, ?_, by rw [halm], hbusy, hpage, hsame, by rw [halm]⟩
    change act (overPath path (writeReg path 0x0B 0x054 (opWord 3 (mask % 16)))) s = _
    rw [Nat.mod_eq_of_lt hmask, ht]
  · have heff : overPath path (readAny (regAddr 0x0B 0x060) 0) s = almWinNext s :=
      overPath_readAny (e := ⟨0x060, 0x400, 1, 4, 1, 0x0, 0x0, 0x0, 0x0, 0x0, 0x0, 0x0⟩) (i := 0) (by decide) (by decide) (by decide) rfl rfl rfl hmay
    have hword : s.alm.snap = [] → (readAccess (regAddr 0x0B 0x060) 0 s).2.2 = 0 := fun hsnap => by
      rw [readAccess_word (e := ⟨0x060, 0x400, 1, 4, 1, 0x0, 0x0, 0x0, 0x0, 0x0, 0x0, 0x0⟩) (i := 0) (by decide) (by decide) (by decide) rfl rfl hmay.2]
      exact (normalWord_almWin s).trans (almWinWord_empty hsnap)
    unfold almWinNext at heff
    by_cases hinc : s.flag F.ALM_WIN_IDX_AINC = true
    · rw [if_pos hinc] at heff
      refine ⟨_, act_next hs heff rfl rfl rfl rfl, fun _ => State.get_put_same _ F.ALM_WIN_IDX_INDEX _ (by decide) (by decide),
        (sameBut_refl _ s).put F.ALM_WIN_IDX_INDEX _ rfl (by decide), fun hno => ?_, hword⟩
      simp [hinc] at hno
    · rw [if_neg hinc] at heff
      exact ⟨s, act_still hs heff, fun h => absurd h hinc, sameBut_refl _ s, fun _ => rfl, hword⟩

end Sys2Proof.Machine
end

section
/-! O58: the actions of the key sequences. Their commit asks LDAC's block while it may still refuse an entry, and takes a free choice. -/

namespace Sys2Proof.Machine

/-- A commit of the KEYS path that is asked for while the blocks may still be asked to quiesce takes a free choice. -/
theorem keysCommit_asking {s : State} {target : Nat} (hmay : MayWrite .keys 0x11 0x020 1 s) (ha : s.slp.asking = true) (hd : s.slp.down = some target) :
    RequestOnly s.fresh (keysCommit s) := by
  obtain ⟨o, l, hnote⟩ := noteWrite_notesOnly .keys 0x11 0x020 ⟨0x020, 0x400, 1, 4, 1, 0, 0, 0, 0, 0, 0, 1⟩ 1 s
  have heff : keysCommit s = updateBudget (requestCommit 0x11 { s with page.owners := o, page.ldacOrd := l }) := by
    rw [keysCommit, writeReg_ok (e := ⟨0x020, 0x400, 1, 4, 1, 0, 0, 0, 0, 0, 0, 1⟩) (i := 0) (by decide) (by decide) (by decide) rfl rfl (by decide) hmay fun h => absurd rfl h, hnote]
    rfl
  rw [heff]
  have hreq : RequestOnly s.fresh (requestCommit 0x11 { s with page.owners := o, page.ldacOrd := l }) :=
    (requestOnly_page s _).fresh.trans (requestCommit_asking (s := { s with page.owners := o, page.ldacOrd := l }) 0x11 ha hd)
  exact hreq.trans (updateBudget_requestOnly _)

/-- The chip of `askedToQuiesce` without a slot, with the accepted sequence of code 3 (R706). -/
def loopTestAsked : State := { askedToQuiesce with plan.todo := [], keys.done := some 3 }

/-- The same with MODE written and the commit to come. -/
def loopTestModeWritten : State := keysMode 2 { loopTestAsked with keys.done := none }

theorem loopTestAsked_ready : Ready loopTestAsked := by decide

theorem loopTestAsked_mayWrite (off : Nat) (w : Word) (h : off ≠ 0x024) : MayWrite .keys 0x11 off w loopTestAsked := by
  refine ⟨rfl, by decide, rfl, rfl, ?_, by decide, rfl⟩
  simp [kindOk, h]

theorem loopTestModeWritten_asking : loopTestModeWritten.slp.asking = true ∧ loopTestModeWritten.slp.down = some 1 ∧ loopTestModeWritten.free = 0
    ∧ MayWrite .keys 0x11 0x020 1 loopTestModeWritten := by decide

/-- Refutes O58: the commit that LOOP_TEST_CURRENT requests may meet the blocks while they are asked to quiesce (`loopTestAsked`). Whether LDAC's block then refuses the entry is
a free choice (R51, R566), which the request takes: it changes more than the statement grants, whichever way it falls. -/
theorem not_keyActions : ¬ Obligations.KeyActions := by
  intro h
  obtain ⟨-, -, -, hactions, -⟩ := h loopTestAsked loopTestAsked_ready
  obtain ⟨hloop, -⟩ := hactions loopTestAsked_mayWrite (by decide) (by decide)
  obtain ⟨t, hexec, -, -, -, -, hframe⟩ := hloop rfl
  obtain ⟨hask, hdown, hfree, hmay⟩ := loopTestModeWritten_asking
  obtain ⟨r, e, l, g, w, k, hcommit⟩ := keysCommit_asking hmay hask hdown
  have heff : actOn 3 loopTest loopTestAsked = keysCommit loopTestModeWritten := rfl
  have hdone : exec .loopTestCurrent loopTestAsked = .next (keysCommit loopTestModeWritten) := by
    refine act_ends loopTestAsked_ready heff ?_ ?_ ?_ ?_ ?_ <;> rw [hcommit] <;> rfl
  obtain rfl : keysCommit loopTestModeWritten = t := by simpa [hdone] using hexec
  have hkept : (keysCommit loopTestModeWritten).free = loopTestAsked.free := by rw [hframe]
  have htaken : (keysCommit loopTestModeWritten).free = loopTestModeWritten.free + 1 := by
    rw [hcommit]
    rfl
  have hnone : loopTestAsked.free = 0 := rfl
  omega

end Sys2Proof.Machine
end

section
/-! O57: the window keys. Every scan and every command changes register words and the keys' state; one rule per step of a scan says which fields it keeps. -/

namespace Sys2Proof.Machine

/-! ### What the keys' operations change -/

/-- From `s` to `t` only words at normal addresses and the three keys change, and every field keeps its value that is clear of the fields listed. -/
structure KeyShows (gs : List Fld) (s t : State) : Prop where
  only : ∃ r a b c, t = { s with regs := r, keys.k0 := a, keys.k1 := b, keys.k2 := c }
  keeps : KeepsBut gs s t

theorem KeyShows.refl (gs : List Fld) (s : State) : KeyShows gs s s := ⟨⟨_, _, _, _, rfl⟩, .refl gs s⟩

theorem KeyShows.trans {gs : List Fld} {s t u : State} (h : KeyShows gs s t) (k : KeyShows gs t u) : KeyShows gs s u := by
  refine ⟨?_, h.keeps.trans k.keeps⟩
  obtain ⟨_, _, _, _, rfl⟩ := h.only
  obtain ⟨_, _, _, _, rfl⟩ := k.only
  exact ⟨_, _, _, _, rfl⟩

theorem KeyShows.mono {gs hs : List Fld} {s t : State} (h : KeyShows gs s t) (hsub : gs ⊆ hs) : KeyShows hs s t := ⟨h.only, h.keeps.mono hsub⟩

theorem Shows.keyShows {gs : List Fld} {s t : State} (h : Shows gs s t) : KeyShows gs s t := ⟨⟨_, _, _, _, h.frame⟩, h.keeps⟩

theorem KeyShows.put {gs : List Fld} {s t : State} (h : KeyShows gs s t) (g : Fld) (v : Nat) (hg : g ∈ gs) (hr : g.rws = false) : KeyShows gs s (t.put g v) :=
  h.trans ((Shows.refl gs t).put g v hg hr).keyShows

theorem KeyShows.raise {gs : List Fld} {s t : State} (h : KeyShows gs s t) (e : Nat × Nat) (he : evtFld e ∈ gs) : KeyShows gs s (t.raise e) :=
  h.trans ((Shows.refl gs t).raise e he).keyShows

theorem setKey_words (n : Nat) (k : KeyOne) (s : State) : (setKey n k s).regs = s.regs ∧ (setKey n k s).eff = s.eff := by
  unfold setKey
  split <;> exact ⟨rfl, rfl⟩

theorem KeyShows.setKey {gs : List Fld} {s t : State} (h : KeyShows gs s t) (n : Nat) (k : KeyOne) : KeyShows gs s (setKey n k t) := by
  obtain ⟨hregs, heff⟩ := setKey_words n k t
  refine h.trans ⟨?_, (KeepsBut.refl gs t).words hregs heff⟩
  unfold Machine.setKey
  split <;> exact ⟨_, _, _, _, rfl⟩

/-- From `s` to `t` only words and the keys' state change, the words in force excepted. -/
def KeysOnly (s t : State) : Prop := t = { s with regs := t.regs, keys := t.keys }

theorem KeysOnly.refl (s : State) : KeysOnly s s := rfl

theorem KeyShows.keysOnly {gs : List Fld} {s t : State} (h : KeyShows gs s t) : KeysOnly s t := by
  obtain ⟨_, _, _, _, rfl⟩ := h.only
  rfl

theorem KeysOnly.trans {s t u : State} (h : KeysOnly s t) (k : KeysOnly t u) : KeysOnly s u := by
  unfold KeysOnly at *
  rw [k, h]

theorem KeysOnly.put {s t : State} (h : KeysOnly s t) (g : Fld) (v : Nat) (hr : g.rws = false) : KeysOnly s (t.put g v) :=
  h.trans ((KeyShows.refl [g] t).put g v (by simp) hr).keysOnly

theorem KeysOnly.raise {s t : State} (h : KeysOnly s t) (e : Nat × Nat) : KeysOnly s (t.raise e) := h.trans rfl

theorem KeysOnly.setKey {s t : State} (h : KeysOnly s t) (n : Nat) (k : KeyOne) : KeysOnly s (setKey n k t) :=
  h.trans ((KeyShows.refl [] t).setKey n k).keysOnly

theorem KeyShows.rest {gs : List Fld} {s t : State} (h : KeyShows gs s t) : t.keys = { s.keys with k0 := t.keys.k0, k1 := t.keys.k1, k2 := t.keys.k2 } := by
  obtain ⟨_, _, _, _, rfl⟩ := h.only
  rfl

/-- A command whose effect changes register words and the keys' state ends its command. -/
theorem act_keys {f : State → State} {s t : State} (h : Ready s) (hf : f s = t) (ht : t = { s with regs := t.regs, keys := t.keys }) : act f s = .next t := by
  refine act_next h hf ?_ ?_ ?_ ?_ <;> rw [ht]

@[simp] theorem keyOf_setKey_same (n : Nat) (k : KeyOne) (s : State) : keyOf (setKey n k s) n = k := by
  match n with
  | 0 => rfl
  | 1 => rfl
  | _ + 2 => rfl

theorem keyOf_setKey_ne {n m : Nat} (hm : m < 3) (hn : n < 3) (hne : m ≠ n) (k : KeyOne) (s : State) : keyOf (setKey n k s) m = keyOf s m := by
  interval_cases n <;> interval_cases m <;> simp_all [keyOf, setKey]

@[simp] theorem setKey_get (n : Nat) (k : KeyOne) (s : State) (f : Fld) : (setKey n k s).get f = s.get f := by
  obtain ⟨hregs, heff⟩ := setKey_words n k s
  exact ((KeepsBut.refl [] s).words hregs heff) f (by simp)

theorem keyOf_of_keys {s t : State} (h : t.keys = s.keys) (n : Nat) : keyOf t n = keyOf s n := by
  unfold keyOf
  rw [h]

@[simp] theorem keyOf_put (s : State) (f : Fld) (v n : Nat) : keyOf (s.put f v) n = keyOf s n := keyOf_of_keys (State.put_keys s f v) n
@[simp] theorem keyOf_bump (s : State) (f : Fld) (v n : Nat) : keyOf (s.bump f v) n = keyOf s n := keyOf_of_keys (State.bump_keys s f v) n
@[simp] theorem keyOf_raise (s : State) (e : Nat × Nat) (n : Nat) : keyOf (s.raise e) n = keyOf s n := keyOf_of_keys (State.raise_keys s e) n

/-! ### The fields of a key -/

/-- The fields of page 0x48 outside the signal words. -/
def keysFields : List Fld :=
  [F.KEYS_CFG_SCAN_MS, F.KEYS_CFG_DEB, F.KEYS_TH_TOUCH_TH, F.KEYS_TH_NEG_TH, F.KEYS_TIME_MAX_TOUCH_S, F.KEYS_TIME_DRIFT_SCANS, F.KEYS_LOCK_TMO_S, F.KEYS_STAT_LOCK,
    F.KEYS_STAT_TOUCH, F.KEYS_STAT_IGNORE, F.KEYS_STAT_BASE_OK, F.KEYS_CNT_PRESSES, F.KEYS_CNT2_STUCK, F.KEYS_CNT2_REBASE_NEG, evtFld E.KEYS_PRESS, F.PWR_WAKE_CFG_KEY_MASK]

theorem sig_clear {n : Nat} (hn : n < 3) : ∀ f ∈ keysFields, Clear (F.KEYS_SIG_SIGNAL n) f ∧ Clear (F.KEYS_SIG_BASELINE n) f ∧ Clear f (F.KEYS_SIG_SIGNAL n) ∧ Clear f (F.KEYS_SIG_BASELINE n) := by
  revert n
  decide

theorem baseline_clear_signal (n : Nat) : Clear (F.KEYS_SIG_BASELINE n) (F.KEYS_SIG_SIGNAL n) := .inr ⟨rfl, rfl, Nat.zero_le _, .inr (by simp)⟩

theorem sig_clear_ne {n m : Nat} (hn : n < 3) (hm : m < 3) (hne : m ≠ n) (f : Fld) (hf : f = F.KEYS_SIG_SIGNAL n ∨ f = F.KEYS_SIG_BASELINE n) :
    Clear f (F.KEYS_SIG_SIGNAL m) ∧ Clear f (F.KEYS_SIG_BASELINE m) := by
  have hkey : ∀ n < 3, ∀ m < 3, m ≠ n → regKey 0x48 (0x060 + 0x4 * n) ≠ regKey 0x48 (0x060 + 0x4 * m) := by decide
  rcases hf with rfl | rfl <;> exact ⟨.inl (hkey n hn m hm hne), .inl (hkey n hn m hm hne)⟩

/-! ### Rebasing a key (R698 to R700) -/

theorem rebaseKey_shows {gs : List Fld} (n : Nat) (s : State) (h : F.KEYS_SIG_BASELINE n ∈ gs) : KeyShows gs s (rebaseKey n s) :=
  ((KeyShows.refl gs s).put _ _ h rfl).setKey n _

theorem rebaseKey_negMs (n : Nat) (s : State) : (keyOf (rebaseKey n s) n).negMs = none := by
  unfold rebaseKey
  rw [keyOf_setKey_same]

theorem setTouch_shows {gs : List Fld} (n : Nat) (on : Bool) (s : State) (h : F.KEYS_STAT_TOUCH ∈ gs) : KeyShows gs s (setTouch n on s) :=
  ((KeyShows.refl gs s).put _ _ h rfl).setKey n _

/-- A bit of a per-key field, three bits wide, after it was set or cleared. -/
theorem bitOf_setBitTo_key (x : Nat) {n : Nat} (b : Bool) (hn : n < 3) : bitOf (setBitTo x n b % 8) n = b := by
  refine (bitOf_mod_two_pow (w := 3) _ hn).trans ?_
  cases b with
  | true => exact bitOf_setBitTo_same _ _
  | false => exact bitOf_setBitTo_clear _ _

theorem bitOf_setBitTo_key_ne (x : Nat) {n m : Nat} (b : Bool) (hm : m < 3) (hne : m ≠ n) : bitOf (setBitTo x n b % 8) m = bitOf x m :=
  (bitOf_mod_two_pow (w := 3) _ hm).trans (bitOf_setBitTo_ne _ _ hne)

theorem get_put_clear (s : State) {g f : Fld} (v : Nat) (h : Clear g f) : (s.put g v).get f = s.get f := ((KeepsBut.refl [g] s).put g v (by simp)) f (by simpa using h)

theorem get_bump_clear (s : State) {g f : Fld} (h : Clear g f) : (s.bump g).get f = s.get f := get_put_clear s _ h

@[simp] theorem get_signal_mod (s : State) (n : Nat) : s.get (F.KEYS_SIG_SIGNAL n) % 65536 = s.get (F.KEYS_SIG_SIGNAL n) := Nat.mod_eq_of_lt (getBits_lt _ 31 16)

theorem clearSeq_keysOnly (s : State) : KeysOnly s (clearSeq s) := rfl
@[simp] theorem clearSeq_rd (s : State) (p off : Nat) : (clearSeq s).rd p off = s.rd p off := rfl
@[simp] theorem clearSeq_get (s : State) (f : Fld) : (clearSeq s).get f = s.get f :=
  (KeepsBut.refl [] s).words (u := clearSeq s) rfl rfl f (by simp)

/-! ### STUCK, REBASE_NEG (R698, R699) -/

/-- What STUCK leaves. -/
theorem exec_stuck {n : Nat} {s : State} (hs : Ready s) (hn : n < 3) (htouch : hasBit s F.KEYS_STAT_TOUCH n = true) (hlong : s.get F.KEYS_TIME_MAX_TOUCH_S * 1000 ≤ (keyOf s n).touchMs) :
    ∃ t, exec (.stuck n) s = .next t ∧ hasBit t F.KEYS_STAT_TOUCH n = false ∧ hasBit t F.KEYS_STAT_IGNORE n = true ∧ t.get (F.KEYS_SIG_BASELINE n) = s.get (F.KEYS_SIG_SIGNAL n)
      ∧ t.get F.KEYS_CNT2_STUCK = satTo 255 (s.get F.KEYS_CNT2_STUCK + 1) ∧ (t.rd 0x48 0x010).getLsbD E.KEYS_STUCK.2 = true ∧ t.keys.buf = [] ∧ KeysOnly s t := by
  have heff : stuck n s = clearSeq (((keyBit F.KEYS_STAT_IGNORE n true (rebaseKey n (setTouch n false s))).bump F.KEYS_CNT2_STUCK).raise E.KEYS_STUCK) := by
    unfold stuck
    rw [if_neg (by simp [htouch, hlong])]
  have hframe : KeysOnly s (clearSeq (((keyBit F.KEYS_STAT_IGNORE n true (rebaseKey n (setTouch n false s))).bump F.KEYS_CNT2_STUCK).raise E.KEYS_STUCK)) :=
    ((((((KeysOnly.refl s).put _ _ rfl).setKey n _).put _ _ rfl).setKey n _ |>.put _ _ rfl |>.put _ _ rfl |>.raise _)).trans (clearSeq_keysOnly _)
  refine ⟨_, act_keys hs heff hframe, ?_, ?_, ?_, ?_, ?_, rfl, hframe⟩
  case refine_5 =>
    rw [clearSeq_rd]
    exact State.raise_bit_same _ _ _ (by decide)
  all_goals
    interval_cases n <;>
    simp (disch := decide) [hasBit, keyBit, State.get_raise, get_put_clear, get_bump_clear, State.get_bump_same, rebaseKey, setTouch, State.get_put_same, bitOf_setBitTo_key, satTo_eq_min]

theorem stuck_untouched {n : Nat} {s : State} (h : hasBit s F.KEYS_STAT_TOUCH n = false) : stuck n s = s := by
  unfold stuck
  rw [if_pos (by simp [h])]

/-- What REBASE_NEG leaves once the delta has stayed low for 2 s. -/
theorem exec_rebaseNeg {n ms : Nat} {s : State} (hs : Ready s) (hn : n < 3) (hneg : (keyOf s n).negMs = some ms) (hms : 2000 ≤ ms) :
    ∃ t, exec (.rebaseNeg n) s = .next t ∧ t.get (F.KEYS_SIG_BASELINE n) = s.get (F.KEYS_SIG_SIGNAL n)
      ∧ t.get F.KEYS_CNT2_REBASE_NEG = satTo 255 (s.get F.KEYS_CNT2_REBASE_NEG + 1) ∧ (keyOf t n).negMs = none ∧ (t.rd 0x48 0x010).getLsbD E.KEYS_REBASE_NEG.2 = true ∧ KeysOnly s t := by
  have heff : rebaseNeg n s = ((rebaseKey n s).bump F.KEYS_CNT2_REBASE_NEG).raise E.KEYS_REBASE_NEG := by
    unfold rebaseNeg
    rw [hneg]
    exact if_neg (by omega)
  have hframe : KeysOnly s (((rebaseKey n s).bump F.KEYS_CNT2_REBASE_NEG).raise E.KEYS_REBASE_NEG) := (((KeysOnly.refl s).put _ _ rfl).setKey n _ |>.put _ _ rfl).raise _
  refine ⟨_, act_keys hs heff hframe, ?_, ?_, ?_, State.raise_bit_same _ _ _ (by decide), hframe⟩
  case refine_3 => rw [keyOf_raise, keyOf_bump, rebaseKey_negMs]
  all_goals
    interval_cases n <;>
    simp (disch := decide) [State.get_raise, get_put_clear, get_bump_clear, State.get_bump_same, rebaseKey, State.get_put_same, satTo_eq_min]

theorem rebaseNeg_still {n : Nat} {s : State} (h : ∀ ms, (keyOf s n).negMs = some ms → ms < 2000) : rebaseNeg n s = s := by
  unfold rebaseNeg
  split
  next ms hms => exact if_pos (h ms hms)
  next => rfl

/-! ### The lock (R705) -/

/-- The lock ends: its flag is clear and its time is over. -/
def lockEnded (s : State) : State := { s.putB F.KEYS_STAT_LOCK false with keys.lockLeft := none }

theorem lockEnded_flag (s : State) : (lockEnded s).flag F.KEYS_STAT_LOCK = false :=
  (((KeepsBut.refl [] (s.putB F.KEYS_STAT_LOCK false)).words (u := lockEnded s) rfl rfl).flag _ (by simp)).trans (flag_putB_same s (f := F.KEYS_STAT_LOCK) false rfl (by decide))

theorem lockEnded_events (s : State) : (lockEnded s).rd 0x48 0x010 = s.rd 0x48 0x010 :=
  ((KeepsBut.refl [F.KEYS_STAT_LOCK] s).putB F.KEYS_STAT_LOCK false (by simp)).words (u := lockEnded s) rfl rfl |>.events E.KEYS_LOCK_CHANGE (by decide)

theorem setLock_clear (s : State) : setLock false s = lockEnded (if s.flag F.KEYS_STAT_LOCK = false then s else s.raise E.KEYS_LOCK_CHANGE) := rfl

/-- UNLOCK and the lock's timeout leave no lock; where there was one, LOCK_CHANGE is raised (R705). -/
theorem setLock_ends (s : State) : (setLock false s).flag F.KEYS_STAT_LOCK = false
    ∧ (s.flag F.KEYS_STAT_LOCK = true → ((setLock false s).rd 0x48 0x010).getLsbD E.KEYS_LOCK_CHANGE.2 = true)
    ∧ setLock false s = { s with regs := (setLock false s).regs, keys.lockLeft := none } := by
  rw [setLock_clear]
  refine ⟨lockEnded_flag _, fun h => ?_, ?_⟩
  · rw [lockEnded_events, if_neg (by simp [h])]
    exact State.raise_bit_same _ _ _ (by decide)
  · split <;> rfl

theorem keysCmd_row {path : Path} {w : Word} {s u : State} (hu : noteOwner path 0x48 s = u) (h : MayWrite path 0x48 0x078 w s) :
    overPath path (writeReg path 0x48 0x078 w) s = keysCmd w u := by
  rw [← hu]
  exact overPath_writeReg (e := ⟨0x078, 0x400, 1, 4, 1, 0, 0, 0, 0, 0, 0, 0xFF000000⟩) (i := 0) (by decide) (by decide) (by decide) rfl rfl (by decide) h
    fun hrws => absurd rfl hrws

theorem lockTimeout_over {s : State} (h : s.keys.lockLeft = some 0) : lockTimeout s = setLock false s := if_pos h

/-! ### REBASE (R700) -/

/-- Key `n` starts anew at its present signal. -/
def keyAnew (n : Nat) (s : State) : State := rebaseKey n (setKey n { keyOf s n with on := 0, off := 0, touchMs := 0 } s)

theorem keyAnew_shows {gs : List Fld} (n : Nat) (s : State) (h : F.KEYS_SIG_BASELINE n ∈ gs) : KeyShows gs s (keyAnew n s) :=
  ((KeyShows.refl gs s).setKey n _).trans (rebaseKey_shows n _ h)

theorem keyAnew_keysOnly (n : Nat) (s : State) : KeysOnly s (keyAnew n s) := (keyAnew_shows (gs := [F.KEYS_SIG_BASELINE n]) n s (by simp)).keysOnly

theorem rebaseKeys_eq (s : State) : rebaseKeys s = ((keyAnew 2 (keyAnew 1 (keyAnew 0 s))).put F.KEYS_STAT_TOUCH 0).put F.KEYS_STAT_IGNORE 0 := rfl

theorem rebaseKeys_keysOnly (s : State) : KeysOnly s (rebaseKeys s) := by
  rw [rebaseKeys_eq]
  exact ((((keyAnew_keysOnly 0 s).trans (keyAnew_keysOnly 1 _)).trans (keyAnew_keysOnly 2 _)).put _ _ rfl).put _ _ rfl

/-- No key is touched or ignored, and every baseline is the present signal. -/
theorem rebaseKeys_shown (s : State) : (rebaseKeys s).get F.KEYS_STAT_TOUCH = 0 ∧ (rebaseKeys s).get F.KEYS_STAT_IGNORE = 0
    ∧ ∀ n < 3, (rebaseKeys s).get (F.KEYS_SIG_BASELINE n) = s.get (F.KEYS_SIG_SIGNAL n) := by
  rw [rebaseKeys_eq]
  refine ⟨?_, State.get_put_same _ F.KEYS_STAT_IGNORE 0 (by decide) (by decide), fun n hn => ?_⟩
  · rw [get_put_clear _ _ (by decide)]
    exact State.get_put_same _ F.KEYS_STAT_TOUCH 0 (by decide) (by decide)
  · interval_cases n <;> simp (disch := decide) [keyAnew, rebaseKey, get_put_clear, State.get_put_same]

/-! ### One key's scan (R694 to R697) -/

/-- The signal of a scan without an injected touch is shown; what follows depends on whether the key has its baseline. -/
theorem scanKey_shown {n sig : Nat} {s : State} (hinj : s.keys.injMs = 0) (hsig : sig < 65536) (hn : n < 3) :
    scanKey n sig s = if hasBit s F.KEYS_STAT_BASE_OK n = true then touchScan n (negScan n (s.put (F.KEYS_SIG_SIGNAL n) sig))
      else (baseScan n sig (s.put (F.KEYS_SIG_SIGNAL n) sig), false) := by
  have hbit : hasBit (s.put (F.KEYS_SIG_SIGNAL n) sig) F.KEYS_STAT_BASE_OK n = hasBit s F.KEYS_STAT_BASE_OK n := by
    rw [hasBit, get_put_clear _ _ (sig_clear hn _ (by decide)).1, hasBit]
  have hsame : (if n = 0 ∧ 0 < s.keys.injMs then sig + 2 * s.get F.KEYS_TH_TOUCH_TH else sig) = sig := if_neg (by simp [hinj])
  unfold scanKey
  rw [hsame, Nat.min_eq_right (Nat.le_of_lt_succ hsig)]
  dsimp only
  rw [hbit]
  cases hasBit s F.KEYS_STAT_BASE_OK n <;> rfl

/-- What one of the first eight scans of a key leaves (R695). -/
structure BaseScanned (n sig : Nat) (s t : State) : Prop where
  shows : KeyShows [F.KEYS_SIG_SIGNAL n, F.KEYS_SIG_BASELINE n, F.KEYS_STAT_BASE_OK] s t
  signal : t.get (F.KEYS_SIG_SIGNAL n) = sig
  others : ∀ m < 3, m ≠ n → keyOf t m = keyOf s m ∧ hasBit t F.KEYS_STAT_BASE_OK m = hasBit s F.KEYS_STAT_BASE_OK m
  eighth : 7 ≤ (keyOf s n).scans → hasBit t F.KEYS_STAT_BASE_OK n = true ∧ t.get (F.KEYS_SIG_BASELINE n) = ((keyOf s n).sum + sig) / 8 % 65536
  earlier : (keyOf s n).scans < 7 → hasBit t F.KEYS_STAT_BASE_OK n = hasBit s F.KEYS_STAT_BASE_OK n ∧ (keyOf t n).scans = (keyOf s n).scans + 1 ∧ (keyOf t n).sum = (keyOf s n).sum + sig

/-- The key with one more of its first scans counted. -/
def scanCounted (n sig : Nat) (s : State) : State := setKey n { keyOf s n with scans := (keyOf s n).scans + 1, sum := (keyOf s n).sum + sig } s

theorem baseScan_eq (n sig : Nat) (s : State) : baseScan n sig s = if (keyOf s n).scans + 1 < 8 then scanCounted n sig s
    else keyBit F.KEYS_STAT_BASE_OK n true ((scanCounted n sig s).put (F.KEYS_SIG_BASELINE n) (((keyOf s n).sum + sig) / 8)) := rfl

@[simp] theorem scanCounted_get (n sig : Nat) (s : State) (f : Fld) : (scanCounted n sig s).get f = s.get f := setKey_get ..

theorem baseScan_scanned {n sig : Nat} {s : State} (hn : n < 3) (hsig : sig < 65536) : BaseScanned n sig s (baseScan n sig (s.put (F.KEYS_SIG_SIGNAL n) sig)) := by
  have hcounted : KeyShows [F.KEYS_SIG_SIGNAL n, F.KEYS_SIG_BASELINE n, F.KEYS_STAT_BASE_OK] s (scanCounted n sig (s.put (F.KEYS_SIG_SIGNAL n) sig)) :=
    ((KeyShows.refl _ s).put _ _ (by simp) rfl).setKey n _
  have hsame : keyOf (scanCounted n sig (s.put (F.KEYS_SIG_SIGNAL n) sig)) n = { keyOf s n with scans := (keyOf s n).scans + 1, sum := (keyOf s n).sum + sig } := by
    rw [scanCounted, keyOf_setKey_same, keyOf_put]
  have hne (m : Nat) (hm : m < 3) (h : m ≠ n) : keyOf (scanCounted n sig (s.put (F.KEYS_SIG_SIGNAL n) sig)) m = keyOf s m := (keyOf_setKey_ne hm hn h _ _).trans (keyOf_put ..)
  have hbase : (scanCounted n sig (s.put (F.KEYS_SIG_SIGNAL n) sig)).get F.KEYS_STAT_BASE_OK = s.get F.KEYS_STAT_BASE_OK := by
    rw [scanCounted_get, get_put_clear _ _ (sig_clear hn _ (by decide)).1]
  have hsignal : (scanCounted n sig (s.put (F.KEYS_SIG_SIGNAL n) sig)).get (F.KEYS_SIG_SIGNAL n) = sig := by
    rw [scanCounted_get, State.get_put_same _ _ _ (by simp) (by simp)]
    exact Nat.mod_eq_of_lt hsig
  rw [baseScan_eq, keyOf_put]
  generalize scanCounted n sig (s.put (F.KEYS_SIG_SIGNAL n) sig) = u at *
  have hbit (m : Nat) : hasBit u F.KEYS_STAT_BASE_OK m = hasBit s F.KEYS_STAT_BASE_OK m := congrArg (bitOf · m) hbase
  by_cases hlast : (keyOf s n).scans + 1 < 8
  · rw [if_pos hlast]
    exact ⟨hcounted, hsignal, fun m hm h => ⟨hne m hm h, hbit m⟩, fun h => absurd hlast (by omega), fun _ => ⟨hbit n, by rw [hsame], by rw [hsame]⟩⟩
  · rw [if_neg hlast, keyBit, get_put_clear _ _ (sig_clear hn _ (by decide)).2.1, hbase]
    refine ⟨(hcounted.put _ _ (by simp) rfl).put _ _ (by simp) rfl, ?_, fun m hm h => ⟨?_, ?_⟩, fun _ => ⟨?_, ?_⟩, fun h => absurd h (by omega)⟩
    · rw [get_put_clear _ _ (sig_clear hn _ (by decide)).2.2.1, get_put_clear _ _ (baseline_clear_signal n), hsignal]
    · rw [keyOf_put, keyOf_put, hne m hm h]
    · rw [hasBit, State.get_put_same _ _ _ (by decide) (by decide)]
      exact bitOf_setBitTo_key_ne _ _ hm h
    · rw [hasBit, State.get_put_same _ _ _ (by decide) (by decide)]
      exact bitOf_setBitTo_key _ _ hn
    · rw [get_put_clear _ _ (sig_clear hn _ (by decide)).2.2.2, State.get_put_same _ _ _ (by simp) (by simp)]
      rfl

/-! ### Touches and presses (R696) -/

/-- The scan of a key that has its baseline, before its touch is judged. -/
def scanShown (n sig : Nat) (s : State) : State := negScan n (s.put (F.KEYS_SIG_SIGNAL n) sig)

theorem scanShown_shows (n sig : Nat) (s : State) : KeyShows [F.KEYS_SIG_SIGNAL n] s (scanShown n sig s) := ((KeyShows.refl _ s).put _ _ (by simp) rfl).setKey n _

theorem scanShown_others {n m : Nat} (sig : Nat) (s : State) (hm : m < 3) (hn : n < 3) (hne : m ≠ n) : keyOf (scanShown n sig s) m = keyOf s m :=
  (keyOf_setKey_ne hm hn hne _ _).trans (keyOf_put ..)

theorem scanShown_on (n sig : Nat) (s : State) : (keyOf (scanShown n sig s) n).on = (keyOf s n).on := by
  rw [scanShown, negScan, keyOf_setKey_same]
  change (keyOf (s.put (F.KEYS_SIG_SIGNAL n) sig) n).on = _
  rw [keyOf_put]

theorem scanShown_delta {n sig : Nat} (s : State) (hsig : sig < 65536) : keyDelta (scanShown n sig s) n = sig - (s.get (F.KEYS_SIG_BASELINE n) : Int) := by
  have hsignal : (scanShown n sig s).get (F.KEYS_SIG_SIGNAL n) = sig := by
    rw [scanShown, negScan, setKey_get, State.get_put_same _ _ _ (by simp) (by simp)]
    exact Nat.mod_eq_of_lt hsig
  have hbase : (scanShown n sig s).get (F.KEYS_SIG_BASELINE n) = s.get (F.KEYS_SIG_BASELINE n) := by
    rw [scanShown, negScan, setKey_get]
    exact State.get_put_other _ _ _ _ ⟨rfl, rfl, by simp, .inl (by simp)⟩
  rw [keyDelta, hsignal, hbase]

theorem driftScan_shows (n : Nat) (s : State) : KeyShows [F.KEYS_SIG_BASELINE n] s (driftScan n s) ∧ ∀ m < 3, n < 3 → m ≠ n → keyOf (driftScan n s) m = keyOf s m := by
  unfold driftScan
  dsimp only
  split
  · exact ⟨(KeyShows.refl _ s).setKey n _, fun m hm hn hne => keyOf_setKey_ne hm hn hne _ _⟩
  · exact ⟨((KeyShows.refl _ s).put _ _ (by simp) rfl).setKey n _, fun m hm hn hne => (keyOf_setKey_ne hm hn hne _ _).trans (keyOf_put ..)⟩

/-- A key without a touch whose delta stays below TOUCH_TH declares none. -/
theorem touchScan_below {n : Nat} {s : State} (hn : n < 3) (hign : hasBit s F.KEYS_STAT_IGNORE n = false) (htouch : hasBit s F.KEYS_STAT_TOUCH n = false)
    (hd : keyDelta s n < s.get F.KEYS_TH_TOUCH_TH) :
    ∃ t, touchScan n s = (t, false) ∧ KeyShows [F.KEYS_SIG_BASELINE n] s t ∧ ∀ m < 3, m ≠ n → keyOf t m = keyOf s m := by
  have hcount : KeyShows [F.KEYS_SIG_BASELINE n] s (setKey n { keyOf s n with on := 0 } s) := (KeyShows.refl _ s).setKey n _
  have hne (m : Nat) (hm : m < 3) (h : m ≠ n) : keyOf (setKey n { keyOf s n with on := 0 } s) m = keyOf s m := keyOf_setKey_ne hm hn h _ _
  have heff : ∃ p : Prop, ∃ _ : Decidable p, touchScan n s = (if p then driftScan n (setKey n { keyOf s n with on := 0 } s) else setKey n { keyOf s n with on := 0 } s, false) := by
    unfold touchScan
    simp only [hign, htouch, Bool.false_eq_true, if_false, if_neg (Int.not_le.mpr hd)]
    exact ⟨_, _, rfl⟩
  obtain ⟨p, _, heff⟩ := heff
  refine ⟨_, heff, ?_⟩
  split
  · obtain ⟨hdrift, hothers⟩ := driftScan_shows n (setKey n { keyOf s n with on := 0 } s)
    exact ⟨hcount.trans hdrift, fun m hm h => (hothers m hm hn h).trans (hne m hm h)⟩
  · exact ⟨hcount, hne⟩

/-- A delta of TOUCH_TH or more is counted, and is a press after DEB scans. -/
theorem touchScan_above {n : Nat} {s : State} (hign : hasBit s F.KEYS_STAT_IGNORE n = false) (htouch : hasBit s F.KEYS_STAT_TOUCH n = false)
    (hd : s.get F.KEYS_TH_TOUCH_TH ≤ keyDelta s n) :
    touchScan n s = if s.get F.KEYS_CFG_DEB ≤ (keyOf s n).on + 1 then (setTouch n true s, true) else (setKey n { keyOf s n with on := (keyOf s n).on + 1 } s, false) := by
  unfold touchScan
  simp only [hign, htouch, Bool.false_eq_true, if_false, if_pos hd]

/-! ### KEY_SCAN (R694, R701) -/

/-- The state in which a scan that is due begins: what waits in the buffer, and trim mode, have aged. -/
def scanStart (s : State) : State :=
  { s with keys.scanU := some 0, keys.buf := s.keys.buf.map (fun e => (e.1, e.2 + s.get F.KEYS_CFG_SCAN_MS)), keys.trimMs := s.keys.trimMs + s.get F.KEYS_CFG_SCAN_MS }

@[simp] theorem scanStart_get (s : State) (f : Fld) : (scanStart s).get f = s.get f := (KeepsBut.refl [] s).words (u := scanStart s) rfl rfl f (by simp)

theorem scanStart_keysOnly (s : State) : KeysOnly s (scanStart s) := rfl

theorem scanStart_keyOf (s : State) (n : Nat) : keyOf (scanStart s) n = keyOf s n := by
  unfold keyOf
  split <;> rfl

/-- The injected touch, where there is one, runs on. -/
def scanOver (ms : Nat) (s : State) : State := { s with keys.injMs := s.keys.injMs - ms }

@[simp] theorem scanOver_get (ms : Nat) (s : State) (f : Fld) : (scanOver ms s).get f = s.get f := (KeepsBut.refl [] s).words (u := scanOver ms s) rfl rfl f (by simp)

theorem scanOver_keysOnly (ms : Nat) (s : State) : KeysOnly s (scanOver ms s) := rfl

theorem keyScan_notDue {g0 g1 g2 : Nat} {s : State} (h : s.boot.loadDone = false ∨ scanDue s = false) : keyScan g0 g1 g2 s = s := by
  unfold keyScan
  rw [if_pos (by simpa using h)]

/-- A scan in which no key declares a press. -/
theorem keyScan_noPress {g0 g1 g2 : Nat} {s a b c : State} (hload : s.boot.loadDone = true) (hdue : scanDue s = true) (h0 : scanKey 0 g0 (scanStart s) = (a, false))
    (h1 : scanKey 1 g1 a = (b, false)) (h2 : scanKey 2 g2 b = (c, false)) : keyScan g0 g1 g2 s = scanOver (s.get F.KEYS_CFG_SCAN_MS) c := by
  have hms : State.get { s with keys.scanU := some 0 } F.KEYS_CFG_SCAN_MS = s.get F.KEYS_CFG_SCAN_MS := (KeepsBut.refl [] s).words rfl rfl _ (by simp)
  unfold scanStart at h0
  unfold keyScan
  rw [if_neg (by simp [hload, hdue])]
  simp only [hms, h0, h1, h2]
  rfl

/-- The press of key 1 is counted and enters the buffer (R701). -/
def pressTaken (s : State) : State := onePress 1 ((s.bump F.KEYS_CNT_PRESSES).raise E.KEYS_PRESS)

/-- A scan in which key 1 alone declares a press, which is no wake source. -/
theorem keyScan_press {g0 g1 g2 : Nat} {s a b c : State} (hload : s.boot.loadDone = true) (hdue : scanDue s = true) (h0 : scanKey 0 g0 (scanStart s) = (a, false))
    (h1 : scanKey 1 g1 a = (b, true)) (h2 : scanKey 2 g2 b = (c, false))
    (hmask : bitOf ((pressTaken (scanOver (s.get F.KEYS_CFG_SCAN_MS) c)).get F.PWR_WAKE_CFG_KEY_MASK) 1 = false) :
    keyScan g0 g1 g2 s = pressTaken (scanOver (s.get F.KEYS_CFG_SCAN_MS) c) := by
  have hms : State.get { s with keys.scanU := some 0 } F.KEYS_CFG_SCAN_MS = s.get F.KEYS_CFG_SCAN_MS := (KeepsBut.refl [] s).words rfl rfl _ (by simp)
  unfold scanStart at h0
  unfold keyScan
  rw [if_neg (by simp [hload, hdue])]
  simp only [hms, h0, h1, h2]
  refine (if_neg (by simp)).trans (if_neg fun hany => ?_)
  exact absurd ((Bool.or_false _).symm.trans hany) (by rw [Bool.not_eq_true]; exact hmask)

/-- With an empty buffer, the press is its one entry. -/
theorem pressTaken_eq {s : State} (h : s.keys.buf = []) :
    pressTaken s = { (s.bump F.KEYS_CNT_PRESSES).raise E.KEYS_PRESS with keys.trimMs := 0, keys.led := 1, keys.ledU := 0, keys.buf := [(1, 0)] } := by
  have hbuf : ((s.bump F.KEYS_CNT_PRESSES).raise E.KEYS_PRESS).keys.buf = [] := by simp [h]
  unfold pressTaken onePress
  rw [if_neg (by simp)]
  simp only [flash, hbuf]
  rfl

/-- What the one press of a scan leaves. -/
theorem pressTaken_shown {s : State} (h : s.keys.buf = []) : KeysOnly s (pressTaken s) ∧ (pressTaken s).keys.buf = [(1, 0)]
    ∧ (pressTaken s).get F.KEYS_CNT_PRESSES = satTo 65535 (s.get F.KEYS_CNT_PRESSES + 1) ∧ ((pressTaken s).rd 0x48 0x010).getLsbD E.KEYS_PRESS.2 = true
    ∧ KeepsBut [F.KEYS_CNT_PRESSES, evtFld E.KEYS_PRESS] s (pressTaken s) := by
  have hshows : KeyShows [F.KEYS_CNT_PRESSES, evtFld E.KEYS_PRESS] s ((s.bump F.KEYS_CNT_PRESSES).raise E.KEYS_PRESS) := ((KeyShows.refl _ s).put _ _ (by simp) rfl).raise _ (by simp)
  have hcnt : ((s.bump F.KEYS_CNT_PRESSES).raise E.KEYS_PRESS).get F.KEYS_CNT_PRESSES = satTo 65535 (s.get F.KEYS_CNT_PRESSES + 1) := by
    rw [State.get_raise _ (by decide), State.get_bump_same _ _ (by decide) (by decide), satTo_eq_min]
    rfl
  have hevt : (((s.bump F.KEYS_CNT_PRESSES).raise E.KEYS_PRESS).rd 0x48 0x010).getLsbD E.KEYS_PRESS.2 = true := State.raise_bit_same _ _ _ (by decide)
  rw [pressTaken_eq h]
  generalize (s.bump F.KEYS_CNT_PRESSES).raise E.KEYS_PRESS = u at *
  exact ⟨hshows.keysOnly.trans rfl, rfl, hcnt, hevt, hshows.keeps.words rfl rfl⟩

/-- The keys whose delta is zero declare nothing, and leave the other keys as they are. -/
theorem scanKey_still {n : Nat} {s : State} (hn : n < 3) (hinj : s.keys.injMs = 0) (hbase : hasBit s F.KEYS_STAT_BASE_OK n = true) (hign : hasBit s F.KEYS_STAT_IGNORE n = false)
    (htouch : hasBit s F.KEYS_STAT_TOUCH n = false) (hth : 0 < s.get F.KEYS_TH_TOUCH_TH) :
    ∃ t, scanKey n (s.get (F.KEYS_SIG_BASELINE n)) s = (t, false) ∧ KeyShows [F.KEYS_SIG_SIGNAL n, F.KEYS_SIG_BASELINE n] s t ∧ ∀ m < 3, m ≠ n → keyOf t m = keyOf s m := by
  have hsig : s.get (F.KEYS_SIG_BASELINE n) < 65536 := getBits_lt _ 15 0
  have hshown := scanShown_shows n (s.get (F.KEYS_SIG_BASELINE n)) s
  have hkeep (f : Fld) (hf : f ∈ keysFields) : (scanShown n (s.get (F.KEYS_SIG_BASELINE n)) s).get f = s.get f := hshown.keeps f (by simpa using (sig_clear hn f hf).1)
  obtain ⟨t, ht, hkeeps, hothers⟩ := touchScan_below (s := scanShown n (s.get (F.KEYS_SIG_BASELINE n)) s) hn (by rw [hasBit, hkeep _ (by decide)]; exact hign)
    (by rw [hasBit, hkeep _ (by decide)]; exact htouch) (by rw [scanShown_delta s hsig, hkeep _ (by decide)]; omega)
  refine ⟨t, ?_, (hshown.mono (by simp)).trans (hkeeps.mono (by simp)), fun m hm h => (hothers m hm h).trans (scanShown_others _ s hm hn h)⟩
  rw [scanKey_shown hinj hsig hn, if_pos hbase]
  exact ht

/-- A key whose delta is TOUCH_TH or more is counted or touched. -/
theorem scanKey_above {n sig : Nat} {s : State} (hn : n < 3) (hinj : s.keys.injMs = 0) (hsig : sig < 65536) (hbase : hasBit s F.KEYS_STAT_BASE_OK n = true)
    (hign : hasBit s F.KEYS_STAT_IGNORE n = false) (htouch : hasBit s F.KEYS_STAT_TOUCH n = false) (hth : s.get (F.KEYS_SIG_BASELINE n) + s.get F.KEYS_TH_TOUCH_TH ≤ sig) :
    scanKey n sig s = if s.get F.KEYS_CFG_DEB ≤ (keyOf s n).on + 1 then (setTouch n true (scanShown n sig s), true)
      else (setKey n { keyOf (scanShown n sig s) n with on := (keyOf s n).on + 1 } (scanShown n sig s), false) := by
  have hkeep (f : Fld) (hf : f ∈ keysFields) : (scanShown n sig s).get f = s.get f := (scanShown_shows n sig s).keeps f (by simpa using (sig_clear hn f hf).1)
  have heff := touchScan_above (s := scanShown n sig s) (n := n) (by rw [hasBit, hkeep _ (by decide)]; exact hign)
    (by rw [hasBit, hkeep _ (by decide)]; exact htouch) (by rw [scanShown_delta s hsig, hkeep _ (by decide)]; omega)
  rw [scanKey_shown hinj hsig hn, if_pos hbase]
  exact heff.trans (by rw [hkeep _ (by decide), scanShown_on])

/-- A step that changes the signal word of one key keeps the other fields of the keys. -/
theorem KeyShows.sigKeeps {n : Nat} {gs : List Fld} {s t : State} (h : KeyShows (F.KEYS_SIG_SIGNAL n :: F.KEYS_SIG_BASELINE n :: gs) s t) (hn : n < 3) (f : Fld) (hf : f ∈ keysFields)
    (hgs : ∀ g ∈ gs, Clear g f) : t.get f = s.get f :=
  h.keeps f (by simpa using ⟨(sig_clear hn f hf).1, (sig_clear hn f hf).2.1, hgs⟩)

/-- The first eight scans of each key (R695). -/
theorem exec_baseScans {g0 g1 g2 : Nat} {s : State} (hs : Ready s) (hload : s.boot.loadDone = true) (hdue : scanDue s = true) (hinj : s.keys.injMs = 0)
    (hbase : s.get F.KEYS_STAT_BASE_OK = 0) (h0 : g0 < 65536) (h1 : g1 < 65536) (h2 : g2 < 65536) :
    ∃ t, exec (.keyScan g0 g1 g2) s = .next t ∧ t.get (F.KEYS_SIG_SIGNAL 0) = g0 ∧ t.get (F.KEYS_SIG_SIGNAL 1) = g1 ∧ t.get (F.KEYS_SIG_SIGNAL 2) = g2
      ∧ t.get F.KEYS_STAT_TOUCH = s.get F.KEYS_STAT_TOUCH ∧ t.get F.KEYS_CNT_PRESSES = s.get F.KEYS_CNT_PRESSES
      ∧ (7 ≤ s.keys.k1.scans → hasBit t F.KEYS_STAT_BASE_OK 1 = true ∧ t.get (F.KEYS_SIG_BASELINE 1) = (s.keys.k1.sum + g1) / 8 % 65536)
      ∧ (s.keys.k1.scans < 7 → hasBit t F.KEYS_STAT_BASE_OK 1 = false ∧ t.keys.k1.scans = s.keys.k1.scans + 1 ∧ t.keys.k1.sum = s.keys.k1.sum + g1) ∧ KeysOnly s t := by
  have hno (n : Nat) : hasBit (scanStart s) F.KEYS_STAT_BASE_OK n = false := by simp [hasBit, hbase, bitOf]
  have ha := baseScan_scanned (n := 0) (sig := g0) (s := scanStart s) (by decide) h0
  have hscan0 := scanKey_shown (n := 0) (sig := g0) (s := scanStart s) hinj h0 (by decide)
  rw [hno, if_neg (by decide)] at hscan0
  generalize baseScan 0 g0 _ = a at ha hscan0
  have hinja : a.keys.injMs = 0 := by rw [ha.shows.rest]; exact hinj
  have hb := baseScan_scanned (n := 1) (sig := g1) (s := a) (by decide) h1
  have hscan1 := scanKey_shown (n := 1) (sig := g1) (s := a) hinja h1 (by decide)
  rw [(ha.others 1 (by decide) (by decide)).2, hno, if_neg (by decide)] at hscan1
  generalize baseScan 1 g1 _ = b at hb hscan1
  have hinjb : b.keys.injMs = 0 := by rw [hb.shows.rest]; exact hinja
  have hc := baseScan_scanned (n := 2) (sig := g2) (s := b) (by decide) h2
  have hscan2 := scanKey_shown (n := 2) (sig := g2) (s := b) hinjb h2 (by decide)
  rw [(hb.others 2 (by decide) (by decide)).2, (ha.others 2 (by decide) (by decide)).2, hno, if_neg (by decide)] at hscan2
  generalize baseScan 2 g2 _ = c at hc hscan2
  have hframe : KeysOnly s (scanOver (s.get F.KEYS_CFG_SCAN_MS) c) :=
    ((((scanStart_keysOnly s).trans ha.shows.keysOnly).trans hb.shows.keysOnly).trans hc.shows.keysOnly).trans (scanOver_keysOnly _ c)
  have hk1 : keyOf a 1 = s.keys.k1 := (ha.others 1 (by decide) (by decide)).1
  have hkeep (f : Fld) (hf : f ∈ keysFields) (hne : Clear F.KEYS_STAT_BASE_OK f) : c.get f = s.get f := by
    rw [hc.shows.sigKeeps (by decide) f hf (by simpa using hne), hb.shows.sigKeeps (by decide) f hf (by simpa using hne), ha.shows.sigKeeps (by decide) f hf (by simpa using hne),
      scanStart_get]
  have hbit1 : hasBit c F.KEYS_STAT_BASE_OK 1 = hasBit b F.KEYS_STAT_BASE_OK 1 := (hc.others 1 (by decide) (by decide)).2
  have hk1c : keyOf c 1 = keyOf b 1 := (hc.others 1 (by decide) (by decide)).1
  refine ⟨_, act_keys hs (keyScan_noPress hload hdue hscan0 hscan1 hscan2) hframe, ?_, ?_, ?_, ?_, ?_, fun h => ⟨?_, ?_⟩, fun h => ⟨?_, ?_, ?_⟩, hframe⟩
  · rw [scanOver_get, hc.shows.keeps _ (by decide), hb.shows.keeps _ (by decide), ha.signal]
  · rw [scanOver_get, hc.shows.keeps _ (by decide), hb.signal]
  · rw [scanOver_get, hc.signal]
  · rw [scanOver_get, hkeep _ (by decide) (by decide)]
  · rw [scanOver_get, hkeep _ (by decide) (by decide)]
  · rw [hasBit, scanOver_get]
    exact hbit1.trans (hb.eighth (by rwa [hk1])).1
  · rw [scanOver_get, hc.shows.keeps _ (by decide), (hb.eighth (by rwa [hk1])).2, hk1]
  · rw [hasBit, scanOver_get]
    exact (hbit1.trans (hb.earlier (by rwa [hk1])).1).trans ((ha.others 1 (by decide) (by decide)).2.trans (hno 1))
  · exact (congrArg KeyOne.scans hk1c).trans ((hb.earlier (by rwa [hk1])).2.1.trans (by rw [hk1]))
  · exact (congrArg KeyOne.sum hk1c).trans ((hb.earlier (by rwa [hk1])).2.2.trans (by rw [hk1]))

/-- A state in which a scan of key 1 alone may be a press: every key has its baseline, none is touched or ignored, and the buffer is empty. -/
structure PressScan (g1 : Nat) (s : State) : Prop where
  load : s.boot.loadDone = true
  due : scanDue s = true
  inj : s.keys.injMs = 0
  base : s.get F.KEYS_STAT_BASE_OK = 7
  touch : s.get F.KEYS_STAT_TOUCH = 0
  ign : s.get F.KEYS_STAT_IGNORE = 0
  buf : s.keys.buf = []
  th : 0 < s.get F.KEYS_TH_TOUCH_TH
  sig : g1 < 65536
  above : s.get (F.KEYS_SIG_BASELINE 1) + s.get F.KEYS_TH_TOUCH_TH ≤ g1

/-- During the scan of `s`, `a` differs from it in what the keys' scans may change; `touch` are its touches. -/
structure DuringScan (touch : Nat) (s a : State) : Prop where
  only : KeysOnly s a
  inj : a.keys.injMs = 0
  buf : a.keys.buf = []
  keeps : ∀ f ∈ keysFields, f ≠ F.KEYS_STAT_TOUCH → a.get f = s.get f
  touch : a.get F.KEYS_STAT_TOUCH = touch

/-- A step of the scan that keeps the fields outside the signals and the touches. -/
theorem DuringScan.step {n touch touch' : Nat} {gs : List Fld} {s a b : State} (h : DuringScan touch s a) (hk : KeyShows (F.KEYS_SIG_SIGNAL n :: F.KEYS_SIG_BASELINE n :: gs) a b)
    (hn : n < 3) (hgs : gs ⊆ [F.KEYS_STAT_TOUCH]) (ht : b.get F.KEYS_STAT_TOUCH = touch') : DuringScan touch' s b := by
  refine ⟨h.only.trans hk.keysOnly, by rw [hk.rest]; exact h.inj, by rw [hk.rest]; exact h.buf, fun f hf hne => ?_, ht⟩
  have hclear : ∀ f ∈ keysFields, f ≠ F.KEYS_STAT_TOUCH → Clear F.KEYS_STAT_TOUCH f := by decide
  refine (hk.sigKeeps hn f hf fun g hg => ?_).trans (h.keeps f hf hne)
  obtain rfl : g = F.KEYS_STAT_TOUCH := by simpa using hgs hg
  exact hclear f hf hne

theorem pressScan_start {g1 : Nat} {s : State} (h : PressScan g1 s) : DuringScan 0 s (scanStart s) :=
  ⟨scanStart_keysOnly s, h.inj, congrArg (List.map _) h.buf, fun f _ _ => scanStart_get s f, (scanStart_get ..).trans h.touch⟩

/-- A key whose delta is zero, in a scan that may be a press of key 1. -/
theorem pressScan_still {g1 n touch : Nat} {s a : State} (h : PressScan g1 s) (ha : DuringScan touch s a) (hn : n < 3) (htouch : bitOf touch n = false) :
    ∃ b, scanKey n (a.get (F.KEYS_SIG_BASELINE n)) a = (b, false) ∧ DuringScan touch s b ∧ KeyShows [F.KEYS_SIG_SIGNAL n, F.KEYS_SIG_BASELINE n] a b ∧ ∀ m < 3, m ≠ n → keyOf b m = keyOf a m := by
  have hbase : hasBit a F.KEYS_STAT_BASE_OK n = true := by
    rw [hasBit, ha.keeps _ (by decide) (by decide), h.base]
    interval_cases n <;> rfl
  have hign : hasBit a F.KEYS_STAT_IGNORE n = false := by
    rw [hasBit, ha.keeps _ (by decide) (by decide), h.ign]
    simp [bitOf]
  obtain ⟨b, hscan, hshows, hothers⟩ := scanKey_still hn ha.inj hbase hign (by rw [hasBit, ha.touch]; exact htouch) (by rw [ha.keeps _ (by decide) (by decide)]; exact h.th)
  exact ⟨b, hscan, ha.step hshows hn (by simp) ((hshows.sigKeeps hn _ (by decide) (by simp)).trans ha.touch), hshows, hothers⟩

/-- Key 0's scan, whose delta is zero, leaves keys 1 and 2 as they were. -/
theorem pressScan_key0 {g1 : Nat} {s : State} (h : PressScan g1 s) : ∃ a, scanKey 0 (s.get (F.KEYS_SIG_BASELINE 0)) (scanStart s) = (a, false) ∧ DuringScan 0 s a
    ∧ (keyOf a 1).on = s.keys.k1.on ∧ ∀ n < 3, n ≠ 0 → a.get (F.KEYS_SIG_BASELINE n) = s.get (F.KEYS_SIG_BASELINE n) := by
  obtain ⟨a, hscan, ha, hshows, hothers⟩ := pressScan_still h (pressScan_start h) (n := 0) (by decide) rfl
  rw [scanStart_get] at hscan
  refine ⟨a, hscan, ha, ?_, fun n hn hne => ?_⟩
  · rw [hothers 1 (by decide) (by decide), scanStart_keyOf]
    rfl
  · rw [hshows.keeps _ (by simpa using ⟨(sig_clear_ne (by decide) hn hne _ (.inl rfl)).2, (sig_clear_ne (by decide) hn hne _ (.inr rfl)).2⟩), scanStart_get]

/-- Key 1's scan: its touch begins, or one more scan above TOUCH_TH is counted. -/
theorem pressScan_key1 {g1 : Nat} {s a : State} (h : PressScan g1 s) (ha : DuringScan 0 s a) (hon : (keyOf a 1).on = s.keys.k1.on)
    (hbase : ∀ n < 3, n ≠ 0 → a.get (F.KEYS_SIG_BASELINE n) = s.get (F.KEYS_SIG_BASELINE n)) :
    (s.get F.KEYS_CFG_DEB ≤ s.keys.k1.on + 1 → ∃ b, scanKey 1 g1 a = (b, true) ∧ DuringScan 2 s b ∧ b.get (F.KEYS_SIG_BASELINE 2) = s.get (F.KEYS_SIG_BASELINE 2))
    ∧ (s.keys.k1.on + 1 < s.get F.KEYS_CFG_DEB → ∃ b, scanKey 1 g1 a = (b, false) ∧ DuringScan 0 s b ∧ b.get (F.KEYS_SIG_BASELINE 2) = s.get (F.KEYS_SIG_BASELINE 2)
      ∧ (keyOf b 1).on = s.keys.k1.on + 1) := by
  have hscan := scanKey_above (n := 1) (by decide) ha.inj h.sig (by rw [hasBit, ha.keeps _ (by decide) (by decide), h.base]; rfl)
    (by rw [hasBit, ha.keeps _ (by decide) (by decide), h.ign]; rfl) (by rw [hasBit, ha.touch]; rfl)
    (by rw [hbase 1 (by decide) (by decide), ha.keeps _ (by decide) (by decide)]; exact h.above)
  rw [ha.keeps _ (by decide) (by decide), hon] at hscan
  have hshown := scanShown_shows 1 g1 a
  have hzero : (scanShown 1 g1 a).get F.KEYS_STAT_TOUCH = 0 := (hshown.keeps _ (by decide)).trans ha.touch
  constructor
  · intro hdeb
    rw [if_pos hdeb] at hscan
    have hshows : KeyShows [F.KEYS_SIG_SIGNAL 1, F.KEYS_SIG_BASELINE 1, F.KEYS_STAT_TOUCH] a (setTouch 1 true (scanShown 1 g1 a)) := (hshown.mono (by simp)).trans (setTouch_shows 1 true _ (by simp))
    refine ⟨_, hscan, ha.step hshows (by decide) (by simp) ?_, (hshows.keeps _ (by decide)).trans (hbase 2 (by decide) (by decide))⟩
    rw [setTouch, setKey_get, keyBit, hzero]
    exact State.get_put_same _ F.KEYS_STAT_TOUCH 2 (by decide) (by decide)
  · intro hdeb
    rw [if_neg (by omega)] at hscan
    have hshows : KeyShows [F.KEYS_SIG_SIGNAL 1, F.KEYS_SIG_BASELINE 1] a (setKey 1 { keyOf (scanShown 1 g1 a) 1 with on := s.keys.k1.on + 1 } (scanShown 1 g1 a)) :=
      (hshown.mono (by simp)).setKey 1 _
    exact ⟨_, hscan, ha.step hshows (by decide) (by simp) ((setKey_get ..).trans hzero), (hshows.keeps _ (by decide)).trans (hbase 2 (by decide) (by decide)), by rw [keyOf_setKey_same]⟩

/-- A scan of key 1 above TOUCH_TH, with no delta at the others: a press after DEB scans, and counted before (R696, R701). -/
theorem exec_pressScan {g1 : Nat} {s : State} (hs : Ready s) (h : PressScan g1 s) :
    (s.get F.KEYS_CFG_DEB ≤ s.keys.k1.on + 1 → bitOf (s.get F.PWR_WAKE_CFG_KEY_MASK) 1 = false →
      ∃ t, exec (.keyScan (s.get (F.KEYS_SIG_BASELINE 0)) g1 (s.get (F.KEYS_SIG_BASELINE 2))) s = .next t ∧ t.get F.KEYS_STAT_TOUCH = 2
        ∧ t.get F.KEYS_CNT_PRESSES = satTo 65535 (s.get F.KEYS_CNT_PRESSES + 1) ∧ (t.rd 0x48 0x010).getLsbD E.KEYS_PRESS.2 = true ∧ t.keys.buf = [(1, 0)] ∧ KeysOnly s t)
    ∧ (s.keys.k1.on + 1 < s.get F.KEYS_CFG_DEB → ∃ t, exec (.keyScan (s.get (F.KEYS_SIG_BASELINE 0)) g1 (s.get (F.KEYS_SIG_BASELINE 2))) s = .next t
      ∧ t.get F.KEYS_STAT_TOUCH = 0 ∧ t.keys.k1.on = s.keys.k1.on + 1 ∧ t.keys.buf = [] ∧ KeysOnly s t) := by
  obtain ⟨a, hscan0, ha, hon, hbase⟩ := pressScan_key0 h
  obtain ⟨hpress, hcount⟩ := pressScan_key1 h ha hon hbase
  constructor
  · intro hdeb hmask
    obtain ⟨b, hscan1, hb, hbase2⟩ := hpress hdeb
    obtain ⟨c, hscan2, hc, -, -⟩ := pressScan_still h hb (n := 2) (by decide) rfl
    rw [hbase2] at hscan2
    obtain ⟨honly, hbuf, hcnt, hevt, hkeeps⟩ := pressTaken_shown (s := scanOver (s.get F.KEYS_CFG_SCAN_MS) c) hc.buf
    have hframe := (hc.only.trans (scanOver_keysOnly (s.get F.KEYS_CFG_SCAN_MS) c)).trans honly
    have hsee (f : Fld) (hf : f ∈ keysFields) (hne : f ≠ F.KEYS_STAT_TOUCH) : (scanOver (s.get F.KEYS_CFG_SCAN_MS) c).get f = s.get f := (scanOver_get ..).trans (hc.keeps f hf hne)
    refine ⟨_, act_keys hs (keyScan_press h.load h.due hscan0 hscan1 hscan2 ?_) hframe, ?_, ?_, hevt, hbuf, hframe⟩
    · rw [hkeeps _ (by decide), hsee _ (by decide) (by decide), hmask]
    · rw [hkeeps _ (by decide), scanOver_get, hc.touch]
    · rw [hcnt, hsee _ (by decide) (by decide)]
  · intro hdeb
    obtain ⟨b, hscan1, hb, hbase2, honb⟩ := hcount hdeb
    obtain ⟨c, hscan2, hc, -, hothers⟩ := pressScan_still h hb (n := 2) (by decide) rfl
    rw [hbase2] at hscan2
    have hframe := hc.only.trans (scanOver_keysOnly (s.get F.KEYS_CFG_SCAN_MS) c)
    exact ⟨_, act_keys hs (keyScan_noPress h.load h.due hscan0 hscan1 hscan2) hframe, (scanOver_get ..).trans hc.touch,
      (congrArg KeyOne.on (hothers 1 (by decide) (by decide))).trans honb, hc.buf, hframe⟩

/-- A command of page 0x48, whose writer is noted first, changes register words, the keys' state and the pages' requests. -/
theorem act_keysNoted {f : State → State} {path : Path} {s v : State} (h : Ready s) (hf : f s = v) (hv : KeysOnly (noteOwner path 0x48 s) v) :
    act f s = .next v ∧ v = { s with regs := v.regs, keys := v.keys, page := (noteOwner path 0x48 s).page } := by
  have hframe : v = { s with regs := v.regs, keys := v.keys, page := (noteOwner path 0x48 s).page } := by
    unfold KeysOnly at hv
    rw [(noteOwner_page path 0x48 s).1] at hv
    exact hv
  refine ⟨act_next h hf ?_ ?_ ?_ ?_, hframe⟩ <;> rw [hframe]

/-- UNLOCK (R705). -/
theorem exec_unlock {path : Path} {s : State} (hs : Ready s) (hmay : MayWrite path 0x48 0x078 (opWord 1 0) s) :
    ∃ t, exec (.unlock path) s = .next t ∧ t.flag F.KEYS_STAT_LOCK = false ∧ t.keys.lockLeft = none
      ∧ (s.flag F.KEYS_STAT_LOCK = true → (t.rd 0x48 0x010).getLsbD E.KEYS_LOCK_CHANGE.2 = true)
      ∧ t = { s with regs := t.regs, keys.lockLeft := none, page := (noteOwner path 0x48 s).page } := by
  have heff : overPath path (writeReg path 0x48 0x078 (opWord 1 0)) s = setLock false (noteOwner path 0x48 s) := keysCmd_row rfl hmay
  obtain ⟨hflag, hevt, hframe⟩ := setLock_ends (noteOwner path 0x48 s)
  have hlock : (noteOwner path 0x48 s).flag F.KEYS_STAT_LOCK = s.flag F.KEYS_STAT_LOCK := congrArg (· == 1) (noteOwner_get ..)
  have hkeys : (setLock false (noteOwner path 0x48 s)).keys = { s.keys with lockLeft := none } := by
    rw [hframe, (noteOwner_page path 0x48 s).1]
  have hleft : (setLock false (noteOwner path 0x48 s)).keys.lockLeft = none := by rw [hkeys]
  have honly : KeysOnly (noteOwner path 0x48 s) (setLock false (noteOwner path 0x48 s)) := by
    unfold KeysOnly
    rw [hframe]
  obtain ⟨hact, hall⟩ := act_keysNoted hs heff honly
  rw [hkeys] at hall
  exact ⟨_, hact, hflag, hleft, fun h => hevt (hlock.trans h), hall⟩

/-- REBASE (R700). -/
theorem exec_rebase {path : Path} {s : State} (hs : Ready s) (hmay : MayWrite path 0x48 0x078 (opWord 2 0) s) :
    ∃ t, exec (.rebase path) s = .next t ∧ t.get F.KEYS_STAT_TOUCH = 0 ∧ t.get F.KEYS_STAT_IGNORE = 0
      ∧ (∀ n, n < 3 → t.get (F.KEYS_SIG_BASELINE n) = s.get (F.KEYS_SIG_SIGNAL n)) ∧ t = { s with regs := t.regs, keys := t.keys, page := (noteOwner path 0x48 s).page } := by
  have heff : overPath path (writeReg path 0x48 0x078 (opWord 2 0)) s = rebaseKeys (noteOwner path 0x48 s) := keysCmd_row rfl hmay
  obtain ⟨htouch, hign, hbase⟩ := rebaseKeys_shown (noteOwner path 0x48 s)
  obtain ⟨hact, hall⟩ := act_keysNoted hs heff (rebaseKeys_keysOnly _)
  exact ⟨_, hact, htouch, hign, fun n hn => (hbase n hn).trans (noteOwner_get ..), hall⟩

/-- Settles O57: the first scans by `exec_baseScans`, presses by `exec_pressScan`, and one lemma for each of the other commands. -/
theorem keyScans : Obligations.KeyScans := by
  intro s hs
  refine ⟨fun g0 g1 g2 h => act_still hs (keyScan_notDue h), fun g0 g1 g2 hload hdue hinj hbase h0 h1 h2 => exec_baseScans hs hload hdue hinj hbase h0 h1 h2,
    fun g1 hload hdue hinj hbase htouch hign _ hbuf hth hsig habove => exec_pressScan hs ⟨hload, hdue, hinj, hbase, htouch, hign, hbuf, hth, hsig, habove⟩,
    fun n hn htouch hlong => exec_stuck hs hn htouch hlong, fun n h => act_still hs (stuck_untouched h), fun n ms hn hneg => ⟨exec_rebaseNeg hs hn hneg, fun hms => act_still hs ?_⟩,
    fun n hnone => act_still hs (rebaseNeg_still fun ms h => ?_), fun hleft => ?_, fun hleft => act_still hs (if_neg hleft), fun path hmay => exec_unlock hs hmay,
    fun path hmay => exec_rebase hs hmay⟩
  · refine rebaseNeg_still fun t ht => ?_
    obtain rfl : ms = t := Option.some.inj (hneg.symm.trans ht)
    exact hms
  · rw [hnone] at h
    cases h
  · obtain ⟨hflag, hevt, hframe⟩ := setLock_ends s
    refine ⟨_, act_keys hs (lockTimeout_over hleft) ?_, hflag, ?_, hevt, hframe⟩ <;> rw [hframe]

end Sys2Proof.Machine
end

section
/-! O48: the inference array's commands. The steps of a retirement and of a dispatch change the array's words and state; one rule per step says which fields it keeps. -/

namespace Sys2Proof.Machine

/-! ### What the array's steps change -/

/-- From `s` to `t` only register words and the state of the array, the governor, learning, non-volatile memory, the almanac and the bench change, and the fields listed keep
their values. -/
structure ArrStep (fs : List Fld) (s t : State) : Prop where
  only : ∃ r a g l n k c p, t = { s with regs := r, arr := a, gov := g, learn := l, nvm := n, alm := k, bist.cell := c, bist.pat := p }
  keeps : ∀ f ∈ fs, t.get f = s.get f

theorem ArrStep.refl (fs : List Fld) (s : State) : ArrStep fs s s := ⟨⟨_, _, _, _, _, _, _, _, rfl⟩, fun _ _ => rfl⟩

theorem ArrStep.trans {fs : List Fld} {s t u : State} (h : ArrStep fs s t) (k : ArrStep fs t u) : ArrStep fs s u := by
  refine ⟨?_, fun f hf => (k.keeps f hf).trans (h.keeps f hf)⟩
  obtain ⟨_, _, _, _, _, _, _, _, rfl⟩ := h.only
  obtain ⟨_, _, _, _, _, _, _, _, rfl⟩ := k.only
  exact ⟨_, _, _, _, _, _, _, _, rfl⟩

theorem ArrStep.mono {fs gs : List Fld} {s t : State} (h : ArrStep fs s t) (hsub : gs ⊆ fs) : ArrStep gs s t := ⟨h.only, fun f hf => h.keeps f (hsub hf)⟩

theorem ArrStep.put {fs : List Fld} {s t : State} (h : ArrStep fs s t) (g : Fld) (v : Nat) (hr : g.rws = false) (hg : ∀ f ∈ fs, Clear g f) : ArrStep fs s (t.put g v) := by
  refine h.trans ⟨?_, fun f hf => get_put_clear t v (hg f hf)⟩
  rw [((Shows.refl [g] t).put g v (by simp) hr).frame]
  exact ⟨_, _, _, _, _, _, _, _, rfl⟩

theorem ArrStep.raise {fs : List Fld} {s t : State} (h : ArrStep fs s t) (e : Nat × Nat) (he : ∀ f ∈ fs, Clear (evtFld e) f) : ArrStep fs s (t.raise e) :=
  h.trans ⟨⟨_, _, _, _, _, _, _, _, rfl⟩, fun f hf => ((KeepsBut.refl [evtFld e] t).raise e (by simp)) f (by simpa using he f hf)⟩

/-- A change of the array's own state, or of another part that no word shows. -/
theorem ArrStep.state {fs : List Fld} {s t u : State} (h : ArrStep fs s t) (hu : ∃ a g l n k c p, u = { t with arr := a, gov := g, learn := l, nvm := n, alm := k, bist.cell := c, bist.pat := p }) :
    ArrStep fs s u := by
  obtain ⟨a, g, l, n, k, c, p, rfl⟩ := hu
  exact h.trans ⟨⟨_, a, g, l, n, k, c, p, rfl⟩, fun f _ => ((KeepsBut.refl [] t).words rfl rfl) f (by simp)⟩

theorem ArrStep.parts {fs : List Fld} {s t : State} (h : ArrStep fs s t) : t.plan = s.plan ∧ t.bist.task = s.bist.task ∧ t.dma = s.dma ∧ t.flt = s.flt ∧ t.eff = s.eff := by
  obtain ⟨_, _, _, _, _, _, _, _, rfl⟩ := h.only
  exact ⟨rfl, rfl, rfl, rfl, rfl⟩

/-- A chain of such steps over a list is one. -/
theorem ArrStep.foldl {α : Type} {fs : List Fld} {f : State → α → State} (h : ∀ s x, ArrStep fs s (f s x)) (xs : List α) (s : State) : ArrStep fs s (xs.foldl f s) := by
  induction xs generalizing s with
  | nil => exact .refl fs s
  | cons x xs ih => exact (h s x).trans (ih _)

/-! ### The fields that a retirement shows -/

/-- What CELL_WATCHDOG leaves of a cell, and the count of fault records. -/
def watchFields (c : Nat) : List Fld := [F.ARR_RETIRED_BITS, F.CELL_RET_CAUSE c, F.CELL_CNT_WDOG c, F.FLT_REC_CNT_TOTAL]

/-- The other fields that the array's steps set, of whatever cell. -/
def arrFields : List Fld :=
  [F.ARR_STAT_SERVING, F.ARR_STAT_SPARES, F.ARR_STAT_SHORT, F.ARR_STAT_BENCH, F.ARR_STAT_RUNNING, evtFld E.ARR_SHORT, evtFld E.ARR_CELL_FAIL, F.ARR_CNT_RUNS, F.ARR_CNT_INVALID,
    F.ARR_CNT_REPEATED, F.ARR_ABORT_CAUSE, F.ARR_ABORT_LAYER, F.ARR_ABORT_TILE, F.ARR_ABORT_CELL, F.GOV_STAT_LIVE, F.PRUNE_LCNT_CAPTURES, F.PRUNE_LPROG_HELD, F.PRUNE_LSTAT_STATE,
    evtFld E.PRUNE_STATE_CHANGE, F.NVM_QUEUE_CHUNKS, F.NVM_QUEUE_KIND]

theorem arrFields_clear {c : Nat} (hc : c < 17) : ∀ g ∈ arrFields, ∀ f ∈ watchFields c, Clear g f := by
  revert c
  decide

/-- The words of any cell that the steps write hold none of these fields. -/
theorem cellFields_clear {c n : Nat} : ∀ g ∈ [F.CELL_STAT_ROLE n, F.CELL_STAT_BUSY n, F.CELL_WORK_LAYER n, F.CELL_WORK_PART n, evtFld (E.CELL_ROLE_CHANGE n)],
    ∀ f ∈ watchFields c, Clear g f := by
  have hoff (p q a b : Nat) (h : a % 0x400 ≠ b % 0x400) : regKey p a ≠ regKey q b := by
    unfold regKey
    omega
  simp only [watchFields, List.forall_mem_cons]
  refine ⟨?_, ?_, ?_, ?_, ?_, by simp⟩ <;>
    exact ⟨.inl (hoff _ _ _ _ (by simp)), .inl (hoff _ _ _ _ (by simp)), .inl (hoff _ _ _ _ (by simp)), .inl (hoff _ _ _ _ (by simp)), by simp⟩

/-! ### One rule per step -/

section
variable {c : Nat} (hc : c < 17)
include hc

theorem showArr_step (s : State) : ArrStep (watchFields c) s (showArr s) := by
  unfold showArr
  extract_lets n s1 short s2
  have h1 : ArrStep (watchFields c) s s1 := ((ArrStep.refl _ s).put _ _ rfl (arrFields_clear hc _ (by decide))).put _ _ rfl (arrFields_clear hc _ (by decide))
  have h2 : ArrStep (watchFields c) s s2 := by
    unfold s2
    split
    · exact h1.raise _ (arrFields_clear hc _ (by decide))
    · exact h1
  exact h2.put _ _ rfl (arrFields_clear hc _ (by decide))

omit hc in
theorem showRole_step (s : State) (n : Nat) : ArrStep (watchFields c) s (showRole s n) := by
  unfold showRole
  split
  · exact .refl _ s
  · split
    · exact .refl _ s
    · exact ((ArrStep.refl _ s).put _ _ rfl (cellFields_clear (n := n) _ (by simp))).raise _ (cellFields_clear (n := n) _ (by simp))

theorem showRoles_step (s : State) : ArrStep (watchFields c) s (showRoles s) := (ArrStep.foldl showRole_step cells s).trans (showArr_step hc _)

omit hc in
theorem takeWork_step (n : Nat) (s : State) : ArrStep (watchFields c) s (takeWork n s) :=
  ((ArrStep.refl _ s).state ⟨_, _, _, _, _, _, _, rfl⟩).put _ _ rfl (cellFields_clear (n := n) _ (by simp))

omit hc in
theorem giveWork_step (n p : Nat) (s : State) : ArrStep (watchFields c) s (giveWork n p s) := by
  unfold giveWork
  extract_lets layer g a s1
  have h1 : ArrStep (watchFields c) s s1 := (ArrStep.refl _ s).state ⟨_, _, _, _, _, _, _, rfl⟩
  exact ((h1.put _ _ rfl (cellFields_clear (n := n) _ (by simp))).put _ _ rfl (cellFields_clear (n := n) _ (by simp))).put _ _ rfl (cellFields_clear (n := n) _ (by simp))

omit hc in
theorem dispatch_step (k : Nat) (s : State) : ArrStep (watchFields c) s (dispatch k s) := by
  induction k generalizing s with
  | zero => exact .refl _ s
  | succ k ih =>
    unfold dispatch
    split
    · split
      · exact (((ArrStep.refl _ s).state ⟨_, _, _, _, _, _, _, rfl⟩).trans (giveWork_step _ _ _)).trans (ih _)
      · exact .refl _ s
    · exact .refl _ s

theorem showLive_step (s : State) : ArrStep (watchFields c) s (showLive s) := (ArrStep.refl _ s).put _ _ rfl (arrFields_clear hc _ (by decide))

theorem unparkCell_step (n : Nat) (s : State) : ArrStep (watchFields c) s (unparkCell n s) := by
  unfold unparkCell
  split
  · exact .refl _ s
  · exact (((ArrStep.refl _ s).state ⟨_, _, _, _, _, _, _, rfl⟩).trans (showLive_step hc _)).trans (showRole_step _ n)

theorem leaveBench_step (s : State) : ArrStep (watchFields c) s (leaveBench s) :=
  ((ArrStep.refl _ s).put F.ARR_STAT_BENCH 31 rfl (arrFields_clear hc _ (by decide))).state ⟨_, _, _, _, _, _, _, rfl⟩

theorem queueSystem_step (s : State) : ArrStep (watchFields c) s (queueSystem s) := by
  obtain ⟨r, n, heff, -, hkeeps⟩ := queueSystem_shows s
  rw [heff]
  refine ⟨⟨_, _, _, _, _, _, _, _, rfl⟩, fun f hf => hkeeps f fun g hg => arrFields_clear hc g ?_ f hf⟩
  revert g
  decide

theorem setLearn_step (k : Nat) (s : State) : ArrStep (watchFields c) s (setLearn k s) := by
  unfold setLearn
  split
  · exact .refl _ s
  · exact ((ArrStep.refl _ s).put _ _ rfl (arrFields_clear hc _ (by decide))).raise _ (arrFields_clear hc _ (by decide))

theorem holdSample_step (ok : Bool) (s : State) : ArrStep (watchFields c) s (holdSample ok s) := by
  unfold holdSample
  split
  next x _ =>
    extract_lets a s1 b s2 s3
    have h1 : ArrStep (watchFields c) s s1 := (ArrStep.refl _ s).state ⟨_, _, _, _, _, _, _, rfl⟩
    have h2 : ArrStep (watchFields c) s s2 := h1.state ⟨_, _, _, _, _, _, _, rfl⟩
    have h3 : ArrStep (watchFields c) s s3 := (h2.put _ _ rfl (arrFields_clear hc _ (by decide))).put _ _ rfl (arrFields_clear hc _ (by decide))
    split
    · exact h1
    · split
      · exact h3.trans (setLearn_step hc 2 s3)
      · exact h3
  next => exact .refl _ s

omit hc in
theorem dropPartitions_step (s : State) : ArrStep (watchFields c) s (dropPartitions s) :=
  (ArrStep.foldl (fun s x => (ArrStep.refl _ s).put _ _ rfl (cellFields_clear (n := x.1) _ (by simp))) s.arr.work s).state ⟨_, _, _, _, _, _, _, rfl⟩

theorem finishRun_step (v : Verdict) (s : State) : ArrStep (watchFields c) s (finishRun v s) := by
  unfold finishRun
  extract_lets s1 s2
  have h1 : ArrStep (watchFields c) s s1 := (dropPartitions_step s).put _ _ rfl (arrFields_clear hc _ (by decide))
  have h2 : ArrStep (watchFields c) s s2 := by
    unfold s2
    split
    · exact h1.put _ _ rfl (arrFields_clear hc _ (by decide))
    · exact h1.put _ _ rfl (arrFields_clear hc _ (by decide))
  exact (h2.state ⟨_, _, _, _, _, _, _, rfl⟩).trans (holdSample_step hc _ _)

theorem abortRun_step (cause tile cell : Nat) (s : State) : ArrStep (watchFields c) s (abortRun cause tile cell s) := by
  unfold abortRun
  split
  next r _ =>
    extract_lets s1 v
    have h1 : ArrStep (watchFields c) s s1 :=
      (((ArrStep.refl _ s).put _ _ rfl (arrFields_clear hc _ (by decide))).put _ _ rfl (arrFields_clear hc _ (by decide))).put _ _ rfl (arrFields_clear hc _ (by decide))
    exact (h1.put _ _ rfl (arrFields_clear hc _ (by decide))).trans (finishRun_step hc v _)
  next => exact .refl _ s

theorem afterFailure_step (s : State) : ArrStep (watchFields c) s (afterFailure s) := by
  unfold afterFailure
  split
  · split
    · exact abortRun_step hc 3 0 0 s
    · exact .refl _ s
  · exact dispatch_step 17 s

end

/-! ### A cell is retired (R473 to R476) -/

/-- Cell `c` serves no longer and is not on the bench. -/
def retireBegun (c : Nat) (s : State) : State :=
  let s := if s.gov.live.contains c then showLive { s with gov.live := s.gov.live.filter (· ≠ c), gov.pred := s.gov.pred - cellCost s (level s) } else s
  if isBench s c then leaveBench s else s

/-- Cell `c` is marked as retired, with its cause and the tick. -/
def retireMarked (c cause : Nat) (s : State) : State :=
  ((s.put F.ARR_RETIRED_BITS (setBitTo (s.get F.ARR_RETIRED_BITS) c true)).put (F.CELL_RET_CAUSE c) cause).put (F.CELL_RETTICK_TICK c) s.tick.num

/-- The retirement is counted and shown, and its record waits to be written; its fault is still to come. -/
def retireEnded (s : State) : State :=
  let s := almCount 11 (s.raise E.ARR_CELL_FAIL)
  let s := if s.get F.ARR_STAT_BENCH = 31 then s else leaveBench s
  queueSystem (showRoles s)

theorem retireCell_eq {c : Nat} {s : State} (h : retired s c = false) (cause : Nat) (inj : Bool) :
    retireCell c cause inj s = faultEvent 0x51 c (retireEnded (retireMarked c cause (retireBegun c s))) false inj := by
  unfold retireCell
  rw [if_neg (by simp [h])]
  rfl

theorem retireBegun_step {c : Nat} (hc : c < 17) (s : State) : ArrStep (watchFields c) s (retireBegun c s) := by
  unfold retireBegun
  extract_lets g s1
  have h1 : ArrStep (watchFields c) s s1 := by
    unfold s1
    split
    · exact ((ArrStep.refl _ s).state ⟨_, _, _, _, _, _, _, rfl⟩).trans (showLive_step hc _)
    · exact .refl _ s
  split
  · exact h1.trans (leaveBench_step hc s1)
  · exact h1

theorem retireEnded_step {c : Nat} (hc : c < 17) (s : State) : ArrStep (watchFields c) s (retireEnded s) := by
  unfold retireEnded
  extract_lets s1 s2
  have h1 : ArrStep (watchFields c) s s1 := ((ArrStep.refl _ s).raise _ (arrFields_clear hc _ (by decide))).state ⟨_, _, _, _, _, _, _, rfl⟩
  have h2 : ArrStep (watchFields c) s s2 := by
    unfold s2
    split
    · exact h1
    · exact h1.trans (leaveBench_step hc s1)
  exact (h2.trans (showRoles_step hc s2)).trans (queueSystem_step hc _)

theorem retireMarks_clear {c : Nat} (hc : c < 17) : Clear (F.CELL_RET_CAUSE c) F.ARR_RETIRED_BITS ∧ Clear (F.CELL_RETTICK_TICK c) F.ARR_RETIRED_BITS
    ∧ Clear (F.CELL_RETTICK_TICK c) (F.CELL_RET_CAUSE c)
    ∧ ∀ g ∈ [F.ARR_RETIRED_BITS, F.CELL_RET_CAUSE c, F.CELL_RETTICK_TICK c], ∀ f ∈ [F.CELL_CNT_WDOG c, F.FLT_REC_CNT_TOTAL], Clear g f := by
  revert c
  decide

/-- What a mark shows, and what it leaves: the cell's counters and the count of fault records. -/
theorem retireMarked_shown {c cause : Nat} (hc : c < 17) (hcause : cause < 16) (s : State) : ArrStep [F.CELL_CNT_WDOG c, F.FLT_REC_CNT_TOTAL] s (retireMarked c cause s)
    ∧ retired (retireMarked c cause s) c = true ∧ (retireMarked c cause s).get (F.CELL_RET_CAUSE c) = cause := by
  obtain ⟨hbits, htickbits, htick, hothers⟩ := retireMarks_clear hc
  refine ⟨(((ArrStep.refl _ s).put _ _ rfl (hothers _ (by simp))).put _ _ rfl (hothers _ (by simp))).put _ _ rfl (hothers _ (by simp)), ?_, ?_⟩
  · rw [retired, retireMarked, get_put_clear _ _ htickbits, get_put_clear _ _ hbits, State.get_put_same _ _ _ (by decide) (by decide)]
    exact (bitOf_mod_two_pow (w := 17) _ hc).trans (bitOf_setBitTo_same _ _)
  · rw [retireMarked, get_put_clear _ _ htick, State.get_put_same _ _ _ (by simp) (by simp)]
    exact Nat.mod_eq_of_lt hcause

/-! ### CELL_WATCHDOG (R473) -/

/-- The failed cell's partition is taken from it; the run counts the failure. -/
def cellFreed (c : Nat) (s : State) : State :=
  let s := takeWork c s
  let run := s.arr.run.map fun r => { r with repeated := true }
  { s with arr.run := run }.bump F.ARR_CNT_REPEATED

/-- The partition goes to the bench cell, or to the head of the dispatch order (R475). -/
def partitionPassed (bench p : Nat) (s : State) : State :=
  if bench = 31 then { s with arr.queue := p :: s.arr.queue }
  else
    let s := unparkCell bench s
    let run := s.arr.run.map fun r => { r with list := r.list ++ [bench] }
    showRoles (giveWork bench p { s with arr.run := run })

theorem failCell_eq {c p : Nat} {s : State} (h : retired s c = false) (hwork : aget s.arr.work c = some p) (cause : Nat) (inj : Bool) :
    failCell c cause inj s = partitionPassed (s.get F.ARR_STAT_BENCH) p (retireCell c cause inj (cellFreed c s)) := by
  unfold failCell
  rw [if_neg (by simp [h])]
  simp only [hwork]
  rfl

theorem cellFreed_step {c : Nat} (hc : c < 17) (s : State) : ArrStep (watchFields c) s (cellFreed c s) :=
  ((takeWork_step c s).state ⟨_, _, _, _, _, _, _, rfl⟩).put F.ARR_CNT_REPEATED _ rfl (arrFields_clear hc _ (by decide))

theorem partitionPassed_step {c : Nat} (hc : c < 17) (bench p : Nat) (s : State) : ArrStep (watchFields c) s (partitionPassed bench p s) := by
  unfold partitionPassed
  split
  · exact (ArrStep.refl _ s).state ⟨_, _, _, _, _, _, _, rfl⟩
  · exact (((unparkCell_step hc bench s).state ⟨_, _, _, _, _, _, _, rfl⟩).trans (giveWork_step bench p _)).trans (showRoles_step hc _)

/-- The clock of the array stands at `ns`, and the cell's watchdog trip is counted. -/
def tripCounted (c ns : Nat) (s : State) : State := { s with arr.now := ns }.bump (F.CELL_CNT_WDOG c)

theorem wdog_clear {c : Nat} (hc : c < 17) : Clear (F.CELL_CNT_WDOG c) F.FLT_REC_CNT_TOTAL ∧ Clear (F.CELL_CNT_WDOG c) F.ARR_RETIRED_BITS := by
  revert c
  decide

/-- A watchdog that trips retires its cell with cause 3: what is shown before the fault of R474. -/
theorem tripped_shown {c : Nat} (hc : c < 17) (ns : Nat) (s : State) :
    ArrStep [F.FLT_REC_CNT_TOTAL] s (retireEnded (retireMarked c 3 (retireBegun c (cellFreed c (tripCounted c ns s)))))
      ∧ retired (retireEnded (retireMarked c 3 (retireBegun c (cellFreed c (tripCounted c ns s))))) c = true
      ∧ (retireEnded (retireMarked c 3 (retireBegun c (cellFreed c (tripCounted c ns s))))).get (F.CELL_RET_CAUSE c) = 3
      ∧ (retireEnded (retireMarked c 3 (retireBegun c (cellFreed c (tripCounted c ns s))))).get (F.CELL_CNT_WDOG c) = satTo 255 (s.get (F.CELL_CNT_WDOG c) + 1) := by
  have hcount : ArrStep [F.FLT_REC_CNT_TOTAL] s (tripCounted c ns s) :=
    ((ArrStep.refl _ s).state (u := { s with arr.now := ns }) ⟨_, _, _, _, _, _, _, rfl⟩).put (F.CELL_CNT_WDOG c) _ rfl (by simpa using (wdog_clear hc).1)
  have hwdog : (tripCounted c ns s).get (F.CELL_CNT_WDOG c) = satTo 255 (s.get (F.CELL_CNT_WDOG c) + 1) := by
    rw [tripCounted, State.get_bump_same _ _ (by simp) (by simp), satTo_eq_min]
    rfl
  generalize tripCounted c ns s = s1 at *
  have hbegun : ArrStep (watchFields c) s1 (retireBegun c (cellFreed c s1)) := (cellFreed_step hc s1).trans (retireBegun_step hc _)
  generalize retireBegun c (cellFreed c s1) = s2 at *
  obtain ⟨hmark, hret, hcause⟩ := retireMarked_shown (cause := 3) hc (by decide) s2
  generalize retireMarked c 3 s2 = s3 at *
  have hend := retireEnded_step hc s3
  refine ⟨((hcount.trans (hbegun.mono (by simp [watchFields]))).trans (hmark.mono (by simp))).trans (hend.mono (by simp [watchFields])), ?_, ?_, ?_⟩
  · rw [retired, hend.keeps _ (by simp [watchFields])]
    exact hret
  · rw [hend.keeps _ (by simp [watchFields]), hcause]
  · rw [hend.keeps _ (by simp [watchFields]), hmark.keeps _ (by simp), hbegun.keeps _ (by simp [watchFields]), hwdog]

/-- What CELL_WATCHDOG leaves once the limit of the cell's partition has passed. -/
theorem exec_cellWatchdog {c ns p : Nat} {s : State} (hs : Ready s) (hc : c < 17) (hover : overdue c ns s = true) (hwork : aget s.arr.work c = some p) (hret : retired s c = false)
    (hrec : RecordsOnly 0x51 s) :
    ∃ t, exec (.cellWatchdog ⟨c, ns⟩) s = .next t ∧ retired t c = true ∧ t.get (F.CELL_RET_CAUSE c) = 3 ∧ t.get (F.CELL_CNT_WDOG c) = satTo 255 (s.get (F.CELL_CNT_WDOG c) + 1)
      ∧ t.get F.FLT_REC_CNT_TOTAL = satTo 65535 (s.get F.FLT_REC_CNT_TOTAL + 1) := by
  have hbits (u : State) (hu : u.get F.ARR_RETIRED_BITS = s.get F.ARR_RETIRED_BITS) : retired u c = false := by
    rw [retired, hu]
    exact hret
  have hcounted : (tripCounted c ns s).get F.ARR_RETIRED_BITS = s.get F.ARR_RETIRED_BITS := by
    rw [tripCounted, get_bump_clear _ (wdog_clear hc).2]
    exact (KeepsBut.refl [] s).words rfl rfl _ (by simp)
  have hfreed : (cellFreed c (tripCounted c ns s)).get F.ARR_RETIRED_BITS = s.get F.ARR_RETIRED_BITS := ((cellFreed_step hc _).keeps _ (by simp [watchFields])).trans hcounted
  have hworks : aget (tripCounted c ns s).arr.work c = some p := by simpa [tripCounted] using hwork
  have heff : cellWatchdog c ns s = afterFailure (partitionPassed ((tripCounted c ns s).get F.ARR_STAT_BENCH) p
      (faultEvent 0x51 c (retireEnded (retireMarked c 3 (retireBegun c (cellFreed c (tripCounted c ns s))))) false false)) := by
    rw [← retireCell_eq (hbits _ hfreed), ← failCell_eq (hbits _ hcounted) hworks, cellWatchdog, if_pos hover]
    rfl
  obtain ⟨hstep, hretired, hcause, hwdog⟩ := tripped_shown hc ns s
  generalize (tripCounted c ns s).get F.ARR_STAT_BENCH = bench at heff
  generalize retireEnded (retireMarked c 3 (retireBegun c (cellFreed c (tripCounted c ns s)))) = u at *
  obtain ⟨hplan, htask, hdma, hflt, hueff⟩ := hstep.parts
  obtain ⟨hnoted, htotal⟩ := faultEvent_records c false false (recordsOnly_of_eff (s := s) (t := u) hueff hrec)
  have habove := faultEvent_keepsAboveHub c (s := u) false false (by decide) (recordsOnly_of_eff (s := s) (t := u) hueff hrec)
  generalize faultEvent 0x51 c u false false = v at *
  have hafter : ArrStep (watchFields c) v (afterFailure (partitionPassed bench p v)) := (partitionPassed_step hc bench p v).trans (afterFailure_step hc _)
  generalize afterFailure (partitionPassed bench p v) = t at *
  obtain ⟨hplan', htask', hdma', hflt', -⟩ := hafter.parts
  obtain ⟨_, _, _, _, hv⟩ := hnoted.only
  have hkept (f : Fld) (hrws : f.rws = false) (hp : 9 ≤ f.page) : v.get f = u.get f := by
    rw [State.get, State.get, hrws]
    exact congrArg (getBits · f.hi f.lo) (habove _ _ hp)
  refine ⟨t, act_ends hs heff ?_ ?_ ?_ ?_ ?_, ?_, ?_, ?_, ?_⟩
  · rw [hplan', hv, ← hplan]
  · rw [htask', hv, ← htask]
  · rw [hdma', hv, ← hdma]
  · rw [hflt', hnoted.entered, hflt]
  · rw [hflt', hnoted.chipReset, hflt]
  · rw [retired, hafter.keeps _ (by simp [watchFields]), hkept _ rfl (by decide)]
    exact hretired
  · rw [hafter.keeps _ (by simp [watchFields]), hkept _ rfl (Nat.le_add_right_of_le (by decide)), hcause]
  · rw [hafter.keeps _ (by simp [watchFields]), hkept _ rfl (Nat.le_add_right_of_le (by decide)), hwdog]
  · rw [hafter.keeps _ (by simp [watchFields]), htotal, hstep.keeps _ (by simp)]

theorem cellWatchdog_still {c ns : Nat} {s : State} (h : overdue c ns s = false) : cellWatchdog c ns s = s := by
  unfold cellWatchdog
  rw [if_neg (by simp [h])]

/-! ### ARR_GO (R459) -/

theorem arrGo_row {path : Path} {s : State} (h : MayWrite path 0x30 0x054 1 s) : overPath path (writeReg path 0x30 0x054 1) s = arrGo (noteOwner path 0x30 s) :=
  overPath_writeReg (e := ⟨0x054, 0x400, 1, 4, 1, 0, 0, 0, 0, 0, 0, 1⟩) (i := 0) (by decide) (by decide) (by decide) rfl rfl (by decide) h fun hrws => absurd rfl hrws

/-- ARR_GO ends with its operation on the state in which the writer is noted. -/
theorem exec_arrGo {path : Path} {s t : State} (hs : Ready s) (h : MayWrite path 0x30 0x054 1 s) (ht : arrGo (noteOwner path 0x30 s) = t) (hreg : RegsOnly (noteOwner path 0x30 s) t) :
    exec (.arrGo path) s = .next t := by
  obtain ⟨_, _, rfl⟩ := hreg
  obtain ⟨g, hg⟩ := noteOwner_pageOnly path 0x30 s
  refine act_next hs ((arrGo_row h).trans ht) ?_ ?_ ?_ ?_ <;> rw [hg]

/-! ### REQUALIFY (R478) -/

/-- Showing the cells' roles changes words at normal addresses; no event of the array goes, and no field elsewhere than in the words of roles, events and ARR_STAT changes. -/
structure RoleStep (s t : State) : Prop where
  only : t = { s with regs := t.regs }
  keeps : ∀ f : Fld, f.off % 0x400 ∉ [0x010, 0x040, 0x058] → t.get f = s.get f
  events : EventsStay 0x30 s t

theorem RoleStep.refl (s : State) : RoleStep s s := ⟨rfl, fun _ _ => rfl, fun _ h => h⟩

theorem RoleStep.trans {s t u : State} (h : RoleStep s t) (k : RoleStep t u) : RoleStep s u := by
  refine ⟨?_, fun f hf => (k.keeps f hf).trans (h.keeps f hf), h.events.trans k.events⟩
  rw [k.only, h.only]

theorem RoleStep.put {s t : State} (h : RoleStep s t) (g : Fld) (v : Nat) (hr : g.rws = false) (hg : g.off = 0x040 ∨ g.off = 0x058) : RoleStep s (t.put g v) := by
  have hshows : Shows [g] t (t.put g v) := (Shows.refl [g] t).put g v (by simp) hr
  refine h.trans ⟨hshows.frame, fun f hf => hshows.keeps f fun x hx => ?_, hshows.keeps.eventsStay 0x30 fun x hx => ?_⟩ <;> obtain rfl : x = g := by simpa using hx
  · refine .inl ?_
    simp only [List.mem_cons, List.not_mem_nil, or_false, not_or] at hf
    unfold regKey
    omega
  · refine .inl ?_
    unfold regKey
    dsimp only
    omega

theorem RoleStep.raise {s t : State} (h : RoleStep s t) (e : Nat × Nat) : RoleStep s (t.raise e) := by
  refine h.trans ⟨rfl, fun f hf => t.get_raise ?_, raise_keepsEvents t⟩
  simp only [List.mem_cons, List.not_mem_nil, or_false, not_or] at hf
  unfold regKey
  omega

theorem showRole_role (s : State) (n : Nat) : RoleStep s (showRole s n) := by
  unfold showRole
  split
  · exact .refl s
  · split
    · exact .refl s
    · exact ((RoleStep.refl s).put _ _ rfl (.inl rfl)).raise _

theorem showRoles_role (s : State) : RoleStep s (showRoles s) := by
  have hcells (cs : List Nat) (u : State) : RoleStep u (cs.foldl showRole u) := by
    induction cs generalizing u with
    | nil => exact .refl u
    | cons n cs ih => exact (showRole_role u n).trans (ih _)
  have harr (u : State) : RoleStep u (showArr u) := by
    unfold showArr
    extract_lets n u1 short u2
    have h1 : RoleStep u u1 := ((RoleStep.refl u).put _ _ rfl (.inr rfl)).put _ _ rfl (.inr rfl)
    have h2 : RoleStep u u2 := by
      unfold u2
      split
      · exact h1.raise _
      · exact h1
    exact h2.put _ _ rfl (.inr rfl)
  exact (hcells cells s).trans (harr _)

/-- What ARR_CMDSTAT shows of the last command. -/
theorem cmdStat_shown {op result c : Nat} (hop : op < 256) (hresult : result < 4) (hc : c < 32) (s : State) : (cmdStat op result c s).get F.ARR_CMDSTAT_OP = op
    ∧ (cmdStat op result c s).get F.ARR_CMDSTAT_RESULT = result ∧ (cmdStat op result c s).get F.ARR_CMDSTAT_CELL = c
    ∧ Shows [F.ARR_CMDSTAT_OP, F.ARR_CMDSTAT_RESULT, F.ARR_CMDSTAT_CELL] s (cmdStat op result c s) := by
  refine ⟨?_, ?_, ?_, (((Shows.refl _ s).put _ _ (by simp) rfl).put _ _ (by simp) rfl).put _ _ (by simp) rfl⟩
  · rw [cmdStat, get_put_clear _ _ (by decide), get_put_clear _ _ (by decide), State.get_put_same _ _ _ (by decide) (by decide)]
    exact Nat.mod_eq_of_lt hop
  · rw [cmdStat, get_put_clear _ _ (by decide), State.get_put_same _ _ _ (by decide) (by decide)]
    exact Nat.mod_eq_of_lt hresult
  · rw [cmdStat, State.get_put_same _ _ _ (by decide) (by decide)]
    exact Nat.mod_eq_of_lt hc

theorem cellCmd_row {path : Path} {c : Nat} {s : State} (hc : c < 17) (h : MayWrite path 0x30 0x074 (opWord 1 c) s) :
    overPath path (writeReg path 0x30 0x074 (opWord 1 (c % 32))) s = cellCmd (opWord 1 c) (noteOwner path 0x30 s) := by
  rw [Nat.mod_eq_of_lt (by omega : c < 32)]
  exact overPath_writeReg (e := ⟨0x074, 0x400, 1, 4, 1, 0, 0, 0, 0, 0, 0, 0xFF00001F⟩) (i := 0) (by decide) (by decide) (by decide) rfl rfl (by decide) h fun hrws => absurd rfl hrws

theorem opWord_cell {c : Nat} (hc : c < 17) : getBits (opWord 1 c) 4 0 = c ∧ getBits (opWord 1 c) 31 24 = 1 := by
  refine ⟨?_, opWord_op (by decide) (by omega)⟩
  simp only [getBits, opWord_toNat (by decide : 1 < 256) (by omega : c < 2 ^ 24)]
  omega

/-- The test of cell `c` is requested; its role is still to be shown. -/
def requalTaken (c : Nat) (s : State) : State := (cmdStat 1 1 c { s with bist.req := some (c, 0), bist.reqEnd := none }).putB F.BIST_STAT_REQ_RUN true

theorem requalTaken_shown {c : Nat} (hc : c < 17) (s : State) : (requalTaken c s).get F.ARR_CMDSTAT_OP = 1 ∧ (requalTaken c s).get F.ARR_CMDSTAT_RESULT = 1
    ∧ (requalTaken c s).get F.ARR_CMDSTAT_CELL = c ∧ (requalTaken c s).flag F.BIST_STAT_REQ_RUN = true
    ∧ requalTaken c s = { s with regs := (requalTaken c s).regs, bist.req := some (c, 0), bist.reqEnd := none } := by
  obtain ⟨hop, hresult, hcell, hshows⟩ := cmdStat_shown (op := 1) (result := 1) (c := c) (by decide) (by decide) (by omega) { s with bist.req := some (c, 0), bist.reqEnd := none }
  unfold requalTaken
  generalize cmdStat 1 1 c { s with bist.req := some (c, 0), bist.reqEnd := none } = u at *
  have hrun : Shows [F.BIST_STAT_REQ_RUN] u (u.putB F.BIST_STAT_REQ_RUN true) := (Shows.refl _ u).putB _ true (by simp) rfl
  refine ⟨(hrun.keeps _ (by decide)).trans hop, (hrun.keeps _ (by decide)).trans hresult, (hrun.keeps _ (by decide)).trans hcell, flag_putB_same u true rfl (by decide), ?_⟩
  have hframe := hrun.frame
  generalize u.putB F.BIST_STAT_REQ_RUN true = v at *
  rw [hframe, hshows.frame]

theorem cellCmd_taken {c : Nat} {s : State} (hc : c < 17) (hret : retired s c = true) (hreq : s.bist.req = none) (hrom : s.flag F.BIST_STAT_ROM_BAD = false) :
    cellCmd (opWord 1 c) s = showRoles (requalTaken c s) := by
  obtain ⟨hcell, hop⟩ := opWord_cell hc
  unfold cellCmd
  simp [hcell, hop, hret, hreq, hrom, requalTaken, show ¬ 17 ≤ c by omega]

theorem cellCmd_refused {c : Nat} {s : State} (hc : c < 17) (hret : retired s c = false) : cellCmd (opWord 1 c) s = cmdStat 1 3 c s := by
  obtain ⟨hcell, hop⟩ := opWord_cell hc
  unfold cellCmd
  simp [hcell, hop, hret]

theorem retired_noteOwner (path : Path) (s : State) (c : Nat) : retired (noteOwner path 0x30 s) c = retired s c := congrArg (bitOf · c) (noteOwner_get ..)

/-- REQUALIFY of a retired cell. -/
theorem exec_requalify {path : Path} {c : Nat} {s : State} (hs : Ready s) (hc : c < 17) (hmay : MayWrite path 0x30 0x074 (opWord 1 c) s) (hret : retired s c = true)
    (hreq : s.bist.req = none) (hrom : s.flag F.BIST_STAT_ROM_BAD = false) :
    ∃ t, exec (.requalify path c) s = .next t ∧ t.bist = { s.bist with req := some (c, 0), reqEnd := none } ∧ t.flag F.BIST_STAT_REQ_RUN = true
      ∧ t.get F.ARR_CMDSTAT_OP = 1 ∧ t.get F.ARR_CMDSTAT_RESULT = 1 ∧ t.get F.ARR_CMDSTAT_CELL = c
      ∧ t = { s with regs := t.regs, bist := t.bist, page := (noteOwner path 0x30 s).page } := by
  have hpage := (noteOwner_page path 0x30 s).1
  have hromu : (noteOwner path 0x30 s).flag F.BIST_STAT_ROM_BAD = false := (congrArg (· == 1) (noteOwner_get ..)).trans hrom
  have heff := (cellCmd_row hc hmay).trans (cellCmd_taken hc ((retired_noteOwner path s c).trans hret) (by rw [hpage]; exact hreq) hromu)
  obtain ⟨hop, hresult, hcell, hrun, htaken⟩ := requalTaken_shown hc (noteOwner path 0x30 s)
  generalize requalTaken c (noteOwner path 0x30 s) = u at *
  have hrole := showRoles_role u
  have hflag : (showRoles u).flag F.BIST_STAT_REQ_RUN = true := (congrArg (· == 1) (hrole.keeps F.BIST_STAT_REQ_RUN (by decide))).trans hrun
  have hall : showRoles u = { s with regs := (showRoles u).regs, bist.req := some (c, 0), bist.reqEnd := none, page := (noteOwner path 0x30 s).page } := by
    have hframe := hrole.only
    generalize showRoles u = t at *
    rw [hframe, htaken, hpage]
  refine ⟨_, act_ends hs heff ?_ ?_ ?_ ?_ ?_, ?_, hflag, (hrole.keeps _ (by decide)).trans hop, (hrole.keeps _ (by decide)).trans hresult, (hrole.keeps _ (by decide)).trans hcell, ?_⟩ <;>
    rw [hall]

/-- REQUALIFY of a cell that is not retired is refused. -/
theorem exec_requalify_refused {path : Path} {c : Nat} {s : State} (hs : Ready s) (hc : c < 17) (hmay : MayWrite path 0x30 0x074 (opWord 1 c) s) (hret : retired s c = false) :
    ∃ t, exec (.requalify path c) s = .next t ∧ t.get F.ARR_CMDSTAT_RESULT = 3 ∧ t = { s with regs := t.regs, page := (noteOwner path 0x30 s).page } := by
  have heff := (cellCmd_row hc hmay).trans (cellCmd_refused hc ((retired_noteOwner path s c).trans hret))
  obtain ⟨-, hresult, -, hshows⟩ := cmdStat_shown (op := 1) (result := 3) (c := c) (by decide) (by decide) (by omega) (noteOwner path 0x30 s)
  have hall : cmdStat 1 3 c (noteOwner path 0x30 s) = { s with regs := (cmdStat 1 3 c (noteOwner path 0x30 s)).regs, page := (noteOwner path 0x30 s).page } := by
    have hframe := hshows.frame
    have hpage := (noteOwner_page path 0x30 s).1
    generalize cmdStat 1 3 c (noteOwner path 0x30 s) = t at *
    rw [hframe, hpage]
  refine ⟨_, act_ends hs heff ?_ ?_ ?_ ?_ ?_, hresult, hall⟩ <;> rw [hall]

/-! ### REQUAL_DONE (R478) -/

/-- The test of cell `c` is over and its result shown. -/
def requalShown (result c : Nat) (s : State) : State :=
  (cmdStat 1 result c ({ s with bist.req := none, bist.reqEnd := none }.putB F.BIST_STAT_REQ_RUN false)).raise E.ARR_REQUAL_DONE

theorem requalShown_shows {result c : Nat} (hresult : result < 4) (hc : c < 17) (s : State) :
    (requalShown result c s).get F.ARR_CMDSTAT_RESULT = result ∧ ((requalShown result c s).rd 0x30 0x010).getLsbD E.ARR_REQUAL_DONE.2 = true
    ∧ requalShown result c s = { s with regs := (requalShown result c s).regs, bist.req := none, bist.reqEnd := none }
    ∧ (requalShown result c s).get F.ARR_RETIRED_BITS = s.get F.ARR_RETIRED_BITS ∧ (requalShown result c s).get F.ARR_STAT_BENCH = s.get F.ARR_STAT_BENCH := by
  have hrun : Shows [F.BIST_STAT_REQ_RUN] { s with bist.req := none, bist.reqEnd := none } ({ s with bist.req := none, bist.reqEnd := none }.putB F.BIST_STAT_REQ_RUN false) :=
    (Shows.refl _ _).putB _ false (by simp) rfl
  have hbase (f : Fld) : State.get { s with bist.req := none, bist.reqEnd := none } f = s.get f := (KeepsBut.refl [] s).words rfl rfl f (by simp)
  unfold requalShown
  generalize State.putB { s with bist.req := none, bist.reqEnd := none } F.BIST_STAT_REQ_RUN false = u at *
  obtain ⟨-, hres, -, hshows⟩ := cmdStat_shown (op := 1) (result := result) (c := c) (by decide) hresult (by omega) u
  generalize cmdStat 1 result c u = v at *
  have hevt : Shows [evtFld E.ARR_REQUAL_DONE] v (v.raise E.ARR_REQUAL_DONE) := (Shows.refl _ v).raise _ (by simp)
  refine ⟨(hevt.keeps _ (by decide)).trans hres, State.raise_bit_same _ _ _ (by decide), ?_, ?_, ?_⟩
  · have hframe := hevt.frame
    generalize v.raise E.ARR_REQUAL_DONE = t at *
    rw [hframe, hshows.frame, hrun.frame]
  · rw [hevt.keeps _ (by decide), hshows.keeps _ (by decide), hrun.keeps _ (by decide), hbase]
  · rw [hevt.keeps _ (by decide), hshows.keeps _ (by decide), hrun.keeps _ (by decide), hbase]

/-- Cell `c` is no longer retired. -/
def retireCleared (c : Nat) (s : State) : State :=
  ((s.put F.ARR_RETIRED_BITS (setBitTo (s.get F.ARR_RETIRED_BITS) c false)).put (F.CELL_RET_CAUSE c) 0).put (F.CELL_RETTICK_TICK c) 0

theorem retireCleared_shows {c : Nat} (hc : c < 17) (s : State) : retired (retireCleared c s) c = false ∧ (retireCleared c s).get (F.CELL_RET_CAUSE c) = 0
    ∧ (retireCleared c s).get F.ARR_CMDSTAT_RESULT = s.get F.ARR_CMDSTAT_RESULT ∧ (retireCleared c s).get F.ARR_STAT_BENCH = s.get F.ARR_STAT_BENCH
    ∧ retireCleared c s = { s with regs := (retireCleared c s).regs } := by
  obtain ⟨hbits, htickbits, htick, -⟩ := retireMarks_clear hc
  have hshows : Shows [F.ARR_RETIRED_BITS, F.CELL_RET_CAUSE c, F.CELL_RETTICK_TICK c] s (retireCleared c s) :=
    (((Shows.refl _ s).put _ _ (by simp) rfl).put _ _ (by simp) rfl).put _ _ (by simp) rfl
  have hothers : ∀ f ∈ [F.ARR_CMDSTAT_RESULT, F.ARR_STAT_BENCH], ∀ g ∈ [F.ARR_RETIRED_BITS, F.CELL_RET_CAUSE c, F.CELL_RETTICK_TICK c], Clear g f := by
    clear hbits htickbits htick hshows
    revert c
    decide
  refine ⟨?_, ?_, hshows.keeps _ (hothers _ (by simp)), hshows.keeps _ (hothers _ (by simp)), hshows.frame⟩
  · rw [retired, retireCleared, get_put_clear _ _ htickbits, get_put_clear _ _ hbits, State.get_put_same _ _ _ (by decide) (by decide)]
    exact (bitOf_mod_two_pow (w := 17) _ hc).trans (bitOf_setBitTo_clear _ _)
  · rw [retireCleared, get_put_clear _ _ htick, State.get_put_same _ _ _ (by simp) (by simp)]
    exact Nat.zero_mod _

theorem requalDone_eq {c k : Nat} {pass : Bool} {s : State} (hreq : s.bist.req = some (c, k)) (hend : s.bist.reqEnd = some pass) :
    requalDone s = if (!pass) = true then showRoles (requalShown (if pass then 2 else 3) c s)
      else queueSystem (showRoles (if (spares (retireCleared c (requalShown (if pass then 2 else 3) c s))
        && (retireCleared c (requalShown (if pass then 2 else 3) c s)).get F.ARR_STAT_BENCH == 31) = true
          then toBench c (retireCleared c (requalShown (if pass then 2 else 3) c s)) else retireCleared c (requalShown (if pass then 2 else 3) c s))) := by
  unfold requalDone requalShown retireCleared
  simp only [hreq, hend]

theorem requalDone_failed {c k : Nat} {s : State} (hreq : s.bist.req = some (c, k)) (hend : s.bist.reqEnd = some false) : requalDone s = showRoles (requalShown 3 c s) :=
  (requalDone_eq hreq hend).trans (if_pos rfl)

theorem requalDone_passed {c k : Nat} {s : State} (hc : c < 17) (hreq : s.bist.req = some (c, k)) (hend : s.bist.reqEnd = some true) (hbench : s.get F.ARR_STAT_BENCH ≠ 31) :
    requalDone s = queueSystem (showRoles (retireCleared c (requalShown 2 c s))) := by
  obtain ⟨-, -, -, -, hbench1⟩ := requalShown_shows (result := 2) (by decide) hc s
  obtain ⟨-, -, -, hbench2, -⟩ := retireCleared_shows hc (requalShown 2 c s)
  rw [requalDone_eq hreq hend, if_neg (by decide), if_pos rfl, if_neg]
  rw [hbench2, hbench1]
  simp [hbench]

theorem requalDone_none {s : State} (h : s.bist.req = none) : requalDone s = s := by
  unfold requalDone
  simp only [h]

/-- The test has failed. -/
theorem exec_requalDone_failed {c k : Nat} {s : State} (hs : Ready s) (hc : c < 17) (hreq : s.bist.req = some (c, k)) (hend : s.bist.reqEnd = some false) :
    ∃ t, exec .requalDone s = .next t ∧ t.bist.req = none ∧ t.bist.reqEnd = none ∧ t.get F.ARR_CMDSTAT_RESULT = 3 ∧ t.get F.ARR_RETIRED_BITS = s.get F.ARR_RETIRED_BITS
      ∧ (t.rd 0x30 0x010).getLsbD E.ARR_REQUAL_DONE.2 = true ∧ t = { s with regs := t.regs, bist := t.bist } := by
  have heff := requalDone_failed hreq hend
  obtain ⟨hresult, hevt, hframe, hbits, -⟩ := requalShown_shows (result := 3) (by decide) hc s
  generalize requalShown 3 c s = u at *
  have hrole := showRoles_role u
  have hall : showRoles u = { s with regs := (showRoles u).regs, bist.req := none, bist.reqEnd := none } := by
    have honly := hrole.only
    generalize showRoles u = t at *
    rw [honly, hframe]
  refine ⟨_, act_ends hs heff ?_ ?_ ?_ ?_ ?_, ?_, ?_, (hrole.keeps _ (by decide)).trans hresult, (hrole.keeps _ (by decide)).trans hbits, hrole.events _ hevt, ?_⟩ <;> rw [hall]

theorem requalFields_clear {c : Nat} (hc : c < 17) : ∀ f ∈ [F.ARR_RETIRED_BITS, F.ARR_CMDSTAT_RESULT, F.CELL_RET_CAUSE c],
    (∀ g ∈ queueFields, Clear g f) ∧ f.off % 0x400 ∉ [0x010, 0x040, 0x058] := by
  revert c
  decide

/-- The test has passed, and a bench cell is there. -/
theorem exec_requalDone_passed {c k : Nat} {s : State} (hs : Ready s) (hc : c < 17) (hreq : s.bist.req = some (c, k)) (hend : s.bist.reqEnd = some true) (hbench : s.get F.ARR_STAT_BENCH ≠ 31) :
    ∃ t, exec .requalDone s = .next t ∧ t.bist.req = none ∧ retired t c = false ∧ t.get F.ARR_CMDSTAT_RESULT = 2 ∧ t.get (F.CELL_RET_CAUSE c) = 0
      ∧ t = { s with regs := t.regs, bist := t.bist, nvm := t.nvm } := by
  have heff := requalDone_passed hc hreq hend hbench
  obtain ⟨hresult, -, hframe, -, -⟩ := requalShown_shows (result := 2) (by decide) hc s
  generalize requalShown 2 c s = u at *
  obtain ⟨hret, hcause, hkept, -, hcleared⟩ := retireCleared_shows hc u
  generalize retireCleared c u = v at *
  have hrole := showRoles_role v
  have honly := hrole.only
  obtain ⟨r, n, hqueue, -, hkeeps⟩ := queueSystem_shows (showRoles v)
  have hsee (f : Fld) (hf : f ∈ [F.ARR_RETIRED_BITS, F.ARR_CMDSTAT_RESULT, F.CELL_RET_CAUSE c]) : State.get { showRoles v with regs := r, nvm := n } f = v.get f :=
    (hkeeps f (requalFields_clear hc f hf).1).trans (hrole.keeps f (requalFields_clear hc f hf).2)
  rw [hqueue] at heff
  have hall : { showRoles v with regs := r, nvm := n } = { s with regs := r, bist.req := none, bist.reqEnd := none, nvm := n } := by
    generalize showRoles v = w at *
    rw [honly, hcleared, hframe]
  generalize ({ showRoles v with regs := r, nvm := n } : State) = t at *
  refine ⟨t, act_ends hs heff ?_ ?_ ?_ ?_ ?_, ?_, ?_, (hsee _ (by simp)).trans (hkept.trans hresult), (hsee _ (by simp)).trans hcause, ?_⟩
  case refine_7 => exact (congrArg (bitOf · c) (hsee F.ARR_RETIRED_BITS (by simp))).trans hret
  all_goals rw [hall]

/-! ### The outputs of a partition (R462, R464) -/

/-- Stored outputs are bytes of SRAM. -/
theorem sramBytes_only (a : Nat) (bs : List Byte) (s : State) : ∃ m e, sramBytes a bs s = { s with mem := m, ecc := e } := by
  unfold sramBytes
  split
  · exact ⟨_, _, rfl⟩
  · exact ⟨_, _, rfl⟩

theorem storeOutputs_only (a : Nat) (l : LayerD) (os : List (Nat × Nat × Int × Bool)) (s : State) : ∃ m e, storeOutputs a l os s = { s with mem := m, ecc := e } := by
  unfold storeOutputs
  induction os generalizing s with
  | nil => exact ⟨_, _, rfl⟩
  | cons o os ih =>
    obtain ⟨_, _, hone⟩ := sramBytes_only (valueAddr a (o.1 * l.nOut + o.2.1)) [BitVec.ofNat 8 (toCode 8 o.2.2.1)] s
    obtain ⟨m, e, hrest⟩ := ih (sramBytes (valueAddr a (o.1 * l.nOut + o.2.1)) [BitVec.ofNat 8 (toCode 8 o.2.2.1)] s)
    exact ⟨m, e, hrest.trans (by rw [hone])⟩

/-- Bytes that hold none of the outputs keep their value. -/
theorem storeOutputs_byteAt (base : Nat) (l : LayerD) {x : Nat} (os : List (Nat × Nat × Int × Bool)) {s : State} (hwf : s.memWf = true)
    (hx : ∀ o ∈ os, valueAddr base (o.1 * l.nOut + o.2.1) ≠ x) : (storeOutputs base l os s).byteAt x = s.byteAt x := by
  unfold storeOutputs
  induction os generalizing s with
  | nil => rfl
  | cons o os ih =>
    have hone : (sramBytes (valueAddr base (o.1 * l.nOut + o.2.1)) [BitVec.ofNat 8 (toCode 8 o.2.2.1)] s).memWf = true
        ∧ (sramBytes (valueAddr base (o.1 * l.nOut + o.2.1)) [BitVec.ofNat 8 (toCode 8 o.2.2.1)] s).byteAt x = s.byteAt x := by
      have hne := hx o (by simp)
      unfold sramBytes
      split
      · exact ⟨setBytes_wf _ _ hwf, byteAt_setBytes_out [BitVec.ofNat 8 (toCode 8 o.2.2.1)] hwf (by simp only [List.length_singleton]; omega)⟩
      · exact ⟨hwf, rfl⟩
    exact (ih hone.1 fun p hp => hx p (List.mem_cons_of_mem _ hp)).trans hone.2

/-- `t` has the memory of `s`, and the same banks serve. -/
def SameMemory (s t : State) : Prop := t.mem = s.mem ∧ ∀ n, bankOff t n = bankOff s n

theorem SameMemory.sramBytes {s t : State} (h : SameMemory s t) (a : Nat) (bs : List Byte) : SameMemory (sramBytes a bs s) (sramBytes a bs t) := by
  obtain ⟨hmem, hbank⟩ := h
  have hin : inPoweredSram t a bs.length = inPoweredSram s a bs.length := by
    unfold inPoweredSram
    simp only [hbank]
  unfold Machine.sramBytes
  rw [hin]
  split
  · exact ⟨congrArg (fun m => cellWrites memDefault m a bs) hmem, hbank⟩
  · exact ⟨hmem, hbank⟩

theorem SameMemory.storeOutputs {s t : State} (h : SameMemory s t) (a : Nat) (l : LayerD) (os : List (Nat × Nat × Int × Bool)) :
    SameMemory (storeOutputs a l os s) (storeOutputs a l os t) := by
  unfold Machine.storeOutputs
  induction os generalizing s t with
  | nil => exact h
  | cons o os ih => exact ih (h.sramBytes _ _)

/-! ### PARTITION_END (R462) -/

/-- From `s` to `t` only words at normal addresses and the array's state change. -/
def RegArr (s t : State) : Prop := ∃ g a, t = { s with regs := g, arr := a }

theorem RegArr.refl (s : State) : RegArr s s := ⟨_, _, rfl⟩

theorem RegArr.arr {s t : State} (h : RegArr s t) (a : Arr) : RegArr s { t with arr := a } := by
  obtain ⟨_, _, rfl⟩ := h
  exact ⟨_, _, rfl⟩

theorem RegArr.put {s t : State} (h : RegArr s t) (f : Fld) (v : Nat) (hr : f.rws = false) : RegArr s (t.put f v) := by
  rw [((Shows.refl [f] t).put f v (by simp) hr).frame]
  obtain ⟨_, _, rfl⟩ := h
  exact ⟨_, _, rfl⟩

theorem RegArr.takeWork {s t : State} (h : RegArr s t) (c : Nat) : RegArr s (takeWork c t) := (h.arr _).put (F.CELL_STAT_BUSY c) 0 rfl

/-- Partitions that are given out leave the run as it is. -/
theorem giveWork_only (n p : Nat) (s : State) : ∃ r a, giveWork n p s = { s with regs := r, arr := a } ∧ a.run = s.arr.run := ⟨_, _, rfl, by simp⟩

theorem dispatch_only (k : Nat) (s : State) : ∃ r a, dispatch k s = { s with regs := r, arr := a } ∧ a.run = s.arr.run := by
  induction k generalizing s with
  | zero => exact ⟨_, _, rfl, rfl⟩
  | succ k ih =>
    unfold dispatch
    split
    next r p t _ _ =>
      split
      next n _ =>
        obtain ⟨_, _, hgive, hrun⟩ := giveWork_only n p { s with arr.queue := t }
        obtain ⟨_, _, hrest, hrun'⟩ := ih (giveWork n p { s with arr.queue := t })
        rw [hrest]
        rw [hgive] at hrun' ⊢
        exact ⟨_, _, rfl, hrun'.trans hrun⟩
      next => exact ⟨_, _, rfl, rfl⟩
    next => exact ⟨_, _, rfl, rfl⟩

/-- A partition that is not the last of its layer stores its outputs and is counted by the run. -/
theorem storePartition_stores {c p : Nat} {l : LayerD} {r : Run} {xs ys : List Int} {nnzs nny : List Nat} {rows : List (List (Nat × Int))} {s : State} (hrun : s.arr.run = some r)
    (hmore : r.ended + 1 < l.npart) : (storePartition c p l xs ys nnzs nny rows s).arr.run.map (·.ended) = some (r.ended + 1)
      ∧ (storePartition c p l xs ys nnzs nny rows s).mem = (storeOutputs (s.get F.ARR_ARENA_ADDR + l.out) l (outputs l xs ys rows (shareOf l p).1 (shareOf l p).2) s).mem
      ∧ ∃ g m e a, storePartition c p l xs ys nnzs nny rows s = { s with regs := g, mem := m, ecc := e, arr := a } := by
  have heff : ∃ u : State, RegArr (storeOutputs (s.get F.ARR_ARENA_ADDR + l.out) l (outputs l xs ys rows (shareOf l p).1 (shareOf l p).2) s) u
      ∧ u.arr.run.map (·.ended) = some (r.ended + 1) ∧ storePartition c p l xs ys nnzs nny rows s = dispatchAll u := by
    unfold storePartition
    generalize shareOf l p = q
    obtain ⟨lo, hi⟩ := q
    dsimp -zeta only
    extract_lets arena os s1 part crc sat sparse s2 run before s3
    have hs1 : s1.arr.run = some r := by
      obtain ⟨_, _, hone⟩ := storeOutputs_only (arena + l.out) l os s
      exact (congrArg (·.arr.run) hone).trans hrun
    have hs2 : s2.arr.run = some r := hs1
    have hframe : RegArr s1 s3 := (((((RegArr.refl s1).put _ _ rfl).put _ _ rfl).arr _).takeWork c).put _ _ rfl
    have hs3 : s3.arr.run = run := by
      unfold s3 takeWork
      simp
    obtain ⟨r', hr', hended⟩ : ∃ r', run = some r' ∧ r'.ended = r.ended + 1 := by
      unfold run
      rw [hs2]
      exact ⟨_, rfl, rfl⟩
    refine ⟨s3, hframe, ?_, ?_⟩
    · rw [hs3, hr', Option.map_some, hended]
    · rw [hs3, hr']
      exact if_neg (by omega)
  obtain ⟨u, ⟨g, a, hu⟩, hended, hstore⟩ := heff
  obtain ⟨m, e, houts⟩ := storeOutputs_only (s.get F.ARR_ARENA_ADDR + l.out) l (outputs l xs ys rows (shareOf l p).1 (shareOf l p).2) s
  obtain ⟨g', a', hdisp, hrun'⟩ := dispatch_only 17 u
  have hall : storePartition c p l xs ys nnzs nny rows s = { s with regs := g', mem := m, ecc := e, arr := a' } := by
    rw [hstore, dispatchAll, hdisp, hu, houts]
  rw [hall, houts]
  exact ⟨by rw [← hended, ← hrun'], rfl, _, _, _, _, rfl⟩

theorem computePartition_stores {c p d : Nat} {r : Run} {s : State} {l : LayerD} {g : Prog} {xs ys : List Int} {zs yz : List Nat} {rows : List (List (Nat × Int))}
    (hl : l = runLayer s r) (hg : g = progOf s c) (hd : d = if l.op ≤ 2 then g.tiles else 0) (hcrc : crcsOk l (s.get F.ARR_ARENA_ADDR) s = (s, true))
    (hread : readTiles (s.get F.ARR_ARENA_ADDR + l.inO) (tilesOf (l.len * l.nIn) - d) d s = (s, .ok xs zs))
    (hread2 : readTiles (s.get F.ARR_ARENA_ADDR + l.in2) (tilesOf (l.len * in2Chans l)) 0 s = (s, .ok ys yz)) (hsrc : l.wsrc ≠ 1)
    (hrows : readWeights s l (imageBase s.arr.slot + l.woff) (imageBase s.arr.slot + imageLen s s.arr.slot - 68) (shareOf l p).1 (shareOf l p).2 = .ok rows) :
    computePartition c p r s = storePartition c p l (g.vals ++ xs) ys (g.nnzs ++ zs) yz rows s := by
  subst hl hg hd
  unfold computePartition
  simp only [hcrc, hread, hread2, if_neg hsrc, hrows]

theorem partitionEnd_computes {c ns p : Nat} (corr : Nat) {r : Run} {s : State} (hrun : s.arr.run = some r) (hst : r.started = true) (hwork : aget s.arr.work c = some p)
    (hslot : arrSlot s = true) (hmay : mayEnd c p ns r s = true) (hcell : s.armedAt (0x31 + c) 1 = false) (harr : s.armedAt 0x30 1 = false) :
    partitionEnd c ns corr false s = computePartition c p r ({ s with arr.now := ns }.bump (F.CELL_CNT_CORR c) corr) := by
  have harmed (q k : Nat) : (({ s with arr.now := ns } : State).bump (F.CELL_CNT_CORR c) corr).armedAt q k = s.armedAt q k := rfl
  unfold partitionEnd
  simp only [hrun, hwork, hcell, harr, hslot, hst, hmay, Bool.or_self, Bool.false_eq_true, if_false, Bool.not_true, or_self]
  exact (if_neg fun h => absurd ((harmed (0x31 + c) 1).symm.trans h) (by simp [hcell])).trans (if_neg fun h => absurd ((harmed 0x30 1).symm.trans h) (by simp [harr]))

theorem partitionEnd_early {c ns p : Nat} (corr : Nat) {r : Run} {s : State} (hrun : s.arr.run = some r) (hwork : aget s.arr.work c = some p) (hmay : mayEnd c p ns r s = false)
    (hcell : s.armedAt (0x31 + c) 1 = false) (harr : s.armedAt 0x30 1 = false) : partitionEnd c ns corr false s = s := by
  unfold partitionEnd
  simp only [hrun, hwork, hcell, harr, hmay, Bool.or_self, Bool.false_eq_true, if_false, Bool.not_false, or_true, if_true]

theorem partitionEnd_noRun {c ns corr : Nat} {b : Bool} {s : State} (h : s.arr.run = none) : partitionEnd c ns corr b s = s := by
  unfold partitionEnd
  simp only [h]

/-- The cell's corrected errors are counted; the memory and the banks stay. -/
theorem corrCounted_memory {c : Nat} (hc : c < 17) (ns corr : Nat) (s : State) : SameMemory s ({ s with arr.now := ns }.bump (F.CELL_CNT_CORR c) corr)
    ∧ ({ s with arr.now := ns }.bump (F.CELL_CNT_CORR c) corr).get F.ARR_ARENA_ADDR = s.get F.ARR_ARENA_ADDR := by
  have hclear : ∀ f ∈ [F.GOV_BANKS_GATED, F.MEM_STAT_ZEROFILL, F.SYS_BSTAT_ROM_OK, F.PWR_STAT_STATE, F.ARR_ARENA_ADDR], Clear (F.CELL_CNT_CORR c) f := by
    revert c
    decide
  have hkept (f : Fld) (hf : Clear (F.CELL_CNT_CORR c) f) : (({ s with arr.now := ns } : State).bump (F.CELL_CNT_CORR c) corr).get f = s.get f :=
    (get_put_clear _ _ hf).trans ((KeepsBut.refl [] s).words rfl rfl f (by simp))
  refine ⟨⟨rfl, fun n => ?_⟩, hkept _ (hclear _ (by simp))⟩
  simp only [bankOff, pstate, State.flag, hkept _ (hclear F.GOV_BANKS_GATED (by simp)), hkept _ (hclear F.MEM_STAT_ZEROFILL (by simp)), hkept _ (hclear F.SYS_BSTAT_ROM_OK (by simp)),
    hkept _ (hclear F.PWR_STAT_STATE (by simp))]

/-- A partition that ends in the state `u`, with `c`'s corrected errors counted, stores its outputs in the memory of `s`. -/
theorem exec_partitionEnd {c ns p corr : Nat} {r : Run} {l : LayerD} {xs ys : List Int} {nnzs nny : List Nat} {rows : List (List (Nat × Int))} {s u : State} (hs : Ready s) (hc : c < 17)
    (hrun : s.arr.run = some r) (hu : u = { s with arr.now := ns }.bump (F.CELL_CNT_CORR c) corr) (hmore : r.ended + 1 < l.npart)
    (heff : partitionEnd c ns corr false s = storePartition c p l xs ys nnzs nny rows u) :
    ∃ t, exec (.partitionEnd ⟨c, ns⟩ corr false) s = .next t ∧ t.arr.run.map (·.ended) = some (r.ended + 1)
      ∧ t.mem = (storeOutputs (s.get F.ARR_ARENA_ADDR + l.out) l (outputs l xs ys rows (shareOf l p).1 (shareOf l p).2) s).mem
      ∧ (∀ a, (∀ o, o ∈ outputs l xs ys rows (shareOf l p).1 (shareOf l p).2 → valueAddr (s.get F.ARR_ARENA_ADDR + l.out) (o.1 * l.nOut + o.2.1) ≠ a) →
        s.memWf = true → t.byteAt a = s.byteAt a)
      ∧ t = { s with regs := t.regs, mem := t.mem, ecc := t.ecc, arr := t.arr } := by
  obtain ⟨hmemory, harena⟩ := corrCounted_memory hc ns corr s
  rw [← hu] at hmemory harena
  have hurun : u.arr.run = some r := by
    rw [hu]
    simpa using hrun
  have huframe : RegArr s u := by
    rw [hu]
    exact ((RegArr.refl s).arr _).put (F.CELL_CNT_CORR c) _ rfl
  obtain ⟨hended, hmem, g, m, e, a, hstore⟩ := storePartition_stores (c := c) (p := p) (xs := xs) (ys := ys) (nnzs := nnzs) (nny := nny) (rows := rows) hurun hmore
  rw [harena, (hmemory.storeOutputs _ _ _).1] at hmem
  generalize storePartition c p l xs ys nnzs nny rows u = t at *
  have hframe : t = { s with regs := t.regs, mem := t.mem, ecc := t.ecc, arr := t.arr } := by
    obtain ⟨_, _, hua⟩ := huframe
    rw [hstore, hua]
  refine ⟨t, act_ends hs heff ?_ ?_ ?_ ?_ ?_, hended, hmem, fun x hx hwf => ?_, hframe⟩
  case refine_6 => exact (congrArg (cellRead memDefault · x) hmem).trans (storeOutputs_byteAt _ l _ hwf hx)
  all_goals rw [hframe]

/-- Settles O48: requests by `exec_arrGo`, partitions by `exec_partitionEnd`, the watchdog by `exec_cellWatchdog`, REQUALIFY and REQUAL_DONE by the lemmas above. -/
theorem arrayCommands : Obligations.ArrayCommands := by
  intro s hs
  refine ⟨fun path hmay hmode hno hpend => ?_, fun path hmay hmode hpend => ?_, fun path hmay hmode => ?_, ?_,
    fun c ns p corr r hrun hwork hmay hcell harr => act_still hs (partitionEnd_early corr hrun hwork hmay hcell harr), fun c ns corr b hno => act_still hs (partitionEnd_noRun hno),
    fun c ns p r g hc hrun hst hwork hslot hnow hg hlimit hret hrec => ?_, fun c ns p r g hrun hwork hg hlimit => act_still hs (cellWatchdog_still ?_),
    fun c ns hno => act_still hs (cellWatchdog_still ?_), fun path c hc hmay hret hreq hrom => exec_requalify hs hc hmay hret hreq hrom,
    fun path c hc hmay hret => exec_requalify_refused hs hc hmay hret, fun c k hc hreq hend => exec_requalDone_failed hs hc hreq hend,
    fun c k hc hreq hend hbench => exec_requalDone_passed hs hc hreq hend hbench, fun hno => act_still hs (requalDone_none hno)⟩
  · have hrun : (noteOwner path 0x30 s).arr.run = none := by
      rw [(noteOwner_page path 0x30 s).1]
      exact hno
    have hflag : (noteOwner path 0x30 s).flag F.ARR_STAT_GO_PEND = false := (congrArg (· == 1) (noteOwner_get ..)).trans hpend
    refine exec_arrGo hs hmay ?_ ⟨_, _, rfl⟩
    rw [arrGo, noteOwner_get, if_pos hmode, requestRun, if_neg (by simp [hrun, hflag])]
  · have hflag : (noteOwner path 0x30 s).flag F.ARR_STAT_GO_PEND = true := (congrArg (· == 1) (noteOwner_get ..)).trans hpend
    refine exec_arrGo hs hmay ?_ ⟨_, _, rfl⟩
    rw [arrGo, noteOwner_get, if_pos hmode, requestRun, if_pos (.inr hflag)]
  · refine exec_arrGo hs hmay ?_ (.refl _)
    rw [arrGo, noteOwner_get, if_neg hmode]
  · intro c ns p corr r u l g d xs zs ys yz rows hc hrun hst hwork hslot hmay hu hcell harr hl hg hd hmore hcrc hread hread2 hsrc hrows
    have hcomputes := partitionEnd_computes corr hrun hst hwork hslot hmay hcell harr
    rw [← hu] at hcomputes
    obtain ⟨-, harena⟩ := corrCounted_memory hc ns corr s
    rw [← hu] at harena
    have hprog : g = progOf u c := by
      rw [hg, hu]
      simp [progOf]
    have hmslot : u.arr.slot = s.arr.slot := by
      rw [hu]
      simp
    rw [← harena] at hcrc hread hread2
    rw [← hmslot] at hrows
    exact exec_partitionEnd hs hc hrun hu hmore (hcomputes.trans (computePartition_stores hl hprog hd hcrc hread hread2 hsrc hrows))
  · have hover : overdue c ns s = true := by
      unfold overdue
      simp only [hrun, hwork, hslot, hst, ← hg, decide_eq_true hnow, decide_eq_true hlimit, Bool.and_self]
    obtain ⟨t, hexec, hretired, hcause, hwdog, htotal⟩ := exec_cellWatchdog hs hc hover hwork hret hrec
    exact ⟨t, hexec, hretired, hcause, hwdog, htotal⟩
  · unfold overdue
    simp only [hrun, hwork, ← hg, decide_eq_false (Nat.not_le.mpr hlimit), Bool.and_false]
  · unfold overdue
    simp only [hno]
    generalize s.arr.run = run
    cases run <;> rfl

end Sys2Proof.Machine
end
